-- ==== Sys2Proof/Word.lean ====
section
/-! DEFINITION. Word.lean: the word types of the KX8-144A and the small types that name its units and requesters, as the
commands carry them. -/

namespace Sys2Proof

/-- One byte of a memory, of a Plot or of a register image. -/
abbrev Byte := BitVec 8

/-- A 32-bit register, counter or Cistern word (00 R8). -/
abbrev Word := BitVec 32

/-- A 64-bit register or counter. -/
abbrev DWord := BitVec 64

/-- One 16-byte command word or extension word (05 R134). -/
abbrev CmdWord := BitVec 128

/-- A core index, 0 to 143 (01 R21). -/
abbrev CoreIx := Fin 144

/-- A Pavilion number, 0 to 15 (01). -/
abbrev PavIx := Fin 16

/-- A Belvedere port number, 0 to 63 (13). -/
abbrev PortIx := Fin 64

/-- A PCIe function: 0 is PF0, v is VFv for v from 1 to 16 (15). -/
abbrev FnIx := Fin 17

/-- The two command streams of a core (04 R103, R104). In UNIFIED the one stream is `access`. -/
inductive Strm where
  | access
  | exec
deriving DecidableEq, Repr, Inhabited

/-- The five engines of a core (04 R99). -/
inductive Eng where
  | mover
  | dice
  | rot
  | parterre
  | trellis
deriving DecidableEq, Repr, Inhabited

/-- One requester of the object dictionary (03 R75): the PF0 mailbox, the VF mailbox of a Pavilion, the I3C target, or one
of the eight MOP sessions. -/
inductive Requester where
  | pf0
  | vf (p : PavIx)
  | i3c
  | mop (k : Fin 8)
deriving DecidableEq, Repr, Inhabited

/-- Number of a requester, used as the key of its latch, staging and selections. -/
def Requester.ix : Requester → Nat
  | .pf0 => 0
  | .vf p => 1 + p.val
  | .i3c => 17
  | .mop k => 18 + k.val

end Sys2Proof
end

