-- ==== Sys2Proof/Syntax.lean ====
section
/-! DEFINITION. Syntax.lean: the commands of the block, one constructor per row of spec/opcode_table.json, and the small types
their operands use. An operand that is a reading of a sensor, a wire or another party (a measured power, a received flit, a
signature check) is what the block observes; the model draws no number for it. Where the FEC of a link speaks: `none` says that a codeword ending in what is received was
uncorrectable, `some k` that k of its symbols were corrected. -/

namespace Sys2Proof

/-- What befalls the array of a bank (09 R239, R251): a stored bit of a sub-array changes (rows 512 and 513 are the sentinel rows of zeros and of
ones), or a column, or one cell of it, reads a value of its own from then on: 0, 1, or for 2 the inverse of what is stored. Columns 0 to 528
are the line's, 529 + i is spare S_i. -/
inductive Upset where
  | flip (sub row column : Nat)
  | stuck (sub : Nat) (row : Option Nat) (column val : Nat)
deriving DecidableEq, Repr, Inhabited

/-- What befalls the memory and the Orangery: a burst (by its address ÷ 64) takes an error that the controller finds and can or cannot correct
(10 R292); bits of a byte change that its code does not see, or bits of a block's stored Pip code (18 R497); the code of an Orangery line (by its
address ÷ 128) of the near or the far level no longer fits it (10 R293). -/
inductive MemUpset where
  | burst (burst : Nat) (correctable : Bool)
  | byte (addr : Nat) (mask : Byte)
  | code (block : Nat) (mask : Word)
  | line (far : Bool) (addr : Nat)
deriving DecidableEq, Repr, Inhabited

/-- Another chip of an election set (02 R36): chip ID and SRC_PRIORITY. -/
structure Candidate where
  chip : Nat
  prio : Nat
deriving DecidableEq, Repr, Inhabited

/-- A Sync exchange that PTP has taken in (02 R43, Table 2-1): whether it came over UDP and IPv4 at ports 319 and 320, whether its delay mechanism
is peer-to-peer, its domain, the master's Sync messages per second, and what the timestamps at the RGMII give: the offset of the local count,
and the TAI time in ns of the present. -/
structure PtpSync where
  udp4 : Bool
  peerDelay : Bool
  domain : Nat
  rate : Nat
  offset : Int
  tai : Nat
deriving DecidableEq, Repr, Inhabited

/-- A PCIe capability or feature (15 R414, Table 15-1): the supported ones, then examples of those that are not. -/
inductive CfgCap where
  | sriov
  | ari
  | msix
  | flr
  | aer
  | doe
  | ats
  | pri
  | pasid
  | ide
  | tph
  | atomicOps
  | msi
  | intx
  | aspm
  | peerToPeer
deriving DecidableEq, Repr, Inhabited

/-- What a configuration read names (15 R414, R415): the vendor and device IDs, the VFs' device ID, the class code, BAR registers of the
function or of its VFs, and the items of Table 15-1. -/
inductive CfgItem where
  | ids
  | vfDeviceId
  | classCode
  | bar (k : Fin 6)
  | vfBar (k : Fin 6)
  | linkSpeeds
  | linkWidths
  | maxPayload
  | maxReadRequest
  | tags
  | totalVfs
  | firstVfOffset
  | vfStride
  | msixVectors
  | timeoutRanges
  | has (c : CfgCap)
deriving DecidableEq, Repr, Inhabited

/-- A configuration request of the PCIe host (19 R528): a read; a write of Bus Master Enable, of the MSI-X Function Mask, of a BAR register, of the
payload or read request size in bytes; or a write that sets VF Enable. -/
inductive CfgReq where
  | read (item : CfgItem)
  | bar (k : Fin 6) (v : Word)
  | vfBar (k : Fin 6) (v : Word)
  | maxPayload (bytes : Nat)
  | maxReadRequest (bytes : Nat)
  | busMaster (on : Bool)
  | functionMask (on : Bool)
  | vfEnable
deriving DecidableEq, Repr, Inhabited

/-- An energy estimate a_i of one queue of a Pavilion (17 R473). -/
structure EnergyPart where
  pav : PavIx
  queue : Fin 7
  amount : Nat
deriving DecidableEq, Repr, Inhabited

/-- Cycles of one core in a slot in which ballast ran, and cycles that pacing added (17 R463, R469). -/
structure CorePower where
  core : CoreIx
  ballast : Nat
  paced : Nat
deriving DecidableEq, Repr, Inhabited

/-- What LINKS or MEMORY asks for in a slot, in 1/256 W (17 R463): level 0 with all that is never paced, level 1, level 2. -/
structure LevelPower where
  l0 : Nat := 0
  l1 : Nat := 0
  l2 : Nat := 0
deriving DecidableEq, Repr, Inhabited

/-- The power of a slot by group, in 1/256 W (17 R459, R462): the measured draw of BASE, LINKS and MEMORY by level, and COMPUTE by Pavilion. -/
structure PowerDemand where
  base : Nat := 0
  links : LevelPower := {}
  mem : LevelPower := {}
  comp : List Nat := []
deriving DecidableEq, Repr, Inhabited

/-- What the cryptography of the check of a firmware slot finds (20 R553; log 94): the body's SHA-384 is DIGEST, and SIGNATURE verifies over the
header under the key whose hash is fused in KEY_SLOT. -/
structure SlotCheck where
  digest : Bool
  signature : Bool
deriving DecidableEq, Repr, Inhabited

/-- A token of SERVICE_AUTH (20 R556; log 94): whether an Obnimond service key has signed it, the serial it names, and the last valid value of
POWER_ON_HOURS. -/
structure Token where
  signed : Bool
  serial : DWord
  lastHours : Word
deriving DecidableEq, Repr, Inhabited

/-- The commands of the KX8-144A. -/
inductive Instr where
  /-- END (R102). Ends a stream once its earlier commands complete, optionally chains a new start or raises LIST_DONE. -/
  | endCmd (c : CoreIx) (t : Strm)
  /-- BRANCH (R142). Compares registers or tests a stream flag and transfers control to the target when taken. -/
  | branch (c : CoreIx) (t : Strm)
  /-- LOOP (R141). Decrements sN and branches to OPA while the result is not zero. -/
  | loop (c : CoreIx) (t : Strm)
  /-- WAITCNT (R118). Waits until an arrival counter reaches a value, with an optional frame limit. -/
  | waitcnt (c : CoreIx) (t : Strm)
  /-- SETCNT (R117). Sets an arrival counter to a value or subtracts a value from it. -/
  | setcnt (c : CoreIx) (t : Strm)
  /-- WAITTIME (R145). Resolves a Sundial target time and waits until it is reached. -/
  | waittime (c : CoreIx) (t : Strm)
  /-- STEP (R119). Closes the open step after a full drain and opens a new step number. -/
  | step (c : CoreIx) (t : Strm)
  /-- FENCE (R146). Waits until every earlier command of its stream has completed. -/
  | fence (c : CoreIx) (t : Strm)
  /-- MAPINV (R147). Invalidates map-buffer entries of this core or of every core of the Pavilion. -/
  | mapinv (c : CoreIx) (t : Strm)
  /-- BRK (R573). Halts now, or arms or disarms a breakpoint of a given kind. -/
  | brk (c : CoreIx) (t : Strm)
  /-- REGION (R110). Sets or removes a region window with its sync mode and initial tags. -/
  | region (c : CoreIx) (t : Strm)
  /-- QCONF (R106). Configures and empties a data queue ring. -/
  | qconf (c : CoreIx) (t : Strm)
  /-- QPUSH (R107). Appends an entry to a data queue after the writes to its range complete. -/
  | qpush (c : CoreIx) (t : Strm)
  /-- QPOP (R107). Removes the head entry of a data queue into two scalar registers. -/
  | qpop (c : CoreIx) (t : Strm)
  /-- FORK (R105). Switches the core from UNIFIED to SPLIT and starts the execute stream. -/
  | fork (c : CoreIx) (t : Strm)
  /-- JOIN (R105). Waits for the other stream's JOIN and returns the core to UNIFIED. -/
  | join (c : CoreIx) (t : Strm)
  /-- SETR (R141). Loads an immediate value into a scalar register. -/
  | setr (c : CoreIx) (t : Strm)
  /-- SALU (R141). Performs a scalar ALU operation and writes the destination register. -/
  | salu (c : CoreIx) (t : Strm)
  /-- NOP (R141). Issues and completes with no effect. -/
  | nop (c : CoreIx) (t : Strm)
  /-- MOVE (R148). Queues a mover transfer between memory and Plot or within either. -/
  | move (c : CoreIx) (t : Strm)
  /-- GATHER (R150). Queues a gather of indexed table rows into the Plot through the Orangery. -/
  | gather (c : CoreIx) (t : Strm)
  /-- SCATTER (R150). Queues a scatter of Plot rows to indexed table rows. -/
  | scatter (c : CoreIx) (t : Strm)
  /-- SIGNAL (R115). Queues an increment of a destination core's arrival counter without data. -/
  | signal (c : CoreIx) (t : Strm)
  /-- OPREFETCH (R289). Fills every line of a tensor into the named Orangery levels. -/
  | oprefetch (c : CoreIx) (t : Strm)
  /-- OFLUSH (R289). Writes back the dirty masked bytes of a tensor's far-level lines. -/
  | oflush (c : CoreIx) (t : Strm)
  /-- OINV (R289). Writes back and drops a tensor's lines from the named Orangery levels. -/
  | oinv (c : CoreIx) (t : Strm)
  /-- SNAP (R580). Copies a named tensor and writes a Snapshot record when its step condition holds. -/
  | snap (c : CoreIx) (t : Strm)
  /-- ROUTE (R307). Queues a routing of token choices to experts at the Dice port. -/
  | route (c : CoreIx) (t : Strm)
  /-- COLLECT (R391). Queues this core's part of a collective instance at the Rotunda port. -/
  | collect (c : CoreIx) (t : Strm)
  /-- LOADW (R174). Loads a stationary tile into a bed's standby tile. -/
  | loadw (c : CoreIx) (t : Strm)
  /-- MATMUL (R175). Streams rows through a bed's tile and updates Cistern entries. -/
  | matmul (c : CoreIx) (t : Strm)
  /-- CONV (R182). Computes a direct convolution tap by tap into the Cistern. -/
  | conv (c : CoreIx) (t : Strm)
  /-- VECOP (R224). Runs an elementwise Trellis operation over COUNT elements. -/
  | vecop (c : CoreIx) (t : Strm)
  /-- REDUCE (R229). Runs a Trellis reduction or row primitive over OUTER rows. -/
  | reduce (c : CoreIx) (t : Strm)
  /-- ISSUE_RESUME (R109). A stalled stream issues once its scoreboard conflict or full queue clears. -/
  | issueResume (c : CoreIx) (t : Strm)
  /-- MOVER_START (R99). The mover starts the next command of its queue. -/
  | moverStart (c : CoreIx)
  /-- PARTERRE_START (R170). The Parterre starts a queued command once its bed paths are free, with engine-start checks. -/
  | parterreStart (c : CoreIx) (stalls : Nat)
  /-- TRELLIS_START (R231). The Trellis starts the next command of its queue. -/
  | trellisStart (c : CoreIx) (stalls : Nat)
  /-- DICE_PORT_START (R307). A ROUTE starts at the Dice port and joins an open round or waits for one. -/
  | dicePortStart (c : CoreIx)
  /-- COLLECT_PORT_START (R391). A COLLECT starts at the Rotunda port and joins its instance. -/
  | collectPortStart (c : CoreIx)
  /-- LONG_COMMAND_COMPLETE (R140). A long command completes once its engine has finished and its writes are visible. -/
  | longCommandComplete (c : CoreIx) (e : Eng)
  /-- CORE_DRAIN_COMPLETE (R120). After a fault or error the in-flight commands have completed and the core becomes FAULTED. -/
  | coreDrainComplete (c : CoreIx)
  /-- TAG_ACCESS_RESUME (R112). A waiting tagged access resumes after its slot tag changes. -/
  | tagAccessResume (c : CoreIx) (e : Eng)
  /-- TAG_TIMEOUT (R114). A tagged wait exceeds TAG_LIMIT and faults the issuing core. -/
  | tagTimeout (c : CoreIx) (e : Eng)
  /-- WAITCNT_SATISFIED (R118). An increment satisfies a pending WAITCNT and issue resumes. -/
  | waitcntSatisfied (c : CoreIx) (t : Strm)
  /-- WAITCNT_TIMEOUT (R118). The L-th frame boundary passes and WAITCNT completes with TIMEOUT. -/
  | waitcntTimeout (c : CoreIx) (t : Strm)
  /-- QPOP_RESUME (R107). A blocked QPOP finds an entry and completes. -/
  | qpopResume (c : CoreIx) (t : Strm)
  /-- QPUSH_RESUME (R107). A waiting QPUSH finds its range written and a free entry and appends. -/
  | qpushResume (c : CoreIx) (t : Strm)
  /-- JOIN_MEET (R105). Both streams have reached JOIN and the core continues in UNIFIED. -/
  | joinMeet (c : CoreIx)
  /-- STEP_DRAIN_COMPLETE (R119). The drain of a STEP ends, the step closes and the new step opens. -/
  | stepDrainComplete (c : CoreIx)
  /-- FENCE_COMPLETE (R146). Every earlier command of the stream has completed and the FENCE completes. -/
  | fenceComplete (c : CoreIx) (t : Strm)
  /-- REGION_EFFECT (R110). No in-flight command touches the window any more and REGION takes effect. -/
  | regionEffect (c : CoreIx) (t : Strm)
  /-- QCONF_EFFECT (R106). No QPOP is blocked on the queue any more and QCONF takes effect. -/
  | qconfEffect (c : CoreIx) (t : Strm)
  /-- END_COMPLETE (R102). The earlier commands have completed and the core goes IDLE or chains. -/
  | endComplete (c : CoreIx) (t : Strm)
  /-- MAPINV_COMPLETE (R147). Every named map buffer has dropped the named entries. -/
  | mapinvComplete (c : CoreIx) (t : Strm)
  /-- START_REQUEST (R101). A start request reaches a core and starts its list or is refused. -/
  | startRequest (c : CoreIx) (split : Bool) (a b : Nat)
  /-- REMOTE_WRITE_ARRIVAL (R245). A Hedgerow write or SIGNAL packet is taken by the remote-write port, written and counted. -/
  | remoteWriteArrival (dst : CoreIx) (src : Fin 145)
  /-- PENDING_WRITE_RELEASE (R114). A held remote write leaves the pending buffer when its tag allows. -/
  | pendingWriteRelease (c : CoreIx)
  /-- PLOT_SENTINEL_SWEEP (R257). A bank's sentinel rows are read on the scheduled cycle. -/
  | plotSentinelSweep (c : CoreIx) (bank : Fin 48) (lost : Nat) (upsets : List Upset)
  /-- PLOT_CLASSIFY (R258). After the drain the bank is swept and the fault classified. -/
  | plotClassify (c : CoreIx) (bank : Fin 48)
  /-- PLOT_REPAIR_COMPLETE (R259). Classification and repair finish, the core becomes FAULTED and STEP_FAILED is raised. -/
  | plotRepairComplete (c : CoreIx)
  /-- PLOT_SCRUB_DONE (R262). A Plot scrub of a core completes. -/
  | plotScrubDone (c : CoreIx)
  /-- PAGE_WALK_COMPLETE (R276). A page walk ends and fills a map-buffer entry or raises a memory fault. -/
  | pageWalkComplete (c : CoreIx)
  /-- MEMORY_READ_RESPONSE (R273). Data of a memory read returns to the requester. -/
  | memoryReadResponse (rid : Nat) (upsets : List MemUpset)
  /-- HOST_COMPLETION (R271). A PCIe completion for a host-window request arrives. -/
  | hostCompletion (rid : Nat) (ok : Bool) (data : List Byte) (ep : Bool)
  /-- HOST_COMPLETION_TIMEOUT (R271). A host-window request times out and becomes a HOST memory fault. -/
  | hostCompletionTimeout (rid : Nat)
  /-- ARBITER_GRANT (R437). An arbiter grants a waiting request by level and Pavilion order. -/
  | arbiterGrant (r : Fin 6)
  /-- PIP_SWEEP_CHECK (R503). A memory controller checks the next written block's Pip code in an idle cycle. -/
  | pipSweepCheck (k : Fin 8) (upsets : List MemUpset)
  /-- DICE_LOAD (R304). Starts copying the expert table into the standby bank. -/
  | diceLoad (who : Requester) (p : PavIx) (v : Nat)
  /-- DICE_LOAD_COPY_DONE (R304). The standby-bank copy completes and is checked. -/
  | diceLoadCopyDone (p : PavIx)
  /-- DICE_ROUND_CLOSE (R308). DICE_WAIT expires for an open round and phase 0 begins. -/
  | diceRoundClose (p : PavIx)
  /-- DICE_REQ_RECEIVED (R314). A home chip takes a DICE_REQ message with requests and markers. -/
  | diceReqReceived (p : PavIx)
  /-- DICE_PHASE_CLOSE (R314). A home chip closes a phase and admits requests up to each expert's capacity. -/
  | dicePhaseClose (p : PavIx)
  /-- DICE_OUTCOME_RECEIVED (R313). A source chip takes phase outcomes and advances its choices. -/
  | diceOutcomeReceived (p : PavIx)
  /-- DICE_ROW_RECEIVED (R318). A home chip takes an admitted token row. -/
  | diceRowReceived (p : PavIx)
  /-- DICE_INBOX_DELIVER (R318). Admitted rows, tags and header are written into an expert's inbox. -/
  | diceInboxDeliver (p : PavIx) (expert : Nat)
  /-- DICE_RELEASE (R319). The expert's release is seen and its result rows are returned by tag. -/
  | diceRelease (p : PavIx) (expert : Nat)
  /-- DICE_RESULT_RECEIVED (R317). A source chip writes a returned result row and record. -/
  | diceResultReceived (p : PavIx)
  /-- DICE_HOLD_EXPIRY (R319). Rows not released within DICE_HOLD return REFUSED with EXPIRED. -/
  | diceHoldExpiry (p : PavIx) (expert : Nat)
  /-- DICE_SOURCE_EXPIRY (R365). A choice with no result DICE_HOLD + 1 frames after its round is written REFUSED. -/
  | diceSourceExpiry (p : PavIx)
  /-- BS_ADMIT (R331). Admits a stream into the Pavilion's slice of the stream table. -/
  | bsAdmit (who : Requester) (p : PavIx) (v : Nat)
  /-- BS_RETIRE (R332). Marks a stream for retirement at the next slot start. -/
  | bsRetire (who : Requester) (p : PavIx) (v : Nat)
  /-- BS_SLOT_START (R334). At a slot start the Bandstand applies retirements and reads the ready ring. -/
  | bsSlotStart
  /-- BATCH_DEADLINE (R336). The batch-deadline event of a slot closes a batch with the takeable rows. -/
  | batchDeadline (p : PavIx)
  /-- BS_BATCH_DELIVER (R339). A closed batch is written to a free batch record and signalled. -/
  | bsBatchDeliver (p : PavIx)
  /-- TIME_WORD_DUE (R354). A port's 16 µs time word falls due and a TIME flit is inserted. -/
  | timeWordDue (q : PortIx)
  /-- TIME_FLIT_RECEIVED (R39). A TIME flit is taken, measuring delay and updating upstream and epoch. -/
  | timeFlitReceived (q : PortIx) (flit : BitVec 2048) (fec : Option Nat)
  /-- PORT_TIME_LIVE_EXPIRY (R40). 64 µs without a valid time word removes a port from the live set. -/
  | portTimeLiveExpiry (q : PortIx)
  /-- SOURCE_LOSS (R38). 250 µs of HOPS 0xFF on every live port makes the chip count the source as lost. -/
  | sourceLoss
  /-- SOURCE_ELECTION (R36). A time source is elected within a set of connected chips. -/
  | sourceElection (others : List Candidate)
  /-- SUNDIAL_FRAME_BOUNDARY (R48). A local frame boundary evaluates lock criteria and any forward step. -/
  | sundialFrameBoundary
  /-- HOLDOVER_EXPIRY (R48). 2 s in HOLDOVER take the chip to FREE. -/
  | holdoverExpiry
  /-- PTP_SYNC_RECEIVED (R44). A PTP message is taken and the offset to the PTP reference updated. -/
  | ptpSyncReceived (m : PtpSync)
  /-- PTP_SYNC_TIMEOUT (R48). 3 s without Sync takes a PTP-locked chip to HOLDOVER. -/
  | ptpSyncTimeout
  /-- SUNDIAL_REFORM (R37). Drops the chip's epoch so that it adopts or elects anew. -/
  | sundialReform (who : Requester) (v : Nat)
  /-- OWN_EPOCH_FORM (R530). 100 ms after milestone 8 with no UP port the chip forms its own epoch. -/
  | ownEpochForm
  /-- PPS_OUT_RISE (R46). SUNDIAL_PPS_OUT rises as the local count passes a whole second. -/
  | ppsOutRise
  /-- PPS_OUT_FALL (R46). SUNDIAL_PPS_OUT falls after its 100 µs high time. -/
  | ppsOutFall
  /-- PPS_IN_EDGE (R47). A rising edge on SUNDIAL_PPS_IN is timestamped or disciplines the rate. -/
  | ppsInEdge
  /-- SUNDIAL_STATUS_READ (R57). A read of SUNDIAL_STATUS clears its step bit. -/
  | sundialStatusRead (who : Requester)
  /-- FLIT_SLOT (R366). A port picks the next flit to send by priority and credit. -/
  | flitSlot (q : PortIx)
  /-- DATA_FLIT_RECEIVED (R357). A DATA flit is taken, buffered, acknowledged and its credits processed. -/
  | dataFlitReceived (q : PortIx) (flit : BitVec 2048) (fec : Option Nat)
  /-- NAK_RECEIVED (R357). A NAK makes the sender replay from ACK + 1. -/
  | nakReceived (q : PortIx) (flit : BitVec 2048) (fec : Option Nat)
  /-- IDLE_FLIT_RECEIVED (R353). An IDLE flit delivers its ACK and credit returns. -/
  | idleFlitReceived (q : PortIx) (flit : BitVec 2048) (fec : Option Nat)
  /-- HOLD_FLIT_RECEIVED (R370). A HOLD flit stores READY_EST and marks the peer not ready. -/
  | holdFlitReceived (q : PortIx) (flit : BitVec 2048) (fec : Option Nat)
  /-- INIT_FLIT_RECEIVED (R368). An INIT flit sets credits and moves the port towards UP. -/
  | initFlitReceived (q : PortIx) (flit : BitVec 2048) (fec : Option Nat)
  /-- PORT_TRAINING_DONE (R368). Port training or retraining succeeds and the port moves to HOLD or INIT. -/
  | portTrainingDone (q : PortIx)
  /-- PORT_TRAINING_TIMEOUT (R368). 60 ms of failed training end the attempt with a LINK_TRAIN_FAIL record. -/
  | portTrainingTimeout (q : PortIx)
  /-- PORT_TRAINING_RETRY (R368). 1 s after a failed attempt the port trains again. -/
  | portTrainingRetry (q : PortIx)
  /-- RETRAIN_HOLD_EXPIRY (R371). LINK_RETRAIN_HOLD runs out, the port goes DOWN and its messages are discarded. -/
  | retrainHoldExpiry (q : PortIx)
  /-- LINK_GROUP_TRAIN_START (R369). The next link group starts training after the previous group or 65 ms. -/
  | linkGroupTrainStart
  /-- PORT_RESET (R371). Empties a port's retry buffer and retrains it. -/
  | portReset (who : Requester) (q : PortIx) (v : Nat)
  /-- PORT_ENABLE_WRITE (R368). Enables or disables a port, with the discards of DOWN on disable. -/
  | portEnableWrite (who : Requester) (q : PortIx) (v : Nat)
  /-- MESSAGE_HEAD_ARRIVAL (R362). A message head is routed to a bundle port or delivered locally. -/
  | messageHeadArrival (q : PortIx) (vc : Fin 8)
  /-- NOTICE_RECEIVED (R365). A NOTICE for a discarded message updates the affected choice or collective. -/
  | noticeReceived
  /-- LINK_INJECT_TIMEOUT (R366). A message waiting at injection for LINK_INJECT_LIMIT frames is refused. -/
  | linkInjectTimeout
  /-- ROUTE_COMMIT (R363). Copies ROUTE_STAGE to ROUTE_ACTIVE and applies the bundles. -/
  | routeCommit (who : Requester) (v : Nat)
  /-- ETH_FRAME_TIMER (R375). 64 ns after its first flit an Ethernet frame is sent. -/
  | ethFrameTimer (k : Fin 8)
  /-- ETH_IDLE_TIMER (R375). An IDLE flit is sent after 1 µs with nothing else sent. -/
  | ethIdleTimer (k : Fin 8)
  /-- ETH_FRAME_RECEIVED (R376). A received Ethernet frame is checked and its flits taken or dropped. -/
  | ethFrameReceived (k : Fin 8) (bytes : List Byte) (fcsOk : Bool) (fec : Option Nat)
  /-- COLLECTIVE_LAUNCH (R391). The collective-launch event starts an instance or fails it at launch. -/
  | collectiveLaunch (p : PavIx) (plan : Nat)
  /-- ROTUNDA_DATA_RECEIVED (R393). A ROTUNDA_DATA message is checked and combined into the tree. -/
  | rotundaDataReceived (p : PavIx)
  /-- ROTUNDA_CTRL_RECEIVED (R396). An ABORT fails and forwards the instance unless concluded. -/
  | rotundaCtrlReceived (p : PavIx)
  /-- COLLECTIVE_DEADLINE (R395). An instance not complete at its deadline fails with DEADLINE. -/
  | collectiveDeadline (p : PavIx) (plan : Nat)
  /-- COLLECTIVE_RESULT_WRITTEN (R399). DST is written and each mask core gets its completion record. -/
  | collectiveResultWritten (p : PavIx) (plan : Nat)
  /-- ROT_PLAN_LOAD (R386). Starts copying a plan record into staging. -/
  | rotPlanLoad (who : Requester) (p : PavIx) (v : Nat)
  /-- ROT_PLAN_LOAD_DONE (R386). The plan copy completes and is checked. -/
  | rotPlanLoadDone (p : PavIx)
  /-- ROT_PLAN_COMMIT (R386). A staged plan commits once no instance of it is in progress. -/
  | rotPlanCommit (p : PavIx)
  /-- STALEMATE_ARM_RECEIVED (R579). A Stalemate ARM message is applied and forwarded. -/
  | stalemateArmReceived
  /-- STALEMATE_CANCEL_RECEIVED (R579). A Stalemate CANCEL message is applied and forwarded. -/
  | stalemateCancelReceived
  /-- DOORBELL (R418). A DOORBELL write becomes a start request or is refused. -/
  | doorbell (p : PavIx) (v : DWord) (width : Nat)
  /-- DB_REFUSAL_READ (R419). Reads and clears DB_REFUSAL. -/
  | dbRefusalRead (p : PavIx)
  /-- INT_PENDING_CLEAR (R420). Write-1-to-clear of interrupt cause bits. -/
  | intPendingClear (f : FnIx) (v : Word)
  /-- INT_MASK_WRITE (R420). Changes the cause mask and sends a message for a newly unmasked pending cause. -/
  | intMaskWrite (f : FnIx) (v : Word)
  /-- LIST_DONE_MAP_CLEAR (R420). Write-1-to-clear of LIST_DONE_MAP or PAV_RESET_MAP bits. -/
  | listDoneMapClear (f : FnIx) (word : Fin 5) (v : Word)
  /-- MSIX_ENABLE (R425). Enabling MSI-X sends the message of a pending RESET_DONE. -/
  | msixEnable (f : FnIx) (on : Bool)
  /-- BAR0_UNMAPPED_ACCESS (R637). An access to a read-only or unmapped BAR0 location is ignored or reads 0. -/
  | bar0UnmappedAccess (f : FnIx) (write : Bool) (off len : Nat) (v : DWord)
  /-- BAR2_ACCESS (R416). A host access to memory through BAR2. -/
  | bar2Access (f : FnIx) (write : Bool) (off len : Nat) (data : List Byte) (ep : Bool)
  /-- BAR4_ACCESS (R416). A host access to a core's Plot through BAR4. -/
  | bar4Access (f : FnIx) (write : Bool) (off len : Nat) (data : List Byte) (ep : Bool)
  /-- PCIE_CONFIG_REQUEST (R528). A configuration request is answered or gets Retry Status during bring-up. -/
  | pcieConfigRequest (f : FnIx) (req : CfgReq)
  /-- FLR (R421). A function-level reset of PF0 or a VF. -/
  | flr (f : FnIx)
  /-- VF_ENABLE_CLEAR (R430). Clearing VF Enable resets the Pavilions whose VFs go away. -/
  | vfEnableClear
  /-- PERST_N_ASSERT (R535). PERST_N resets every Pavilion and the PCIe core. -/
  | perstNAssert
  /-- PERST_N_RISE (R535). PERST_N rises and the PCIe core restarts link and configuration. -/
  | perstNRise
  /-- MBX_READ (R84). A mailbox GO with OP READ reads an object. -/
  | mbxRead (f : FnIx) (req arg : Word)
  /-- MBX_WRITE (R84). A mailbox GO with OP WRITE writes an object. -/
  | mbxWrite (f : FnIx) (req arg data : Word)
  /-- LOW_HALF_READ (R87). Latches a 64-bit value and returns its low half. -/
  | lowHalfRead (who : Requester) (index sub : Nat)
  /-- HIGH_HALF_READ (R87). Returns the latched or live high half, flagging UNPAIRED when unlatched. -/
  | highHalfRead (who : Requester) (index sub : Nat)
  /-- HIGH_HALF_WRITE (R88). Stages the high half of a 64-bit write. -/
  | highHalfWrite (who : Requester) (index sub : Nat) (v : Word)
  /-- LOW_HALF_WRITE (R88). Commits the staged pair, or writes with the present high half and UNPAIRED. -/
  | lowHalfWrite (who : Requester) (index sub : Nat) (v : Word)
  /-- I3C_READ (R86). An I3C private write with OP READ starts an object read. -/
  | i3cRead (addr : BitVec 7) (bytes : List Byte)
  /-- I3C_WRITE (R86). An I3C private write with OP WRITE starts an object write. -/
  | i3cWrite (addr : BitVec 7) (bytes : List Byte)
  /-- I3C_PRIVATE_READ (R86). An I3C private read returns the reply of the last request. -/
  | i3cPrivateRead (addr : BitVec 7)
  /-- ENTDAA (R85). Dynamic address assignment by ENTDAA. -/
  | entdaa (addr : BitVec 7)
  /-- SETDASA (R85). Assigns a dynamic address from the static address. -/
  | setdasa (static addr : BitVec 7)
  /-- RSTDAA (R86). Resets the dynamic address and clears the I3C latch and staging. -/
  | rstdaa
  /-- RSTACT (R86). Reset action CCC that clears the I3C latch and staging. -/
  | rstact
  /-- ENEC (R85). Enables target events. -/
  | enec
  /-- DISEC (R85). Disables target events. -/
  | disec
  /-- GETPID (R85). Returns the provisioned ID. -/
  | getpid
  /-- GETBCR (R85). Returns the bus characteristics register. -/
  | getbcr
  /-- GETDCR (R85). Returns the device characteristics register. -/
  | getdcr
  /-- GETSTATUS (R85). Returns the target status. -/
  | getstatus
  /-- DTLS_HANDSHAKE (R78). A DTLS handshake opens a MOP session with a role from its anchor. -/
  | dtlsHandshake (role : Option (Fin 2))
  /-- MOP_SESSION_TIMEOUT (R78). 60 s without a client record closes a MOP session. -/
  | mopSessionTimeout (k : Fin 8)
  /-- MOP_READ (R80). A MOP READ of one object. -/
  | mopRead (k : Fin 8) (record : List Byte)
  /-- MOP_WRITE (R80). A MOP WRITE of one object. -/
  | mopWrite (k : Fin 8) (record : List Byte)
  /-- MOP_READ_BLOCK (R80). Reads a range of subindices sampled in one cycle. -/
  | mopReadBlock (k : Fin 8) (record : List Byte)
  /-- MOP_WRITE_BLOCK (R80). Writes a range of subindices in one cycle or none. -/
  | mopWriteBlock (k : Fin 8) (record : List Byte)
  /-- MOP_SUBSCRIBE (R82). Creates a periodic subscription and returns its ID. -/
  | mopSubscribe (k : Fin 8) (record : List Byte)
  /-- MOP_SUBSCRIBE_CANCEL (R82). A SUBSCRIBE with period 0 cancels a live subscription. -/
  | mopSubscribeCancel (k : Fin 8) (record : List Byte)
  /-- TALLY_SUBSCRIPTION_PUSH (R83). The push event samples a subscribed value and sends a push. -/
  | tallySubscriptionPush (full : List (Fin 8))
  /-- OBJECT_WRITE (R71). A write to an object with no row of its own takes effect. -/
  | objectWrite (who : Requester) (index sub off len v : Nat)
  /-- SAT_CLEAR (R209). Clears a core's Cistern saturation flags. -/
  | satClear (who : Requester) (c : CoreIx) (v : Nat)
  /-- PT_ROOT_WRITE (R282). Sets the page-table root and drops the Pavilion's map-buffer entries. -/
  | ptRootWrite (who : Requester) (p : PavIx) (v : Nat)
  /-- MAP_BUFFER_AGING (R279). At frame f + 2 entries walked in frame f are dropped. -/
  | mapBufferAging
  /-- PAV_CREATE (R409). Makes a FREE Pavilion ACTIVE and scrubs its cores. -/
  | pavCreate (who : Requester) (p : PavIx) (v : Nat)
  /-- PAV_DESTROY (R413). Runs a Pavilion reset in DESTROYING state. -/
  | pavDestroy (who : Requester) (p : PavIx) (v : Nat)
  /-- PAV_DESTROY_COMPLETE (R413). After the reset and any zeroing, resources are released and the Pavilion is FREE. -/
  | pavDestroyComplete (p : PavIx)
  /-- PAV_RESET (R422). Starts a Pavilion reset at step 1, stopping issue. -/
  | pavReset (who : Requester) (p : PavIx) (v : Nat)
  /-- PAV_RESET_DRAIN_COMPLETE (R422). The engine drain of step 2 ends and the reset proceeds through its later steps. -/
  | pavResetDrainComplete (p : PavIx)
  /-- PAV_RESET_COMPLETE (R422). Step 8 raises RESET_DONE and makes the Pavilion ACTIVE. -/
  | pavResetComplete (p : PavIx)
  /-- PAV_CORE_RESET (R424). Starts a reset of one core of the Pavilion. -/
  | pavCoreReset (who : Requester) (p : PavIx) (v : Nat)
  /-- CORE_RESET_COMPLETE (R424). A core reset ends and raises CORE_RESET_DONE. -/
  | coreResetComplete (c : CoreIx)
  /-- PAV_CORES_WRITE (R411). Adds or removes cores of a Pavilion with resets and scrubs. -/
  | pavCoresWrite (who : Requester) (p : PavIx) (off len v : Nat)
  /-- PAV_RANGE_WRITE (R412). Changes a Pavilion memory range and updates the gateways. -/
  | pavRangeWrite (who : Requester) (p : PavIx) (sub : Fin 16) (v : Nat)
  /-- CT_HIST_CLEAR (R450). Clears a Pavilion's latency histograms and miss counters. -/
  | ctHistClear (who : Requester) (p : PavIx) (v : Nat)
  /-- PWR_SLOT_SPLIT (R462). At each slot start the effective cap is split among the power groups. -/
  | pwrSlotSplit (demand : PowerDemand)
  /-- MILLPOND_SLOT (R466). Each slot Millpond adds ballast or paces to hold the ramp. -/
  | millpondSlot (ballastMax : Nat) (cores : List CorePower) (amps : List (Option Int))
  /-- MP_STATUS_READ (R466). A read of MP_STATUS clears its BREACH bit. -/
  | mpStatusRead (who : Requester)
  /-- MILLPOND_POWER_STEP (R470). The scheduled floor step sets MP_FLOOR at its effective time. -/
  | millpondPowerStep
  /-- FRAME_ENERGY_ATTRIBUTION (R473). At each frame end the measured energy is charged to its parts. -/
  | frameEnergyAttribution (nanojoule : Nat) (parts : List EnergyPart) (ballast : Nat)
  /-- VF_POINT_WRITE (R478). Requests a new V/F point, retargeting rail 0 in the stated order. -/
  | vfPointWrite (who : Requester) (v : Nat)
  /-- RAIL_SETTLED (R479). A rail settles at its last target, sets RAIL_DONE and lets the clock rise. -/
  | railSettled (k : Fin 3) (readback : Nat)
  /-- RAIL_TIMEOUT (R480). A rail that has not settled in time sets FAULT and lowers the active point. -/
  | railTimeout (k : Fin 3) (readback : Nat)
  /-- VF_AGING_UPDATE (R476). Each whole hour the aging offset is recomputed and rails retargeted. -/
  | vfAgingUpdate
  /-- DROOP_GUARD_UPDATE (R532). At each frame boundary the droop guard G is recomputed. -/
  | droopGuardUpdate (peaks : List (Option Nat))
  /-- CAL_START (R481). Starts a current-sense calibration when the chip is idle. -/
  | calStart (who : Requester) (v : Nat)
  /-- CAL_FORCE (R483). Runs a calibration without the idle checks and marks it SUSPECT. -/
  | calForce (who : Requester) (v : Nat)
  /-- CALIBRATION_WINDOW_END (R482). The 8-frame window ends and the offsets are stored or discarded. -/
  | calibrationWindowEnd (offsets : Nat) (changed : Bool)
  /-- THERMAL_READING (R484). Every 125 µs the sensors are read and WARN and LIMIT applied. -/
  | thermalReading (temps : List (Option Int))
  /-- THERM_POINT_STEP (R485). The emergency timer lowers or restores the active V/F point by one. -/
  | thermPointStep
  /-- THERMTRIP (R486). A sensor at 115 °C drives THERMTRIP_N low and stops the chip. -/
  | thermtrip (sensor : Fin 64) (temp : Int)
  /-- FENCE_REQUEST (R508). Makes a core SUSPECT or fences a port. -/
  | fenceRequest (who : Requester) (v : Nat)
  /-- FENCE_CLEAR (R512). Clears a fence and runs Checkmate on a cleared core. -/
  | fenceClear (who : Requester) (v : Nat)
  /-- FENCE_TABLE_STORE (R513). A fence is stored in flash within 50 ms. -/
  | fenceTableStore
  /-- CHECKMATE_RUN_START (R505). Every CM_PERIOD frames a Checkmate run starts on the next unowned core. -/
  | checkmateRunStart
  /-- CM_LEASE (R506). Leases an idle Pavilion core for one Checkmate run. -/
  | cmLease (who : Requester) (p : PavIx) (v : Nat)
  /-- CHECKMATE_RUN_END (R504). A Checkmate run ends with a pass or a failure: the signatures that its nine tests give on this core. -/
  | checkmateRunEnd (c : CoreIx) (sigs : List Word)
  /-- WATCHDOG_EXPIRY (R544). The watchdog or an SRAM error restarts Machenil. -/
  | watchdogExpiry (sram : Bool)
  /-- MGMT_RESTART_COMPLETE (R544). Machenil answers again and writes MGMT_RESTART. -/
  | mgmtRestartComplete
  /-- LOG_FLUSH (R548). Queued log records are written to flash. -/
  | logFlush
  /-- SENSOR_TIMEOUT (R547). A sensor silent for 4 periods is flagged in SENSOR_FAULT. -/
  | sensorTimeout (cls : Fin 4) (ix : Nat)
  /-- ALERT_ACK (R552). Clears the severity bit of ALERT_STATUS. -/
  | alertAck (who : Requester) (v : Nat)
  /-- REFCLK_LOSS (R610). A reference clock is silent for 2 µs and declared lost. -/
  | refclkLoss (k : Fin 3)
  /-- PWRGOOD_RISE (R525). The rising edge of PWRGOOD starts power-up. -/
  | pwrgoodRise
  /-- COLD_RESET (R526). Loss of PWRGOOD resets everything but persistent objects. -/
  | coldReset (lowNs : Nat) (taken : Bool)
  /-- MACHENIL_UP (R527). Milestone 1: Machenil is up and MOP and I3C accept requests. -/
  | machenilUp (slots : List SlotCheck)
  /-- FUSES_LOADED (R528). Milestone 2: fuses and tables load, queued requests run and PF0 answers. -/
  | fusesLoaded
  /-- HBM_TRAINED (R525). Milestone 3: all HBM4 stacks are trained. -/
  | hbmTrained
  /-- GROTTO_TRAINED (R525). Milestone 4: both Grotto controllers are trained. -/
  | grottoTrained
  /-- MEMORY_TRAINING_FAIL (R524). A memory unit fails to train within its bound and the chip enters FAULT. -/
  | memoryTrainingFail (unit : Fin 8)
  /-- PLOTS_SCRUBBED (R525). Milestone 5: every Plot and Cistern has been cleared. -/
  | plotsScrubbed
  /-- CHIP_READY (R523). Milestone 8: the chip enters READY or DEGRADED and ports leave HOLD. -/
  | chipReady
  /-- BOOT_CONTINUE (R523). Resumes power-up from STANDBY at milestone 3. -/
  | bootContinue (who : Requester) (v : Nat)
  /-- BOOT_ROM_RECHECK (R554). With no valid slot the boot ROM checks both slots again every 1 s; `images` are what an external programmer
  has written into the slots since. -/
  | bootRomRecheck (images : List (Option (List Byte))) (slots : List SlotCheck)
  /-- WARM_RESET (R533). Starts a warm reset of everything except management and time. -/
  | warmReset (who : Requester) (v : Nat)
  /-- WARM_RESET_COMPLETE (R533). The warm reset reaches milestone 8. -/
  | warmResetComplete
  /-- FW_BEGIN (R557). Claims the update and erases the inactive slot. -/
  | fwBegin (who : Requester) (v : Nat)
  /-- FW_ERASE_DONE (R557). The slot erase completes and data is accepted. -/
  | fwEraseDone
  /-- FW_DATA (R557). Writes image bytes at the next offset. -/
  | fwData (who : Requester) (off : Nat) (bytes : List Byte)
  /-- FW_VERIFY (R557). Starts checking the written slot. -/
  | fwVerify (who : Requester) (v : Nat)
  /-- FW_VERIFY_DONE (R557). The check ends with VERIFIED or FAILED. -/
  | fwVerifyDone (check : SlotCheck)
  /-- FW_ACTIVATE (R557). Names the new slot in the manifest and runs a warm reset. -/
  | fwActivate (who : Requester) (v : Nat)
  /-- FW_HANDOVER_END (R557). The new image takes over and held requests are answered. -/
  | fwHandoverEnd
  /-- FW_COMMIT (R557). Blows rollback fuses up to the running image's index. -/
  | fwCommit (who : Requester) (v : Nat)
  /-- FW_RESTART (R558). Runs a warm reset with the running image. -/
  | fwRestart (who : Requester) (v : Nat)
  /-- KEY_REVOKE (R555). Blows the revocation fuse of a key slot. -/
  | keyRevoke (who : Requester) (v : Nat)
  /-- SERVICE_AUTH (R628). A signed token raises the session to VENDOR or is rejected. -/
  | serviceAuth (k : Fin 8) (record : List Byte) (token : Token)
  /-- MGMT_TRANSPORT_WRITE (R626). Changes management addressing and closes every MOP session. -/
  | mgmtTransportWrite (who : Requester) (sub v : Nat)
  /-- SPDM_REQUEST (R559). An SPDM request over DOE is answered with certificates or measurements. -/
  | spdmRequest (f : FnIx) (code index : Nat)
  /-- DBG_HALT (R576). Requests a halt of the selected core. -/
  | dbgHalt (who : Requester) (v : Nat)
  /-- DBG_RESUME_RUN (R576). Restarts issue on a HALTED core. -/
  | dbgResumeRun (who : Requester)
  /-- DBG_RESUME_SINGLE (R576). Lets each stream issue one word and halt again. -/
  | dbgResumeSingle (who : Requester)
  /-- HALT_DRAIN_COMPLETE (R574). After a halt cause the drain ends, the core is HALTED and HALT is raised. -/
  | haltDrainComplete (c : CoreIx)
  /-- STALEMATE_HALT (R578). The Stalemate halt event halts every RUN core of the named Pavilions. -/
  | stalemateHalt
  /-- STALEMATE_RESUME (R578). The resume event resumes the cores halted by Stalemate. -/
  | stalemateResume
  /-- STALEMATE_FLOOD (R579). Applies the Stalemate settings and floods them to peers. -/
  | stalemateFlood (who : Requester) (v : Nat)
  /-- SNAPSHOT_TRIGGER (R580). The Snapshot trigger event sets TRIGGERED on the Pavilion's cores. -/
  | snapshotTrigger (p : PavIx)
  /-- BS_STATUS_READ (R335). A read of BS_STATUS clears RING_OVERRUN. -/
  | bsStatusRead (who : Requester) (p : PavIx)
  /-- WAITTIME_COMPLETION (R52). A pending WAITTIME completes when the local count reaches its resolved target, with PAST, TIME_FREE,
  HOLDOVER or STEPPED flags as they apply. -/
  | waittimeCompletion (c : CoreIx) (t : Strm)
  /-- TIME_BREAKPOINT_MATCH (R573). An armed breakpoint of KIND TIME matches when its MATCH time is due on the local count, disarms and starts a halt. -/
  | timeBreakpointMatch (c : CoreIx)
  /-- BLOCK_LOCK_LOSS (R371). A Belvedere port that loses block lock on its received stream goes to RETRAIN and its messages wait. -/
  | blockLockLoss (q : PortIx)
deriving DecidableEq, Repr, Inhabited

end Sys2Proof
end

