-- ==== Sys2Proof/Config.lean ====
section
/-! DEFINITION. Config.lean: what each chip fixes (fused values) and the values the spec leaves open. Every constant here is
opaque: no proof can see its value. -/

namespace Sys2Proof

/-- Fused identity and limits of one chip (24 R621, 24 Table 24-6; log 4). -/
structure Fuses where
  vendorId : BitVec 16
  stepping : Byte
  serial : DWord
  mac : BitVec 48
  /-- FENCE_SHIPPED: the cores disabled at shipment, at most 8, since at least 136 of the 144 are enabled (01 R23, 18 Table 18-4). -/
  shipped : Vector (Option (Fin 144)) 8
  /-- The index of each security fuse bank as blown at shipment (20 R563 FW_ROLLBACK). -/
  rollback : Word
  /-- Key slots revoked at shipment (20 R555). -/
  revoked : Byte
deriving DecidableEq, Repr, Inhabited

namespace Config

/-- The fuses of this chip. -/
opaque fuses : Fuses

/-- A fixed function of the FP32 input of a special function (08 R227), before the bound of Table 8-3 is applied. -/
opaque special : Nat → Word → Word

/-- The n-th free value drawn (log 7). -/
opaque free : Nat → Nat

/-- The last trimmed rate of a chip that entered HOLDOVER so many ns after PWRGOOD (02 R49), before its bound is applied (log 80). -/
opaque holdTrim : Nat → Nat

/-- V/F table entries fused at test (17 R475): the F_k and V_k a chip ships with are the table's; this is the per-chip
rail setpoint trim in mV, and other fused numbers of the power chapter, by number. -/
opaque fusedPower : Nat → Nat

/-- Delay in ns of the cable at a port (13 R356). -/
opaque cableDelay : Nat → Nat

/-- SHA-384 (20 R553, R559), which the spec names and does not define, as a 384-bit number. -/
opaque sha384 : List Byte → Nat

/-- Digests of what the chip ships with: 1 the boot ROM, 3 the core-side firmware, 16 and 17 the images in slots A and B (20 Table 20-5). -/
opaque shipped : Nat → Nat

/-- The header, 256 bytes, of the image that the chip ships with in a firmware slot (20 Table 20-4). -/
opaque shippedHeader : Nat → BitVec 2048

/-- The device certificate chain of the identity block (20 R556). -/
opaque certChain : List Byte

/-- The expected signature of Checkmate test `t` (18 R504), a value in firmware. -/
opaque checkmateSignature : Nat → Word

end Config

end Sys2Proof
end

