-- ==== Sys2Proof/Machine/Sparse.lean ====
section
/-! DEFINITION. Machine/Sparse.lean: tables keyed by number, and the byte memories with their canonical form. -/

namespace Sys2Proof.Machine

/-- A table from numbers to values, as a list of rows sorted by key. A key without a row reads as the default its reader
names. -/
abbrev Sparse (α : Type) := List (Nat × α)

/-- The row of key `k`, if it has one. -/
def Sparse.find {α : Type} : Sparse α → Nat → Option α
  | [], _ => none
  | (j, v) :: m, k => if j = k then some v else Sparse.find m k

/-- The value at key `k`, `d` where it has no row. -/
def Sparse.getD {α : Type} (m : Sparse α) (k : Nat) (d : α) : α := (Sparse.find m k).getD d

/-- Set the value at key `k`, keeping the rows sorted. -/
def Sparse.put {α : Type} : Sparse α → Nat → α → Sparse α
  | [], k, v => [(k, v)]
  | (j, w) :: m, k, v =>
    if j = k then (k, v) :: m
    else if k < j then (k, v) :: (j, w) :: m
    else (j, w) :: Sparse.put m k v

/-- Remove the row of key `k`. -/
def Sparse.del {α : Type} (m : Sparse α) (k : Nat) : Sparse α := m.filter (fun r => r.1 != k)

/-- A byte memory: address and byte pairs (Host.Cell), addresses rising, no entry of value 0; an unlisted byte is 0. -/
abbrev Mem := List Host.Cell

/-- The byte at address `a`. -/
def Mem.byte : Mem → Nat → Byte
  | [], _ => 0
  | (j, v) :: m, a => if j = a then v else Mem.byte m a

/-- Write one byte. Writing 0 removes the entry, so that equal contents are equal data. -/
def Mem.set : Mem → Nat → Byte → Mem
  | [], a, v => if v = 0 then [] else [(a, v)]
  | (j, w) :: m, a, v =>
    if j = a then (if v = 0 then m else (a, v) :: m)
    else if a < j then (if v = 0 then (j, w) :: m else (a, v) :: (j, w) :: m)
    else (j, w) :: Mem.set m a v

/-- Write bytes at rising addresses from `a`. -/
def Mem.write (m : Mem) (a : Nat) : List Byte → Mem
  | [] => m
  | b :: bs => Mem.write (Mem.set m a b) (a + 1) bs

/-- `n` bytes from `a`. -/
def Mem.read (m : Mem) (a n : Nat) : List Byte := (List.range n).map (fun i => Mem.byte m (a + i))

/-- Make the bytes of `[a, a + n)` zero. -/
def Mem.zero (m : Mem) (a n : Nat) : Mem := m.filter (fun c => c.1 < a || a + n ≤ c.1)

/-- Every address of `m` lies above `lo`, addresses rise, and no byte is 0. -/
def Mem.wfFrom : Nat → Mem → Bool
  | _, [] => true
  | lo, (j, v) :: m => decide (lo ≤ j) && (v != 0) && Mem.wfFrom (j + 1) m

/-- The canonical form of a byte memory. -/
def Mem.wf (m : Mem) : Bool := Mem.wfFrom 0 m

/-- The little-endian number of a list of bytes (00 R8). -/
def leNat : List Byte → Nat
  | [] => 0
  | b :: bs => b.toNat + 256 * leNat bs

/-- `n` little-endian bytes of a number (00 R8). -/
def leBytes : Nat → Nat → List Byte
  | 0, _ => []
  | n + 1, v => BitVec.ofNat 8 v :: leBytes n (v / 256)

/-- The big-endian number of a list of bytes (03 R79). -/
def beNat (l : List Byte) : Nat := l.foldl (fun a b => a * 256 + b.toNat) 0

/-- Bits `hi` down to `lo` of a number. -/
def bits (v hi lo : Nat) : Nat := (v / 2 ^ lo) % 2 ^ (hi + 1 - lo)

/-- Bit `i` of a number. -/
def bit (v i : Nat) : Bool := (v / 2 ^ i) % 2 == 1

/-- A number whose bit `i` is set to `b`. -/
def setBit (v i : Nat) (b : Bool) : Nat :=
  if bit v i = b then v else if b then v + 2 ^ i else v - 2 ^ i

/-- The number of a Bool. -/
def b2n (b : Bool) : Nat := if b then 1 else 0

/-- Ceiling of a quotient. -/
def cdiv (a b : Nat) : Nat := (a + b - 1) / b

/-- The positions of the 1 bits of `v` below `n`, rising. -/
def bitList (v n : Nat) : List Nat := (List.range n).filter (bit v)

/-- The number of 1 bits of `v` below `n`. -/
def popcount (v n : Nat) : Nat := (bitList v n).length

/-- The signed value of a `w`-bit number. -/
def toSigned (w v : Nat) : Int := if v % 2 ^ w < 2 ^ (w - 1) then (v % 2 ^ w : Nat) else ((v % 2 ^ w : Nat) : Int) - (2 ^ w : Nat)

/-- The `w`-bit two's complement number of an integer. -/
def ofSigned (w : Nat) (i : Int) : Nat := (i % (2 ^ w : Nat)).toNat

/-- One step of a reflected CRC over a bit. -/
def crcBit (poly : Nat) (c : Nat) (b : Bool) : Nat :=
  if (bit c 0) != b then Nat.xor (c / 2) poly else c / 2

/-- A reflected CRC over a byte. -/
def crcByte (poly : Nat) (c : Nat) (b : Byte) : Nat :=
  (List.range 8).foldl (fun c i => crcBit poly c (b.getLsbD i)) c

/-- CRC-32C (18 R497): polynomial 0x1EDC_6F41 reflected, initial value and final XOR all ones. -/
def crc32c (l : List Byte) : Nat := Nat.xor (l.foldl (crcByte 0x82F63B78) 0xFFFFFFFF) 0xFFFFFFFF

end Sys2Proof.Machine
end

