-- ==== Sys2Proof/Machine/Fp.lean ====
section
/-! DEFINITION. Machine/Fp.lean: number formats, rounding, special values and the special functions (07, 08 R222 to R227). -/

namespace Sys2Proof.Machine

/-- An exact value: NaN, an infinity, or (−1)^neg · m · 2^e. Zero is m = 0 and keeps its sign (07 R197). -/
inductive FVal where
  | nan
  | inf (neg : Bool)
  | fin (neg : Bool) (m : Nat) (e : Int)
deriving DecidableEq, Repr, Inhabited

/-- A floating layout of 07 Table 7-1: exponent bits, mantissa bits, bias, and its special values: 0 IEEE, 1 E4M3 (one NaN
pattern, no infinity), 2 none. -/
structure FFmt where
  eb : Nat
  mb : Nat
  bias : Nat
  style : Nat
deriving DecidableEq, Repr, Inhabited

/-- The layout of a format code (07 Table 7-1); integer codes have none. -/
def ffmt (code : Nat) : Option FFmt :=
  match code with
  | 0x0 => some ⟨11, 52, 1023, 0⟩
  | 0x1 => some ⟨8, 23, 127, 0⟩
  | 0x2 => some ⟨8, 7, 127, 0⟩
  | 0x3 => some ⟨5, 10, 15, 0⟩
  | 0x4 | 0x6 => some ⟨4, 3, 7, 1⟩
  | 0x5 | 0x7 => some ⟨5, 2, 15, 0⟩
  | 0x8 => some ⟨2, 3, 1, 2⟩
  | 0x9 => some ⟨3, 2, 3, 2⟩
  | 0xA => some ⟨2, 1, 1, 2⟩
  | _ => none

def fp64 : FFmt := ⟨11, 52, 1023, 0⟩
def fp32 : FFmt := ⟨8, 23, 127, 0⟩
def bf16 : FFmt := ⟨8, 7, 127, 0⟩

/-- Element size in bits (05 Table 5-9). -/
def fmtBits (code : Nat) : Nat :=
  match code with
  | 0x0 => 64
  | 0x1 | 0xD => 32
  | 0x2 | 0x3 => 16
  | 0x8 | 0x9 => 6
  | 0xA | 0xC => 4
  | _ => 8

/-- MX formats (05 Table 5-9, codes 0x6 to 0xA). -/
def fmtMx (code : Nat) : Bool := decide (6 ≤ code) && decide (code ≤ 10)

/-- Integer formats INT8, INT4, INT32. -/
def fmtInt (code : Nat) : Bool := decide (11 ≤ code) && decide (code ≤ 13)

/-- Bytes that `n` packed elements of a format fill (07 R194). -/
def fmtBytes (code n : Nat) : Nat := cdiv (n * fmtBits code) 8

/-- The exact value of a bit pattern (07 R192, Table 7-1). -/
def FFmt.decode (f : FFmt) (v : Nat) : FVal :=
  let man := v % 2 ^ f.mb
  let ex := (v / 2 ^ f.mb) % 2 ^ f.eb
  let neg := bit v (f.mb + f.eb)
  if ex = 2 ^ f.eb - 1 && f.style = 0 then
    if man = 0 then .inf neg else .nan
  else if ex = 2 ^ f.eb - 1 && f.style = 1 && man = 2 ^ f.mb - 1 then .nan
  else if ex = 0 then .fin neg man (1 - (f.bias : Int) - (f.mb : Int))
  else .fin neg (man + 2 ^ f.mb) ((ex : Int) - (f.bias : Int) - (f.mb : Int))

/-- The canonical NaN of a format (07 R197). -/
def FFmt.nanBits (f : FFmt) : Nat :=
  if f.style = 1 then 2 ^ (f.mb + f.eb) - 1
  else (2 ^ f.eb - 1) * 2 ^ f.mb + 2 ^ (f.mb - 1)

/-- Infinity of a format, with its sign. -/
def FFmt.infBits (f : FFmt) (neg : Bool) : Nat := (2 ^ f.eb - 1) * 2 ^ f.mb + b2n neg * 2 ^ (f.mb + f.eb)

/-- The pattern of the largest finite magnitude (07 Table 7-1). -/
def FFmt.maxBits (f : FFmt) : Nat :=
  match f.style with
  | 0 => (2 ^ f.eb - 1) * 2 ^ f.mb - 1
  | 1 => 2 ^ (f.mb + f.eb) - 2
  | _ => 2 ^ (f.mb + f.eb) - 1

/-- Round to nearest, ties to even, of n / 2^k. -/
def rneShift (n k : Nat) : Nat :=
  let q := n / 2 ^ k
  let r := n % 2 ^ k
  if 2 * r > 2 ^ k || (2 * r == 2 ^ k && q % 2 == 1) then q + 1 else q

/-- m · 2^(e − q) rounded to an integer, ties to even. -/
def rneAt (m : Nat) (e q : Int) : Nat :=
  if q ≤ e then m * 2 ^ (e - q).toNat else rneShift m (q - e).toNat

/-- Magnitude pattern of m · 2^e (m ≠ 0) rounded to the format as if its exponent range had no end (07 R196): patterns of
rising magnitude are rising numbers, so a carry of the rounding needs no case of its own. -/
def FFmt.roundMag (f : FFmt) (m : Nat) (e : Int) : Nat :=
  let emin : Int := 1 - (f.bias : Int)
  let top : Int := (m.log2 : Int) + e
  let q : Int := max top emin - (f.mb : Int)
  let r := rneAt m e q
  if top < emin then r
  else ((q + (f.mb : Int) + (f.bias : Int) - 1).toNat) * 2 ^ f.mb + r

/-- Round an exact value into a format (07 R196 to R198). `sat`: a finite overflow takes the largest finite value (E4M3 and
the MX element formats) instead of infinity. -/
def FFmt.encode (f : FFmt) (sat : Bool) : FVal → Nat
  | .nan => f.nanBits
  | .inf neg => if f.style = 0 then f.infBits neg else f.nanBits
  | .fin neg m e =>
    let s := b2n neg * 2 ^ (f.mb + f.eb)
    if m = 0 then s
    else
      let r := f.roundMag m e
      if r ≤ f.maxBits then s + r
      else if sat || f.style ≠ 0 then s + f.maxBits
      else f.infBits neg

/-- An exact value rounded into a format, as a value again. -/
def FFmt.round (f : FFmt) (v : FVal) : FVal := f.decode (f.encode false v)

/-- Exact negation. -/
def FVal.neg : FVal → FVal
  | .nan => .nan
  | .inf s => .inf (!s)
  | .fin s m e => .fin (!s) m e

/-- Exact product (07 R197). -/
def FVal.mul : FVal → FVal → FVal
  | .nan, _ => .nan
  | _, .nan => .nan
  | .inf s, .inf t => .inf (s != t)
  | .inf s, .fin t m _ => if m = 0 then .nan else .inf (s != t)
  | .fin t m _, .inf s => if m = 0 then .nan else .inf (s != t)
  | .fin s m e, .fin t n d => .fin (s != t) (m * n) (e + d)

/-- Exact signed integer of a finite value at scale 2^q, for q at most its exponent. -/
def sgn (neg : Bool) (m : Nat) (e q : Int) : Int :=
  let v : Int := (m : Int) * ((2 ^ (e - q).toNat : Nat) : Int)
  if neg then -v else v

/-- Exact sum (07 R197): a sum of zero is +0 unless both addends are −0. -/
def FVal.add : FVal → FVal → FVal
  | .nan, _ => .nan
  | _, .nan => .nan
  | .inf s, .inf t => if s = t then .inf s else .nan
  | .inf s, .fin _ _ _ => .inf s
  | .fin _ _ _, .inf s => .inf s
  | .fin s m e, .fin t n d =>
    if m = 0 && n = 0 then .fin (s && t) 0 0
    else if m = 0 then .fin t n d
    else if n = 0 then .fin s m e
    else
      let q := min e d
      let v := sgn s m e q + sgn t n d q
      if v = 0 then .fin false 0 0 else .fin (decide (v < 0)) v.natAbs q

/-- Numeric order a < b of two values that are not NaN; zeros are equal. -/
def FVal.lt : FVal → FVal → Bool
  | .nan, _ => false
  | _, .nan => false
  | .inf s, .inf t => s && !t
  | .inf s, .fin _ _ _ => s
  | .fin _ _ _, .inf t => !t
  | .fin s m e, .fin t n d =>
    let q := min e d
    decide (sgn s m e q < sgn t n d q)

/-- MAX of two values (08 R225): NaN if either is, +0 above −0. -/
def FVal.max : FVal → FVal → FVal
  | .nan, _ => .nan
  | _, .nan => .nan
  | .fin s 0 e, .fin t 0 _ => .fin (s && t) 0 e
  | a, b => if a.lt b then b else a

/-- MIN of two values (08 R225). -/
def FVal.min : FVal → FVal → FVal
  | .nan, _ => .nan
  | _, .nan => .nan
  | .fin s 0 e, .fin t 0 _ => .fin (s || t) 0 e
  | a, b => if b.lt a then b else a

def FVal.isNan : FVal → Bool
  | .nan => true
  | _ => false

def FVal.isZero : FVal → Bool
  | .fin _ m _ => m = 0
  | _ => false

/-- An integer as an exact value. -/
def FVal.ofInt (i : Int) : FVal := .fin (decide (i < 0)) i.natAbs 0

/-- A finite value rounded to an integer, ties to even. -/
def FVal.toInt : FVal → Int
  | .fin s m e => let r : Int := (rneAt m e 0 : Nat); if s then -r else r
  | _ => 0

/-- Clamp an integer into a range. -/
def clampI (lo hi v : Int) : Int := if v < lo then lo else if hi < v then hi else v

/-- The INT32 range (07 R193). -/
def i32Min : Int := -2147483648
def i32Max : Int := 2147483647

/-- Range of an integer format (07 R193). -/
def intRange (code : Nat) (signed : Bool) : Int × Int :=
  match code, signed with
  | 0xB, true => (-128, 127)
  | 0xB, false => (0, 255)
  | 0xC, true => (-8, 7)
  | 0xC, false => (0, 15)
  | _, _ => (i32Min, i32Max)

/-- The integer of a bit pattern of an integer format. -/
def intDecode (code : Nat) (signed : Bool) (v : Nat) : Int :=
  let w := fmtBits code
  if signed || code = 0xD then toSigned w v else ((v % 2 ^ w : Nat) : Int)

/-- Store an exact value in a non-MX format (07 R198 Table 7-2). INT8 and INT4 results are signed (08 Table 8-2). -/
def storeFmt (code : Nat) (v : FVal) : Nat :=
  match ffmt code with
  | some f => f.encode (code = 4) v
  | none =>
    let w := fmtBits code
    let (lo, hi) := intRange code true
    match v with
    | .nan => 0
    | .inf neg => ofSigned w (if neg then lo else hi)
    | .fin _ _ _ => ofSigned w (clampI lo hi v.toInt)

/-- Floor of log2 of a non-zero finite magnitude. -/
def flog2 (m : Nat) (e : Int) : Int := (m.log2 : Int) + e

/-- emax of an MX format (07 R199). -/
def mxEmax (code : Nat) : Int :=
  match code with
  | 0x6 => 8
  | 0x7 => 15
  | 0x8 => 2
  | 0x9 => 4
  | _ => 2

/-- The scale of a block (07 R199): none for a block that holds a NaN or an infinity (X = 0xFF). -/
def mxScale (code : Nat) (blk : List FVal) : Option Nat :=
  let special := blk.any (fun v => match v with | .fin _ _ _ => false | _ => true)
  if special then none
  else
    let tops := blk.filterMap (fun v => match v with | .fin _ m e => if m = 0 then none else some (flog2 m e) | _ => none)
    match tops with
    | [] => some 127
    | t :: ts =>
      let top := ts.foldl max t
      some (clampI 0 254 (top - mxEmax code + 127)).toNat

/-- The elements and the scale of a block encoded into an MX format (07 R199). -/
def mxEncode (code : Nat) (blk : List FVal) : List Nat × Nat :=
  match mxScale code blk, ffmt code with
  | some x, some f =>
    (blk.map (fun v => f.encode true (FVal.mul v (.fin false 1 (127 - (x : Int))))), x)
  | _, _ => (blk.map (fun _ => 0), 0xFF)

/-- The factor of an MX scale (07 R195). -/
def mxFactor (x : Nat) : FVal := if x = 0xFF then .nan else .fin false 1 ((x : Int) - 127)

/-! ### Special functions (08 R227, Table 8-3)

The KX8 fixes each function within a bound and does not publish its values; the model takes a value of Config and keeps it
where it lies within the bound, the correctly rounded value where it does not. -/

/-- Working precision of the enclosures below, in fraction bits. -/
def fxP : Nat := 128

/-- e^y for y in [0, 1) at fxP fraction bits, by its power series. -/
def fxExp (y : Nat) : Nat :=
  ((List.range 40).foldl
    (fun (acc : Nat × Nat) k => let t := acc.2 * y / 2 ^ fxP / (k + 1); (acc.1 + t, t))
    (2 ^ fxP, 2 ^ fxP)).1

/-- ln 2 at 128 fraction bits. -/
def ln2Fx : Nat := 0xB17217F7D1CF79ABC9E3B39803F2F6AF

/-- log2 e at 128 fraction bits. -/
def log2eFx : Nat := 0x171547652B82FE1777D0FFDA0D23A7D11

/-- 2^x for x = X / 2^fxP: a magnitude and an exponent. -/
def fxExp2 (x : Int) : Nat × Int :=
  let i := x / (2 ^ fxP : Nat)
  let f := (x % (2 ^ fxP : Nat)).toNat
  (fxExp (f * ln2Fx / 2 ^ fxP), i - (fxP : Int))

/-- m · 2^e as a fixed-point number at fxP fraction bits, towards −∞. -/
def fxOf (neg : Bool) (m : Nat) (e : Int) : Int :=
  let sh := e + (fxP : Int)
  let v : Int := if 0 ≤ sh then ((m * 2 ^ sh.toNat : Nat) : Int) else ((m / 2 ^ (-sh).toNat : Nat) : Int)
  if neg then -v else v

/-- log2 of the mantissa x in [1, 2) at fxP fraction bits, bit by bit, 64 fraction bits. -/
def fxLog2 (x : Nat) : Nat :=
  ((List.range 64).foldl
    (fun (acc : Nat × Nat) _ =>
      let sq := acc.2 * acc.2 / 2 ^ fxP
      if 2 * 2 ^ fxP ≤ sq then (2 * acc.1 + 1, sq / 2) else (2 * acc.1, sq))
    (0, x)).1

/-- Integer square root, bit by bit. -/
def isqrt (n : Nat) : Nat :=
  (List.range 200).foldl
    (fun r k => let c := r + 2 ^ (199 - k); if c * c ≤ n then c else r) 0

/-- |a − b| ≤ t · 2^u for signed finite values. -/
def closeTo (a b : FVal) (t : Nat) (u : Int) : Bool :=
  match FVal.add a b.neg with
  | .fin _ m e => let q := min e u; decide (m * 2 ^ (e - q).toNat ≤ t * 2 ^ (u - q).toNat)
  | _ => false

/-- Exponent of one ulp of FP32 at a magnitude. -/
def ulpExp (m : Nat) (e : Int) : Int := max (flog2 m e) (-126) - 23

/-- The value a chip fixes for a special function whose result is close to `ap`: Config's where it lies within `t` ulp (or
2^-22 where `abs`), else `ap` correctly rounded. -/
def specialNear (op : Nat) (x : Word) (ap : FVal) (t : Nat) (abs : Bool) : Nat :=
  let cand := (Config.special op x).toNat
  match ap with
  | .fin _ m e =>
    let u := ulpExp m e
    let ok := closeTo (fp32.decode cand) ap t u || (abs && closeTo (fp32.decode cand) ap 1 (-22))
    if ok then cand else fp32.encode false ap
  | v => fp32.encode false v

/-- A subnormal FP32 value as a zero of its sign. -/
def ftz (v : FVal) : FVal :=
  match v with
  | .fin s m e => if m ≠ 0 && flog2 m e < -126 then .fin s 0 0 else v
  | _ => v

/-- EXP2 and EXP of a finite argument given as the fixed-point power of two. -/
def expOf (op : Nat) (x : Word) (p : Int) (t : Nat) : Nat :=
  if p ≥ 130 * (2 ^ fxP : Nat) then fp32.infBits false
  else if p < -126 * ((2 ^ fxP : Nat) : Int) then 0
  else
    let (m, e) := fxExp2 p
    let base := fp32.encode false (.fin false m e)
    if base = fp32.infBits false then base
    else
      let r := specialNear op x (.fin false m e) t false
      if fp32.decode r |>.lt (.fin false 1 (-126)) then 0 else r

/-- The special functions 0x10 to 0x15 (08 Table 8-2, Table 8-3), FP32 to FP32. -/
def specialFn (op : Nat) (x : Nat) : Nat :=
  let w : Word := BitVec.ofNat 32 x
  match op, fp32.decode x with
  | _, .nan => fp32.nanBits
  | 0x10, .inf s => if s then 0 else fp32.infBits false
  | 0x15, .inf s => if s then 0 else fp32.infBits false
  | 0x10, .fin s m e => expOf op w (if e > 8 then (if s then -200 else 200) * (2 ^ fxP : Nat) else fxOf s m e) 1
  | 0x15, .fin s m e =>
    expOf op w (if e > 8 then (if s then -200 else 200) * (2 ^ fxP : Nat) else fxOf s m e * log2eFx / (2 ^ fxP : Nat)) 2
  | 0x11, .inf s => if s then fp32.nanBits else fp32.infBits false
  | 0x11, .fin s m e =>
    match ftz (.fin s m e) with
    | .fin _ 0 _ => fp32.infBits true
    | _ =>
      if s then fp32.nanBits
      else
        let top := flog2 m e
        let man := m * 2 ^ fxP / 2 ^ m.log2
        let v : Int := top * (2 ^ 64 : Nat) + (fxLog2 man : Nat)
        let ap : FVal := .fin (decide (v < 0)) v.natAbs (-64)
        let near := !(FVal.lt (.fin false m e) (.fin false 1 (-1))) && !(FVal.lt (.fin false 2 0) (.fin false m e))
        specialNear op w ap 1 near
  | 0x12, .inf s => b2n s * 2 ^ 31
  | 0x12, .fin s m e =>
    match ftz (.fin s m e) with
    | .fin _ 0 _ => fp32.infBits s
    | _ => specialNear op w (.fin s (2 ^ 200 / m) (-200 - e)) 1 false
  | 0x13, .inf s => if s then fp32.nanBits else 0
  | 0x13, .fin s m e =>
    match ftz (.fin s m e) with
    | .fin _ 0 _ => fp32.infBits s
    | _ =>
      if s then fp32.nanBits
      else
        let (m2, e2) := if e % 2 = 0 then (m, e) else (2 * m, e - 1)
        specialNear op w (.fin false (isqrt (2 ^ 300 / m2)) (-150 - e2 / 2)) 1 false
  | 0x14, .inf s => fp32.encode false (.fin s 1 0)
  | 0x14, .fin s m e =>
    if m = 0 || flog2 m e < -126 then x
    else if flog2 m e < -20 then
      let v : FVal := .fin s m e
      let cube := FVal.mul v (FVal.mul v v)
      let third : FVal := match cube with | .fin t n d => .fin (!t) (n * 2 ^ 64 / 3) (d - 64) | o => o
      specialNear op w (FVal.add v third) 2 false
    else if flog2 m e ≥ 6 then specialNear op w (.fin s 1 0) 2 false
    else
      let p := fxOf false m (e + 1) * log2eFx / (2 ^ fxP : Nat)
      let (n, d) := fxExp2 p
      let big := n * 2 ^ (d + fxP).toNat
      let one := 2 ^ fxP
      specialNear op w (.fin s ((big - one) * 2 ^ 160 / (big + one)) (-160)) 2 false
  | _, v => fp32.encode false v

end Sys2Proof.Machine
end

