-- ==== Sys2Proof/Machine/CoreState.lean ====
section
/-! DEFINITION. Machine/CoreState.lean: what one core holds (04 to 10, 16, 18, 21), as plain data. -/

namespace Sys2Proof.Machine

/-- CORE_STATE (04 Table 4-3). -/
inductive CState where
  | idle
  | run
  | halted
  | faulted
  | fenced
deriving DecidableEq, Repr, Inhabited

/-- Why issue of a core is stopped although its CORE_STATE has not changed yet: the drain of 04 R120, of a halt (21 R574), or
of a reset (15 R422). -/
inductive Drain where
  | none
  | fault
  | halt
  | reset
deriving DecidableEq, Repr, Inhabited

/-- What one stream waits for. `stall` is a full queue or a scoreboard conflict (04 R99, R109): the program counter still
names the waiting word. The others hold the operands the command resolved at issue (21 R574); the program counter is
already past the word. `due` of a WAITCNT with a limit is the frame whose start ends it (04 R118). -/
inductive Wait where
  | none
  | stall (since : Nat)
  | cnt (c : Nat) (v : Word) (limit due : Nat)
  | time (target : Nat)
  | step (n : Word)
  | fence
  | region (w : Nat) (enable full tagged : Bool) (base size : Nat)
  | qconf (q base depth : Nat)
  | qpush (q : Nat) (a b : Word) (base len : Nat) (cnt : Option Nat)
  | qpop (q d e : Nat)
  | join
  | endw (chain chainSplit notify : Bool) (a b : Nat)
  | ended (chain chainSplit notify : Bool) (a b : Nat)
  | mapinv (cores one : Bool) (addr : Nat)
deriving DecidableEq, Repr, Inhabited

/-- The stream flags of 05 R142. -/
structure Flags where
  timeout : Bool := false
  past : Bool := false
  timeFree : Bool := false
  holdover : Bool := false
  stepped : Bool := false
  oob : Bool := false
deriving DecidableEq, Repr, Inhabited

/-- A 64-byte line the fetch unit holds (04 R123), with the condition it was read in (09 R252): 0 good, 1 poisoned,
2 detected. -/
structure FetchLine where
  addr : Nat
  data : List Byte
  cond : Nat
deriving DecidableEq, Repr, Inhabited

/-- Why a stalled word waits: a range or an entry of the scoreboard (04 R109), a full queue (04 R99), or the tag of its descriptor's slot, with
the CORE cycle count since (04 R112, R114). -/
inductive StallWhy where
  | range
  | queue
  | tag (since : Nat)
deriving DecidableEq, Repr, Inhabited

/-- One stream (04 R103, R104). -/
structure StreamSt where
  present : Bool := false
  pc : Nat := 0
  wait : Wait := .none
  /-- Why the word waits, while `wait` is a stall. -/
  why : StallWhy := .range
  flags : Flags := {}
  prevTarget : Option Nat := none
  line : Option FetchLine := none
  ahead : Option FetchLine := none
  /-- The word at `pc` is the first after a resume: no ADDRESS breakpoint matches it (21 R576). -/
  resumed : Bool := false
  /-- The stream has issued its one word of a DBG_RESUME SINGLE (21 R576). -/
  singled : Bool := false
deriving DecidableEq, Repr, Inhabited

/-- A region window (04 R110): a base and a size in bytes, TAGGED or SCOREBOARD. -/
structure Window where
  base : Nat
  size : Nat
  tagged : Bool
deriving DecidableEq, Repr, Inhabited

/-- A data queue ring (04 R106): base, depth, index of the head entry, entries held. -/
structure DataQ where
  base : Nat
  depth : Nat
  head : Nat
  count : Nat
deriving DecidableEq, Repr, Inhabited

/-- One operand range of a long command (04 R108): Plot bytes or Cistern entries `[lo, lo + len)`, read or written. -/
structure Rng where
  cistern : Bool
  write : Bool
  lo : Nat
  len : Nat
deriving DecidableEq, Repr, Inhabited

/-- A long command as it left issue (05 R139): its words, operand values and the copies of its descriptors. -/
structure LongCmd where
  id : Nat
  op : Nat
  strm : Strm
  addr : Nat
  w0 : CmdWord
  x1 : CmdWord
  x2 : CmdWord
  a : Nat
  b : Nat
  c : Nat
  desc1 : Nat
  desc2 : Nat
  rngs : List Rng
  /-- The command has touched an overlap of windows and has been counted for it (04 R111). -/
  multi : Bool := false
deriving DecidableEq, Repr, Inhabited

/-- A byte in flight with its poison mark (09 R252, 18 R501). -/
abbrev PByte := Byte × Bool

/-- A source piece of a mover command: Plot bytes, memory bytes of one 4 KiB block (through the Orangery or not), or a run
of zeros (05 R150). -/
inductive SrcPiece where
  | plot (addr len : Nat) (consume : Bool)
  | mem (va len : Nat) (org : Bool)
  | zero (len : Nat)
deriving DecidableEq, Repr, Inhabited

/-- A destination piece of an engine's command: bytes of one slot of a core's Plot with its AOW and counter, memory bytes
of one 4 KiB block, or bytes that go nowhere (05 R150). -/
inductive DstPiece where
  | plot (core addr len : Nat) (aow : Nat) (cnt : Option Nat)
  | mem (va len : Nat) (org : Bool)
  | drop (len : Nat)
deriving DecidableEq, Repr, Inhabited

/-- Bytes a command has read, or waits for (request `rid`). -/
structure Chunk where
  rid : Option Nat
  len : Nat
  data : List PByte
deriving DecidableEq, Repr, Inhabited

/-- A started long command of an engine and how far it is. `rd` counts reads and `wr` writes under way. -/
structure Running where
  cmd : LongCmd
  srcs : List SrcPiece := []
  buf : List Chunk := []
  dsts : List DstPiece := []
  rd : Nat := 0
  wr : Nat := 0
  /-- CORE cycle count since which a tagged access of the command waits (04 R114). -/
  tagSince : Option Nat := none
  /-- The same for a tagged write into the own Plot. -/
  wtagSince : Option Nat := none
  /-- The command waits for a page walk (10 R276). -/
  walkWait : Bool := false
  oob : Bool := false
  /-- Frame boundaries a request waited across, and whether a link message was refused (16 R447). -/
  defer : Nat := 0
  refused : Bool := false
  /-- Saturated word writes (07 R210). -/
  sat : Nat := 0
  /-- The snapshot record has been queued (21 R581), or the port's outcome has been written (11, 14). -/
  closing : Bool := false
  /-- A SNAP whose condition held at its start (21 R580). -/
  snap : Bool := false
  /-- Some byte written was poisoned (21 R581 bit 3). -/
  poisonSeen : Bool := false
  /-- What an engine holds back until its tagged sources are FULL: the command has not read its operands (04 R112). -/
  held : Bool := false
  /-- CORE cycle count at which a Parterre or Trellis command has begun to read its operands (06 R170, R175). -/
  begunAt : Option Nat := none
  /-- Cycles for which bank conflicts hold up its feed (06 R176, 08 R223). -/
  stalls : Nat := 0
  /-- A packet of the command has touched an overlap of windows at its destination (04 R111). -/
  multi : Bool := false
  /-- Bytes written so far of each slot of a TAGGED window that the command writes in smaller pieces (04 R112, 11 R317). -/
  slots : Sparse Nat := []
deriving DecidableEq, Repr, Inhabited

/-- The queue of an engine and its started commands (04 R99). -/
structure EngSt where
  queue : List LongCmd := []
  run : List Running := []
deriving DecidableEq, Repr, Inhabited

/-- A stationary tile (05 R154): `k` rows of `n` elements row-major, raw codes of format `fmt`, and its MX scales. -/
structure Tile where
  k : Nat
  n : Nat
  fmt : Nat
  sign : Bool
  elems : List Nat
  scales : List Nat
deriving DecidableEq, Repr, Inhabited

/-- One bed of the Parterre (05 R154): valid active and standby tiles. A tile that is not valid is none. -/
structure Bed where
  active : Option Tile := none
  standby : Option Tile := none
deriving DecidableEq, Repr, Inhabited

/-- A remote write packet of the Hedgerow (09 R244), or a SIGNAL (05 Table 5-4: `signal` set, no data). -/
structure Packet where
  id : Nat
  src : Nat
  dst : Nat
  pav : Nat
  addr : Nat
  data : List PByte
  aow : Nat
  cnt : Option Nat
  amount : Nat
  signal : Bool
  /-- The long command that sent it, 0 for a unit of the chip. -/
  cmd : Nat
deriving DecidableEq, Repr, Inhabited

/-- A held remote write (04 R114): the packet and the CORE cycle count at which it was held. -/
structure HeldPacket where
  pkt : Packet
  since : Nat
deriving DecidableEq, Repr, Inhabited

/-- One map-buffer entry (10 R277): page base addresses and size, W, OC, and the frame its walk completed in. -/
structure MapEntry where
  va : Nat
  pa : Nat
  size : Nat
  w : Bool
  oc : Bool
  frame : Nat
deriving DecidableEq, Repr, Inhabited

/-- Translation of a core (10 R276, R277, R283): map buffer, round-robin pointer, the address under walk, MEM_FAULT. -/
structure MapSt where
  entries : Sparse MapEntry := []
  rr : Nat := 0
  walk : Option Nat := none
  memFault : Nat := 0
  memFaults : Nat := 0
deriving DecidableEq, Repr, Inhabited

/-- A column repair (09 R259). -/
structure Repair where
  bank : Nat
  sub : Nat
  column : Nat
  spare : Nat
deriving DecidableEq, Repr, Inhabited

/-- A detected line, or a faulty column, that waits for its classification or repair (09 R258, R266): whether it came from a sweep (R261), and how
far it is: 0 waits for the sweep of its bank, 1 column fault, 2 cell fault, 3 done. -/
structure Suspect where
  bank : Nat
  sub : Nat
  row : Nat
  stage : Nat
  column : Nat
  sweep : Bool
  /-- Which sentinels failed: bit 0 the zeros, bit 1 the ones. -/
  which : Nat := 0
deriving DecidableEq, Repr, Inhabited

/-- A broken column of a sub-array, or one cell of it, and what it reads: 0, 1, or for 2 the inverse of what is stored (09 R257, R258). Columns
529 + i are the spares. -/
structure Broken where
  bank : Nat
  sub : Nat
  row : Option Nat
  column : Nat
  val : Nat
deriving DecidableEq, Repr, Inhabited

/-- A sentinel bit that has changed in its row, 512 of zeros or 513 of ones (09 R257). -/
structure SentFlip where
  bank : Nat
  sub : Nat
  row : Nat
  column : Nat
deriving DecidableEq, Repr, Inhabited

/-- Plot integrity of a core (09 R251 to R268). `spares` and `badSpares` are masks of the spares in use and of
those that failed a sentinel, by 4 · bank + sub-array. -/
structure PlotInt where
  detects : Nat := 0
  last : Nat := 0
  columnFaults : Nat := 0
  softFaults : Nat := 0
  softBank : Sparse Nat := []
  fenced : Nat := 0
  spares : Sparse Nat := []
  badSpares : Sparse Nat := []
  repairs : List Repair := []
  suspects : List Suspect := []
  /-- What is broken in the arrays, repaired or not. -/
  broken : List Broken := []
  sentFlips : List SentFlip := []
  scrubPending : Bool := false
  /-- STEP_FAILED is due when the core becomes FAULTED (09 R258). -/
  stepFailed : Bool := false
deriving DecidableEq, Repr, Inhabited

/-- A breakpoint (21 R573). -/
structure Bp where
  armed : Bool := false
  kind : Nat := 0
  mtch : DWord := 0
  cnt : Nat := 0
deriving DecidableEq, Repr, Inhabited

/-- Debug state of a core (21). -/
structure Dbg where
  bps : Sparse Bp := []
  reason : Nat := 0
  haltAddr : Nat := 0
  /-- CORE cycle count and local count at the last halt (21 R575; 02 R52). -/
  haltAt : Option (Nat × Nat) := none
  /-- The event that halted was passed by a forward step (02 R55). -/
  haltStepped : Bool := false
  single : Bool := false
  trace : List Nat := []
  traceMode : Nat := 0
  triggered : Bool := false
  /-- The trigger event was passed by a forward step (02 R55). -/
  trigStepped : Bool := false
deriving DecidableEq, Repr, Inhabited

/-- Checkmate run of a core (18 R504 to R507): who started it. -/
inductive CmRun where
  | none
  | machenil
  | clear
  | lease
deriving DecidableEq, Repr, Inhabited

/-- Fence state of a core (18 R508): 0 OK, 1 SUSPECT, 2 FENCED, 3 SHIPPED; the reason it is SUSPECT for; CM_LAST; the run in
progress. -/
structure FenceSt where
  st : Nat := 0
  reason : Nat := 0
  cmLast : Nat := 0
  run : CmRun := .none
  /-- CORE cycle count when that run began. -/
  runAt : Nat := 0
  /-- A core reset of 15 R424 is in progress. -/
  coreReset : Bool := false
deriving DecidableEq, Repr, Inhabited

/-- The control core (04 R100 to R120). -/
structure Ctl where
  st : CState := .idle
  split : Bool := false
  stepNum : Word := 0
  stepState : Nat := 1
  stepAddr : Nat := 0
  fault : Nat := 0
  faultAddr : Nat := 0
  sregs : Sparse Word := []
  drain : Drain := .none
  /-- Frame of the last CORE_FAULT, MEM_FAULT, PLOT_DETECT and HALT record (04 R120, 10 R283, 09 R254, 21 R584). -/
  recFrame : Sparse Nat := []
  /-- From the detection to the next accepted start request, written lines carry poison (09 R255). -/
  poisoning : Bool := false
deriving DecidableEq, Repr, Inhabited

/-- The Parterre, the Cistern and their saturation state (05 R154, 06 R168, 07 R209). -/
structure ParSt where
  eng : EngSt := {}
  bedCount : Nat := 1
  beds : Sparse Bed := []
  cistern : Sparse Word := []
  satFlags : Nat := 0
  satCount : Sparse Nat := []
deriving DecidableEq, Repr, Inhabited

/-- The Plot of a core (09): bytes; columns 512 to 528 of the lines that hold anything but the matching code and a mark of 0, as code + 2^16 · mark
(R239, R251, R252); slot tags (FULL is true). -/
structure PlotSt where
  bytes : Mem := []
  chk : Sparse Nat := []
  tags : Sparse Bool := []
deriving DecidableEq, Repr, Inhabited

/-- Disposition registers of a core (16 Table 16-3). -/
structure Disp where
  last : Nat := 0
  deferred : Nat := 0
  refused : Nat := 0
deriving DecidableEq, Repr, Inhabited

/-- One core. -/
structure Core where
  ctl : Ctl := {}
  sa : StreamSt := {}
  sx : StreamSt := {}
  cnts : Sparse Word := []
  wins : Sparse Window := []
  qs : Sparse DataQ := []
  mover : EngSt := {}
  dice : EngSt := {}
  rot : EngSt := {}
  par : ParSt := {}
  tre : EngSt := {}
  plot : PlotSt := {}
  pint : PlotInt := {}
  pbuf : List HeldPacket := []
  map : MapSt := {}
  dbg : Dbg := {}
  fence : FenceSt := {}
  disp : Disp := {}
deriving DecidableEq, Repr, Inhabited

end Sys2Proof.Machine
end

