-- ==== Sys2Proof/Machine/PavState.lean ====
section
/-! DEFINITION. Machine/PavState.lean: what a Pavilion holds (11, 12, 14, 15, 16, 17, 18, 21), as plain data. -/

namespace Sys2Proof.Machine

/-- PAV_STATE (15 R409). -/
inductive PState where
  | free
  | active
  | resetting
  | destroying
deriving DecidableEq, Repr, Inhabited

/-- A message of the links (13 Table 13-4), with the level it was marked with (0 to 2, 3 for SYSTEM). `len` is the LENGTH of a received header, where
the data is not all there yet; `arr` the CORE cycle count at which it came to its destination, this chip. -/
structure Msg where
  dst : Nat
  src : Nat
  dpav : Nat
  spav : Nat
  kind : Nat
  hops : Nat
  arg0 : Nat
  arg1 : Nat
  data : List PByte
  level : Nat
  len : Option Nat := none
  arr : Nat := 0
deriving DecidableEq, Repr, Inhabited

/-- A queued batch row (12 R334, R337): stream, DEFER count, and the slot start at which its record was queued, by its time and its number. -/
structure BsRow where
  stream : Nat
  defer : Nat
  at_ : Nat
  slot : Nat := 0
deriving DecidableEq, Repr, Inhabited

/-- A batch row as it is delivered (12 Table 12-2, a 256-bit number), with its class and queue time (16 R448). -/
structure BsOut where
  row : Nat
  cls : Nat
  at_ : Nat
deriving DecidableEq, Repr, Inhabited

/-- A closed batch (12 R336, R340). -/
structure Batch where
  num : Nat
  rows : List BsOut
  fill : Bool
  flags : Nat
  time : Nat
deriving DecidableEq, Repr, Inhabited

/-- The Bandstand of a Pavilion (12). `eff` holds the settings in force since the last slot start (R343), by subindex; `due` is a deadline that has
been reached and not been acted on, `lastDue` the one acted on last, by slot; `reading` says that a ring read waits for the host. -/
structure BsSt where
  queue : List BsRow := []
  head : Nat := 0
  headInit : Bool := false
  ringFault : Bool := false
  overrun : Bool := false
  batchNo : Nat := 0
  waiting : List Batch := []
  written : Nat := 0
  released : Nat := 0
  held : List Batch := []
  retire : List Nat := []
  eff : Sparse Nat := []
  due : Option Nat := none
  lastDue : Option Nat := none
  reading : Bool := false
deriving DecidableEq, Repr, Inhabited

/-- A token of a ROUTE in a round (11 R309 to R311): candidates in order, and how many have been taken or passed over. -/
structure Tok where
  source : Nat
  pos : Nat
  stream : Nat
  cands : List Nat
  used : Nat
  noExpert : Bool
deriving DecidableEq, Repr, Inhabited

/-- A choice of a round at its source (11 R311 to R317). `state`: 0 open, 1 requested and waiting, 2 admitted, 3 refused,
4 written. -/
structure Choice where
  source : Nat
  pos : Nat
  c : Nat
  expert : Option Nat
  probe : Nat
  state : Nat
  late : Bool
  noExpert : Bool
deriving DecidableEq, Repr, Inhabited

/-- A ROUTE that takes part in a round: core, command identity, its fields and its token rows. -/
structure RSrc where
  core : Nat
  cmd : Nat
  source : Nat
  k : Nat
  count : Nat
  rowBytes : Nat
  results : Nat
  cnt : Option Nat
  rows : List PByte
  left : Nat
  start : Nat := 0
deriving DecidableEq, Repr, Inhabited

/-- A round at its source chip (11 R307 to R315). -/
structure DRound where
  num : Nat
  openAt : Nat
  isOpen : Bool
  phase : Nat
  frame : Nat
  hold : Nat
  srcs : List RSrc
  toks : List Tok
  choices : List Choice
  awaiting : List Nat
  skips : List Nat
deriving DecidableEq, Repr, Inhabited

/-- A request at a home chip: its tag and expert (13 Table 13-5). -/
structure HReq where
  tag : Nat
  expert : Nat
deriving DecidableEq, Repr, Inhabited

/-- A token row with its tag. -/
structure TagRow where
  tag : Nat
  row : List PByte
deriving DecidableEq, Repr, Inhabited

/-- A round at its home chip (11 R313, R314): phase, chips whose markers came, time of the first, requests, admissions in
order, and the rows that have arrived. -/
structure HRound where
  num : Nat
  phase : Nat
  markers : List Nat
  first : Option Nat
  reqs : List HReq
  admitted : List HReq
  rows : List TagRow
  closed : Bool
deriving DecidableEq, Repr, Inhabited

/-- Rows delivered to an expert and not yet released (11 R318, R319): where they lie, the counter value that releases them, and the frame at which
they expire. -/
structure Inbox where
  expert : Nat
  round : Nat
  tags : List Nat
  core : Nat
  cnt : Nat
  addr : Nat
  rowBytes : Nat
  target : Nat
  until_ : Nat
  poison : List Nat
deriving DecidableEq, Repr, Inhabited

/-- The admitted rows of one expert in one round, by tag in admission order, not yet in its inbox (11 R318, R319), with the expert's entry and the
settings of the round. -/
structure Delivery where
  round : Nat
  expert : Nat
  entry : Nat
  rowBytes : Nat
  hold : Nat
  rows : List TagRow
deriving DecidableEq, Repr, Inhabited

/-- A command at a port: core and identity, and the cycle in which it started. -/
structure PortCmd where
  core : Nat
  cmd : Nat
  start : Nat := 0
deriving DecidableEq, Repr, Inhabited

/-- The Dice of a Pavilion (11). `eff` holds the committed and round-latched settings by subindex. -/
structure DiceSt where
  active : Sparse Nat := []
  standby : Sparse Nat := []
  eff : Sparse Nat := []
  loading : Bool := false
  loaded : Bool := false
  failed : Bool := false
  late : Bool := false
  commitRound : Nat := 0
  loadE : Nat := 0
  loadSrc : Nat := 0
  round : Nat := 0
  rnd : Option DRound := none
  homes : List HRound := []
  skip : List Nat := []
  /-- Admitted rows waiting for delivery to their experts. -/
  toDeliver : List Delivery := []
  inboxes : List Inbox := []
  /-- ROUTEs that wait at the port for a round, in order of start: core and command. -/
  waiting : List PortCmd := []
  /-- Choices of past rounds whose results are outstanding. -/
  past : List DRound := []
deriving DecidableEq, Repr, Inhabited

/-- A mask core's part of a collective instance: core, command, source, destination, record, length, launch. -/
structure Part where
  core : Nat
  cmd : Nat
  src : Nat
  dst : Nat
  record : Nat
  len : Nat
  launch : Nat
  written : Bool
deriving DecidableEq, Repr, Inhabited

/-- A failure of an instance: status code, origin chip, REMOTE (14 R395 to R398). -/
structure RFail where
  code : Nat
  origin : Nat
  remote : Bool
deriving DecidableEq, Repr, Inhabited

/-- A collective instance on this chip (14 R391 to R399): its parts, the chip vector, and how far it is. `readyAt` is the start of the last
mask core and `past` says that LAUNCH had passed then; `due` is a LAUNCH that is still to come (02 R52); `ex` numbers the exchange in
progress, a stage of the reduce or gather phase, and `got` counts its bytes received; `sats` holds the shards of the chip vector that met a
clamp (R390); `refused` says that a COLLECT got PLAN_INVALID because a mask core is fenced (R405), `putting` that DST is being written. -/
structure Inst where
  plan : Nat
  num : Nat
  parts : List Part
  launched : Bool := false
  readyAt : Option Nat := none
  past : Bool := false
  due : Option Nat := none
  refused : Bool := false
  flags : Nat := 0
  len : Nat := 0
  vec : List PByte := []
  ex : Nat := 0
  got : Nat := 0
  complete : Bool := false
  putting : Bool := false
  sats : List Nat := []
  fail : Option RFail := none
deriving DecidableEq, Repr, Inhabited

/-- The Rotunda of a Pavilion (14). -/
structure RotSt where
  plans : Sparse Nat := []
  counts : Sparse Nat := []
  staged : Sparse Nat := []
  loading : Option (Nat × Nat) := none
  loaded : Bool := false
  failed : Bool := false
  insts : List Inst := []
deriving DecidableEq, Repr, Inhabited

/-- Contract state of a Pavilion (16). Bucket levels are in 1/(1,024 · 10^7) of the unit of their resource (R435); key r for
resource r, 100 + port for r = 4. -/
structure CtSt where
  ct : Sparse Nat := []
  bu : Sparse Nat := []
  buRows : Nat := 0
  eff : Sparse Nat := []
  hist : Sparse Nat := []
  miss : Sparse Nat := []
  stepped : Nat := 0
deriving DecidableEq, Repr, Inhabited

/-- One Pavilion (15 R409, R422). `resetAt` is the step of a reset in progress: 0 none, 2 draining (step 1 done), 3 step 3 to 7
done. -/
structure Pav where
  st : PState := .free
  resetCount : Nat := 0
  lastReset : Nat := 0
  resetAt : Nat := 0
  destroyV : Nat := 0
  bs : BsSt := {}
  dice : DiceSt := {}
  rot : RotSt := {}
  ct : CtSt := {}
  energy : Sparse Nat := []
  snapCount : Nat := 0
  leaseStatus : Nat := 0
deriving DecidableEq, Repr, Inhabited

end Sys2Proof.Machine
end

