-- ==== Sys2Proof/Machine/ChipState.lean ====
section
/-! DEFINITION. Machine/ChipState.lean: what the units of the chip hold outside cores and Pavilions (02, 03, 10, 13, 15, 17 to
21, 23), as plain data. -/

namespace Sys2Proof.Machine

/-- Causes that hold the chip in FAULT (19 R524, 17 R480, R486, 23 R610, 20 R544). -/
structure Causes where
  train : Bool := false
  rail : Bool := false
  thermtrip : Bool := false
  refclk : Bool := false
  mgmt : Bool := false
deriving DecidableEq, Repr, Inhabited

/-- The boot sequence, the pins and the reference clocks (19, 23 R610, R611). -/
structure Boot where
  pwrgood : Bool := false
  perstN : Bool := false
  thermtripLow : Bool := false
  phase : Nat := 0
  standby : Bool := false
  ready : Bool := false
  causes : Causes := {}
  fail : Nat := 0
  cause : Nat := 0
  times : Sparse Nat := []
  t0 : Nat := 0
  warm : Bool := false
  romFail : Bool := false
  image : Nat := 0
  /-- Milestone 1, in ns since PWRGOOD: the thermal readings are 125 µs apart from there (19 Table 19-2). -/
  upAt : Nat := 0
  ready8 : Nat := 0
  clk : Nat := 0
  clkStart : Nat := 0
  /-- CHIP_STATE last signalled to PF0 (15 Table 15-6 bit 7). -/
  lastState : Nat := 0
  /-- New firmware is being handed over to: requests wait (20 R557). -/
  handover : Bool := false
deriving DecidableEq, Repr, Inhabited

/-- The epoch a chip holds (02 R36, R45). -/
structure Epoch where
  id : Nat
  tai : Nat
deriving DecidableEq, Repr, Inhabited

/-- Sundial (02): SUNDIAL_STATE is 0 FREE, 1 HOLDOVER, 2 LOCKED; SUNDIAL_REF 0 NONE, 1 BLP, 2 PTP, 3 LOCAL. -/
structure Sundial where
  now : Nat := 0
  /-- Trim of the source's rate in ppm (02 R47), and the part of a count a trimmed rate has gained, in 10^-9 ns. -/
  trim : Int := 0
  trimFrac : Int := 0
  epoch : Option Epoch := none
  st : Nat := 0
  ref : Nat := 0
  isSource : Bool := false
  srcChip : Nat := 0x7FFF
  srcPrio : Nat := 0
  hops : Nat := 0xFF
  upstream : Option Nat := none
  offset : Option Int := none
  /-- Time since cold reset at which the offset was measured. -/
  offsetAt : Nat := 0
  inBound : Nat := 0
  holdSince : Option Nat := none
  lockBound : Nat := 0
  lastLock : Nat := 0
  treeDepth : Bool := false
  stepped : Bool := false
  electing : Bool := false
  ptpLast : Option Nat := none
  ptpOffset : Int := 0
  /-- TAI time, in ns since 1970, of the last Sync (02 R45). -/
  ptpTai : Nat := 0
  ppsLast : Nat := 0
  ppsOut : Bool := false
  ppsRise : Nat := 0
  lossSince : Option Nat := none
deriving DecidableEq, Repr, Inhabited

/-- CORE cycles since the cold reset and the fraction of a cycle in thousandths (04 R114, 09 R257, 23 R609); the last frame and
slot whose start has been processed; whether a forward step has just passed events (02 R55). -/
structure Cycles where
  /-- Nanoseconds since PWRGOOD rose: durations are measured on it, as the local count may be set or stepped (02 R50, 19 R530). -/
  ns : Nat := 0
  cycles : Nat := 0
  frac : Nat := 0
  frame : Nat := 0
  stepFrom : Option Nat := none
  /-- Local count just after the last forward step (16 R450). -/
  lastStep : Nat := 0
  /-- Last slot (64 · frame + slot) whose start the Bandstand has processed (12 R334). -/
  slotDone : Option Nat := none
deriving DecidableEq, Repr, Inhabited

/-- The requester's own holdings (03 R75, R87, R88, 20 R550, 21 R571). -/
structure ReqSt where
  latch : Option (Nat × Nat) := none
  staging : Option (Nat × Nat) := none
  logSel : Nat := 0
  tallySel : Nat := 0
  dbgSel : Nat := 0
  /-- Mailbox registers (03 Table 3-8): MBX_REQ, MBX_ARG, MBX_WDATA, MBX_STATUS, MBX_RDATA. -/
  mreq : Nat := 0
  marg : Nat := 0
  mwdata : Nat := 0
  mstatus : Nat := 0
  mrdata : Nat := 0
  /-- I3C (03 R86): the last reply (status, DATA), none before a request. -/
  reply : Option (Nat × Nat) := none
  running : Bool := false
deriving DecidableEq, Repr, Inhabited

/-- A MOP session (03 R78, R81): role 0 OBSERVER, 1 OPERATOR, 2 VENDOR; time of the last client record. -/
structure Session where
  isOpen : Bool := false
  role : Nat := 0
  last : Nat := 0
deriving DecidableEq, Repr, Inhabited

/-- A live subscription (03 R82). -/
structure Sub where
  id : Nat
  sess : Nat
  index : Nat
  sub : Nat
  count : Nat
  block : Bool
  period : Nat
  /-- The frame in which it was made or last pushed. -/
  last : Nat := 0
deriving DecidableEq, Repr, Inhabited

/-- A dictionary request (03): a mailbox request of a function (MBX_REQ, MBX_ARG, MBX_WDATA), an I3C private write, a MOP record, a half
access, a whole read, a whole write of `len` bytes at `off`, a MOP record that carries a token; or an SPDM request at the DOE of a function
(20 R559). -/
inductive DReq where
  | mbx (f req arg data : Nat)
  | i3c (bytes : List Byte)
  | mop (k : Nat) (record : List Byte)
  | half (who : Requester) (write high : Bool) (index sub v : Nat)
  | get (who : Requester) (index sub : Nat)
  | put (who : Requester) (index sub off len v : Nat)
  | auth (k : Nat) (record : List Byte) (token : Token)
  | doe (f code index : Nat)
deriving DecidableEq, Repr, Inhabited

/-- A request that waits for milestone 2, for the end of a hand-over or for a restarted Machenil, and when it came (19 R527, 20 R544,
R557). -/
structure QReq where
  req : DReq
  at_ : Nat
deriving DecidableEq, Repr, Inhabited

/-- The dictionary's own state (03): subscriptions, I3C bus state, waiting requests. -/
structure Dict where
  subs : List Sub := []
  i3cAddr : Option Nat := none
  i3cEvents : Bool := false
  queue : List QReq := []
  sessions : Sparse Session := []
deriving DecidableEq, Repr, Inhabited

/-- One PCIe function (15 R420, Table 15-3). The MSI-X table is by 32-bit word: entry v holds address, upper address, data and control in
words 4v to 4v + 3. -/
structure Fn where
  pending : Nat := 0
  mask : Nat := 0
  vector : Nat := 0
  listMap : Nat := 0
  dbRefusal : Nat := 0
  msix : Bool := false
  fnMask : Bool := false
  msixTable : Sparse Nat := []
  busMaster : Bool := false
  pba : Nat := 0
deriving DecidableEq, Repr, Inhabited

/-- The PCIe core (15, 19 R528, R535): the BAR registers of PF0 and of its VFs as the host has written them, the payload and read request sizes
in bytes, VF Enable, the end of the Retry Status period after PERST_N rises. -/
structure Pcie where
  bars : Sparse Nat := []
  vfBars : Sparse Nat := []
  maxPayload : Nat := 128
  maxReadRequest : Nat := 512
  vfEnable : Bool := false
  linkUp : Bool := false
  crsUntil : Nat := 0
deriving DecidableEq, Repr, Inhabited

/-- Metadata of the tiers: by number PA ÷ 4,096, what the stored Pip code of a 4 KiB block differs by from the CRC of the block (18 R497: 0
good, all ones poisoned, anything else detected; none UNWRITTEN), poisoned bursts by PA ÷ 64 (10 R636), bursts with an error (1 correctable,
2 uncorrectable; 10 R292), sweep position, start and last duration per controller (18 R503). -/
structure MemMeta where
  pip : Sparse Nat := []
  mark : List Nat := []
  err : Sparse Nat := []
  sweep : Sparse Nat := []
  sweepStart : Sparse Nat := []
  pipFails : Nat := 0
  sweepMs : Sparse Nat := []
deriving DecidableEq, Repr, Inhabited

/-- A line of the Orangery (10 R285): slice, set, way, Pavilion, line address, held and dirty byte masks, bytes, whether it is
poisoned or detected (10 R293), last use. -/
structure OLine where
  slice : Nat
  way : Nat
  pav : Nat
  addr : Nat
  mask : Nat
  dirty : Nat
  data : List PByte
  detected : Bool
  used : Nat
deriving DecidableEq, Repr, Inhabited

/-- The Orangery (10): near and far lines, use clock. -/
structure Orangery where
  near : List OLine := []
  far : List OLine := []
  clock : Nat := 0
deriving DecidableEq, Repr, Inhabited

/-- A request at an arbiter (16 R436): requesting core and engine command, Pavilion, resource, level, the access, the frame
in which it began to wait, and the CORE cycle count at which it came to its present arbiter. -/
structure Req where
  id : Nat
  core : Nat
  cmd : Nat
  pav : Nat
  res : Nat
  level : Nat
  write : Bool
  va : Nat
  pa : Nat
  len : Nat
  data : List PByte
  org : Bool
  frame : Nat
  pkt : Option Packet
  arr : Nat := 0
deriving DecidableEq, Repr, Inhabited

/-- A host-window read of a chip unit (10 R271; unit 0 the Bandstand, 1 the Dice, 2 the Rotunda): its request on the PCIe link, and what came
back: bytes, or an error. -/
structure Fetch where
  id : Nat
  pav : Nat
  unit : Nat
  pa : Nat
  len : Nat
  got : Option (Option (List PByte)) := none
deriving DecidableEq, Repr, Inhabited

/-- The arbiters (16 R437): requests waiting for a grant in arrival order, granted reads under way, host-window requests on the
PCIe link, those of chip units, next identity. -/
structure Arb where
  waiting : List Req := []
  reads : List Req := []
  host : List Req := []
  fetch : List Fetch := []
  nextId : Nat := 1
deriving DecidableEq, Repr, Inhabited

/-- A DATA flit (13 R352): virtual channel, HEAD, TAIL, POISON and its 240 payload bytes. -/
structure DFlit where
  vc : Nat
  head : Bool
  tail : Bool
  poison : Bool
  payload : List Byte
deriving DecidableEq, Repr, Inhabited

/-- A message in a port's transmit queue (13 R359, R366): flits still to send, whether its TAIL is in the queue, whether its first
flit has been sent, the input port and virtual channel of a transit message as 8 · port + channel, its Pavilion, header, sender
command, and the frame it began to wait. -/
structure TxMsg where
  vc : Nat
  pav : Nat
  inPort : Option Nat
  flits : List DFlit
  whole : Bool
  started : Bool
  hdr : Msg
  core : Nat
  cmd : Nat
  frame : Nat
deriving DecidableEq, Repr, Inhabited

/-- Where a message being received goes (13 R362): output port, this chip, or nowhere (discarded). -/
inductive Route where
  | port (p : Nat)
  | here
  | discard
deriving DecidableEq, Repr, Inhabited

/-- Receive side of one VC: flits in the buffer, route of the message in progress, bytes reassembled for this chip. -/
structure RxVc where
  flits : List DFlit := []
  route : Option Route := none
  got : List PByte := []
deriving DecidableEq, Repr, Inhabited

/-- Time words of a port (02 R39, R40). -/
structure PortTime where
  last : Option Nat := none
  lastSent : Nat := 0
  txSeq : Nat := 0
  txAt : Sparse Nat := []
  echoSeq : Nat := 0
  echoRx : Nat := 0
  hops : Nat := 0xFF
  epoch : Nat := 0
  tai : Nat := 0
  src : Nat := 0x7FFF
  prio : Nat := 0
  state : Nat := 0
  ahead : Int := 0
  delays : List Int := []
  mismatch : Bool := false
deriving DecidableEq, Repr, Inhabited

/-- A DATA flit sent and not acknowledged: its SEQ, and the message it belongs to (13 R357, R371). -/
structure RFlit where
  seq : Nat
  flit : DFlit
  hdr : Msg
deriving DecidableEq, Repr, Inhabited

/-- Retry and credit state of a port (13 R354 to R358). `rxSeq` is the next SEQ expected; `rxAny` says that some flit has arrived in
order. -/
structure PortLl where
  txSeq : Nat := 0
  rxSeq : Nat := 0
  rxAny : Bool := false
  nakDue : Bool := false
  dropping : Bool := false
  nakCount : Nat := 0
  retry : List RFlit := []
  replay : List RFlit := []
  credits : Sparse Nat := []
  owed : Sparse Nat := []
  owedNext : Nat := 0
  granted : Sparse Nat := []
  initSent : Nat := 0
  initGot : Bool := false
deriving DecidableEq, Repr, Inhabited

/-- A Belvedere port (13). State codes of Table 13-7. -/
structure Port where
  st : Nat := 0
  fenced : Bool := false
  wasUp : Bool := false
  peer : Option (Nat × Nat) := none
  peerHold : Bool := false
  holdEst : Nat := 0
  fecCorr : Nat := 0
  fecUncorr : Nat := 0
  retries : Nat := 0
  creditLoop : Nat := 0
  fails : Nat := 0
  since : Nat := 0
  /-- A failed training attempt has ended; the next begins then (13 Table 13-7). -/
  retryAt : Option Nat := none
  /-- Uncorrectable codewords in the present frame (13 R371). -/
  frameUncorr : Nat := 0
  /-- Earliest time of an INIT under the estimate last sent (13 R370). -/
  noInitBefore : Nat := 0
  /-- Flit-stream blocks sent since the last alignment block (13 R351). -/
  blocks : Nat := 0
  ll : PortLl := {}
  rx : Sparse RxVc := []
  tx : List TxMsg := []
  tm : PortTime := {}
  /-- Flits of the Ethernet frame under construction and the time of the first; time of the last frame (13 R375). -/
  ethBuf : List (BitVec 2048) := []
  ethFirst : Nat := 0
  ethLast : Nat := 0
deriving DecidableEq, Repr, Inhabited

/-- A message waiting at injection (13 R362, R366). -/
structure Inject where
  msg : Msg
  core : Nat
  cmd : Nat
  frame : Nat
deriving DecidableEq, Repr, Inhabited

/-- Routing and delivery (13 R362, R363): ROUTE_ACTIVE (none: as after reset), active bundles, messages delivered to this chip in arrival
order, messages that wait for an earlier one of their flow, the number of link groups that have started training and when the last
of them did (R369). -/
structure LinkSt where
  active : Option Nat := none
  bundles : Sparse Nat := []
  delivered : List Msg := []
  inject : List Inject := []
  group : Nat := 0
  groupAt : Nat := 0
  /-- Arrival ports of the Stalemate messages among `delivered`, in order (21 R579). -/
  sysIn : List Nat := []
  /-- Stalemate IDs applied, newest first, at most 16, and the next sequence (21 R579). -/
  stIds : List Nat := []
  stSeq : Nat := 0
deriving DecidableEq, Repr, Inhabited

/-- One voltage rail (17 R476 to R480), in mV. -/
structure Rail where
  target : Nat := 750
  readback : Nat := 750
  done : Bool := false
  slewing : Bool := false
  fault : Bool := false
  since : Nat := 0
deriving DecidableEq, Repr, Inhabited

/-- Power, rails, thermal and energy (17). `capEff`, `allot`, `floorEff`, `ballast` and `ballastMax` are in 1/256 W, so that MP_RAMP is a
whole number of it per slot. `draw` is what the groups draw in the slot under the cap, `run` what they draw under Millpond too; `mayBreach` says
that one of the cases of R464 holds; `env` bounds the power of the slot of `mpSlot` by R465, from below and above. `capTherm`: it is held
down by thermal limiting (R484). `stepAt` is t_e of the pending floor step (R470). The last frame counted in PWR_BREACH_FRAMES, and the last
slots the split and Millpond have processed. `droops` holds the largest droop of each of the last 16 frames, newest first (19 R532). -/
structure Power where
  now : Nat := 0
  capEff : Nat := 358400
  capRamp : Bool := false
  capTherm : Bool := false
  stepAt : Nat := 0
  breachCounted : Option Nat := none
  splitSlot : Option Nat := none
  mpSlot : Option Nat := none
  shareBreach : Bool := false
  breachFrames : Nat := 0
  lastBreach : Option Nat := none
  allot : Sparse Nat := []
  draw : PowerDemand := {}
  run : PowerDemand := {}
  mayBreach : Bool := false
  env : Option (Nat × Nat) := none
  mpState : Nat := 0
  floorEff : Nat := 0
  ballast : Nat := 0
  ballastMax : Nat := 0
  covered : Bool := false
  mpBreach : Bool := false
  /-- The active V/F point; none while the core clock stands still. -/
  vf : Nat := 0
  clockOn : Bool := false
  vfCeil : Nat := 15
  thermDown : Nat := 0
  droopG : Nat := 15
  droops : List Nat := []
  aging : Nat := 0
  hours : Nat := 0
  rails : Sparse Rail := []
deriving DecidableEq, Repr, Inhabited

/-- Calibration, energy counters and sensors (17, 20 R547). `calEnd` is the end of the window on the local count; `calBroken`: an engine or
ballast has started in it (R482). `missed` counts readings missed in a row, keyed 256 · class + index; `flagged` lists the sensors of
SENSOR_FAULT. -/
structure Energy where
  calStatus : Nat := 0
  calEnd : Nat := 0
  calBroken : Bool := false
  calRunning : Bool := false
  calForced : Bool := false
  calOffsets : Nat := 0
  calTime : Nat := 0
  total : Nat := 0
  ballast : Nat := 0
  uncharged : Nat := 0
  retired : Nat := 0
  frac : Nat := 0
  suspect : Bool := false
  therm : Sparse Int := []
  thermMax : Int := 0
  thermHot : Nat := 0
  warn : Bool := false
  limit : Bool := false
  emergency : Bool := false
  belowSince : Option Nat := none
  thermStep : Nat := 0
  droop : Sparse Nat := []
  current : Sparse Int := []
  missed : Sparse Nat := []
  flagged : List Nat := []
deriving DecidableEq, Repr, Inhabited

/-- Integrity of the chip (18): fenced ports, Checkmate, fences not yet stored, detections since the cold reset. `cmLast` is when the last
scheduled run began, or milestone 8. -/
structure Integ where
  fencePorts : Nat := 0
  cmNext : Nat := 0
  cmRuns : Nat := 0
  cmFails : Nat := 0
  cmLast : Nat := 0
  storePending : Bool := false
  plotDetects : Nat := 0
  /-- The stored fence table (18 R513): fenced cores, fenced ports, and per core the bank fences and repairs. -/
  storedCores : Nat := 0
  storedPorts : Nat := 0
  storedPlots : Sparse PlotInt := []
deriving DecidableEq, Repr, Inhabited

/-- A log record (18 Table 18-2) as its 256-bit number. -/
structure LogSt where
  recs : Sparse Nat := []
  nextSeq : Nat := 0
  oldest : Nat := 0
  queued : Nat := 0
  lost : Nat := 0
  suppressed : Sparse Nat := []
  alert3 : Bool := false
deriving DecidableEq, Repr, Inhabited

/-- A firmware slot (20 Table 20-4, Table 20-6): 0 EMPTY, 1 VALID, 2 INVALID; its content, where it has been written since shipment. -/
structure Slot where
  st : Nat := 0
  version : Nat := 0
  rollback : Nat := 0
  key : Nat := 0
  len : Nat := 0
  data : Mem := []
  written : Bool := false
deriving DecidableEq, Repr, Inhabited

/-- One copy of the boot manifest (20 Table 20-1, R546): the slot to boot, and the sequence written last. -/
structure Manifest where
  slot : Nat := 0
  seq : Nat := 0
deriving DecidableEq, Repr, Inhabited

/-- Firmware update and Machenil (20 R544, R557). -/
structure FwSt where
  slots : Sparse Slot := []
  owner : Option Nat := none
  status : Nat := 0
  next : Nat := 0
  manA : Manifest := {}
  manB : Manifest := {}
  rollback : Nat := 0
  revoked : Nat := 0
  activated : Option Nat := none
  restarts : List Nat := []
  /-- Data received so far keeps the rate of R557 busy until then. -/
  rateUntil : Nat := 0
  down : Bool := false
  restartCause : Nat := 0
deriving DecidableEq, Repr, Inhabited

/-- The slot that the boot manifest names: the copy with the higher sequence holds (20 R546). -/
def FwSt.manifest (f : FwSt) : Nat := if f.manA.seq < f.manB.seq then f.manB.slot else f.manA.slot

/-- Write the boot manifest: the copy that was not written last takes the slot and the next sequence (20 R546). -/
def FwSt.setManifest (f : FwSt) (k : Nat) : FwSt :=
  if f.manA.seq < f.manB.seq then { f with manA := { slot := k, seq := f.manB.seq + 1 } }
  else { f with manB := { slot := k, seq := f.manA.seq + 1 } }

/-- Flash (20 Table 20-1): offset and size of the boot manifest's copies, firmware slots A and B, the persistent store, the event log and the
identity block. -/
def flashLayout : List (Nat × Nat) :=
  [(0, 64 * 1024), (0x10000, 24 * 1048576), (0x1810000, 24 * 1048576), (0x3010000, 2 * 1048576), (0x3210000, 2052 * 1024),
   (0x3411000, 12220 * 1024)]

/-- Bytes of a firmware slot, and sectors of 4 KiB of the event log. -/
def slotBytes : Nat := (flashLayout.getD 1 (0, 0)).2
def logSectors : Nat := (flashLayout.getD 4 (0, 0)).2 / 4096

/-- A 257-bit block of the FEC input (13 R351): 256 bits of flit stream below the flit-start bit, or an alignment block. -/
inductive Block where
  | data (bits : BitVec 257)
  | align
deriving DecidableEq, Repr, Inhabited

/-- What the block has sent, oldest first (log 2). -/
inductive Out where
  | msix (fn vector addr data : Nat)
  | mop (sess : Nat) (opcode seq index sub type status arg : Nat) (payload : List Byte)
  | mopClose (sess : Nat)
  | dtlsAlert (code : Nat)
  | i3c (status data : Nat)
  | i3cAck (ok : Bool)
  | i3cData (bytes : List Byte)
  | flit (port : Nat) (blocks : List Block)
  | frame (port : Nat) (bytes : List Byte)
  | pcieRead (fn addr len : Nat)
  | pcieWrite (fn addr : Nat) (data : List PByte)
  | cplData (fn : Nat) (data : List Byte) (ep : Bool)
  | cplUR (fn : Nat)
  | cplOK (fn : Nat)
  | crs
  | cfgOK
  | cfgData (fn data : Nat)
  | bar0 (fn : Nat) (data : Nat)
  | avs (rail target : Nat)
  | resp (who : Requester) (status data : Nat)
  | spdm (fn code : Nat) (body : List Nat)
deriving DecidableEq, Repr, Inhabited

end Sys2Proof.Machine
end

