-- ==== Sys2Proof/Machine/State.lean ====
section
/-! DEFINITION. Machine/State.lean: the state of the block, as plain data, with the queue of waiting commands, and the state after
reset. -/

namespace Sys2Proof.Machine

/-- The state of a KX8-144A. A unit without a row (a core, a Pavilion, a port, a function) is in its reset state. -/
structure State where
  boot : Boot := {}
  time : Sundial := {}
  cyc : Cycles := {}
  /-- Objects that hold a written value, keyed 256 · index + subindex (03 R67); one without a row holds its default. -/
  objs : Sparse Nat := []
  /-- Present lengths of STR and BLOB objects of variable size (03 R80), keyed as `objs`. -/
  blobLen : Sparse Nat := []
  reqs : Sparse ReqSt := []
  dict : Dict := {}
  cores : Sparse Core := []
  pavs : Sparse Pav := []
  /-- The stream table (12 R330): 256-bit entries by stream ID; one without a row is FREE, all zero. -/
  streams : Sparse Nat := []
  fns : Sparse Fn := []
  pcie : Pcie := {}
  /-- Bytes of HBM4 and the Grotto by physical address (10 R270), canonical; an unlisted byte reads 0 (18 R498). -/
  mem : Mem := []
  mmeta : MemMeta := {}
  org : Orangery := {}
  arb : Arb := {}
  /-- Hedgerow packets in flight, in the order they were granted (09 R244). -/
  net : List Packet := []
  ports : Sparse Port := []
  link : LinkSt := {}
  power : Power := {}
  energy : Energy := {}
  integ : Integ := {}
  log : LogSt := {}
  fw : FwSt := {}
  /-- Tally counters (21 R569), keyed 65,536 · ID + instance; chip totals at instance 0xFFFF. -/
  tally : Sparse Nat := []
  /-- Messages the block has sent (log 2). -/
  out : List Out := []
  /-- The number of free values drawn so far (log 7): the model's own. -/
  free : Nat := 0
  /-- Commands waiting, first in first out. -/
  pending : List Instr := []
deriving DecidableEq, Repr, Inhabited

/-- The block as it stands before PWRGOOD rises: every register at its reset value (00 to 24; log 3 where the spec gives none),
nothing queued. -/
def State.reset : State := {}

/-- The canonical form of the byte memory of the tiers. -/
abbrev State.memWf (s : State) : Prop := Mem.wf s.mem = true

/-- Why a step stops. No command of the block stops the model: every fault of the spec (a core fault, a memory fault, a chip FAULT)
is a next state, so this type has no constructor. -/
inductive Fault where
deriving DecidableEq, Repr

/-- Commands without a meaning. -/
inductive Refusal where
  /-- The command has no meaning yet; raised by its arm of exec. Safe: the model goes no further. -/
  | notModelled (mnemonic : String)
deriving DecidableEq, Repr

end Sys2Proof.Machine
end

