-- ==== Sys2Proof/Machine/Objects.lean ====
section
/-! DEFINITION. Machine/Objects.lean: the object index (03 R67 to R72, 24): type, access, default, range, persistence and role
marks of every object. -/

namespace Sys2Proof.Machine

/-- Access codes (03 R70). -/
inductive Acc where
  | ro
  | rw
  | rws
  | wo
  | cmd
deriving DecidableEq, Repr, Inhabited

/-- Tenant marks (24 R623). -/
inductive TMark where
  | none
  | r
  | rw
deriving DecidableEq, Repr, Inhabited

/-- One row of the object index: type code (03 Table 3-2), access, default, legal range of a number, largest size of a STR or BLOB
and whether its size varies, persistence, VENDOR mark, TENANT mark. -/
structure ObjInfo where
  ty : Nat
  acc : Acc
  dflt : Nat := 0
  lo : Nat := 0
  hi : Nat := 0xFFFFFFFFFFFFFFFF
  size : Nat := 0
  vari : Bool := false
  pers : Bool := false
  ven : Bool := false
  ten : TMark := .none
deriving DecidableEq, Repr, Inhabited

/-- Size in bytes of a type (03 Table 3-2); 0 for STR and BLOB. -/
def tySize (ty : Nat) : Nat :=
  match ty with
  | 1 | 2 => 1
  | 3 => 2
  | 4 | 6 | 7 => 4
  | 5 | 8 => 8
  | _ => 0

/-- U64 and TIME objects, which are read and written in halves on the mailbox and I3C (03 R87). -/
def tyWide (ty : Nat) : Bool := ty = 5 || ty = 8

/-- STR and BLOB. -/
def tyBytes (ty : Nat) : Bool := ty = 9 || ty = 10

def tBool := 1
def tU8 := 2
def tU16 := 3
def tU32 := 4
def tU64 := 5
def tI32 := 6
def tTime := 8
def tStr := 9
def tBlob := 10

/-- An object without a range of its own. -/
def ob (ty : Nat) (acc : Acc) (dflt : Nat := 0) (ten : TMark := .none) (pers : Bool := false) : ObjInfo :=
  { ty := ty, acc := acc, dflt := dflt, ten := ten, pers := pers, hi := if ty = 1 then 1 else 2 ^ (8 * tySize ty) - 1 }

/-- An object whose legal values are lo to hi. -/
def obR (ty : Nat) (acc : Acc) (dflt lo hi : Nat) (ten : TMark := .none) (pers : Bool := false) : ObjInfo :=
  { ty := ty, acc := acc, dflt := dflt, lo := lo, hi := hi, ten := ten, pers := pers }

/-- A STR or BLOB. -/
def obB (ty : Nat) (acc : Acc) (size : Nat) (vari : Bool := false) (ten : TMark := .none) (pers : Bool := false)
    (dflt : Nat := 0) : ObjInfo :=
  { ty := ty, acc := acc, size := size, vari := vari, ten := ten, pers := pers, dflt := dflt }

/-- Object key of an index and subindex. -/
def okey (index sub : Nat) : Nat := 256 * index + sub

/-- "KX8-144A" as the number of its bytes (24 Table 24-6). -/
def modelStr : Nat := 0x413434312D38584B

/-- Identity, boot, Sundial, management (24 Table 24-1). -/
def objChip (i s : Nat) : Option ObjInfo :=
  match i, s with
  | 0x1000, 1 => some (ob tU16 .ro 0 .r)
  | 0x1000, 2 => some (ob tU16 .ro 0x08A1 .r)
  | 0x1000, 3 => some (ob tU16 .ro 0x08A2 .r)
  | 0x1000, 4 => some (obB tStr .ro 255 true .r)
  | 0x1000, 5 => some (ob tU8 .ro 0 .r)
  | 0x1000, 6 => some (ob tU64 .ro)
  | 0x1000, 7 => some (obB tBlob .ro 18 false .r)
  | 0x1000, 8 => some (ob tU8 .ro 0 .r)
  | 0x1001, 1 => some (ob tU32 .ro 0x00010000 .r)
  | 0x1010, 1 => some (ob tU8 .ro 0 .r)
  | 0x1010, 2 => some (ob tBool .rw 0 .none true)
  | 0x1010, 3 => some (ob tBool .cmd)
  | 0x1010, 4 => some (ob tBool .cmd)
  | 0x1010, 5 => some (ob tU8 .ro)
  | 0x1010, 6 => some (ob tU8 .ro)
  | 0x1010, 7 => some (ob tU8 .ro)
  | 0x1100, 1 => some (ob tTime .ro 0 .r)
  | 0x1100, 2 => some (ob tU8 .ro 0 .r)
  | 0x1100, 3 => some (ob tU8 .ro)
  | 0x1100, 4 => some (ob tU32 .ro 0 .r)
  | 0x1100, 5 => some (ob tU64 .ro)
  | 0x1100, 6 => some (ob tU8 .ro)
  | 0x1100, 7 => some (ob tU32 .ro)
  | 0x1101, 1 => some (ob tU8 .rws 128)
  | 0x1101, 2 => some (ob tU16 .ro)
  | 0x1101, 3 => some (ob tU8 .ro)
  | 0x1101, 4 => some (ob tU8 .ro)
  | 0x1101, 5 => some (ob tU64 .ro)
  | 0x1102, 1 => some (ob tU32 .ro)
  | 0x1102, 2 => some (ob tTime .ro)
  | 0x1103, 1 => some (ob tBool .rws 1)
  | 0x1103, 2 => some (obR tU8 .rws 0 0 127)
  | 0x1103, 3 => some (ob tU32 .rws)
  | 0x1103, 4 => some (ob tU32 .rws)
  | 0x1103, 5 => some (ob tI32 .ro)
  | 0x1104, 1 => some (obR tU8 .rws 0 0 3)
  | 0x1104, 2 => some (ob tBool .rw 1)
  | 0x1104, 3 => some (ob tTime .ro)
  | 0x1104, 4 => some (ob tI32 .rw)
  | 0x1106, 1 => some (ob tBool .cmd)
  | 0x1200, 1 => some (ob tU64 .rws)
  | 0x1200, 2 => some (ob tU32 .rws)
  | 0x1200, 3 => some (ob tU32 .rws)
  | 0x1200, 4 => some (ob tU32 .rws)
  | 0x1200, 5 => some (ob tU8 .ro)
  | 0x1201, 1 => some (obB tBlob .rws 2048 true)
  | 0x1201, 2 => some (obB tBlob .rws 2048 true)
  | 0x1202, 1 => some (obB tBlob .wo 1024 true)
  | 0x1202, 2 => some (ob tU8 .ro)
  | 0x1203, 1 => some (ob tU8 .rws 1)
  | _, _ =>
    if i = 0x1011 && 1 ≤ s && s ≤ 8 then some (ob tU32 .ro)
    else if i = 0x1140 && 1 ≤ s && s ≤ 0x40 then some (ob tI32 .rw)
    else if i = 0x1180 && 1 ≤ s && s ≤ 0x40 then some (ob tU64 .ro)
    else none

/-- Objects of one core at 0x2000 + n (04 Table 4-3, 07 Table 7-4, 16 Table 16-3, 18 Table 18-4, 21 R572). -/
def objCore (s : Nat) : Option ObjInfo :=
  match s with
  | 1 | 2 | 4 => some (ob tU8 .ro (if s = 4 then 1 else 0) .r)
  | 3 | 6 | 7 => some (ob tU32 .ro 0 .r)
  | 5 => some (ob tU64 .ro 0 .r)
  | 8 => some (obR tU32 .rw 1048576 256 0xFFFFFFFF .rw)
  | 0x10 => some (ob tU8 .ro 0 .r true)
  | 0x11 => some (ob tU32 .ro 0 .r)
  | 0x20 | 0x21 => some (ob tU64 .ro 0 .r)
  | 0x22 => some (ob tBool .cmd 0 .rw)
  | 0x23 | 0x24 | 0x25 | 0x26 => some (ob tU32 .ro 0 .r)
  | 0x30 | 0x31 | 0x32 => some (ob tU32 .ro 0 .r)
  | _ => if 0x40 ≤ s && s ≤ 0x47 then some (ob tU64 .ro 0 .r) else none

/-- Dice objects (11 Table 11-3). -/
def objDice (s : Nat) : Option ObjInfo :=
  match s with
  | 1 => some (obR tU32 .rw 0 0 65536 .rw)
  | 2 => some (ob tU64 .rw 0 .rw)
  | 3 => some (obR tU8 .rw 3 0 7 .rw)
  | 4 => some (obR tU32 .rw 20000 1000 1000000 .rw)
  | 5 => some (obR tU16 .rw 1 1 32768 .rw)
  | 6 => some (obR tU8 .rw 1 1 16 .rw)
  | 7 => some (ob tBool .rw 1 .rw)
  | 8 => some (obR tU16 .rw 256 256 65280 .rw)
  | 9 => some (obR tU32 .rw 4000 1 4000000 .rw)
  | 0xA => some (ob tU64 .rw 0 .rw)
  | 0xB => some (ob tU8 .rw 0 .rw)
  | 0xC => some (ob tBool .cmd 0 .rw)
  | 0xD => some (ob tU8 .ro 0 .rw)
  | 0xE => some (ob tU32 .ro 0 .rw)
  | _ => none

/-- Bandstand objects (12 Table 12-3): TENANT reaches .03 to .11. -/
def objBs (s : Nat) : Option ObjInfo :=
  match s with
  | 1 => some (ob tU16 .rw)
  | 2 => some (obR tU16 .rw 0 0 4096)
  | 3 => some (obR tU8 .rw 64 16 128 .rw)
  | 4 => some (ob tU64 .rw 0x0001000100010001 .rw)
  | 5 => some (ob tU64 .rw 0 .rw)
  | 6 => some (obR tU8 .rw 10 4 16 .rw)
  | 7 => some (ob tU8 .rw 0 .rw)
  | 8 => some (obR tU16 .rw 0 0 24575 .rw)
  | 9 => some (obR tU8 .rw 2 1 8 .rw)
  | 0xA => some (obR tU8 .rw 0 0 63 .rw)
  | 0xB => some (obR tU8 .rw 1 0 63 .rw)
  | 0xC => some (ob tBool .rw 0 .rw)
  | 0xD => some (obR tU16 .rw 0 0 4095 .rw)
  | 0xE => some (obB tBlob .ro 32 false .rw)
  | 0xF => some (obB tBlob .cmd 32 false .rw)
  | 0x10 => some (ob tU16 .cmd 0 .rw)
  | 0x11 => some (ob tU32 .ro 0 .rw)
  | 0x12 => some (ob tU32 .ro)
  | _ => none

/-- Objects of one port at 0x2500 + p (13 Table 13-10). DESIGN CHOICE (log 83): the reserved codes 3 to 255 of PORT_CHANNEL are outside its
legal range. -/
def objPort (s : Nat) : Option ObjInfo :=
  match s with
  | 1 => some (ob tBool .rw 1)
  | 2 => some (ob tU16 .ro)
  | 3 => some (ob tU32 .ro)
  | 4 => some (ob tU32 .ro)
  | 5 => some (obR tU8 .rw 0 0 7)
  | 6 => some (ob tBool .rw)
  | 7 => some (obR tU8 .rws 0 0 2)
  | 8 => some (ob tU8 .rws)
  | 9 | 0xA | 0xB => some (ob tU64 .ro)
  | 0xC => some (ob tU32 .ro)
  | 0xD => some (ob tBool .cmd)
  | _ => none

/-- Default VC_CREDITS of VC0 to VC7 (13 Table 13-10). -/
def vcCreditDefault (vc : Nat) : Nat :=
  match vc with
  | 0 | 1 => 16
  | 2 | 3 | 4 | 5 => 96
  | _ => 48

/-- Link objects that are not per port (13 Table 13-10). -/
def objLink (i s : Nat) : Option ObjInfo :=
  match i, s with
  | 0x2540, 1 => some (obR tU16 .rws 0x7FFF 0 0x7FFF)
  | 0x2540, 2 => some (obB tBlob .rw 32768)
  | 0x2540, 3 => some (ob tBool .cmd)
  | 0x2540, 4 => some (obB tBlob .ro 32768)
  | 0x2540, 5 => some (obR tU8 .rw 24 1 31)
  | 0x2540, 6 => some (obR tU16 .rw 40 1 4000)
  | 0x2540, 7 => some (obR tU16 .rw 100 1 1000)
  | _, _ =>
    if i = 0x2541 && 1 ≤ s && s ≤ 0x10 then some (ob tU64 .rw)
    else if i = 0x2542 && 1 ≤ s && s ≤ 8 then some (obR tU8 .rws (vcCreditDefault (s - 1)) 1 255)
    else if 0x2550 ≤ i && i < 0x2558 then
      match s with
      | 1 => some (ob tBool .rws)
      | 2 | 3 => some (ob tU64 .rws)
      | 4 | 5 => some (ob tU32 .rws)
      | 6 => some (ob tU16 .rws)
      | 7 => some (obR tU8 .rws 0 0 63)
      | 8 => some (obR tU8 .rws 32 1 32)
      | _ => none
    else none

/-- Pavilion and contract objects (24 Table 24-3). -/
def objPav (i s : Nat) : Option ObjInfo :=
  if i < 0x3100 then
    match (i - 0x3000) % 16, s with
    | 0, 1 => some (ob tU8 .ro 0 .r)
    | 0, 2 => some (obB tBlob .rw 18 false .r)
    | 0, 3 => some (ob tBool .cmd)
    | 0, 4 => some (obR tU8 .cmd 0 0 1)
    | 0, 5 => some (ob tBool .cmd 0 .rw)
    | 0, 6 => some (ob tU8 .cmd 0 .rw)
    | 0, 7 => some (ob tU32 .ro 0 .r)
    | 0, 8 => some (ob tU8 .ro 0 .r)
    | 1, s => if 1 ≤ s && s ≤ 0x10 then some (ob tU64 .rw 0 .r) else none
    | _, _ => none
  else if i = 0x3100 then
    if 1 ≤ s && s ≤ 6 then some (ob tU16 .ro) else if s = 7 then some (ob tU64 .ro) else none
  else if 0x3180 ≤ i && i < 0x3200 then
    match (i - 0x3180) % 8 with
    | 0 =>
      if 1 ≤ s && s ≤ 0xC then some (obR tU16 .rw 0 0 1024 .r)
      else match s with
        | 0xD => some (obR tU32 .rw 100 1 250000 .r)
        | 0xE => some (ob tU64 .rw 0 .r)
        | 0xF => some (obR tU16 .rw 0 0 8192 .r)
        | 0x10 => some (obR tU16 .rw 1 1 4096 .r)
        | 0x11 => some (obR tU16 .rw 0 0 8192 .r)
        | 0x12 => some (ob tU16 .rw 0 .r)
        | 0x13 => some (obR tU8 .rw 2 0 2 .r)
        | _ => none
    | 1 => if 1 ≤ s && s ≤ 8 then some (ob tU64 .rw) else none
    | 2 | 3 | 4 => if 1 ≤ s && s ≤ 0x40 then some (ob tU64 .ro 0 .r) else none
    | 5 =>
      if 1 ≤ s && s ≤ 4 then some (ob tU64 .rw 0 .rw)
      else if 5 ≤ s && s ≤ 8 then some (ob tU64 .ro 0 .r)
      else match s with
        | 9 => some (ob tBool .cmd 0 .rw)
        | 0xA => some (ob tU64 .ro 0 .r)
        | 0xB => some (ob tU16 .ro 0 .r)
        | _ => none
    | 6 => if 1 ≤ s && s ≤ 0xC then some (ob tU64 .ro 0 .r) else if s = 0xD then some (ob tU16 .ro 0 .r) else none
    | _ => none
  else none

/-- Power, thermal and energy objects (17 Table 17-4, 24 Table 24-8). -/
def objPower (i s : Nat) : Option ObjInfo :=
  match i, s with
  | 0x4000, 1 | 0x4000, 2 | 0x4000, 3 => some (ob tU32 .ro)
  | 0x4000, 4 => some (ob tU64 .ro)
  | 0x4010, 1 => some (ob tU8 .rw 0x24)
  | 0x4010, 2 => some (obR tU32 .rw 1400 500 1400)
  | 0x4010, 3 | 0x4010, 4 => some (obR tU16 .rw 100 0 600)
  | 0x4010, 5 => some (ob tU16 .ro)
  | 0x4012, 1 | 0x4012, 2 | 0x4012, 3 | 0x4012, 4 => some (ob tU32 .ro)
  | 0x4020, 1 => some (obR tU16 .rw 30 5 200)
  | 0x4020, 2 => some (ob tU8 .ro)
  | 0x4020, 3 => some (obR tU16 .rw 0 0 1400)
  | 0x4020, 4 | 0x4020, 5 | 0x4020, 6 => some (ob tU16 .ro)
  | 0x4020, 7 => some (ob tTime .rw)
  | 0x4020, 8 => some (obR tU16 .rw 0 0 1400)
  | 0x4020, 9 => some (ob tU32 .rw)
  | 0x4020, 0xA => some (obR tU16 .rw 1 1 4096)
  | 0x4020, 0xB => some (ob tU32 .ro)
  | 0x4030, 1 => some (obB tBlob .ro 64)
  | 0x4030, 2 => some (obR tU8 .rw 15 0 15)
  | 0x4030, 3 | 0x4030, 4 => some (ob tU8 .ro)
  | 0x4030, 5 => some (ob tU32 .ro 0 .none true)
  | 0x4030, 6 => some { ty := tI32, acc := .rws, ven := true, pers := true }
  | 0x4050, 1 => some (ob tBool .cmd)
  | 0x4050, 2 => some { ty := tBool, acc := .cmd, hi := 1, ven := true }
  | 0x4050, 3 => some (ob tU8 .ro 0 .none true)
  | 0x4050, 4 => some (obB tBlob .ro 64 false .none true)
  | 0x4050, 5 => some (ob tTime .ro 0 .none true)
  | 0x4100, 1 => some (ob tI32 .ro)
  | 0x4100, 2 => some (ob tU8 .ro)
  | 0x4100, 3 => some (obR tU8 .rw 90 60 105)
  | 0x4100, 4 => some (obR tU8 .rw 95 70 105)
  | 0x4100, 5 => some (ob tU32 .ro)
  | 0x4110, 1 => some (ob tU32 .ro)
  | 0x4200, 1 | 0x4200, 2 | 0x4200, 3 | 0x4200, 4 => some (ob tU64 .ro)
  | 0x4200, 5 => some (ob tU32 .ro 0 .r)
  | _, _ =>
    if i = 0x4011 && 1 ≤ s && s ≤ 0x10 then some (obR tU16 .rw 0 0 1400 .r)
    else if 0x4040 ≤ i && i < 0x4043 then
      match s with
      | 1 | 2 => some (ob tU16 .ro)
      | 3 => some (obR tU8 .rws 10 1 20)
      | 4 => some (ob tU32 .ro)
      | _ => none
    else if i = 0x4101 && 1 ≤ s && s ≤ 0x40 then some (ob tI32 .ro)
    else if i = 0x4102 && 1 ≤ s && s ≤ 0x90 then some (ob tU16 .ro)
    else if i = 0x4103 && 1 ≤ s && s ≤ 0x10 then some (ob tI32 .ro)
    else if 0x4210 ≤ i && i < 0x4220 && 1 ≤ s && s ≤ 8 then some (ob tU64 .ro 0 .r)
    else none

/-- Integrity, log, debug and firmware objects (24 Table 24-5). -/
def objMgmt (i s : Nat) : Option ObjInfo :=
  match i, s with
  | 0x5000, 1 => some (obB tBlob .ro 18 false .none true)
  | 0x5000, 2 => some (obB tBlob .ro 18)
  | 0x5000, 3 => some (ob tU64 .ro 0 .none true)
  | 0x5000, 4 | 0x5000, 5 => some (ob tU16 .cmd)
  | 0x5000, 6 => some (obR tU8 .rw 16 1 255)
  | 0x5000, 7 => some (ob tU64 .ro)
  | 0x5000, 8 | 0x5000, 9 => some (ob tU32 .ro)
  | 0x5010, 1 => some (ob tBool .rw 1)
  | 0x5010, 2 => some (obR tU32 .rw 400 4 4000000)
  | 0x5010, 3 => some (ob tU64 .ro)
  | 0x5010, 4 => some (ob tU32 .ro)
  | 0x5030, 1 | 0x5030, 2 | 0x5030, 5 | 0x5030, 7 | 0x5030, 9 => some (ob tU32 .ro)
  | 0x5030, 3 => some (ob tU32 .rw)
  | 0x5030, 4 => some (obB tBlob .ro 1024)
  | 0x5030, 6 => some (obR tU8 .rw 3 0 5)
  | 0x5030, 8 => some (ob tBool .cmd)
  | 0x6000, 1 => some (ob tU32 .rw 0 .rw)
  | 0x6000, 2 => some (ob tU64 .ro 0 .rw)
  | 0x6010, 1 => some (ob tU16 .rw 0 .rw)
  | 0x6010, 2 => some (ob tU64 .rw 0 .rw)
  | 0x6010, 3 => some (ob tU16 .rw 0 .rw)
  | 0x6010, 4 => some (ob tBool .cmd 0 .rw)
  | 0x6010, 5 => some (obR tU8 .cmd 0 0 2 .rw)
  | 0x6010, 6 => some (ob tU32 .ro 0 .rw)
  | 0x6010, 7 => some (ob tU64 .ro 0 .rw)
  | 0x6010, 8 => some (obR tU8 .rw 0 0 2 .rw)
  | 0x6010, 9 => some (ob tU16 .ro 0 .rw)
  | 0x6010, 0xA => some (obB tBlob .ro 4096 false .rw)
  | 0x6020, 1 | 0x6020, 3 => some (ob tTime .rw)
  | 0x6020, 2 => some (ob tU16 .rw)
  | 0x6020, 4 => some (ob tBool .cmd)
  | 0x6020, 5 => some (ob tU32 .ro)
  | 0x7000, 1 | 0x7000, 4 | 0x7000, 5 => some (ob tU8 .ro)
  | 0x7000, 2 | 0x7000, 3 => some (ob tU32 .ro)
  | 0x7001, 1 => some (ob tBool .cmd)
  | 0x7001, 2 => some (ob tU32 .rw)
  | 0x7001, 3 => some (obB tBlob .wo 65536)
  | 0x7001, 4 | 0x7001, 5 | 0x7001, 6 | 0x7001, 7 => some (ob tBool .cmd)
  | 0x7001, 8 => some (ob tU8 .ro)
  | 0x7001, 9 => some (ob tU32 .ro)
  | 0x7002, 1 => some { ty := tU8, acc := .cmd, hi := 3, ven := true }
  | 0x7002, 2 => some (ob tU8 .ro)
  | _, _ =>
    if 0x5020 ≤ i && i < 0x5030 then
      match s with
      | 1 => some (ob tU8 .cmd 0 .rw)
      | 2 => some (ob tU8 .ro 0 .rw)
      | _ => none
    else if i = 0x6001 && 1 ≤ s && s ≤ 0x40 then some (ob tU64 .ro 0 .r)
    else if 0x6030 ≤ i && i < 0x6040 then
      match s with
      | 1 => some (ob tTime .rw 0 .rw)
      | 2 => some (ob tU64 .rw 0 .rw)
      | 3 => some (obR tU8 .rw 8 4 16 .rw)
      | 4 => some (ob tU32 .ro 0 .rw)
      | _ => none
    else none

/-- Highest subindex listed at an index (24 R624), none for an index that does not exist. -/
def objMax (i : Nat) : Option Nat :=
  if 0x2000 ≤ i && i < 0x2090 then some 0x47
  else if i = 0x2100 then some 2
  else if 0x2101 ≤ i && i < 0x2191 then some 7
  else if i = 0x2200 then some 2
  else if 0x2210 ≤ i && i < 0x2220 then some 5
  else if 0x2240 ≤ i && i < 0x22D0 then some 2
  else if 0x2310 ≤ i && i < 0x2320 then some 0xE
  else if 0x2410 ≤ i && i < 0x2420 then some 0x12
  else if 0x2500 ≤ i && i < 0x2540 then some 0xD
  else if 0x2550 ≤ i && i < 0x2558 then some 8
  else if 0x2610 ≤ i && i < 0x2620 then some 5
  else if 0x3000 ≤ i && i < 0x3100 then
    match i % 16 with
    | 0 => some 8
    | 1 => some 0x10
    | _ => none
  else if 0x3180 ≤ i && i < 0x3200 then
    match i % 8 with
    | 0 => some 0x13
    | 1 => some 8
    | 2 | 3 | 4 => some 0x40
    | 5 => some 0xB
    | 6 => some 0xD
    | _ => none
  else if 0x4040 ≤ i && i < 0x4043 then some 4
  else if 0x4210 ≤ i && i < 0x4220 then some 8
  else if 0x5020 ≤ i && i < 0x5030 then some 2
  else if 0x6030 ≤ i && i < 0x6040 then some 4
  else
    match i with
    | 0x1000 => some 8
    | 0x1001 => some 1
    | 0x1010 => some 7
    | 0x1011 => some 8
    | 0x1100 => some 7
    | 0x1101 => some 5
    | 0x1102 => some 2
    | 0x1103 => some 5
    | 0x1104 => some 4
    | 0x1106 => some 1
    | 0x1140 | 0x1180 => some 0x40
    | 0x1200 => some 5
    | 0x1201 | 0x1202 => some 2
    | 0x1203 => some 1
    | 0x2540 => some 7
    | 0x2541 => some 0x10
    | 0x2542 => some 8
    | 0x2600 => some 1
    | 0x3100 => some 7
    | 0x4000 => some 4
    | 0x4010 => some 5
    | 0x4011 => some 0x10
    | 0x4012 => some 4
    | 0x4020 => some 0xB
    | 0x4030 => some 6
    | 0x4050 => some 5
    | 0x4100 => some 5
    | 0x4101 => some 0x40
    | 0x4102 => some 0x90
    | 0x4103 => some 0x10
    | 0x4110 => some 1
    | 0x4200 => some 5
    | 0x5000 => some 9
    | 0x5010 => some 4
    | 0x5030 => some 9
    | 0x6000 => some 2
    | 0x6001 => some 0x40
    | 0x6010 => some 0xA
    | 0x6020 => some 5
    | 0x7000 => some 5
    | 0x7001 => some 9
    | 0x7002 => some 2
    | _ => none

/-- The index row of an object (24 R620), none where it does not exist (03 R68). Subindex 0 of an index that exists is an RO U8
(03 R67). -/
def objInfo (i s : Nat) : Option ObjInfo :=
  if s = 0 then (objMax i).map (fun m => ob tU8 .ro m)
  else if i < 0x2000 then objChip i s
  else if i < 0x2090 then objCore s
  else if i = 0x2100 then
    match s with
    | 1 => some (ob tU32 .ro)
    | 2 => some (ob tU16 .rw 8)
    | _ => none
  else if 0x2101 ≤ i && i < 0x2191 then
    match s with
    | 1 => some (ob tU8 .ro 0 .r)
    | 2 | 4 | 5 => some (ob tU32 .ro 0 .r)
    | 3 => some (ob tU64 .ro 0 .r)
    | 6 => some (ob tU64 .ro 0 .none true)
    | 7 => some (obB tBlob .ro 192 false .none true)
    | _ => none
  else if i = 0x2200 then
    match s with
    | 1 => some (ob tU64 .ro 288000000000)
    | 2 => some (ob tU64 .ro 512000000000)
    | _ => none
  else if 0x2210 ≤ i && i < 0x2220 then
    match s with
    | 1 | 2 | 3 => some (ob tU64 .rw 0 .r)
    | 4 | 5 => some (ob tU16 .rw 0xFFFF .r)
    | _ => none
  else if 0x2240 ≤ i && i < 0x22D0 then
    match s with
    | 1 => some (ob tU64 .ro 0 .r)
    | 2 => some (ob tU32 .ro 0 .r)
    | _ => none
  else if 0x2310 ≤ i && i < 0x2320 then objDice s
  else if 0x2410 ≤ i && i < 0x2420 then objBs s
  else if 0x2500 ≤ i && i < 0x2540 then objPort s
  else if 0x2540 ≤ i && i < 0x2600 then objLink i s
  else if i = 0x2600 then if s = 1 then some (ob tU8 .ro) else none
  else if 0x2610 ≤ i && i < 0x2620 then
    match s with
    | 1 => some (ob tU8 .rw 0 .rw)
    | 2 => some (ob tU64 .rw 0 .rw)
    | 3 => some (ob tBool .cmd 0 .rw)
    | 4 | 5 => some (ob tU32 .ro 0 .rw)
    | _ => none
  else if 0x3000 ≤ i && i < 0x3200 then objPav i s
  else if 0x4000 ≤ i && i < 0x4300 then objPower i s
  else if 0x5000 ≤ i then objMgmt i s
  else none

/-- The default of an object's stored value (24 R621); ROUTE_STAGE starts with 0xFF in each byte (13 Table 13-10). -/
def objDefault (i s : Nat) : Nat :=
  if i = 0x2540 && s = 2 then 256 ^ 32768 - 1
  else if i = 0x1200 && s = 1 then Config.fuses.mac.toNat
  else ((objInfo i s).map ObjInfo.dflt).getD 0

/-- The bits of a value that an object holds: those its row does not list are ignored when written and read as 0 (03 R70, 00 R9). Named are the
objects whose reserved bits no write of their unit masks: MGMT_MAC and the Ethernet MACs hold 47:0, PORT_LANE_MAP 2:0 and ETH_VLAN all but bit
12 (24 Table 24-6, 13 Table 13-10). -/
def objKeep (i s v : Nat) : Nat :=
  if (i = 0x1200 && s = 1) || (0x2550 ≤ i && i < 0x2558 && (s = 2 || s = 3)) then v % 2 ^ 48
  else if 0x2500 ≤ i && i < 0x2540 && s = 8 then v % 8
  else if 0x2550 ≤ i && i < 0x2558 && s = 6 then v % 4096 + 8192 * (v / 8192)
  else v

/-- The unit an index or subindex belongs to: a core or a Pavilion (24 R623). -/
inductive Unit' where
  | chip
  | core (n : Nat)
  | pav (p : Nat)
deriving DecidableEq, Repr, Inhabited

/-- The unit of an object. -/
def objUnit (i s : Nat) : Unit' :=
  if 0x2000 ≤ i && i < 0x2090 then .core (i - 0x2000)
  else if 0x2101 ≤ i && i < 0x2191 then .core (i - 0x2101)
  else if 0x2210 ≤ i && i < 0x2220 then .pav (i - 0x2210)
  else if 0x2240 ≤ i && i < 0x22D0 then .core (i - 0x2240)
  else if 0x2310 ≤ i && i < 0x2320 then .pav (i - 0x2310)
  else if 0x2410 ≤ i && i < 0x2420 then .pav (i - 0x2410)
  else if 0x2610 ≤ i && i < 0x2620 then .pav (i - 0x2610)
  else if 0x3000 ≤ i && i < 0x3100 then .pav ((i - 0x3000) / 16)
  else if 0x3180 ≤ i && i < 0x3200 then .pav ((i - 0x3180) / 8)
  else if i = 0x4011 && 1 ≤ s then .pav (s - 1)
  else if 0x4210 ≤ i && i < 0x4220 then .pav (i - 0x4210)
  else if 0x5020 ≤ i && i < 0x5030 then .pav (i - 0x5020)
  else if 0x6030 ≤ i && i < 0x6040 then .pav (i - 0x6030)
  else .chip

/-- The index has an object of its unit that TENANT reaches (24 R623, subindex 0). -/
def objTenantAny (i : Nat) : Bool :=
  (List.range 256).any (fun s => s ≠ 0 && (match objInfo i s with | some o => o.ten ≠ .none | none => false))

/-- The TENANT mark of an object, subindex 0 included. -/
def objTen (i s : Nat) : TMark :=
  if s = 0 then (if objTenantAny i then .r else .none) else ((objInfo i s).map ObjInfo.ten).getD .none

end Sys2Proof.Machine
end

