-- ==== Sys2Proof/Machine/Ops.lean ====
section
/-! DEFINITION. Machine/Ops.lean: the named operations over State that every family uses: access to the units, time, Tally
counters, free values, the event log, interrupts, buckets and class marking, core faults, detections and memory faults. -/

namespace Sys2Proof.Machine

/-! ### Units -/

/-- Reset value of a function's registers (15 R420): vector i for cause i, and the mask of Table 15-5 and Table 15-6. -/
def Fn.resetOf (f : Nat) : Fn :=
  { mask := if f = 0 then 0x20 else 0x80, vector := (List.range 32).foldl (fun a i => a + i * 256 ^ i) 0 }

/-- Reset value of rail k (23 R604): boot voltage in mV. -/
def Rail.resetOf (k : Nat) : Rail :=
  if k = 2 then { target := 800, readback := 800 } else { target := 750, readback := 750 }

def State.core (s : State) (n : Nat) : Core := Sparse.getD s.cores n {}
def State.pav (s : State) (p : Nat) : Pav := Sparse.getD s.pavs p {}
def State.port (s : State) (q : Nat) : Port := Sparse.getD s.ports q {}
def State.fn (s : State) (f : Nat) : Fn := Sparse.getD s.fns f (Fn.resetOf f)
def State.req (s : State) (k : Nat) : ReqSt := Sparse.getD s.reqs k {}
def State.sess (s : State) (k : Nat) : Session := Sparse.getD s.dict.sessions k {}
def State.rail (s : State) (k : Nat) : Rail := Sparse.getD s.power.rails k (Rail.resetOf k)

def State.setCore (s : State) (n : Nat) (c : Core) : State := { s with cores := Sparse.put s.cores n c }
def State.setPav (s : State) (p : Nat) (v : Pav) : State := { s with pavs := Sparse.put s.pavs p v }
def State.setPort (s : State) (q : Nat) (v : Port) : State := { s with ports := Sparse.put s.ports q v }
def State.setFn (s : State) (f : Nat) (v : Fn) : State := { s with fns := Sparse.put s.fns f v }
def State.setReq (s : State) (k : Nat) (v : ReqSt) : State := { s with reqs := Sparse.put s.reqs k v }
def State.setSess (s : State) (k : Nat) (v : Session) : State :=
  { s with dict := { s.dict with sessions := Sparse.put s.dict.sessions k v } }
def State.setRail (s : State) (k : Nat) (v : Rail) : State :=
  { s with power := { s.power with rails := Sparse.put s.power.rails k v } }

def State.updCore (s : State) (n : Nat) (f : Core → Core) : State := s.setCore n (f (s.core n))
def State.updPav (s : State) (p : Nat) (f : Pav → Pav) : State := s.setPav p (f (s.pav p))
def State.updPort (s : State) (q : Nat) (f : Port → Port) : State := s.setPort q (f (s.port q))
def State.updFn (s : State) (f : Nat) (g : Fn → Fn) : State := s.setFn f (g (s.fn f))
def State.updReq (s : State) (k : Nat) (f : ReqSt → ReqSt) : State := s.setReq k (f (s.req k))
def State.updRail (s : State) (k : Nat) (f : Rail → Rail) : State := s.setRail k (f (s.rail k))

/-- Send a message (log 2). -/
def State.emit (s : State) (o : Out) : State := { s with out := s.out ++ [o] }

/-- Draw a free value (log 7). -/
def State.draw (s : State) : Nat × State := (Config.free s.free, { s with free := s.free + 1 })

/-! ### Stored objects -/

/-- The stored value of an object (24 R621). -/
def State.obj (s : State) (i sub : Nat) : Nat := Sparse.getD s.objs (okey i sub) (objDefault i sub)

def State.setObj (s : State) (i sub v : Nat) : State := { s with objs := Sparse.put s.objs (okey i sub) v }

/-- Present length of a STR or BLOB (03 R80). -/
def State.len (s : State) (i sub : Nat) : Nat :=
  match objInfo i sub with
  | some o =>
    if i = 0x1000 && sub = 4 then 8
    else if o.vari then Sparse.getD s.blobLen (okey i sub) 0 else o.size
  | none => 0

/-- PAV_CORES of Pavilion p (15 Table 15-8). -/
def State.pavCores (s : State) (p : Nat) : Nat := s.obj (0x3000 + 16 * p) 2

/-- The Pavilion that owns core n, if any (15 R407). -/
def State.owner (s : State) (n : Nat) : Option Nat :=
  (List.range 16).find? (fun p => bit (s.pavCores p) n)

/-- Cores of Pavilion p, ascending. -/
def State.coresOf (s : State) (p : Nat) : List Nat := bitList (s.pavCores p) 144

/-- Memory range r of Pavilion p: base and size (15 R407). -/
def State.pavRange (s : State) (p r : Nat) : Nat × Nat :=
  (s.obj (0x3001 + 16 * p) (1 + r), s.obj (0x3001 + 16 * p) (9 + r))

/-- Core n is fused off (01 R23, 18 R508 SHIPPED). -/
def coreShipped (n : Nat) : Bool := Config.fuses.shipped.toList.any (fun c => c.map Fin.val = some n)

/-- FENCE_SHIPPED (18 Table 18-4): bit n for core n. -/
def shippedMask : Nat := (List.range 144).foldl (fun m n => if coreShipped n then m + 2 ^ n else m) 0

/-- Core n is enabled and not fenced (05 R149, 15 R411). -/
def State.coreUsable (s : State) (n : Nat) : Bool :=
  decide (n < 144) && !coreShipped n && ((s.core n).fence.st ≠ 2 && (s.core n).ctl.st ≠ .fenced)

/-- The chip ID (13 Table 13-10). -/
def State.chipId (s : State) : Nat := s.obj 0x2540 1

/-! ### Time (02 R33, R51) -/

/-- The frame number of a time (02 R51). -/
def frameOf (t : Nat) : Nat := t / 250000

/-- The slot number of a time (02 R51). -/
def slotOf (t : Nat) : Nat := 64 * (t % 250000) / 250000

/-- The first whole nanosecond of slot k of frame f (02 R51). -/
def slotStart (f k : Nat) : Nat := 250000 * f + cdiv (k * 250000) 64

def State.frame (s : State) : Nat := frameOf s.time.now

/-- TIME_FREE and HOLDOVER flags (02 R54). -/
def State.timeFree (s : State) : Bool := s.time.st = 0
def State.holdover (s : State) : Bool := s.time.st = 1

/-- A forward step has passed target t (02 R55). -/
def State.steppedPast (s : State) (t : Nat) : Bool :=
  match s.cyc.stepFrom with
  | some f => decide (f < t) && decide (t ≤ s.cyc.lastStep)
  | none => false

/-- Core clock of a V/F point in MHz (17 R475). -/
def vfMHz (k : Nat) : Nat := 1150 + 50 * k

/-! ### Tally counters (21 R569) -/

/-- Scope of a Tally ID (21 Table 21-1): number of instances, none for a reserved ID. -/
def tallyScope (id : Nat) : Option Nat :=
  if (1 ≤ id && id ≤ 8) || (0x10 ≤ id && id ≤ 0x1F) then some 144
  else if 0x20 ≤ id && id ≤ 0x2D then some 16
  else if 0x30 ≤ id && id ≤ 0x33 then some 64
  else if 0x38 ≤ id && id ≤ 0x3B then some 1
  else if 0x40 ≤ id && id ≤ 0x43 then some 8
  else none

def tkey (id inst : Nat) : Nat := 65536 * id + inst

/-- Add to a Tally counter and, outside scope CHIP, to its chip total, modulo 2^48 (21 R569). -/
def State.tallyAdd (s : State) (id inst n : Nat) : State :=
  let t := Sparse.put s.tally (tkey id inst) ((Sparse.getD s.tally (tkey id inst) 0 + n) % 2 ^ 48)
  if 0x38 ≤ id && id ≤ 0x3B then { s with tally := t }
  else { s with tally := Sparse.put t (tkey id 0xFFFF) ((Sparse.getD t (tkey id 0xFFFF) 0 + n) % 2 ^ 48) }

/-- Add to a PAV counter of an optional Pavilion: the chip total alone where there is none (21 R569 HOST_BAR_MISS of PF0). -/
def State.tallyPav (s : State) (id : Nat) (p : Option Nat) (n : Nat) : State :=
  match p with
  | some p => s.tallyAdd id p n
  | none => { s with tally := Sparse.put s.tally (tkey id 0xFFFF) ((Sparse.getD s.tally (tkey id 0xFFFF) 0 + n) % 2 ^ 48) }

/-- Read a Tally counter. CORE_CYCLES counts every CORE cycle for every core: its row holds the count at which the core's counter was
last set to 0 (21 R570), and the chip total is the sum of 144 counts. -/
def State.tallyGet (s : State) (id inst : Nat) : Nat :=
  if id = 8 then
    if inst = 0xFFFF then (144 * s.cyc.cycles) % 2 ^ 48
    else (s.cyc.cycles - Sparse.getD s.tally (tkey 8 inst) 0) % 2 ^ 48
  else Sparse.getD s.tally (tkey id inst) 0

/-- IDs of scope CORE and PAV. -/
def coreTallies : List Nat := (List.range 9).tail ++ (List.range 16).map (· + 0x10)
def pavTallies : List Nat := (List.range 14).map (· + 0x20)

/-- Set a core's counters to 0 (21 R570). -/
def State.tallyClearCore (s : State) (n : Nat) : State :=
  { s with tally := coreTallies.foldl (fun t id => Sparse.put t (tkey id n) (if id = 8 then s.cyc.cycles else 0)) s.tally }

/-- Set a Pavilion's counters to 0 (21 R570). -/
def State.tallyClearPav (s : State) (p : Nat) : State :=
  { s with tally := pavTallies.foldl (fun t id => Sparse.put t (tkey id p) 0) s.tally }

/-! ### Interrupts (15 R420) -/

/-- The function exists: PF0, or a VF while VF Enable is set (15 R637). -/
def State.fnExists (s : State) (f : Nat) : Bool := f = 0 || s.pcie.vfEnable

/-- Word k of a function's MSI-X table. A word nothing has written holds 0, but a vector's control word masks it (log 5). -/
def Fn.tableWord (n : Fn) (k : Nat) : Nat := Sparse.getD n.msixTable k (b2n (k % 4 = 3))

/-- The message of vector v can leave (15 R420): MSI-X and Bus Master are enabled, and neither the function nor the vector is masked. -/
def State.msixOpen (s : State) (f v : Nat) : Bool :=
  let n := s.fn f
  n.msix && n.busMaster && s.fnExists f && !n.fnMask && !bit (n.tableWord (4 * v + 3)) 0

/-- The message of vector v, to the address and with the data of its table entry. -/
def State.sendMsix (s : State) (f v : Nat) : State :=
  let n := s.fn f
  s.emit (.msix f v (n.tableWord (4 * v) + 2 ^ 32 * n.tableWord (4 * v + 1)) (n.tableWord (4 * v + 2)))

/-- Send the message of cause i of a function: at once where PCIe lets it leave, else it waits in the PBA (15 R420, R425). A vector
above 63 sends none. -/
def State.sendIrq (s : State) (f i : Nat) : State :=
  let fn := s.fn f
  let v := bits fn.vector (8 * i + 7) (8 * i)
  if 63 < v then s
  else if s.msixOpen f v then s.sendMsix f v
  else s.setFn f { fn with pba := setBit fn.pba v true }

/-- A cause's event occurs (15 R420). -/
def State.raise (s : State) (f i : Nat) : State :=
  let fn := s.fn f
  if bit fn.pending i then s
  else
    let s := s.setFn f { fn with pending := setBit fn.pending i true }
    if bit fn.mask i then s else s.sendIrq f i

/-- Raise a cause of the VF of Pavilion p (15 R406). -/
def State.raiseVf (s : State) (p i : Nat) : State := s.raise (p + 1) i

/-- Raise a cause of the VF of the Pavilion that owns core n. -/
def State.raiseCore (s : State) (n i : Nat) : State :=
  match s.owner n with
  | some p => s.raiseVf p i
  | none => s

/-! ### The event log (18 R515, 20 R548 to R552) -/

/-- Flags of a record or completion: bit 3 TIME_FREE, bit 2 HOLDOVER, bit 1 STEPPED (18 Table 18-2). -/
def State.logFlags (s : State) (stepped : Bool) : Nat :=
  8 * b2n s.timeFree + 4 * b2n s.holdover + 2 * b2n stepped

/-- Make a log record (18 Table 18-2). `detail` is the number of its DETAIL bytes. -/
def State.logRecS (s : State) (code unit sev : Nat) (pav : Option Nat) (detail : Nat) (stepped : Bool) : State :=
  let l := s.log
  let k := 65536 * code + unit
  let r := s.time.now % 2 ^ 64 + code * 2 ^ 64 + (pav.getD 0xFF) * 2 ^ 80 + sev * 2 ^ 88 + s.logFlags stepped * 2 ^ 92
    + unit * 2 ^ 96 + min 0xFFFF (Sparse.getD l.suppressed k 0) * 2 ^ 112 + (l.nextSeq % 2 ^ 32) * 2 ^ 128 + detail % 2 ^ 96 * 2 ^ 160
  let l' : LogSt :=
    if 4096 ≤ l.queued then { l with lost := (l.lost + 1) % 2 ^ 32, alert3 := l.alert3 || decide (3 ≤ sev) }
    else
      { l with recs := Sparse.put l.recs l.nextSeq r, nextSeq := l.nextSeq + 1,
               queued := l.queued + 1, suppressed := Sparse.del l.suppressed k, alert3 := l.alert3 || decide (3 ≤ sev) }
  let s := { s with log := l' }
  if s.obj 0x5030 6 ≤ sev then s.raise 0 6 else s

def State.logRec (s : State) (code unit sev : Nat) (pav : Option Nat) (detail : Nat) : State :=
  s.logRecS code unit sev pav detail false

/-- A record of a core, at most one per core, code and frame; the others are counted as suppressed (04 R120, 09 R254). -/
def State.logCoreS (s : State) (code n sev detail : Nat) (stepped : Bool) : State :=
  let c := s.core n
  if Sparse.find c.ctl.recFrame code = some s.frame then
    let k := 65536 * code + n
    { s with log := { s.log with suppressed := Sparse.put s.log.suppressed k (Sparse.getD s.log.suppressed k 0 + 1) } }
  else
    (s.setCore n { c with ctl := { c.ctl with recFrame := Sparse.put c.ctl.recFrame code s.frame } }).logRecS code n sev (s.owner n) detail stepped

def State.logCore (s : State) (code n sev detail : Nat) : State := s.logCoreS code n sev detail false

/-! ### Chip state (15 R410, 18 R511, 19 R523) -/

/-- Some core, bank or port is fenced beyond the shipped set (18 R511). -/
def State.anyFence (s : State) : Bool :=
  s.integ.fencePorts ≠ 0 || s.cores.any (fun r => (r.2.fence.st = 2 && !coreShipped r.1) || r.2.pint.fenced ≠ 0)

/-- Some Pavilion is ACTIVE or RESETTING (15 R410). -/
def State.anyPav (s : State) : Bool := s.pavs.any (fun r => r.2.st = .active || r.2.st = .resetting)

/-- Some cause holds the chip in FAULT. -/
def State.faulted (s : State) : Bool :=
  let c := s.boot.causes
  c.train || c.rail || c.thermtrip || c.refclk || c.mgmt

/-- CHIP_STATE (19 Table 19-3): 0 BOOT, 1 STANDBY, 2 READY, 3 RUN, 4 DEGRADED, 5 FAULT. -/
def State.chipState (s : State) : Nat :=
  if s.faulted then 5
  else if s.boot.standby then 1
  else if !s.boot.ready then 0
  else if s.anyFence then 4
  else if s.anyPav then 3
  else 2

/-- Signal a change of CHIP_STATE to PF0, from milestone 2 onward (19 R528). -/
def State.syncChip (s : State) : State :=
  let st := s.chipState
  if st = s.boot.lastState then s
  else
    let s := { s with boot := { s.boot with lastState := st } }
    if 2 ≤ s.boot.phase then s.raise 0 7 else s

/-- Change SUNDIAL_STATE; TIME_STATE is raised on PF0 and on the VF of every Pavilion that is not FREE (15 Table 15-5). -/
def State.setSundial (s : State) (st : Nat) : State :=
  if s.time.st = st then s
  else
    let s := { s with time := { s.time with st := st } }
    let s := s.raise 0 3
    (List.range 16).foldl (fun s p => if (s.pav p).st ≠ .free then s.raiseVf p 10 else s) s

/-! ### Buckets and marking (16 R435, R436) -/

/-- Capacity of a resource in 10^-7 of its unit per ns (16 Table 16-1). -/
def resCap (r : Nat) : Nat :=
  match r with
  | 0 => 123000000000
  | 1 => 10900000000
  | 2 => 29184000000
  | 3 => 4864000000
  | 4 => 1953125
  | _ => 1210000000

/-- One unit of a resource in bucket units. -/
def bucketUnit : Nat := 1024 * 10000000

/-- The frame-latched contract setting of subindex `sub` (16 R452). -/
def Pav.ctEff (p : Pav) (sub : Nat) (d : Nat) : Nat := Sparse.getD p.ct.eff sub d

def ctDepth (p : Pav) (r : Nat) : Nat := p.ctEff (1 + r) 0 * resCap r * 250000
def buDepth (p : Pav) (r : Nat) : Nat := p.ctEff (7 + r) 0 * resCap r * (p.ctEff 0xD 100 * 1000)

/-- Keys of the buckets of a Pavilion: resource r, and 100 + port for the links (16 R436). -/
def bucketKeys : List (Nat × Nat) :=
  [(0, 0), (1, 1), (2, 2), (3, 3), (5, 5)] ++ (List.range 64).map (fun q => (100 + q, 4))

/-- Refill a bucket over dt ns, up to its depth. -/
def refillOne (m : Sparse Nat) (k add depth : Nat) : Sparse Nat :=
  if depth = 0 then Sparse.del m k else Sparse.put m k (min depth (Sparse.getD m k 0 + add))

/-- Refill every bucket of a Pavilion over dt ns (16 R435, R440). -/
def Pav.refill (p : Pav) (dt : Nat) : Pav :=
  let ct := bucketKeys.foldl (fun m (k, r) => refillOne m k (p.ctEff (1 + r) 0 * resCap r * dt) (ctDepth p r)) p.ct.ct
  let bu := bucketKeys.foldl (fun m (k, r) => refillOne m k (p.ctEff (7 + r) 0 * resCap r * dt) (buDepth p r)) p.ct.bu
  let rows := min (p.ctEff 0x12 0 * 250000) (p.ct.buRows + p.ctEff 0x11 0 * dt)
  { p with ct := { p.ct with ct := ct, bu := bu, buRows := rows } }

/-- Set the CONTRACT buckets full and the BURST buckets empty (19 Table 19-2). -/
def Pav.bucketsStart (p : Pav) : Pav :=
  let ct := bucketKeys.foldl (fun m (k, r) => if ctDepth p r = 0 then Sparse.del m k else Sparse.put m k (ctDepth p r)) p.ct.ct
  { p with ct := { p.ct with ct := ct, bu := [], buRows := 0 } }

/-- Mark a request of class `cls` and cost `c` at bucket key `k` (16 R436): its level and the Pavilion after the debit. -/
def Pav.mark (p : Pav) (k cls c : Nat) : Nat × Pav :=
  let cost := c * bucketUnit
  if cls = 0 && cost ≤ Sparse.getD p.ct.ct k 0 then
    (0, { p with ct := { p.ct with ct := Sparse.put p.ct.ct k (Sparse.getD p.ct.ct k 0 - cost) } })
  else if cls ≤ 1 && cost ≤ Sparse.getD p.ct.bu k 0 then
    (1, { p with ct := { p.ct with bu := Sparse.put p.ct.bu k (Sparse.getD p.ct.bu k 0 - cost) } })
  else (2, p)

/-- Mark a request of Pavilion p. -/
def State.mark (s : State) (p k cls c : Nat) : Nat × State :=
  let (l, v) := (s.pav p).mark k cls c
  (l, s.setPav p v)

/-- The class a request takes from the class table of its Pavilion (16 R443, R444): engine bit, tier bit, and the core of a core
request. More than one match adds to MULTI_MATCH. -/
def State.classOf (s : State) (p engine tier : Nat) (core : Option Nat) : Nat × State :=
  let base := 0x3181 + 8 * p
  let hits := ((List.range 8).map (fun k => s.obj base (k + 1))).filter (fun v =>
    bit v 63 && bit v (32 + engine) && bit v (24 + tier)
      && (match core with | some n => decide (bits v 47 40 ≤ n) && decide (n ≤ bits v 55 48) | none => true))
  match hits with
  | [] => (s.obj (0x3180 + 8 * p) 0x13, s)
  | [v] => (bits v 62 61, s)
  | v :: _ => (bits v 62 61, s.tallyAdd 0x20 p 1)

/-- Latch the contract settings of a frame start (16 R452) and cut buckets to their new depth. -/
def State.latchContract (s : State) (p : Nat) : State :=
  let eff := (List.range 0x12).foldl (fun m k => Sparse.put m (k + 1) (s.obj (0x3180 + 8 * p) (k + 1))) []
  s.updPav p (fun v => ({ v with ct := { v.ct with eff := eff } } : Pav).refill 0)

/-! ### Time passing -/

/-- The engines of a core, in the order of their BUSY counters 0x0002 to 0x0006. -/
def Core.engs (c : Core) : List EngSt := [c.mover, c.dice, c.rot, c.par.eng, c.tre]

/-- A stream waits under R109 or R99. -/
def StreamSt.stalled (t : StreamSt) : Bool :=
  match t.wait with
  | .stall _ => true
  | _ => false

/-- A stream waits under R109, which SB_STALL counts. -/
def StreamSt.sbStalled (t : StreamSt) : Bool := t.stalled && t.why = .range

/-- CORE cycle count since which the stream's word waits for the tag of a descriptor (04 R112, R114). -/
def StreamSt.tagStall (t : StreamSt) : Option Nat :=
  match t.wait, t.why with
  | .stall _, .tag since => some since
  | _, _ => none

/-- Count the cycles of one core: BUSY of running engines, SB_STALL of stalled streams, TAG_WAIT of waiting accesses. -/
def State.countCore (s : State) (n : Nat) (c : Core) (cy : Nat) : State :=
  let s := ((List.range 5).zip c.engs).foldl (fun s (i, e) => if e.run.isEmpty then s else s.tallyAdd (i + 2) n cy) s
  let st := b2n c.sa.sbStalled + b2n c.sx.sbStalled
  let s := if st = 0 then s else s.tallyAdd 0x11 n (st * cy)
  let tw := (c.engs.map (fun e => (e.run.map (fun r => b2n r.tagSince.isSome + b2n r.wtagSince.isSome)).sum)).sum + c.pbuf.length
    + b2n c.sa.tagStall.isSome + b2n c.sx.tagStall.isSome
  if tw = 0 then s else s.tallyAdd 0x12 n (tw * cy)

/-- CORE cycles in dt ns at the active point, with the fraction carried (17 R475). -/
def State.cyclesIn (s : State) (dt : Nat) : Nat × Nat :=
  if s.power.clockOn then
    let x := dt * vfMHz s.power.vf + s.cyc.frac
    (x / 1000, x % 1000)
  else (0, s.cyc.frac)

/-- Whole ns by which the count has been slewed, at 500 ppm, since its offset was measured (02 R50; log 25): at most the offset, and
nothing where the count is behind by more than 1 µs, which ends in a step. -/
def Sundial.slewed (t : Sundial) (ns : Nat) : Nat :=
  match t.offset with
  | some o => if t.isSource || o < -1000 then 0 else min o.natAbs ((ns - t.offsetAt) / 2000)
  | none => 0

/-- The local count is ahead of its reference: its slew is slow, else fast (02 R34, R50). -/
def Sundial.ahead (t : Sundial) : Bool := match t.offset with | some o => decide (0 ≤ o) | none => true

/-- Trim of the count's rate in parts per 10^9: the source's (02 R47), or in HOLDOVER the last trimmed rate (R49), of which the spec says only
that the count stays within 50 ns per second (log 80). -/
def Sundial.rate (t : Sundial) : Int :=
  if t.isSource then 1000 * t.trim
  else match t.st, t.holdSince, t.offset with
    | 1, some h, none => (Config.holdTrim h % 101 : Nat) - 50
    | _, _, _ => 0

/-- The count as dt ns pass, `ns` after PWRGOOD (02 R33, R47, R49, R50): 1 ns per ns, slewed toward the reference, the rate trimmed. -/
def Sundial.run (t : Sundial) (ns dt : Nat) : Sundial :=
  let k := t.slewed (ns + dt) - t.slewed ns
  let x := (dt : Int) * t.rate + t.trimFrac
  let n := if t.ahead then dt - k else dt + k
  { t with now := t.now + ((n : Int) + x / 1000000000).toNat, trimFrac := x % 1000000000 }

/-- dt ns pass: the one operation by which time passes (log 9). Without PWRGOOD no time is counted (19 R526); without LINK_REFCLK the local count
stands (23 R609, R610). -/
def State.elapse (s : State) (dt : Nat) : State :=
  if dt = 0 || !s.boot.pwrgood then s
  else
    let (cy, fr) := s.cyclesIn dt
    let s := { s with time := if bit s.boot.clk 1 then s.time else s.time.run s.cyc.ns dt,
                      cyc := { s.cyc with ns := s.cyc.ns + dt, cycles := s.cyc.cycles + cy, frac := fr } }
    let s := s.cores.foldl (fun t r => t.countCore r.1 r.2 cy) s
    { s with pavs := s.pavs.map (fun r => (r.1, r.2.refill dt)) }

/-- A row of the domains that run from the core clock, of the links and of the memories: without their clock nothing happens (17 R486; 23 R609,
R610). -/
def State.clocked (s : State) (f : State → State) : Host.Outcome State Fault Refusal := .next (if s.power.clockOn then f s else s)

/-- Nanoseconds that certainly pass before the count is at or past t. -/
def State.nsTo (s : State) (t : Nat) : Nat :=
  let n := t - s.time.now
  let n := if s.time.rate = 0 then n else max (min n 1) (n * 1000000000 / (1000000000 + s.time.rate).toNat)
  if s.time.ahead then n
  else n - min ((s.time.offset.getD 0).natAbs - s.time.slewed s.cyc.ns) (n / 2000)

/-- Time passes until the count reaches t, if it has not (log 9). A slewed or trimmed count comes nearer in each round. -/
def State.elapseTo (s : State) (t : Nat) : State := (List.range 8).foldl (fun s _ => s.elapse (s.nsTo t)) s

/-- Time passes until `t` nanoseconds since PWRGOOD, if they have not passed. -/
def State.elapseNs (s : State) (t : Nat) : State := s.elapse (t - s.cyc.ns)

/-- Let CORE cycles pass: `k` cycles at the active point, where the core clock runs. -/
def State.elapseCycles (s : State) (k : Nat) : State :=
  if s.power.clockOn then s.elapse (cdiv (k * 1000) (vfMHz s.power.vf)) else s

/-- An engine or ballast starts: a calibration is disturbed inside its window of 8 frames (17 R482, R491). -/
def State.disturbCal (s : State) : State :=
  if s.energy.calRunning && decide (s.energy.calEnd ≤ s.time.now + 2000000) then { s with energy := { s.energy with calBroken := true } } else s

/-! ### Streams of a core -/

def Core.strm (c : Core) (t : Strm) : StreamSt :=
  match t with
  | .access => c.sa
  | .exec => c.sx

def Core.setStrm (c : Core) (t : Strm) (v : StreamSt) : Core :=
  match t with
  | .access => { c with sa := v }
  | .exec => { c with sx := v }

def Core.eng (c : Core) (e : Eng) : EngSt :=
  match e with
  | .mover => c.mover
  | .dice => c.dice
  | .rot => c.rot
  | .parterre => c.par.eng
  | .trellis => c.tre

def Core.setEng (c : Core) (e : Eng) (v : EngSt) : Core :=
  match e with
  | .mover => { c with mover := v }
  | .dice => { c with dice := v }
  | .rot => { c with rot := v }
  | .parterre => { c with par := { c.par with eng := v } }
  | .trellis => { c with tre := v }

/-- Stream t of core n can go on: the core runs and is not stopping, the stream is live, and a single step still has its word. -/
def Core.live (c : Core) (t : Strm) : Bool :=
  c.ctl.st = .run && c.ctl.drain = .none && (c.strm t).present && !(c.dbg.single && (c.strm t).singled)

/-- The target of a WAITTIME that stream t waits for. A halt stops the wait, but not of a target that is due in the cycle of the halt: a halt
event cancels no event that follows it (02 R52; 21 R574). -/
def Core.timeWait (c : Core) (t : Strm) : Option Nat :=
  match (c.strm t).wait with
  | .time target =>
    let due : Bool := match c.dbg.haltAt with
      | some (_, now) => (c.ctl.drain = .halt || c.ctl.st = .halted) && (c.strm t).present && decide (target ≤ now)
      | none => false
    if c.live t || due then some target else none
  | _ => none

/-- Long commands in flight: queued or started, not completed (04 R108). -/
def Core.flights (c : Core) : List LongCmd :=
  (c.engs.map (fun e => e.queue ++ e.run.map (·.cmd))).flatten

/-- Those that stream t has issued; in UNIFIED its one stream stands for both streams that a JOIN has united (04 R103, R105; log 85). -/
def Core.flightsOf (c : Core) (t : Strm) : List LongCmd := if c.ctl.split then c.flights.filter (fun l => l.strm = t) else c.flights

/-- Started commands alone. -/
def Core.started (c : Core) : List LongCmd := (c.engs.map (fun e => e.run.map (·.cmd))).flatten

/-- Scalar register `r` as stream `t` names it (04 R100, R104): s0 reads 0; in SPLIT the execute stream's s0 to s15 are the
registers s16 to s31. -/
def Core.sreg (c : Core) (t : Strm) (r : Nat) : Word :=
  if r = 0 then 0
  else Sparse.getD c.ctl.sregs (if c.ctl.split && t = .exec then r + 16 else r) 0

/-- Write a scalar register; writes to s0 are discarded (04 R100). -/
def Core.setSreg (c : Core) (t : Strm) (r : Nat) (v : Word) : Core :=
  if r = 0 then c
  else { c with ctl := { c.ctl with sregs := Sparse.put c.ctl.sregs (if c.ctl.split && t = .exec then r + 16 else r) v } }

/-- Arrival counter of a core (04 R115). -/
def Core.cnt (c : Core) (k : Nat) : Word := Sparse.getD c.cnts k 0

/-! ### Halts (21 R573 to R575) -/

/-- Reason codes in order of precedence (21 R575). -/
def haltStalemate := 1
def haltBrk := 2
def haltBreakpoint := 3
def haltExternal := 4
def haltSingle := 5

/-- Bit of the lowest 1 of an 8-bit mask. -/
def lowest8 (m : Nat) : Nat := ((List.range 8).find? (bit m)).getD 0

/-- A stalled word is not issued when a halt begins: it is fetched again after the resume (21 R574). -/
def StreamSt.unstall (t : StreamSt) : StreamSt :=
  match t.wait with
  | .stall _ => { t with wait := .none }
  | _ => t

/-- A halt can begin, or has begun in this very cycle (21 R575). -/
def Core.canHalt (c : Core) (cycle : Nat) : Bool :=
  c.ctl.st = .run && c.fence.run = .none
    && (c.ctl.drain = .none || (c.ctl.drain = .halt && c.dbg.haltAt.map Prod.fst = some cycle))

/-- A halt begins (21 R574, R575): issue stops; the reason, hit mask and lowest index are recorded; MULTI_MATCH counts a mask of
more than one bit; HALTS counts. A second cause of the same cycle joins the mask, and the reason is the first in precedence; a halt under way,
a fault or a reset takes no further cause. -/
def State.halt (s : State) (n reason mask : Nat) : State :=
  let c := s.core n
  if !c.canHalt s.cyc.cycles then s
  else
    let again := c.ctl.drain = .halt
    let old := if again then bits c.dbg.reason 15 8 else 0
    let all := Nat.lor old mask
    let r := (if again then min (c.dbg.reason % 256) reason else reason) + 256 * all + 65536 * lowest8 all
    let s := s.setCore n { c with ctl := { c.ctl with drain := .halt }, sa := c.sa.unstall, sx := c.sx.unstall,
                                  dbg := { c.dbg with reason := r, single := false, haltAt := some (s.cyc.cycles, s.time.now),
                                                      haltStepped := again && c.dbg.haltStepped } }
    let s := if again then s else s.tallyAdd 0x1F n 1
    if popcount old 8 ≤ 1 && decide (1 < popcount all 8) then s.tallyPav 0x20 (s.owner n) 1 else s

/-- The halt of a scheduled event; its record carries STEPPED where a forward step passed the event (02 R55). -/
def State.haltEvent (s : State) (n reason mask : Nat) (stepped : Bool) : State :=
  if (s.core n).canHalt s.cyc.cycles then
    (s.halt n reason mask).updCore n (fun c => { c with dbg := { c.dbg with haltStepped := c.dbg.haltStepped || stepped } })
  else s

/-- WAITCNT's comparison (04 R118). -/
def cntReached (k v : Word) : Bool := decide ((k - v).toNat < 2 ^ 31)

/-- Breakpoints of a kind whose condition holds, as a mask. -/
def Core.bpMask (c : Core) (hit : Nat → Bp → Bool) : Nat :=
  (List.range 8).foldl (fun m i => let b := Sparse.getD c.dbg.bps i {}; if b.armed && hit i b then m + 2 ^ i else m) 0

/-- The earliest TIME breakpoint that is armed (21 R573). -/
def Core.timeBp (c : Core) : Option Nat :=
  match ((List.range 8).map (fun i => Sparse.getD c.dbg.bps i {})).filter (fun b => b.armed && b.kind = 2) with
  | [] => none
  | b :: bs => some (bs.foldl (fun a x => min a x.mtch.toNat) b.mtch.toNat)

/-! ### Order of scheduled events (02 R52, Table 2-3) -/

/-- A pending scheduled event: its target, its order in Table 2-3, its Pavilion (16 for none) and its core. -/
structure Due where
  at_ : Nat
  rank : Nat
  pav : Nat := 0
  core : Nat := 0
deriving DecidableEq, Repr

/-- Event x takes effect before event y (02 R52): it falls due earlier; among those due at one time, or in the same cycle since their targets have
been reached, by Table 2-3, Pavilion and core. -/
def Due.before (now : Nat) (x y : Due) : Bool :=
  decide ([max x.at_ now, x.rank, x.pav, x.core] < [max y.at_ now, y.rank, y.pav, y.core])

/-- Number of the slot of a time, counted over frames. -/
def absSlot (t : Nat) : Nat := 64 * frameOf t + slotOf t

/-- First nanosecond of an absolute slot. -/
def absStart (k : Nat) : Nat := slotStart (k / 64) (k % 64)

/-- Instances running on the chip (14 Table 14-5, R394). -/
def State.rotActive (s : State) : Nat := (s.pavs.map (fun r => (r.2.rot.insts.filter (·.launched)).length)).sum

/-- The lead core of an instance: the lowest mask core that has started. -/
def Inst.lead (x : Inst) : Nat := (x.parts.map (·.core)).foldl min 143

/-- When the next entry of a map buffer ages: at the begin of frame f + 2, if its walk completed in frame f (10 R279). -/
def State.agingAt (s : State) : Option Nat :=
  match s.cores.flatMap (fun r => r.2.map.entries.map (fun e => e.2.frame)) with
  | [] => none
  | f :: l => some (250000 * (l.foldl min f + 2))

/-- The frame of a subscription's next push: a multiple of its period (03 R83). -/
def State.pushOf (s : State) (u : Sub) : Nat := (min u.last s.frame / u.period + 1) * u.period

/-- The frame of the next push. -/
def State.nextPush (s : State) : Option Nat :=
  match s.dict.subs.map s.pushOf with
  | [] => none
  | f :: l => some (l.foldl min f)

/-- The events of Table 2-3 that are pending. -/
def State.dues (s : State) : List Due :=
  (if s.obj 0x6020 1 = 0 then [] else [{ at_ := s.obj 0x6020 1, rank := 1 }])
    ++ s.cores.filterMap (fun r =>
      if r.2.canHalt s.cyc.cycles then r.2.timeBp.map (fun t => { at_ := t, rank := 1, pav := (s.owner r.1).getD 16, core := r.1 }) else none)
    ++ (List.range 16).filterMap (fun p =>
      if s.obj (0x6030 + p) 1 = 0 then none else some { at_ := s.obj (0x6030 + p) 1, rank := 2, pav := p })
    ++ (if s.obj 0x4020 7 = 0 then [] else [{ at_ := s.power.stepAt, rank := 3 }])
    ++ (List.range 16).filterMap (fun p => (s.pav p).bs.due.map (fun k => { at_ := absStart k, rank := 4, pav := p }))
    ++ (if 32 ≤ s.rotActive then []
        else s.pavs.flatMap (fun r => r.2.rot.insts.filterMap (fun x => x.due.map (fun t =>
          { at_ := t, rank := 5, pav := r.1, core := x.lead }))))
    ++ s.cores.flatMap (fun r => [r.2.timeWait .access, r.2.timeWait .exec].filterMap (fun w =>
      w.map (fun t => { at_ := t, rank := 6, pav := (s.owner r.1).getD 16, core := r.1 })))
    ++ s.agingAt.toList.map (fun t => { at_ := t, rank := 7 })
    ++ s.nextPush.toList.map (fun f => { at_ := 250000 * f, rank := 8 })

/-- It is the turn of an event: no pending one comes before it. -/
def State.turn (s : State) (d : Due) : Bool := s.dues.all (fun x => !x.before s.time.now d)

/-- Disarm the breakpoints of a mask (21 R573). -/
def Core.disarm (c : Core) (mask : Nat) : Core :=
  { c with dbg := { c.dbg with bps := (bitList mask 8).foldl (fun m i => Sparse.put m i { Sparse.getD m i {} with armed := false }) c.dbg.bps } }

/-- COUNTER breakpoints of a running core (21 R573). -/
def State.checkCntBps (s : State) (n : Nat) : State :=
  let c := s.core n
  if !c.canHalt s.cyc.cycles then s
  else
    let m := c.bpMask (fun _ b => b.kind = 3 && cntReached (c.cnt b.cnt) (b.mtch.setWidth 32))
    if m = 0 then s else (s.setCore n (c.disarm m)).halt n haltBreakpoint m

/-- Histogram bucket of a latency (16 R448): the number of boundaries B_k = ⌊1,000 · 2^(k/4)⌋ at or below it, k from 0 to 62. -/
def latBucket (l : Nat) : Nat := ((List.range 63).filter (fun k => decide (10 ^ 12 * 2 ^ k < (l + 1) ^ 4))).length

/-- Increase a 48-bit counter that stops at its top (16 R450). -/
def sat48 (v : Nat) : Nat := min (2 ^ 48 - 1) (v + 1)

/-- A batch row of class `cls`, queued at `at_`, is released (16 R448 to R450). -/
def State.binRow (s : State) (p cls at_ : Nat) : State :=
  let v := s.pav p
  if at_ < s.cyc.lastStep then s.setPav p { v with ct := { v.ct with stepped := sat48 v.ct.stepped } }
  else
    let lat := s.time.now - at_
    let k := 64 * cls + latBucket lat
    let s := s.setPav p { v with ct := { v.ct with hist := Sparse.put v.ct.hist k (sat48 (Sparse.getD v.ct.hist k 0)) } }
    (List.range 4).foldl (fun s i =>
      let cfg := s.obj (0x3185 + 8 * p) (i + 1)
      if bits cfg 63 62 = cls && decide (bits cfg 31 0 < lat) then
        let s := s.updPav p (fun v => { v with ct := { v.ct with miss := Sparse.put v.ct.miss i (sat48 (Sparse.getD v.ct.miss i 0)) } })
        if bit cfg 61 then s.raiseVf p 9 else s
      else s) s

/-- The consumer releases records of Pavilion p in the order in which they were written (12 R339, 16 R448). -/
def State.bsRelease : Nat → Nat → State → State
  | 0, _, s => s
  | k + 1, p, s =>
    match (s.pav p).bs.held with
    | [] => s
    | b :: rest =>
      let s := s.updPav p (fun v => { v with bs := { v.bs with held := rest } })
      State.bsRelease k p (b.rows.foldl (fun s r => s.binRow p r.cls r.at_) s)

/-- Increase an arrival counter (04 R115): modulo 2^32; a Pavilion's Bandstand counts releases on its BS_REL_CNT, also while BS_ENABLE is 0
(12 R339, R344). -/
def State.cntAdd (s : State) (n k amount : Nat) : State :=
  let s := s.updCore n (fun c => { c with cnts := Sparse.put c.cnts k (c.cnt k + BitVec.ofNat 32 amount) })
  let s := match s.owner n with
    | some p =>
      if Sparse.getD (s.pav p).bs.eff 7 0 = n && Sparse.getD (s.pav p).bs.eff 0xB 1 = k then
        State.bsRelease (min amount (s.pav p).bs.held.length) p
          (s.updPav p (fun v => { v with bs := { v.bs with released := v.bs.released + amount } }))
      else s
    | none => s
  s.checkCntBps n

/-! ### Faults of a core (04 R120, 09 R254, 10 R283) -/

/-- A wait of a stream whose core stops for a fault: it ends without its condition, but a REGION that waits for an access takes effect
after it (04 R129). -/
def StreamSt.endWaitFault (t : StreamSt) : StreamSt :=
  match t.wait with
  | .region .. => t
  | _ => { t with wait := .none }

/-- Issue of a core stops for a fault: the open step becomes FAILED, waits end without their condition (04 R120, R132), and the core
drains. -/
def Core.stopFault (c : Core) : Core :=
  { c with ctl := { c.ctl with drain := .fault, stepState := if c.ctl.stepState = 0 then 2 else c.ctl.stepState },
           sa := c.sa.endWaitFault, sx := c.sx.endWaitFault }

/-- A program fault (04 R120): CORE_FAULT and FAULT_ADDR, the CORE_FAULT cause and record, and the drain. A core already draining for
a fault or a reset keeps its first. -/
def State.coreFault (s : State) (n : Nat) (t : Strm) (addr code : Nat) : State :=
  let c := s.core n
  if c.ctl.drain = .fault || c.ctl.drain = .reset then s
  else
    let f := code + 256 * b2n (t = .exec)
    let c := c.stopFault
    let s := s.setCore n { c with ctl := { c.ctl with fault := f, faultAddr := addr } }
    let s := s.logCore 0x0001 n 2 (f + addr * 2 ^ 32 + c.ctl.stepNum.toNat * 2 ^ 64)
    s.raiseCore n 2

/-- LAST_DETECT (09 Table 9-3). -/
def lastDetect (cls bank sub row col step : Nat) : Nat :=
  step % 2 ^ 21 + col * 2 ^ 21 + row * 2 ^ 31 + sub * 2 ^ 40 + bank * 2 ^ 42 + cls * 2 ^ 48

/-- Bank, sub-array and row of a line of the Plot (09 R240). -/
def plotLoc (addr : Nat) : Nat × Nat × Nat :=
  let sl := addr / 256
  let r := sl / 48
  ((sl + r) % 48, addr % 256 / 64, r)

/-- Start the fault drain of a Plot error unless a reset runs (04 R120, 09 R254): the open step becomes FAILED. A core that is FAULTED or FENCED
stays so. -/
def State.plotStop (s : State) (n : Nat) : State :=
  let c := s.core n
  if c.ctl.drain = .reset || c.ctl.st = .faulted || c.ctl.st = .fenced then s
  else s.setCore n { c.stopFault with ctl := { c.stopFault.ctl with poisoning := true }, pint := { c.pint with stepFailed := true } }

/-- A read of core n's Plot finds a line that is not good (09 R254, R260, R266): kind 1 poisoned, 2 detected. -/
def State.plotDetect (s : State) (n addr kind : Nat) : State :=
  let (b, j, r) := plotLoc addr
  let c := s.core n
  let step := c.ctl.stepNum.toNat
  if kind = 1 then
    let s := s.setCore n { c with pint := { c.pint with last := lastDetect 4 b j r 0x3FF step } }
    (s.tallyAdd 0x1C n 1).plotStop n
  else
    let fenced := bit c.pint.fenced b
    let last := lastDetect (if fenced then 5 else 0) b j r 0x3FF step
    let susp := if fenced || c.pint.suspects.any (fun x => x.bank = b && x.sub = j && x.row = r && x.stage = 0) then c.pint.suspects
      else c.pint.suspects ++ [{ bank := b, sub := j, row := r, stage := 0, column := 0, sweep := false }]
    let s := s.setCore n { c with pint := { c.pint with last := last, detects := (c.pint.detects + 1) % 2 ^ 32, suspects := susp } }
    let s := { s with integ := { s.integ with plotDetects := (s.integ.plotDetects + 1) % 2 ^ 32 } }
    let s := s.tallyAdd 0x1B n 1
    let s := s.logCore 0x0010 n 2 last
    s.plotStop n

/-- A memory fault of a core (10 R283): cause of Table 10-6, direction and address. -/
def State.memFault (s : State) (n cause : Nat) (write : Bool) (va : Nat) : State :=
  let c := s.core n
  if c.ctl.drain = .reset then s
  else
    let w := va % 2 ^ 48 + b2n write * 2 ^ 55 + cause * 2 ^ 56
    let first := c.map.memFault = 0
    let m := if first then { c.map with memFault := w, memFaults := 1 } else { c.map with memFaults := (c.map.memFaults + 1) % 2 ^ 32 }
    let c := { c with map := m }
    let c := if c.ctl.st = .run || c.ctl.st = .halted then c.stopFault else c
    let s := s.setCore n c
    let s := s.logCore 0x0002 n 2 (w + c.ctl.stepNum.toNat * 2 ^ 64)
    s.raiseCore n 4

/-- Next identity of a request, packet or long command. -/
def State.fresh (s : State) : Nat × State := (s.arb.nextId, { s with arb := { s.arb with nextId := s.arb.nextId + 1 } })

end Sys2Proof.Machine
end

