-- ==== Sys2Proof/Machine/Plot.lean ====
section
/-! DEFINITION. Machine/Plot.lean: the Plot of a core (09): line conditions, reads and writes with poison, accumulate-on-write, slot
tags (04 R110 to R115), scrubs. -/

namespace Sys2Proof.Machine

/-- Size of a Plot in bytes (09 R239). -/
def plotSize : Nat := 0x600000

/-! ### Detection codes (09 R251, R252) -/

/-- One bit into the CRC-16 with generator x^16 + x^15 + x^2 + 1. -/
def crc16Bit (c : Nat) (b : Bool) : Nat :=
  let t := 2 * c % 65536
  if bit c 15 != b then Nat.xor t 0x8005 else t

/-- The code of line `line` that holds the 512 bits `data` (09 R251): initial value 0, the data from bit 0 of byte 0 upwards, then address bits 22:6
of the line, which are its number, from bit 6 upwards (log 87). -/
def lineCode (line data : Nat) : Nat :=
  (List.range 17).foldl (fun c i => crc16Bit c (bit line i)) ((List.range 512).foldl (fun c i => crc16Bit c (bit data i)) 0)

/-- Columns 512 to 528 of a good and of a poisoned line (09 R252): code + 2^16 · mark. -/
def goodCheck (line data : Nat) : Nat := lineCode line data
def poisonCheck (line data : Nat) : Nat := 65536 + (65535 - lineCode line data)

/-- Condition of a line as its 529 columns are read (09 R252): 0 good, 1 poisoned, 2 detected. -/
def readCond (line v : Nat) : Nat :=
  let data := v % 2 ^ 512
  if v / 2 ^ 512 = goodCheck line data then 0 else if v / 2 ^ 512 = poisonCheck line data then 1 else 2

/-- The spare that a column of a sub-array is steered to (09 R259). -/
def PlotInt.spareOf (p : PlotInt) (bank sub column : Nat) : Option Nat :=
  (p.repairs.reverse.find? (fun r => r.bank = bank && r.sub = sub && r.column = column)).map Repair.spare

/-- The column of a line that a column of the array serves (09 R259, R261): a steered column is out of service, a spare in service counts as the
column it replaces, any other spare is none. -/
def PlotInt.serves (p : PlotInt) (bank sub column : Nat) : Option Nat :=
  if column ≤ 528 then (if (p.spareOf bank sub column).isSome then none else some column)
  else ((p.repairs.filter (fun r => r.bank = bank && r.sub = sub && r.spare = column - 529)).find?
    (fun r => p.spareOf bank sub r.column = some r.spare)).map Repair.column

/-- What a bit reads through a broken column or cell. -/
def Broken.read (x : Broken) (b : Bool) : Bool := if x.val = 0 then false else if x.val = 1 then true else !b

/-- The columns of a line that are broken, with what breaks them. -/
def PlotInt.brokenAt (p : PlotInt) (line : Nat) : List (Nat × Broken) :=
  let (b, j, r) := plotLoc (64 * line)
  (p.broken.filter (fun x => x.bank = b && x.sub = j && (x.row = none || x.row = some r))).filterMap (fun x =>
    (p.serves b j x.column).map (fun k => (k, x)))

/-- The 512 data bits that a line holds, and its columns 512 to 528. -/
def Core.lineData (c : Core) (line : Nat) : Nat := leNat (Mem.read c.plot.bytes (64 * line) 64)
def Core.lineCheck (c : Core) (line : Nat) : Nat := (Sparse.find c.plot.chk line).getD (goodCheck line (c.lineData line))

/-- The 529 columns of a line as a read finds them. -/
def Core.lineSeen (c : Core) (line : Nat) : Nat :=
  (c.pint.brokenAt line).foldl (fun v x => setBit v x.1 (x.2.read (bit v x.1))) (c.lineData line + 2 ^ 512 * c.lineCheck line)

/-- Condition of a line (09 R252, R260): 0 good, 1 poisoned, 2 detected; every line of a fenced bank reads as detected. -/
def Core.lineCond (c : Core) (line : Nat) : Nat :=
  if bit c.pint.fenced (plotLoc (64 * line)).1 then 2
  else if (Sparse.find c.plot.chk line).isNone && (c.pint.broken.isEmpty || (c.pint.brokenAt line).isEmpty) then 0
  else readCond line (c.lineSeen line)

/-- Write the check columns of a line for the data it holds. -/
def Core.setCond (c : Core) (line : Nat) (poison : Bool) : Core :=
  { c with plot := { c.plot with chk := if poison then Sparse.put c.plot.chk line (poisonCheck line (c.lineData line)) else Sparse.del c.plot.chk line } }

/-- A stored bit of a line changes: of its data, or of its code and mark. -/
def Core.flipBit (c : Core) (line column : Nat) : Core :=
  let old := c.lineCheck line
  let a := 64 * line + column / 8
  let c := if column < 512 then { c with plot := { c.plot with bytes := Mem.set c.plot.bytes a (Mem.byte c.plot.bytes a ^^^ BitVec.ofNat 8 (2 ^ (column % 8))) } }
    else c
  let new := if column < 512 then old else Nat.xor old (2 ^ (column - 512))
  { c with plot := { c.plot with chk := if new = goodCheck line (c.lineData line) then Sparse.del c.plot.chk line else Sparse.put c.plot.chk line new } }

/-! ### Reads and writes -/

/-- Numbers of the lines that `n` bytes from `a` touch. -/
def linesOf (a n : Nat) : List Nat := if n = 0 then [] else (List.range ((a + n - 1) / 64 + 1 - a / 64)).map (· + a / 64)

/-- Numbers of the slots that `n` bytes from `a` touch (04 R115). -/
def slotsOf (a n : Nat) : List Nat := if n = 0 then [] else (List.range ((a + n - 1) / 256 + 1 - a / 256)).map (· + a / 256)

/-- The byte at an address as a read finds it. -/
def Core.byteSeen (c : Core) (a : Nat) : Byte :=
  if c.pint.broken.isEmpty then Mem.byte c.plot.bytes a
  else BitVec.ofNat 8 (c.lineSeen (a / 64) / 2 ^ (8 * (a % 64)))

/-- Bytes of a Plot with the poison of their lines (09 R252, R255). -/
def Core.plotBytes (c : Core) (a n : Nat) : List PByte :=
  (List.range n).map (fun i => (c.byteSeen (a + i), c.lineCond ((a + i) / 64) ≠ 0))

/-- An engine or decode reads Plot bytes: each line that is not good is recorded once (09 R252, R254). -/
def State.plotRead (s : State) (n a len : Nat) : List PByte × State :=
  let c := s.core n
  let s := (linesOf a len).foldl (fun s l => let k := c.lineCond l; if k = 0 then s else s.plotDetect n (64 * l) k) s
  (c.plotBytes a len, s)

/-- Raw bytes of a list with poison. -/
def rawBytes (l : List PByte) : List Byte := l.map (·.1)

def clean (l : List Byte) : List PByte := l.map (fun b => (b, false))

/-- Some byte is poisoned. -/
def anyPoison (l : List PByte) : Bool := l.any (·.2)

/-- The condition of a line after a write of the bytes `[a, a + d.length)` (09 R252, R265): a whole line takes the write's own; a part
leaves a poisoned line poisoned, makes a detected line poisoned, and poisons a good line where it carries poison. -/
def lineAfter (old line a : Nat) (d : List PByte) : Nat :=
  let lo := max a (64 * line)
  let hi := min (a + d.length) (64 * line + 64)
  let part := (d.drop (lo - a)).take (hi - lo)
  let p := b2n (anyPoison part)
  if lo = 64 * line && hi = 64 * line + 64 then p
  else if old = 0 then p else 1

/-- The write of `n` bytes from `a` covers only a part of a line. -/
def partLine (line a n : Nat) : Bool := decide (a > 64 * line) || decide (a + n < 64 * line + 64)

/-- The read half of a write of a part of a line finds what its broken columns show, and that is written back (09 R241, R252). -/
def Core.readHalf (c : Core) (line : Nat) : Core :=
  if c.pint.broken.isEmpty then c
  else { c with plot := { c.plot with bytes := Mem.write c.plot.bytes (64 * line) (leBytes 64 (c.lineSeen line)) } }

/-- A plain write of bytes into a Plot (09 R241, R252). -/
def Core.plotPut (c : Core) (a : Nat) (d : List PByte) : Core :=
  let ls := linesOf a d.length
  let conds := ls.map (fun l => (l, lineAfter (c.lineCond l) l a d))
  let c := ls.foldl (fun c l => if partLine l a d.length then c.readHalf l else c) c
  let c := { c with plot := { c.plot with bytes := Mem.write c.plot.bytes a (rawBytes d) } }
  conds.foldl (fun c x => c.setCond x.1 (x.2 ≠ 0)) c

/-- A plain write into core n's Plot. A part of a detected line raises the detection of its read half. -/
def State.plotPut (s : State) (n a : Nat) (d : List PByte) : State :=
  let c := s.core n
  (linesOf a d.length).foldl (fun s l => if partLine l a d.length && c.lineCond l = 2 then s.plotDetect n (64 * l) 2 else s)
    (s.setCore n (c.plotPut a d))

/-- One word of an accumulate-on-write (09 R248): 1 ADD_FP32, 2 ADD_INT32_SAT, 3 MAX_FP32; the new word and whether it clamped. -/
def aowWord (op old v : Nat) : Nat × Bool :=
  match op with
  | 1 => (fp32.encode false (FVal.add (fp32.decode old) (fp32.decode v)), false)
  | 2 =>
    let x := toSigned 32 old + toSigned 32 v
    (ofSigned 32 (clampI i32Min i32Max x), decide (x < i32Min) || decide (i32Max < x))
  | 3 => (fp32.encode false (FVal.max (fp32.decode old) (fp32.decode v)), false)
  | _ => (v, false)

/-- An accumulate-on-write over whole words (09 R248): the words it writes and how many clamped. A word that meets poison is written
poisoned. -/
def aowWords (op : Nat) : List PByte → List PByte → List PByte × Nat
  | o0 :: o1 :: o2 :: o3 :: os, d0 :: d1 :: d2 :: d3 :: ds =>
    let p := anyPoison [d0, d1, d2, d3]
    let (w, sat) := aowWord op (leNat (rawBytes [o0, o1, o2, o3])) (leNat (rawBytes [d0, d1, d2, d3]))
    let (r, k) := aowWords op os ds
    ((leBytes 4 w).map (fun b => (b, p)) ++ r, k + b2n sat)
  | _, _ => ([], 0)

/-- Write bytes with their AOW into a Plot (09 R248): an AOW reads its words first, and a line that was not good stays poisoned. -/
def State.plotWrite (s : State) (n a : Nat) (d : List PByte) (aow : Nat) : State :=
  if aow = 0 then s.plotPut n a d
  else
    let c := s.core n
    let ls := linesOf a d.length
    let (w, sat) := aowWords aow (c.plotBytes a d.length) d
    let s := ls.foldl (fun s l => if c.lineCond l = 2 then s.plotDetect n (64 * l) 2 else s) s
    let c := s.core n
    let conds := ls.map (fun l =>
      let lo := max a (64 * l)
      (l, c.lineCond l ≠ 0 || anyPoison ((w.drop (lo - a)).take (64 * l + 64 - lo))))
    let c := ls.foldl (fun c l => c.readHalf l) c
    let c := { c with plot := { c.plot with bytes := Mem.write c.plot.bytes a (rawBytes w) } }
    let s := s.setCore n (conds.foldl (fun c x => c.setCond x.1 x.2) c)
    if sat = 0 then s else s.tallyAdd 0x19 n sat

/-! ### Windows and tags -/

/-- Indices of the region windows that cover a slot, ascending (04 R110, R111). -/
def Core.winsAt (c : Core) (slot : Nat) : List Nat :=
  (List.range 8).filter (fun w => match Sparse.find c.wins w with
    | some v => decide (v.base ≤ 256 * slot) && decide (256 * slot < v.base + v.size)
    | none => false)

/-- A slot lies in a window that takes effect as TAGGED (04 R111). -/
def Core.tagged (c : Core) (slot : Nat) : Bool :=
  match c.winsAt slot with
  | w :: _ => match Sparse.find c.wins w with | some v => v.tagged | none => false
  | [] => false

/-- The tag of a slot: true is FULL (04 R112). -/
def Core.tag (c : Core) (slot : Nat) : Bool := Sparse.getD c.plot.tags slot false

/-- Set the tag of a slot. -/
def Core.setTag (c : Core) (slot : Nat) (full : Bool) : Core :=
  { c with plot := { c.plot with tags := if full then Sparse.put c.plot.tags slot true else Sparse.del c.plot.tags slot } }

/-- Some tagged slot of a range is not FULL: a read waits (04 R112). -/
def Core.readBlocked (c : Core) (a n : Nat) : Bool := (slotsOf a n).any (fun sl => c.tagged sl && !c.tag sl)

/-- Some tagged slot of a range is FULL: a write waits (04 R112). -/
def Core.writeBlocked (c : Core) (a n : Nat) : Bool := (slotsOf a n).any (fun sl => c.tagged sl && c.tag sl)

/-- A tagged slot of a write range is not written whole, or the write is an AOW (04 R112, 09 R250). -/
def Core.tagMisaligned (c : Core) (a n aow : Nat) : Bool :=
  (slotsOf a n).any (fun sl => c.tagged sl && (aow ≠ 0 || decide (256 * sl < a) || decide (a + n < 256 * sl + 256)))

/-- Tagged slots become FULL where a write has reached their last byte (04 R112). -/
def State.fillTags (s : State) (n a len : Nat) : State :=
  s.updCore n (fun c => (slotsOf a len).foldl (fun c sl =>
    if c.tagged sl && decide (256 * sl + 256 ≤ a + len) then c.setTag sl true else c) c)

/-- A read marked CONSUME sets the tagged slots it has read to the end EMPTY (04 R112). -/
def State.consumeTags (s : State) (n a len : Nat) : State :=
  s.updCore n (fun c => (slotsOf a len).foldl (fun c sl =>
    if c.tagged sl && decide (256 * sl + 256 ≤ a + len) then c.setTag sl false else c) c)

/-- Some byte of the ranges lies where windows overlap (04 R111). -/
def Core.overlapped (c : Core) (rs : List (Nat × Nat)) : Bool :=
  rs.any (fun r => (slotsOf r.1 r.2).any (fun sl => decide (1 < (c.winsAt sl).length)))

/-- Count MULTI_MATCH for a command whose ranges touch an overlap of windows (04 R111). -/
def State.multiWin (s : State) (n : Nat) (rs : List (Nat × Nat)) : State :=
  if (s.core n).overlapped rs then s.tallyPav 0x20 (s.owner n) 1 else s

/-- A write becomes visible in core n's Plot: bytes, tags, and its arrival counter by the slots it touches (04 R115). -/
def State.arrive (s : State) (n a : Nat) (d : List PByte) (aow : Nat) (cnt : Option Nat) : State :=
  let s := (s.plotWrite n a d aow).fillTags n a d.length
  match cnt with
  | some k => s.cntAdd n k (slotsOf a d.length).length
  | none => s

/-! ### Scrub -/

/-- A scrub of a core's Plot (09 R262): lines zero and good, sentinel rows rewritten, tags EMPTY, Cistern and saturation flags 0. It keeps column
repairs and fenced banks, and clears the tiles' valid bits (log 21). -/
def Core.scrub (c : Core) : Core :=
  { c with plot := {}, par := { c.par with cistern := [], satFlags := 0, beds := [] }, pint := { c.pint with scrubPending := false, sentFlips := [] } }

/-- Scrub now, or after the classification or repair that is pending (09 R262, R268). -/
def Core.scrubOrWait (c : Core) : Core :=
  if c.pint.suspects.isEmpty then c.scrub else { c with pint := { c.pint with scrubPending := true } }

end Sys2Proof.Machine
end

