-- ==== Sys2Proof/Machine/Memory.lean ====
section
/-! DEFINITION. Machine/Memory.lean: the memory tiers, Pip codes and burst marks (10 R270, R292, R636, 18 R497 to R502), the Orangery
(10 R285 to R293), translation (10 R274 to R282) and the gateways (10 R284). -/

namespace Sys2Proof.Machine

def grottoBase : Nat := 0x010000000000
def hostBase : Nat := 0x800000000000
def hbmSize : Nat := 288000000000
def grottoSize : Nat := 512000000000

/-- Address ranges of 10 Table 10-1: 0 HBM4, 1 Grotto, 2 host window, 3 none. -/
def tierOf (pa : Nat) : Nat :=
  if pa < hbmSize then 0
  else if grottoBase ≤ pa && pa < grottoBase + grottoSize then 1
  else if hostBase ≤ pa && pa < 2 ^ 48 then 2
  else 3

/-- Arbitrated resource of a tier (16 Table 16-1). -/
def tierRes (t : Nat) : Nat := if t = 0 then 0 else if t = 1 then 1 else 5

/-- Controller of a physical address: stack 0 to 5, Grotto controller 6 or 7 (10 Table 10-1). -/
def memc (pa : Nat) : Nat := if pa < grottoBase then pa / 4096 % 6 else 6 + (pa - grottoBase) / 4096 % 2

/-- Gateway of a physical address (10 R284). -/
def gateway (pa : Nat) : Nat := if pa < hostBase then pa / 128 % 12 else 0

/-- A range lies wholly in the populated part of one tier of memory (15 R408). -/
def populated (pa len : Nat) : Bool :=
  decide (pa + len ≤ hbmSize) || (decide (grottoBase ≤ pa) && decide (pa + len ≤ grottoBase + grottoSize))

/-- Bursts (PA ÷ 64) that `n` bytes from `a` touch. -/
def burstsOf (a n : Nat) : List Nat := linesOf a n

/-- The far line that holds bytes of line address `la`, whatever its Pavilion (10 R286). -/
def State.farAt (s : State) (la : Nat) : Option OLine := s.org.far.find? (fun l => l.addr = la)

/-- A byte of HBM4 or the Grotto as a bypassing read sees it (10 R286): masked bytes of any far line that holds it, memory for the rest;
bytes of a marked burst are poisoned (10 R636). -/
def State.memByte (s : State) (a : Nat) : PByte :=
  match s.org.far.find? (fun l => l.addr = a / 128 && bit l.mask (a % 128)) with
  | some l => let b := l.data.getD (a % 128) (0, false); (b.1, b.2 || l.detected)
  | none => (Mem.byte s.mem a, s.mmeta.mark.contains (a / 64) || Sparse.getD s.mmeta.err (a / 64) 0 = 2)

/-- A far line holds the byte of an address (10 R286). -/
def State.farHas (s : State) (a : Nat) : Bool := s.org.far.any (fun l => l.addr = a / 128 && bit l.mask (a % 128))

/-- A read of `[pa, pa + len)` takes some byte of burst b from the tier, not from a far line. -/
def State.fromTier (s : State) (pa len b : Nat) : Bool :=
  let lo := max pa (64 * b)
  (List.range (min (pa + len) (64 * b + 64) - lo)).any (fun i => !s.farHas (lo + i))

/-! ### Pip codes (18 R497 to R501) -/

/-- The CRC of a block: its 4,096 bytes and its number as a U64 (18 R497). -/
def pipCrc (data : List Byte) (blk : Nat) : Nat := crc32c (data ++ leBytes 8 blk)

/-- What the stored code of a poisoned block differs by from the CRC: it is the complement (18 R497). -/
def pipPoison : Nat := 2 ^ 32 - 1

/-- Condition of a block by what its code differs by: 0 UNWRITTEN, 1 good, 2 poisoned, 3 detected (18 R497, R498). -/
def pipCond : Option Nat → Nat
  | none => 0
  | some x => if x = 0 then 1 else if x = pipPoison then 2 else 3

/-- The stored Pip code of a block (18 R497). -/
def State.pipCode (s : State) (blk : Nat) : Option Nat :=
  (Sparse.find s.mmeta.pip blk).map (fun x => Nat.xor x (pipCrc (Mem.read s.mem (4096 * blk) 4096) blk))

/-- How the CRC of a block changes with bits of its byte `off`, by linearity (18 R499). -/
def pipDelta (off : Nat) (mask : Byte) : Nat :=
  (List.replicate (4103 - off) (0 : Byte)).foldl (crcByte 0x82F63B78) (crcByte 0x82F63B78 0 mask)

/-- Something befalls a tier or an Orangery line (10 R292, R293, 18 R497); a block that is UNWRITTEN reads zeros whatever its cells hold (R498). -/
def State.memUpset (s : State) : MemUpset → State
  | .burst b c => if (Sparse.find s.mmeta.pip (b / 64)).isNone then s
      else { s with mmeta := { s.mmeta with err := Sparse.put s.mmeta.err b (if c then 1 else 2) } }
  | .byte a k => match Sparse.find s.mmeta.pip (a / 4096) with
      | some x => { s with mem := Mem.set s.mem a (Mem.byte s.mem a ^^^ k),
                           mmeta := { s.mmeta with pip := Sparse.put s.mmeta.pip (a / 4096) (Nat.xor x (pipDelta (a % 4096) k)) } }
      | none => s
  | .code blk k => match Sparse.find s.mmeta.pip blk with
      | some x => { s with mmeta := { s.mmeta with pip := Sparse.put s.mmeta.pip blk (Nat.xor x k.toNat) } }
      | none => s
  | .line far la =>
      let hit := fun (l : OLine) => if l.addr = la then { l with detected := true } else l
      { s with org := if far then { s.org with far := s.org.far.map hit } else { s.org with near := s.org.near.map hit } }

/-- Add a burst to the marked ones, once. -/
def addMark (l : List Nat) (b : Nat) : List Nat := if l.contains b then l else l ++ [b]

/-- Count the errors of a burst that a read or a partial write meets (10 R292). -/
def State.burstCheck (s : State) (b : Nat) : State :=
  let pa := 64 * b
  match Sparse.getD s.mmeta.err b 0 with
  | 1 => s.tallyAdd 0x40 (memc pa) 1
  | 2 => (s.tallyAdd 0x41 (memc pa) 1).logRec 0x0020 (memc pa) 2 none pa
  | _ => s

/-- A block check finds the block not good (18 R500): finder 0 read, 1 sweep. -/
def State.pipCheck (s : State) (blk finder : Nat) : Bool × State :=
  match pipCond (Sparse.find s.mmeta.pip blk) with
  | 2 => (true, s.tallyAdd 0x43 (memc (4096 * blk)) 1)
  | 3 =>
    let m := s.mmeta
    let s := { s with mmeta := { m with pip := Sparse.put m.pip blk pipPoison, pipFails := m.pipFails + 1,
                                        mark := (List.range 64).foldl (fun l i => addMark l (64 * blk + i)) m.mark } }
    (true, (s.tallyAdd 0x42 (memc (4096 * blk)) 1).logRec 0x0022 (memc (4096 * blk)) 2 none (4096 * blk + finder * 2 ^ 64))
  | _ => (false, s)

/-- What a block's Pip code differs by after a write to it (18 R499): a whole-block write stores a fresh code; a partial one keeps a poisoned
block poisoned and a detected one detected. -/
def pipAfter (old : Option Nat) (whole poison : Bool) : Nat :=
  let x := old.getD 0
  if whole || x = 0 then (if poison then pipPoison else 0) else x

/-- What a write does to one burst (10 R292, R636): whole, it clears its error and takes its own poison; in part, it counts an error,
and marks the burst on an uncorrectable one or on poison. -/
def State.burstWrite (s : State) (pa : Nat) (d : List PByte) (b : Nat) : State :=
  let lo := max pa (64 * b)
  let hi := min (pa + d.length) (64 * b + 64)
  let poison := anyPoison ((d.drop (lo - pa)).take (hi - lo))
  let whole := decide (lo = 64 * b) && decide (hi = 64 * b + 64)
  let e := Sparse.getD s.mmeta.err b 0
  let s := if whole || s.mmeta.mark.contains b then s else s.burstCheck b
  let m := s.mmeta
  let mark := if poison || (!whole && (e = 2 || m.mark.contains b)) then addMark m.mark b else m.mark.filter (· ≠ b)
  { s with mmeta := { m with err := Sparse.del m.err b, mark := mark } }

/-- A write to the bytes and the metadata of HBM4 or the Grotto within one block, below any Orangery line. -/
def State.memPut (s : State) (pa : Nat) (d : List PByte) : State :=
  let s := (burstsOf pa d.length).foldl (fun s b => s.burstWrite pa d b) s
  let blk := pa / 4096
  let c := pipAfter (Sparse.find s.mmeta.pip blk) (pa % 4096 = 0 && d.length = 4096) (anyPoison d)
  { s with mem := Mem.write s.mem pa (rawBytes d), mmeta := { s.mmeta with pip := Sparse.put s.mmeta.pip blk c } }

/-! ### The gateways (10 R284) -/

/-- Pavilion p owns the whole of `[pa, pa + len)`. -/
def State.owns (s : State) (p pa len : Nat) : Bool :=
  if tierOf pa = 2 then decide (pa - hostBase + len ≤ s.obj (0x2210 + p) 3)
  else (List.range 8).any (fun r =>
    let (b, z) := s.pavRange p r
    z ≠ 0 && decide (b ≤ pa) && decide (pa + len ≤ b + z))

def farSlice (la : Nat) : Nat := 128 * la / 4096 % 6

/-- Host-window requests of a Pavilion leave the chip (15 R416). -/
def State.hostOpen (s : State) (p : Nat) : Bool := s.pcie.vfEnable && s.pcie.linkUp && (s.fn (p + 1)).busMaster

/-- The gateway's answer to an access (10 R271, R284): 0 passes, else the memory-fault cause. -/
def State.gate (s : State) (p pa len : Nat) : Nat :=
  if !s.owns p pa len then 3 else if tierOf pa = 2 && !s.hostOpen p then 6 else 0

/-- Join runs that follow one another in address. -/
def mergeRuns : List (Nat × Nat) → List (Nat × Nat)
  | [] => []
  | (a, n) :: rest =>
    match mergeRuns rest with
    | (b, m) :: t => if a + n = b then (a, n + m) :: t else (a, n) :: (b, m) :: t
    | [] => [(a, n)]

/-- Write back the dirty masked bytes of a far line (10 R287, R293), as far as its Pavilion owns them at the gateway (10 R284): bytes that follow
one another in one write, so that a burst that they fill is replaced whole (R292, R636). -/
def State.writeBack (s : State) (l : OLine) : State :=
  (mergeRuns (((bitList l.dirty 128).filter (fun i => s.owns l.pav (128 * l.addr + i) 1)).map (fun i => (i, 1)))).foldl (fun s r =>
    s.memPut (128 * l.addr + r.1) (((l.data.drop r.1).take r.2).map (fun b => (b.1, b.2 || l.detected)))) s

/-- A line's detection code fails on a read (10 R293): without dirty bytes it is dropped and counted; with dirty bytes it is written back
as poison, recorded, and dropped. `far` names its level. The result says whether the line may be allocated again. -/
def State.dropDetected (s : State) (l : OLine) (far : Bool) : Bool × State :=
  let s := if l.dirty = 0 then s.tallyAdd 0x3B 0 1
    else (s.writeBack l).logRec 0x0021 (if far then 16 + l.slice else l.slice) 2 (some l.pav) (128 * l.addr)
  let o := s.org
  (l.dirty = 0, { s with org := if far then { o with far := o.far.filter (fun x => !(x == l)) }
                                 else { o with near := o.near.filter (fun x => !(x == l)) } })

/-- A far line leaves its level, its dirty bytes written back (10 R287, R289); the write-back of a detected line is R293's. -/
def State.farOut (s : State) (l : OLine) : State :=
  if l.detected && l.dirty ≠ 0 then (s.dropDetected l true).2
  else { s.writeBack l with org := { s.org with far := s.org.far.filter (fun x => !(x == l)) } }

/-- A far line holds a byte of a range (10 R286). -/
def OLine.holds (l : OLine) (pa len : Nat) : Bool :=
  (List.range 128).any (fun i => bit l.mask i && decide (pa ≤ 128 * l.addr + i) && decide (128 * l.addr + i < pa + len))

/-- A bypassing read of HBM4 or the Grotto within one block (10 R286, R292, 18 R500): a read of the whole block checks its Pip code.
A detected far line that holds bytes of it is dropped: before the read where it is clean, after it where it is dirty (R293). -/
def State.memRead (s : State) (pa len : Nat) : List PByte × State :=
  let found := s.org.far.filter (fun l => l.detected && l.holds pa len)
  let s := (found.filter (fun l => l.dirty = 0)).foldl (fun s l => (s.dropDetected l true).2) s
  let d := (List.range len).map (fun i => s.memByte (pa + i))
  let s := (burstsOf pa len).foldl (fun s b => if s.mmeta.mark.contains b || !s.fromTier pa len b then s else s.burstCheck b) s
  if pa % 4096 = 0 && len = 4096 then
    let (bad, s) := s.pipCheck (pa / 4096) 0
    (if bad then d.map (fun b => (b.1, true)) else d, (found.filter (fun l => l.dirty ≠ 0)).foldl (fun s l => (s.dropDetected l true).2) s)
  else (d, (found.filter (fun l => l.dirty ≠ 0)).foldl (fun s l => (s.dropDetected l true).2) s)

/-- Replace bytes of a line's data. -/
def patch (data : List PByte) (off : Nat) (d : List PByte) : List PByte :=
  data.take off ++ d ++ data.drop (off + d.length)

/-- Mask of `n` bytes at `off` of a line. -/
def maskOf (off n : Nat) : Nat := (2 ^ n - 1) * 2 ^ off

/-- The part of `d`, at address `pa`, that falls into line `la`, with its offset in the line. -/
def lineCut (pa : Nat) (d : List PByte) (la : Nat) : Nat × List PByte :=
  let lo := max pa (128 * la)
  let hi := min (pa + d.length) (128 * la + 128)
  (lo - 128 * la, (d.drop (lo - pa)).take (hi - lo))

/-- A bypassing write updates the masked bytes of a far line (10 R286). -/
def OLine.through (l : OLine) (pa : Nat) (d : List PByte) : OLine :=
  if pa < 128 * l.addr + 128 && 128 * l.addr < pa + d.length then
    let (off, part) := lineCut pa d l.addr
    let new := (part.zipIdx).foldl (fun x (b, i) => if bit l.mask (off + i) then patch x (off + i) [b] else x) l.data
    { l with data := new }
  else l

/-- A bypassing write of HBM4 or the Grotto within one block (10 R286): far lines and memory. -/
def State.memWrite (s : State) (pa : Nat) (d : List PByte) : State :=
  let s := s.memPut pa d
  { s with org := { s.org with far := s.org.far.map (fun l => l.through pa d) } }

/-! ### The Orangery (10 R285 to R293) -/

/-- Set of the near slice (10 R285). -/
def nearSet (la : Nat) : Nat := 128 * la / 1536 % 512

/-- Set of the far slice (10 R285). -/
def farSet (la : Nat) : Nat := (32 * (128 * la / 24576) + la % 32) % 8192

/-- The near line of a Pavilion. -/
def State.nearLine (s : State) (p la : Nat) : Option OLine := s.org.near.find? (fun l => l.addr = la && l.pav = p)
def State.farLine (s : State) (p la : Nat) : Option OLine := s.org.far.find? (fun l => l.addr = la && l.pav = p)

/-- The way a new line takes: the lowest free allowed way of its set, else the least recently used line in an allowed way
(10 R287). None where the mask is 0. -/
def pickWay (ls : List OLine) (same : OLine → Bool) (ways : Nat) : Option (Nat × Option OLine) :=
  let here := ls.filter same
  match (bitList ways 16).find? (fun w => here.all (fun l => l.way ≠ w)) with
  | some w => some (w, none)
  | none =>
    match here.filter (fun l => bit ways l.way) with
    | [] => none
    | l :: rest => let v := rest.foldl (fun a b => if b.used < a.used then b else a) l; some (v.way, some v)

/-- Allocate a near line (10 R287, R290). -/
def State.allocNear (s : State) (p la : Nat) (d : List PByte) : State :=
  let same := fun (l : OLine) => l.slice = la % 12 && nearSet l.addr = nearSet la
  match pickWay s.org.near same (s.obj (0x2210 + p) 4) with
  | none => s
  | some (w, v) =>
    let near := match v with | some x => s.org.near.filter (fun l => !(l == x)) | none => s.org.near
    let l : OLine := { slice := la % 12, way := w, pav := p, addr := la, mask := 2 ^ 128 - 1, dirty := 0, data := d,
                       detected := false, used := s.org.clock }
    { s with org := { s.org with near := near ++ [l], clock := s.org.clock + 1 } }

/-- Allocate a far line with the bytes of a mask (10 R287): the evicted line's dirty bytes are written back. -/
def State.allocFar (s : State) (p la mask dirty : Nat) (d : List PByte) : Bool × State :=
  let same := fun (l : OLine) => l.slice = farSlice la && farSet l.addr = farSet la
  match pickWay s.org.far same (s.obj (0x2210 + p) 5) with
  | none => (false, s)
  | some (w, v) =>
    let s := match v with | some x => s.farOut x | none => s
    let l : OLine := { slice := farSlice la, way := w, pav := p, addr := la, mask := mask, dirty := dirty, data := d,
                       detected := false, used := s.org.clock }
    (true, { s with org := { s.org with far := s.org.far ++ [l], clock := s.org.clock + 1 } })

/-- Touch a line for replacement. -/
def State.touchNear (s : State) (l : OLine) : State :=
  { s with org := { s.org with near := s.org.near.map (fun x => if x == l then { x with used := s.org.clock } else x), clock := s.org.clock + 1 } }

/-- Fill a line of Pavilion p from the far level and memory into the named levels (10 R287, R289). A read that meets a detected line with dirty
bytes allocates no new copy of it (R293). -/
def State.orgFill (s : State) (p la : Nat) (near far : Bool) : List PByte × State :=
  let lost := s.org.far.any (fun l => l.addr = la && l.detected && l.dirty ≠ 0)
  let near := near && !lost
  let far := far && !lost
  let (d, s) := s.memRead (128 * la) 128
  let s := if far && tierOf (128 * la) = 0 then
      match s.farLine p la with
      | some l =>
        let n : OLine := { l with data := d, mask := 2 ^ 128 - 1, used := s.org.clock }
        { s with org := { s.org with far := s.org.far.map (fun x => if x == l then n else x), clock := s.org.clock + 1 } }
      | none => if (s.farAt la).isSome then s else (s.allocFar p la (2 ^ 128 - 1) 0 d).2
    else s
  (d, if near then s.allocNear p la d else s)

/-- An Orangery lookup hits: the near line, or a far line that holds every byte wanted (16 Table 16-1 "misses"). -/
def State.orgHit (s : State) (p pa len : Nat) : Bool :=
  (s.nearLine p (pa / 128)).isSome
    || (match s.farLine p (pa / 128) with
        | some l => (List.range len).all (fun i => bit l.mask (pa % 128 + i))
        | none => false)

/-- An Orangery read within one line (10 R287, R293). -/
def State.orgRead (s : State) (p pa len : Nat) : List PByte × State :=
  let la := pa / 128
  match s.nearLine p la with
  | some l =>
    if l.detected then
      let (_, s) := s.dropDetected l false
      let (d, s) := s.orgFill p la true true
      ((d.drop (pa % 128)).take len, s)
    else ((l.data.drop (pa % 128)).take len, s.touchNear l)
  | none =>
    match s.farLine p la with
    | some l =>
      if l.detected then
        let d := ((l.data.drop (pa % 128)).take len).map (fun b => (b.1, true))
        let (again, s) := s.dropDetected l true
        if again then
          let (d, s) := s.orgFill p la true true
          ((d.drop (pa % 128)).take len, s)
        else (d, s)
      else
        let (d, s) := s.orgFill p la true true
        ((d.drop (pa % 128)).take len, s)
    | none =>
      let (d, s) := s.orgFill p la true true
      ((d.drop (pa % 128)).take len, s)

/-- An Orangery write within one line (10 R287). -/
def State.orgWrite (s : State) (p pa : Nat) (d : List PByte) : State :=
  let la := pa / 128
  let off := pa % 128
  let s := match s.nearLine p la with
    | some l => { s with org := { s.org with near := s.org.near.map (fun x => if x == l then { l with data := patch l.data off d } else x) } }
    | none => s
  if tierOf pa = 0 then
    match s.farLine p la with
    | some l =>
      let n : OLine := { l with data := patch l.data off d, mask := Nat.lor l.mask (maskOf off d.length),
                                dirty := Nat.lor l.dirty (maskOf off d.length), used := s.org.clock }
      { s with org := { s.org with far := s.org.far.map (fun x => if x == l then n else x), clock := s.org.clock + 1 } }
    | none =>
      let blank : List PByte := List.replicate 128 (0, false)
      let (ok, s') := s.allocFar p la (maskOf off d.length) (maskOf off d.length) (patch blank off d)
      if ok then s' else s.memWrite pa d
  else s.memPut pa d

/-- OFLUSH of one line: the dirty masked bytes go to HBM4 and the line stays (10 R289). -/
def State.orgFlush (s : State) (p la : Nat) : State :=
  match s.farLine p la with
  | some l =>
    if l.detected && l.dirty ≠ 0 then (s.dropDetected l true).2
    else
      let s := s.writeBack l
      { s with org := { s.org with far := s.org.far.map (fun x => if x == l then { l with dirty := 0 } else x) } }
  | none => s

/-- OINV of one line (10 R289): the dirty bytes of a far line are written back, and the line is then dropped from the named levels. -/
def State.orgInv (s : State) (p la : Nat) (near far : Bool) : State :=
  let s := s.orgFlush p la
  let s := if far then { s with org := { s.org with far := s.org.far.filter (fun x => !(x.addr = la && x.pav = p)) } } else s
  if near then { s with org := { s.org with near := s.org.near.filter (fun x => !(x.addr = la && x.pav = p)) } } else s

/-- Drop every line of a Pavilion in an address range, writing dirty bytes back or not (10 R291, 15 R412). -/
def State.orgDrop (s : State) (p lo len : Nat) (back : Bool) : State :=
  let hit := fun (l : OLine) => l.pav = p && decide (lo < 128 * l.addr + 128) && decide (128 * l.addr < lo + len)
  let s := if back then (s.org.far.filter hit).foldl (fun s l => s.farOut l) s else s
  { s with org := { s.org with near := s.org.near.filter (fun l => !hit l), far := s.org.far.filter (fun l => !hit l) } }

/-! ### Translation (10 R274 to R282) -/

/-- What a translation answers: an address and its OC bit, a miss, or a memory-fault cause (10 Table 10-6). -/
inductive TransR where
  | ok (pa : Nat) (oc : Bool)
  | miss
  | fault (cause : Nat)
deriving DecidableEq, Repr, Inhabited

/-- Map-buffer entries of core n that match an address, ascending (10 R278). -/
def Core.mapHits (c : Core) (va : Nat) : List MapEntry :=
  (c.map.entries.filter (fun r => decide (r.2.va ≤ va) && decide (va < r.2.va + r.2.size))).map (·.2)

/-- Translate a virtual address of core n (10 R276, R278, R283): the lowest entry takes effect. -/
def State.translate (s : State) (n va : Nat) (write : Bool) : TransR × State :=
  match (s.core n).mapHits (va % 2 ^ 48) with
  | [] => (.miss, s)
  | e :: rest =>
    let s := if rest.isEmpty then s else s.tallyPav 0x20 (s.owner n) 1
    (if write && !e.w then .fault 2 else .ok (e.pa + (va % 2 ^ 48 - e.va)) e.oc, s)

/-- A walk's outcome: a leaf, or a memory-fault cause. -/
inductive WalkR where
  | leaf (e : MapEntry)
  | fail (cause : Nat)
deriving DecidableEq, Repr, Inhabited

/-- A page-table entry has a reserved bit set (10 Table 10-4). -/
def pteReserved (e : Nat) : Bool := bits e 59 48 ≠ 0 || bits e 11 0 ≠ 0

/-- A walker read of 8 bytes (10 R276): the Pavilion's own HBM4 alone. A core's walker marks it (16 Table 16-2 bit 1). -/
def State.walkRead (s : State) (p pa : Nat) (core : Option Nat) : Option (Nat × Bool) × State :=
  if tierOf pa = 0 && s.owns p pa 8 then
    let s := match core with
      | some n => let (cls, s) := s.classOf p 1 0 (some n); (s.mark p 0 cls 8).2
      | none => s
    let (d, s) := s.memRead pa 8
    (some (leNat (rawBytes d), anyPoison d), s)
  else (none, s)

/-- Check of an entry that is to be used: NO_MAP, PT_FORMAT (10 R276). `low` is the number of PA bits that must be 0. -/
def leafCheck (e low : Nat) : Option Nat :=
  if !bit e 63 then some 1
  else if pteReserved e || bits e 47 0 % 2 ^ low ≠ 0 then some 5
  else none

/-- Walk the two-level table of Pavilion p for an address (10 R274, R276). The physical page that a leaf names is not looked at: an access outside
the populated ranges is refused at its gateway (R270, R284; log 22). -/
def State.walk (s : State) (p va : Nat) (core : Option Nat) : WalkR × State :=
  let va := va % 2 ^ 48
  let root := s.obj (0x2210 + p) 1
  match s.walkRead p (root + 8 * bits va 47 30) core with
  | (none, s) => (.fail 4, s)
  | (some (_, true), s) => (.fail 7, s)
  | (some (e, false), s) =>
    if !bit e 63 then (.fail 1, s)
    else if bit e 62 then
      match leafCheck e 30 with
      | some c => (.fail c, s)
      | none =>
        (.leaf { va := bits va 47 30 * 2 ^ 30, pa := bits e 47 12 * 4096, size := 2 ^ 30, w := bit e 61, oc := bit e 60, frame := s.frame }, s)
    else if pteReserved e then (.fail 5, s)
    else
      match s.walkRead p (bits e 47 12 * 4096 + 8 * bits va 29 21) core with
      | (none, s) => (.fail 4, s)
      | (some (_, true), s) => (.fail 7, s)
      | (some (l, false), s) =>
        if bit l 63 && bit l 62 then (.fail 5, s)
        else
          match leafCheck l 21 with
          | some c => (.fail c, s)
          | none =>
            (.leaf { va := va / 2 ^ 21 * 2 ^ 21, pa := bits l 47 12 * 4096, size := 2 ^ 21, w := bit l 61, oc := bit l 60, frame := s.frame }, s)

/-- Fill a map buffer (10 R277): the lowest free entry, else the entry at the round-robin pointer, which advances. -/
def MapSt.fill (m : MapSt) (e : MapEntry) : MapSt :=
  match (List.range 64).find? (fun k => (Sparse.find m.entries k).isNone) with
  | some k => { m with entries := Sparse.put m.entries k e, walk := none }
  | none => { m with entries := Sparse.put m.entries m.rr e, rr := (m.rr + 1) % 64, walk := none }

/-- Drop map-buffer entries; the pointer returns to 0 when none is left (10 R277). -/
def MapSt.drop (m : MapSt) (keep : MapEntry → Bool) : MapSt :=
  let es := m.entries.filter (fun r => keep r.2)
  { m with entries := es, rr := if es.isEmpty then 0 else m.rr }

/-- A virtual access of a chip unit for Pavilion p, translated on the spot without a map buffer of its own (log 23): an address, or a
memory-fault cause. -/
def State.unitAddr (s : State) (p va len : Nat) (write : Bool) : (Except Nat (Nat × Bool)) × State :=
  match s.walk p va none with
  | (.fail c, s) => (.error c, s)
  | (.leaf e, s) =>
    if write && !e.w then (.error 2, s)
    else
      let pa := e.pa + (va % 2 ^ 48 - e.va)
      let g := s.gate p pa len
      (if g = 0 then .ok (pa, e.oc) else .error g, s)

/-- Split `[va, va + len)` at multiples of `unit`. -/
def splitAt (unit : Nat) : Nat → Nat → Nat → List (Nat × Nat)
  | 0, _, _ => []
  | fuel + 1, va, len =>
    if len = 0 then []
    else
      let k := min len (unit - va % unit)
      (va, k) :: splitAt unit fuel (va + k) (len - k)

/-- Mark a request of a chip unit at resource r (16 R436, R443): the Bandstand's by its engine bit in the class table; those of the Dice and the
Rotunda have no engine bit and take CT_DEFAULT_CLASS. -/
def State.unitMark (s : State) (p unit r pa len : Nat) : State :=
  let (cls, s) := if unit = 0 then s.classOf p 2 (tierOf pa) none else (s.obj (0x3180 + 8 * p) 0x13, s)
  (s.mark p r cls len).2

/-- What a read of a chip unit answers: bytes, a host-window read under way, or a memory-fault cause. -/
inductive UnitR where
  | ok (d : List PByte)
  | wait
  | error (cause : Nat)
deriving DecidableEq, Repr, Inhabited

/-- The answer of two reads that follow one another; poisoned bytes are none that a unit can use. -/
def UnitR.then : UnitR → UnitR → UnitR
  | .error c, _ => .error c
  | _, .error c => .error c
  | .ok a, .ok b => if anyPoison b then .error 7 else .ok (a ++ b)
  | _, _ => .wait

/-- Non-posted requests of VF(p + 1) under way on the PCIe link (15 Table 15-1). -/
def State.hostTags (s : State) (p : Nat) : Nat :=
  (s.arb.host.filter (fun q => q.pav = p)).length + (s.arb.fetch.filter (fun f => f.pav = p && f.got.isNone)).length

/-- A host-window read of a chip unit (10 R271): its PCIe request leaves, and the unit waits for the completion. -/
def State.unitHost (s : State) (p unit pa len : Nat) : UnitR × State :=
  match s.arb.fetch.find? (fun f => f.pav = p && f.unit = unit && f.pa = pa && f.len = len) with
  | some f => (match f.got with | none => .wait | some none => .error 6 | some (some d) => .ok d, s)
  | none =>
    if 512 ≤ s.hostTags p then (.wait, s)
    else
      let s := s.unitMark p unit 5 pa len
      let (id, s) := s.fresh
      let s := s.emit (.pcieRead (p + 1) (pa - hostBase + s.obj (0x2210 + p) 2) len)
      (.wait, { s with arb := { s.arb with fetch := s.arb.fetch ++ [{ id := id, pav := p, unit := unit, pa := pa, len := len }] } })

/-- A read of a chip unit at a physical address within one block: the Dice's goes through the Orangery where the page says so (10 R286). -/
def State.unitPhys (s : State) (p unit pa len : Nat) (oc : Bool) : UnitR × State :=
  if tierOf pa = 2 then s.unitHost p unit pa len
  else
    let t := tierRes (tierOf pa)
    let (d, s) :=
      if unit = 1 && oc then
        (splitAt 128 (len / 128 + 2) pa len).foldl (fun (acc : List PByte × State) x =>
          let hit := acc.2.orgHit p x.1 x.2
          let s := acc.2.unitMark p unit 2 x.1 x.2
          let s := if hit then s else s.unitMark p unit t x.1 x.2
          let (d, s) := s.orgRead p x.1 x.2
          (acc.1 ++ d, s)) ([], s)
      else (s.unitMark p unit t pa len).memRead pa len
    (.ok d, s)

/-- Read bytes of Pavilion p's virtual space for a chip unit (0 the Bandstand, 1 the Dice, 2 the Rotunda), block by block; the first memory-fault
cause ends it. -/
def State.unitRead (s : State) (p va len unit : Nat) : UnitR × State :=
  (splitAt 4096 (len / 4096 + 2) va len).foldl (fun (acc : UnitR × State) x =>
    match acc.1 with
    | .error c => (.error c, acc.2)
    | r =>
      match acc.2.unitAddr p x.1 x.2 false with
      | (.error c, s) => (.error c, s)
      | (.ok (pa, oc), s) => let (d, s) := s.unitPhys p unit pa x.2 oc; (r.then d, s)) (.ok [], s)

/-- A unit's read is over: what the host answered has been taken. -/
def State.unitEnd (s : State) (p unit : Nat) : State :=
  { s with arb := { s.arb with fetch := s.arb.fetch.filter (fun f => !(f.pav = p && f.unit = unit)) } }

/-- Write the physical bytes of any length, block by block (BAR2, zeroing). -/
def State.physWrite (s : State) (pa : Nat) (d : List PByte) : State :=
  (splitAt 4096 (d.length / 4096 + 2) pa d.length).foldl (fun s (a, k) => s.memWrite a ((d.drop (a - pa)).take k)) s

/-- Read physical bytes of any length, block by block. -/
def State.physRead (s : State) (pa len : Nat) : List PByte × State :=
  (splitAt 4096 (len / 4096 + 2) pa len).foldl (fun (acc : List PByte × State) (x : Nat × Nat) =>
    let (d, s) := acc.2.memRead x.1 x.2; (acc.1 ++ d, s)) ([], s)

end Sys2Proof.Machine
end

