-- ==== Sys2Proof/Machine/Operands.lean ====
section
/-! DEFINITION. Machine/Operands.lean: the fields of a command word, operand values, tensor descriptors and every check of an
operand at issue (05 R134 to R159, 06, 07, 08). -/

namespace Sys2Proof.Machine

/-! ### Core fault codes (04 Table 4-2) -/

def illegalOp := 1
def streamEngine := 2
def fetchBounds := 3
def fetchAlign := 4
def plotBounds := 5
def tagAlign := 6
def tagTimeout := 7
def queueConf := 8
def stepMismatch := 9

/-! ### Fields of word 0 (05 Table 5-1) -/

def opcodeOf (w : Nat) : Nat := bits w 7 0
def nextOf (w : Nat) : Nat := bits w 9 8
def cntNum (w : Nat) : Nat := bits w 15 10
def modeOf (w : Nat) : Nat := bits w 39 16
def cntEn (w : Nat) : Bool := bit w 40

/-- Offset and register of operand k: 0 A, 1 B, 2 C (05 Table 5-1). -/
def opOff (w k : Nat) : Nat := bits w (122 - 29 * k) (99 - 29 * k)
def opReg (w k : Nat) : Nat := bits w (127 - 29 * k) (123 - 29 * k)

/-- The value of operand k (05 R135). -/
def Core.opVal (c : Core) (t : Strm) (w k : Nat) : Nat := ((c.sreg t (opReg w k)).toNat + opOff w k) % 2 ^ 32

/-- The arrival counter a command's writes carry, if any (05 Table 5-1). -/
def cntOf (w : Nat) : Option Nat := if cntEn w then some (cntNum w) else none

/-- What the spec fixes for an opcode (05 Table 5-2 to 5-7): extension words, engine, MODE bits in use, X1 and X2 bits in use, and the
operands its table names. -/
structure Shape where
  ext : Nat
  eng : Option Eng
  mode : Nat
  x1 : Nat := 0
  x2 : Nat := 0
  opA : Bool := false
  opB : Bool := false
  opC : Bool := false
deriving DecidableEq, Repr, Inhabited

/-- The opcode table (05 Table 5-2); every other opcode is reserved. -/
def shapeOf (op : Nat) : Option Shape :=
  match op with
  | 0x01 => some { ext := 0, eng := none, mode := 0x7, opA := true, opB := true }
  | 0x02 => some { ext := 0, eng := none, mode := 0x3FFF, opA := true }
  | 0x03 => some { ext := 0, eng := none, mode := 0x1F, opA := true }
  | 0x04 => some { ext := 0, eng := none, mode := 0x3FFFFF, opA := true }
  | 0x05 => some { ext := 0, eng := none, mode := 0x7F, opA := true }
  | 0x06 => some { ext := 1, eng := none, mode := 0x3, x1 := 2 ^ 64 - 1 }
  | 0x07 => some { ext := 0, eng := none, mode := 0, opA := true }
  | 0x08 => some { ext := 0, eng := none, mode := 0 }
  | 0x09 => some { ext := 1, eng := none, mode := 0x7, x1 := 2 ^ 48 - 1 }
  | 0x0A => some { ext := 1, eng := none, mode := 0x1FFF, x1 := 2 ^ 64 - 1 }
  | 0x0B => some { ext := 0, eng := none, mode := 0x3F, opA := true, opB := true }
  | 0x0C => some { ext := 0, eng := none, mode := 0x7FF, opA := true }
  | 0x0D => some { ext := 0, eng := none, mode := 0x1FFF, opA := true, opB := true }
  | 0x0E => some { ext := 0, eng := none, mode := 0x1FFF }
  | 0x0F => some { ext := 0, eng := none, mode := 0, opA := true }
  | 0x10 => some { ext := 0, eng := none, mode := 0 }
  | 0x11 => some { ext := 1, eng := none, mode := 0x1F, x1 := 2 ^ 32 - 1 }
  | 0x12 => some { ext := 0, eng := none, mode := 0x3FFF, opA := true }
  | 0x13 => some { ext := 0, eng := none, mode := 0 }
  | 0x20 => some { ext := 1, eng := some .mover, mode := 0x7, x1 := 0x3FFFFFFFF00FF, opA := true, opB := true, opC := true }
  | 0x21 => some { ext := 1, eng := some .mover, mode := 0, x1 := 0x3FFFFFFFF00FF, opA := true, opB := true, opC := true }
  | 0x22 => some { ext := 1, eng := some .mover, mode := 0x1, x1 := 0xFFFFFFFF00FF, opA := true, opB := true, opC := true }
  | 0x23 => some { ext := 0, eng := some .mover, mode := 0xFF, opA := true }
  | 0x24 => some { ext := 0, eng := some .mover, mode := 0x3, opA := true }
  | 0x25 => some { ext := 0, eng := some .mover, mode := 0x3, opA := true }
  | 0x26 => some { ext := 0, eng := some .mover, mode := 0x3, opA := true }
  | 0x27 => some { ext := 1, eng := some .mover, mode := 0, x1 := 2 ^ 32 - 1, opA := true, opB := true }
  | 0x30 => some { ext := 1, eng := some .dice, mode := 0xF, x1 := 2 ^ 32 - 1, opA := true, opB := true, opC := true }
  | 0x38 => some { ext := 1, eng := some .rot, mode := 0xFFFF, x1 := 2 ^ 96 - 1, opA := true, opB := true, opC := true }
  | 0x40 => some { ext := 0, eng := some .parterre, mode := 0x3FFFFF, opA := true }
  | 0x41 => some { ext := 1, eng := some .parterre, mode := 0x7FFF, x1 := 2 ^ 32 - 1, opA := true, opC := true }
  | 0x42 => some { ext := 2, eng := some .parterre, mode := 0x3FBDFF, x1 := 0xFFFFFFFF003FFFFFFFFF, x2 := 2 ^ 64 - 1,
                   opA := true, opB := true, opC := true }
  | 0x50 => some { ext := 1, eng := some .trellis, mode := 0xFFFFF, x1 := 2 ^ 32 - 1, opA := true, opB := true, opC := true }
  | 0x51 => some { ext := 1, eng := some .trellis, mode := 0x3FFF, x1 := 2 ^ 64 - 1, opA := true, opC := true }
  | _ => none

/-- The stream that owns an engine in SPLIT (04 Table 4-1). -/
def engStream (e : Eng) : Strm :=
  match e with
  | .parterre | .trellis => .exec
  | _ => .access

/-- Queue depth of an engine (04 Table 4-1). -/
def engDepth (e : Eng) : Nat :=
  match e with
  | .mover | .trellis => 16
  | .dice | .parterre => 8
  | .rot => 4

/-- Every 1 bit of `v` lies in `mask`. -/
def within (v mask : Nat) : Bool := Nat.land v mask = v

/-- A fetched command with the operand values of its issue (05 R135) and the copies of its descriptors (05 R139). -/
structure Dec where
  op : Nat
  addr : Nat
  w : Nat
  x1 : Nat := 0
  x2 : Nat := 0
  a : Nat := 0
  b : Nat := 0
  c : Nat := 0
  d1 : Nat := 0
  d2 : Nat := 0
deriving DecidableEq, Repr, Inhabited

def Dec.mode (d : Dec) : Nat := modeOf d.w

/-- Field `hi`:`lo` of MODE. -/
def Dec.m (d : Dec) (hi lo : Nat) : Nat := bits (modeOf d.w) hi lo

/-! ### Decode checks (05 R137) -/

/-- The command may carry CNTEN = 1: it writes into a Plot (05 R137). QPUSH writes its ring entry (05 R143). -/
def cntAllowed (d : Dec) : Bool :=
  match d.op with
  | 0x0D | 0x21 | 0x23 | 0x30 | 0x38 | 0x50 | 0x51 => true
  | 0x20 => d.m 1 0 = 0 || d.m 1 0 = 2
  | _ => false

/-- Register fields of MODE that a command uses (05 Table 5-3). -/
def modeRegs (d : Dec) : List Nat :=
  match d.op with
  | 0x02 => [d.m 13 9, d.m 8 4]
  | 0x03 => [d.m 4 0]
  | 0x0D | 0x0E => [d.m 12 8, d.m 7 3]
  | 0x11 => [d.m 4 0]
  | 0x12 => [d.m 13 9, d.m 8 4]
  | _ => []

/-- Operands a MOVE direction uses, as Booleans for A, B, C (05 Table 5-4). -/
def moveOps (dir : Nat) : Bool × Bool × Bool :=
  match dir with
  | 0 | 1 => (true, true, false)
  | 2 => (false, true, true)
  | _ => (true, false, true)

/-- Operand k of the command is used by its table (05 R135). -/
def usesOp (sh : Shape) (d : Dec) (k : Nat) : Bool :=
  if d.op = 0x20 then
    let m := moveOps (d.m 1 0)
    if k = 0 then m.1 else if k = 1 then m.2.1 else m.2.2
  else if k = 0 then sh.opA else if k = 1 then sh.opB else sh.opC

/-- The beds of a BEDS field (05 Table 5-6), 0 for the reserved code. -/
def bedsOf (v : Nat) : Nat := if v = 3 then 0 else 2 ^ v

/-- Fixed by an encoding alone (05 R137, Table 5-3 to 5-7): a reserved encoding of a field. -/
def fieldIllegal (d : Dec) : Bool :=
  match d.op with
  | 0x02 => decide (12 < d.m 3 0)
  | 0x03 => d.m 4 0 = 0
  | 0x06 => d.m 1 0 = 3
  | 0x09 => decide (1 < d.m 1 0)
  | 0x0A =>
    let kind := d.m 6 5
    d.m 4 3 = 3 || (kind ≠ 2 && bits d.x1 63 32 ≠ 0)
      || (kind = 0 && (d.x1 % 16 ≠ 0 || decide (plotSize ≤ d.x1)))
  | 0x12 => decide (10 < d.m 3 0)
  | 0x20 =>
    let dir := d.m 1 0
    let dst := bits d.x1 7 0
    let len := bits d.x1 47 16
    (decide (144 ≤ dst) && dst ≠ 0xFF) || (dir ≠ 2 && len ≠ 0) || (dir = 2 && (len = 0 || decide (plotSize < len)))
      || ((dir = 1 || dir = 3) && (dst ≠ 0xFF || bits d.x1 49 48 ≠ 0))
  | 0x21 =>
    let dst := bits d.x1 7 0
    let n := bits d.x1 47 16
    (decide (144 ≤ dst) && dst ≠ 0xFF) || n = 0 || decide (65536 < n)
  | 0x22 => let n := bits d.x1 47 16; n = 0 || decide (65536 < n) || bits d.x1 7 0 ≠ 0xFF
  | 0x23 => let dst := d.m 7 0; (decide (144 ≤ dst) && dst ≠ 0xFF) || !cntEn d.w
  | 0x24 | 0x25 | 0x26 => d.m 1 0 = 3
  | 0x30 =>
    let rb := bits d.x1 31 16
    let n := bits d.x1 15 0
    rb = 0 || rb % 256 ≠ 0 || n = 0 || decide (4096 < n)
  | 0x38 =>
    let len := bits d.x1 95 64
    decide (256 ≤ d.m 15 0) || len = 0 || len % 256 ≠ 0 || decide (plotSize < len)
  | _ => false

/-- Tile limits of a format and a bed count (06 Table 6-1): K and N. -/
def tileMax (fmt beds : Nat) : Nat × Nat := if fmt = 0 then (16, 32 / beds) else (64, 128 / beds)

/-- A format code the Parterre multiplies (05 Table 5-9, 07 R201). -/
def parterreFmt (fmt : Nat) : Bool := decide (fmt < 0xD)

/-- Compute type of the Trellis (08 R222): 0 FP64, 1 FP32, 2 INT32. -/
def computeType (fs : List Nat) : Nat := if fs.any (· = 0) then 0 else if fs.all fmtInt then 2 else 1

/-- VECOP operations with two operands and special functions (08 Table 8-2). -/
def twoOperand (op : Nat) : Bool := decide (op ≤ 5)
def specialOp (op : Nat) : Bool := decide (0x10 ≤ op) && decide (op ≤ 0x15)
def rowPrimitive (op : Nat) : Bool := decide (0x28 ≤ op) && decide (op ≤ 0x2A)

/-- Formats a Trellis command uses (08 R222). -/
def trellisFmts (d : Dec) : List Nat :=
  if d.op = 0x50 then
    if twoOperand (d.m 5 0) then [d.m 9 6, d.m 13 10, d.m 17 14] else [d.m 9 6, d.m 17 14]
  else [d.m 9 6, d.m 13 10]

/-- Encodings of the Parterre and Trellis commands that fault at issue (06 R173, R177, R178, R183; 07 R193, R201, R202; 08 R224, R226,
R228, R229, R232, R237). -/
def engineIllegal (d : Dec) : Bool :=
  match d.op with
  | 0x40 =>
    let f := d.m 7 4
    let beds := bedsOf (d.m 3 2)
    let k := d.m 14 9 + 1
    let n := d.m 21 15 + 1
    let lim := tileMax f beds
    beds = 0 || decide (beds ≤ d.m 1 0) || !parterreFmt f || (d.m 8 8 = 1 && !fmtInt f) || decide (lim.1 < k) || decide (lim.2 < n)
      || (fmtMx f && k ≠ 32 && k ≠ 64)
  | 0x41 =>
    let f := d.m 7 4
    let beds := bedsOf (d.m 3 2)
    let m := bits d.x1 15 0
    let st := bits d.x1 31 16
    let row := fmtBytes f (if f = 0 then 16 else 64)
    beds = 0 || decide (beds ≤ d.m 1 0) || !parterreFmt f || (d.m 8 8 = 1 && !fmtInt f) || d.m 11 10 = 0 || decide (1 < d.m 13 12)
      || m = 0 || decide (2048 < m)
      || (if d.m 9 9 = 0 then st ≠ 0 && (decide (st < row) || st % 32 ≠ 0)
          else st = 0 || st % 64 ≠ 0 || decide (st < fmtBytes f m))
  | 0x42 =>
    let f := d.m 7 4
    let beds := bedsOf (d.m 3 2)
    let k := bits d.x1 37 32 + 1
    let n := d.m 21 15 + 1
    let lim := tileMax f beds
    let w := bits d.x1 31 16
    beds = 0 || decide (beds ≤ d.m 1 0) || !parterreFmt f || fmtMx f || (d.m 8 8 = 1 && !fmtInt f) || d.m 11 10 = 0
      || decide (1 < d.m 13 12) || decide (lim.1 < k) || decide (lim.2 < n) || bits d.x1 55 52 = 0 || bits d.x1 51 48 = 0
      || w = 0 || bits d.x1 15 0 = 0 || bits d.x2 63 48 = 0 || decide (bits d.x2 31 0 < fmtBytes f (w * k))
  | 0x50 =>
    let op := d.m 5 0
    let fa := d.m 9 6
    let fb := d.m 13 10
    let count := bits d.x1 31 0
    let fs := trellisFmts d
    !(decide (op ≤ 8) || specialOp op) || fs.any (fun f => decide (0xD < f)) || (specialOp op && computeType fs ≠ 1)
      || (!twoOperand op && (d.m 19 19 = 1 || fb ≠ 0 || opOff d.w 1 ≠ 0 || opReg d.w 1 ≠ 0))
      || (fs.any (fun f => fmtMx f || f = 0xC) && op ≠ 8)
      || (fs.any fmtMx && count % 32 ≠ 0) || (fs.any (· = 0xC) && count % 2 ≠ 0)
      || (d.m 18 18 = 1 && fa ≠ 0 && fa ≠ 1 && fa ≠ 0xD)
      || (twoOperand op && d.m 19 19 = 1 && (fb = 0 || decide (2 ^ fmtBits fb ≤ d.b)))
  | 0x51 =>
    let op := d.m 5 0
    let fs := trellisFmts d
    !((decide (0x20 ≤ op) && decide (op ≤ 0x24)) || rowPrimitive op) || fs.any (fun f => decide (0xD < f))
      || fs.any (fun f => fmtMx f || f = 0xC)
      || (op = 0x24 && (d.m 13 10 ≠ 0xD || computeType fs = 0))
      || (rowPrimitive op && (computeType fs ≠ 1 || decide (4096 < bits d.x1 31 0)))
  | _ => false

/-- Decode of a command (05 R137, R138 check 2): 0 or the fault code. -/
def decodeCheck (split : Bool) (t : Strm) (d : Dec) : Nat :=
  match shapeOf d.op with
  | none => illegalOp
  | some sh =>
    let bad := nextOf d.w ≠ sh.ext || !within (modeOf d.w) sh.mode || !within d.x1 sh.x1 || !within d.x2 sh.x2
      || (List.range 3).any (fun k => !usesOp sh d k && (opOff d.w k ≠ 0 || opReg d.w k ≠ 0))
      || (split && ((List.range 3).any (fun k => decide (16 ≤ opReg d.w k)) || (modeRegs d).any (fun r => decide (16 ≤ r))))
      || (cntEn d.w && !cntAllowed d) || fieldIllegal d || engineIllegal d
      || (d.op = 0x0F && split) || (d.op = 0x10 && !split)
      || (d.op = 0x01 && split && t = .exec && d.m 1 0 ≠ 0)
    if bad then illegalOp
    else match sh.eng with
      | some e => if split && engStream e ≠ t then streamEngine else 0
      | none => 0

/-! ### Tensor descriptors (05 Table 5-8) -/

def descBase (x : Nat) : Nat := bits x 47 0
def descFmt (x : Nat) : Nat := bits x 55 52
def descRank (x : Nat) : Nat := bits x 57 56 + 1
def descName (x : Nat) : Nat := bits x 95 64
def descScale (x : Nat) : Nat := bits x 511 464

/-- SIZE and STRIDE of dimension i; dimension 0 is contiguous. -/
def descSize (x i : Nat) : Nat :=
  match i with
  | 0 => bits x 175 144
  | 1 => bits x 239 208
  | 2 => bits x 319 288
  | _ => bits x 399 368

def descStride (x i : Nat) : Nat :=
  match i with
  | 0 => 0
  | 1 => bits x 287 240
  | 2 => bits x 367 320
  | _ => bits x 447 400

/-- Elements of the first k dimensions. -/
def descElems (x k : Nat) : Nat := (List.range k).foldl (fun a i => a * descSize x i) 1

/-- Packed bytes of the tensor (05 R148). -/
def descBytes (x : Nat) : Nat := fmtBytes (descFmt x) (descElems x (descRank x))

/-- The descriptor is well formed (05 R137, R158, R159, 07 R204). -/
def descIllegal (x : Nat) : Bool :=
  let f := descFmt x
  let r := descRank x
  let e := max 1 (fmtBits f / 8)
  bits x 51 48 ≠ 0 || bits x 63 58 ≠ 0 || bits x 143 96 ≠ 0 || bits x 207 176 ≠ 0 || bits x 463 448 ≠ 0
    || decide (0xD < f)
    || (List.range 4).any (fun i => decide (r ≤ i) && (descSize x i ≠ 0 || descStride x i ≠ 0))
    || descBase x % e ≠ 0 || (List.range 4).any (fun i => decide (i < r) && descStride x i % e ≠ 0)
    || (fmtBits f = 4 && descSize x 0 % 2 ≠ 0) || (fmtMx f && descSize x 0 % 32 ≠ 0) || (fmtBits f = 6 && descSize x 0 % 4 ≠ 0)
    || (!fmtMx f && descScale x ≠ 0)

/-- Memory runs of a tensor in descriptor order (05 R148): one run per step of the outer dimensions. -/
def descRuns (x : Nat) : List (Nat × Nat) :=
  let row := fmtBytes (descFmt x) (descSize x 0)
  let size := fun i => if i < descRank x then descSize x i else 1
  (List.range (size 3)).flatMap fun i3 => (List.range (size 2)).flatMap fun i2 => (List.range (size 1)).map fun i1 =>
    ((descBase x + i3 * descStride x 3 + i2 * descStride x 2 + i1 * descStride x 1) % 2 ^ 48, row)

/-- Runs of the tensor's row at index j of the outermost dimension (05 Table 5-4, R150). -/
def rowRuns (x j : Nat) : List (Nat × Nat) :=
  let r := descRank x
  let f := descFmt x
  if r = 1 then [((descBase x + j * fmtBits f / 8) % 2 ^ 48, max 1 (fmtBits f / 8))]
  else
    let o := r - 1
    let row := fmtBytes f (descSize x 0)
    let size := fun i => if i < o then descSize x i else 1
    (List.range (size 2)).flatMap fun i2 => (List.range (size 1)).map fun i1 =>
      ((descBase x + j * descStride x o + (if o = 2 then 0 else i2 * descStride x 2) + (if o = 1 then 0 else i1 * descStride x 1)) % 2 ^ 48,
        row)

/-- Packed bytes of one row of a GATHER or SCATTER table (05 Table 5-4). -/
def rowBytesOf (x : Nat) : Nat := if descRank x = 1 then max 1 (fmtBits (descFmt x) / 8) else fmtBytes (descFmt x) (descElems x (descRank x - 1))

/-- Plot addresses of the descriptors a command names (05 R139, Table 5-4). -/
def descAddrs (d : Dec) : List Nat :=
  match d.op with
  | 0x20 => match d.m 1 0 with
    | 0 | 1 => [d.a]
    | 2 => []
    | _ => [d.a, d.c]
  | 0x21 | 0x22 | 0x24 | 0x25 | 0x26 => [d.a]
  | 0x27 => [d.b]
  | _ => []

/-! ### Operand checks (05 R136, R138 check 3) -/

/-- A Plot range of a command: lowest address, length, whether the command writes it. -/
def inPlot (a len : Nat) : Bool := decide (a < plotSize) && decide (a + len ≤ plotSize)

/-- A Cistern range of a command (05 R136). -/
def inCistern (a len : Nat) : Bool := decide (a < 2048) && decide (a + len ≤ 2048)

/-- Two ranges share a byte. -/
def overlap (a n b m : Nat) : Bool := decide (0 < n) && decide (0 < m) && decide (a < b + m) && decide (b < a + n)

/-- Two ranges overlap without being the same (05 R156). -/
def partialOverlap (a n b m : Nat) : Bool := overlap a n b m && !(a = b && n = m)

/-- The core a command writes to: its own for 0xFF or its own index (05 Table 5-4). -/
def dstCore (n v : Nat) : Nat := if v = 0xFF then n else v

/-- A destination core is an enabled, unfenced core of the Pavilion of core n (05 R149). -/
def State.dstOk (s : State) (n v : Nat) : Bool :=
  let k := dstCore n v
  k = n || (s.coreUsable k && s.owner k = s.owner n && (s.owner n).isSome)

def pr (a len : Nat) : Rng := ⟨false, false, a, len⟩
def pw (a len : Nat) : Rng := ⟨false, true, a, len⟩
def cr (a len : Nat) : Rng := ⟨true, false, a, len⟩
def cw (a len : Nat) : Rng := ⟨true, true, a, len⟩

/-- Output height and width of a CONV (05 R153), 0 where the formula gives less than 1. -/
def convDim (size pad dil k st : Nat) : Nat :=
  if size + pad < dil * (k - 1) + 1 then 0 else (size + pad - dil * (k - 1) - 1) / st + 1

def convOH (x1 : Nat) : Nat := convDim (bits x1 15 0) (bits x1 67 64 + bits x1 71 68) (bits x1 61 60 + 1) (bits x1 51 48) (bits x1 57 56 + 1)
def convOW (x1 : Nat) : Nat := convDim (bits x1 31 16) (bits x1 75 72 + bits x1 79 76) (bits x1 63 62 + 1) (bits x1 55 52) (bits x1 59 58 + 1)

/-- Bytes of a Trellis operand of `n` elements: an MX operand with its scales (08 R226). -/
def trellisBytes (f n : Nat) : Nat := fmtBytes f n + (if fmtMx f then n / 32 else 0)

/-- Bytes a MATMUL streams from A (06 R177, R178, 07 R203). -/
def matmulBytes (d : Dec) : Nat :=
  let f := d.m 7 4
  let m := bits d.x1 15 0
  let k := if f = 0 then 16 else 64
  let packed := fmtBytes f k
  let st := bits d.x1 31 16
  if d.m 9 9 = 0 then
    let rs := if st = 0 then packed else st
    if fmtMx f then m * rs + 2 * m else (m - 1) * rs + packed
  else if fmtMx f then 64 * st + 2 * m
  else (k - 1) * st + fmtBytes f m

/-- What the operand checks of a command find: some ILLEGAL_OP condition, some PLOT_BOUNDS condition, the scoreboard ranges
(05 Table 5-2), and the AOW of its Plot writes. -/
structure Checked where
  ill : Bool := false
  bnd : Bool := false
  rngs : List Rng := []
  aow : Nat := 0
deriving DecidableEq, Repr, Inhabited

/-- AOW alignment (05 R149). -/
def aowIll (aow a len : Nat) : Bool := aow ≠ 0 && (a % 4 ≠ 0 || len % 4 ≠ 0)

/-- Plot ranges of a command are inside the Plot (05 R136). -/
def plotBad (rs : List Rng) : Bool := rs.any (fun r => if r.cistern then !inCistern r.lo r.len else !inPlot r.lo r.len)

/-- Operand checks of the mover commands (05 Table 5-4). -/
def State.moverCheck (s : State) (n : Nat) (d : Dec) : Checked :=
  match d.op with
  | 0x20 =>
    let aow := bits d.x1 49 48
    let dst := bits d.x1 7 0
    let own := dstCore n dst = n
    match d.m 1 0 with
    | 0 =>
      let len := descBytes d.d1
      { ill := aowIll aow d.b len, bnd := !s.dstOk n dst || !inPlot d.b len, rngs := if own then [pw d.b len] else [], aow := aow }
    | 1 => let len := descBytes d.d1; { bnd := !inPlot d.b len, rngs := [pr d.b len] }
    | 2 =>
      let len := bits d.x1 47 16
      { ill := aowIll aow d.b len || (own && overlap d.b len d.c len),
        bnd := !s.dstOk n dst || !inPlot d.b len || !inPlot d.c len, rngs := pr d.c len :: (if own then [pw d.b len] else []),
        aow := aow }
    | _ => { ill := (fmtMx (descFmt d.d1) && descScale d.d1 = 0) || (fmtMx (descFmt d.d2) && descScale d.d2 = 0) }
  | 0x21 =>
    let k := bits d.x1 47 16
    let len := k * rowBytesOf d.d1
    let dst := bits d.x1 7 0
    { ill := d.b % 4 ≠ 0 || aowIll (bits d.x1 49 48) d.c len, bnd := !s.dstOk n dst || !inPlot d.b (4 * k) || !inPlot d.c len,
      rngs := pr d.b (4 * k) :: (if dstCore n dst = n then [pw d.c len] else []), aow := bits d.x1 49 48 }
  | 0x22 =>
    let k := bits d.x1 47 16
    let len := k * rowBytesOf d.d1
    { ill := d.b % 4 ≠ 0, bnd := !inPlot d.b (4 * k) || !inPlot d.c len, rngs := [pr d.b (4 * k), pr d.c len] }
  | 0x23 => { ill := d.a = 0 || decide (65535 < d.a), bnd := !s.dstOk n (d.m 7 0) }
  | 0x27 => let len := descBytes d.d1; { bnd := !inPlot d.a len, rngs := [pr d.a len] }
  | _ => {}

/-- Operand checks of ROUTE, COLLECT, LOADW, MATMUL and CONV (05 Table 5-5, Table 5-6, R153). -/
def engineCheck (d : Dec) : Checked :=
  match d.op with
  | 0x30 =>
    let k := d.m 3 1 + 1
    let count := bits d.x1 15 0
    let rb := bits d.x1 31 16
    let rs := [pr d.a (count * (if d.m 0 0 = 0 then 16 else 24)), pr d.b (count * rb), pw d.c (k * count * (rb + 16))]
    { ill := d.a % 8 ≠ 0 || d.b % 256 ≠ 0 || d.c % 256 ≠ 0, bnd := plotBad rs, rngs := rs }
  | 0x38 =>
    let len := bits d.x1 95 64
    let rs := [pr d.a len, pw d.b len, pw d.c 16]
    { ill := d.a % 256 ≠ 0 || d.b % 256 ≠ 0 || d.c % 16 ≠ 0, bnd := plotBad rs, rngs := rs }
  | 0x40 =>
    let f := d.m 7 4
    let k := d.m 14 9 + 1
    let n := d.m 21 15 + 1
    let rs := [pr d.a (fmtBytes f (k * n) + (if fmtMx f then k / 32 * n else 0))]
    { ill := d.a % 64 ≠ 0, bnd := plotBad rs, rngs := rs }
  | 0x41 =>
    let rs := [pr d.a (matmulBytes d), cw d.c (bits d.x1 15 0)]
    { ill := d.a % 64 ≠ 0, bnd := plotBad rs, rngs := rs }
  | 0x42 =>
    let f := d.m 7 4
    let ch := bits d.x1 37 32 + 1
    let n := d.m 21 15 + 1
    let oh := convOH d.x1
    let ow := convOW d.x1
    let rows := bits d.x2 63 48
    let rs := [pr d.a ((bits d.x1 15 0 - 1) * bits d.x2 31 0 + fmtBytes f (bits d.x1 31 16 * ch)),
               pr d.b (fmtBytes f (bits d.x1 51 48 * bits d.x1 55 52 * ch * n)), cw d.c (rows * ow)]
    { ill := oh = 0 || ow = 0 || decide (oh < bits d.x2 47 32 + rows), bnd := plotBad rs, rngs := rs }
  | _ => {}

/-- Element alignment of a Trellis address (05 Table 5-6). -/
def misElem (f a : Nat) : Bool := a % max 1 (fmtBits f / 8) ≠ 0

/-- Operand checks of VECOP and REDUCE (05 R156, 08 R228, R229, R232). -/
def trellisCheck (d : Dec) : Checked :=
  if d.op = 0x50 then
    let op := d.m 5 0
    let fa := d.m 9 6
    let fb := d.m 13 10
    let fd := d.m 17 14
    let count := bits d.x1 31 0
    let two := twoOperand op && d.m 19 19 = 0
    let la := trellisBytes fa count
    let lb := trellisBytes fb count
    let ld := trellisBytes fd count
    let cis := d.m 18 18 = 1
    let ra := if cis then cr d.a (cdiv count (if fa = 0 then 64 else 128)) else pr d.a la
    let rs := ra :: (if two then [pr d.b lb] else []) ++ [pw d.c ld]
    { ill := (!cis && misElem fa d.a) || (two && misElem fb d.b) || misElem fd d.c
        || (!cis && partialOverlap d.a la d.c ld) || (two && partialOverlap d.b lb d.c ld),
      bnd := plotBad rs, rngs := rs }
  else
    let op := d.m 5 0
    let fa := d.m 9 6
    let fd := d.m 13 10
    let inner := bits d.x1 31 0
    let outer := bits d.x1 63 32
    let la := fmtBytes fa (outer * inner)
    let ld := fmtBytes fd (if rowPrimitive op then outer * inner else outer)
    let rs := [pr d.a la, pw d.c ld]
    { ill := misElem fa d.a || misElem fd d.c || (if rowPrimitive op then partialOverlap d.a la d.c ld else overlap d.a la d.c ld),
      bnd := plotBad rs, rngs := rs }

/-- Operand checks of the control commands (05 Table 5-3). A BRANCH target and the addresses of a chaining END are Plot addresses (05 R136,
R160); the target of a LOOP or a FORK is checked for its alignment here and for its bounds when it is fetched (04 Table 4-2). -/
def controlCheck (d : Dec) : Checked :=
  match d.op with
  | 0x01 =>
    { ill := (d.m 0 0 = 1 && d.a % 16 ≠ 0) || (d.m 1 0 = 3 && d.b % 16 ≠ 0),
      bnd := (d.m 0 0 = 1 && !inPlot d.a 16) || (d.m 1 0 = 3 && !inPlot d.b 16) }
  | 0x02 => { ill := d.a % 16 ≠ 0, bnd := !inPlot d.a 16 }
  | 0x03 | 0x0F => { ill := d.a % 16 ≠ 0 }
  | 0x0B =>
    if d.m 5 5 = 0 then {}
    else { ill := d.a % 256 ≠ 0 || d.b = 0 || d.b % 256 ≠ 0 || decide (plotSize < d.b), bnd := !inPlot d.a d.b }
  | 0x0C => { ill := d.a % 256 ≠ 0, bnd := !inPlot d.a (16 * (d.m 10 3 + 1)) }
  | 0x0D => { bnd := !inPlot d.a d.b }
  | _ => {}

/-- Operand checks of a command whose descriptors have been read (05 R138 check 3). -/
def State.operandCheck (s : State) (n : Nat) (d : Dec) : Checked :=
  if d.op < 0x20 then controlCheck d
  else if d.op < 0x30 then s.moverCheck n d
  else if d.op < 0x50 then engineCheck d
  else trellisCheck d

end Sys2Proof.Machine
end

