-- ==== Sys2Proof/Machine/Flags.lean ====
section
/-! DEFINITION. Machine/Flags.lean: the stream flags, branch conditions and scalar operations (05 R142, Table 5-3). -/

namespace Sys2Proof.Machine

/-- Signed order of 32-bit words. -/
def sltW (x y : Word) : Bool := decide (x.toInt < y.toInt)

/-- The condition of a BRANCH (05 Table 5-3). -/
def branchTaken (f : Flags) (cond : Nat) (x y : Word) : Bool :=
  match cond with
  | 0 => true
  | 1 => x = y
  | 2 => x ≠ y
  | 3 => decide (x.toNat < y.toNat)
  | 4 => decide (y.toNat ≤ x.toNat)
  | 5 => sltW x y
  | 6 => !sltW x y
  | 7 => f.timeout
  | 8 => f.past
  | 9 => f.timeFree
  | 10 => f.holdover
  | 11 => f.stepped
  | 12 => f.oob
  | _ => false

/-- The result of a SALU (05 Table 5-3). -/
def saluResult (op : Nat) (x y : Word) : Word :=
  match op with
  | 0 => x + y
  | 1 => x - y
  | 2 => x &&& y
  | 3 => x ||| y
  | 4 => x ^^^ y
  | 5 => x <<< (y.toNat % 32)
  | 6 => x >>> (y.toNat % 32)
  | 7 => x.sshiftRight (y.toNat % 32)
  | 8 => x * y
  | 9 => if x.toNat < y.toNat then x else y
  | 10 => if x.toNat < y.toNat then y else x
  | _ => x

/-- The flags a WAITTIME writes at its completion (05 R142, 02 R54, R55). -/
def Flags.waittime (f : Flags) (past timeFree holdover stepped : Bool) : Flags :=
  { f with past := past, timeFree := timeFree, holdover := holdover, stepped := stepped }

end Sys2Proof.Machine
end

