-- ==== Sys2Proof/Machine/Issue.lean ====
section
/-! DEFINITION. Machine/Issue.lean: fetch, the checks at issue, the range scoreboard and the issue of a word (04 R99, R108, R109, R123 to
R125; 05 R138, R139). -/

namespace Sys2Proof.Machine

/-! ### Fetch (04 R123) -/

/-- Read the line at `base` of the own Plot. -/
def Core.readLine (c : Core) (base : Nat) : FetchLine :=
  { addr := base, data := rawBytes (c.plotBytes base 64), cond := c.lineCond (base / 64) }

/-- The stream's fetch unit holds the line of `addr`; at the last word of a line it reads the next line of the same page ahead
(04 R123). A held line keeps its words (R125). -/
def Core.fetchTo (c : Core) (st : StreamSt) (addr : Nat) : FetchLine × StreamSt :=
  let base := addr / 64 * 64
  let (l, ah) : FetchLine × Option FetchLine := match st.line with
    | some l => if l.addr = base then (l, st.ahead)
      else match st.ahead with
        | some a => if a.addr = base then (a, none) else (c.readLine base, none)
        | none => (c.readLine base, none)
    | none => (c.readLine base, none)
  let ah := if addr % 64 = 48 && ah.isNone && (base + 64) / 4096 = base / 4096 then some (c.readLine (base + 64)) else ah
  (l, { st with line := some l, ahead := ah })

/-- The word at `addr` of a held line. -/
def FetchLine.word (l : FetchLine) (addr : Nat) : Nat := leNat ((l.data.drop (addr - l.addr)).take 16)

/-- What fetch answers: a command, a fault code, or the address and condition of a line that is not good. -/
inductive FetchR where
  | word (d : Dec) (ext : Nat)
  | fault (code : Nat)
  | bad (addr cond : Nat)
deriving DecidableEq, Repr, Inhabited

/-- The fetch unit while the command at the program counter has not issued: it holds the line of word 0, and the line that its extension words have
reached (04 R125). -/
def StreamSt.holdLine (first st : StreamSt) : StreamSt :=
  if st.line = first.line then st else { st with line := first.line, ahead := st.line }

/-- Fetch the command at the program counter of stream t with its extension words (05 R138 check 1, 09 R253). -/
def Core.fetch (c : Core) (t : Strm) : FetchR × StreamSt :=
  let st := c.strm t
  if plotSize ≤ st.pc then (.fault fetchBounds, st)
  else
    let (l, st1) := c.fetchTo st st.pc
    if l.cond ≠ 0 then (.bad l.addr l.cond, st1)
    else
      let w := l.word st.pc
      let ext := match shapeOf (opcodeOf w) with | some sh => sh.ext | none => 0
      if (st.pc + 16 * ext) / 4096 ≠ st.pc / 4096 then (.fault fetchAlign, st1)
      else
        let d : Dec := { op := opcodeOf w, addr := st.pc, w := w, a := c.opVal t w 0, b := c.opVal t w 1, c := c.opVal t w 2 }
        if ext = 0 then (.word d 0, st1)
        else
          let (l1, st2) := c.fetchTo st1 (st.pc + 16)
          if l1.cond ≠ 0 then (.bad l1.addr l1.cond, st1.holdLine st2)
          else
            let d := { d with x1 := l1.word (st.pc + 16) }
            if ext = 1 then (.word d 1, st1.holdLine st2)
            else
              let (l2, st3) := c.fetchTo st2 (st.pc + 32)
              if l2.cond ≠ 0 then (.bad l2.addr l2.cond, st1.holdLine st3)
              else (.word { d with x2 := l2.word (st.pc + 32) } 2, st1.holdLine st3)

/-- Words that a transfer of control after the word at `addr` discards (04 R124). -/
def StreamSt.discards (st : StreamSt) (addr : Nat) : Nat :=
  (match st.line with | some l => (l.addr + 64 - (addr + 16)) / 16 | none => 0) + (if st.ahead.isSome then 4 else 0)

/-- Discard the fetched words after the word at `addr` of stream t (04 R124). -/
def State.discard (s : State) (n : Nat) (t : Strm) (addr : Nat) : State :=
  let st := (s.core n).strm t
  let k := st.discards addr
  let s := s.updCore n (fun c => c.setStrm t { st with line := none, ahead := none })
  if k = 0 then s else s.tallyAdd 0x10 n k

/-! ### Streams that may issue -/

/-- Stream t can issue its next word. -/
def Core.canIssue (c : Core) (t : Strm) : Bool := c.live t && (c.strm t).wait = .none

/-- A stream with nothing more to do in a single step: absent, ended, or its word done (21 R576). -/
def StreamSt.stepDone (st : StreamSt) : Bool :=
  !st.present || st.singled || (match st.wait with | .ended _ _ _ _ _ => true | _ => false)

/-- The stream has had its word: in a single step the core halts when each live stream has (21 R576). -/
def State.wordDone (s : State) (n : Nat) (t : Strm) : State :=
  let c := s.core n
  let c := c.setStrm t { c.strm t with resumed := false, singled := c.dbg.single }
  let s := s.setCore n c
  if c.dbg.single && c.sa.stepDone && c.sx.stepDone then s.halt n haltSingle 0 else s

/-- Set what a stream waits for. -/
def State.setWait (s : State) (n : Nat) (t : Strm) (w : Wait) : State :=
  s.updCore n (fun c => c.setStrm t { c.strm t with wait := w })

/-- A control command that waited completes: its stream goes on. -/
def State.endWait (s : State) (n : Nat) (t : Strm) : State := (s.setWait n t .none).wordDone n t

/-- Change the flags of a stream. -/
def State.setFlags (s : State) (n : Nat) (t : Strm) (f : Flags → Flags) : State :=
  s.updCore n (fun c => c.setStrm t { c.strm t with flags := f (c.strm t).flags })

/-! ### Issue -/

/-- One trace entry (21 R582). -/
def State.trace (s : State) (n : Nat) (t : Strm) (d : Dec) (stall : Nat) : State :=
  let c := s.core n
  if c.dbg.traceMode = 1 || (c.dbg.traceMode = 2 && decide (0x20 ≤ d.op)) then
    let e := min stall 0xFFFF + b2n (t = .exec) * 2 ^ 23 + d.op * 2 ^ 24 + d.addr * 2 ^ 32 + (s.time.now % 2 ^ 64) * 2 ^ 64
    let tr := c.dbg.trace ++ [e]
    s.setCore n { c with dbg := { c.dbg with trace := if 256 < tr.length then tr.tail else tr } }
  else s

/-- CORE cycles a stalled stream has waited. -/
def StreamSt.stallCycles (st : StreamSt) (now : Nat) : Nat :=
  match st.wait with
  | .stall since => now - since
  | _ => 0

/-- The word of `d` issues (04 R100, R139): the program counter passes its extension words, CTRL_ISSUE and the trace count it. -/
def State.issued (s : State) (n : Nat) (t : Strm) (d : Dec) (ext : Nat) : State :=
  let st := (s.core n).strm t
  let s := s.trace n t d (st.stallCycles s.cyc.cycles)
  let s := s.updCore n (fun c => c.setStrm t { c.strm t with pc := d.addr + 16 * (1 + ext), wait := .none, resumed := false })
  s.tallyAdd 1 n 1

/-- The word of stream t stalls for a reason (04 R99, R109, R112): the count of stall cycles starts once, and a tag's wait with its reason. -/
def State.stall (s : State) (n : Nat) (t : Strm) (why : StallWhy) : State :=
  let now_ := s.cyc.cycles
  s.updCore n (fun c =>
    let st := c.strm t
    let why := match st.tagStall, why with
      | some since, .tag _ => .tag since
      | _, w => w
    c.setStrm t { st with wait := (match st.wait with | .stall k => .stall k | _ => .stall now_), why := why })

/-- The common part of an issue (05 R138): breakpoints of KIND ADDRESS (21 R573), fetch, decode; `run` is the command's own part, given
the decoded command and its extension words. A row whose opcode is not the fetched one has no effect (log 8); a reserved opcode faults
under every row. -/
def State.issueWith (s : State) (n : Nat) (t : Strm) (ok : Nat → Bool) (run : State → Dec → Nat → State) : State :=
  let c := s.core n
  let st := c.strm t
  let hit := if st.resumed then 0 else c.bpMask (fun _ b => b.kind = 0 && b.mtch.toNat = st.pc)
  match c.fetch t with
  | (.fault code, _) => s.coreFault n t st.pc code
  | (.bad addr cond, st') => (s.setCore n (c.setStrm t st')).plotDetect n addr cond
  | (.word d ext, st') =>
    if (shapeOf d.op).isSome && !ok d.op then s
    else if hit ≠ 0 then s.halt n haltBreakpoint hit
    else
      let s := s.setCore n (c.setStrm t st')
      let code := decodeCheck c.ctl.split t d
      if code ≠ 0 then s.coreFault n t d.addr code else run s d ext

/-- An issue row (05 Table 5-2): stream t of core n issues the command `op` at its program counter, while the core clock runs. -/
def State.issue (s : State) (n : Nat) (t : Strm) (op : Nat) (run : State → Dec → Nat → State) : State :=
  if s.power.clockOn && (s.core n).canIssue t then s.issueWith n t (fun o => o = op) run else s

/-! ### The range scoreboard (04 R108, R109) -/

/-- Slots of a Plot range that lie in no TAGGED window, restricted to slots `lo` to `hi` inclusive. -/
def Core.untaggedIn (c : Core) (lo hi : Nat) : Bool :=
  if hi < lo then false
  else if c.wins.isEmpty then true
  else (List.range (hi + 1 - lo)).any (fun i => !c.tagged (lo + i))

/-- The range takes a scoreboard entry: some part of it lies outside TAGGED windows. -/
def Core.takesEntry (c : Core) (r : Rng) : Bool :=
  r.len ≠ 0 && (r.cistern || c.untaggedIn (r.lo / 256) ((r.lo + r.len - 1) / 256))

/-- Two ranges overlap for the scoreboard: rounded to 256 bytes, outside TAGGED windows (04 R108, R109). -/
def Core.rngOverlap (c : Core) (a b : Rng) : Bool :=
  if a.cistern ≠ b.cistern || a.len = 0 || b.len = 0 then false
  else if a.cistern then overlap a.lo a.len b.lo b.len
  else c.untaggedIn (max (a.lo / 256) (b.lo / 256)) (min ((a.lo + a.len - 1) / 256) ((b.lo + b.len - 1) / 256))

/-- A new range waits for a range of a command in flight (04 R109). -/
def Core.conflicts (c : Core) (new old : Rng) : Bool := (new.write || old.write) && c.rngOverlap new old

/-- Commands in flight in the queues of the other engines (04 R109). -/
def Core.otherFlights (c : Core) (e : Eng) : List LongCmd := c.flights.filter (fun l => (shapeOf l.op).bind (·.eng) ≠ some e)

/-- Scoreboard entries in use (04 R108). -/
def Core.entriesUsed (c : Core) : Nat := (c.flights.map (fun l => (l.rngs.filter c.takesEntry).length)).sum

/-- A long command stalls at issue (04 R99, R109): full queue, a conflicting range, or too few entries. -/
def Core.mustStall (c : Core) (e : Eng) (rs : List Rng) : Bool :=
  decide (engDepth e ≤ (c.eng e).queue.length)
    || rs.any (fun r => (c.otherFlights e).any (fun l => l.rngs.any (fun o => c.conflicts r o)))
    || decide (32 < c.entriesUsed + (rs.filter c.takesEntry).length)

/-- A descriptor read waits for every write in flight to its slots (05 R161). -/
def Core.descInFlight (c : Core) (a : Nat) : Bool := c.flights.any (fun l => l.rngs.any (fun o => o.write && c.rngOverlap (pr a 64) o))

/-- A descriptor read waits: for a write in flight, or for a tag (04 R112). -/
def Core.descBlocked (c : Core) (a : Nat) : Bool := c.descInFlight a || c.readBlocked a 64

/-- Why a long command waits (04 R99, R109): R109, or its queue alone. -/
def Core.stallWhy (c : Core) (e : Eng) (rs : List Rng) : StallWhy :=
  if rs.any (fun r => (c.otherFlights e).any (fun l => l.rngs.any (fun o => c.conflicts r o)))
      || decide (32 < c.entriesUsed + (rs.filter c.takesEntry).length) then .range else .queue

/-- A write range of the own Plot is not a whole number of slots inside a TAGGED window, or an AOW meets one (22 R594; 04 R112, 09 R250). -/
def Core.tagBad (c : Core) (k : Checked) : Bool := k.rngs.any (fun r => r.write && !r.cistern && c.tagMisaligned r.lo r.len k.aow)

/-- A long command issues (04 R109, 05 R138 to R140): its descriptors are read and copied, its operands checked, its ranges entered, and
it joins its engine's queue. -/
def State.issueLong (s : State) (n : Nat) (t : Strm) (d : Dec) (ext : Nat) : State :=
  let c := s.core n
  match (shapeOf d.op).bind (·.eng) with
  | none => s
  | some e =>
    let ds := descAddrs d
    if ds.any (fun a => a % 64 ≠ 0) then s.coreFault n t d.addr illegalOp
    else
      let dsOk := ds.filter (fun a => inPlot a 64)
      if dsOk.any c.descBlocked then s.stall n t (if dsOk.any c.descInFlight then .range else .tag s.cyc.cycles)
      else
        match dsOk.find? (fun a => c.lineCond (a / 64) ≠ 0) with
        | some a => s.plotDetect n a (c.lineCond (a / 64))
        | none =>
          let x := dsOk.map (fun a => leNat (Mem.read c.plot.bytes a 64))
          if x.any descIllegal then s.coreFault n t d.addr illegalOp
          else
            let copy := fun (i : Nat) => match ds[i]? with
              | some a => if inPlot a 64 then leNat (Mem.read c.plot.bytes a 64) else 0
              | none => 0
            let d := { d with d1 := copy 0, d2 := copy 1 }
            let k := s.operandCheck n d
            if k.ill then s.coreFault n t d.addr illegalOp
            else if k.bnd || dsOk.length ≠ ds.length then s.coreFault n t d.addr plotBounds
            else if c.tagBad k then s.coreFault n t d.addr tagAlign
            else if c.mustStall e k.rngs then s.stall n t (c.stallWhy e k.rngs)
            else
              let (id, s) := s.fresh
              let touched := (k.rngs.filter (fun r => !r.cistern)).map (fun r => (r.lo, r.len)) ++ dsOk.map (fun a => (a, 64))
              let l : LongCmd := { id := id, op := d.op, strm := t, addr := d.addr, w0 := BitVec.ofNat 128 d.w, x1 := BitVec.ofNat 128 d.x1,
                                   x2 := BitVec.ofNat 128 d.x2, a := d.a, b := d.b, c := d.c, desc1 := d.d1, desc2 := d.d2, rngs := k.rngs,
                                   multi := c.overlapped touched }
              let s := s.issued n t d ext
              let s := s.multiWin n touched
              let s := s.updCore n (fun c => c.setEng e { c.eng e with queue := (c.eng e).queue ++ [l] })
              s.wordDone n t

/-- A control command issues once its operands pass (05 R138): `run` is its own effect. -/
def State.issueControl (s : State) (n : Nat) (t : Strm) (d : Dec) (ext : Nat) (run : State → State) : State :=
  let k := s.operandCheck n d
  if k.ill then s.coreFault n t d.addr illegalOp
  else if k.bnd then s.coreFault n t d.addr plotBounds
  else run (s.issued n t d ext)

/-! ### Meanings of the long commands at issue: mover, Dice port, Rotunda port, Parterre, Trellis -/

def execMove (c : CoreIx) (t : Strm) (s : State) : Host.Outcome State Fault Refusal := .next (s.issue c t 0x20 (·.issueLong c t))
def execGather (c : CoreIx) (t : Strm) (s : State) : Host.Outcome State Fault Refusal := .next (s.issue c t 0x21 (·.issueLong c t))
def execScatter (c : CoreIx) (t : Strm) (s : State) : Host.Outcome State Fault Refusal := .next (s.issue c t 0x22 (·.issueLong c t))
def execSignal (c : CoreIx) (t : Strm) (s : State) : Host.Outcome State Fault Refusal := .next (s.issue c t 0x23 (·.issueLong c t))
def execOprefetch (c : CoreIx) (t : Strm) (s : State) : Host.Outcome State Fault Refusal := .next (s.issue c t 0x24 (·.issueLong c t))
def execOflush (c : CoreIx) (t : Strm) (s : State) : Host.Outcome State Fault Refusal := .next (s.issue c t 0x25 (·.issueLong c t))
def execOinv (c : CoreIx) (t : Strm) (s : State) : Host.Outcome State Fault Refusal := .next (s.issue c t 0x26 (·.issueLong c t))
def execSnap (c : CoreIx) (t : Strm) (s : State) : Host.Outcome State Fault Refusal := .next (s.issue c t 0x27 (·.issueLong c t))
def execRoute (c : CoreIx) (t : Strm) (s : State) : Host.Outcome State Fault Refusal := .next (s.issue c t 0x30 (·.issueLong c t))
def execCollect (c : CoreIx) (t : Strm) (s : State) : Host.Outcome State Fault Refusal := .next (s.issue c t 0x38 (·.issueLong c t))
def execLoadw (c : CoreIx) (t : Strm) (s : State) : Host.Outcome State Fault Refusal := .next (s.issue c t 0x40 (·.issueLong c t))
def execMatmul (c : CoreIx) (t : Strm) (s : State) : Host.Outcome State Fault Refusal := .next (s.issue c t 0x41 (·.issueLong c t))
def execConv (c : CoreIx) (t : Strm) (s : State) : Host.Outcome State Fault Refusal := .next (s.issue c t 0x42 (·.issueLong c t))
def execVecop (c : CoreIx) (t : Strm) (s : State) : Host.Outcome State Fault Refusal := .next (s.issue c t 0x50 (·.issueLong c t))
def execReduce (c : CoreIx) (t : Strm) (s : State) : Host.Outcome State Fault Refusal := .next (s.issue c t 0x51 (·.issueLong c t))

/-- ISSUE_RESUME (04 R99, R109): a stalled word is tried again; it stays stalled while its reason holds. -/
def execIssueResume (c : CoreIx) (t : Strm) (s : State) : Host.Outcome State Fault Refusal :=
  s.clocked (fun s => if (s.core c).live t && ((s.core c).strm t).stalled then s.issueWith c t (fun o => decide (0x20 ≤ o)) (·.issueLong c t) else s)

end Sys2Proof.Machine
end

