-- ==== Sys2Proof/Machine/Control.lean ====
section
/-! DEFINITION. Machine/Control.lean: the control commands END to NOP and the events that complete them (04 R101 to R119, R142 to R147;
21 R573). -/

namespace Sys2Proof.Machine

/-- The word after the present one of stream t. -/
def State.pcOf (s : State) (n : Nat) (t : Strm) : Nat := ((s.core n).strm t).pc

/-- A control command that completes at issue. -/
def State.control (s : State) (n : Nat) (t : Strm) (d : Dec) (ext : Nat) (f : State → State) : State :=
  s.issueControl n t d ext (fun s => (f s).wordDone n t)

/-- A transfer of control (04 R124, R131): the fetched words are discarded and the target line is read again. -/
def State.jump (s : State) (n : Nat) (t : Strm) (from_ target : Nat) : State :=
  (s.discard n t from_).updCore n (fun c => c.setStrm t { c.strm t with pc := target })

/-! ### Branches -/

/-- BRANCH (05 Table 5-3). -/
def execBranch (c : CoreIx) (t : Strm) (s : State) : Host.Outcome State Fault Refusal :=
  .next (s.issue c t 0x02 fun s d ext => s.control c t d ext fun s =>
    let k := s.core c
    if branchTaken (k.strm t).flags (d.m 3 0) (k.sreg t (d.m 8 4)) (k.sreg t (d.m 13 9)) then s.jump c t d.addr d.a else s)

/-- LOOP (05 Table 5-3): sN decreases; not 0, it branches to OPA. -/
def execLoop (c : CoreIx) (t : Strm) (s : State) : Host.Outcome State Fault Refusal :=
  .next (s.issue c t 0x03 fun s d ext => s.control c t d ext fun s =>
    let v := (s.core c).sreg t (d.m 4 0) - 1
    let s := s.updCore c (fun k => k.setSreg t (d.m 4 0) v)
    if v = 0 then s else s.jump c t d.addr d.a)

/-! ### Counters (04 R117, R118) -/

/-- WAITCNT (04 R118): satisfied at issue, it completes with TIMEOUT 0; else it waits, up to the frame boundary its limit names. -/
def execWaitcnt (c : CoreIx) (t : Strm) (s : State) : Host.Outcome State Fault Refusal :=
  .next (s.issue c t 0x04 fun s d ext => s.control c t d ext fun s =>
    let k := d.m 5 0
    let v : Word := BitVec.ofNat 32 d.a
    if cntReached ((s.core c).cnt k) v then s.setFlags c t (fun f => { f with timeout := false })
    else s.setWait c t (.cnt k v (d.m 21 6) (s.frame + d.m 21 6)))

/-- WAITCNT_SATISFIED (04 R118). -/
def execWaitcntSatisfied (c : CoreIx) (t : Strm) (s : State) : Host.Outcome State Fault Refusal :=
  s.clocked (fun s => match ((s.core c).strm t).wait with
    | .cnt k v _ _ =>
      if (s.core c).live t && cntReached ((s.core c).cnt k) v then
        (s.setFlags c t (fun f => { f with timeout := false })).endWait c t
      else s
    | _ => s)

/-- WAITCNT_TIMEOUT (04 R118): at the limit's frame boundary a condition that does not hold completes with TIMEOUT. -/
def execWaitcntTimeout (c : CoreIx) (t : Strm) (s : State) : Host.Outcome State Fault Refusal :=
  s.clocked (fun s => match ((s.core c).strm t).wait with
    | .cnt k v limit due =>
      if (s.core c).live t && limit ≠ 0 && !cntReached ((s.core c).cnt k) v then
        ((s.elapseTo (250000 * due)).setFlags c t (fun f => { f with timeout := true })).endWait c t
      else s
    | _ => s)

/-- SETCNT (04 R117). -/
def execSetcnt (c : CoreIx) (t : Strm) (s : State) : Host.Outcome State Fault Refusal :=
  .next (s.issue c t 0x05 fun s d ext => s.control c t d ext fun s =>
    let k := d.m 5 0
    let v : Word := BitVec.ofNat 32 d.a
    (s.updCore c (fun q => { q with cnts := Sparse.put q.cnts k (if d.m 6 6 = 1 then q.cnt k - v else v) })).checkCntBps c)

/-! ### Time (05 R145, 02 R52 to R55) -/

/-- WAITTIME: its target is resolved at issue; one that is passed or due completes at once. -/
def execWaittime (c : CoreIx) (t : Strm) (s : State) : Host.Outcome State Fault Refusal :=
  .next (s.issue c t 0x06 fun s d ext => s.control c t d ext fun s =>
    let st := (s.core c).strm t
    let base := match d.m 1 0 with
      | 0 => 0
      | 1 => 250000 * s.frame
      | _ => st.prevTarget.getD (250000 * s.frame)
    let target := base + d.x1
    let s := s.updCore c (fun k => k.setStrm t { k.strm t with prevTarget := some target })
    if target ≤ s.time.now then
      s.setFlags c t (fun f => f.waittime (decide (target < s.time.now)) s.timeFree s.holdover false)
    else s.setWait c t (.time target))

/-- WAITTIME_COMPLETION (02 R52): time reaches the target, and no event that comes before it is pending. -/
def execWaittimeCompletion (c : CoreIx) (t : Strm) (s : State) : Host.Outcome State Fault Refusal :=
  s.clocked (fun s => match (s.core c).timeWait t with
    | some target =>
      if s.turn { at_ := target, rank := 6, pav := (s.owner c).getD 16, core := c } then
        let s := s.elapseTo target
        (s.setFlags c t (fun f => f.waittime false s.timeFree s.holdover (s.steppedPast target))).endWait c t
      else s
    | none => s)

/-! ### Steps (04 R119) -/

/-- The step number that the streams of a core wait to open, when every live stream stands at its STEP. -/
def Core.stepDue (c : Core) : Option Word :=
  match c.ctl.split, c.sa.wait, c.sx.wait with
  | false, .step n, _ => some n
  | true, .step n, .step _ => some n
  | _, _, _ => none

/-- Close the open step and open step n (04 R119): DONE unless FAILED, STEP_ADDR, STEP_NUM; OOB and TRIGGERED are cleared (05 R142,
21 R580). -/
def Core.openStep (c : Core) (n : Word) : Core :=
  let addr := if c.ctl.split then c.sa.pc * 2 ^ 32 + c.sx.pc else c.sa.pc
  { c with ctl := { c.ctl with stepNum := n, stepState := 0, stepAddr := addr },
           sa := { c.sa with wait := .none, flags := { c.sa.flags with oob := false } },
           sx := { c.sx with wait := if c.ctl.split then .none else c.sx.wait, flags := { c.sx.flags with oob := false } },
           dbg := { c.dbg with triggered := false, trigStepped := false } }

/-- Where every live stream stands at its STEP and nothing is in flight, the step closes and the new one opens; STEP breakpoints match
(04 R119, 21 R573). -/
def State.tryStep (s : State) (n : Nat) : State :=
  let k := s.core n
  match k.stepDue with
  | some v =>
    if k.ctl.st = .run && k.ctl.drain = .none && k.flights.isEmpty && (k.live .access || k.live .exec) then
      let k := k.openStep v
      let m := k.bpMask (fun _ b => b.kind = 1 && b.mtch.toNat = v.toNat)
      let s := s.setCore n (k.disarm m)
      let s := if m = 0 then s else s.halt n haltBreakpoint m
      let s := s.wordDone n .access
      if k.ctl.split then s.wordDone n .exec else s
    else s
  | none => s

/-- STEP: the stream waits for the drain, where there is one. In SPLIT a second STEP with another number faults (04 R119). -/
def execStep (c : CoreIx) (t : Strm) (s : State) : Host.Outcome State Fault Refusal :=
  .next (s.issue c t 0x07 fun s d ext =>
    let n : Word := BitVec.ofNat 32 d.a
    let other := (s.core c).strm (match t with | .access => .exec | .exec => .access)
    match other.wait with
    | .step m => if (s.core c).ctl.split && m ≠ n then s.coreFault c t d.addr stepMismatch
      else s.control c t d ext fun s => (s.setWait c t (.step n)).tryStep c
    | _ => s.control c t d ext fun s => (s.setWait c t (.step n)).tryStep c)

/-- STEP_DRAIN_COMPLETE (04 R119): nothing is in flight any more. -/
def execStepDrainComplete (c : CoreIx) (s : State) : Host.Outcome State Fault Refusal := s.clocked (fun s => s.tryStep c)

/-! ### FENCE (05 R146) -/

/-- FENCE: it waits only where an earlier command of its stream is in flight. -/
def execFence (c : CoreIx) (t : Strm) (s : State) : Host.Outcome State Fault Refusal :=
  .next (s.issue c t 0x08 fun s d ext => s.control c t d ext fun s =>
    if ((s.core c).flightsOf t).isEmpty then s else s.setWait c t .fence)

/-- FENCE_COMPLETE (05 R146): every earlier command of the stream has completed. -/
def execFenceComplete (c : CoreIx) (t : Strm) (s : State) : Host.Outcome State Fault Refusal :=
  s.clocked (fun s =>
    let k := s.core c
    if (k.strm t).wait = .fence && k.live t && (k.flightsOf t).isEmpty then s.endWait c t else s)

/-! ### MAPINV (05 R147, 10 R279) -/

def execMapinv (c : CoreIx) (t : Strm) (s : State) : Host.Outcome State Fault Refusal :=
  .next (s.issue c t 0x09 fun s d ext => s.control c t d ext fun s =>
    s.setWait c t (.mapinv (d.m 2 2 = 1) (d.m 1 0 = 1) (bits d.x1 47 0)))

/-- Drop the named entries of one map buffer. -/
def MapSt.invalidate (m : MapSt) (one : Bool) (addr : Nat) : MapSt :=
  m.drop (fun e => one && !(decide (e.va ≤ addr) && decide (addr < e.va + e.size)))

/-- MAPINV_COMPLETE (05 R147): the named buffers drop the named entries. -/
def execMapinvComplete (c : CoreIx) (t : Strm) (s : State) : Host.Outcome State Fault Refusal :=
  s.clocked (fun s => match ((s.core c).strm t).wait with
    | .mapinv cores one addr =>
      if (s.core c).live t then
        let ns := if cores then (match s.owner c with | some p => s.coresOf p | none => [c.val]) else [c.val]
        let s := ns.foldl (fun s n => s.updCore n (fun k => { k with map := k.map.invalidate one addr })) s
        s.endWait c t
      else s
    | _ => s)

/-! ### BRK (21 R573 to R575) -/

/-- BRK: halt now, arm or disarm (05 Table 5-3). -/
def execBrk (c : CoreIx) (t : Strm) (s : State) : Host.Outcome State Fault Refusal :=
  .next (s.issue c t 0x0A fun s d ext => s.control c t d ext fun s =>
    match d.m 4 3 with
    | 0 => s.halt c haltBrk 0
    | 1 =>
      let b : Bp := { armed := true, kind := d.m 6 5, mtch := BitVec.ofNat 64 d.x1, cnt := d.m 12 7 }
      (s.updCore c (fun k => { k with dbg := { k.dbg with bps := Sparse.put k.dbg.bps (d.m 2 0) b } })).checkCntBps c
    | _ => s.updCore c (fun k => k.disarm (2 ^ d.m 2 0)))

/-- TIME_BREAKPOINT_MATCH (21 R573, 02 R52): armed breakpoints of KIND TIME whose time is due match, disarm and halt. The time of the
earliest of them is reached first. -/
def execTimeBreakpointMatch (c : CoreIx) (s : State) : Host.Outcome State Fault Refusal :=
  s.clocked (fun s => match (s.core c).timeBp with
    | none => s
    | some due =>
      if (s.core c).canHalt s.cyc.cycles && s.turn { at_ := due, rank := 1, pav := (s.owner c).getD 16, core := c } then
        let s := s.elapseTo due
        let m := (s.core c).bpMask (fun _ x => x.kind = 2 && decide (x.mtch.toNat ≤ s.time.now))
        (s.setCore c ((s.core c).disarm m)).haltEvent c haltBreakpoint m (s.steppedPast due)
      else s)

/-! ### REGION (04 R110) -/

/-- An operand of a command in flight lies in a range of the Plot. -/
def Core.flightIn (c : Core) (base size : Nat) : Bool :=
  c.flights.any (fun l => l.rngs.any (fun r => !r.cistern && overlap r.lo r.len base size))

/-- A command in flight has an operand in the old or the new range of window w (04 R110). -/
def Core.regionBusy (c : Core) (w : Nat) (enable : Bool) (base size : Nat) : Bool :=
  (match Sparse.find c.wins w with | some v => c.flightIn v.base v.size | none => false) || (enable && c.flightIn base size)

/-- REGION takes effect (04 R110, R112): a window set to TAGGED sets all its tags to the initial value. -/
def Core.region (c : Core) (w : Nat) (enable full tagged : Bool) (base size : Nat) : Core :=
  if enable then
    let c := { c with wins := Sparse.put c.wins w { base := base, size := size, tagged := tagged } }
    if tagged then (slotsOf base size).foldl (fun c sl => c.setTag sl full) c else c
  else { c with wins := Sparse.del c.wins w }

def execRegion (c : CoreIx) (t : Strm) (s : State) : Host.Outcome State Fault Refusal :=
  .next (s.issue c t 0x0B fun s d ext => s.control c t d ext fun s =>
    let w := d.m 2 0
    let en := d.m 5 5 = 1
    let full := d.m 4 4 = 1
    let tg := d.m 3 3 = 1
    if (s.core c).regionBusy w en d.a d.b then s.setWait c t (.region w en full tg d.a d.b)
    else s.updCore c (fun k => k.region w en full tg d.a d.b))

/-- REGION_EFFECT (04 R110). -/
def execRegionEffect (c : CoreIx) (t : Strm) (s : State) : Host.Outcome State Fault Refusal :=
  s.clocked (fun s => match ((s.core c).strm t).wait with
    | .region w en full tg b z =>
      if (s.core c).live t && !(s.core c).regionBusy w en b z then (s.updCore c (fun k => k.region w en full tg b z)).endWait c t else s
    | _ => s)

/-! ### Data queues (04 R106, R107; 05 R143) -/

/-- A QPOP is blocked on queue q (04 R106). -/
def Core.popBlocked (c : Core) (q : Nat) : Bool :=
  [c.sa, c.sx].any (fun st => match st.wait with | .qpop k _ _ => k = q | _ => false)

def Core.qconf (c : Core) (q base depth : Nat) : Core :=
  { c with qs := Sparse.put c.qs q { base := base, depth := depth, head := 0, count := 0 } }

def execQconf (c : CoreIx) (t : Strm) (s : State) : Host.Outcome State Fault Refusal :=
  .next (s.issue c t 0x0C fun s d ext => s.control c t d ext fun s =>
    if (s.core c).popBlocked (d.m 2 0) then s.setWait c t (.qconf (d.m 2 0) d.a (d.m 10 3 + 1))
    else s.updCore c (fun k => k.qconf (d.m 2 0) d.a (d.m 10 3 + 1)))

/-- QCONF_EFFECT (04 R106). -/
def execQconfEffect (c : CoreIx) (t : Strm) (s : State) : Host.Outcome State Fault Refusal :=
  s.clocked (fun s => match ((s.core c).strm t).wait with
    | .qconf q b n =>
      if (s.core c).live t && !(s.core c).popBlocked q then (s.updCore c (fun k => k.qconf q b n)).endWait c t else s
    | _ => s)

/-- A QPUSH must wait (04 R107): an earlier command of its stream writes a part of the range, or the ring is full. -/
def Core.pushBlocked (c : Core) (t : Strm) (q : DataQ) (base len : Nat) : Bool :=
  (c.flightsOf t).any (fun l => l.rngs.any (fun r => r.write && !r.cistern && overlap r.lo r.len base len)) || decide (q.depth ≤ q.count)

/-- Append an entry (05 R143): a ring slot in a TAGGED window is a partial-slot write (04 R112). -/
def State.push (s : State) (n : Nat) (t : Strm) (addr : Nat) (qi : Nat) (q : DataQ) (a b : Word) (base len : Nat) (cnt : Option Nat) : State :=
  let slot := q.base + 16 * ((q.head + q.count) % q.depth)
  let s := s.multiWin n [(slot, 16)]
  if (s.core n).tagged (slot / 256) then s.coreFault n t addr tagAlign
  else
    let d := leBytes 4 a.toNat ++ leBytes 4 b.toNat ++ leBytes 4 base ++ leBytes 4 len
    let s := s.updCore n (fun c => { c with qs := Sparse.put c.qs qi { q with count := q.count + 1 } })
    (s.arrive n slot (clean d) 0 cnt).endWait n t

def execQpush (c : CoreIx) (t : Strm) (s : State) : Host.Outcome State Fault Refusal :=
  .next (s.issue c t 0x0D fun s d ext =>
    match Sparse.find (s.core c).qs (d.m 2 0) with
    | none =>
      let k := s.operandCheck c d
      if k.bnd then s.coreFault c t d.addr plotBounds else s.coreFault c t d.addr queueConf
    | some q => s.issueControl c t d ext fun s =>
      let a := (s.core c).sreg t (d.m 7 3)
      let b := (s.core c).sreg t (d.m 12 8)
      if (s.core c).pushBlocked t q d.a d.b then (s.setWait c t (.qpush (d.m 2 0) a b d.a d.b (cntOf d.w))).wordDone c t
      else s.push c t d.addr (d.m 2 0) q a b d.a d.b (cntOf d.w))

/-- QPUSH_RESUME (04 R107). -/
def execQpushResume (c : CoreIx) (t : Strm) (s : State) : Host.Outcome State Fault Refusal :=
  s.clocked (fun s => match ((s.core c).strm t).wait with
    | .qpush qi a b base len cnt =>
      match Sparse.find (s.core c).qs qi with
      | some q =>
        if (s.core c).live t && !(s.core c).pushBlocked t q base len then s.push c t (s.pcOf c t - 16) qi q a b base len cnt else s
      | none => s
    | _ => s)

/-- Remove the head entry into two registers (04 R107). -/
def State.pop (s : State) (n : Nat) (t : Strm) (qi : Nat) (q : DataQ) (dr er : Nat) : State :=
  let (x, s) := (s.multiWin n [(q.base + 16 * q.head, 16)]).plotRead n (q.base + 16 * q.head) 8
  let w0 := leNat (rawBytes (x.take 4))
  let w1 := leNat (rawBytes (x.drop 4))
  s.updCore n (fun c =>
    let c := { c with qs := Sparse.put c.qs qi { q with head := (q.head + 1) % q.depth, count := q.count - 1 } }
    (c.setSreg t dr (BitVec.ofNat 32 w0)).setSreg t er (BitVec.ofNat 32 w1))

def execQpop (c : CoreIx) (t : Strm) (s : State) : Host.Outcome State Fault Refusal :=
  .next (s.issue c t 0x0E fun s d ext =>
    match Sparse.find (s.core c).qs (d.m 2 0) with
    | none => s.coreFault c t d.addr queueConf
    | some q => s.control c t d ext fun s =>
      if q.count = 0 then s.setWait c t (.qpop (d.m 2 0) (d.m 7 3) (d.m 12 8)) else s.pop c t (d.m 2 0) q (d.m 7 3) (d.m 12 8))

/-- QPOP_RESUME (04 R107). -/
def execQpopResume (c : CoreIx) (t : Strm) (s : State) : Host.Outcome State Fault Refusal :=
  s.clocked (fun s => match ((s.core c).strm t).wait with
    | .qpop qi dr er =>
      match Sparse.find (s.core c).qs qi with
      | some q => if (s.core c).live t && q.count ≠ 0 then (s.pop c t qi q dr er).endWait c t else s
      | none => s
    | _ => s)

/-! ### FORK and JOIN (04 R105) -/

/-- FORK: SPLIT; the execute stream starts at the target with its flags 0. -/
def execFork (c : CoreIx) (t : Strm) (s : State) : Host.Outcome State Fault Refusal :=
  .next (s.issue c t 0x0F fun s d ext => s.control c t d ext fun s =>
    s.updCore c (fun k => { k with ctl := { k.ctl with split := true }, sx := { present := true, pc := d.a } }))

/-- Where both streams stand at JOIN the core goes on in UNIFIED after the access stream's (04 R105). -/
def State.tryJoin (s : State) (n : Nat) : State :=
  let k := s.core n
  if k.sa.wait = .join && k.sx.wait = .join && (k.live .access || k.live .exec) then
    (s.setCore n { k with ctl := { k.ctl with split := false }, sa := { k.sa with wait := .none }, sx := {} }).wordDone n .access
  else s

/-- JOIN: the stream waits for the other, where that is not at its JOIN. -/
def execJoin (c : CoreIx) (t : Strm) (s : State) : Host.Outcome State Fault Refusal :=
  .next (s.issue c t 0x10 fun s d ext => s.control c t d ext fun s => (s.setWait c t .join).tryJoin c)

/-- JOIN_MEET (04 R105): both streams stand at JOIN. -/
def execJoinMeet (c : CoreIx) (s : State) : Host.Outcome State Fault Refusal := s.clocked (fun s => s.tryJoin c)

/-! ### SETR, SALU, NOP (05 R141) -/

def execSetr (c : CoreIx) (t : Strm) (s : State) : Host.Outcome State Fault Refusal :=
  .next (s.issue c t 0x11 fun s d ext => s.control c t d ext fun s =>
    s.updCore c (fun k => k.setSreg t (d.m 4 0) (BitVec.ofNat 32 d.x1)))

def execSalu (c : CoreIx) (t : Strm) (s : State) : Host.Outcome State Fault Refusal :=
  .next (s.issue c t 0x12 fun s d ext => s.control c t d ext fun s =>
    s.updCore c (fun k => k.setSreg t (d.m 8 4) (saluResult (d.m 3 0) (k.sreg t (d.m 13 9)) (BitVec.ofNat 32 d.a))))

def execNop (c : CoreIx) (t : Strm) (s : State) : Host.Outcome State Fault Refusal :=
  .next (s.issue c t 0x13 fun s d ext => s.control c t d ext fun s => s)

end Sys2Proof.Machine
end

