-- ==== Sys2Proof/Machine/Mover.lean ====
section
/-! DEFINITION. Machine/Mover.lean: the mover's commands as streams of pieces (05 R148 to R151, 09 R244 to R255, 10 R271 to R289, 16 R436,
R447, 21 R580). -/

namespace Sys2Proof.Machine

/-! ### Fields of a long command -/

def LongCmd.w (l : LongCmd) : Nat := l.w0.toNat
def LongCmd.y1 (l : LongCmd) : Nat := l.x1.toNat
def LongCmd.y2 (l : LongCmd) : Nat := l.x2.toNat

/-- Field `hi`:`lo` of MODE. -/
def LongCmd.m (l : LongCmd) (hi lo : Nat) : Nat := bits (modeOf l.w) hi lo
def LongCmd.cnt (l : LongCmd) : Option Nat := cntOf l.w

/-! ### Started commands -/

/-- Change the started command `id` of engine e. -/
def State.updRun (s : State) (n : Nat) (e : Eng) (id : Nat) (f : Running → Running) : State :=
  s.updCore n (fun c => c.setEng e { c.eng e with run := (c.eng e).run.map (fun r => if r.cmd.id = id then f r else r) })

/-- Change the started command `id` of core n, whichever engine runs it. -/
def State.updCmd (s : State) (n id : Nat) (f : Running → Running) : State :=
  [Eng.mover, .dice, .rot, .parterre, .trellis].foldl (fun s e => s.updRun n e id f) s

/-- The started command `id` of engine e. -/
def Core.runOf (c : Core) (e : Eng) (id : Nat) : Option Running := (c.eng e).run.find? (fun r => r.cmd.id = id)

/-- A range split by Plot slots. -/
def slotPieces (a len : Nat) : List (Nat × Nat) := splitAt 256 (len / 256 + 2) a len

/-- Source pieces of a Plot range; a slot that the range covers whole is consumed where the command says so (04 R112). -/
def plotSrcs (a len : Nat) (consume : Bool) : List SrcPiece :=
  (slotPieces a len).map (fun (x, k) =>
    let sl := x / 256
    .plot x k (consume && decide (a ≤ 256 * sl) && decide (256 * sl + 256 ≤ a + len)))

/-- Destination pieces of a Plot range of a core. -/
def plotDsts (core a len aow : Nat) (cnt : Option Nat) : List DstPiece :=
  (slotPieces a len).map (fun (x, k) => .plot core x k aow cnt)

/-- The first `k` bytes of a list of runs. -/
def takeRuns : List (Nat × Nat) → Nat → List (Nat × Nat)
  | [], _ => []
  | (a, n) :: rest, k => if k = 0 then [] else if k ≤ n then [(a, k)] else (a, n) :: takeRuns rest (k - n)

/-- Pieces of memory runs: within one 4 KiB block, and within one 128-byte line for traffic that may use the Orangery. -/
def memPieces (runs : List (Nat × Nat)) (org : Bool) : List (Nat × Nat) :=
  ((mergeRuns runs).filter (fun r => r.2 ≠ 0)).flatMap (fun (a, n) => let u := if org then 128 else 4096; splitAt u (n / u + 2) a n)

def memSrcs (runs : List (Nat × Nat)) (org : Bool) : List SrcPiece := (memPieces runs org).map (fun (a, n) => .mem a n org)
def memDsts (runs : List (Nat × Nat)) (org : Bool) : List DstPiece := (memPieces runs org).map (fun (a, n) => .mem a n org)

/-- Some dimension of a descriptor is 0: the command moves nothing (05 R158). -/
def descEmpty (x : Nat) : Bool := (List.range (descRank x)).any (fun i => descSize x i = 0)

/-- Scale array of an MX descriptor: one byte per 32 elements of dimension 0 (05 Table 5-8). -/
def scaleRun (x : Nat) : List (Nat × Nat) := if fmtMx (descFmt x) then [(descScale x, descElems x (descRank x) / 32)] else []

/-- Lines of 128 bytes that a tensor touches, once each (10 R289). -/
def tensorLines (x : Nat) : List Nat :=
  ((descRuns x).flatMap (fun (a, n) => if n = 0 then [] else (List.range ((a + n - 1) / 128 + 1 - a / 128)).map (· + a / 128))).eraseDups

/-- Indices of a GATHER or SCATTER (05 Table 5-4): U32 values, little-endian. -/
def indexList : Nat → List PByte → List Nat
  | 0, _ => []
  | k + 1, d => leNat (rawBytes (d.take 4)) :: indexList k (d.drop 4)

/-- A SNAP copies (21 R580). -/
def Core.snapDue (c : Core) (at_ : Nat) : Bool :=
  at_ = 0xFFFFFFFF || (at_ = 0xFFFFFFFE && c.dbg.triggered) || (decide (at_ < 0xFFFFFFFE) && at_ = c.ctl.stepNum.toNat)

/-- An engine's command begins to read its operands; bank conflicts will hold its feed up for some cycles, which Tally `id` counts beside
PLOT_CONFLICT (06 R176, 08 R223, 09 R243; log 88). -/
def State.beginRun (s : State) (n : Nat) (e : Eng) (l : LongCmd) (id : Nat) : State :=
  let k := (((s.core n).runOf e l.id).map Running.stalls).getD 0
  let s := s.updRun n e l.id (fun r => { r with held := false, tagSince := none, begunAt := some s.cyc.cycles })
  if k = 0 then s else (s.tallyAdd id n k).tallyAdd 0x13 n k

/-- The pieces of a command at its start (05 R148, R150, 10 R289, 21 R580). -/
def State.moverBuild (s : State) (n : Nat) (l : LongCmd) : Running × State :=
  let r : Running := { cmd := l }
  let x := l.desc1
  match l.op with
  | 0x20 =>
    let dst := dstCore n (bits l.y1 7 0)
    let aow := bits l.y1 49 48
    let consume := l.m 2 2 = 1
    match l.m 1 0 with
    | 0 =>
      if descEmpty x then (r, s)
      else ({ r with srcs := memSrcs (descRuns x) false, dsts := plotDsts dst l.b (descBytes x) aow l.cnt }, s)
    | 1 => if descEmpty x then (r, s) else ({ r with srcs := plotSrcs l.b (descBytes x) consume, dsts := memDsts (descRuns x) false }, s)
    | 2 =>
      let len := bits l.y1 47 16
      ({ r with srcs := plotSrcs l.c len consume, dsts := plotDsts dst l.b len aow l.cnt }, s)
    | _ =>
      let y := l.desc2
      if descEmpty x || descEmpty y then (r, s)
      else
        let k := min (descBytes x) (descBytes y)
        let ks := min (((scaleRun x).map (·.2)).sum) (((scaleRun y).map (·.2)).sum)
        ({ r with srcs := memSrcs (takeRuns (descRuns x) k) false ++ memSrcs (takeRuns (scaleRun x) ks) false,
                  dsts := memDsts (takeRuns (descRuns y) k) false ++ memDsts (takeRuns (scaleRun y) ks) false }, s)
  | 0x21 =>
    let k := bits l.y1 47 16
    let rb := rowBytesOf x
    let size := descSize x (descRank x - 1)
    if descEmpty x then (r, s)
    else
      let (d, s) := s.plotRead n l.b (4 * k)
      let ix := indexList k d
      ({ r with srcs := ix.flatMap (fun j => if j < size then memSrcs (rowRuns x j) true else [.zero rb]),
                dsts := plotDsts (dstCore n (bits l.y1 7 0)) l.c (k * rb) (bits l.y1 49 48) l.cnt,
                oob := ix.any (fun j => decide (size ≤ j)) }, s)
  | 0x22 =>
    let k := bits l.y1 47 16
    let rb := rowBytesOf x
    let size := descSize x (descRank x - 1)
    if descEmpty x then (r, s)
    else
      let (d, s) := s.plotRead n l.b (4 * k)
      let ix := indexList k d
      ({ r with srcs := plotSrcs l.c (k * rb) (l.m 0 0 = 1),
                dsts := ix.flatMap (fun j => if j < size then memDsts (rowRuns x j) true else [.drop rb]),
                oob := ix.any (fun j => decide (size ≤ j)) }, s)
  | 0x24 | 0x25 | 0x26 => ({ r with srcs := if descEmpty x then [] else (tensorLines x).map (fun la => .mem (128 * la) 128 true) }, s)
  | 0x27 =>
    if (s.core n).snapDue (bits l.y1 31 0) then
      ({ r with snap := true, srcs := if descEmpty x then [] else plotSrcs l.a (descBytes x) false,
                dsts := if descEmpty x then [] else memDsts (descRuns x) false }, s)
    else (r, s)
  | _ => (r, s)

/-! ### Requests -/

/-- Mark a request of core n and put it before its arbiter (16 R434, R436). `tier` is the tier bit of the class table; `key` the bucket. -/
def State.request (s : State) (n : Nat) (res tier cost : Nat) (q : Req) : Nat × State :=
  let p := (s.owner n).getD 0
  let (cls, s) := s.classOf p 0 tier (some n)
  let (lvl, s) := s.mark p res cls cost
  let (id, s) := s.fresh
  (id, { s with arb := { s.arb with waiting := s.arb.waiting ++ [{ q with id := id, pav := p, res := res, level := lvl, frame := s.frame,
                                                                            arr := s.cyc.cycles }] } })

def blankReq (n cmd : Nat) : Req :=
  { id := 0, core := n, cmd := cmd, pav := 0, res := 0, level := 0, write := false, va := 0, pa := 0, len := 0, data := [], org := false,
    frame := 0, pkt := none }

/-- Poison of bytes that core n's engines write (09 R255). -/
def State.outgoing (s : State) (n : Nat) (d : List PByte) : List PByte :=
  if (s.core n).ctl.poisoning then d.map (fun b => (b.1, true)) else d

/-- Bytes at the front of the buffer that have arrived. -/
def readyBytes : List Chunk → List PByte
  | [] => []
  | ch :: rest => if ch.rid.isSome then [] else ch.data ++ readyBytes rest

/-- Remove `k` ready bytes from the front of the buffer. -/
def dropBytes : List Chunk → Nat → List Chunk
  | [], _ => []
  | ch :: rest, k =>
    if k = 0 then ch :: rest
    else if ch.data.length ≤ k then dropBytes rest (k - ch.data.length)
    else { ch with len := ch.len - k, data := ch.data.drop k } :: rest

/-- Fill the chunk that waits for request `rid`. -/
def fillChunk (buf : List Chunk) (rid : Nat) (d : List PByte) : List Chunk :=
  buf.map (fun ch => if ch.rid = some rid then { ch with rid := none, data := d } else ch)

/-- Zeros that stand for a read that faulted (10 R283). -/
def poisonZeros (n : Nat) : List PByte := List.replicate n (0, true)

/-- Begin a walk unless the core's walker is busy (10 R276): the command waits. -/
def State.startWalk (s : State) (n id va : Nat) : State :=
  let s := s.updRun n .mover id (fun r => { r with walkWait := true })
  s.updCore n (fun c => if c.map.walk.isSome then c else { c with map := { c.map with walk := some va } })

/-- A started command is a range command (10 R289). -/
def isRange (op : Nat) : Bool := op = 0x24 || op = 0x25 || op = 0x26

/-- One line of a range command (10 R289, R290). -/
def State.rangeLine (s : State) (n : Nat) (l : LongCmd) (pa : Nat) : State :=
  let p := (s.owner n).getD 0
  let lv := l.m 1 0
  let near := lv ≠ 2
  let far := lv ≠ 1
  if tierOf pa = 2 then s
  else
    match l.op with
    | 0x24 =>
      let la := pa / 128
      let have_ := (!near || (s.nearLine p la).isSome)
        && (!far || tierOf pa ≠ 0 || (match s.farLine p la with | some x => x.mask = 2 ^ 128 - 1 | none => false))
      if have_ then s else (s.orgFill p la (near && (s.nearLine p la).isNone) far).2
    | 0x25 => if far then s.orgFlush p (pa / 128) else s
    | _ => s.orgInv p (pa / 128) near far

/-- Take the first source piece of the mover's command (10 R276, R283, R284). The Bool says whether it was taken. -/
def State.pumpSrc (s : State) (n : Nat) (r : Running) : Bool × State :=
  let id := r.cmd.id
  let next := fun (s : State) (ch : Chunk) (consumed : Nat) =>
    s.updRun n .mover id (fun r => { r with srcs := r.srcs.tail, buf := r.buf ++ [ch], rd := r.rd + consumed })
  match r.srcs with
  | [] => (false, s)
  | .zero k :: _ => (true, next s { rid := none, len := k, data := clean (List.replicate k 0) } 0)
  | .plot a k consume :: _ =>
    if r.tagSince.isSome then (false, s)
    else if (s.core n).readBlocked a k then (false, s.updRun n .mover id (fun r => { r with tagSince := some s.cyc.cycles }))
    else
      let (d, s) := s.plotRead n a k
      let s := if consume then s.consumeTags n a k else s
      (true, next s { rid := none, len := k, data := d } 0)
  | .mem va k org :: _ =>
    if r.walkWait then (false, s)
    else
      match s.translate n va false with
      | (.miss, s) => (false, s.startWalk n id va)
      | (.fault c, s) =>
        if isRange r.cmd.op then (true, (s.tallyAdd 0x1E n 1).updRun n .mover id (fun r => { r with srcs := r.srcs.tail }))
        else (true, next (s.memFault n c false va) { rid := none, len := k, data := poisonZeros k } 0)
      | (.ok pa oc, s) =>
        let p := (s.owner n).getD 0
        if isRange r.cmd.op then
          let s := if s.owns p pa k then s.rangeLine n r.cmd pa else s.tallyAdd 0x1E n 1
          (true, s.updRun n .mover id (fun r => { r with srcs := r.srcs.tail }))
        else
          let g := s.gate p pa k
          if g ≠ 0 then (true, next (s.memFault n g false va) { rid := none, len := k, data := poisonZeros k } 0)
          else
            let tier := tierOf pa
            let use := org && oc && decide (tier ≤ 1)
            let (rid, s) := s.request n (if use then 2 else tierRes tier) tier k { blankReq n id with va := va, pa := pa, len := k, org := use }
            (true, next s { rid := some rid, len := k, data := [] } 1)

/-- Take the first destination piece once its bytes are there (04 R112, 09 R244, R248, 10 R283). -/
def State.pumpDst (s : State) (n : Nat) (r : Running) : Bool × State :=
  let id := r.cmd.id
  let done := fun (s : State) (k wr : Nat) (poison : Bool) =>
    s.updRun n .mover id (fun r => { r with dsts := r.dsts.tail, buf := dropBytes r.buf k, wr := r.wr + wr,
                                            poisonSeen := r.poisonSeen || poison })
  let ready := readyBytes r.buf
  match r.dsts with
  | [] => (false, s)
  | .drop k :: _ => if ready.length < k then (false, s) else (true, done s k 0 false)
  | .plot core a k aow cnt :: _ =>
    if ready.length < k then (false, s)
    else
      let d := s.outgoing n (ready.take k)
      if core = n then
        if r.wtagSince.isSome then (false, s)
        else if (s.core n).writeBlocked a k then (false, s.updRun n .mover id (fun r => { r with wtagSince := some s.cyc.cycles }))
        else (true, done (s.arrive n a d aow cnt) k 0 (anyPoison d))
      else
        let p := (s.owner n).getD 0
        let pkt : Packet := { id := 0, src := n, dst := core, pav := p, addr := a, data := d, aow := aow, cnt := cnt, amount := 0, signal := false,
                              cmd := id }
        let (_, s) := s.request n 3 3 k { blankReq n id with write := true, len := k, pkt := some pkt }
        (true, done s k 1 (anyPoison d))
  | .mem va k org :: _ =>
    if ready.length < k || r.walkWait then (false, s)
    else
      match s.translate n va true with
      | (.miss, s) => (false, s.startWalk n id va)
      | (.fault c, s) => (true, done (s.memFault n c true va) k 0 false)
      | (.ok pa oc, s) =>
        let p := (s.owner n).getD 0
        let g := s.gate p pa k
        if g ≠ 0 then (true, done (s.memFault n g true va) k 0 false)
        else
          let d := s.outgoing n (ready.take k)
          let tier := tierOf pa
          let use := org && oc && decide (tier ≤ 1)
          let (_, s) := s.request n (if use then 2 else tierRes tier) tier k
            { blankReq n id with write := true, va := va, pa := pa, len := k, data := d, org := use }
          (true, done s k 1 (anyPoison d))

/-- Take pieces while any can be taken. -/
def State.pumpLoop : Nat → Nat → Nat → State → State
  | 0, _, _, s => s
  | fuel + 1, n, id, s =>
    match (s.core n).runOf .mover id with
    | none => s
    | some r =>
      if r.held then s
      else
        let (a, s) := s.pumpSrc n r
        match (s.core n).runOf .mover id with
        | none => s
        | some r =>
          let (b, s) := s.pumpDst n r
          if a || b then State.pumpLoop fuel n id s else s

/-- The command in the mover of core n goes on as far as it can. -/
def State.pump (s : State) (n : Nat) : State :=
  match (s.core n).mover.run with
  | r :: _ => State.pumpLoop (r.srcs.length + r.dsts.length + 2) n r.cmd.id s
  | [] => s

/-! ### Start -/

/-- The engines of core n start commands: the core runs a list and no fault or reset stops it (04 R120, R189, 21 R574). -/
def Core.engineGo (c : Core) : Bool := c.ctl.st = .run && (c.ctl.drain = .none || c.ctl.drain = .halt)

/-- The Plot bytes that a GATHER or SCATTER reads before its rows: its index list. -/
def indexRange (l : LongCmd) : Nat × Nat := if l.op = 0x21 || l.op = 0x22 then (l.b, 4 * bits l.y1 47 16) else (0, 0)

/-- Read the index list and form the pieces, once the list's tags are FULL. -/
def State.moverBegin (s : State) (n : Nat) (l : LongCmd) : State :=
  let (a, k) := indexRange l
  if (s.core n).readBlocked a k then
    s.updRun n .mover l.id (fun r => { r with held := true, tagSince := some (r.tagSince.getD s.cyc.cycles) })
  else
    let (r, s) := s.moverBuild n l
    (s.updRun n .mover l.id (fun old => { r with defer := old.defer })).pump n

/-- A SIGNAL starts (05 Table 5-4, 04 R115): it counts at once on the own core, else it leaves as a packet. -/
def State.moverSignal (s : State) (n : Nat) (l : LongCmd) : State :=
  let dst := dstCore n (l.m 7 0)
  if dst = n then s.cntAdd n (cntNum l.w) l.a
  else
    let p := (s.owner n).getD 0
    let pkt : Packet := { id := 0, src := n, dst := dst, pav := p, addr := 0, data := [], aow := 0, cnt := some (cntNum l.w), amount := l.a,
                          signal := true, cmd := l.id }
    let (_, s) := s.request n 3 3 0 { blankReq n l.id with write := true, pkt := some pkt }
    s.updRun n .mover l.id (fun r => { r with wr := 1 })

/-- MOVER_START (04 R99): the next command of the queue starts. -/
def State.moverStart (s : State) (n : Nat) : State :=
  let c := s.core n
  match c.mover.queue with
  | [] => s
  | l :: rest =>
    if !c.mover.run.isEmpty || !c.engineGo then s
    else
      let s := (s.setCore n { c with mover := { queue := rest, run := [{ cmd := l }] } }).disturbCal
      if l.op = 0x23 then s.moverSignal n l else s.moverBegin n l

def execMoverStart (c : CoreIx) (s : State) : Host.Outcome State Fault Refusal := s.clocked (fun s => s.moverStart c)

/-! ### Completion -/

/-- The started command has nothing left to do. -/
def Running.finished (r : Running) : Bool :=
  r.srcs.isEmpty && r.dsts.isEmpty && r.rd = 0 && r.wr = 0 && r.tagSince.isNone && r.wtagSince.isNone && !r.walkWait && !r.held

/-- Write the disposition of a long command (16 R447). -/
def State.dispose (s : State) (n : Nat) (r : Running) : State :=
  let k := min r.defer 0x3FFFFF
  let kind := if r.refused then 2 else if r.defer ≠ 0 then 1 else 0
  let s := s.updCore n (fun c =>
    { c with disp := { last := r.cmd.op + (if kind = 1 then k * 256 else 0) + kind * 2 ^ 30,
                       deferred := (c.disp.deferred + b2n (kind = 1)) % 2 ^ 32, refused := (c.disp.refused + b2n (kind = 2)) % 2 ^ 32 } })
  s.tallyPav (0x21 + kind) (s.owner n) 1

/-- Remove a completed command from its engine and write its disposition (05 R140). -/
def State.retire (s : State) (n : Nat) (e : Eng) (r : Running) : State :=
  (s.updCore n (fun c => c.setEng e { c.eng e with run := (c.eng e).run.filter (fun x => x.cmd.id ≠ r.cmd.id) })).dispose n r

/-- The 32 bytes of a Snapshot record (21 R581). -/
def State.snapRecord (s : State) (n : Nat) (r : Running) : List Byte :=
  let c := s.core n
  let at_ := bits r.cmd.y1 31 0
  let flags := b2n s.timeFree + 2 * b2n s.holdover + 4 * b2n (at_ = 0xFFFFFFFE && c.dbg.trigStepped) + 8 * b2n r.poisonSeen
    + 16 * b2n (c.dbg.triggered && at_ = 0xFFFFFFFE)
  leBytes 4 (descName r.cmd.desc1) ++ leBytes 4 c.ctl.stepNum.toNat ++ leBytes 1 n ++ leBytes 1 flags ++ leBytes 2 0
    ++ leBytes 4 (if descEmpty r.cmd.desc1 then 0 else descBytes r.cmd.desc1) ++ leBytes 8 s.time.now ++ leBytes 8 (descBase r.cmd.desc1)

/-- Place of the next Snapshot record (21 R581). -/
def State.snapSlot (s : State) (p : Nat) : Nat :=
  (s.obj (0x6030 + p) 2 + 32 * ((s.pav p).snapCount % 2 ^ s.obj (0x6030 + p) 3)) % 2 ^ 48

/-- LONG_COMMAND_COMPLETE of a mover command (05 R140, R142; 21 R581): a SNAP that has copied writes its record first. -/
def State.moverComplete (s : State) (n : Nat) : State :=
  match (s.core n).mover.run with
  | [] => s
  | r :: _ =>
    if !r.finished then s
    else
      let snap := r.snap
      let p := (s.owner n).getD 0
      if snap && !r.closing then
        let d := clean (s.snapRecord n r)
        (s.updRun n .mover r.cmd.id (fun r => { r with closing := true, buf := [{ rid := none, len := 32, data := d }],
                                                       dsts := [.mem (s.snapSlot p) 32 false] })).pump n
      else
        let s := if r.oob then s.setFlags n r.cmd.strm (fun f => { f with oob := true }) else s
        let s := if snap then (s.updPav p (fun v => { v with snapCount := (v.snapCount + 1) % 2 ^ 32 })).tallyAdd 0x2D p 1 else s
        s.retire n .mover r

end Sys2Proof.Machine
end

