-- ==== Sys2Proof/Machine/MemEvents.lean ====
section
/-! DEFINITION. Machine/MemEvents.lean: arbiters, memory responses, the host window, page walks, aging, the Pip sweep, and packets on
the Hedgerow (04 R113, R114; 09 R244 to R250; 10 R271 to R283; 16 R437; 18 R503). -/

namespace Sys2Proof.Machine

/-! ### Arbiters (16 R437) -/

/-- The CT_SLOTS bit of Pavilion p for the present slot is set; FREE gives no precedence (16 R437, R451). -/
def State.slotFirst (s : State) (p : Nat) : Bool := !s.timeFree && bit (s.obj (0x3180 + 8 * p) 0xE) (slotOf s.time.now)

/-- Rank of a request at its arbiter: level, slot precedence in level 0, cyclic order of the Pavilions. -/
def State.reqRank (s : State) (q : Req) : Nat :=
  q.level * 64 + (if q.level = 0 && s.slotFirst q.pav then 0 else 32) + (q.pav + 16 - s.frame % 16) % 16

/-- A write that must follow write `x` of its command: the two touch one byte (05 R150, R158, R163). -/
def Req.follows (q x : Req) : Bool :=
  q.write && x.write && q.core = x.core && q.cmd = x.cmd && q.id ≠ x.id && overlap q.pa q.len x.pa x.len

/-- Requests that none of the list they stand in comes before. -/
def Req.inOrder : List Req → List Req → List Req
  | _, [] => []
  | before, q :: rest => if before.any q.follows then Req.inOrder (q :: before) rest else q :: Req.inOrder (q :: before) rest

/-- A request goes before another of its list: by rank, then arrival, then core index (16 R437). -/
def State.reqBefore (s : State) (q b : Req) : Bool :=
  let x := s.reqRank q
  let y := s.reqRank b
  decide (x < y) || (x = y && (decide (q.arr < b.arr) || (q.arr = b.arr && decide (q.core < b.core))))

/-- The request that resource r grants next: the lowest rank, first in arrival, lowest core; a host-window read waits for one of the 512
tags of its function (15 Table 15-1). Packets of one core keep their order (04 R116), and so do the writes of a command to one byte (05
R150, R158). -/
def State.granted (s : State) (r : Nat) : Option Req :=
  let ws := s.arb.waiting.filter (fun q => q.res = r && (r ≠ 5 || q.write || decide (s.hostTags q.pav < 512)))
  let ws := if r = 3 then ws.filter (fun q => (ws.find? (fun x => x.core = q.core)) == some q) else Req.inOrder [] ws
  ws.foldl (fun best q => match best with
    | none => some q
    | some b => if s.reqBefore q b then some q else best) none

/-- A write of command `cmd` has become visible. -/
def State.writeDone (s : State) (n cmd : Nat) : State := s.updCmd n cmd (fun r => { r with wr := r.wr - 1 })

/-- Data of request `q` reaches its command, which goes on (10 R273). -/
def State.deliver (s : State) (q : Req) (d : List PByte) : State :=
  (s.updCmd q.core q.cmd (fun r => { r with buf := fillChunk r.buf q.id d, rd := r.rd - 1 })).pump q.core

/-- A host-window access at gateway 0 (10 R271, 15 R416): its request leaves on the PCIe link; where the Pavilion's function sends none, it is a
memory fault of cause HOST. -/
def State.hostGrant (s : State) (q : Req) : State :=
  let a := q.pa - hostBase + s.obj (0x2210 + q.pav) 2
  if !s.hostOpen q.pav then
    let s := s.memFault q.core 6 q.write q.va
    if q.write then s.writeDone q.core q.cmd else s.deliver q (poisonZeros q.len)
  else if q.write then (s.emit (.pcieWrite (q.pav + 1) a q.data)).writeDone q.core q.cmd
  else { s.emit (.pcieRead (q.pav + 1) a q.len) with arb := { s.arb with host := s.arb.host ++ [q] } }

/-- A granted access (16 R436, R437): writes take effect, reads go on their way, an Orangery miss is marked again for its tier. -/
def State.grant (s : State) (q : Req) : State :=
  let arb := s.arb
  let s := { s with arb := { arb with waiting := arb.waiting.filter (fun x => x.id ≠ q.id) } }
  let s := s.updCmd q.core q.cmd (fun r => { r with defer := max r.defer (s.frame - q.frame) })
  match q.pkt with
  | some pkt => { s with net := s.net ++ [{ pkt with id := q.id }] }
  | none =>
    if q.res = 5 then s.hostGrant q
    else if q.write then
      (if q.org then s.orgWrite q.pav q.pa q.data else s.memWrite q.pa q.data).writeDone q.core q.cmd
    else if q.res = 2 && !s.orgHit q.pav q.pa q.len then
      let t := tierOf q.pa
      let (cls, s) := s.classOf q.pav 0 t (some q.core)
      let (lvl, s) := s.mark q.pav (tierRes t) cls q.len
      { s with arb := { s.arb with waiting := s.arb.waiting ++ [{ q with res := tierRes t, level := lvl, arr := s.cyc.cycles }] } }
    else { s with arb := { s.arb with reads := s.arb.reads ++ [q] } }

/-- ARBITER_GRANT (16 R437). -/
def execArbiterGrant (r : Fin 6) (s : State) : Host.Outcome State Fault Refusal :=
  s.clocked (fun s => match s.granted r with
    | some q => s.grant q
    | none => s)

/-! ### Responses -/

/-- MEMORY_READ_RESPONSE (10 R273, R292): the bytes as the tier or the Orangery holds them when they are read; `upsets` is what has befallen the
cells before. -/
def execMemoryReadResponse (rid : Nat) (upsets : List MemUpset) (s : State) : Host.Outcome State Fault Refusal :=
  s.clocked (fun s => match s.arb.reads.find? (fun q => q.id = rid) with
    | none => s
    | some q =>
      let s := upsets.foldl State.memUpset { s with arb := { s.arb with reads := s.arb.reads.filter (fun x => x.id ≠ rid) } }
      let (d, s) := if q.org then s.orgRead q.pav q.pa q.len else s.memRead q.pa q.len
      s.deliver q d)

/-! ### Walks and aging (10 R276 to R279) -/

/-- The access that waited for the walk of `va` fails (10 R283, R289). -/
def State.walkFail (s : State) (n va cause : Nat) : State :=
  match (s.core n).mover.run with
  | [] => s
  | r :: _ =>
    let id := r.cmd.id
    if !r.walkWait then s
    else
      let here : Bool := match r.srcs with | .mem v _ _ :: _ => v % 2 ^ 48 = va % 2 ^ 48 | _ => false
      if here then
        let k := match r.srcs with | .mem _ k _ :: _ => k | _ => 0
        if isRange r.cmd.op then (s.tallyAdd 0x1E n 1).updRun n .mover id (fun r => { r with srcs := r.srcs.tail, walkWait := false })
        else (s.memFault n cause false va).updRun n .mover id
          (fun r => { r with srcs := r.srcs.tail, buf := r.buf ++ [{ rid := none, len := k, data := poisonZeros k }], walkWait := false })
      else
        let k := match r.dsts with | .mem _ k _ :: _ => k | _ => 0
        (s.memFault n cause true va).updRun n .mover id
          (fun r => { r with dsts := r.dsts.tail, buf := dropBytes r.buf k, walkWait := false })

/-- PAGE_WALK_COMPLETE (10 R276): the walk ends; a leaf fills the map buffer, a failure is the access's memory fault. -/
def execPageWalkComplete (c : CoreIx) (s : State) : Host.Outcome State Fault Refusal :=
  s.clocked (fun s => match (s.core c).map.walk with
    | none => s
    | some va =>
      match s.walk ((s.owner c).getD 0) va (some c) with
      | (.leaf e, s) =>
        let s := s.updCore c (fun k => { k with map := k.map.fill e })
        let s := s.updCore c (fun k => { k with mover := { k.mover with run := k.mover.run.map (fun r => { r with walkWait := false }) } })
        s.pump c
      | (.fail cause, s) =>
        ((s.updCore c (fun k => { k with map := { k.map with walk := none } })).walkFail c va cause).pump c)

/-- MAP_BUFFER_AGING (10 R279, 02 Table 2-3): when frame f + 2 begins, entries walked in frame f are dropped. -/
def execMapBufferAging (s : State) : Host.Outcome State Fault Refusal :=
  s.clocked (fun s =>
    match s.agingAt with
    | none => s
    | some t =>
      if !s.turn { at_ := t, rank := 7 } then s
      else
      let s := s.elapseTo t
      { s with cores := s.cores.map (fun r => (r.1, { r.2 with map := r.2.map.drop (fun e => decide (s.frame < e.frame + 2)) })) })

/-! ### The Pip sweep (18 R503) -/

/-- PIP_SWEEP_CHECK: controller k, holding no request, checks its next written block, `upsets` having befallen the cells before; after the
last one the pass ends and its duration is recorded. -/
def execPipSweepCheck (k : Fin 8) (upsets : List MemUpset) (s : State) : Host.Outcome State Fault Refusal :=
  s.clocked (fun s =>
    let s := upsets.foldl State.memUpset s
    let busy := (s.arb.waiting ++ s.arb.reads).any (fun q => q.pkt.isNone && q.res ≠ 5 && memc q.pa = k.val)
    if busy then s
    else
      let pos := Sparse.getD s.mmeta.sweep k 0
      match s.mmeta.pip.find? (fun r => decide (pos ≤ r.1) && memc (4096 * r.1) = k.val) with
      | some (b, _) =>
        let s := (s.pipCheck b 1).2
        { s with mmeta := { s.mmeta with sweep := Sparse.put s.mmeta.sweep k (b + 1) } }
      | none =>
        let m := s.mmeta
        let ms := (s.cyc.ns - Sparse.getD m.sweepStart k 0) / 1000000
        { s with mmeta := { m with sweep := Sparse.put m.sweep k 0, sweepStart := Sparse.put m.sweepStart k s.cyc.ns,
                                   sweepMs := Sparse.put m.sweepMs (if k.val < 6 then 0 else 1) (ms % 2 ^ 32) } })

/-! ### Remote writes (09 R244 to R247, 04 R112 to R116) -/

/-- Report a refused packet to its sender as a fault of its command (09 R246). -/
def State.refusePacket (s : State) (pkt : Packet) (code : Nat) : State :=
  if pkt.cmd = 0 then s
  else
    match (s.core pkt.src).flights.find? (fun l => l.id = pkt.cmd) with
    | some l => s.coreFault pkt.src l.strm l.addr code
    | none => s

/-- The destination's answer to a packet (09 R246, R250; 04 R112): 0 none, else the fault code for its sender. -/
def State.packetRefused (s : State) (pkt : Packet) : Nat :=
  if s.owner pkt.dst ≠ some pkt.pav || !s.coreUsable pkt.dst || (!pkt.signal && !inPlot pkt.addr pkt.data.length) then plotBounds
  else if !pkt.signal && (s.core pkt.dst).tagMisaligned pkt.addr pkt.data.length pkt.aow then tagAlign
  else 0

/-- A write of an own engine waits for one of the slots, and so comes before remote writes to it (04 R113). -/
def Core.ownWaits (c : Core) (a n : Nat) : Bool :=
  c.engs.any (fun e => e.run.any (fun r => r.wtagSince.isSome && (match r.dsts with
    | .plot _ b k _ _ :: _ => (slotsOf b k).any (fun sl => c.tagged sl && (slotsOf a n).contains sl)
    | _ => false)))

/-- The tags, or an own engine's write before it, hold a packet back (04 R112, R113). -/
def Core.packetHeld (c : Core) (pkt : Packet) : Bool :=
  !pkt.signal && (c.writeBlocked pkt.addr pkt.data.length || c.ownWaits pkt.addr pkt.data.length)

/-- Count MULTI_MATCH where the packet is the first of its command to touch an overlap of windows (04 R111). -/
def State.packetMulti (s : State) (pkt : Packet) : State :=
  if pkt.signal || !(s.core pkt.dst).overlapped [(pkt.addr, pkt.data.length)] then s
  else
    match [Eng.mover, .dice, .rot, .parterre, .trellis].findSome? (fun e => (s.core pkt.src).runOf e pkt.cmd) with
    | some r =>
      if r.multi || r.cmd.multi then s
      else (s.updCmd pkt.src pkt.cmd (fun r => { r with multi := true })).tallyPav 0x20 (s.owner pkt.dst) 1
    | none => s

/-- A packet takes effect at its destination: written and counted, refused, or dropped in a reset (09 R245, R246; 15 R422 step 3). A gateway's
packet writes plainly and counts on no counter; its refusal has no core to report to (15 R416). -/
def State.packetArrives (s : State) (pkt : Packet) : State :=
  let resetting : Bool := match s.owner pkt.dst with | some p => (s.pav p).resetAt = 3 | none => false
  if resetting then (s.writeDone pkt.src pkt.cmd).tallyPav 0x2C (s.owner pkt.dst) 1
  else if pkt.src = 144 then
    if pkt.pav ≠ 16 && (s.owner pkt.dst ≠ some pkt.pav || !s.coreUsable pkt.dst) then s.tallyAdd 0x1A pkt.dst 1 else s.plotPut pkt.dst pkt.addr pkt.data
  else
    let code := s.packetRefused pkt
    if code ≠ 0 then
      let s := s.writeDone pkt.src pkt.cmd
      let s := if code = plotBounds then s.tallyAdd 0x1A pkt.dst 1 else s
      s.refusePacket pkt code
    else
      let s := (s.packetMulti pkt).writeDone pkt.src pkt.cmd
      if pkt.signal then s.cntAdd pkt.dst (pkt.cnt.getD 0) pkt.amount
      else s.arrive pkt.dst pkt.addr pkt.data pkt.aow pkt.cnt

/-- Held packets that are the oldest of their source. -/
def oldestHeld (l : List HeldPacket) : List HeldPacket := l.filter (fun h => (l.find? (fun x => x.pkt.src = h.pkt.src)) == some h)

/-- Two packets write one tagged slot. -/
def Core.sameSlot (c : Core) (x y : Packet) : Bool :=
  !x.signal && !y.signal && (slotsOf x.addr x.data.length).any (fun sl => c.tagged sl && (slotsOf y.addr y.data.length).contains sl)

/-- The held packet that leaves the pending buffer next (04 R113, R114): of those that are the oldest of their source, that the tags let go on and
that none such held before them names the slot of, the one of the lowest source. -/
def State.nextHeld (s : State) (n : Nat) : Option HeldPacket :=
  let c := s.core n
  let first := oldestHeld c.pbuf
  let can := first.filter (fun h => s.packetRefused h.pkt ≠ 0 || (!c.packetHeld h.pkt
    && !(first.takeWhile (fun x => x ≠ h)).any (fun x => s.packetRefused x.pkt = 0 && c.sameSlot x.pkt h.pkt)))
  match can with
  | [] => none
  | h :: rest => some (rest.foldl (fun a b => if b.pkt.src < a.pkt.src then b else a) h)

/-- A held packet leaves the buffer and takes effect; the next of its source waits as the oldest from now on. -/
def State.release (s : State) (n : Nat) (h : HeldPacket) : State :=
  let k := s.core n
  let left := k.pbuf.filter (fun x => x.pkt.id ≠ h.pkt.id)
  let left := left.map (fun x => if (left.find? (fun y => y.pkt.src = x.pkt.src)) == some x && x.pkt.src = h.pkt.src
    then { x with since := s.cyc.cycles } else x)
  (s.setCore n { k with pbuf := left }).packetArrives h.pkt

/-- Let the held packets that can proceed go, `k` at most: they go ahead of a packet that arrives (04 R114, 09 R247). -/
def State.releaseAll : Nat → Nat → State → State
  | 0, _, s => s
  | k + 1, n, s => match s.nextHeld n with
    | some h => State.releaseAll k n (s.release n h)
    | none => s

/-- A packet of the Hedgerow reaches its port, once the held packets that can proceed have: it waits in the pending buffer behind a held packet of
its source, behind one for its slot, or for its slot's tag; a full buffer holds it back on the Hedgerow (04 R113, R114). -/
def State.portTakes (s : State) (pkt : Packet) : State :=
  let c := s.core pkt.dst
  let wait := pkt.src ≠ 144 && (c.pbuf.any (fun h => h.pkt.src = pkt.src)
    || (s.packetRefused pkt = 0 && (c.packetHeld pkt || (oldestHeld c.pbuf).any (fun h => c.sameSlot h.pkt pkt))))
  if wait && decide (16 ≤ c.pbuf.length) then s
  else
    let s := { s with net := s.net.filter (fun p => p.id ≠ pkt.id) }
    if wait then s.setCore pkt.dst { c with pbuf := c.pbuf ++ [{ pkt := pkt, since := s.cyc.cycles }] } else s.packetArrives pkt

/-- REMOTE_WRITE_ARRIVAL (09 R245, 04 R114): the oldest packet of the source (144 is gateway 0) reaches the port. -/
def execRemoteWriteArrival (dst : CoreIx) (src : Fin 145) (s : State) : Host.Outcome State Fault Refusal :=
  s.clocked (fun s => match s.net.find? (fun p => p.dst = dst.val && p.src = src.val) with
    | none => s
    | some pkt => (State.releaseAll (s.core dst).pbuf.length dst s).portTakes pkt)

/-- PENDING_WRITE_RELEASE (04 R114): the held packet that can proceed leaves. -/
def execPendingWriteRelease (c : CoreIx) (s : State) : Host.Outcome State Fault Refusal :=
  s.clocked (fun s => match s.nextHeld c with
    | some h => s.release c h
    | none => s)

end Sys2Proof.Machine
end

