-- ==== Sys2Proof/Machine/Parterre.lean ====
section
/-! DEFINITION. Machine/Parterre.lean: the matrix array (05 R153 to R155, 06, 07 R192 to R210). -/

namespace Sys2Proof.Machine

/-! ### Elements -/

/-- Codes of `n` packed elements of a format, from bit `off` of the bytes (07 R194). -/
def codesAt (f : Nat) (d : List Byte) (off n : Nat) : List Nat :=
  let b := fmtBits f
  let x := leNat d / 2 ^ off
  (List.range n).map (fun i => x / 2 ^ (i * b) % 2 ^ b)

/-- Codes of `n` elements that start `off` bits after Plot address `a`. -/
def Core.plotCodes (c : Core) (f a off n : Nat) : List Nat :=
  let bs := Mem.read c.plot.bytes (a + off / 8) (cdiv (off % 8 + n * fmtBits f) 8)
  codesAt f bs (off % 8) n

/-- The exact value of a floating element (07 R192). -/
def elemVal (f code : Nat) : FVal := match ffmt f with | some g => g.decode code | none => .nan

/-- The two BF16 parts of an FP32 element (06 R179). -/
def partHi (x : Nat) : FVal :=
  match fp32.decode x with
  | .nan => .nan
  | .inf s => .inf s
  | _ => bf16.decode (x / 65536)

def partLo (x : Nat) : FVal :=
  match fp32.decode x with
  | .fin s m e => bf16.round (FVal.add (.fin s m e) (partHi x).neg)
  | _ => .fin false 0 0

/-- Streamed and stationary values of pass q (06 Table 6-3). -/
def aPart (f q x : Nat) : FVal := if f = 1 then (if q = 1 then partLo x else partHi x) else elemVal f x
def bPart (f q x : Nat) : FVal := if f = 1 then (if q = 2 then partLo x else partHi x) else elemVal f x

/-- The accumulator format of a streamed format (07 Table 7-3). -/
def accFmt (f : Nat) : FFmt := if f = 0 then fp64 else fp32

/-- The sum of a column in row order, each step rounded once (07 R206). -/
def colSum (g : FFmt) : List FVal → FVal
  | [] => .fin false 0 0
  | t :: ts => ts.foldl (fun s x => g.round (FVal.add s x)) (g.round t)

/-- A streamed row: its element codes and the scales of its two blocks (MX formats). -/
structure Row where
  codes : List Nat
  scales : List Nat
deriving DecidableEq, Repr, Inhabited

/-- Column n of a tile as (row index, code). -/
def Tile.col (t : Tile) (n : Nat) : List (Nat × Nat) := (List.range t.k).map (fun k => (k, t.elems.getD (k * t.n + n) 0))

/-- Exact terms of row r and column n in pass q (07 R205). -/
def terms (fa q : Nat) (t : Tile) (r : Row) (n : Nat) : List FVal :=
  (t.col n).map (fun (k, b) =>
    let p := FVal.mul (aPart fa q (r.codes.getD k 0)) (bPart t.fmt q b)
    if fmtMx fa then
      FVal.mul (FVal.mul (mxFactor (r.scales.getD (k / 32) 0)) (mxFactor (t.scales.getD (k / 32 * t.n + n) 0))) p
    else p)

/-- Exact integer column sum (07 R207). -/
def intSum (fa : Nat) (sa : Bool) (t : Tile) (r : Row) (n : Nat) : Int :=
  ((t.col n).map (fun (k, b) => intDecode fa sa (r.codes.getD k 0) * intDecode t.fmt t.sign b)).sum

/-! ### The Cistern (06 R168, R169) -/

def Core.cis (c : Core) (entry col : Nat) : Nat := (Sparse.getD c.par.cistern (128 * entry + col) 0).toNat

def Core.setCis (c : Core) (entry col v : Nat) : Core :=
  { c with par := { c.par with cistern := Sparse.put c.par.cistern (128 * entry + col) (BitVec.ofNat 32 v) } }

/-- What a streaming command does to one column of one entry: the core after it and whether a word saturated (07 R206, R207). `first`: the
command's first pass with ACC = 0 overwrites. -/
def Core.feedCol (c : Core) (fa : Nat) (sa : Bool) (passes : Nat) (acc : Bool) (t : Tile) (r : Row) (entry c0 n : Nat) : Core × Nat :=
  if fmtInt fa then
    let x := intSum fa sa t r n
    let old := if acc then toSigned 32 (c.cis entry (c0 + n)) else 0
    let v := old + x
    let w := clampI i32Min i32Max v
    let c := c.setCis entry (c0 + n) (ofSigned 32 w)
    if v = w then (c, 0) else ({ c with par := { c.par with satFlags := setBit c.par.satFlags (c0 + n) true } }, 1)
  else
    let g := accFmt fa
    let cols := if fa = 0 then (c0 + 2 * n, c0 + 2 * n + 1) else (c0 + n, c0 + n)
    let old := if fa = 0 then c.cis entry cols.1 + c.cis entry cols.2 * 2 ^ 32 else c.cis entry cols.1
    let start : Option FVal := if acc then some (g.decode old) else none
    let res := (List.range passes).foldl (fun (o : Option FVal) q =>
      let x := colSum g (terms fa q t r n)
      match o with
      | none => some x
      | some y => some (g.round (FVal.add y x))) start
    let bitsV := g.encode false (res.getD (.fin false 0 0))
    if fa = 0 then ((c.setCis entry cols.1 (bitsV % 2 ^ 32)).setCis entry cols.2 (bitsV / 2 ^ 32), 0)
    else (c.setCis entry cols.1 bitsV, 0)

/-- Stream rows through a tile into entries from `entry` (06 R167, R172). -/
def Core.feed (c : Core) (fa : Nat) (sa : Bool) (passes : Nat) (acc : Bool) (t : Tile) (c0 : Nat) : List Row → Nat → Core × Nat
  | [], _ => (c, 0)
  | r :: rs, entry =>
    let (c, k) := (List.range t.n).foldl (fun (x : Core × Nat) n =>
      let (c', k') := x.1.feedCol fa sa passes acc t r entry c0 n
      (c', x.2 + k')) (c, 0)
    let (c, k') := Core.feed c fa sa passes acc t c0 rs (entry + 1)
    (c, k + k')

/-! ### Sources -/

/-- Bad lines of a set of Plot ranges are each detected once (09 R254). -/
def State.readCheck (s : State) (n : Nat) (rs : List (Nat × Nat)) : State :=
  let c := s.core n
  if c.plot.chk.isEmpty && c.pint.fenced = 0 && c.pint.broken.isEmpty then s
  else ((rs.flatMap (fun r => linesOf r.1 r.2)).eraseDups).foldl (fun s l =>
    let k := c.lineCond l
    if k = 0 then s else s.plotDetect n (64 * l) k) s

/-- Beds of a command's BEDS field and its bed index. -/
def LongCmd.beds (l : LongCmd) : Nat := bedsOf (l.m 3 2)
def LongCmd.bed (l : LongCmd) : Nat := l.m 1 0
def LongCmd.fmtA (l : LongCmd) : Nat := l.m 7 4
def LongCmd.signA (l : LongCmd) : Bool := l.m 8 8 = 1
def LongCmd.passes (l : LongCmd) : Nat := l.m 11 10

/-- Streamed elements per row (06 R167). -/
def rowElems (f : Nat) : Nat := if f = 0 then 16 else 64

/-- The pixel that output pixel (oh, ow) of a CONV takes at tap (kh, kw), as row and column; none outside the input (06 R183). -/
def convPixel (l : LongCmd) (oh ow kh kw : Nat) : Option (Nat × Nat) :=
  let x1 := l.y1
  let ih : Int := (oh * (bits x1 57 56 + 1) + kh * (bits x1 61 60 + 1) : Nat) - (bits x1 67 64 : Nat)
  let iw : Int := (ow * (bits x1 59 58 + 1) + kw * (bits x1 63 62 + 1) : Nat) - (bits x1 75 72 : Nat)
  if 0 ≤ ih && ih < (bits x1 15 0 : Nat) && 0 ≤ iw && iw < (bits x1 31 16 : Nat) then some (ih.toNat, iw.toNat) else none

/-- The Plot bytes of every pixel that a CONV reads, once each. -/
def convReads (l : LongCmd) : List (Nat × Nat) :=
  let bitsOf := (bits l.y1 37 32 + 1) * fmtBits l.fmtA
  ((List.range (bits l.y2 63 48)).flatMap (fun i => (List.range (convOW l.y1)).flatMap (fun j =>
    (List.range (bits l.y1 51 48)).flatMap (fun kh => (List.range (bits l.y1 55 52)).filterMap (fun kw =>
      (convPixel l (bits l.y2 47 32 + i) j kh kw).map (fun x =>
        let a := l.a + x.1 * bits l.y2 31 0 + x.2 * bitsOf / 8
        (a, l.a + x.1 * bits l.y2 31 0 + cdiv ((x.2 + 1) * bitsOf) 8 - a))))))).eraseDups

/-- Plot ranges a Parterre command reads (05 Table 5-2; 06 R183; 07 R202, R203). -/
def parRanges (l : LongCmd) : List (Nat × Nat) :=
  let f := l.fmtA
  match l.op with
  | 0x40 =>
    let k := l.m 14 9 + 1
    let n := l.m 21 15 + 1
    [(l.a, fmtBytes f (k * n) + (if fmtMx f then k / 32 * n else 0))]
  | 0x41 =>
    let m := bits l.y1 15 0
    let st := bits l.y1 31 16
    let packed := fmtBytes f (rowElems f)
    let rs := if st = 0 then packed else st
    let base := if l.m 9 9 = 0 then (List.range m).map (fun i => (l.a + i * rs, packed))
      else (List.range (rowElems f)).map (fun k => (l.a + k * st, fmtBytes f m))
    if fmtMx f then base ++ [(l.a + (if l.m 9 9 = 0 then m * rs else 64 * st), 2 * m)] else base
  | _ =>
    convReads l ++ [(l.b, fmtBytes f (bits l.y1 51 48 * bits l.y1 55 52 * (bits l.y1 37 32 + 1) * (l.m 21 15 + 1)))]

/-- Rows of a MATMUL (06 R177, R178; 07 R203). -/
def Core.matRows (c : Core) (l : LongCmd) : List Row :=
  let f := l.fmtA
  let m := bits l.y1 15 0
  let st := bits l.y1 31 16
  let e := rowElems f
  let packed := fmtBytes f e
  let rs := if st = 0 then packed else st
  let sc := l.a + (if l.m 9 9 = 0 then m * rs else 64 * st)
  (List.range m).map (fun i =>
    { codes := if l.m 9 9 = 0 then c.plotCodes f (l.a + i * rs) 0 e
        else (List.range e).flatMap (fun k => c.plotCodes f (l.a + k * st) (i * fmtBits f) 1),
      scales := if fmtMx f then (Mem.read c.plot.bytes (sc + 2 * i) 2).map (·.toNat) else [] })

/-- The tile a LOADW reads (05 Table 5-6, 07 R202). -/
def tileOf (l : LongCmd) (d : List Byte) : Tile :=
  let f := l.fmtA
  let k := l.m 14 9 + 1
  let n := l.m 21 15 + 1
  let eb := fmtBytes f (k * n)
  { k := k, n := n, fmt := f, sign := l.signA, elems := codesAt f (d.take eb) 0 (k * n),
    scales := if fmtMx f then ((d.drop eb).take (k / 32 * n)).map (·.toNat) else [] }

/-- The weight tile of tap `tap` of a CONV (06 R182). -/
def Core.tapTile (c : Core) (l : LongCmd) (tap : Nat) : Tile :=
  let f := l.fmtA
  let k := bits l.y1 37 32 + 1
  let n := l.m 21 15 + 1
  { k := k, n := n, fmt := f, sign := l.signA, elems := c.plotCodes f l.b (tap * k * n * fmtBits f) (k * n), scales := [] }

/-- The input row of output pixel (oh, ow) at tap (kh, kw): zeros outside the input (06 R183). -/
def Core.convRow (c : Core) (l : LongCmd) (oh ow kh kw : Nat) : Row :=
  let ch := bits l.y1 37 32 + 1
  match convPixel l oh ow kh kw with
  | some (ih, iw) => { codes := c.plotCodes l.fmtA (l.a + ih * bits l.y2 31 0) (iw * ch * fmtBits l.fmtA) ch, scales := [] }
  | none => { codes := List.replicate ch 0, scales := [] }

/-- Rows of one tap, in the order of the entries (06 R182). -/
def Core.convRows (c : Core) (l : LongCmd) (tap : Nat) : List Row :=
  let kwN := bits l.y1 55 52
  let ow := convOW l.y1
  (List.range (bits l.y2 63 48)).flatMap (fun i =>
    (List.range ow).map (fun j => c.convRow l (bits l.y2 47 32 + i) j (tap / kwN) (tap % kwN)))

/-! ### Start (06 R170, R171; 05 R154, R155) -/

/-- Accepted pairs of formats (07 Table 7-3). -/
def pairOk (fa fb : Nat) : Bool :=
  if fa ≤ 3 then fa = fb
  else if fa ≤ 5 then fb = 4 || fb = 5
  else if fmtMx fa then fmtMx fb
  else (fa = 0xB || fa = 0xC) && (fb = 0xB || fb = 0xC)

def usesLoad (op : Nat) : Bool := op = 0x40 || op = 0x42
def usesStream (op : Nat) : Bool := op = 0x41 || op = 0x42

/-- Cycles for which M rows of a format in P passes are fed (06 R175, Table 6-1). -/
def feedCycles (f m p : Nat) : Nat := if f = 0 then 2 * m else cdiv m (if fmtBits f ≤ 4 then 4 else if fmtBits f ≤ 8 then 2 else 1) * p

/-- Cycles for which a command occupies its paths without conflicts (06 R174, R175, R184). -/
def LongCmd.occupancy (l : LongCmd) : Nat :=
  match l.op with
  | 0x40 => 64
  | 0x41 => feedCycles l.fmtA (bits l.y1 15 0) l.passes + l.m 14 14
  | _ =>
    let f1 := feedCycles l.fmtA (bits l.y2 63 48 * convOW l.y1) l.passes + 1
    64 + bits l.y1 51 48 * bits l.y1 55 52 * max f1 64 - (64 - f1)

/-- Cycles from the last feed to the last Cistern write (06 R175). -/
def LongCmd.drainCycles (l : LongCmd) : Nat := if l.beds = 1 then 104 else if l.beds = 2 then 88 else 80

/-- The cycle from which the next stream command of its bed can start, and the cycle in which a begun command completes (06 R174 to R176). -/
def Running.pathFreeAt (r : Running) : Option Nat := r.begunAt.map (fun b => b + r.cmd.occupancy + r.stalls)
def Running.doneAt (r : Running) : Nat :=
  match r.begunAt with
  | some b => b + r.cmd.occupancy + r.stalls - 1 + (if r.cmd.op = 0x40 then 0 else r.cmd.drainCycles)
  | none => 0

/-- A started command does not stand in the way of command `l` at a cycle (06 R170, R171, R175): another bed, or other paths. A stream path is free
once its rows are fed, a load path once its tile is valid. -/
def Running.clears (r : Running) (l : LongCmd) (at_ : Nat) : Bool :=
  let fed : Bool := match r.pathFreeAt with | some t => decide (t ≤ at_) | none => false
  r.cmd.bed ≠ l.bed || (!(usesLoad r.cmd.op && usesLoad l.op) && (!(usesStream r.cmd.op && usesStream l.op) || fed)
    && !(l.op = 0x41 && l.m 14 14 = 1 && usesLoad r.cmd.op))

/-- The paths a command needs are free at a cycle (06 R170, R171). A new bed count waits for every earlier command. -/
def Core.pathsFree (c : Core) (l : LongCmd) (at_ : Nat) : Bool :=
  if l.beds ≠ c.par.bedCount then c.par.eng.run.isEmpty else c.par.eng.run.all (fun r => r.clears l at_)

/-- The cycle at which the stream path of the command's bed is free, or the present one. -/
def Core.streamFree (c : Core) (l : LongCmd) (now : Nat) : Nat :=
  (c.par.eng.run.filter (fun r => r.cmd.bed = l.bed && usesStream r.cmd.op && usesStream l.op)).foldl (fun a r => max a (r.pathFreeAt.getD a)) now

def Core.bed (c : Core) (b : Nat) : Bed := Sparse.getD c.par.beds b {}
def Core.setBed (c : Core) (b : Nat) (v : Bed) : Core := { c with par := { c.par with beds := Sparse.put c.par.beds b v } }

/-- The check of a command at engine start (05 R154, 07 R200). -/
def Core.parIllegal (c : Core) (l : LongCmd) : Bool :=
  let b := c.bed l.bed
  let passBad := l.passes ≠ 1 && l.fmtA ≠ 1
  match l.op with
  | 0x41 => match (if l.m 14 14 = 1 then b.standby else b.active) with
    | some t => !pairOk l.fmtA t.fmt || passBad
    | none => true
  | 0x42 => passBad
  | _ => false

/-- First column of a bed (06 R168). -/
def LongCmd.c0 (l : LongCmd) : Nat := l.bed * 128 / l.beds

/-- A MATMUL: swap, then its rows (06 R167, R175). -/
def Core.matmul (c : Core) (l : LongCmd) : Core × Nat :=
  let b := c.bed l.bed
  let c := if l.m 14 14 = 1 then c.setBed l.bed { active := b.standby, standby := none } else c
  match (c.bed l.bed).active with
  | some t => c.feed l.fmtA l.signA l.passes (l.m 13 12 = 1) t l.c0 (c.matRows l) l.c
  | none => (c, 0)

/-- A CONV: tap by tap; the first takes the command's ACC, the others add; the last tile stays active (06 R182, R184). -/
def Core.conv (c : Core) (l : LongCmd) : Core × Nat :=
  let taps := bits l.y1 51 48 * bits l.y1 55 52
  let r := (List.range taps).foldl (fun (x : Core × Nat) tap =>
    let t := c.tapTile l tap
    let (c', k) := x.1.feed l.fmtA l.signA l.passes (tap ≠ 0 || l.m 13 12 = 1) t l.c0 (c.convRows l tap) l.c
    (c', x.2 + k)) (c, 0)
  (r.1.setBed l.bed { active := some (c.tapTile l (taps - 1)), standby := none }, r.2)

/-- The command reads its operands and works, once every tagged slot it reads is FULL (04 R112). A LOADW keeps its bytes until its tile is
valid (06 R174). -/
def State.parterreBegin (s : State) (n : Nat) (l : LongCmd) : State :=
  let rs := parRanges l
  if rs.any (fun r => (s.core n).readBlocked r.1 r.2) then
    s.updRun n .parterre l.id (fun r => { r with held := true, tagSince := some (r.tagSince.getD s.cyc.cycles) })
  else
    let s := (s.readCheck n rs).beginRun n .parterre l 0x14
    let c := s.core n
    match l.op with
    | 0x40 =>
      let d := (rs.map (fun r => c.plotBytes r.1 r.2)).flatten
      s.updRun n .parterre l.id (fun r => { r with buf := [{ rid := none, len := d.length, data := d }] })
    | 0x41 =>
      let (c, k) := c.matmul l
      (s.setCore n c).updRun n .parterre l.id (fun r => { r with sat := k })
    | _ =>
      let (c, k) := c.conv l
      (s.setCore n c).updRun n .parterre l.id (fun r => { r with sat := k })

/-- PARTERRE_START (06 R170, R175): the first command of the queue starts when its paths are free; a new bed count clears every tile. `stalls` are the
cycles for which bank conflicts hold its feed up (R176). -/
def State.parterreStart (s : State) (n stalls : Nat) : State :=
  match (s.core n).par.eng.queue with
  | [] => s
  | l :: rest =>
    let at_ := (s.core n).streamFree l s.cyc.cycles
    if !(s.core n).engineGo || !(s.core n).pathsFree l at_ then s
    else
      let s := s.elapseCycles (at_ - s.cyc.cycles)
      let c := s.core n
      let c := if l.beds ≠ c.par.bedCount then { c with par := { c.par with bedCount := l.beds, beds := [] } } else c
      let c := { c with par := { c.par with eng := { c.par.eng with queue := rest } } }
      if c.parIllegal l then (s.setCore n c).coreFault n l.strm l.addr illegalOp
      else
        ((s.setCore n { c with par := { c.par with eng := { c.par.eng with run := c.par.eng.run ++ [{ cmd := l, stalls := stalls }] } } }).disturbCal).parterreBegin n l

def execParterreStart (c : CoreIx) (stalls : Nat) (s : State) : Host.Outcome State Fault Refusal := s.clocked (fun s => s.parterreStart c stalls)

/-- The begun command that completes first; of those of one cycle, the first that started. -/
def Core.parNext (c : Core) : Option Running :=
  match c.par.eng.run.filter (fun r => !r.held) with
  | [] => none
  | r :: rs => some (rs.foldl (fun a b => if b.doneAt < a.doneAt then b else a) r)

/-- LONG_COMMAND_COMPLETE of a Parterre command (06 R174, R175, R184; 07 R210): of the commands on the paths, the one whose last write is visible
first. -/
def State.parterreComplete (s : State) (n : Nat) : State :=
  match (s.core n).parNext with
  | none => s
  | some r =>
    let s := s.elapseCycles (r.doneAt - s.cyc.cycles)
    let l := r.cmd
    let s := if l.op = 0x40 then
        s.updCore n (fun c => c.setBed l.bed { c.bed l.bed with standby := some (tileOf l (rawBytes (readyBytes r.buf))) })
      else if fmtInt l.fmtA then
        let k := min r.sat 0xFFFFFFFF
        (s.updCore n (fun c => { c with par := { c.par with satCount := Sparse.put c.par.satCount l.bed k } })).tallyAdd 0x16 n r.sat
      else s
    s.retire n .parterre r

end Sys2Proof.Machine
end

