-- ==== Sys2Proof/Machine/Trellis.lean ====
section
/-! DEFINITION. Machine/Trellis.lean: the vector engine (08). -/

namespace Sys2Proof.Machine

/-! ### Writes of an engine into its own Plot -/

/-- A piece of less than a slot becomes visible in a slot of a TAGGED window, which the command writes whole (22 R594): the slot becomes FULL
with the last of its bytes (04 R112). -/
def State.arrivePart (s : State) (n : Nat) (e : Eng) (id a : Nat) (d : List PByte) (cnt : Option Nat) : State :=
  let sl := a / 256
  let had := match (s.core n).runOf e id with | some r => Sparse.getD r.slots sl 0 | none => 0
  let now_ := had + d.length
  let s := s.plotPut n a d
  let s := s.updRun n e id (fun r => { r with slots := if 256 ≤ now_ then Sparse.del r.slots sl else Sparse.put r.slots sl now_ })
  let s := if 256 ≤ now_ then s.updCore n (fun c => c.setTag sl true) else s
  match cnt with
  | some k => s.cntAdd n k 1
  | none => s

/-- Write the pieces of a started command of engine e into the own Plot, in order, as far as tags allow (04 R112). -/
def State.ownLoop : Nat → Nat → Eng → Nat → State → State
  | 0, _, _, _, s => s
  | fuel + 1, n, e, id, s =>
    match (s.core n).runOf e id with
    | none => s
    | some r =>
      match r.dsts with
      | .plot _ a k aow cnt :: rest =>
        let ready := readyBytes r.buf
        if r.held || r.wtagSince.isSome || ready.length < k then s
        else if (s.core n).writeBlocked a k then s.updRun n e id (fun r => { r with wtagSince := some s.cyc.cycles })
        else
          let s := if decide (k < 256) && (s.core n).tagged (a / 256) then s.arrivePart n e id a (s.outgoing n (ready.take k)) cnt
            else s.arrive n a (s.outgoing n (ready.take k)) aow cnt
          State.ownLoop fuel n e id (s.updRun n e id (fun r => { r with dsts := rest, buf := dropBytes r.buf k }))
      | _ => s

/-- The command `id` of engine e goes on writing. -/
def State.pumpOwn (s : State) (n : Nat) (e : Eng) (id : Nat) : State :=
  match (s.core n).runOf e id with
  | some r => State.ownLoop (r.dsts.length + 1) n e id s
  | none => s

/-! ### Values -/

/-- A Trellis value: its exact value, whether poison reached it, and the clamps of INT32 compute that made it. -/
structure TV where
  v : FVal
  p : Bool := false
  k : Nat := 0
deriving DecidableEq, Repr, Inhabited

/-- Format of the compute type (08 R222): 0 FP64, 1 FP32. -/
def ctFmt (ct : Nat) : FFmt := if ct = 0 then fp64 else fp32

/-- An element converted into the compute type (08 R222): exact but for INT32 into FP32. Integer operands are signed (07 R193). -/
def toCompute (ct f code : Nat) : FVal :=
  if fmtInt f then
    let v := FVal.ofInt (intDecode f true code)
    if ct = 2 then v else (ctFmt ct).round v
  else elemVal f code

/-- Some byte of element i of `b` bits is poisoned. -/
def elemPoison (d : List PByte) (b i : Nat) : Bool := anyPoison ((d.drop (i * b / 8)).take (((i + 1) * b + 7) / 8 - i * b / 8))

/-- Load `n` elements of a Plot operand; an MX operand has its scales after its elements (08 R226). -/
def Core.trLoad (c : Core) (ct f a n : Nat) : List TV :=
  let d := c.plotBytes a (trellisBytes f n)
  let eb := fmtBytes f n
  let codes := codesAt f (rawBytes (d.take eb)) 0 n
  codes.zipIdx.map (fun (x, i) =>
    let p := elemPoison d (fmtBits f) i
    if fmtMx f then
      let sc := d.getD (eb + i / 32) (0, false)
      { v := FVal.mul (mxFactor sc.1.toNat) (elemVal f x), p := p || sc.2 }
    else { v := toCompute ct f x, p := p })

/-- Load elements of a Cistern operand (08 R228). -/
def Core.trCistern (c : Core) (ct f a n : Nat) : List TV :=
  (List.range n).map (fun i =>
    let code := if f = 0 then c.cis (a + i / 64) (2 * (i % 64)) + c.cis (a + i / 64) (2 * (i % 64) + 1) * 2 ^ 32 else c.cis (a + i / 128) (i % 128)
    { v := toCompute ct f code })

/-- Bytes of packed codes of `b` bits, with the poison of their elements (07 R194). -/
def packCodes (b : Nat) (xs : List (Nat × Bool)) : List PByte :=
  let total := (xs.foldr (fun x a => x.1 + a * 2 ^ b) 0)
  (leBytes (cdiv (xs.length * b) 8) total).zipIdx.map (fun (y, i) =>
    (y, (xs.drop (8 * i / b)).take ((8 * i + 7) / b + 1 - 8 * i / b) |>.any (·.2)))

/-- Cut a list into blocks of 32. -/
def blocks32 {α : Type} : Nat → List α → List (List α)
  | 0, _ => []
  | k + 1, l => l.take 32 :: blocks32 k (l.drop 32)

/-- Results stored in FMT_D (07 R198, R199; 08 R222, R226). A poisoned MX block is poisoned whole, with its scale. -/
def trStore (f : Nat) (xs : List TV) : List PByte :=
  if fmtMx f then
    let bs := (blocks32 (xs.length / 32) xs).map (fun b => let (es, sc) := mxEncode f (b.map (·.v)); (es, sc, b.any (·.p)))
    packCodes (fmtBits f) (bs.flatMap (fun (es, _, p) => es.map (fun e => (e, p))))
      ++ bs.map (fun (_, sc, p) => (BitVec.ofNat 8 sc, p))
  else packCodes (fmtBits f) (xs.map (fun x => (storeFmt f x.v, x.p)))

/-- Clamp an exact integer result (08 R225). -/
def clampTV (v : Int) (p : Bool) (k : Nat) : TV :=
  let w := clampI i32Min i32Max v
  { v := FVal.ofInt w, p := p, k := k + b2n (v ≠ w) }

/-! ### VECOP (08 R224, R225) -/

/-- Exact floating result of a VECOP before its one rounding. -/
def fpOp (op : Nat) (a b d : FVal) : FVal :=
  match op with
  | 0 => FVal.add a b
  | 1 => FVal.add a b.neg
  | 2 => FVal.mul a b
  | 3 => FVal.add (FVal.mul a b) d
  | 4 => FVal.min a b
  | 5 => FVal.max a b
  | 6 => match a with | .fin _ m e => .fin false m e | .inf _ => .inf false | .nan => .nan
  | 7 => a.neg
  | _ => a

/-- Exact integer result of a VECOP. -/
def intOp (op : Nat) (a b d : Int) : Int :=
  match op with
  | 0 => a + b
  | 1 => a - b
  | 2 => a * b
  | 3 => a * b + d
  | 4 => if b < a then b else a
  | 5 => if a < b then b else a
  | 6 => a.natAbs
  | 7 => -a
  | _ => a

/-- One element of a VECOP. -/
def vecElem (ct op : Nat) (a b d : TV) : TV :=
  let p := a.p || (twoOperand op && b.p) || (op = 3 && d.p)
  if ct = 2 then clampTV (intOp op a.v.toInt b.v.toInt d.v.toInt) p 0
  else if specialOp op then { v := fp32.decode (specialFn op (fp32.encode false a.v)), p := p }
  else { v := (ctFmt ct).round (fpOp op a.v b.v d.v), p := p }

/-- A started VECOP or REDUCE as its decoded fields. -/
def LongCmd.dec (l : LongCmd) : Dec :=
  { op := l.op, addr := l.addr, w := l.w, x1 := l.y1, x2 := l.y2, a := l.a, b := l.b, c := l.c, d1 := l.desc1, d2 := l.desc2 }

/-- Results of a VECOP. -/
def Core.vecop (c : Core) (l : LongCmd) : List TV :=
  let op := l.m 5 0
  let n := bits l.y1 31 0
  let fb := l.m 13 10
  let ct := computeType (trellisFmts l.dec)
  let xs := if l.m 18 18 = 1 then c.trCistern ct (l.m 9 6) l.a n else c.trLoad ct (l.m 9 6) l.a n
  let ys := if !twoOperand op then [] else if l.m 19 19 = 1 then [({ v := toCompute ct fb l.b } : TV)] else c.trLoad ct fb l.b n
  let ds := if op = 3 then c.trLoad ct (l.m 17 14) l.c n else []
  let zero : TV := { v := .fin false 0 0 }
  xs.zipIdx.map (fun (a, i) => vecElem ct op a (if l.m 19 19 = 1 then ys.getD 0 zero else ys.getD i zero) (ds.getD i zero))

/-! ### REDUCE (08 R229 to R233) -/

/-- One level of the tree: value 2j with value 2j + 1, an unpaired one passes up (08 R230). -/
def pairUp (f : TV → TV → TV) : List TV → List TV
  | a :: b :: rest => f a b :: pairUp f rest
  | l => l

def levels (f : TV → TV → TV) : Nat → List TV → List TV
  | 0, l => l
  | k + 1, l => levels f k (pairUp f l)

/-- The tree of a reduction (08 R230): lane j starts with `ini` of its first element and takes the others by `step`; lanes combine by `comb`. -/
def treeOf (lanes lv : Nat) (ini : TV → TV) (step comb : TV → TV → TV) (xs : List TV) : TV :=
  let lane := fun j =>
    match ((List.range ((xs.length + lanes - 1 - j) / lanes)).map (fun q => xs.getD (q * lanes + j) { v := .nan })) with
    | x :: rest => rest.foldl step (ini x)
    | [] => { v := .nan }
  (levels comb lv ((List.range (min lanes xs.length)).map lane)).getD 0 { v := .fin false 0 0 }

/-- Lanes and levels of a compute type (08 R230). -/
def laneCount (ct : Nat) : Nat × Nat := if ct = 0 then (64, 6) else (256, 8)

/-- Combining functions of a reduction over the compute type. -/
def addTV (ct : Nat) (a b : TV) : TV :=
  if ct = 2 then clampTV (a.v.toInt + b.v.toInt) (a.p || b.p) (a.k + b.k)
  else { v := (ctFmt ct).round (FVal.add a.v b.v), p := a.p || b.p }

def sqAddTV (ct : Nat) (s a : TV) : TV :=
  if ct = 2 then clampTV (s.v.toInt + a.v.toInt * a.v.toInt) (s.p || a.p) (s.k + a.k)
  else { v := (ctFmt ct).round (FVal.add s.v (FVal.mul a.v a.v)), p := s.p || a.p }

def sqTV (ct : Nat) (a : TV) : TV :=
  if ct = 2 then clampTV (a.v.toInt * a.v.toInt) a.p a.k else { v := (ctFmt ct).round (FVal.mul a.v a.v), p := a.p }

def maxTV (a b : TV) : TV := { v := FVal.max a.v b.v, p := a.p || b.p }
def minTV (a b : TV) : TV := { v := FVal.min a.v b.v, p := a.p || b.p }

/-- A reduction 0x20 to 0x23 over one source. -/
def reduceTree (ct op : Nat) (xs : List TV) : TV :=
  let (ln, lv) := laneCount ct
  match op with
  | 0x20 => treeOf ln lv (fun a => a) (addTV ct) (addTV ct) xs
  | 0x21 => treeOf ln lv (fun a => a) maxTV maxTV xs
  | 0x22 => treeOf ln lv (fun a => a) minTV minTV xs
  | _ => treeOf ln lv (sqTV ct) (sqAddTV ct) (addTV ct) xs

/-- ARGMAX (08 R230): the lowest index of a NaN, else of the largest elements; the second part counts the equal ones. -/
def argmax (xs : List TV) : Nat × Nat :=
  let nans := (xs.zipIdx.filter (fun (x, _) => x.v.isNan)).map (·.2)
  match nans with
  | i :: _ => (i, nans.length)
  | [] =>
    let best := xs.tail.foldl (fun b x => if b.lt x.v then x.v else b) ((xs.map (·.v)).getD 0 .nan)
    let eqs := (xs.zipIdx.filter (fun (x, _) => !(x.v.lt best) && !(best.lt x.v))).map (·.2)
    (eqs.getD 0 0, eqs.length)

/-- A value divided by n, rounded once into FP32 (08 R232). -/
def divNat (v : FVal) (n : Nat) : FVal :=
  match v with
  | .fin s m e =>
    let q := m * 2 ^ 96 / n
    fp32.round (.fin s (2 * q + b2n (m * 2 ^ 96 % n ≠ 0)) (e - 97))
  | x => x

/-- A special function on a value of FP32. -/
def special32 (op : Nat) (v : FVal) : FVal := fp32.decode (specialFn op (fp32.encode false v))

/-- Row primitives (08 Table 8-4): the results and whether the row was empty (08 R234). -/
def rowPrim (op : Nat) (xs : List TV) : List TV × Bool :=
  let p := xs.any (·.p)
  let n := xs.length
  let rnd := fp32.round
  let eps : FVal := .fin false 1 (-20)
  let put := fun (vs : List FVal) => vs.map (fun v => ({ v := v, p := p } : TV))
  match op with
  | 0x28 =>
    if xs.all (fun x => x.v = .inf true) then (put (xs.map (fun _ => .fin false 0 0)), true)
    else
      let m := (reduceTree 1 0x21 xs).v
      let es := xs.map (fun x => special32 0x15 (rnd (FVal.add x.v m.neg)))
      let r := special32 0x12 (reduceTree 1 0x20 (es.map (fun v => { v := v }))).v
      (put (es.map (fun v => rnd (FVal.mul v r))), false)
  | 0x29 =>
    let v := divNat (reduceTree 1 0x23 xs).v n
    let r := special32 0x13 (rnd (FVal.add v eps))
    (put (xs.map (fun x => rnd (FVal.mul x.v r))), false)
  | _ =>
    let mu := divNat (reduceTree 1 0x20 xs).v n
    let cs := xs.map (fun x => rnd (FVal.add x.v mu.neg))
    let v := divNat (reduceTree 1 0x23 (cs.map (fun v => { v := v }))).v n
    let r := special32 0x13 (rnd (FVal.add v eps))
    (put (cs.map (fun v => rnd (FVal.mul v r))), false)

/-- What a Trellis command computes: its bytes, clamps, equal-largest matches, and empty rows. -/
structure TrOut where
  bytes : List PByte
  clamps : Nat
  matches_ : Nat
  empty : Nat
deriving DecidableEq, Repr, Inhabited

/-- Results of a REDUCE. -/
def Core.reduce (c : Core) (l : LongCmd) : TrOut :=
  let op := l.m 5 0
  let fa := l.m 9 6
  let fd := l.m 13 10
  let inner := bits l.y1 31 0
  let outer := bits l.y1 63 32
  let ct := computeType (trellisFmts l.dec)
  let rows := (List.range outer).map (fun o => c.trLoad ct fa (l.a + fmtBytes fa (o * inner)) inner)
  if inner = 0 || outer = 0 then { bytes := [], clamps := 0, matches_ := 0, empty := 0 }
  else if op = 0x24 then
    let rs := rows.map (fun xs => (argmax xs, xs.any (·.p)))
    { bytes := trStore 0xD (rs.map (fun (x, p) => { v := FVal.ofInt x.1, p := p })), clamps := 0,
      matches_ := (rs.filter (fun (x, _) => decide (1 < x.2))).length, empty := 0 }
  else if rowPrimitive op then
    let rs := rows.map (rowPrim op)
    { bytes := trStore fd (rs.flatMap (·.1)), clamps := 0, matches_ := 0, empty := (rs.filter (·.2)).length }
  else
    let rs := rows.map (reduceTree ct op)
    { bytes := trStore fd rs, clamps := (rs.map (·.k)).sum, matches_ := 0, empty := 0 }

/-- Results of a Trellis command. -/
def Core.trellis (c : Core) (l : LongCmd) : TrOut :=
  if l.op = 0x50 then
    let xs := c.vecop l
    { bytes := trStore (l.m 17 14) xs, clamps := (xs.map (·.k)).sum, matches_ := 0, empty := 0 }
  else c.reduce l

/-- Plot ranges a Trellis command reads (05 Table 5-2, 08 R224). -/
def trRanges (l : LongCmd) : List (Nat × Nat) :=
  let k := trellisCheck l.dec
  (k.rngs.filter (fun r => !r.cistern && (!r.write || (l.op = 0x50 && l.m 5 0 = 3)))).map (fun r => (r.lo, r.len))

/-- The command reads its operands once their tagged slots are FULL, computes, and writes its result (04 R112). -/
def State.trellisBegin (s : State) (n : Nat) (l : LongCmd) : State :=
  let rs := trRanges l
  if rs.any (fun r => (s.core n).readBlocked r.1 r.2) then
    s.updRun n .trellis l.id (fun r => { r with held := true, tagSince := some (r.tagSince.getD s.cyc.cycles) })
  else
    let s := (s.readCheck n rs).beginRun n .trellis l 0x15
    let o := (s.core n).trellis l
    let s := if o.clamps = 0 then s else s.tallyAdd 0x17 n o.clamps
    let s := if o.empty = 0 then s else s.tallyAdd 0x18 n o.empty
    let s := if o.matches_ = 0 then s else s.tallyPav 0x20 (s.owner n) o.matches_
    let s := s.updRun n .trellis l.id (fun r =>
      { r with buf := [{ rid := none, len := o.bytes.length, data := o.bytes }],
               dsts := plotDsts n l.c o.bytes.length 0 l.cnt })
    s.pumpOwn n .trellis l.id

/-- TRELLIS_START (08 R231): the next command of the queue starts. `stalls` are the cycles for which bank conflicts hold its operands up (R223). -/
def State.trellisStart (s : State) (n stalls : Nat) : State :=
  let c := s.core n
  match c.tre.queue with
  | [] => s
  | l :: rest =>
    if !c.tre.run.isEmpty || !c.engineGo then s
    else
      ((s.setCore n { c with tre := { queue := rest, run := [{ cmd := l, stalls := stalls }] } }).disturbCal).trellisBegin n l

def execTrellisStart (c : CoreIx) (stalls : Nat) (s : State) : Host.Outcome State Fault Refusal := s.clocked (fun s => s.trellisStart c stalls)

/-- LONG_COMMAND_COMPLETE of a Trellis command. -/
def State.trellisComplete (s : State) (n : Nat) : State :=
  match (s.core n).tre.run with
  | r :: _ => if r.finished then s.retire n .trellis r else s
  | [] => s

end Sys2Proof.Machine
end

