-- ==== Sys2Proof/Machine/CoreEvents.lean ====
section
/-! DEFINITION. Machine/CoreEvents.lean: start requests and the ends of a list, the drains of a fault and of a halt, tag time-outs, core
fences (04 R101, R102, R114, R120; 15 R418, R419; 18 R509; 21 R574). -/

namespace Sys2Proof.Machine

/-! ### Fencing a core (18 R509) -/

/-- Fence core n for a reason of record 0x0051: 0 Checkmate, 1 bank, 2 request. A core already fenced, or disabled at shipment, stays. -/
def State.fenceCore (s : State) (n reason : Nat) : State :=
  let c := s.core n
  if c.fence.st = 2 || coreShipped n then s
  else
    let s := s.setCore n { c with fence := { c.fence with st := 2, run := .none }, ctl := { c.ctl with st := .fenced, drain := .none } }
    let s := s.logRec 0x0051 n 3 (s.owner n) reason
    let s := s.raise 0 1
    ({ s with integ := { s.integ with storePending := true } }).syncChip

/-- A core whose CORE_STATE has left RUN and HALTED is fenced if it is SUSPECT, or if a bank of it is fenced (18 R509). -/
def State.settle (s : State) (n : Nat) : State :=
  let c := s.core n
  if c.ctl.st = .run || c.ctl.st = .halted then s
  else if c.pint.fenced ≠ 0 && c.pint.suspects.isEmpty then s.fenceCore n 1
  else if c.fence.st = 1 then s.fenceCore n c.fence.reason
  else s

/-! ### Start requests (04 R101, 15 R418, R419) -/

/-- A stream at the start of a list. -/
def StreamSt.fresh (present : Bool) (pc : Nat) : StreamSt := { present := present, pc := pc }

/-- A core starts a list (04 R101, R119; 09 R255; 10 R295): CORE_STATE becomes RUN with the step open; MEM_FAULT is cleared and later
writes carry no poison. Scalar registers, CORE_FAULT and DBG_REASON keep their values. -/
def Core.startList (c : Core) (split : Bool) (a b : Nat) : Core :=
  { c with ctl := { c.ctl with st := .run, drain := .none, split := split, stepState := 0, poisoning := false },
           sa := StreamSt.fresh true a, sx := StreamSt.fresh split b,
           map := { c.map with memFault := 0, memFaults := 0 },
           dbg := { c.dbg with single := false } }

/-- Start core n; a COUNTER breakpoint whose condition already holds matches. -/
def State.startCore (s : State) (n : Nat) (split : Bool) (a b : Nat) : State :=
  (s.updCore n (fun c => c.startList split a b)).checkCntBps n

/-- The first reason of 15 R418 for which Pavilion p's start request is refused, 0 where it is accepted. -/
def State.startReason (s : State) (p n : Nat) (reserved split : Bool) (a b : Nat) : Nat :=
  let c := s.core n
  let v := s.pav p
  if reserved || a % 16 ≠ 0 || b % 16 ≠ 0 || plotSize ≤ a || plotSize ≤ b || (!split && b ≠ 0) then 1
  else if s.owner n ≠ some p || v.st = .free then 2
  else if c.fence.st = 2 || c.ctl.st = .fenced || coreShipped n then 3
  else if v.st = .resetting || v.st = .destroying || c.fence.coreReset || c.ctl.drain = .reset then 4
  else if c.ctl.st = .run || c.ctl.st = .halted || c.ctl.drain = .fault then 5
  else 0

/-- Record a refusal (15 R419): the core, the reason, one more in the count, and LIST_REFUSED. -/
def State.refuseStart (s : State) (p n reason : Nat) : State :=
  let s := s.updFn (p + 1) (fun f =>
    { f with dbRefusal := n % 256 + reason * 256 + min 0xFFFF (bits f.dbRefusal 31 16 + 1) * 65536 })
  s.raiseVf p 1

/-- A start request of Pavilion p reaches core n (04 R101). -/
def State.startRequest (s : State) (p n : Nat) (reserved split : Bool) (a b : Nat) : State :=
  let r := s.startReason p n reserved split a b
  if r = 0 then s.startCore n split a b else s.refuseStart p n r

/-- START_REQUEST: the request of the Pavilion that owns the core; one that no Pavilion owns has no requester, and nothing happens. -/
def execStartRequest (c : CoreIx) (split : Bool) (a b : Nat) (s : State) : Host.Outcome State Fault Refusal :=
  s.clocked (fun s => match s.owner c with
    | some p => s.startRequest p c false split a b
    | none => s)

/-! ### END (04 R102, 05 R144, Table 5-3) -/

/-- The whole list has ended: IDLE. -/
def Core.goIdle (c : Core) : Core :=
  { c with ctl := { c.ctl with st := .idle, drain := .none }, sa := { c.sa with present := false, wait := .none },
           sx := { c.sx with present := false, wait := .none }, dbg := { c.dbg with single := false } }

/-- LIST_DONE of core n (15 Table 15-5): the cause and the bit of LIST_DONE_MAP. -/
def State.listDone (s : State) (n : Nat) : State :=
  match s.owner n with
  | some p => (s.updFn (p + 1) (fun f => { f with listMap := setBit f.listMap n true })).raiseVf p 0
  | none => s

/-- The list of core n has ended in every stream: it notifies, and chains or goes IDLE. A single step halts before the new list. -/
def State.listEnd (s : State) (n : Nat) (chain chainSplit notify : Bool) (a b : Nat) : State :=
  let single := (s.core n).dbg.single
  let s := if chain then s.updCore n (·.goIdle) else (s.updCore n (·.goIdle)).settle n
  let s := if notify then s.listDone n else s
  if chain then
    let s := s.startCore n chainSplit a (if chainSplit then b else 0)
    if single then s.halt n haltSingle 0 else s
  else s

/-- Where every earlier command of the stream has completed its END completes. In SPLIT the first stream to end waits for the other; the
chain is the access stream's. -/
def State.tryEnd (s : State) (n : Nat) (t : Strm) : State :=
  let k := s.core n
  match (k.strm t).wait with
  | .endw chain chainSplit notify a b =>
    if k.live t && (k.flightsOf t).isEmpty then
      let other := match t with | .access => k.sx | .exec => k.sa
      match other.wait with
      | .ended ch cs no a' b' =>
        match t with
        | .access => s.listEnd n chain chainSplit (notify || no) a b
        | .exec => s.listEnd n ch cs (notify || no) a' b'
      | _ =>
        if k.ctl.split then (s.setWait n t (.ended chain chainSplit notify a b)).wordDone n t
        else s.listEnd n chain chainSplit notify a b
    else s
  | _ => s

/-- END: the words past it are discarded, and the stream waits for its earlier commands, where there are any (04 R102, R124). -/
def execEndCmd (c : CoreIx) (t : Strm) (s : State) : Host.Outcome State Fault Refusal :=
  .next (s.issue c t 0x01 fun s d ext => s.issueControl c t d ext fun s =>
    let s := (s.discard c t d.addr).setWait c t
      (.endw (d.m 0 0 = 1) (d.m 0 0 = 1 && d.m 1 1 = 1) (d.m 2 2 = 1) d.a d.b)
    if ((s.core c).flightsOf t).isEmpty then s.tryEnd c t else s.wordDone c t)

/-- END_COMPLETE: every earlier command of the stream has completed. -/
def execEndComplete (c : CoreIx) (t : Strm) (s : State) : Host.Outcome State Fault Refusal := s.clocked (fun s => s.tryEnd c t)

/-! ### Drains (04 R120, 06 R189, 21 R574) -/

/-- No started command is left in any engine. -/
def Core.drained (c : Core) : Bool := c.started.isEmpty

/-- Commands still in a queue do not start under R120 (06 R189). -/
def Core.dropQueues (c : Core) : Core :=
  { c with mover := { c.mover with queue := [] }, dice := { c.dice with queue := [] }, rot := { c.rot with queue := [] },
           par := { c.par with eng := { c.par.eng with queue := [] } }, tre := { c.tre with queue := [] } }

/-- A REGION that waited for an access when its core stopped takes effect once the access has ended (04 R129). -/
def Core.lateRegion (t : Strm) (c : Core) : Core :=
  match (c.strm t).wait with
  | .region w en full tg b z => let c := c.region w en full tg b z; c.setStrm t { c.strm t with wait := .none }
  | _ => c

/-- The core becomes FAULTED (04 R120; 09 R258): STEP_FAILED is raised for a Plot error, and a core that must be fenced is. -/
def State.becomeFaulted (s : State) (n : Nat) : State :=
  let c := ((s.core n).lateRegion .access).lateRegion .exec
  let failed := c.pint.stepFailed
  let s := s.setCore n { c with ctl := { c.ctl with st := .faulted, drain := .none }, pint := { c.pint with stepFailed := false },
                                dbg := { c.dbg with single := false } }
  (if failed then s.raiseCore n 3 else s).settle n

/-- CORE_DRAIN_COMPLETE (04 R120): the started commands have completed. A core with banks to classify becomes FAULTED when they are done
(09 R258). -/
def execCoreDrainComplete (c : CoreIx) (s : State) : Host.Outcome State Fault Refusal :=
  s.clocked (fun s =>
    let k := s.core c
    if k.ctl.drain = .fault && k.drained then
      let s := s.setCore c k.dropQueues
      if k.pint.suspects.isEmpty then s.becomeFaulted c else s
    else s)

/-- HALT_DRAIN_COMPLETE (21 R574, R575, R584): every issued command has completed; HALTED, DBG_HALT_ADDR, the HALT record and cause. -/
def execHaltDrainComplete (c : CoreIx) (s : State) : Host.Outcome State Fault Refusal :=
  s.clocked (fun s =>
    let k := s.core c
    if k.ctl.drain = .halt && k.flights.isEmpty then
      let addr := if k.ctl.split then k.sa.pc * 2 ^ 32 + k.sx.pc else k.sa.pc
      let s := s.setCore c { k with ctl := { k.ctl with st := .halted, drain := .none }, dbg := { k.dbg with haltAddr := addr } }
      (s.logCoreS 0x0070 c 0 k.dbg.reason k.dbg.haltStepped).raiseCore c 8
    else s)

/-! ### Tag time-outs (04 R114) -/

/-- The held packet of source n that waits for a tag, oldest of its source, and its destination. -/
def State.heldOf (s : State) (n : Nat) : Option (Nat × HeldPacket) :=
  s.cores.findSome? (fun r => ((oldestHeld r.2.pbuf).find? (fun h => h.pkt.src = n && r.2.packetHeld h.pkt)).map (fun h => (r.1, h)))

/-- Cycles until a wait that began at `since` is longer than the limit. -/
def untilLimit (now since limit : Nat) : Nat := since + limit + 1 - now

/-- The stream whose stalled word of engine e waits for the tag of its descriptor, since when, and the word's address. -/
def Core.tagStallOf (c : Core) (e : Eng) : Option (Strm × Nat × Nat) :=
  [Strm.access, .exec].findSome? (fun t =>
    let st := c.strm t
    match st.tagStall, (c.fetch t).1 with
    | some since, .word d _ => if c.live t && (shapeOf d.op).bind (·.eng) = some e then some (t, since, st.pc) else none
    | _, _ => none)

/-- TAG_TIMEOUT: a tagged access of engine e of core c, or of the issue of a word for it, or a write of its mover held at another core, has
waited longer than TAG_LIMIT: the fault falls on core c, and the access ends. -/
def execTagTimeout (c : CoreIx) (e : Eng) (s : State) : Host.Outcome State Fault Refusal :=
  s.clocked (fun s =>
    let limit := s.obj (0x2000 + c) 8
    let run := ((s.core c).eng e).run
    match run.findSome? (fun r => (r.tagSince.orElse (fun _ => r.wtagSince)).map (fun t => (t, r.cmd))) with
    | some (since, l) =>
      let s := s.elapseCycles (untilLimit s.cyc.cycles since limit)
      if s.cyc.cycles ≤ since + limit then s
      else
        let s := s.updCore c (fun k => k.setEng e { k.eng e with run := (k.eng e).run.filter (fun r => r.cmd.id ≠ l.id) })
        s.coreFault c l.strm l.addr tagTimeout
    | none =>
      match (s.core c).tagStallOf e with
      | some (t, since, addr) =>
        let s := s.elapseCycles (untilLimit s.cyc.cycles since limit)
        if s.cyc.cycles ≤ since + limit then s else s.coreFault c t addr tagTimeout
      | none =>
      if e ≠ .mover then s
      else
        match s.heldOf c with
        | some (d, h) =>
          let s := s.elapseCycles (untilLimit s.cyc.cycles h.since limit)
          if s.cyc.cycles ≤ h.since + limit then s
          else
            let s := s.updCore d (fun k => { k with pbuf := k.pbuf.filter (fun x => x.pkt.id ≠ h.pkt.id) })
            let s := s.refusePacket h.pkt tagTimeout
            s.writeDone h.pkt.src h.pkt.cmd
        | none => s)

end Sys2Proof.Machine
end

