-- ==== Sys2Proof/Machine/PlotEvents.lean ====
section
/-! DEFINITION. Machine/PlotEvents.lean: sentinel sweeps, classification, column repair and scrubs (09 R254 to R268). -/

namespace Sys2Proof.Machine

/-- Address of the line of a bank, sub-array and row (09 R240). -/
def lineAddr (bank sub row : Nat) : Nat := 256 * (48 * row + (bank + 48 - row % 48) % 48) + 64 * sub

/-! ### What befalls a bank (log 87) -/

/-- A disturbance strikes bank `bank` of a core. -/
def Core.upset (c : Core) (bank : Nat) (u : Upset) : Core :=
  match u with
  | .stuck sub row column val =>
    { c with pint := { c.pint with broken := c.pint.broken ++ [{ bank := bank, sub := sub, row := row, column := column, val := val }] } }
  | .flip sub row column =>
    if 512 ≤ row then
      let x : SentFlip := { bank := bank, sub := sub, row := row, column := column }
      { c with pint := { c.pint with sentFlips := if c.pint.sentFlips.contains x then c.pint.sentFlips.filter (fun y => y ≠ x) else c.pint.sentFlips ++ [x] } }
    else
      match c.pint.serves bank sub column with
      | some k => c.flipBit (lineAddr bank sub row / 64) k
      | none => c

/-! ### Sentinels (09 R257) -/

/-- A column of the array in which a sentinel row does not read what it holds. -/
structure Sentinel where
  sub : Nat
  column : Nat
  zeros : Bool
  ones : Bool
deriving DecidableEq, Repr, Inhabited

/-- What the sentinel row (512 zeros, 513 ones) of a bank reads in a column of the array. -/
def PlotInt.sentRead (p : PlotInt) (bank sub row column : Nat) : Bool :=
  let held := (row = 513) != p.sentFlips.contains { bank := bank, sub := sub, row := row, column := column }
  (p.broken.filter (fun x => x.bank = bank && x.sub = sub && x.column = column && (x.row = none || x.row = some row))).foldl (fun b x => x.read b) held

/-- The columns in which a sweep of a bank finds a sentinel failing. -/
def PlotInt.sweep (p : PlotInt) (bank : Nat) : List Sentinel :=
  let cols := ((p.broken.filter (fun x => x.bank = bank)).map (fun x => (x.sub, x.column))
    ++ (p.sentFlips.filter (fun x => x.bank = bank)).map (fun x => (x.sub, x.column))).eraseDups
  (cols.map (fun (j, k) => ({ sub := j, column := k, zeros := p.sentRead bank j 512 k, ones := !p.sentRead bank j 513 k } : Sentinel))).filter
    (fun x => x.zeros || x.ones)

/-- Column faults that a sweep of a bank shows: failing columns that are in service (09 R258, R261). -/
def PlotInt.columnFaults' (p : PlotInt) (bank : Nat) : List Suspect :=
  ((p.sweep bank).filterMap (fun x => (p.serves bank x.sub x.column).map (fun k =>
    ({ bank := bank, sub := x.sub, row := 0, stage := 1, column := k, sweep := true, which := b2n x.zeros + 2 * b2n x.ones } : Suspect)))).eraseDups

/-- A spare that is not in service and fails a sentinel no longer counts (09 R259, R261). -/
def PlotInt.spareFails (p : PlotInt) (bank : Nat) : PlotInt :=
  let k := fun (x : Sentinel) => 4 * bank + x.sub
  let bad := (p.sweep bank).filter (fun x => decide (529 ≤ x.column) && (p.serves bank x.sub x.column).isNone)
  { p with badSpares := bad.foldl (fun m x => Sparse.put m (k x) (setBit (Sparse.getD m (k x) 0) (x.column - 529) true)) p.badSpares }

/-- SPARES_LEFT of bank and sub-array (09 Table 9-2). -/
def PlotInt.sparesLeft (p : PlotInt) (k : Nat) : Nat :=
  4 - popcount (Nat.lor (Sparse.getD p.spares k 0) (Sparse.getD p.badSpares k 0)) 4

/-- The lowest usable spare of a sub-array (09 R259). -/
def PlotInt.nextSpare (p : PlotInt) (k : Nat) : Option Nat :=
  (List.range 4).find? (fun i => !bit (Nat.lor (Sparse.getD p.spares k 0) (Sparse.getD p.badSpares k 0)) i)

/-- A column fault found by a scheduled sweep is a detection on the core (09 R261). A core of a Pavilion ends FAULTED with its step FAILED,
whatever they were before; one of no Pavilion keeps its state. -/
def State.sweepDetect (s : State) (n bank : Nat) (fs : List Suspect) : State :=
  match fs with
  | [] => s
  | f :: _ =>
    let c := s.core n
    let last := lastDetect 1 bank f.sub 0 f.column c.ctl.stepNum.toNat
    let c := { c with pint := { c.pint with last := last, detects := (c.pint.detects + 1) % 2 ^ 32,
                                            columnFaults := (c.pint.columnFaults + fs.length) % 2 ^ 32, suspects := c.pint.suspects ++ fs } }
    let s := s.setCore n c
    let s := { s with integ := { s.integ with plotDetects := (s.integ.plotDetects + 1) % 2 ^ 32 } }
    let s := s.tallyAdd 0x1B n 1
    let s := s.logCore 0x0010 n 2 last
    if (s.owner n).isNone || c.ctl.drain = .reset then s
    else
      let s := if c.ctl.st = .run || c.ctl.st = .halted then s.plotStop n
        else s.updCore n (fun c => { c with ctl := { c.ctl with st := .faulted }, pint := { c.pint with stepFailed := true } })
      s.updCore n (fun c => { c with ctl := { c.ctl with stepState := 2 } })

/-- PLOT_SENTINEL_SWEEP (09 R257, R260, R261): the sentinel rows of the bank are read at their cycle; then `upsets` strike the bank (log
87). `lost` are the cycles in which a request at the bank has lost its grant since the last such row (R243; log 88). The sweep skips a
fenced bank, and a bank that waits for its classification or repair already; it needs the core clock. -/
def execPlotSentinelSweep (c : CoreIx) (bank : Fin 48) (lost : Nat) (upsets : List Upset) (s : State) : Host.Outcome State Fault Refusal :=
  .next (
    let p := (s.core c).pint
    let s := if lost = 0 || !s.power.clockOn || coreShipped c then s else s.tallyAdd 0x13 c lost
    if !s.power.clockOn || coreShipped c || bit p.fenced bank then s
    else
      let s := s.elapseCycles ((2 * bank.val + 2 ^ 16 - s.cyc.cycles % 2 ^ 16) % 2 ^ 16)
      let fs := if p.suspects.any (fun x => x.bank = bank.val) then [] else p.columnFaults' bank
      let p' := p.spareFails bank
      let s := if p' = p then s
        else { s.updCore c (fun k => { k with pint := p' }) with integ := { s.integ with storePending := true } }
      let s := s.sweepDetect c bank fs
      if upsets.isEmpty then s else s.updCore c (fun k => upsets.foldl (fun k u => k.upset bank u) k))

/-- CLASS and COLUMN of LAST_DETECT once the detection it holds is classified (09 Table 9-3): a line's own class, or for `row` none the column
fault of its sub-array. -/
def relabel (last bank sub : Nat) (row : Option Nat) (cls column : Nat) : Nat :=
  if bits last 55 48 = 0 && bits last 47 42 = bank && bits last 41 40 = sub && (match row with | some r => bits last 39 31 = r | none => true) then
    lastDetect cls bank sub (bits last 39 31) column (bits last 20 0)
  else last

/-- A bank is fenced (09 R260): reason 0 no spare, 1 soft limit. -/
def State.fenceBank (s : State) (n bank reason : Nat) : State :=
  if bit (s.core n).pint.fenced bank then s
  else
    let s := s.updCore n (fun c => { c with pint := { c.pint with fenced := setBit c.pint.fenced bank true } })
    let s := s.logRec 0x0012 n 3 (s.owner n) (bank + 256 * reason)
    ({ s with integ := { s.integ with storePending := true } }).syncChip

/-- A soft error (09 R258, R260): the line is written with zeros and counted; a bank at PLOT_SOFT_LIMIT is fenced. -/
def State.softFault (s : State) (n : Nat) (x : Suspect) : State :=
  let a := lineAddr x.bank x.sub x.row
  let s := s.updCore n (fun c =>
    { c with plot := { c.plot with bytes := Mem.zero c.plot.bytes a 64, chk := Sparse.del c.plot.chk (a / 64) },
             pint := { c.pint with softFaults := (c.pint.softFaults + 1) % 2 ^ 32,
                                   softBank := Sparse.put c.pint.softBank x.bank (Sparse.getD c.pint.softBank x.bank 0 + 1),
                                   last := relabel c.pint.last x.bank x.sub (some x.row) 3 0x3FF } })
  let limit := s.obj 0x2100 2
  if limit ≠ 0 && decide (limit ≤ Sparse.getD (s.core n).pint.softBank x.bank 0) then s.fenceBank n x.bank 1 else s

/-- The column in which a line disagrees with what Machenil writes to it and reads back, zeros and then ones (09 R258). -/
def PlotInt.cellFault (p : PlotInt) (x : Suspect) : Option Nat :=
  match (p.brokenAt (lineAddr x.bank x.sub x.row / 64)).map Prod.fst with
  | [] => none
  | k :: ks => some (ks.foldl min k)

/-- Machenil tests one detected line of a bank whose sub-array shows no column fault: cell fault or soft error (09 R258). -/
def State.testLine (s : State) (n : Nat) (x : Suspect) : State :=
  let p := (s.core n).pint
  match p.cellFault x with
  | some k =>
    s.updCore n (fun c =>
      { c with pint := { p with suspects := p.suspects ++ [{ x with stage := 2, column := k }], columnFaults := (p.columnFaults + 1) % 2 ^ 32,
                                last := relabel p.last x.bank x.sub (some x.row) 2 k } })
  | none => (s.updCore n (fun c => { c with pint := { p with suspects := p.suspects ++ [{ x with stage := 3 }] } })).softFault n x

/-- PLOT_CLASSIFY (09 R257, R258, R266): once the drain is complete, the bank of a detection is swept. Each sub-array in which a sentinel fails
has a column fault; every detected line of the others is tested. -/
def execPlotClassify (c : CoreIx) (bank : Fin 48) (s : State) : Host.Outcome State Fault Refusal :=
  s.clocked (fun s =>
    let k := s.core c
    let mine := k.pint.suspects.filter (fun x => x.bank = bank.val && x.stage = 0)
    if mine.isEmpty || (k.ctl.drain ≠ .none && !k.drained) then s
    else
      let p := k.pint.spareFails bank
      let fs := p.columnFaults' bank
      let p := { p with suspects := p.suspects.filter (fun x => !(x.bank = bank.val && x.stage = 0)) ++ fs,
                        columnFaults := (p.columnFaults + fs.length) % 2 ^ 32,
                        last := fs.foldl (fun v f => relabel v bank f.sub none 1 f.column) p.last }
      (mine.filter (fun x => !fs.any (fun f => f.sub = x.sub))).foldl (fun s x => s.testLine c x) (s.setCore c { k with pint := p }))

/-- Zero the 512 lines of a sub-array with good codes (09 R259). -/
def Core.zeroSub (c : Core) (bank sub : Nat) : Core :=
  (List.range 512).foldl (fun c r =>
    let a := lineAddr bank sub r
    { c with plot := { c.plot with bytes := Mem.zero c.plot.bytes a 64, chk := Sparse.del c.plot.chk (a / 64) } }) c

/-- Repair one faulty column (09 R259, R260). -/
def State.repairColumn (s : State) (n : Nat) (x : Suspect) : State :=
  let k := 4 * x.bank + x.sub
  let p := (s.core n).pint
  if bit p.fenced x.bank || x.stage = 3 then s
  else
    match p.nextSpare k with
    | none => s.fenceBank n x.bank 0
    | some i =>
      let s := s.updCore n (fun c => c.zeroSub x.bank x.sub)
      let s := s.logRec 0x0011 n 1 (s.owner n) (x.bank + 256 * x.sub + 65536 * x.column + 2 ^ 32 * i + 2 ^ 40 * x.which)
      let s := s.updCore n (fun c =>
        { c with pint := { c.pint with spares := Sparse.put c.pint.spares k (setBit (Sparse.getD c.pint.spares k 0) i true),
                                       repairs := c.pint.repairs ++ [{ bank := x.bank, sub := x.sub, column := x.column, spare := i }] } })
      { s with integ := { s.integ with storePending := true } }

/-- The faults of a list with each column once. -/
def onceEach (l : List Suspect) : List Suspect :=
  l.foldl (fun a x => if a.any (fun y => y.bank = x.bank && y.sub = x.sub && y.column = x.column && y.stage ≠ 3 && x.stage ≠ 3) then a else a ++ [x]) []

/-- PLOT_REPAIR_COMPLETE (09 R258 to R261): every classified fault of the core is repaired, with spares that pass both sentinels, or its bank fenced.
The core then becomes FAULTED, STEP_FAILED is raised, and a core with a fenced bank is fenced. -/
def execPlotRepairComplete (c : CoreIx) (s : State) : Host.Outcome State Fault Refusal :=
  s.clocked (fun s =>
    let k := s.core c
    if k.pint.suspects.isEmpty || k.pint.suspects.any (fun x => x.stage = 0) || (k.ctl.drain ≠ .none && !k.drained) then s
    else
      let s := (onceEach k.pint.suspects).foldl (fun s x => (s.updCore c (fun k => { k with pint := k.pint.spareFails x.bank })).repairColumn c x) s
      let s := s.updCore c (fun k => { k with pint := { k.pint with suspects := [] } })
      let k := s.core c
      if k.ctl.drain = .fault then (s.setCore c k.dropQueues).becomeFaulted c
      else if k.pint.stepFailed && k.ctl.drain = .none then
        ((s.setCore c { k with pint := { k.pint with stepFailed := false } }).raiseCore c 3).settle c
      else s.settle c)

/-- PLOT_SCRUB_DONE (09 R262, R268): a scrub that waited for a classification or repair takes effect after it. -/
def execPlotScrubDone (c : CoreIx) (s : State) : Host.Outcome State Fault Refusal :=
  s.clocked (fun s => if (s.core c).pint.scrubPending && (s.core c).pint.suspects.isEmpty then s.updCore c (·.scrub) else s)

end Sys2Proof.Machine
end

