-- ==== Sys2Proof/Machine/Dict.lean ====
section
/-! DEFINITION. Machine/Dict.lean: status codes, roles, and the checks every dictionary request passes (03 R69 to R76, 24 R623). -/

namespace Sys2Proof.Machine

/-! ### Status codes (03 Table 3-5) -/

def stOk := 0x000
def stBusy := 0x001
def stState := 0x002
def stNoObject := 0x003
def stDenied := 0x004
def stAccess := 0x005
def stType := 0x006
def stRange := 0x007
def stTimePast := 0x008
def stOp := 0x009
def stSize := 0x00A
def stAuth := 0x00B

/-- Roles (03 R73, Table 3-4). -/
inductive Role where
  | observer
  | operator
  | vendor
  | tenant (p : Nat)
deriving DecidableEq, Repr, Inhabited

/-- The role of a requester (03 Table 3-4). -/
def State.role (s : State) (who : Requester) : Role :=
  match who with
  | .pf0 => .operator
  | .vf p => .tenant p
  | .i3c => if s.obj 0x1203 1 = 1 then .operator else .observer
  | .mop k => match (s.sess k).role with
    | 1 => .operator
    | 2 => .vendor
    | _ => .observer

/-- The unit of an object belongs to Pavilion p (24 R623). -/
def State.ownUnit (s : State) (p : Nat) (i sub : Nat) : Bool :=
  match objUnit i sub with
  | .chip => true
  | .core n => bit (s.pavCores p) n
  | .pav q => q = p

/-- The row of an object that a role reaches, none where the answer is NO_OBJECT (03 R68, R74). -/
def State.reach (s : State) (r : Role) (i sub : Nat) : Option ObjInfo :=
  match objInfo i sub with
  | none => none
  | some o =>
    match r with
    | .tenant p => if objTen i sub ≠ .none && s.ownUnit p i sub then some o else none
    | _ => some o

/-- The role may write the object (03 R74, 24 R623). -/
def mayWrite (r : Role) (i sub : Nat) (o : ObjInfo) : Bool :=
  match r with
  | .observer => false
  | .operator => !o.ven
  | .vendor => true
  | .tenant _ => objTen i sub = .rw

/-- The chip state honours a write (03 Table 3-3). BOOT requests wait in their queue and do not come here (19 R527). -/
def State.stateOk (s : State) (i : Nat) (o : ObjInfo) : Bool :=
  if o.acc = .rws then s.chipState = 1
  else if s.chipState = 5 then
    (0x1200 ≤ i && i < 0x1300) || (0x5000 ≤ i && i < 0x5100) || (0x7000 ≤ i && i < 0x7100)
  else true

/-- The checks of a write before its value (03 R69, R70, R72, R74): 0, or the status of the first that fails. -/
def State.writeCheck (s : State) (r : Role) (i sub : Nat) (o : ObjInfo) : Nat :=
  if !mayWrite r i sub o then stDenied
  else if o.acc = .ro then stAccess
  else if !s.stateOk i o then stState
  else 0

/-- The checks of a read. -/
def readCheckAcc (o : ObjInfo) : Nat := if o.acc = .wo || o.acc = .cmd then stAccess else 0

/-- A number lies in the range of an object (03 R70). -/
def ObjInfo.inRange (o : ObjInfo) (v : Nat) : Bool := decide (o.lo ≤ v) && decide (v ≤ o.hi)

/-- A firmware update loses its claim (20 R557, R567): FW_STATUS becomes IDLE, and a slot written in part reads INVALID. -/
def FwSt.claimEnd (f : FwSt) (image : Nat) : FwSt :=
  let other := 1 - image
  let half := f.status ≠ 0 && f.status ≠ 4
  { f with owner := none, status := 0, next := 0,
           slots := if half then Sparse.put f.slots other { Sparse.getD f.slots other {} with st := 2 } else f.slots }

/-- A requester ends (03 R89, 20 R557): latch, staging, its selections, its reply on I3C (R86), and its claim to a firmware update. -/
def State.endRequester (s : State) (k : Nat) : State :=
  let s := if s.fw.owner = some k then { s with fw := s.fw.claimEnd s.boot.image } else s
  s.updReq k (fun r => { r with latch := none, staging := none, logSel := 0, tallySel := 0, dbgSel := 0, reply := none, running := false })

/-- The requester of a request, by its number. -/
def DReq.who (q : DReq) : Nat :=
  match q with
  | .mbx f _ _ _ => f
  | .i3c _ => 17
  | .mop k _ => 18 + k
  | .half w _ _ _ _ _ => w.ix
  | .get w _ _ => w.ix
  | .put w _ _ _ _ _ => w.ix
  | .auth k _ _ => 18 + k
  | .doe f _ _ => 26 + f

/-- The requests of a requester that are held (03 R75), oldest first. -/
def State.heldReqs (s : State) (k : Nat) : List QReq := s.dict.queue.filter (fun q => q.req.who = k)

/-- A requester whose path is reset takes back what it has sent and has not been answered (03 R86, R89; 15 R421; log 48). -/
def State.cancelHeld (s : State) (k : Nat) : State :=
  { s with dict := { s.dict with queue := s.dict.queue.filter (fun q => q.req.who ≠ k) } }

/-- A reset of a function takes back its mailbox request and aborts its DOE exchange (20 R561). -/
def State.cancelFn (s : State) (f : Nat) : State := (s.cancelHeld f).cancelHeld (26 + f)

/-- Replace bits `hi` down to `lo` of a number. -/
def setBits (v hi lo x : Nat) : Nat := v - bits v hi lo * 2 ^ lo + x % 2 ^ (hi + 1 - lo) * 2 ^ lo

end Sys2Proof.Machine
end

