-- ==== Sys2Proof/Machine/Contracts.lean ====
section
/-! DEFINITION. Machine/Contracts.lean: contract objects and their checks (16 R439, R443, R445, R449 to R452). -/

namespace Sys2Proof.Machine

/-- Index of the contract objects of Pavilion p. -/
def ctIx (p : Nat) : Nat := 0x3180 + 8 * p

/-- CT_RSV_SUM of resource r (16 Table 16-5). -/
def State.rsvSum (s : State) (r : Nat) : Nat := ((List.range 16).map (fun p => s.obj (ctIx p) (1 + r))).sum

/-- CT_SLOTS_USED. -/
def State.slotsUsed (s : State) : Nat := (List.range 16).foldl (fun a p => Nat.lor a (s.obj (ctIx p) 0xE)) 0

/-- A write of CT_RSV[r] would overbook (16 R438, R439). -/
def State.overbooks (s : State) (p r v : Nat) : Bool :=
  decide ((if r = 4 then 896 else 1024) < s.rsvSum r - s.obj (ctIx p) (1 + r) + v)

/-- A CT_SLOTS mask shares a bit with another Pavilion's (16 R439). -/
def State.slotsShared (s : State) (p v : Nat) : Bool :=
  (List.range 16).any (fun q => q ≠ p && Nat.land (s.obj (ctIx q) 0xE) v ≠ 0)

/-- A class-table entry that fails with RANGE (16 R443, Table 16-2). -/
def classEntryBad (v : Nat) : Bool :=
  bits v 62 61 = 3 || bits v 60 56 ≠ 0 || bits v 39 36 ≠ 0 || bits v 31 28 ≠ 0 || bits v 23 0 ≠ 0
    || decide (bits v 55 48 < bits v 47 40) || decide (143 < bits v 55 48)

def ctOverbook := 0x120

/-- The effect of a write to a contract object: its status, and the new state. None for objects of other units. -/
def State.ctWrite (s : State) (i sub v : Nat) : Option (Nat × State) :=
  if i < 0x3180 || 0x3200 ≤ i then none
  else
    let p := (i - 0x3180) / 8
    some (match (i - 0x3180) % 8, sub with
      | 0, 0xE => if s.slotsShared p v then (ctOverbook, s) else (stOk, s.setObj i sub v)
      | 0, sub =>
        if 1 ≤ sub && sub ≤ 6 && s.overbooks p (sub - 1) v then (ctOverbook, s) else (stOk, s.setObj i sub v)
      | 1, sub => if classEntryBad v then (stRange, s) else (stOk, s.setObj i sub v)
      | 5, 9 => (stOk, if v = 0 then s else s.updPav p (fun w => { w with ct := { w.ct with hist := [], miss := [] } }))
      | 5, sub => if bits v 63 62 = 3 then (stRange, s) else (stOk, s.setObj i sub (v - bits v 60 32 * 2 ^ 32))
      | _, _ => (stOk, s.setObj i sub v))

/-- CT_ADMITTED: the CONTRACT streams of Pavilion p in IDLE or QUEUED (16 R445). -/
def State.ctAdmitted (s : State) (p : Nat) : Nat :=
  (s.streams.filter (fun e => bits e.2 31 29 ≠ 0 && bits e.2 37 34 = p && bits e.2 39 38 = 0)).length

/-- A CONTRACT stream fits the reservations of Pavilion p (16 R445). -/
def State.ctFits (s : State) (p : Nat) : Bool :=
  !s.timeFree && decide ((s.ctAdmitted p + 1) * s.obj (ctIx p) 0x10 ≤ s.obj (ctIx p) 0xF)
    && decide (s.obj (ctIx p) 0xF ≤ popcount (s.obj (0x2410 + p) 4) 64 * s.obj (0x2410 + p) 3)

/-- Level of a bucket in whole units of its resource (16 Table 16-5); the links sum over their ports. -/
def bucketLevel (m : Sparse Nat) (r : Nat) : Nat :=
  if r = 4 then ((List.range 64).map (fun q => Sparse.getD m (100 + q) 0 / bucketUnit)).sum else Sparse.getD m r 0 / bucketUnit

/-- Live values of the contract objects. -/
def State.ctRead (s : State) (i sub : Nat) : Option Nat :=
  if i = 0x3100 then
    if 1 ≤ sub && sub ≤ 6 then some (s.rsvSum (sub - 1)) else if sub = 7 then some s.slotsUsed else none
  else if 0x3180 ≤ i && i < 0x3200 && 1 ≤ sub then
    let p := (i - 0x3180) / 8
    let ct := (s.pav p).ct
    match (i - 0x3180) % 8 with
    | 2 => some (Sparse.getD ct.hist (sub - 1) 0)
    | 3 => some (Sparse.getD ct.hist (64 + sub - 1) 0)
    | 4 => some (Sparse.getD ct.hist (128 + sub - 1) 0)
    | 5 =>
      if 5 ≤ sub && sub ≤ 8 then some (Sparse.getD ct.miss (sub - 5) 0)
      else if sub = 0xA then some ct.stepped else if sub = 0xB then some (s.ctAdmitted p) else none
    | 6 => if sub ≤ 6 then some (bucketLevel ct.ct (sub - 1)) else if sub ≤ 0xC then some (bucketLevel ct.bu (sub - 7))
      else some (ct.buRows / 250000)
    | _ => none
  else none

end Sys2Proof.Machine
end

