-- ==== Sys2Proof/Machine/Bandstand.lean ====
section
/-! DEFINITION. Machine/Bandstand.lean: streams, ready records, batches and their delivery (12). -/

namespace Sys2Proof.Machine

/-! ### The stream table (12 Table 12-1) -/

/-- A FREE entry: the defaults of Table 12-1 (log 41). -/
def freeEntry : Nat := 8 * 2 ^ 104 + 16 * 2 ^ 99

def State.stream (s : State) (id : Nat) : Nat := Sparse.getD s.streams id freeEntry

def seState (e : Nat) : Nat := bits e 31 29

/-- Store an entry; a FREE entry has no row. -/
def State.setStream (s : State) (id e : Nat) : State :=
  { s with streams := if seState e = 0 then Sparse.del s.streams id else Sparse.put s.streams id e }

def sePos (e : Nat) : Nat := bits e 95 72
def sePending (e : Nat) : Nat := bits e 63 48
def seClass (e : Nat) : Nat := bits e 39 38
def seHome (e : Nat) : Bool := bit e 98
def seEnd (e : Nat) : Bool := bit e 97

/-- Index of the Bandstand objects of Pavilion p. -/
def bsIx (p : Nat) : Nat := 0x2410 + p

/-- The slice of Pavilion p: first ID and count (12 R330). -/
def State.slice (s : State) (p : Nat) : Nat × Nat := (s.obj (bsIx p) 1, s.obj (bsIx p) 2)

def State.inSlice (s : State) (p id : Nat) : Bool := decide ((s.slice p).1 ≤ id) && decide (id < (s.slice p).1 + (s.slice p).2)

/-- Some entry of Pavilion p's slice is not FREE. -/
def State.sliceBusy (s : State) (p : Nat) : Bool := s.streams.any (fun r => s.inSlice p r.1 && seState r.2 ≠ 0)

/-- A slice would run past 4,095 or overlap another Pavilion's (12 R330). -/
def State.sliceBad (s : State) (p first count : Nat) : Bool :=
  decide (4096 < first + count) || (count ≠ 0 && (List.range 16).any (fun q =>
    let (f, n) := s.slice q
    q ≠ p && n ≠ 0 && decide (f < first + count) && decide (first < f + n)))

/-- BS_ADMIT check 1 (12 R331): a reserved bit, or a field outside Table 12-1. -/
def entryBad (e : Nat) : Bool :=
  bits e 159 144 ≠ 0 || bits e 127 120 ≠ 0 || bits e 71 64 ≠ 0 || bits e 47 40 ≠ 0 || bits e 33 32 ≠ 0 || bits e 28 12 ≠ 0
    || bits e 31 29 ≠ 0 || bits e 37 34 ≠ 0 || bits e 63 48 ≠ 0 || bit e 97 || bit e 96
    || seClass e = 3 || bits e 143 128 = 0 || decide (bits e 113 108 < bits e 119 114) || decide (bits e 107 104 < 8)
    || decide (bits e 103 99 < 10) || decide (24 < bits e 103 99) || bits e 215 208 ≠ 0 || bits e 167 160 ≠ 0

/-- BS_ADMIT (12 R331). -/
def State.bsAdmit (s : State) (p e : Nat) : Nat × State :=
  let id := bits e 11 0
  if entryBad e then (stRange, s)
  else if !s.inSlice p id then (0x102, s)
  else if seState (s.stream id) ≠ 0 then (0x101, s)
  else if seClass e = 0 && !s.ctFits p then (0x103, s)
  else (stOk, s.setStream id (e - id + p * 2 ^ 34 + 2 ^ 29))

/-- BS_RETIRE (12 R332): the retirement waits for the next slot start. -/
def State.bsRetire (s : State) (p id : Nat) : Nat × State :=
  if !s.inSlice p id then (0x102, s)
  else if seState (s.stream id) = 0 then (stOk, s)
  else (stOk, s.updPav p (fun v => { v with bs := { v.bs with retire := v.bs.retire ++ [id] } }))

/-! ### Objects -/

/-- A setting of Pavilion p in force since the last slot start (12 R343). -/
def State.bsEff (s : State) (p sub : Nat) : Nat := Sparse.getD (s.pav p).bs.eff sub (s.obj (bsIx p) sub)

/-- Records of the ring of Pavilion p that a close can still take (12 R339): none where its batch core is not its own, enabled and unfenced. -/
def State.bsRoom (s : State) (p : Nat) : Nat :=
  let core := s.bsEff p 7
  let b := (s.pav p).bs
  if s.coreUsable core && s.owner core = some p then b.released + s.bsEff p 9 - b.written else 0

/-- Some close waits for a free record (12 R339). -/
def State.bsStuck (s : State) (p : Nat) : Bool := decide (s.bsRoom p < (s.pav p).bs.waiting.length)

/-- BS_STATUS (12 Table 12-3): a close waits for a free record; ring fault; overrun. -/
def State.bsStatus (s : State) (p : Nat) : Nat :=
  let b := (s.pav p).bs
  b2n (s.bsStuck p) + 2 * b2n b.ringFault + 4 * b2n b.overrun

/-- Live values of the Bandstand objects of Pavilion p. -/
def State.bsRead (s : State) (i sub : Nat) : Option Nat :=
  if 0x2410 ≤ i && i < 0x2420 then
    let p := i - 0x2410
    let sel := s.obj i 0xD
    match sub with
    | 0xE => some (if s.inSlice p sel then s.stream sel else 0)
    | 0x11 => some ((s.pav p).bs.head % 2 ^ 32)
    | 0x12 => some (s.bsStatus p)
    | _ => none
  else none

/-- A read of BS_STATUS clears RING_OVERRUN (12 R335). -/
def State.bsStatusRead (s : State) (p : Nat) : State :=
  s.updPav p (fun v => { v with bs := { v.bs with overrun := false } })

/-- The effect of a write to a Bandstand object (12 R330 to R332, R343). -/
def State.bsWrite (s : State) (i sub v : Nat) : Option (Nat × State) :=
  if i < 0x2410 || 0x2420 ≤ i then none
  else
    let p := i - 0x2410
    let (first, count) := s.slice p
    some (match sub with
      | 1 => if s.sliceBusy p then (stState, s) else if s.sliceBad p v count then (stRange, s) else (stOk, s.setObj i 1 v)
      | 2 => if s.sliceBusy p then (stState, s) else if s.sliceBad p first v then (stRange, s) else (stOk, s.setObj i 2 v)
      | 5 => if v % 8 ≠ 0 then (stRange, s) else (stOk, s.setObj i 5 v)
      | 0xC =>
        let s' := s.setObj i 0xC v
        if v = 1 && s.obj i 0xC = 0 then
          (stOk, s'.updPav p (fun w => { w with bs := { w.bs with headInit := true, written := 0, released := 0, held := [] } }))
        else if v = 0 then (stOk, (s'.unitEnd p 0).updPav p (fun w => { w with bs := { w.bs with due := none, reading := false } }))
        else (stOk, s')
      | 0xF => s.bsAdmit p v
      | 0x10 => s.bsRetire p v
      | _ => (stOk, s.setObj i sub v))

/-! ### Batches -/

/-- Latch the settings at a slot start. -/
def State.bsLatch (s : State) (p : Nat) : State :=
  let eff := [3, 4, 5, 6, 7, 8, 9, 0xA, 0xB].foldl (fun m k => Sparse.put m k (s.obj (bsIx p) k)) []
  s.updPav p (fun v => { v with bs := { v.bs with eff := eff } })

/-- Class of a queued row. -/
def State.rowClass (s : State) (r : BsRow) : Nat := seClass (s.stream r.stream)

/-- The rows of a list, in their order, whose streams still have a position for them (12 R338). -/
def State.withinSeq (s : State) (l : List BsRow) : List BsRow :=
  (l.foldl (fun (acc : List BsRow × Sparse Nat) r =>
    let k := Sparse.getD acc.2 r.stream 0
    if sePos (s.stream r.stream) + k ≤ 16777215 then (acc.1 ++ [r], Sparse.put acc.2 r.stream (k + 1)) else acc) ([], [])).1

/-- The rows of Pavilion p's queue that a close may take, in the order of 12 R337: CONTRACT, BURST as far as the bucket allows, SCAVENGE. A close at
the deadline of slot `skip` leaves out the rows of that slot's own ring read (R336). -/
def State.takeable (s : State) (p : Nat) (skip : Option Nat := none) : List BsRow :=
  let q := (s.pav p).bs.queue.filter (fun r => skip ≠ some r.slot)
  let cls := fun k => s.withinSeq (q.filter (fun r => s.rowClass r = k))
  cls 0 ++ (cls 1).take ((s.pav p).ct.buRows / 250000) ++ cls 2

/-- Hot and evicted addresses of a row of entry e at position p (12 R341): HOT_ADDR, EVICT_V, EVICT_RING, EVICT_ADDR. -/
structure KvPlace where
  hot : Nat
  evict : Bool
  ring : Nat
  cold : Nat
deriving DecidableEq, Repr, Inhabited

def kvPlace (e p : Nat) : KvPlace :=
  let h := 2 ^ bits e 103 99
  let k := 256 * bits e 143 128
  let r := bits e 113 108 + 1
  let b := 2 ^ bits e 107 104
  let hot := (bits e 255 208 + p % h * k) % 2 ^ 48
  if p < h then { hot := hot, evict := false, ring := 0, cold := 0 }
  else
    let q := p - h
    { hot := hot, evict := true, ring := q / b % r, cold := (bits e 207 160 + (q / (b * r) * b + q % b) * k) % 2 ^ 48 }

/-- A batch row (12 Table 12-2). -/
def bsRowBits (id e pos defer : Nat) : Nat :=
  let k := kvPlace e pos
  id + b2n (pos = 16777215) * 2 ^ 61 + seClass e * 2 ^ 62 + defer * 2 ^ 96 + pos * 2 ^ 104 + b2n k.evict * 2 ^ 153 + k.ring * 2 ^ 154
    + k.hot * 2 ^ 160 + k.cold * 2 ^ 208

/-- Batch one row of a stream (12 R338): the row as delivered, the next position, and the end of the sequence. -/
def State.takeRow (s : State) (p : Nat) (r : BsRow) : BsOut × State :=
  let e := s.stream r.stream
  let pos := sePos e
  let out : BsOut := { row := bsRowBits r.stream e pos r.defer, cls := seClass e, at_ := r.at_ }
  let e := setBits e 63 48 (sePending e - 1)
  if pos = 16777215 then
    let left := (s.pav p).bs.queue.filter (fun x => x.stream = r.stream)
    let e := setBits (setBits (setBits (setBits e 95 72 0) 97 97 1) 63 48 0) 31 29 1
    let s := s.setStream r.stream e
    let s := s.updPav p (fun v => { v with bs := { v.bs with queue := v.bs.queue.filter (fun x => x.stream ≠ r.stream) } })
    (out, if left.isEmpty then s else s.tallyAdd 0x24 p left.length)
  else
    let e := setBits e 95 72 (pos + 1)
    (out, s.setStream r.stream (setBits e 31 29 (if sePending e = 0 then 1 else 2)))

/-- Remove the rows a close takes from the queue, by count per stream and class order. -/
def dropRows (q taken : List BsRow) : List BsRow :=
  taken.foldl (fun q r => q.erase r) q

/-- Close a batch of at most `n` rows (12 R336 to R340); `skip` as in State.takeable. -/
def State.bsClose (s : State) (p n : Nat) (skip : Option Nat) (fill stepped : Bool) : State :=
  let rows := (s.takeable p skip).take n
  let burst := (rows.filter (fun r => s.rowClass r = 1)).length
  let b := (s.pav p).bs
  let s := s.updPav p (fun v =>
    { v with bs := { v.bs with queue := dropRows v.bs.queue rows },
             ct := { v.ct with buRows := v.ct.buRows - burst * 250000 } })
  let (outs, s) := rows.foldl (fun (acc : List BsOut × State) r =>
    let (o, s) := acc.2.takeRow p r; (acc.1 ++ [o], s)) ([], s)
  let batch : Batch := { num := b.batchNo, rows := outs, fill := fill, time := s.time.now,
                         flags := b2n s.timeFree + 2 * b2n s.holdover + 8 * b2n stepped }
  s.updPav p (fun v =>
    { v with bs := { v.bs with batchNo := (b.batchNo + 1) % 2 ^ 32, waiting := v.bs.waiting ++ [batch],
                               queue := v.bs.queue.map (fun r => if skip = some r.slot then r else { r with defer := min 255 (r.defer + 1) }) } })

/-- The rows that may be taken reach the threshold (12 R336). -/
def State.bsFull (s : State) (p : Nat) (skip : Option Nat) : Bool :=
  decide (s.bsEff p 3 ≤ (s.takeable p skip).length) && s.bsEff p 3 ≠ 0

/-- FILL closes while the rows that may be taken reach the threshold (12 R336). -/
def State.bsFill : Nat → Nat → Option Nat → Bool → State → State
  | 0, _, _, _, s => s
  | fuel + 1, p, skip, stepped, s =>
    if s.bsFull p skip then State.bsFill fuel p skip stepped (s.bsClose p (s.bsEff p 3) skip true stepped) else s

/-- The deadline of slot k (12 R336, R339): while a close waits for a free record it is flagged LATE; else a FILL that holds in the same cycle comes
first, and every row that may be taken goes into one batch. -/
def State.bsDeadline (s : State) (p k : Nat) : State :=
  let stepped := s.steppedPast (absStart k)
  let s := s.updPav p (fun v => { v with bs := { v.bs with due := none, lastDue := some k } })
  if s.bsStuck p then
    let i := s.bsRoom p
    (s.updPav p (fun v => { v with bs := { v.bs with waiting := v.bs.waiting.zipIdx.map (fun (b, j) =>
      if j = i then { b with flags := if bit b.flags 2 then b.flags else b.flags + 4 } else b) } })).tallyAdd 0x26 p 1
  else if s.bsFull p (some k) then State.bsFill (s.pav p).bs.queue.length p (some k) stepped s
  else if (s.takeable p (some k)).isEmpty then s
  else s.bsClose p (s.bsEff p 3) (some k) false stepped

/-! ### The slot start (12 R332 to R335, R344) -/

/-- Retire the streams marked for it. -/
def State.bsRetireNow (s : State) (p : Nat) : State :=
  let ids := (s.pav p).bs.retire
  let gone := ((s.pav p).bs.queue.filter (fun r => ids.contains r.stream)).length
  let s := ids.foldl (fun s id => s.setStream id freeEntry) s
  let s := s.updPav p (fun v => { v with bs := { v.bs with retire := [], queue := v.bs.queue.filter (fun r => !ids.contains r.stream) } })
  if gone = 0 then s else s.tallyAdd 0x24 p gone

/-- One ready record (12 R333, R334). -/
def State.bsRecord (s : State) (p r : Nat) : State :=
  let rows := bits r 47 40
  let id := bits r 11 0
  let e := s.stream id
  if bits r 63 48 ≠ 0 || bits r 39 12 ≠ 0 || rows = 0 || decide (128 < rows) || !s.inSlice p id || seState e = 0 || !seHome e || seEnd e then
    s.tallyAdd 0x25 p 1
  else if 65535 < sePending e + rows then (s.setStream id (setBits e 96 96 1)).tallyAdd 0x25 p 1
  else
    let s := s.setStream id (setBits (setBits e 63 48 (sePending e + rows)) 31 29 2)
    let new : List BsRow := List.replicate rows { stream := id, defer := 0, at_ := s.time.now, slot := s.cyc.slotDone.getD 0 }
    s.updPav p (fun v => { v with bs := { v.bs with queue := v.bs.queue ++ new } })

/-- The ring read meets a memory fault (12 R334). -/
def State.bsRingFault (s : State) (p : Nat) : State :=
  (s.updPav p (fun v => { v with bs := { v.bs with ringFault := true } })).raiseVf p 4

/-- Words of 8 bytes. -/
def dwords : Nat → List PByte → List Nat
  | 0, _ => []
  | k + 1, d => leNat (rawBytes (d.take 8)) :: dwords k (d.drop 8)

/-- Read `n` records of the ring from number `head` on, in ring order. -/
def State.bsRecords (s : State) (p base size head n : Nat) : UnitR × State :=
  (List.range n).foldl (fun (acc : UnitR × State) j =>
    match acc.1 with
    | .error c => (.error c, acc.2)
    | r => let (d, s) := acc.2.unitRead p (base + 8 * ((head + j) % size)) 8 0; (r.then d, s)) (.ok [], s)

/-- The ring read of one Pavilion (12 R334, R335, R343). Where the ring lies in the host window it goes on when the host has answered. -/
def State.bsRing (s : State) (p : Nat) : State :=
  let base := s.bsEff p 5
  let size := 2 ^ s.bsEff p 6
  let wait := fun (s : State) => s.updPav p (fun v => { v with bs := { v.bs with reading := true } })
  let done := fun (s : State) => (s.unitEnd p 0).updPav p (fun v => { v with bs := { v.bs with reading := false } })
  match s.unitRead p (base + 8 * size) 4 0 with
  | (.wait, s) => wait s
  | (.error _, s) => (done s).bsRingFault p
  | (.ok t, s) =>
    let tail := leNat (rawBytes t)
    let setHead := fun (s : State) => s.updPav p (fun v => { v with bs := { v.bs with head := tail, headInit := false } })
    let overrun := fun (s : State) => s.updPav p (fun v => { v with bs := { v.bs with overrun := true } })
    let b := (s.pav p).bs
    let d := (tail + 2 ^ 32 - b.head % 2 ^ 32) % 2 ^ 32
    if b.headInit then setHead (done s)
    else if 2 ^ 31 ≤ d then overrun (done s)
    else
      let n := min d size
      match s.bsRecords p base size (tail + 2 ^ 32 - n) n with
      | (.wait, s) => wait s
      | (r, s) =>
        let s := done s
        let s := if size < d then overrun (s.tallyAdd 0x25 p (d - size)) else s
        setHead (match r with
          | .ok ws => (dwords n ws).foldl (fun s r => s.bsRecord p r) s
          | _ => s.bsRingFault p)

/-- Read the ring of Pavilion p, and make the FILL closes of its records. -/
def State.bsWork (s : State) (p : Nat) : State :=
  let s := s.bsRing p
  if (s.pav p).bs.reading then s else State.bsFill (s.pav p).bs.queue.length p none false s

/-- The host has answered a read of the ring of Pavilion p. -/
def State.bsResume (s : State) (p : Nat) : State := if (s.pav p).bs.reading then s.bsWork p else s

/-- The slot start of one Pavilion: slot k. A deadline that has not been acted on comes first; the deadline of slot k itself falls due. -/
def State.bsSlot (s : State) (p k : Nat) : State :=
  let s := match (s.pav p).bs.due with | some j => if j = k then s else s.bsDeadline p j | none => s
  let s := (s.bsLatch p).bsRetireNow p
  if s.obj (bsIx p) 0xC = 1 then
    let s := if bit (s.bsEff p 4) (k % 64) && (s.pav p).bs.lastDue ≠ some k then
        s.updPav p (fun v => { v with bs := { v.bs with due := some k } })
      else s
    s.bsWork p
  else s

/-- BS_SLOT_START (12 R332, R334): the next slot start that has not been processed: time reaches it, and every Pavilion's Bandstand works. -/
def execBsSlotStart (s : State) : Host.Outcome State Fault Refusal :=
  s.clocked (fun s =>
    let cur := absSlot s.time.now
    let due : Bool := match s.cyc.slotDone with
      | some k => decide (k < cur)
      | none => s.time.now = absStart cur
    let s := if due then s else s.elapseTo (absStart (cur + 1))
    let k := absSlot s.time.now
    let s := { s with cyc := { s.cyc with slotDone := some k } }
    (List.range 16).foldl (fun s p => s.bsSlot p k) s)

/-- The deadline of Pavilion p that comes next: one that has fallen due, else that of the slot which begins now or later, by the settings that come
into force there (12 R343). -/
def State.bsNext (s : State) (p : Nat) : Option Nat :=
  match (s.pav p).bs.due with
  | some k => some k
  | none =>
    let cur := absSlot s.time.now
    let mask := s.obj (bsIx p) 4
    let now : Bool := s.time.now = absStart cur && s.cyc.slotDone ≠ some cur && (s.pav p).bs.lastDue ≠ some cur
    ((List.range 65).map (fun j => cur + j)).find? (fun x => bit mask (x % 64) && (now || x ≠ cur))

/-- BATCH_DEADLINE (12 R336, R339, R344; 02 R52): the next deadline slot of Pavilion p, in its turn. -/
def execBatchDeadline (p : PavIx) (s : State) : Host.Outcome State Fault Refusal :=
  s.clocked (fun s =>
    if s.obj (bsIx p) 0xC = 0 then s
    else
      match s.bsNext p with
      | none => s
      | some k =>
        if !s.turn { at_ := absStart k, rank := 4, pav := p } then s
        else if (s.pav p).bs.due = some k then s.bsDeadline p k
        else ((s.elapseTo (absStart k)).bsLatch p).bsDeadline p k)

/-- A forward step from `old` passes deadlines of Pavilion p (02 R55, 12 R347): one of them falls due. -/
def State.bsPassed (s : State) (old p : Nat) : State :=
  let cur := absSlot s.time.now
  match ((List.range 64).map (fun j => cur - j)).find? (fun k => decide (old < absStart k) && bit (s.bsEff p 4) (k % 64)) with
  | some k => if s.obj (bsIx p) 0xC = 1 then s.updPav p (fun v => { v with bs := { v.bs with due := some k } }) else s
  | none => s

/-! ### Delivery (12 R339, R340) -/

/-- The 256-byte header and the rows of a batch record. -/
def Batch.bytes (b : Batch) : List Byte :=
  leBytes 4 b.num ++ leBytes 2 b.rows.length ++ leBytes 1 (if b.fill then 0 else 1) ++ leBytes 1 b.flags ++ leBytes 8 b.time
    ++ List.replicate 240 0 ++ (b.rows.flatMap (fun r => leBytes 32 r.row))

/-- BS_BATCH_DELIVER (12 R339): the oldest closed batch is written into the next record of the ring, and BS_BATCH_CNT counts it. Bytes past
the end of the Plot go nowhere. -/
def execBsBatchDeliver (p : PavIx) (s : State) : Host.Outcome State Fault Refusal :=
  s.clocked (fun s => match (s.pav p).bs.waiting with
    | [] => s
    | b :: rest =>
      if s.bsRoom p = 0 then s
      else
        let core := s.bsEff p 7
        let k := (s.pav p).bs.written
        let a := 256 * (s.bsEff p 8 + 17 * (k % s.bsEff p 9))
        let s := s.updPav p (fun v => { v with bs := { v.bs with waiting := rest, written := k + 1, held := v.bs.held ++ [b] } })
        let s := s.plotPut core a (clean (b.bytes.take (plotSize - a)))
        s.cntAdd core (s.bsEff p 0xA % 64) 1)

/-- Clear the slice of a Pavilion in its reset (12 R348). RING_OVERRUN stays until BS_STATUS is read (R335). -/
def State.bsReset (s : State) (p : Nat) : State :=
  let (f, n) := s.slice p
  let s := { s with streams := s.streams.filter (fun r => !(decide (f ≤ r.1) && decide (r.1 < f + n))) }
  let s := s.setObj (bsIx p) 0xC 0
  (s.unitEnd p 0).updPav p (fun v => { v with bs := { eff := v.bs.eff, overrun := v.bs.overrun } })

end Sys2Proof.Machine
end

