-- ==== Sys2Proof/Machine/Flit.lean ====
section
/-! DEFINITION. Machine/Flit.lean: the flits of Belvedere (13 R352, R353, Table 13-2, Table 13-3) and the messages they carry (13 R360,
Table 13-4). -/

namespace Sys2Proof.Machine

/-- CRC-32 of IEEE 802.3 (13 R352): polynomial 0x04C1_1DB7 reflected, initial value and final XOR all ones. -/
def crc32 (l : List Byte) : Nat := Nat.xor (l.foldl (crcByte 0xEDB88320) 0xFFFFFFFF) 0xFFFFFFFF

/-- Flit types (13 Table 13-2). -/
def ftIdle := 0
def ftData := 1
def ftTime := 2
def ftHold := 3
def ftInit := 4
def ftNak := 5

/-- The fields of a flit (13 Table 13-2). The payload is the little-endian number of its 240 bytes. -/
structure Flit where
  ty : Nat := 0
  vc : Nat := 0
  head : Bool := false
  tail : Bool := false
  poison : Bool := false
  credV : Bool := false
  credVc : Nat := 0
  cred : Nat := 0
  ackV : Bool := false
  ack : Nat := 0
  seq : Nat := 0
  payload : Nat := 0
deriving DecidableEq, Repr, Inhabited

/-- Every field lies in its width and the type is not reserved. -/
def Flit.wf (f : Flit) : Bool :=
  decide (f.ty ≤ 5) && decide (f.vc < 8) && decide (f.credVc < 8) && decide (f.cred < 512) && decide (f.ack < 4096) && decide (f.seq < 4096)
    && decide (f.payload < 2 ^ 1920)

/-- Bytes 0 to 251 of a flit as one number: the header of Table 13-2, then the payload. -/
def Flit.body (f : Flit) : Nat :=
  f.ty + f.vc * 2 ^ 10 + b2n f.head * 2 ^ 13 + b2n f.tail * 2 ^ 14 + b2n f.poison * 2 ^ 15 + b2n f.credV * 2 ^ 26 + f.credVc * 2 ^ 27
    + f.cred * 2 ^ 30 + b2n f.ackV * 2 ^ 39 + f.ack * 2 ^ 40 + f.seq * 2 ^ 52 + f.payload * 2 ^ 96

/-- The number of the 256 bytes of a flit, FCRC last. -/
def Flit.num (f : Flit) : Nat := f.body + crc32 (leBytes 252 f.body) * 2 ^ 2016

/-- A flit as it goes on the lanes, byte 0 in bits 7:0. -/
def Flit.encode (f : Flit) : BitVec 2048 := BitVec.ofNat 2048 f.num

/-- Block i of the 8 of a flit (13 R351): the flit-start bit is 1 in the first. -/
def fecBlock (x : BitVec 2048) (i : Nat) : BitVec 257 :=
  BitVec.ofNat 257 (bits x.toNat (256 * i + 255) (256 * i) + b2n (i = 0) * 2 ^ 256)

/-- The blocks of a flit, `n` blocks after the last alignment block: one follows every 65,535 of the flit stream (13 R351). -/
def fecBlocks (n : Nat) (x : BitVec 2048) : List Block :=
  (List.range 8).flatMap (fun i => .data (fecBlock x i) :: if n + i + 1 = 65535 then [.align] else [])

/-- The fields of bytes 0 to 251. -/
def Flit.ofBody (b : Nat) : Flit :=
  { ty := bits b 7 0, vc := bits b 12 10, head := bit b 13, tail := bit b 14, poison := bit b 15, credV := bit b 26, credVc := bits b 29 27,
    cred := bits b 38 30, ackV := bit b 39, ack := bits b 51 40, seq := bits b 63 52, payload := b / 2 ^ 96 }

/-- A received flit is bad (13 R353): its FCRC fails, or it carries a reserved TYPE or a reserved bit. -/
def flitBad (x : Nat) : Bool :=
  let b := x % 2 ^ 2016
  x / 2 ^ 2016 ≠ crc32 (leBytes 252 b) || decide (5 < bits b 7 0) || bits b 9 8 ≠ 0 || bits b 25 16 ≠ 0 || bits b 95 64 ≠ 0

/-- Read a flit; none where it is bad. -/
def Flit.decode (x : BitVec 2048) : Option Flit :=
  if flitBad x.toNat then none else some (Flit.ofBody (x.toNat % 2 ^ 2016))

/-- A flit of a port without ACK and credits yet. -/
def DFlit.flit (d : DFlit) (seq : Nat) : Flit :=
  { ty := ftData, vc := d.vc, head := d.head, tail := d.tail, poison := d.poison, seq := seq, payload := leNat d.payload }

def Flit.dflit (f : Flit) : DFlit :=
  { vc := f.vc, head := f.head, tail := f.tail, poison := f.poison, payload := leBytes 240 f.payload }

/-! ### Messages (13 R360) -/

/-- The message header of Table 13-4 for a message of `len` data bytes. -/
def Msg.header (m : Msg) (len : Nat) : Nat :=
  m.dst % 2 ^ 15 + m.src % 2 ^ 15 * 2 ^ 16 + m.dpav % 16 * 2 ^ 40 + m.spav % 16 * 2 ^ 44 + m.kind % 16 * 2 ^ 52 + m.hops % 256 * 2 ^ 56
    + len % 2 ^ 32 * 2 ^ 64 + m.arg0 % 2 ^ 64 * 2 ^ 128 + m.arg1 % 2 ^ 64 * 2 ^ 192

def Msg.ofHeader (h : Nat) (data : List PByte) : Msg :=
  { dst := bits h 14 0, src := bits h 30 16, dpav := bits h 43 40, spav := bits h 47 44, kind := bits h 55 52, hops := bits h 63 56,
    arg0 := bits h 191 128, arg1 := bits h 255 192, data := data, level := 3 }

/-- LENGTH of a message. -/
def Msg.length (m : Msg) : Nat := m.len.getD m.data.length

/-- The bytes of a message: header, then data. -/
def Msg.bytes (m : Msg) : List PByte := clean (leBytes 32 (m.header m.data.length)) ++ m.data

/-- Flits of a message of L data bytes (13 R360): ⌈(32 + L) ÷ 240⌉. -/
def msgFlits (len : Nat) : Nat := cdiv (32 + len) 240

/-- The DATA flits of a message on a virtual channel; a flit with a poisoned byte carries POISON. -/
def Msg.flits (m : Msg) (vc : Nat) : List DFlit :=
  let b := m.bytes
  let n := msgFlits m.data.length
  (List.range n).map (fun i =>
    let part := (b.drop (240 * i)).take 240
    { vc := vc, head := i = 0, tail := i + 1 = n, poison := anyPoison part,
      payload := rawBytes part ++ List.replicate (240 - part.length) 0 })

/-- A message from the bytes of its flits; LENGTH bounds its data. -/
def Msg.ofBytes (b : List PByte) : Msg :=
  let h := leNat (rawBytes (b.take 32))
  { Msg.ofHeader h ((b.drop 32).take (bits h 95 64)) with len := some (bits h 95 64) }

/-- VC class of a message (13 R361): 0 SYSTEM, else 1 + its level. -/
def Msg.cls (m : Msg) : Nat := if m.level = 3 then 0 else 1 + m.level

end Sys2Proof.Machine
end

