-- ==== Sys2Proof/Machine/Plans.lean ====
section
/-! DEFINITION. Machine/Plans.lean: the plans of collectives and what a Rotunda message is to them (14 R385 to R387, R392, R393). -/

namespace Sys2Proof.Machine

/-! ### Plan records (14 Table 14-1, Table 14-2) -/

def rotIx (p : Nat) : Nat := 0x2610 + p

def plV (r : Nat) : Bool := bit r 31
def plOp (r : Nat) : Nat := bits r 7 0
def plRed (r : Nat) : Nat := bits r 9 8
def plFmt (r : Nat) : Nat := bits r 19 16
def plWide (r : Nat) : Bool := bit r 20
def plClass (r : Nat) : Nat := bits r 25 24 - 1
def plStages (r : Nat) : Nat := bits r 27 26 + 1
def plDeadline (r : Nat) : Nat := bits r 63 32
def plMask (r : Nat) : Nat := bits r 207 64
def plCores (r : Nat) : List Nat := bitList (plMask r) 144

/-- Stage entry k of a plan. -/
def plStage (r k : Nat) : Nat := bits r (319 + 64 * k) (256 + 64 * k)
def sgSize (e : Nat) : Nat := bits e 7 0 + 1
def sgPos (e : Nat) : Nat := bits e 15 8
def sgNext (e : Nat) : Nat := bits e 30 16
def sgPrev (e : Nat) : Nat := bits e 46 32
def sgPrevPav (e : Nat) : Nat := bits e 59 56
def sgNextPav (e : Nat) : Nat := bits e 63 60

/-- A stage entry makes a load fail (14 R386, Table 14-2). -/
def stageBad (e : Nat) : Bool :=
  bits e 55 48 ≠ 0 || bit e 47 || bit e 31 || decide (64 < sgSize e) || decide (sgSize e ≤ sgPos e) || (sgSize e = 1 && e / 65536 ≠ 0)

/-- A plan record makes a load fail (14 R386). -/
def planBad (r : Nat) : Bool :=
  bits r 255 208 ≠ 0 || bits r 30 28 ≠ 0 || bits r 23 21 ≠ 0 || bits r 15 10 ≠ 0 || decide (3 < plOp r) || plRed r = 3
    || (decide (2 ≤ plOp r) && plRed r ≠ 0) || bits r 25 24 = 0 || !([0, 1, 2, 0xD].contains (plFmt r))
    || decide (plDeadline r < 1000) || decide (100000000 < plDeadline r) || plMask r = 0
    || (List.range 4).any (fun k => if k < plStages r then stageBad (plStage r k) else plStage r k ≠ 0)

/-- Positions of a plan (14): P. -/
def plP (r : Nat) : Nat := (List.range (plStages r)).foldl (fun a k => a * sgSize (plStage r k)) 1

/-- Global rank g of this chip's position. -/
def plRank (r : Nat) : Nat := (List.range (plStages r)).foldl (fun a k => a * sgSize (plStage r k) + sgPos (plStage r k)) 0

/-- The plan of number `k` of Pavilion p; one with V = 0 is 0. -/
def State.plan (s : State) (p k : Nat) : Nat :=
  let r := Sparse.getD (s.pav p).rot.plans k 0
  if plV r then r else 0

def State.updRot (s : State) (p : Nat) (f : RotSt → RotSt) : State := s.updPav p (fun v => { v with rot := f v.rot })

/-- Instance count of a plan (14 R399). -/
def State.instCount (s : State) (p k : Nat) : Nat := Sparse.getD (s.pav p).rot.counts k 0

/-- The instance of a plan in progress. -/
def State.inst (s : State) (p k : Nat) : Option Inst := (s.pav p).rot.insts.find? (fun x => x.plan = k)

/-! ### Messages (14 R392, R393) -/

def Msg.rPlan (m : Msg) : Nat := bits m.arg0 7 0
def Msg.rStage (m : Msg) : Nat := bits m.arg0 15 8
def Msg.rNum (m : Msg) : Nat := bits m.arg0 63 32

/-- A Rotunda message comes from a neighbour of its named stage (14 R393). -/
def State.rotFrom (s : State) (p : Nat) (m : Msg) : Bool :=
  let r := s.plan p m.rPlan
  let e := plStage r m.rStage
  r ≠ 0 && decide (m.rStage < plStages r) && sgSize e ≠ 1
    && ((m.src = sgPrev e && m.spav = sgPrevPav e) || (m.kind = 6 && m.src = sgNext e && m.spav = sgNextPav e))

/-- How a message's instance stands: 0 the one in progress, 1 concluded, 2 a later one. -/
def State.rotAge (s : State) (p : Nat) (m : Msg) : Nat :=
  let d := (m.rNum + 2 ^ 32 - s.instCount p m.rPlan) % 2 ^ 32
  if d = 0 then 0 else if 2 ^ 31 ≤ d then 1 else 2

/-- The early buffer: 1 MiB for the whole chip (14 R393). -/
def earlySize := 1048576

/-- A Rotunda message is for a later instance than those in progress (14 R393): of a number still to come, or of the next one before it has
launched here. A BROADCAST passes on at once what comes for the next one (R397; log 93). -/
def State.rotEarly (s : State) (m : Msg) : Bool :=
  (m.kind = 5 || m.kind = 6) && s.rotFrom m.dpav m
    && match s.rotAge m.dpav m with
      | 0 => m.kind = 5 && plOp (s.plan m.dpav m.rPlan) ≠ 3
          && (match s.inst m.dpav m.rPlan with | none => true | some x => !x.launched && x.fail.isNone)
      | 1 => false
      | _ => true

/-- Messages for this chip that are coming in, by what has come of them. -/
def State.incoming (s : State) : List Msg :=
  s.ports.flatMap (fun r => r.2.rx.filterMap (fun v => if v.2.route = some .here then some (Msg.ofBytes v.2.got) else none))

/-- Bytes of the early buffer in use. -/
def State.earlyBytes (s : State) : Nat := (((s.link.delivered ++ s.incoming).filter s.rotEarly).map Msg.length).sum

/-- A message for a later instance finds no room in the early buffer: it waits in the link receive buffer and holds its credits (14 R393). -/
def State.earlyFull (s : State) (m : Msg) : Bool := s.rotEarly m && decide (earlySize < s.earlyBytes + m.length)

end Sys2Proof.Machine
end

