-- ==== Sys2Proof/Machine/Sundial.lean ====
section
/-! DEFINITION. Machine/Sundial.lean: the common time (02): epochs, election, delay and offset, states, frames, PTP and the PPS pins. -/

namespace Sys2Proof.Machine

/-! ### Ports for time (02 R39, R40) -/

/-- Port q carries flits directly, not over Ethernet (13 R374, R377). -/
def State.blp (s : State) (q : Nat) : Bool := decide (q < 56) || s.obj (0x2550 + (q - 56)) 1 = 0

/-- Port q is live for time (02 R40). -/
def State.liveTime (s : State) (q : Nat) : Bool :=
  let p := s.port q
  p.st = 4 && s.blp q && (match p.tm.last with | some t => decide (s.cyc.ns < t + 64000) | none => false)
    && (match s.time.epoch with | some e => p.tm.epoch = e.id | none => p.tm.epoch ≠ 0)

def State.livePorts (s : State) : List Nat := (List.range 64).filter s.liveTime

/-- The port of the lowest HOPS, lowest number first (02 R36, R40). -/
def State.lowestHops (s : State) (l : List Nat) : Option Nat :=
  match l with
  | [] => none
  | q :: rest => some (rest.foldl (fun a b => if (s.port b).tm.hops < (s.port a).tm.hops then b else a) q)

/-- Insert into a rising list. -/
def insertInt (x : Int) : List Int → List Int
  | [] => [x]
  | y :: l => if x ≤ y then x :: y :: l else y :: insertInt x l

/-- The median of the delay measurements (02 R39): the mean of the middle two, rounded down, for an even number; 0 below 0 or before any. -/
def medianDelay (l : List Int) : Nat :=
  let a := l.foldr insertInt []
  let n := a.length
  if n = 0 then 0
  else if n % 2 = 1 then (a.getD (n / 2) 0).toNat
  else ((a.getD (n / 2 - 1) 0 + a.getD (n / 2) 0) / 2).toNat

/-- PORT_DELAY of port q. -/
def State.portDelay (s : State) (q : Nat) : Nat := medianDelay (s.port q).tm.delays

/-! ### The count (02 R33, 19 R530) -/

/-- A pending WAITTIME completes with TIME_FREE and STEPPED when the count is set (19 R530). -/
def StreamSt.countSet (t : StreamSt) : StreamSt :=
  match t.wait with
  | .time _ => { t with wait := .none, flags := { t.flags with past := false, timeFree := true, holdover := false, stepped := true } }
  | _ => t

/-- The count is set to a value of the epoch formed or adopted, in either direction (19 R530). -/
def State.setCount (s : State) (v : Nat) (e : Epoch) : State :=
  { s with time := { s.time with now := v, epoch := some e },
           cores := s.cores.map (fun r => (r.1, { r.2 with sa := r.2.sa.countSet, sx := r.2.sx.countSet })),
           ports := s.ports.map (fun r => (r.1, { r.2 with tm := { r.2.tm with txAt := [] } })) }

/-- SUNDIAL_PPS_OUT is low while its enable is 0 or the state is FREE (02 R46). -/
def State.ppsGate (s : State) : State :=
  if s.time.ppsOut && (s.timeFree || s.obj 0x1104 2 = 0) then { s with time := { s.time with ppsOut := false } } else s

/-- Enter a Sundial state. -/
def State.enter (s : State) (st : Nat) : State := (s.setSundial st).ppsGate

/-- PTP is usable as a reference: enabled, with a Sync within 3 s (02 R44, Table 2-2). -/
def State.ptpUsable (s : State) : Bool :=
  s.obj 0x1103 1 = 1 && (match s.time.ptpLast with | some t => decide (s.cyc.ns < t + 3000000000) | none => false)

/-- SUNDIAL_REF in FREE (02 R57): BLP while an upstream is selected, else PTP while it is the reference of R44, else NONE. -/
def State.freeRef (s : State) : Nat := if s.time.upstream.isSome then 1 else if s.ptpUsable then 2 else 0

/-- Enter HOLDOVER with the present bound (02 R49). -/
def State.toHoldover (s : State) : State :=
  ({ s with time := { s.time with holdSince := some s.cyc.ns, inBound := 0, offset := none } }).enter 1

/-- Enter FREE. -/
def State.toFree (s : State) : State :=
  ({ s with time := { s.time with holdSince := none, inBound := 0, ref := s.freeRef } }).enter 0

/-- Enter LOCKED with a reference and a bound. -/
def State.toLocked (s : State) (ref bound : Nat) : State :=
  ({ s with time := { s.time with ref := ref, lockBound := bound, holdSince := none, lastLock := s.time.now } }).enter 2

/-- SUNDIAL_ERR_BOUND (02 R49, Table 2-4). -/
def State.errBound (s : State) : Nat :=
  match s.time.st with
  | 0 => 0xFFFFFFFF
  | 1 => s.time.lockBound + cdiv (50 * ((s.cyc.ns - s.time.holdSince.getD s.cyc.ns) / 1000)) 1000000
  | _ => s.time.lockBound

/-- HOLDOVER_ELAPSED in µs. -/
def State.holdElapsed (s : State) : Nat :=
  match s.time.st, s.time.holdSince with
  | 1, some t => (s.cyc.ns - t) / 1000
  | _, _ => 0

/-! ### Upstream and source (02 R36 to R41) -/

/-- Some port is live, and every live port carries the chip's epoch with HOPS 0xFF (02 R38). -/
def State.sourceGone (s : State) : Bool :=
  s.time.epoch.isSome && !s.livePorts.isEmpty && s.livePorts.all (fun q => (s.port q).tm.hops = 0xFF)

/-- Choose the upstream port again (02 R40, R41), and note whether the source looks lost (R38). An offset and the boundaries counted within
±8 ns belong to one reference: Belvedere gained or lost starts them anew (R48). A LOCKED chip left with no path of 24 hops goes to HOLDOVER
as one without any path does, and one on PTP that gains a path keeps LOCKED under the bound of R42 (log 69). -/
def State.reselect (s : State) : State :=
  if s.time.isSource then s
  else
    let best := s.lowestHops (s.livePorts.filter (fun q => decide ((s.port q).tm.hops < 0xFF)))
    let deep : Bool := match best with | some q => decide (24 < (s.port q).tm.hops + 1) | none => false
    let up := if deep then none else best
    let t := s.time
    let same := t.upstream.isSome = up.isSome
    let t := { t with treeDepth := deep, upstream := up,
                      hops := (match up with | some q => (s.port q).tm.hops + 1 | none => 0xFF),
                      lossSince := if s.sourceGone then some (t.lossSince.getD s.cyc.ns) else none,
                      electing := t.electing && s.sourceGone,
                      offset := if same then t.offset else none, inBound := if same then t.inBound else 0 }
    match up with
    | some q =>
      { s with time := { t with srcChip := (s.port q).tm.src, srcPrio := (s.port q).tm.prio,
                                ref := if t.st = 1 then t.ref else 1,
                                lockBound := if t.st = 2 && t.ref ≠ 1 then 12 else t.lockBound } }
    | none =>
      let s := { s with time := t }
      if t.st = 2 && t.ref = 1 then s.toHoldover
      else if t.st = 2 then s
      else { s with time := { t with ref := if t.st = 0 then s.freeRef else t.ref, offset := if s.ptpUsable then t.offset else none,
                                     inBound := if s.ptpUsable then t.inBound else 0 } }

/-- Offset that is left after slewing at 500 ppm since it was measured, in half thousandths of a ns (02 R50). -/
def State.residual (s : State) (o : Int) : Nat := o.natAbs * 2000 - (s.cyc.ns - s.time.offsetAt)

/-- A measured offset, local count less reference (02 Table 2-2, R50). -/
def State.measured (s : State) (o : Int) : State :=
  let s := { s with time := { s.time with offset := some o, offsetAt := s.cyc.ns } }
  if s.time.st = 2 && 1000 < o.natAbs then s.toFree
  else if s.time.st = 1 && s.errBound < o.natAbs then s.toFree
  else s

/-- The chip becomes the time source (02 R36, R38, R48): LOCKED with reference LOCAL and a bound of 0. Without an epoch it forms one: the
count becomes 0, and EPOCH_ID holds its chip ID over 48 random bits (13 R354). -/
def State.becomeSource (s : State) : State :=
  let s := match s.time.epoch with
    | some _ => s
    | none =>
      let (r, s) := s.draw
      let tai := if s.ptpUsable then s.time.ptpTai + (s.cyc.ns - s.time.ptpLast.getD s.cyc.ns) else 0
      s.setCount 0 { id := s.chipId % 2 ^ 15 * 2 ^ 48 + r % 2 ^ 48, tai := tai }
  let s := { s with time := { s.time with isSource := true, srcChip := s.chipId, srcPrio := s.obj 0x1101 1, hops := 0, upstream := none,
                                          electing := false, lossSince := none, offset := none } }
  s.toLocked 3 0

/-- SOURCE_ELECTION (02 R36, R38): among this chip and the others of its set, the highest SRC_PRIORITY wins, then the lowest chip ID; 0 never
wins. The chip takes part where it has counted the source as lost, or holds no epoch and sees none, from milestone 8 (19 R530). -/
def execSourceElection (others : List Candidate) (s : State) : Host.Outcome State Fault Refusal :=
  .next (
    let free := s.time.epoch.isNone && s.livePorts.isEmpty && s.boot.phase = 8
    if s.time.isSource || !(free || s.time.electing) then s
    else
      let me := s.obj 0x1101 1
      let beaten := others.any (fun o => decide (me < o.prio) || (o.prio = me && decide (o.chip < s.chipId)))
      if me = 0 || beaten then { s with time := { s.time with electing := false } } else s.becomeSource)

/-- SOURCE_LOSS (02 R38): after 250 µs in which some port was live and every live port carried HOPS 0xFF, an election begins. Ports that fall
silent in that time leave the live set; where none is left the source is not lost. -/
def execSourceLoss (s : State) : Host.Outcome State Fault Refusal :=
  .next (match s.time.lossSince with
    | some t =>
      if s.time.isSource then s
      else
        let s := s.elapseNs (t + 250000)
        if s.sourceGone then { s with time := { s.time with electing := true } } else { s with time := { s.time with lossSince := none } }
    | none => s)

/-- OWN_EPOCH_FORM (19 R530): 100 ms after milestone 8 a chip that may be source, holds no epoch and has no UP port forms its own. -/
def execOwnEpochForm (s : State) : Host.Outcome State Fault Refusal :=
  .next (
    if s.time.epoch.isSome || s.boot.phase ≠ 8 || s.obj 0x1101 1 = 0 || s.ports.any (fun r => r.2.st = 4) then s
    else (s.elapseNs (s.boot.ready8 + 100000000)).becomeSource)

/-- SUNDIAL_REFORM (02 R37): the epoch is dropped; refused while a Pavilion is ACTIVE or RESETTING. LOCKED becomes FREE; HOLDOVER ends only as
Table 2-2 lets it (log 81). -/
def State.reform (s : State) (v : Nat) : Nat × State :=
  if v = 0 then (stOk, s)
  else if s.anyPav then (stState, s)
  else
    let t := { s.time with epoch := none, isSource := false, srcChip := 0x7FFF, srcPrio := 0, hops := 0xFF, upstream := none,
                           offset := none, inBound := 0, electing := false, lossSince := none }
    let s := { s with time := t }
    (stOk, (if s.time.st = 1 then s else s.toFree).reselect)

/-! ### Time words (02 R39, 13 Table 13-3) -/

/-- HOPS a chip sends (02 R66). -/
def State.hopsOut (s : State) : Nat :=
  if s.time.isSource then 0 else if s.time.st = 2 && s.time.ref = 1 then s.time.hops else 0xFF

/-- The payload of port q's next TIME flit. -/
def State.timePayload (s : State) (q : Nat) : Nat :=
  let t := (s.port q).tm
  let e := s.time.epoch.getD { id := 0, tai := 0 }
  s.time.now % 2 ^ 64 + t.echoRx % 2 ^ 64 * 2 ^ 64 + (t.txSeq + 1) % 2 ^ 16 * 2 ^ 128 + t.echoSeq % 2 ^ 16 * 2 ^ 144 + e.id % 2 ^ 64 * 2 ^ 160
    + e.tai % 2 ^ 64 * 2 ^ 224 + s.time.srcChip % 2 ^ 15 * 2 ^ 288 + s.time.srcPrio % 256 * 2 ^ 304 + s.hopsOut % 256 * 2 ^ 312
    + s.time.st % 256 * 2 ^ 320 + s.chipId % 2 ^ 16 * 2 ^ 328 + q % 256 * 2 ^ 344

/-- A time word leaves port q. -/
def State.timeSent (s : State) (q : Nat) : State :=
  s.updPort q (fun p =>
    let n := (p.tm.txSeq + 1) % 2 ^ 16
    { p with tm := { p.tm with txSeq := n, lastSent := s.cyc.ns, txAt := Sparse.put (p.tm.txAt.drop (p.tm.txAt.length - 15)) n s.time.now } })

/-- The delay measurement of a received word (02 R39), if it echoes one of this port's words. -/
def State.measureDelay (s : State) (q pay : Nat) : State :=
  let p := s.port q
  let k := bits pay 159 144
  match Sparse.find p.tm.txAt k with
  | none => s
  | some t1 =>
    let asym := toSigned 32 (s.obj 0x1140 (q + 1))
    let d : Int := (((s.time.now : Int) - t1) - ((bits pay 63 0 : Int) - (bits pay 127 64 : Int))) / 2 + asym
    s.setPort q { p with tm := { p.tm with txAt := Sparse.del p.tm.txAt k, delays := (d :: p.tm.delays).take 8 } }

/-- The fields of a valid time word that its port keeps (02 R39, R40; 13 Table 13-3). -/
def PortTime.take (t : PortTime) (pay ns now : Nat) : PortTime :=
  { t with mismatch := false, echoSeq := bits pay 143 128, echoRx := now, last := some ns, epoch := bits pay 223 160, tai := bits pay 287 224,
           src := bits pay 302 288, prio := bits pay 311 304, hops := bits pay 319 312, state := bits pay 327 320 }

/-- A valid time word arrives on port q (02 R36 to R40, R50; 19 R530). A chip that holds an epoch ignores a word of another but for the mark of
its port and the record (R37, R61); the mark stays until a word of the port carries no other epoch (log 81). -/
def State.timeWord (s : State) (q pay : Nat) : State :=
  let id := bits pay 223 160
  let mism : Bool := match s.time.epoch with | some e => id ≠ 0 && id ≠ e.id | none => false
  if mism then
    let was := (s.port q).tm.mismatch
    let s := s.updPort q (fun p => { p with tm := { p.tm with mismatch := true } })
    if was then s else s.logRec 0x0034 q 0 none id
  else
    let s := if s.livePorts.isEmpty then { s with time := { s.time with lossSince := none } } else s
    let s := s.updPort q (fun p => { p with tm := p.tm.take pay s.cyc.ns s.time.now })
    let s := if s.liveTime q then s.measureDelay q pay else s
    let far := bits pay 63 0 + s.portDelay q
    match s.time.epoch with
    | none =>
      if id ≠ 0 && s.lowestHops s.livePorts = some q then
        (s.setCount far { id := id, tai := bits pay 287 224 }).reselect
      else s
    | some _ =>
      let s := s.reselect
      if s.time.upstream = some q && !s.time.isSource then s.measured ((s.time.now : Int) - far) else s

/-- PORT_TIME_LIVE_EXPIRY (02 R40): 64 µs after its last valid word the port leaves the live set. -/
def execPortTimeLiveExpiry (q : PortIx) (s : State) : Host.Outcome State Fault Refusal :=
  .next (match (s.port q).tm.last with
    | some t => (s.elapseNs (t + 64000)).reselect
    | none => s)

/-! ### PTP (02 R43 to R45) -/

/-- The management Ethernet works: MGMT_IP is set and its reference clock has not been lost (23 R610, 24 R626). -/
def State.mgmtNet (s : State) : Bool := s.obj 0x1200 2 ≠ 0 && !bit s.boot.clk 2

/-- PTP lock is lost (02 Table 2-2, 24 R626). -/
def State.ptpLost (s : State) : State :=
  let s := { s with time := { s.time with ptpLast := none } }
  if s.time.isSource then s
  else if s.time.st = 2 && s.time.ref = 2 then s.toHoldover
  else s.reselect

/-- A Sync of the kind Table 2-1 supports, of the domain PTP_DOMAIN (02 R43). -/
def State.ptpTakes (s : State) (m : PtpSync) : Bool :=
  s.obj 0x1103 1 = 1 && s.mgmtNet && m.udp4 && !m.peerDelay && decide (m.domain = s.obj 0x1103 2) && decide (1 ≤ m.rate) && decide (m.rate ≤ 128)

/-- What PTP_PHY_TX_DELAY and PTP_PHY_RX_DELAY add to an offset of the local count taken at the RGMII (02 Table 2-1): a word arrives RX_DELAY
before its timestamp and leaves TX_DELAY after it, which the two-way exchange halves (log 82). -/
def State.ptpPhy (s : State) : Int := ((s.obj 0x1103 3 : Int) - s.obj 0x1103 4) / 2

/-- PTP_SYNC_RECEIVED: the offset to the PTP reference (02 R43, R44). A source that has PTP lock keeps the epoch's TAI time once. -/
def execPtpSyncReceived (m : PtpSync) (s : State) : Host.Outcome State Fault Refusal :=
  .next (
    if !s.ptpTakes m then s
    else
      let off := m.offset + s.ptpPhy
      let s := { s with time := { s.time with ptpLast := some s.cyc.ns, ptpOffset := off, ptpTai := (m.tai - s.ptpPhy).toNat } }
      if s.time.isSource || s.time.upstream.isSome then s
      else
        let s := if s.time.st = 1 then s else { s with time := { s.time with ref := 2 } }
        if s.time.epoch.isNone then s else s.measured off)

/-- PTP_SYNC_TIMEOUT (02 Table 2-2): 3 s without Sync. -/
def execPtpSyncTimeout (s : State) : Host.Outcome State Fault Refusal :=
  .next (match s.time.ptpLast with
    | some t => (s.elapseNs (t + 3000000000)).ptpLost
    | none => s)

/-- HOLDOVER_EXPIRY (02 Table 2-2): 2 s in HOLDOVER. -/
def execHoldoverExpiry (s : State) : Host.Outcome State Fault Refusal :=
  .next (match s.time.st, s.time.holdSince with
    | 1, some t => (s.elapseNs (t + 2000000000)).toFree.reselect
    | _, _ => s)

/-! ### Frame boundaries (02 R48, R50; 16 R452; 13 R371) -/

/-- Step the count forward to the reference (02 R50): events that the step passes take effect at it (R55). -/
def State.stepForward (s : State) (k : Nat) : State :=
  let old := s.time.now
  let end_ := old + k
  let s := { s with time := { s.time with now := end_, stepped := true, offset := some 0, offsetAt := s.cyc.ns, inBound := 0 },
                    cyc := { s.cyc with stepFrom := some s.time.now, lastStep := end_ } }
  (List.range 16).foldl (fun s p => s.bsPassed old p) s

/-- The lock criteria at a frame boundary (02 Table 2-2). -/
def State.lockCheck (s : State) : State :=
  if s.time.isSource then s
  else
    match s.time.offset with
    | none => { s with time := { s.time with inBound := 0 } }
    | some o =>
      if o < -1000 then (s.toFree).stepForward o.natAbs
      else
        let n := if s.residual o ≤ 16000 then s.time.inBound + 1 else 0
        let s := { s with time := { s.time with inBound := n } }
        if n < 8 || s.time.st = 2 || s.time.epoch.isNone then s
        else if s.time.upstream.isSome then s.toLocked 1 12
        else if s.ptpUsable then s.toLocked 2 500
        else s

/-! ### The PPS pins (02 R46, R47) -/

/-- PPS_OUT_RISE: the count passes the next whole second. -/
def execPpsOutRise (s : State) : Host.Outcome State Fault Refusal :=
  .next (
    let s := s.elapseTo (1000000000 * (s.time.now / 1000000000 + 1))
    if s.obj 0x1104 2 = 1 && !s.timeFree then { s with time := { s.time with ppsOut := true, ppsRise := s.cyc.ns } } else s)

/-- PPS_OUT_FALL: 100 µs after its rise the pin falls. -/
def execPpsOutFall (s : State) : Host.Outcome State Fault Refusal :=
  .next (
    if s.time.ppsOut then
      let s := s.elapseNs (s.time.ppsRise + 100000)
      { s with time := { s.time with ppsOut := false } }
    else s)

/-- PPS_IN_EDGE: TIMESTAMP and DISCIPLINE record the count less the cable delay, 0 below 0; the source in DISCIPLINE also trims its rate, by
an amount within 500 ppm that the manual does not give (log 24). -/
def execPpsInEdge (s : State) : Host.Outcome State Fault Refusal :=
  .next (
    let m := s.obj 0x1104 1
    if m = 1 || m = 2 then
      let s := { s with time := { s.time with ppsLast := ((s.time.now : Int) - toSigned 32 (s.obj 0x1104 4)).toNat } }
      if m = 2 && s.time.isSource then
        let (r, s) := s.draw
        { s with time := { s.time with trim := (r % 1001 : Nat) - 500 } }
      else s
    else s)

/-! ### Objects (02 Table 2-4) -/

/-- SUNDIAL_STATUS (02 R57). -/
def State.sundialStatus (s : State) : Nat :=
  let slewing : Bool := match s.time.offset with
    | some o => decide (0 < s.residual o) && !s.time.isSource && (decide (-1000 ≤ o))
    | none => false
  b2n s.time.treeDepth + 2 * b2n (s.ports.any (fun r => r.2.tm.mismatch)) + 4 * b2n s.time.stepped + 8 * b2n slewing + 16 * b2n s.time.electing

/-- A read of SUNDIAL_STATUS clears its step bit (02 R57). -/
def State.sundialStatusRead (s : State) : State := { s with time := { s.time with stepped := false } }

/-- Live values of the Sundial objects. -/
def State.timeRead (s : State) (i sub : Nat) : Option Nat :=
  let t := s.time
  match i, sub with
  | 0x1100, 1 => some t.now
  | 0x1100, 2 => some t.st
  | 0x1100, 3 => some t.ref
  | 0x1100, 4 => some s.errBound
  | 0x1100, 5 => some (frameOf t.now)
  | 0x1100, 6 => some (slotOf t.now)
  | 0x1100, 7 => some s.sundialStatus
  | 0x1101, 2 => some t.srcChip
  | 0x1101, 3 => some t.hops
  | 0x1101, 4 => some (t.upstream.getD 0xFF)
  | 0x1101, 5 => some ((t.epoch.map Epoch.tai).getD 0)
  | 0x1102, 1 => some s.holdElapsed
  | 0x1102, 2 => some t.lastLock
  | 0x1103, 5 => some (ofSigned 32 t.ptpOffset)
  | 0x1104, 3 => some t.ppsLast
  | _, _ =>
    if i = 0x1180 && 1 ≤ sub && sub ≤ 0x40 then
      some (s.portDelay (sub - 1) % 2 ^ 32 + b2n (s.port (sub - 1)).tm.mismatch * 2 ^ 32 + b2n (s.liveTime (sub - 1)) * 2 ^ 33)
    else none

/-- The effect of a write to a Sundial object. -/
def State.timeWrite (s : State) (i sub v : Nat) : Option (Nat × State) :=
  if i = 0x1106 && sub = 1 then some (s.reform v)
  else if i = 0x1104 && sub = 2 then some (stOk, (s.setObj i sub v).ppsGate)
  else none

end Sys2Proof.Machine
end

