-- ==== Sys2Proof/Machine/Links.lean ====
section
/-! DEFINITION. Machine/Links.lean: Belvedere (13): routing, discards and notices, injection, flit slots, reception, credits and retry,
port states and training, Ethernet mode, and the frame boundary's link check. -/

namespace Sys2Proof.Machine

/-! ### Routing (13 R362 to R364) -/

/-- No chip ID is assigned (13 Table 13-3): CHIP_ID holds its default. -/
def State.wireChip (s : State) : Nat := if s.chipId = 0x7FFF then 0xFFFF else s.chipId

/-- Port q counts as UP for routing (13 R362, R370). -/
def State.portUp (s : State) (q : Nat) : Bool := (s.port q).st = 4 && !(s.port q).peerHold

/-- ROUTE_ACTIVE of a chip. -/
def State.routeByte (s : State) (chip : Nat) : Nat :=
  match s.link.active with
  | some v => bits v (8 * chip + 7) (8 * chip)
  | none => 0xFF

/-- Where a message goes from this chip: the chip itself, an output port, or a reason of Table 13-6. -/
inductive Hop where
  | here
  | port (q : Nat)
  | fail (reason : Nat)
deriving DecidableEq, Repr, Inhabited

/-- Route a message (13 R362, R364, R382): where ROUTE_ACTIVE says, for the chip's own ID too. -/
def State.hop (s : State) (m : Msg) : Hop :=
  let b := s.routeByte m.dst
  if b = 0xFE then .here
  else if 15 < b then .fail 2
  else
    match (bitList (Sparse.getD s.link.bundles b 0) 64).filter s.portUp with
    | [] => .fail 1
    | q :: qs =>
      if s.obj 0x2540 5 < m.hops + 1 then .fail 3
      else .port ((q :: qs).getD ((m.src + m.dst) % (q :: qs).length) q)

/-- The dateline bit of a hop (13 R361): `inp` is the input port and D of a transit message. -/
def State.dateline (s : State) (inp : Option (Nat × Nat)) (q : Nat) : Nat :=
  if s.obj (0x2500 + q) 6 = 1 then 1
  else match inp with
    | none => 0
    | some (i, d) => if s.obj (0x2500 + i) 5 ≠ s.obj (0x2500 + q) 5 then 0 else d

/-- Two messages have one source and one destination chip; in one virtual channel they are of one flow (13 R362). -/
def Msg.samePath (a b : Msg) : Bool := a.src = b.src && a.dst = b.dst

/-- An earlier message of the flow of virtual channel `vc` is still to be acknowledged on another port than q (13 R362). -/
def State.flowHeld (s : State) (m : Msg) (vc q : Nat) : Bool :=
  s.ports.any (fun r => r.1 ≠ q && (r.2.tx.any (fun t => t.vc = vc && t.hdr.samePath m) || r.2.ll.retry.any (fun t => t.flit.vc = vc && t.hdr.samePath m)))

/-- A message is a Pavilion's (13 R364, R372): kinds 1 to 6, and a NOTICE of one. -/
def Msg.ofPav (m : Msg) : Bool :=
  (decide (1 ≤ m.kind) && decide (m.kind ≤ 6))
    || (m.kind = 8 && (let k := bits (leNat (rawBytes (m.data.take 32))) 55 52; decide (1 ≤ k) && decide (k ≤ 6)))

/-- A message comes to its destination, this chip (13 R360, R364, R372; 11 R325): a reserved kind is dropped, a Pavilion that is not active
gives reason 4, and a DICE_RESULT for one that is being reset is discarded without a NOTICE. -/
def State.takeHere (s : State) (m : Msg) : Except Nat State :=
  if m.kind = 0 || 8 < m.kind || (m.kind = 7 && m.arg0 % 256 ≠ 1 && m.arg0 % 256 ≠ 2) then
    .ok ((s.tallyAdd 0x39 0 1).logRec 0x0033 0 1 none (m.kind + m.src * 2 ^ 32))
  else if m.ofPav && ((s.pav m.dpav).st ≠ .active || (s.pav m.dpav).resetAt ≠ 0) then
    if m.kind = 4 && (s.pav m.dpav).st ≠ .free then .ok ((s.tallyAdd 0x38 0 1).tallyAdd 0x27 m.dpav 1) else .error 4
  else .ok { s with link := { s.link with delivered := s.link.delivered ++ [{ m with arr := s.cyc.cycles }] } }

/-- Put an injected message with its level into the queue of its port, hold it, or take it here; else the reason of its discard. -/
def State.place (s : State) (i : Inject) : Except Nat State :=
  match s.hop i.msg with
  | .here => s.takeHere i.msg
  | .fail r => .error r
  | .port q =>
    let m := { i.msg with hops := i.msg.hops + 1 }
    let vc := 2 * m.cls + s.dateline none q
    if s.flowHeld i.msg vc q || s.link.inject.any (fun x => x.msg.samePath i.msg && x.msg.cls = i.msg.cls) then
      .ok { s with link := { s.link with inject := s.link.inject ++ [i] } }
    else
      let t : TxMsg := { vc := vc, pav := m.spav, inPort := none, flits := m.flits vc, whole := true, started := false, hdr := m,
                         core := i.core, cmd := i.cmd, frame := i.frame }
      .ok (s.updPort q (fun p => { p with tx := p.tx ++ [t] }))

/-- The chip that a message's tag names (13 R364), for kinds 1 to 4. -/
def Msg.tagChip (m : Msg) : Option Nat :=
  if m.kind = 3 || m.kind = 4 then some (bits m.arg0 63 49)
  else if (m.kind = 1 || m.kind = 2) && 8 ≤ m.data.length then some (bits (leNat (rawBytes (m.data.take 8))) 63 49)
  else none

/-- The NOTICE of a discarded message (13 Table 13-5). -/
def State.notice (s : State) (m : Msg) (reason chip : Nat) : Msg :=
  { dst := chip, src := s.chipId, dpav := m.spav, spav := m.spav, kind := 8, hops := 0, arg0 := reason, arg1 := s.chipId,
    data := clean (leBytes 32 (m.header m.length)), level := 3 }

/-- Send a NOTICE; one that is itself discarded is only counted (13 R364). A chip that discards its own message acts on it at once (R365). -/
def State.sendNotice (s : State) (m : Msg) (reason chip : Nat) : State :=
  let n := s.notice m reason chip
  match (if chip = s.chipId then s.takeHere n else s.place { msg := n, core := 0, cmd := 0, frame := s.frame }) with
  | .ok s => s
  | .error _ => s.tallyAdd 0x38 0 1

/-- Discard a message for a reason (13 R364). -/
def State.dropMsg (s : State) (m : Msg) (reason : Nat) : State :=
  let s := s.tallyAdd 0x38 0 1
  if m.kind = 8 then s
  else
    let s := s.sendNotice m reason m.src
    match m.tagChip with
    | some c => if c = m.src then s else s.sendNotice m reason c
    | none => s

/-- A message of a command has waited LINK_INJECT_LIMIT and was refused at injection (13 R366; 16 R446, R447). -/
def State.injectRefused (s : State) (core cmd : Nat) : State :=
  if cmd = 0 then s else s.updCmd core cmd (fun r => { r with refused := true })

/-- Inject a message (13 R361, R362; 16 R436): `cls` is the class of its stream or plan, none for SYSTEM. -/
def State.sendMsg (s : State) (m : Msg) (cls : Option Nat) (core cmd : Nat) : State :=
  let (l, s) := match cls, s.hop m with
    | some k, .port q => s.mark m.spav (100 + q) k (msgFlits m.data.length)
    | some k, _ => (k, s)
    | none, _ => (3, s)
  match s.place { msg := { m with level := l }, core := core, cmd := cmd, frame := s.frame } with
  | .ok s => s
  | .error r => s.dropMsg { m with level := l } r

/-- Messages that waited for their flow are tried again, in order. -/
def State.pumpInject (s : State) : State :=
  let l := s.link.inject
  l.foldl (fun s i => match s.place i with
    | .ok s => s
    | .error r => s.dropMsg i.msg r) { s with link := { s.link with inject := [] } }

/-! ### Credits, acknowledgements and retry (13 R355 to R358) -/

def State.updLl (s : State) (q : Nat) (f : PortLl → PortLl) : State := s.updPort q (fun p => { p with ll := f p.ll })

/-- VC_CREDITS of a virtual channel. -/
def State.vcCredits (s : State) (vc : Nat) : Nat := s.obj 0x2542 (vc + 1)

/-- Credits that port q may still return for a virtual channel go to its peer with the next header (13 R355). -/
def State.owe (s : State) (q vc n : Nat) : State :=
  s.updLl q (fun l => { l with owed := Sparse.put l.owed vc (Sparse.getD l.owed vc 0 + n) })

/-- The virtual channel whose credits the next header returns: round robin in ascending order (13 R355). -/
def PortLl.nextOwed (l : PortLl) : Option Nat :=
  ((List.range 8).map (fun i => (l.owedNext + i) % 8)).find? (fun v => Sparse.getD l.owed v 0 ≠ 0)

/-- ACK and the credit return that a header carries (13 R353, R355, R357). -/
def PortLl.header (l : PortLl) (f : Flit) : Flit :=
  let f := { f with ackV := l.rxAny, ack := if l.rxAny then (l.rxSeq + 4095) % 4096 else 0 }
  match l.nextOwed with
  | none => f
  | some v => { f with credV := true, credVc := v, cred := min 511 (Sparse.getD l.owed v 0) }

/-- The credits of a header have been returned. -/
def State.returned (s : State) (q : Nat) : State :=
  s.updLl q (fun l => match l.nextOwed with
    | none => l
    | some v =>
      let n := min 511 (Sparse.getD l.owed v 0)
      { l with owed := Sparse.put l.owed v (Sparse.getD l.owed v 0 - n), owedNext := (v + 1) % 8,
               granted := Sparse.put l.granted v (Sparse.getD l.granted v (s.vcCredits v) + n) })

/-! ### Ethernet frames (13 R374, R375) -/

/-- A big-endian field of `n` bytes. -/
def beBytes (n v : Nat) : List Byte := (leBytes n v).reverse

/-- The one's complement checksum of an IPv4 header given as bytes. -/
def ipSum : List Byte → Nat
  | a :: b :: l => a.toNat * 256 + b.toNat + ipSum l
  | [a] => a.toNat * 256
  | [] => 0

def ipFold (v : Nat) : Nat := let a := v % 65536 + v / 65536; a % 65536 + a / 65536

/-- The IPv4 header of a frame with a UDP payload of `len` bytes (13 R375). -/
def ipHeader (dscp src dst len : Nat) (sum : Nat) : List Byte :=
  beBytes 1 0x45 ++ beBytes 1 (4 * dscp) ++ beBytes 2 (28 + len) ++ beBytes 2 0 ++ beBytes 2 0x4000 ++ beBytes 1 64 ++ beBytes 1 17
    ++ beBytes 2 sum ++ beBytes 4 src ++ beBytes 4 dst

/-- The bytes of a frame of Ethernet port 56 + k that carries these flits, FCS last (13 R375). -/
def State.ethFrame (s : State) (k : Nat) (flits : List (BitVec 2048)) : List Byte :=
  let o := fun sub => s.obj (0x2550 + k) sub
  let len := 4 + 256 * flits.length
  let tag := if bits (o 6) 11 0 = 0 then [] else beBytes 2 0x8100 ++ beBytes 2 (o 6)
  let sum := 65535 - ipFold (ipSum (ipHeader (o 7) (o 4) (o 5) len 0))
  let b := beBytes 6 (o 3) ++ beBytes 6 (o 2) ++ tag ++ beBytes 2 0x0800 ++ ipHeader (o 7) (o 4) (o 5) len sum
    ++ beBytes 2 48061 ++ beBytes 2 48061 ++ beBytes 2 (8 + len) ++ beBytes 2 0
    ++ leBytes 4 flits.length ++ (flits.map (fun f => leBytes 256 f.toNat)).flatten
  b ++ leBytes 4 (crc32 b)

/-- Send the frame under construction. -/
def State.ethSend (s : State) (q : Nat) : State :=
  let p := s.port q
  if p.ethBuf.isEmpty then s
  else (s.setPort q { p with ethBuf := [], ethLast := s.cyc.ns }).emit (.frame q (s.ethFrame (q - 56) p.ethBuf))

/-- A flit leaves port q: on its lanes as FEC-input blocks (13 R351), or into the Ethernet frame under construction, which goes when it is full. -/
def State.sendFlit (s : State) (q : Nat) (f : Flit) : State :=
  let x := ((s.port q).ll.header f).encode
  let s := s.returned q
  if s.blp q then (s.emit (.flit q (fecBlocks (s.port q).blocks x))).updPort q (fun p => { p with blocks := (p.blocks + 8) % 65535 })
  else
    let s := s.updPort q (fun p => { p with ethBuf := p.ethBuf ++ [x], ethFirst := if p.ethBuf.isEmpty then s.cyc.ns else p.ethFirst })
    if (s.port q).ethBuf.length < s.obj (0x2550 + (q - 56)) 8 then s else s.ethSend q

/-! ### Port states (13 R368 to R371) -/

/-- The first training attempt of the group that started last has ended (13 R369). -/
def State.lastGroupEnded (s : State) : Bool :=
  (List.range 8).all (fun i =>
    let p := s.port (8 * (s.link.group - 1) + i)
    !(p.st = 1 && p.since = s.link.groupAt && p.retryAt.isNone))

/-- Every port of the group that started last has left TRAINING (13 R369); a port that waits to try again has not (Table 13-7). -/
def State.lastGroupLeft (s : State) : Bool := (List.range 8).all (fun i => (s.port (8 * (s.link.group - 1) + i)).st ≠ 1)

/-- READY_EST during power-up (19 R529). -/
def State.readyEst (s : State) : Nat :=
  if s.boot.ready then 0
  else if s.link.group = 0 then 40000
  else 5000 * (8 - (s.link.group - 1) - b2n s.lastGroupEnded)

/-- A milestone of power-up is reached: BOOT_PHASE and BOOT_TIME (19 Table 19-3). -/
def State.milestone (s : State) (n : Nat) : State :=
  { s with boot := { s.boot with phase := n, times := Sparse.put s.boot.times n ((s.cyc.ns - s.boot.t0) / 1000) } }

/-- Milestone 7: group 7's first training attempt has ended (19 Table 19-1). -/
def State.groupsCheck (s : State) : State :=
  if s.boot.phase = 6 && s.link.group = 8 && s.lastGroupEnded then s.milestone 7 else s

/-- The chip is READY, RUN or DEGRADED. -/
def State.inService (s : State) : Bool := let c := s.chipState; decide (2 ≤ c) && decide (c ≤ 4)

/-- Messages of a retry buffer that have been sent whole: the header of each, by channel. -/
def sentWhole (retry : List RFlit) : List Msg :=
  (List.range 8).flatMap (fun vc =>
    ((retry.filter (fun r => r.flit.vc = vc && r.flit.tail)).map (·.hdr)))

/-- Keep the messages of every transmit queue that a test names. -/
def State.keepTx (s : State) (keep : TxMsg → Bool) : State :=
  { s with ports := s.ports.map (fun r => (r.1, { r.2 with tx := r.2.tx.filter keep })) }

/-- Transit messages of which port q has not received the TAIL, at their output ports, are cut off: they are removed, and the virtual
channel goes on with the next HEAD flit (log 30). -/
def State.cutTransit (s : State) (q : Nat) : List Msg × State :=
  let hit := fun (t : TxMsg) => !t.whole && (match t.inPort with | some i => i / 8 = q | none => false)
  ((s.ports.flatMap (fun r => r.2.tx.filter hit)).map (·.hdr), s.keepTx (fun t => !hit t))

/-- Messages received by port q and not yet routed or delivered. -/
def Port.received (p : Port) : List Msg :=
  p.rx.flatMap (fun r =>
    (r.2.flits.filter (·.head)).map (fun d => Msg.ofBytes (clean d.payload))
      ++ (match r.2.route with | some .here => if r.2.got.isEmpty then [] else [Msg.ofBytes r.2.got] | _ => []))

/-- Flits of transit messages leave the receive buffers they stand in without being sent: their credits go back, and what is still to
come of the message is dropped. -/
def State.dropTransit (s : State) (ts : List TxMsg) : State :=
  ts.foldl (fun s t => match t.inPort with
    | none => s
    | some i =>
      let s := s.owe (i / 8) (i % 8) t.flits.length
      if t.whole then s
      else s.updPort (i / 8) (fun p => { p with rx := Sparse.put p.rx (i % 8) { Sparse.getD p.rx (i % 8) {} with route := some .discard } })) s

/-- The discards of a port that goes DOWN or is disabled (13 R371): every message with a flit in its queues or retry buffer, under
reason 1; credits return to their INIT values; the record and the link-event cause. -/
def State.portFall (s : State) (q st : Nat) : State :=
  let p := s.port q
  let was := p.st
  let (cut, s) := s.cutTransit q
  let p := s.port q
  let gone := sentWhole p.ll.retry ++ p.tx.map (·.hdr) ++ p.received ++ cut
  let s := s.setPort q { p with st := st, since := s.cyc.ns, retryAt := none, ll := {}, rx := [], tx := [], ethBuf := [], frameUncorr := 0,
                                peerHold := false }
  let s := s.dropTransit p.tx
  let s := gone.foldl (fun s m => s.dropMsg m 1) s
  let s := (s.logRec 0x0031 q 2 none was).raise 0 0
  (if was = 4 then s.reselect else s).pumpInject

/-- A port begins a training attempt. -/
def State.train (s : State) (q : Nat) : State :=
  s.updPort q (fun p => { p with st := 1, since := s.cyc.ns, retryAt := none })

/-- Port q goes DOWN, and with the discards done to TRAINING (13 Table 13-7). -/
def State.portDown (s : State) (q : Nat) : State := (s.portFall q 6).train q

/-- Port q goes to RETRAIN (13 R371). -/
def State.retrain (s : State) (q : Nat) : State :=
  let p := s.port q
  if 2 ≤ p.st && p.st ≤ 4 then
    let s := s.setPort q { p with st := 5, since := s.cyc.ns, frameUncorr := 0,
                                  ll := { p.ll with nakCount := 0, nakDue := false, dropping := false, initSent := 0, initGot := false } }
    if p.st = 4 then s.reselect else s
  else s

/-- A protocol error of 13 R358: record and retrain. -/
def State.protocolError (s : State) (q seq : Nat) : State := (s.logRec 0x0030 q 2 none seq).retrain q

/-- The port comes UP when INIT has been received and sent 4 times (13 Table 13-7). PORT_CREDIT_LOOP then reports a loop time that the
manual bounds by 260 ns and twice the delay of the cable (R356). -/
def State.tryUp (s : State) (q : Nat) : State :=
  let p := s.port q
  if p.st = 3 && p.ll.initGot && decide (4 ≤ p.ll.initSent) then
    let (r, s) := s.draw
    let p := { p with st := 4, since := s.cyc.ns, wasUp := true, fails := 0, creditLoop := r % (261 + 2 * Config.cableDelay q) % 2 ^ 32,
                      frameUncorr := 0, tm := { p.tm with delays := [], txAt := [], last := none, lastSent := s.cyc.ns } }
    (s.setPort q p).pumpInject
  else s

/-- A port is fenced (18 R510): reason 0 training, 1 request. -/
def State.fencePort (s : State) (q reason : Nat) : State :=
  let s := if (s.port q).st = 0 || (s.port q).st = 1 || (s.port q).st = 6 then s else s.portFall q 0
  let s := s.updPort q (fun p => { p with fenced := true, st := 0, retryAt := none })
  let s := { s with integ := { s.integ with fencePorts := setBit s.integ.fencePorts q true, storePending := true } }
  ((s.logRec 0x0052 q 3 none reason).raise 0 1).syncChip

/-- The HOLD flit of port q (13 Table 13-3, R370). -/
def State.holdFlit (s : State) (q : Nat) : Flit :=
  let est := if (s.port q).st = 2 then s.readyEst else 0
  let reason := if s.chipState = 5 then 3 else if s.inService then 1 else 0
  { ty := ftHold, payload := est % 2 ^ 32 + reason * 2 ^ 32 + s.wireChip * 2 ^ 40 }

/-- The INIT flit of port q. -/
def State.initFlit (s : State) (q : Nat) : Flit :=
  { ty := ftInit, payload := leNat ((List.range 8).map (fun v => BitVec.ofNat 8 (s.vcCredits v))) + s.chipId % 65536 * 2 ^ 64 + q * 2 ^ 80
      + 2 ^ 96 }

/-- Send a HOLD flit; no INIT goes earlier than its estimate (13 R370). -/
def State.sendHold (s : State) (q : Nat) : State :=
  let est := bits (s.holdFlit q).payload 31 0
  (s.sendFlit q (s.holdFlit q)).updPort q (fun p => { p with noInitBefore := max p.noInitBefore (s.cyc.ns + 1000 * est) })

/-! ### Flit slots (13 R366) -/

/-- A message that may send its next flit: it has one, its channel has a credit, and no other message has begun on that channel
(13 R355, R359). -/
def Port.ready (p : Port) (t : TxMsg) : Bool :=
  !t.flits.isEmpty && Sparse.getD p.ll.credits t.vc 0 ≠ 0 && (t.started || p.tx.all (fun x => !(x.started && x.vc = t.vc)))

/-- Order of 13 R366: class, transit by input port, then injected by Pavilion; a data message of the Pavilion whose slot it is goes first among the
injected of its level (16 R438). -/
def State.txRank (s : State) (t : TxMsg) : Nat :=
  t.vc / 2 * 1000 + (match t.inPort with
    | some i => i / 8
    | none => (if t.vc / 2 ≠ 0 && s.slotFirst t.pav then 100 else 200) + t.pav)

/-- Place in the transmit queue of the message that sends next. -/
def State.nextTx (s : State) (q : Nat) : Option Nat :=
  let p := s.port q
  (List.range p.tx.length).foldl (fun best i =>
    match p.tx[i]? with
    | none => best
    | some t =>
      if !p.ready t then best
      else match best.bind (fun b => p.tx[b]?) with
        | none => some i
        | some b => if s.txRank t < s.txRank b then some i else best) none

/-- Send the next flit of message i of the transmit queue. -/
def State.sendData (s : State) (q i : Nat) : State :=
  let p := s.port q
  match p.tx[i]? with
  | none => s
  | some t =>
    match t.flits with
    | [] => s
    | d :: rest =>
      let n := if t.inPort.isNone && !t.started then s.frame - t.frame else 0
      let t' := { t with flits := rest, started := true }
      let tx := if rest.isEmpty && t.whole then p.tx.eraseIdx i else p.tx.set i t'
      let seq := p.ll.txSeq
      let ll := { p.ll with txSeq := (seq + 1) % 4096, retry := p.ll.retry ++ [{ seq := seq, flit := d, hdr := t.hdr }],
                            credits := Sparse.put p.ll.credits t.vc (Sparse.getD p.ll.credits t.vc 0 - 1) }
      let s := s.setPort q { p with tx := tx, ll := ll }
      let s := if n = 0 then s else s.tallyAdd 0x32 q n
      let s := if n = 0 || t.cmd = 0 then s else s.updCmd t.core t.cmd (fun r => { r with defer := max r.defer n })
      let s := match t.inPort with | some j => s.owe (j / 8) (j % 8) 1 | none => s
      s.sendFlit q (d.flit seq)

/-- A TIME flit leaves port q (13 R354). -/
def State.sendTime (s : State) (q : Nat) : State :=
  let f : Flit := { ty := ftTime, payload := s.timePayload q }
  (s.sendFlit q f).timeSent q

/-- A NAK leaves port q; the eighth in a row for one SEQ retrains the port (13 R371). -/
def State.sendNak (s : State) (q : Nat) : State :=
  let s := s.updLl q (fun l => { l with nakDue := false, nakCount := l.nakCount + 1 })
  let s := s.sendFlit q { ty := ftNak }
  if 8 ≤ (s.port q).ll.nakCount then s.retrain q else s

/-- Replay the next flit (13 R357). -/
def State.sendReplay (s : State) (q : Nat) (r : RFlit) : State :=
  let s := s.updPort q (fun p => { p with retries := (p.retries + 1) % 2 ^ 64, ll := { p.ll with replay := p.ll.replay.tail } })
  (s.tallyAdd 0x31 q 1).sendFlit q (r.flit.flit r.seq)

/-- What port q sends in a slot while it is UP (13 R366). -/
def State.slotUp (s : State) (q : Nat) : State :=
  let p := s.port q
  if s.blp q && decide (p.tm.lastSent + 16000 ≤ s.cyc.ns) then s.sendTime q
  else if p.ll.nakDue then s.sendNak q
  else
    match p.ll.replay with
    | r :: _ => s.sendReplay q r
    | [] =>
      match (if p.ll.retry.length < 512 then s.nextTx q else none) with
      | some i => s.sendData q i
      | none => if s.blp q then s.sendFlit q {} else s

/-- A port in HOLD goes to INIT once the chip is in service, it is enabled, and its estimate has passed (13 Table 13-7, R370). -/
def State.holdToInit (s : State) (q : Nat) : State :=
  let p := s.port q
  if p.st = 2 && s.inService && s.obj (0x2500 + q) 1 = 1 && decide (p.noInitBefore ≤ s.cyc.ns) then
    s.setPort q { p with st := 3, since := s.cyc.ns }
  else s

/-- FLIT_SLOT (13 R366, R368, R370). A chip in FAULT sends HOLD on every trained port. -/
def execFlitSlot (q : PortIx) (s : State) : Host.Outcome State Fault Refusal :=
  s.clocked (fun s =>
    let s := s.holdToInit q
    let p := s.port q
    if p.st = 2 then s.sendHold q
    else if (p.st = 3 || p.st = 4) && s.chipState = 5 then s.sendHold q
    else if p.st = 3 then
      if s.inService && decide (p.noInitBefore ≤ s.cyc.ns) then
        (((s.sendFlit q (s.initFlit q)).updLl q (fun l => { l with initSent := l.initSent + 1 })).tryUp q)
      else s.sendHold q
    else if p.st = 4 then (if p.peerHold then (if s.blp q then s.sendFlit q {} else s) else s.slotUp q)
    else s)

/-- TIME_WORD_DUE (13 R354, 02 R39): 16 µs after the last. -/
def execTimeWordDue (q : PortIx) (s : State) : Host.Outcome State Fault Refusal :=
  s.clocked (fun s =>
    if (s.port q).st = 4 && s.blp q && !(s.port q).peerHold && s.chipState ≠ 5 then
      (s.elapseNs ((s.port q).tm.lastSent + 16000)).sendTime q
    else s)

/-! ### Reception (13 R353 to R358) -/

/-- Port q is trained and takes flits. -/
def Port.takes (p : Port) : Bool := decide (2 ≤ p.st) && decide (p.st ≤ 4)

/-- What the FEC has found in what port q received: `none` an uncorrectable codeword, `some k` that it corrected k symbols (13 Table 13-10
PORT_FEC_CORR, PORT_FEC_UNCORR). -/
def State.fecSeen (s : State) (q : Nat) (fec : Option Nat) : State :=
  match fec with
  | none => s.updPort q (fun p => { p with fecUncorr := (p.fecUncorr + 1) % 2 ^ 64, frameUncorr := p.frameUncorr + 1 })
  | some 0 => s
  | some k => s.updPort q (fun p => { p with fecCorr := (p.fecCorr + k) % 2 ^ 64 })

/-- A bad flit (13 R353, R357): counted; a NAK is due. -/
def State.rxBad (s : State) (q : Nat) : State :=
  (s.tallyAdd 0x30 q 1).updPort q (fun p =>
    if p.st = 4 then { p with ll := { p.ll with nakDue := true, dropping := true } } else p)

/-- Retry flits left after an acknowledgement of `a`. -/
def ackTo (l : List RFlit) (a : Nat) : List RFlit :=
  if l.any (fun r => r.seq = a) then ((l.dropWhile (fun r => r.seq ≠ a))).tail else l

/-- ACK and credits of a good flit (13 R353, R355, R357). -/
def State.rxHeader (s : State) (q : Nat) (f : Flit) : State :=
  let n := (s.port q).ll.retry.length
  let s := s.updLl q (fun l =>
    let l := if f.ackV then
        let r := ackTo l.retry f.ack
        { l with retry := r, replay := l.replay.filter (fun x => r.any (fun y => y.seq = x.seq)) } else l
    if f.credV && !l.credits.isEmpty then { l with credits := Sparse.put l.credits f.credVc (Sparse.getD l.credits f.credVc 0 + f.cred) }
    else l)
  if (s.port q).ll.retry.length < n then s.pumpInject else s

/-- A whole message has come for this chip on port q. A Stalemate message keeps its port (21 R579). -/
def State.arrived (s : State) (q : Nat) (m : Msg) : State :=
  match s.takeHere m with
  | .ok t => if m.kind = 7 && s.link.delivered.length < t.link.delivered.length then
      { t with link := { t.link with sysIn := t.link.sysIn ++ [q] } } else t
  | .error r => s.dropMsg m r

/-- Level of a message from its virtual channel (13 R361). -/
def vcLevel (vc : Nat) : Nat := if vc / 2 = 0 then 3 else vc / 2 - 1

/-- A flit goes the way of its message (13 R362): on to the output port's queue, where it keeps its receive buffer until it is sent, into
the message for this chip, or away. -/
def State.passFlit (s : State) (q vc : Nat) (d : DFlit) : State :=
  let v := Sparse.getD (s.port q).rx vc {}
  let s := if d.tail then s.updPort q (fun p => { p with rx := Sparse.put p.rx vc { v with route := none, got := [] } }) else s
  match v.route with
  | none => s
  | some .discard => s.owe q vc 1
  | some .here =>
    let got := v.got ++ d.payload.map (fun b => (b, d.poison))
    let s := s.owe q vc 1
    if d.tail then s.arrived q { Msg.ofBytes got with level := vcLevel vc }
    else s.updPort q (fun p => { p with rx := Sparse.put p.rx vc { v with got := got } })
  | some (.port o) =>
    let d := if d.head then { d with payload := d.payload.set 7 (d.payload.getD 7 0 + 1) } else d
    s.updPort o (fun p => { p with tx := p.tx.map (fun t =>
      if t.inPort = some (8 * q + vc) && !t.whole then { t with flits := t.flits ++ [{ d with vc := t.vc }], whole := d.tail } else t) })

/-- Flits in a receive buffer go on while their message has a route. -/
def State.drainRx (s : State) (q vc : Nat) : List DFlit → State
  | [] => s.updPort q (fun p => { p with rx := Sparse.put p.rx vc { Sparse.getD p.rx vc {} with flits := [] } })
  | d :: ds =>
    if (Sparse.getD (s.port q).rx vc {}).route.isSome then State.drainRx (s.passFlit q vc d) q vc ds
    else s.updPort q (fun p => { p with rx := Sparse.put p.rx vc { Sparse.getD p.rx vc {} with flits := d :: ds } })

/-- A DATA flit in order is accepted into the receive buffer (13 R355). A HEAD flit ends a message that its sender cut off (log 30). -/
def State.acceptData (s : State) (q : Nat) (f : Flit) : State :=
  let s := s.updLl q (fun l => { l with rxSeq := (l.rxSeq + 1) % 4096, rxAny := true, dropping := false, nakCount := 0,
                                        granted := Sparse.put l.granted f.vc (Sparse.getD l.granted f.vc (s.vcCredits f.vc) - 1) })
  let hit := fun (t : TxMsg) => t.inPort = some (8 * q + f.vc) && !t.whole
  let s := if f.head && (Sparse.getD (s.port q).rx f.vc {}).route.isSome then
      let s := s.keepTx (fun t => !hit t)
      s.updPort q (fun p => { p with rx := Sparse.put p.rx f.vc { Sparse.getD p.rx f.vc {} with route := none, got := [] } })
    else s
  s.drainRx q f.vc ((Sparse.getD (s.port q).rx f.vc {}).flits ++ [f.dflit])

/-- A good DATA flit (13 R355, R357, R358, R370). -/
def State.rxData (s : State) (q : Nat) (f : Flit) : State :=
  let l := (s.port q).ll
  let d := (f.seq + 4096 - l.rxSeq) % 4096
  if (s.port q).st ≠ 4 then s
  else if d = 0 then
    if Sparse.getD l.granted f.vc (s.vcCredits f.vc) = 0 then s.protocolError q f.seq else s.acceptData q f
  else if d < 512 then (if l.dropping then s else s.updLl q (fun l => { l with nakDue := true, dropping := true }))
  else if 4096 - 512 ≤ d then s
  else s.protocolError q f.seq

/-- A good NAK: replay from ACK + 1 (13 R357). -/
def State.rxNak (s : State) (q : Nat) : State := s.updLl q (fun l => { l with replay := l.retry })

/-- Flits of a retry buffer numbered again from 0 (13 R380). -/
def renumber : Nat → List RFlit → List RFlit
  | _, [] => []
  | n, r :: l => { r with seq := n } :: renumber (n + 1) l

/-- A good INIT flit (13 R355, R368, R380): the peer's identity; credits where none are held, so not after a RETRAIN; the flits still to be
acknowledged are sent again. A peer that has received nothing takes them from SEQ 0. -/
def State.rxInit (s : State) (q : Nat) (f : Flit) : State :=
  let p := s.port q
  let p := { p with peer := some (bits f.payload 78 64, bits f.payload 85 80), peerHold := false }
  if p.st ≠ 3 then s.setPort q p
  else
    let l := p.ll
    let l := if l.credits.isEmpty then
        { l with credits := (List.range 8).foldl (fun m v => Sparse.put m v (bits f.payload (8 * v + 7) (8 * v))) [] } else l
    let retry := if f.ackV then l.retry else renumber 0 l.retry
    let l := { l with initGot := true, retry := retry, replay := retry,
                      txSeq := if f.ackV then (if retry.isEmpty then (f.ack + 1) % 4096 else l.txSeq) else retry.length }
    (s.setPort q { p with ll := l }).tryUp q

/-- A good HOLD flit (13 R370). -/
def State.rxHold (s : State) (q : Nat) (f : Flit) : State :=
  s.updPort q (fun p => { p with holdEst := bits f.payload 31 0, peerHold := true })

/-- A good flit of any type. -/
def State.rxGood (s : State) (q : Nat) (f : Flit) : State :=
  let s := s.rxHeader q f
  if f.ty = ftData then s.rxData q f
  else if f.ty = ftTime then (if (s.port q).st = 4 && s.blp q then s.timeWord q f.payload else s)
  else if f.ty = ftHold then s.rxHold q f
  else if f.ty = ftInit then s.rxInit q f
  else if f.ty = ftNak then s.rxNak q
  else s

/-- A flit of type `ty` arrives at port q. A bad flit shows no type. -/
def State.rxFlit (s : State) (q ty : Nat) (x : BitVec 2048) (fec : Option Nat) : State :=
  if !(s.port q).takes then s
  else
    match (if fec = none then none else Flit.decode x) with
    | none => (s.fecSeen q fec).rxBad q
    | some f => if f.ty = ty then (s.fecSeen q fec).rxGood q f else s

def execTimeFlitReceived (q : PortIx) (flit : BitVec 2048) (fec : Option Nat) (s : State) : Host.Outcome State Fault Refusal :=
  s.clocked (fun s => s.rxFlit q ftTime flit fec)
def execDataFlitReceived (q : PortIx) (flit : BitVec 2048) (fec : Option Nat) (s : State) : Host.Outcome State Fault Refusal :=
  s.clocked (fun s => s.rxFlit q ftData flit fec)
def execNakReceived (q : PortIx) (flit : BitVec 2048) (fec : Option Nat) (s : State) : Host.Outcome State Fault Refusal :=
  s.clocked (fun s => s.rxFlit q ftNak flit fec)
def execIdleFlitReceived (q : PortIx) (flit : BitVec 2048) (fec : Option Nat) (s : State) : Host.Outcome State Fault Refusal :=
  s.clocked (fun s => s.rxFlit q ftIdle flit fec)
def execHoldFlitReceived (q : PortIx) (flit : BitVec 2048) (fec : Option Nat) (s : State) : Host.Outcome State Fault Refusal :=
  s.clocked (fun s => s.rxFlit q ftHold flit fec)
def execInitFlitReceived (q : PortIx) (flit : BitVec 2048) (fec : Option Nat) (s : State) : Host.Outcome State Fault Refusal :=
  s.clocked (fun s => s.rxFlit q ftInit flit fec)

/-- MESSAGE_HEAD_ARRIVAL (13 R361, R362, R381; 14 R393): the head in the buffer of a virtual channel is routed, and what has come of its
message follows. -/
def execMessageHeadArrival (q : PortIx) (vc : Fin 8) (s : State) : Host.Outcome State Fault Refusal :=
  s.clocked (fun s =>
    let v := Sparse.getD (s.port q).rx vc {}
    match v.route, v.flits with
    | none, d :: ds =>
      let m := { Msg.ofBytes (clean d.payload) with level := vcLevel vc }
      let go := fun (s : State) (r : Route) =>
        (s.updPort q (fun p => { p with rx := Sparse.put p.rx vc { v with route := some r, got := [] } })).drainRx q vc (d :: ds)
      if !d.head then go s .discard
      else
        match s.hop m with
        | .here => if s.earlyFull m then s else go s .here
        | .fail r => go (s.dropMsg m r) .discard
        | .port o =>
          let ov := 2 * (vc.val / 2) + s.dateline (some (q, vc.val % 2)) o
          if s.flowHeld m ov o then s
          else
            let t : TxMsg := { vc := ov, pav := m.spav, inPort := some (8 * q.val + vc.val), flits := [], whole := false, started := false,
                               hdr := { m with hops := m.hops + 1 }, core := 0, cmd := 0, frame := s.frame }
            go (s.updPort o (fun p => { p with tx := p.tx ++ [t] })) (.port o)
    | _, _ => s)

/-! ### Training (13 R368 to R371) -/

/-- PORT_TRAINING_DONE: TRAINING to HOLD, RETRAIN to INIT. -/
def execPortTrainingDone (q : PortIx) (s : State) : Host.Outcome State Fault Refusal :=
  s.clocked (fun s =>
    let p := s.port q
    if p.st = 1 && p.retryAt.isNone then
      ((s.setPort q { p with st := 2, since := s.cyc.ns, ll := {}, noInitBefore := 0 }).holdToInit q).groupsCheck
    else if p.st = 5 then s.setPort q { p with st := 3, since := s.cyc.ns }
    else s)

/-- PORT_TRAINING_TIMEOUT: 60 ms without success; at PORT_FENCE_LIMIT failures in a row a port that has been UP is fenced (18 R512). -/
def execPortTrainingTimeout (q : PortIx) (s : State) : Host.Outcome State Fault Refusal :=
  s.clocked (fun s =>
    let p := s.port q
    if p.st = 1 && p.retryAt.isNone then
      let s := s.elapseNs (p.since + 60000000)
      let s := s.setPort q { p with fails := p.fails + 1, retryAt := some (s.cyc.ns + 1000000000) }
      let s := s.logRec 0x0032 q 2 none (p.fails + 1)
      (if p.wasUp && decide (s.obj 0x5000 6 ≤ p.fails + 1) then s.fencePort q 0 else s).groupsCheck
    else s)

/-- PORT_TRAINING_RETRY: 1 s after a failed attempt. -/
def execPortTrainingRetry (q : PortIx) (s : State) : Host.Outcome State Fault Refusal :=
  s.clocked (fun s => match (s.port q).retryAt with
    | some t => (s.elapseNs t).train q
    | none => s)

/-- RETRAIN_HOLD_EXPIRY (13 R371, R380). -/
def execRetrainHoldExpiry (q : PortIx) (s : State) : Host.Outcome State Fault Refusal :=
  s.clocked (fun s =>
    if (s.port q).st = 5 then (s.elapseNs ((s.port q).since + 1000000 * s.obj 0x2540 7)).portDown q else s)

/-- BLOCK_LOCK_LOSS (13 R371). -/
def execBlockLockLoss (q : PortIx) (s : State) : Host.Outcome State Fault Refusal := s.clocked (fun s => s.retrain q)

/-- Enabled ports of group g that are not fenced start training. -/
def State.trainGroup (s : State) (g : Nat) : State :=
  (List.range 8).foldl (fun s i =>
    let q := 8 * g + i
    if s.obj (0x2500 + q) 1 = 1 && !(s.port q).fenced && (s.port q).st = 0 then s.train q else s) s

/-- LINK_GROUP_TRAIN_START (13 R369, 19 Table 19-1): group 0 at milestone 6, each next group when the ports of the one before have left
TRAINING, or 65 ms after it started. -/
def execLinkGroupTrainStart (s : State) : Host.Outcome State Fault Refusal :=
  s.clocked (fun s =>
    let g := s.link.group
    if 8 ≤ g || s.boot.phase < 5 || s.boot.standby then s
    else
      let s := if g = 0 then s.milestone 6 else if s.lastGroupLeft then s else s.elapseNs (s.link.groupAt + 65000000)
      let s := { s with link := { s.link with group := g + 1, groupAt := s.cyc.ns } }
      (s.trainGroup g).groupsCheck)

/-! ### Timers at injection and of Ethernet ports (13 R366, R375, R376) -/

/-- An injected message that waits in a transmit queue. -/
def TxMsg.inject (t : TxMsg) : Inject := { msg := t.hdr, core := t.core, cmd := t.cmd, frame := t.frame }

/-- LINK_INJECT_TIMEOUT: time runs until the message that has waited longest at injection has waited LINK_INJECT_LIMIT frames; every such
message is refused and discarded under reason 5. -/
def execLinkInjectTimeout (s : State) : Host.Outcome State Fault Refusal :=
  s.clocked (fun s =>
    let waits := fun (t : TxMsg) => t.inPort.isNone && !t.started
    let all := s.link.inject.map (·.frame) ++ (s.ports.flatMap (fun (r : Nat × Port) => (r.2.tx.filter waits).map (·.frame)))
    match all with
    | [] => s
    | f :: fs =>
      let lim := s.obj 0x2540 6
      let s := s.elapseTo (250000 * (fs.foldl min f + lim))
      let late := fun (f : Nat) => decide (f + lim ≤ s.frame)
      let gone := (s.link.inject.filter (fun i => late i.frame))
        ++ (s.ports.flatMap (fun (r : Nat × Port) => (r.2.tx.filter (fun t => waits t && late t.frame)).map TxMsg.inject))
      let s := ({ s with link := { s.link with inject := s.link.inject.filter (fun i => !late i.frame) } }).keepTx
        (fun t => !(waits t && late t.frame))
      (gone.foldl (fun s i => (s.dropMsg i.msg 5).injectRefused i.core i.cmd) s).pumpInject)

/-- ETH_FRAME_TIMER (13 R375): 64 ns after its first flit the frame is sent with what it holds. -/
def execEthFrameTimer (k : Fin 8) (s : State) : Host.Outcome State Fault Refusal :=
  s.clocked (fun s =>
    let q := 56 + k.val
    if (s.port q).ethBuf.isEmpty then s else (s.elapseNs ((s.port q).ethFirst + 64)).ethSend q)

/-- ETH_IDLE_TIMER (13 R375): 1 µs without a frame; an IDLE flit carries ACK and credits. -/
def execEthIdleTimer (k : Fin 8) (s : State) : Host.Outcome State Fault Refusal :=
  s.clocked (fun s =>
    let q := 56 + k.val
    if !s.blp q && (s.port q).st = 4 && (s.port q).ethBuf.isEmpty then
      ((s.elapseNs ((s.port q).ethLast + 1000)).sendFlit q {}).ethSend q
    else s)

/-- The flits of a frame that passes every check of 13 R376 but the FCS, which the MAC has taken off. -/
def State.ethOpen (s : State) (k : Nat) (b : List Byte) : Option (List (BitVec 2048)) :=
  let o := fun sub => s.obj (0x2550 + k) sub
  let vid := bits (o 6) 11 0
  let field := fun (at_ n : Nat) => beNat ((b.drop at_).take n)
  let t := if vid = 0 then 0 else 4
  let ip := 14 + t
  let n := leNat ((b.drop (ip + 28)).take 4)
  let tagOk := vid = 0 || (field 12 2 = 0x8100 && field 14 2 % 4096 = vid)
  if field 0 6 = o 2 && tagOk && field (12 + t) 2 = 0x0800 && field ip 1 = 0x45 && field (ip + 9) 1 = 17
      && ipFold (ipSum ((b.drop ip).take 20)) = 65535 && field (ip + 12) 4 = o 5 && field (ip + 16) 4 = o 4
      && field (ip + 20) 2 = 48061 && field (ip + 22) 2 = 48061 && 1 ≤ n && n ≤ 32 && b.length = ip + 32 + 256 * n then
    some ((List.range n).map (fun i => BitVec.ofNat 2048 (leNat ((b.drop (ip + 32 + 256 * i)).take 256))))
  else none

/-- ETH_FRAME_RECEIVED (13 R376): the flits of an accepted frame are taken; any other frame is counted. A frame with an uncorrectable codeword
has no valid FCS. -/
def execEthFrameReceived (k : Fin 8) (bytes : List Byte) (fcsOk : Bool) (fec : Option Nat) (s : State) : Host.Outcome State Fault Refusal :=
  s.clocked (fun s =>
    let q := 56 + k.val
    if s.blp q || !(s.port q).takes then s
    else
      let s := s.fecSeen q fec
      match (if fcsOk && fec ≠ none then s.ethOpen k bytes else none) with
      | none => s.tallyAdd 0x33 q 1
      | some fs => fs.foldl (fun s x => match Flit.decode x with
          | none => s.rxBad q
          | some f => if f.ty = ftTime then s else s.rxGood q f) s)

/-! ### The frame boundary (02 R48, R50; 13 R371; 16 R452) -/

/-- More than 1 codeword in 10^6 of the last frame was uncorrectable (13 R371): a frame has under 10^6 codewords, so any one is more. -/
def State.linkFrame (s : State) : State :=
  s.ports.foldl (fun t r => if r.2.frameUncorr ≠ 0 then (t.retrain r.1).updPort r.1 (fun p => { p with frameUncorr := 0 }) else t) s

/-- SUNDIAL_FRAME_BOUNDARY (02 R48, R50; 13 R371; 16 R452): the next frame begins; contract settings are latched, ports that had
uncorrectable codewords retrain, and the lock criteria and any forward step are evaluated. -/
def execSundialFrameBoundary (s : State) : Host.Outcome State Fault Refusal :=
  .next (
    let s := s.elapseTo (250000 * (s.frame + 1))
    let s := { s with cyc := { s.cyc with stepFrom := none } }
    let s := (List.range 16).foldl (fun s p => s.latchContract p) s
    s.linkFrame.lockCheck)

/-! ### Objects (13 Table 13-10) -/

/-- PORT_RESET (13 R371): every message with a flit in the port's queues or its retry buffer is discarded under reason 1, and the port retrains. The
receive buffers come free, and what is still to come of their messages is dropped. -/
def State.portReset (s : State) (q : Nat) : State :=
  if !(s.port q).takes && (s.port q).st ≠ 5 then s
  else
    let hit := fun (t : TxMsg) => !t.whole && (match t.inPort with | some i => i / 8 = q | none => false)
    let through := s.ports.flatMap (fun r => r.2.tx.filter hit)
    let s := (s.keepTx (fun t => !hit t)).dropTransit through
    let p := s.port q
    let gone := sentWhole p.ll.retry ++ p.tx.map (·.hdr) ++ p.received ++ through.map (·.hdr)
    let s := p.rx.foldl (fun s r => s.owe q r.1 r.2.flits.length) s
    let s := s.updPort q (fun p => { p with tx := [], ll := { p.ll with retry := [], replay := [] },
                                            rx := p.rx.map (fun r => (r.1, { route := if r.2.route.isSome then some .discard else none })) })
    let s := s.dropTransit p.tx
    (gone.foldl (fun s m => s.dropMsg m 1) s).retrain q

/-- PORT_ENABLE (13 R368). A fenced port stays DISABLED (18 R512). -/
def State.portEnable (s : State) (q v : Nat) : State :=
  let s := s.setObj (0x2500 + q) 1 v
  if v = 0 then (if (s.port q).st = 0 then s else (s.portFall q 0).groupsCheck)
  else if (s.port q).st = 0 && !(s.port q).fenced && q / 8 < s.link.group then s.train q
  else s

/-- ROUTE_COMMIT (13 R363). -/
def State.routeCommit (s : State) : State :=
  { s with link := { s.link with active := some (s.obj 0x2540 2),
                                 bundles := (List.range 16).foldl (fun m b => Sparse.put m b (s.obj 0x2541 (b + 1))) [] } }

/-- Live values of the link objects. -/
def State.linkRead (s : State) (i sub : Nat) : Option Nat :=
  if 0x2500 ≤ i && i < 0x2540 then
    let p := s.port (i - 0x2500)
    match sub with
    | 2 => some (p.st + 256 * b2n (p.peerHold && (p.st = 2 || p.st = 3)))
    | 3 => some (match p.peer with | some (c, q) => c + q * 2 ^ 16 + 2 ^ 31 | none => 0)
    | 4 => some p.holdEst
    | 9 => some p.fecCorr
    | 0xA => some p.fecUncorr
    | 0xB => some p.retries
    | 0xC => some p.creditLoop
    | _ => none
  else if i = 0x2540 && sub = 4 then some (s.link.active.getD (objDefault 0x2540 2))
  else none

/-- The effect of a write to a link object. -/
def State.linkWrite (s : State) (i sub v : Nat) : Option (Nat × State) :=
  if 0x2500 ≤ i && i < 0x2540 then
    if sub = 1 then some (stOk, s.portEnable (i - 0x2500) v)
    else if sub = 0xD then some (stOk, if v = 0 then s else s.portReset (i - 0x2500))
    else none
  else if i = 0x2540 && sub = 3 then some (stOk, if v = 0 then s else s.routeCommit)
  else if i = 0x2542 then
    some (if 512 < ((List.range 8).map (fun k => if k + 1 = sub then v else s.vcCredits k)).sum then (stRange, s) else (stOk, s.setObj i sub v))
  else if 0x2550 ≤ i && i < 0x2558 && sub = 6 && v % 4096 = 4095 then some (stRange, s) -- Table 13-9 supports VID 1 to 4,094 (log 83)
  else none

end Sys2Proof.Machine
end

