-- ==== Sys2Proof/Machine/Dice.lean ====
section
/-! DEFINITION. Machine/Dice.lean: expert routing (11): the expert table, rounds, phases, admission, inboxes and results. -/

namespace Sys2Proof.Machine

/-! ### Settings and the table (11 R303 to R306) -/

def diceIx (p : Nat) : Nat := 0x2310 + p

/-- A setting in force: committed, or latched at the round start (11 Table 11-3). -/
def State.diceEff (s : State) (p sub : Nat) : Nat := Sparse.getD (s.pav p).dice.eff sub (objDefault (diceIx p) sub)

/-- A setting as the next ROUTE to join a round finds it (11 R304, R307, R329): the round in progress has its own; a commit due at the next round
start brings the values written since. -/
def State.diceNext (s : State) (p sub : Nat) : Nat :=
  let d := (s.pav p).dice
  let open_ : Bool := match d.rnd with | some r => r.isOpen | none => false
  if !open_ && d.loaded && (d.late || (d.round + 1) % 256 = d.commitRound) then s.obj (diceIx p) sub else s.diceEff p sub

def State.updDice (s : State) (p : Nat) (f : DiceSt → DiceSt) : State := s.updPav p (fun v => { v with dice := f v.dice })

/-- Fields of an expert-table entry (11 Table 11-1). -/
def exV (e : Nat) : Bool := bit e 63
def exChip (e : Nat) : Nat := bits e 62 48
def exCore (e : Nat) : Nat := bits e 47 40
def exCap (e : Nat) : Nat := bits e 39 28
def exInbox (e : Nat) : Nat := 256 * bits e 27 13
def exCnt (e : Nat) : Nat := bits e 12 7

/-- The active entry of an expert. -/
def State.expert (s : State) (p x : Nat) : Nat := Sparse.getD (s.pav p).dice.active x 0

/-- Bytes of an inbox before its rows (11 R318). -/
def inboxHead (cap : Nat) : Nat := 256 + 256 * cdiv (8 * cap) 256

/-- An entry makes a load fail (11 R303). -/
def entryFails (rowBytes e : Nat) : Bool :=
  exV e && (bits e 6 0 ≠ 0 || decide (143 < exCore e) || decide (plotSize < exInbox e + inboxHead (exCap e) + exCap e * rowBytes))

/-- The effect of DICE_LOAD (11 R304, R305). -/
def dicePending := 0x104

def State.diceLoad (s : State) (p v : Nat) : Nat × State :=
  if v = 0 then (stOk, s)
  else if (s.pav p).dice.loading || (s.pav p).dice.loaded then (dicePending, s)
  else (stOk, s.updDice p (fun d => { d with loading := true, failed := false, late := false, commitRound := s.obj (diceIx p) 0xB,
                                             loadE := s.obj (diceIx p) 1, loadSrc := s.obj (diceIx p) 0xA }))

/-- DICE_LOAD_COPY_DONE (11 R303, R304, R306): nothing is done before the host has answered the reads of its window. -/
def execDiceLoadCopyDone (p : PavIx) (s : State) : Host.Outcome State Fault Refusal :=
  s.clocked (fun s =>
    let d := (s.pav p).dice
    if !d.loading then s
    else
      match s.unitRead p d.loadSrc (8 * d.loadE) 1 with
      | (.wait, s) => s
      | (.error _, s) => (s.unitEnd p 1).updDice p (fun d => { d with loading := false, failed := true })
      | (.ok b, s) =>
        let s := s.unitEnd p 1
        let es := (List.range d.loadE).map (fun i => (i, leNat (rawBytes ((b.drop (8 * i)).take 8))))
        let caps := (es.map (fun e => if exV e.2 && exChip e.2 = s.chipId then exCap e.2 else 0)).sum
        if es.any (fun e => entryFails (s.obj (diceIx p) 8) e.2) || decide (65536 < caps) then
          s.updDice p (fun d => { d with loading := false, failed := true })
        else s.updDice p (fun d => { d with loading := false, loaded := true, standby := es.filter (fun e => e.2 ≠ 0) }))

/-- The commit of a load (11 R304): the standby bank and the values marked *commit*. -/
def State.diceCommit (s : State) (p : Nat) : State :=
  let eff := [1, 2, 3, 5, 6, 8].foldl (fun m k => Sparse.put m k (s.obj (diceIx p) k)) (s.pav p).dice.eff
  s.updDice p (fun d => { d with active := d.standby, standby := [], loaded := false, skip := [], eff := eff })

/-- Live values of the Dice objects. -/
def State.diceRead (s : State) (i sub : Nat) : Option Nat :=
  if 0x2310 ≤ i && i < 0x2320 then
    let d := (s.pav (i - 0x2310)).dice
    match sub with
    | 0xD => some d.round
    | 0xE => some (b2n d.loading + 2 * b2n d.loaded + 4 * b2n d.failed + 8 * b2n d.late)
    | _ => none
  else none

/-- The effect of a write to a Dice object. -/
def State.diceWrite (s : State) (i sub v : Nat) : Option (Nat × State) :=
  if i < 0x2310 || 0x2320 ≤ i then none
  else
    some (match sub with
      | 8 => if v % 256 ≠ 0 then (stRange, s) else (stOk, s.setObj i 8 v)
      | 0xA => if v % 8 ≠ 0 then (stRange, s) else (stOk, s.setObj i 0xA v)
      | 0xC => s.diceLoad (i - 0x2310) v
      | _ => (stOk, s.setObj i sub v))

/-! ### Tags (11 Table 11-2) -/

/-- A routing tag; `flags` are bits 4 to 0. -/
def diceTag (chip stream pos round source c probe disp flags : Nat) : Nat :=
  flags + disp * 2 ^ 5 + min 7 probe * 2 ^ 7 + c * 2 ^ 10 + source * 2 ^ 13 + round * 2 ^ 17 + pos * 2 ^ 25 + stream * 2 ^ 37 + chip * 2 ^ 49

def tgChip (t : Nat) : Nat := bits t 63 49
def tgStream (t : Nat) : Nat := bits t 48 37
def tgPos (t : Nat) : Nat := bits t 36 25
def tgRound (t : Nat) : Nat := bits t 24 17
def tgSource (t : Nat) : Nat := bits t 16 13
def tgChoice (t : Nat) : Nat := bits t 12 10

/-- Two tags name one choice. -/
def sameTag (a b : Nat) : Bool := a / 2 ^ 10 = b / 2 ^ 10

/-- Set flags of a tag. -/
def tagOr (t flags : Nat) : Nat := Nat.lor t flags

/-! ### Tokens and candidates (11 R309 to R312) -/

/-- The hash of a key (11 R310): h and step for E experts. -/
def diceHash (seed e key : Nat) : Nat × Nat :=
  let m := 2 ^ 64
  let x := Nat.xor (key % m) (seed % m)
  let x := Nat.xor x (x / 2 ^ 31) * 0x8A5CD789635D2DFF % m
  let x := Nat.xor x (x / 2 ^ 29) * 0x5B1E9A47C3D26E35 % m
  let x := Nat.xor x (x / 2 ^ 32)
  (bits x 31 0 * e / 2 ^ 32, Nat.lor (bits x 63 32 * e / 2 ^ 32) 1)

/-- The first `n` candidates of a key (11 R310). -/
def hashCands (seed e key n : Nat) : List Nat :=
  let (h, st) := diceHash seed e key
  (List.range (min n (e / Nat.gcd st e))).map (fun j => (h + j * st) % e)

/-- Stream, candidates and NO_EXPERT of a key record (11 R309, R310). `n` is how many candidates the round may need. -/
def tokenOf (score : Bool) (seed e n : Nat) (b : List Byte) : Nat × List Nat × Bool :=
  if score then
    let k := leNat ((b.drop 18).take 1)
    let stream := bits (leNat ((b.drop 16).take 2)) 11 0
    if k = 0 || 8 < k then (stream, [], true)
    else
      let ids := (List.range k).map (fun i => leNat ((b.drop (2 * i)).take 2))
      (stream, (ids.filter (fun x => decide (x < e))).eraseDups, ids.any (fun x => decide (e ≤ x)))
  else (bits (leNat ((b.drop 8).take 2)) 11 0, hashCands seed e (leNat (b.take 8)) n, false)

/-- The next candidate that is not passed over (11 R311, R312): it, the number taken, and the number passed over. -/
def nextCand (skips : List Nat) : List Nat → Nat → Nat → Option Nat × Nat × Nat
  | [], used, probe => (none, used, probe)
  | e :: es, used, probe => if skips.contains e then nextCand skips es (used + 1) (probe + 1) else (some e, used + 1, probe)

/-- Choices that a test names move on in order (11 R311); one without a candidate is refused. -/
def DRound.moveOn (r : DRound) (moves : Choice → Bool) : DRound :=
  r.choices.foldl (fun r ch =>
    if !moves ch then { r with choices := r.choices ++ [ch] }
    else
      match r.toks.find? (fun t => t.source = ch.source && t.pos = ch.pos) with
      | none => { r with choices := r.choices ++ [{ ch with state := 3 }] }
      | some t =>
        let (e, used, probe) := nextCand r.skips (t.cands.drop t.used) t.used (ch.probe + 1)
        { r with toks := r.toks.map (fun x => if x.source = t.source && x.pos = t.pos then { x with used := used } else x),
                 choices := r.choices ++ [{ ch with expert := e, probe := probe, state := if e.isNone then 3 else 0 }] }) { r with choices := [] }

/-! ### Results at the source (11 R317) -/

/-- Write the row and the record of choice (pos, c) of a ROUTE. -/
def State.dicePut (s : State) (src : RSrc) (pos c : Nat) (row : List PByte) (tag : Nat) (expert : Option Nat) : State :=
  let i := pos * src.k + c
  let a := src.results + i * src.rowBytes
  let b := src.results + src.k * src.count * src.rowBytes + 16 * i
  let rc := clean (leBytes 8 tag ++ leBytes 2 (expert.getD 0) ++ leBytes 1 (b2n expert.isSome) ++ leBytes 5 0)
  (s.updRun src.core .dice src.cmd (fun r =>
    { r with buf := r.buf ++ [{ rid := none, len := row.length, data := row }, { rid := none, len := 16, data := rc }],
             dsts := r.dsts ++ plotDsts src.core a src.rowBytes 0 src.cnt ++ plotDsts src.core b 16 0 src.cnt })).pumpOwn src.core .dice src.cmd

def zeroRow (n : Nat) : List PByte := List.replicate n (0, false)

/-- Rounds of a Pavilion that have choices outstanding, the present one last. -/
def DiceSt.rounds (d : DiceSt) : List DRound := d.past ++ d.rnd.toList

/-- Change every round of a Pavilion; past rounds without outstanding results go. -/
def State.updRounds (s : State) (p : Nat) (f : DRound → DRound) : State :=
  s.updDice p (fun d => { d with rnd := d.rnd.map f, past := (d.past.map f).filter (fun r => r.srcs.any (fun x => x.left ≠ 0)) })

/-- The result of a choice of round `num` is written: `refused` gives a zero row; `flags` join those the choice has, and the poison of a row
that was sent. A ROUTE all of whose results are written may complete. -/
def State.diceFinish (s : State) (p : Nat) (r : DRound) (ch : Choice) (refused : Bool) (flags : Nat) (row : List PByte) : State :=
  match r.srcs.find? (fun x => x.source = ch.source), r.toks.find? (fun t => t.source = ch.source && t.pos = ch.pos) with
  | some src, some t =>
    let disp := if refused then 2 else if ch.probe = 0 then 0 else 1
    let poison := ch.state = 2 && anyPoison ((src.rows.drop (ch.pos * src.rowBytes)).take src.rowBytes)
    let fl := Nat.lor flags (16 * b2n ch.late + 8 * b2n poison + 2 * b2n ch.noExpert)
    let tag := diceTag s.chipId t.stream ch.pos r.num ch.source ch.c ch.probe disp fl
    let s := s.dicePut src ch.pos ch.c (if refused then zeroRow src.rowBytes else row) tag (if refused then none else ch.expert)
    let s := if src.left = 1 then s.updRun src.core .dice src.cmd (fun x => { x with closing := true }) else s
    s.updRounds p (fun x =>
      if x.num = r.num && x.openAt = r.openAt then
        { x with srcs := x.srcs.map (fun y => if y.source = ch.source then { y with left := y.left - 1 } else y),
                 choices := x.choices.map (fun y => if y.source = ch.source && y.pos = ch.pos && y.c = ch.c then { y with state := 4 } else y) }
      else x)
  | _, _ => s

/-- Write the results of every refused choice of the present round that is not written yet. -/
def State.diceRefused (s : State) (p : Nat) : State :=
  match (s.pav p).dice.rnd with
  | none => s
  | some r => (r.choices.filter (fun c => c.state = 3)).foldl (fun s ch =>
      match (s.pav p).dice.rnd with
      | some r => s.diceFinish p r ch true 0 []
      | none => s) s

/-! ### Rounds (11 R305, R307, R308) -/

/-- A round opens (11 R308): its number, the commit due at its start, the settings it latches, and the skips of the round before. -/
def State.diceOpen (s : State) (p : Nat) : State :=
  let d := (s.pav p).dice
  let num := (d.round + 1) % 256
  let due := num = d.commitRound
  let s := if d.loaded && (due || d.late) then s.diceCommit p
    else if d.loading && due then s.updDice p (fun d => { d with late := true }) else s
  let eff := [4, 7, 9].foldl (fun m k => Sparse.put m k (s.obj (diceIx p) k)) (s.pav p).dice.eff
  let r : DRound := { num := num, openAt := s.time.now, isOpen := true, phase := 0, frame := s.frame, hold := s.obj (diceIx p) 9, srcs := [],
                      toks := [], choices := [], awaiting := [],
                      skips := if s.obj (diceIx p) 7 = 1 then (s.pav p).dice.skip else [] }
  let h : HRound := { num := num, phase := 0, markers := [], first := none, reqs := [], admitted := [], rows := [], closed := false }
  s.updDice p (fun d => { d with eff := eff, round := num, rnd := some r, homes := [h], skip := [] })

/-- A ROUTE that started in cycle `start` joins the open round (11 R307, R309). -/
def State.diceJoin (s : State) (p n start : Nat) (l : LongCmd) : State :=
  match (s.pav p).dice.rnd with
  | none => s
  | some r =>
    let k := l.m 3 1 + 1
    let count := bits l.y1 15 0
    let rb := bits l.y1 31 16
    let score := l.m 0 0 = 1
    let w := if score then 24 else 16
    let (keys, s) := s.plotRead n l.a (count * w)
    let (rows, s) := s.plotRead n l.b (count * rb)
    let src := r.srcs.length
    let need := 8 * (s.diceEff p 3 + 1) + 8 + r.skips.length
    let toks := (List.range count).map (fun t =>
      let (st, cs, no) := tokenOf score (s.diceEff p 2) (s.diceEff p 1) need (rawBytes ((keys.drop (w * t)).take w))
      ({ source := src, pos := t, stream := st, cands := cs, used := min k cs.length, noExpert := no } : Tok))
    let choices := toks.flatMap (fun t => (List.range k).map (fun c =>
      ({ source := src, pos := t.pos, c := c, expert := t.cands[c]?, probe := 0, state := if t.cands[c]?.isNone then 3 else 0, late := false,
         noExpert := t.noExpert } : Choice)))
    let x : RSrc := { core := n, cmd := l.id, source := src, k := k, count := count, rowBytes := rb, results := l.c, cnt := l.cnt, rows := rows,
                      left := k * count, start := start }
    s.updDice p (fun d => { d with rnd := some { r with srcs := r.srcs ++ [x], toks := r.toks ++ toks, choices := r.choices ++ choices } })

/-- Home chips of the active table, ascending. -/
def State.diceHomes (s : State) (p : Nat) : List Nat :=
  let l := ((s.pav p).dice.active.filter (fun e => exV e.2)).map (fun e => exChip e.2)
  (l.foldr (fun x acc => (acc.filter (fun y => decide (y < x))) ++ x :: acc.filter (fun y => decide (x < y))) [])

/-- Send the requests and markers of the present phase (11 R313). A request for an expert that does not exist overflows (11 R314). -/
def State.diceSend (s : State) (p : Nat) : State :=
  match (s.pav p).dice.rnd with
  | none => s
  | some r =>
    let homes := s.diceHomes p
    let entry := fun (c : Choice) => s.expert p (c.expert.getD 0)
    let choices := r.choices.map (fun c =>
      if c.state ≠ 0 then c else if exV (entry c) then { c with state := 1 } else { c with noExpert := true })
    let s := s.updDice p (fun d => { d with rnd := some { r with choices := choices, awaiting := homes } })
    homes.foldl (fun s h =>
      let mine := choices.filter (fun c => c.state = 1 && exChip (entry c) = h)
      let data := mine.flatMap (fun c =>
        let st := ((r.toks.find? (fun t => t.source = c.source && t.pos = c.pos)).map (·.stream)).getD 0
        leBytes 8 (diceTag s.chipId st c.pos r.num c.source c.c c.probe 0 (16 * b2n c.late + 2 * b2n c.noExpert))
          ++ leBytes 2 (c.expert.getD 0) ++ leBytes 6 0)
      s.sendMsg { dst := h, src := s.chipId, dpav := p, spav := p, kind := 1, hops := 0, arg0 := r.phase + 256, arg1 := r.num,
                  data := clean data, level := 3 } none 0 0) s

/-- This chip homes an expert of the active table, or another chip has sent it requests of the round all the same (11 R314, R322). -/
def State.homeTakesPart (s : State) (p : Nat) (h : HRound) : Bool :=
  (s.diceHomes p).contains s.chipId || !h.markers.isEmpty || !h.reqs.isEmpty || h.phase ≠ 0

/-- The round ends on this chip once both its source's and its home's last phase have ended (11 R308). -/
def State.diceRoundEnd (s : State) (p : Nat) : State :=
  let d := (s.pav p).dice
  match d.rnd with
  | none => s
  | some r =>
    if s.diceEff p 3 < r.phase && d.homes.all (fun h => h.closed || !s.homeTakesPart p h) then
      s.updDice p (fun d => { d with rnd := none, homes := [], past := if r.srcs.any (fun x => x.left ≠ 0) then d.past ++ [r] else d.past })
    else s

/-- The present phase has ended at the source: choices still open overflow and move on, or are refused after the last phase (11 R311,
R315). -/
def State.diceAdvance : Nat → Nat → State → State
  | 0, _, s => s
  | fuel + 1, p, s =>
    match (s.pav p).dice.rnd with
    | none => s
    | some r =>
      let isOver := fun (c : Choice) => c.state = 0 || c.state = 1
      let sk := (r.choices.filter isOver).filterMap (·.expert)
      let s := s.updDice p (fun d => { d with skip := (d.skip ++ sk).eraseDups })
      if s.diceEff p 3 ≤ r.phase then
        let r' := { r with phase := r.phase + 1,
                           choices := r.choices.map (fun c => if isOver c then { c with state := 3, probe := c.probe + 1 } else c) }
        ((s.updDice p (fun d => { d with rnd := some r' })).diceRefused p).diceRoundEnd p
      else
        let r' := r.moveOn isOver
        let s := (s.updDice p (fun d => { d with rnd := some { r' with phase := r.phase + 1 } })).diceRefused p
        let s := s.diceSend p
        if (s.diceHomes p).isEmpty then State.diceAdvance fuel p s else s

/-- The SOURCE numbers of a round (11 R307): its ROUTEs by the cycle of their start, and by core within one cycle. -/
def DRound.numbered (r : DRound) : DRound :=
  let before := fun (x y : RSrc) => decide (x.start < y.start) || (x.start = y.start && decide (x.core < y.core))
  let num := fun (k : Nat) => match r.srcs.find? (fun x => x.source = k) with
    | some x => (r.srcs.filter (fun y => before y x)).length
    | none => k
  { r with srcs := r.srcs.map (fun x => { x with source := num x.source }), toks := r.toks.map (fun t => { t with source := num t.source }),
           choices := r.choices.map (fun c => { c with source := num c.source }) }

/-- The round closes and phase 0 begins (11 R308, R312). -/
def State.dicePhase0 (s : State) (p : Nat) : State :=
  match (s.pav p).dice.rnd with
  | none => s
  | some r =>
    let r := r.numbered
    let r' := r.moveOn (fun c => c.state = 0 && (match c.expert with | some e => r.skips.contains e | none => false))
    -- a choice moved by a skip counts each candidate it passes over once
    let s := (s.updDice p (fun d => { d with rnd := some { r' with isOpen := false } })).diceRefused p
    let s := s.diceSend p
    if (s.diceHomes p).isEmpty then State.diceAdvance 9 p s else s

/-- The started ROUTE of a core. -/
def State.routeOf (s : State) (x : PortCmd) : Option LongCmd := ((s.core x.core).runOf .dice x.cmd).map (·.cmd)

/-- Waiting ROUTEs join the open round in order, and a full round closes; where that ends it at once, for want of a home chip, the next one opens
(11 R307, R308). -/
def State.diceFill : Nat → Nat → State → State
  | 0, _, s => s
  | fuel + 1, p, s =>
    match (s.pav p).dice.rnd with
    | none => s
    | some r =>
      if !r.isOpen then s
      else if s.diceEff p 6 ≤ r.srcs.length then
        let s := s.dicePhase0 p
        if (s.pav p).dice.rnd.isNone && !(s.pav p).dice.waiting.isEmpty then State.diceFill fuel p (s.diceOpen p) else s
      else
        match (s.pav p).dice.waiting with
        | [] => s
        | x :: rest =>
          let s := s.updDice p (fun d => { d with waiting := rest })
          match s.routeOf x with
          | some l => State.diceFill fuel p (s.diceJoin p x.core x.start l)
          | none => State.diceFill fuel p s

/-- A waiting ROUTE opens the next round when none is in progress (11 R308). -/
def State.diceKick (s : State) (p : Nat) : State :=
  let d := (s.pav p).dice
  let s := if d.rnd.isNone && !d.waiting.isEmpty then s.diceOpen p else s
  State.diceFill (2 * d.waiting.length + 2) p s

/-! ### The port (11 R307, R329) -/

/-- Every choice of a ROUTE is refused because routing is disabled (11 R329). -/
def State.diceDisabled (s : State) (p n : Nat) (l : LongCmd) : State :=
  let k := l.m 3 1 + 1
  let count := bits l.y1 15 0
  let score := l.m 0 0 = 1
  let w := if score then 24 else 16
  let (keys, s) := s.plotRead n l.a (count * w)
  let src : RSrc := { core := n, cmd := l.id, source := 0, k := k, count := count, rowBytes := bits l.y1 31 16, results := l.c, cnt := l.cnt,
                      rows := [], left := 0 }
  let s := (List.range count).foldl (fun s t =>
    let (st, _, _) := tokenOf score 0 1 0 (rawBytes ((keys.drop (w * t)).take w))
    (List.range k).foldl (fun s c =>
      s.dicePut src t c (zeroRow src.rowBytes) (diceTag s.chipId st t (s.pav p).dice.round 0 c 0 2 2) none) s) s
  s.updRun n .dice l.id (fun r => { r with closing := true })

/-- A started ROUTE whose tagged sources are FULL takes part (04 R112, 11 R307). -/
def State.diceBegin (s : State) (n : Nat) (l : LongCmd) : State :=
  let count := bits l.y1 15 0
  let rs := [(l.a, count * (if l.m 0 0 = 1 then 24 else 16)), (l.b, count * bits l.y1 31 16)]
  if rs.any (fun r => (s.core n).readBlocked r.1 r.2) then
    s.updRun n .dice l.id (fun r => { r with held := true, tagSince := some (r.tagSince.getD s.cyc.cycles) })
  else
    let s := s.updRun n .dice l.id (fun r => { r with held := false, tagSince := none })
    match s.owner n with
    | none => s
    | some p =>
      if s.diceNext p 1 = 0 then s.diceDisabled p n l
      else
        let x : PortCmd := { core := n, cmd := l.id, start := s.cyc.cycles }
        let after := fun (y : PortCmd) => y.start = x.start && decide (x.core < y.core)
        (s.updDice p (fun d => { d with waiting := d.waiting.filter (fun y => !after y) ++ x :: d.waiting.filter after })).diceKick p

/-- DICE_PORT_START (11 R307): the first ROUTE of the queue starts; a ROW_BYTES other than DICE_ROW_BYTES faults. -/
def execDicePortStart (c : CoreIx) (s : State) : Host.Outcome State Fault Refusal :=
  s.clocked (fun s =>
    let k := s.core c
    match k.dice.queue with
    | [] => s
    | l :: rest =>
      if !k.dice.run.isEmpty || !k.engineGo then s
      else
        let p := (s.owner c).getD 0
        if bits l.y1 31 16 ≠ s.diceNext p 8 then (s.setCore c { k with dice := { k.dice with queue := rest } }).coreFault c l.strm l.addr illegalOp
        else ((s.setCore c { k with dice := { queue := rest, run := [{ cmd := l }] } }).disturbCal).diceBegin c l)

/-- DICE_ROUND_CLOSE (11 R308): DICE_WAIT has passed since the round opened. -/
def execDiceRoundClose (p : PavIx) (s : State) : Host.Outcome State Fault Refusal :=
  s.clocked (fun s => match (s.pav p).dice.rnd with
    | some r => if r.isOpen then ((s.elapseTo (r.openAt + s.diceEff p 4)).dicePhase0 p).diceKick p else s
    | none => s)

/-! ### Messages -/

/-- Take the first delivered message that a test names. -/
def State.takeMsg (s : State) (f : Msg → Bool) : Option (Msg × State) :=
  match s.link.delivered.findIdx? f with
  | none => none
  | some i => (s.link.delivered[i]?).map (fun m => (m, { s with link := { s.link with delivered := s.link.delivered.eraseIdx i } }))

/-- The 16-byte records of a message as numbers. -/
def Msg.recs (m : Msg) : List Nat :=
  (List.range (m.data.length / 16)).map (fun i => leNat (rawBytes ((m.data.drop (16 * i)).take 16)))

/-- Send a DICE_OUTCOME: tags with their flags, and whether each is admitted (13 Table 13-5). -/
def State.diceOutcome (s : State) (p chip phase round : Nat) (l : List (Nat × Bool)) : State :=
  s.sendMsg { dst := chip, src := s.chipId, dpav := p, spav := p, kind := 2, hops := 0, arg0 := phase, arg1 := round,
              data := clean (l.flatMap (fun x => leBytes 8 x.1 ++ leBytes 1 (b2n x.2) ++ leBytes 7 0)), level := 3 } none 0 0

/-- What a DICE_REQ of phase i of round r means at its home chip: 0 it waits, 1 it joins the phase, 2 it opens the round, 3 it is late. -/
def State.reqKind (s : State) (p : Nat) (m : Msg) : Nat :=
  let d := (s.pav p).dice
  match d.rnd with
  | none => if m.arg1 = (d.round + 1) % 256 then 2 else 3
  | some r =>
    if m.arg1 = r.num then
      match d.homes.find? (fun h => h.num = r.num) with
      | some h => if h.closed || bits m.arg0 7 0 < h.phase then 3 else if bits m.arg0 7 0 = h.phase then 1 else 0
      | none => 3
    else if m.arg1 = (r.num + 1) % 256 then 0 else 3

/-- The requests and the marker of a message join the phase (11 R314). -/
def State.diceRequests (s : State) (p : Nat) (m : Msg) : State :=
  s.updDice p (fun d => { d with homes := d.homes.map (fun h =>
    { h with reqs := h.reqs ++ m.recs.map (fun x => { tag := bits x 63 0, expert := bits x 79 64 }),
             markers := if bit m.arg0 8 && !h.markers.contains m.src then h.markers ++ [m.src] else h.markers,
             first := if bit m.arg0 8 then some (h.first.getD s.time.now) else h.first }) })

/-- DICE_REQ_RECEIVED (11 R308, R314). A late one is answered with LATE. -/
def execDiceReqReceived (p : PavIx) (s : State) : Host.Outcome State Fault Refusal :=
  s.clocked (fun s => match s.takeMsg (fun m => m.kind = 1 && m.dpav = p && s.reqKind p m ≠ 0) with
    | none => s
    | some (m, t) =>
      match s.reqKind p m with
      | 1 => t.diceRequests p m
      | 2 => (t.diceOpen p).diceRequests p m
      | _ => t.diceOutcome p m.src (bits m.arg0 7 0) m.arg1 (m.recs.map (fun x => (tagOr (bits x 63 0) 16, false))))

/-- Insert into a list sorted by a key. -/
def insertBy {α : Type} (key : α → Nat) (x : α) : List α → List α
  | [] => [x]
  | y :: l => if key x < key y then x :: y :: l else y :: insertBy key x l

/-- The order of admission (11 R314): class, CHOICE, source chip, SOURCE, BATCH_POS. -/
def State.admitKey (s : State) (r : HReq) : Nat :=
  seClass (s.stream (tgStream r.tag)) * 2 ^ 40 + tgChoice r.tag * 2 ^ 36 + tgChip r.tag * 2 ^ 16 + tgSource r.tag * 2 ^ 12 + tgPos r.tag

/-- The home core of an expert can take its rows: the expert exists, is homed here, on a usable core of the Pavilion (11 R314). -/
def State.expertHere (s : State) (p x : Nat) : Bool :=
  let e := s.expert p x
  exV e && exChip e = s.chipId && s.coreUsable (exCore e) && s.owner (exCore e) = some p

/-- Admit requests in order up to each expert's capacity: those admitted in the round, and the answers. -/
def State.diceAdmit (s : State) (p : Nat) : List HReq → List HReq → List (HReq × Nat × Bool) → List HReq × List (HReq × Nat × Bool)
  | [], adm, out => (adm, out)
  | r :: rs, adm, out =>
    if !s.expertHere p r.expert then s.diceAdmit p rs adm (out ++ [(r, 2, false)])
    else if (adm.filter (fun a => a.expert = r.expert)).length < exCap (s.expert p r.expert) then
      s.diceAdmit p rs (adm ++ [r]) (out ++ [(r, 0, true)])
    else s.diceAdmit p rs adm (out ++ [(r, 0, false)])

/-- The rows and tags of each expert of this chip go to its inbox after the round's last phase (11 R318); those of one that can take none any more
come back (R324). -/
def State.diceDeliveries (s : State) (p : Nat) (h : HRound) : List Delivery :=
  ((s.pav p).dice.active.filter (fun e => exV e.2 && exChip e.2 = s.chipId)).map (fun e =>
    { round := h.num, expert := e.1, entry := e.2, rowBytes := s.diceEff p 8, hold := s.diceEff p 9,
      rows := (h.admitted.filter (fun a => a.expert = e.1)).map (fun a =>
        { tag := a.tag, row := ((h.rows.find? (fun r => sameTag r.tag a.tag)).map (·.row)).getD [] }) })

/-- A home chip closes its phase (11 R314): it answers every chip from which it holds a marker or a request. -/
def State.diceClose (s : State) (p : Nat) : State :=
  match (s.pav p).dice.homes with
  | [] => s
  | h :: _ =>
    let sorted := h.reqs.foldl (fun l r => insertBy s.admitKey r l) []
    let (adm, out) := s.diceAdmit p sorted h.admitted []
    let last := decide (s.diceEff p 3 ≤ h.phase)
    let h' : HRound := { h with phase := h.phase + 1, markers := [], first := none, reqs := [], admitted := adm, closed := last }
    let dl := if last then s.diceDeliveries p h' else []
    let s := s.updDice p (fun d => { d with homes := [h'], toDeliver := d.toDeliver ++ dl })
    let s := (h.markers ++ h.reqs.map (fun r => tgChip r.tag)).eraseDups.foldl (fun s chip =>
      s.diceOutcome p chip h.phase h.num ((out.filter (fun x => tgChip x.1.tag = chip)).map (fun x => (tagOr x.1.tag x.2.1, x.2.2)))) s
    (s.diceRoundEnd p).diceKick p

/-- DICE_PHASE_CLOSE (11 R314, R323). -/
def execDicePhaseClose (p : PavIx) (s : State) : Host.Outcome State Fault Refusal :=
  s.clocked (fun s => match (s.pav p).dice.homes with
    | [] => s
    | h :: _ =>
      if h.closed then s
      else if s.diceEff p 5 ≤ h.markers.length then s.diceClose p
      else
        match h.first with
        | some t => (s.elapseTo (t + s.diceEff p 4)).diceClose p
        | none => s)

/-- Send the row of an admitted choice (13 Table 13-5), as poison where its core stops for a Plot error (09 R255). -/
def State.diceSendRow (s : State) (p : Nat) (r : DRound) (c : Choice) : State :=
  match r.srcs.find? (fun x => x.source = c.source), r.toks.find? (fun t => t.source = c.source && t.pos = c.pos) with
  | some src, some t =>
    let e := c.expert.getD 0
    let tag := diceTag s.chipId t.stream c.pos r.num c.source c.c c.probe 0 (16 * b2n c.late + 2 * b2n c.noExpert)
    s.sendMsg { dst := exChip (s.expert p e), src := s.chipId, dpav := p, spav := p, kind := 3, hops := 0, arg0 := tag, arg1 := e,
                data := s.outgoing src.core ((src.rows.drop (c.pos * src.rowBytes)).take src.rowBytes), level := 0 }
      (some (seClass (s.stream t.stream))) src.core src.cmd
  | _, _ => s

/-- A home chip has answered the present phase, or its answer is lost (11 R313, R315; 13 R365). It has answered whole once each request it was sent
has an answer. -/
def State.diceAnswered (s : State) (p home : Nat) (f : Choice → Choice) : State :=
  match (s.pav p).dice.rnd with
  | none => s
  | some r =>
    let asked := fun (c : Choice) => c.state = 1 && exChip (s.expert p (c.expert.getD 0)) = home
    let cs := r.choices.map (fun c => if asked c then f c else c)
    let r' := { r with choices := cs, awaiting := if cs.any asked then r.awaiting else r.awaiting.filter (fun x => x ≠ home) }
    let s := s.updDice p (fun d => { d with rnd := some r' })
    let rows := r'.choices.filter (fun c => c.state = 2 && r.choices.any (fun x => x.source = c.source && x.pos = c.pos && x.c = c.c && x.state = 1))
    let s := rows.foldl (fun s c => s.diceSendRow p r' c) s
    if r'.awaiting.isEmpty then (State.diceAdvance 9 p s).diceKick p else s

/-- DICE_OUTCOME_RECEIVED (11 R313). An answer to no present phase is dropped. -/
def execDiceOutcomeReceived (p : PavIx) (s : State) : Host.Outcome State Fault Refusal :=
  s.clocked (fun s => match s.takeMsg (fun m => m.kind = 2 && m.dpav = p) with
    | none => s
    | some (m, s) =>
      match (s.pav p).dice.rnd with
      | none => s
      | some r =>
        if m.arg1 ≠ r.num || bits m.arg0 7 0 ≠ r.phase || !r.awaiting.contains m.src then s
        else
          s.diceAnswered p m.src (fun c =>
            match m.recs.find? (fun x => tgSource x = c.source && tgPos x = c.pos && tgChoice x = c.c) with
            | some x => { c with state := if bit x 64 then 2 else 0, late := c.late || bit x 4, noExpert := c.noExpert || bit x 1 }
            | none => c))

/-- DICE_ROW_RECEIVED (11 R318): the row of an admitted request. -/
def execDiceRowReceived (p : PavIx) (s : State) : Host.Outcome State Fault Refusal :=
  s.clocked (fun s => match s.takeMsg (fun m => m.kind = 3 && m.dpav = p) with
    | none => s
    | some (m, s) =>
      s.updDice p (fun d =>
        { d with homes := d.homes.map (fun h =>
                   if h.num = tgRound m.arg0 && h.admitted.any (fun a => sameTag a.tag m.arg0) then
                     { h with rows := h.rows ++ [{ tag := m.arg0, row := m.data }] } else h),
                 toDeliver := d.toDeliver.map (fun x =>
                   if x.expert = m.arg1 then
                     { x with rows := x.rows.map (fun r => if sameTag r.tag m.arg0 then { r with row := m.data } else r) } else x) }))

/-! ### The expert side (11 R318, R319, R324, R326) -/

/-- Return a row by its tag: `flags` join the tag; a refused row is zero. -/
def State.diceReturn (s : State) (p x tag flags : Nat) (refused : Bool) (row : List PByte) : State :=
  let t := tagOr (tagOr tag (flags + (if refused then 64 else 0))) (if !refused && anyPoison row then 8 else 0)
  s.sendMsg { dst := tgChip tag, src := s.chipId, dpav := p, spav := p, kind := 4, hops := 0, arg0 := t, arg1 := x, data := row, level := 0 }
    (some (seClass (s.stream (tgStream tag)))) 0 0

/-- Return rows of `n` bytes as refused with a flag, and with POISON where they carried it (11 R316, R319, R324, R326). -/
def State.diceReturnAll (s : State) (p x n flags : Nat) (tags : List (Nat × Bool)) : State :=
  tags.foldl (fun s t => s.diceReturn p x t.1 (flags + 8 * b2n t.2) true (zeroRow n)) s

/-- Tags of rows, and whether each row carries poison. -/
def TagRow.marks (l : List TagRow) : List (Nat × Bool) := l.map (fun r => (r.tag, anyPoison r.row))

def Inbox.marks (b : Inbox) : List (Nat × Bool) := b.tags.map (fun t => (t, b.poison.contains t))

/-- A home core can still take or give rows of Pavilion p (11 R314, R324). -/
def State.homeUp (s : State) (p n : Nat) : Bool := s.coreUsable n && s.owner n = some p

/-- DICE_INBOX_DELIVER (11 R318, R319, R324): the next round's rows for an expert, when the expert has released the one before and no row of
it is on its way to this chip's Dice. -/
def execDiceInboxDeliver (p : PavIx) (expert : Nat) (s : State) : Host.Outcome State Fault Refusal :=
  s.clocked (fun s =>
    let d := (s.pav p).dice
    match d.toDeliver.find? (fun x => x.expert = expert) with
    | none => s
    | some dl =>
      if d.inboxes.any (fun b => b.expert = expert)
          || s.link.delivered.any (fun m => m.kind = 3 && m.dpav = p && m.arg1 = expert && tgRound m.arg0 = dl.round) then s
      else
        let s := s.updDice p (fun d => { d with toDeliver := d.toDeliver.erase dl })
        let e := dl.entry
        let n := exCore e
        let rows := dl.rows.filter (fun r => !r.row.isEmpty)
        if !s.homeUp p n then s.diceReturnAll p expert dl.rowBytes 2 (TagRow.marks dl.rows)
        else
          let base := exInbox e
          let hd := inboxHead (exCap e)
          let s := rows.zipIdx.foldl (fun s (r, k) => s.plotPut n (base + hd + k * dl.rowBytes) r.row) s
          let s := rows.zipIdx.foldl (fun s (r, k) => s.plotPut n (base + 256 + 8 * k) (clean (leBytes 8 r.tag))) s
          let s := s.plotPut n base (clean (leBytes 4 dl.round ++ leBytes 4 rows.length))
          let s := s.cntAdd n (exCnt e) 1
          let box : Inbox := { expert := expert, round := dl.round, tags := rows.map (·.tag), core := n, cnt := exCnt e, addr := base + hd,
                               rowBytes := dl.rowBytes, target := (((s.core n).cnt (exCnt e)).toNat + 1) % 2 ^ 32, until_ := s.frame + dl.hold,
                               poison := (rows.filter (fun r => anyPoison r.row)).map (·.tag) }
          s.updDice p (fun d => { d with inboxes := d.inboxes ++ [box] }))

/-- The rows of an inbox go back, if they can (11 R319, R324, R326): as they stand once the counter has reached the release; refused with NO_EXPERT
where the home core is fenced; refused with EXPIRED where `expired` says that DICE_HOLD has run out. -/
def State.diceGive (s : State) (p : Nat) (b : Inbox) (expired : Bool) : State :=
  let drop := s.updDice p (fun d => { d with inboxes := d.inboxes.erase b })
  if !s.homeUp p b.core then drop.diceReturnAll p b.expert b.rowBytes 2 b.marks
  else if cntReached ((s.core b.core).cnt b.cnt) (BitVec.ofNat 32 b.target) then
    b.tags.zipIdx.foldl (fun s (t, k) =>
      let a := b.addr + k * b.rowBytes
      if b.poison.contains t then s.diceReturn p b.expert t 8 false ((s.core b.core).plotBytes a b.rowBytes)
      else let (d, s) := s.plotRead b.core a b.rowBytes; s.diceReturn p b.expert t 0 false d) drop
  else if expired then drop.diceReturnAll p b.expert b.rowBytes 1 b.marks
  else s

/-- DICE_RELEASE (11 R319, R324, R326): the counter has reached the release, and the rows return by tag. -/
def execDiceRelease (p : PavIx) (expert : Nat) (s : State) : Host.Outcome State Fault Refusal :=
  s.clocked (fun s => match (s.pav p).dice.inboxes.find? (fun b => b.expert = expert) with
    | none => s
    | some b => s.diceGive p b false)

/-- DICE_HOLD_EXPIRY (11 R319): rows not released within DICE_HOLD frames return refused with EXPIRED. -/
def execDiceHoldExpiry (p : PavIx) (expert : Nat) (s : State) : Host.Outcome State Fault Refusal :=
  s.clocked (fun s => match (s.pav p).dice.inboxes.find? (fun b => b.expert = expert) with
    | none => s
    | some b => (s.elapseTo (250000 * b.until_)).diceGive p b true)

/-- The choice of a tag that waits for its result, with its round. -/
def DiceSt.choiceOf (d : DiceSt) (tag : Nat) : Option (DRound × Choice) :=
  d.rounds.findSome? (fun r =>
    if r.num = tgRound tag then
      (r.choices.find? (fun c => c.state = 2 && c.source = tgSource tag && c.pos = tgPos tag && c.c = tgChoice tag)).map (fun c => (r, c))
    else none)

/-- DICE_RESULT_RECEIVED (11 R317, R325). A return that no choice waits for is dropped. -/
def execDiceResultReceived (p : PavIx) (s : State) : Host.Outcome State Fault Refusal :=
  s.clocked (fun s => match s.takeMsg (fun m => m.kind = 4 && m.dpav = p) with
    | none => s
    | some (m, s) =>
      match (s.pav p).dice.choiceOf m.arg0 with
      | none => s.tallyAdd 0x27 p 1
      | some (r, c) => s.diceFinish p r c (bits m.arg0 6 5 = 2) (bits m.arg0 4 0) m.data)

/-- A result that will not come is written as refused (13 R365). -/
def State.diceLost (s : State) (p tag : Nat) : State :=
  match (s.pav p).dice.choiceOf tag with
  | some (r, c) => s.diceFinish p r c true 16 []
  | none => s

/-- DICE_SOURCE_EXPIRY (13 R365): choices whose results have not returned DICE_HOLD + 1 frames after their round started are written refused
with EXPIRED. -/
def execDiceSourceExpiry (p : PavIx) (s : State) : Host.Outcome State Fault Refusal :=
  s.clocked (fun s =>
    let waits := fun (r : DRound) => r.choices.any (fun c => c.state = 2)
    match (s.pav p).dice.rounds.filter waits with
    | [] => s
    | r :: rs =>
      let t := rs.foldl (fun a x => min a (x.frame + x.hold + 1)) (r.frame + r.hold + 1)
      let s := s.elapseTo (250000 * t)
      let dead := (s.pav p).dice.rounds.filter (fun x => waits x && decide (x.frame + x.hold + 1 ≤ s.frame))
      dead.foldl (fun s x => (x.choices.filter (fun c => c.state = 2)).foldl (fun s c =>
        match (s.pav p).dice.rounds.find? (fun y => y.num = x.num && y.openAt = x.openAt) with
        | some y => s.diceFinish p y c true 1 []
        | none => s) s) s)

/-- NOTICE of a DICE_REQ or DICE_OUTCOME (13 R365): the choices it concerned overflow with LATE. -/
def State.diceNotice (s : State) (p home phase round : Nat) : State :=
  match (s.pav p).dice.rnd with
  | none => s
  | some r =>
    if r.num = round && r.phase = phase && r.awaiting.contains home then s.diceAnswered p home (fun c => { c with state := 0, late := true })
    else s

/-- Rows that this chip's Dice has admitted and not returned come back refused with PEER_RESET (11 R324); rounds, waiting commands and the
round counter of the Pavilion go (11 R325). -/
def State.diceReset (s : State) (p : Nat) : State :=
  let d := (s.pav p).dice
  let s := d.inboxes.foldl (fun s b => s.diceReturnAll p b.expert b.rowBytes 4 b.marks) s
  let s := d.toDeliver.foldl (fun s x => s.diceReturnAll p x.expert x.rowBytes 4 (TagRow.marks x.rows)) s
  let s := d.homes.foldl (fun s h => if h.closed then s else h.admitted.foldl (fun s a =>
    s.diceReturnAll p a.expert (s.diceEff p 8) 4 [(a.tag, h.rows.any (fun r => sameTag r.tag a.tag && anyPoison r.row))]) s) s
  s.updDice p (fun d => { d with round := 0, rnd := none, homes := [], skip := [], toDeliver := [], inboxes := [], waiting := [], past := [] })

end Sys2Proof.Machine
end

