-- ==== Sys2Proof/Machine/Rotunda.lean ====
section
/-! DEFINITION. Machine/Rotunda.lean: collectives (14): plans, instances, the fixed tree, messages, failures and records; and NOTICEs
(13 R365). -/

namespace Sys2Proof.Machine

/-! ### Plans (14 R386) -/

def State.setInst (s : State) (p : Nat) (x : Inst) : State :=
  s.updRot p (fun r => { r with insts := r.insts.filter (fun y => y.plan ≠ x.plan) ++ [x] })

/-- The staged plan of number k takes effect where no instance of it is in progress, and its count returns to 0 (14 R386). -/
def State.planTake (s : State) (p k : Nat) : State :=
  match Sparse.find (s.pav p).rot.staged k with
  | none => s
  | some r =>
    if (s.inst p k).isSome then s
    else s.updRot p (fun x => { x with plans := Sparse.put x.plans k r, counts := Sparse.put x.counts k 0, staged := Sparse.del x.staged k })

/-- Every staged plan of which no instance is in progress takes effect. -/
def State.planCommit (s : State) (p : Nat) : State := (s.pav p).rot.staged.foldl (fun s r => s.planTake p r.1) s

/-- The effect of ROT_PLAN_LOAD (14 R386). -/
def State.planLoad (s : State) (p v : Nat) : Nat × State :=
  if v = 0 then (stOk, s)
  else (stOk, s.updRot p (fun r => { r with loading := some (s.obj (rotIx p) 1, s.obj (rotIx p) 2), loaded := false, failed := false }))

/-- ROT_PLAN_LOAD_DONE (14 R386): the copy is checked, and commits at once where no instance of the plan is in progress. -/
def execRotPlanLoadDone (p : PavIx) (s : State) : Host.Outcome State Fault Refusal :=
  s.clocked (fun s => match (s.pav p).rot.loading with
    | none => s
    | some (k, va) =>
      match s.unitRead p va 64 2 with
      | (.wait, s) => s
      | (.error _, s) => (s.unitEnd p 2).updRot p (fun x => { x with loading := none, failed := true })
      | (.ok b, s) =>
        let s := s.unitEnd p 2
        let r := leNat (rawBytes b)
        if planBad r || (plCores r).any (fun n => !s.coreUsable n || !bit (s.pavCores p) n) || plMask r / 2 ^ 144 ≠ 0 then
          s.updRot p (fun x => { x with loading := none, failed := true })
        else (s.updRot p (fun x => { x with loading := none, loaded := true, staged := Sparse.put x.staged k r })).planCommit p)

/-- ROT_PLAN_COMMIT (14 R386): a staged plan whose instance has concluded. -/
def execRotPlanCommit (p : PavIx) (s : State) : Host.Outcome State Fault Refusal := s.clocked (fun s => s.planCommit p)

/-- Live values of the Rotunda objects. -/
def State.rotRead (s : State) (i sub : Nat) : Option Nat :=
  if i = 0x2600 && sub = 1 then some s.rotActive
  else if 0x2610 ≤ i && i < 0x2620 then
    let r := (s.pav (i - 0x2610)).rot
    match sub with
    | 4 => some (b2n r.loading.isSome + 2 * b2n r.loaded + 4 * b2n r.failed + 8 * b2n (!r.staged.isEmpty))
    | 5 => some (Sparse.getD r.counts (s.obj i 1) 0)
    | _ => none
  else none

/-- The effect of a write to a Rotunda object. -/
def State.rotWrite (s : State) (i sub v : Nat) : Option (Nat × State) :=
  if i < 0x2610 || 0x2620 ≤ i then none
  else
    some (match sub with
      | 2 => if v % 64 ≠ 0 then (stRange, s) else (stOk, s.setObj i 2 v)
      | 3 => s.planLoad (i - 0x2610) v
      | _ => (stOk, s.setObj i sub v))

/-! ### Arithmetic (14 R389, R390) -/

/-- The plan reduces and carries in FP32 (14 R390). -/
def rotWide (r : Nat) : Bool := plWide r && plFmt r = 2 && decide (plOp r ≤ 1)

/-- Bytes of an element as the stages carry it. -/
def rotWidth (r : Nat) : Nat :=
  if rotWide r then 4 else match plFmt r with | 0 => 8 | 2 => 2 | _ => 4

/-- The reduction format of a floating plan. -/
def rotFmt (r : Nat) : FFmt :=
  if rotWide r then fp32 else match plFmt r with | 0 => fp64 | 2 => bf16 | _ => fp32

/-- a ⊕ b of a plan, and whether it clamped. -/
def rotOp (r a b : Nat) : Nat × Bool :=
  if plFmt r = 0xD then
    let x := toSigned 32 a
    let y := toSigned 32 b
    match plRed r with
    | 0 => (ofSigned 32 (clampI i32Min i32Max (x + y)), decide (x + y < i32Min) || decide (i32Max < x + y))
    | 1 => (ofSigned 32 (max x y), false)
    | _ => (ofSigned 32 (min x y), false)
  else
    let f := rotFmt r
    let x := f.decode a
    let y := f.decode b
    (f.encode false (match plRed r with | 0 => x.add y | 1 => x.max y | _ => x.min y), false)

/-- Combine `n` elements; poison on either side poisons the element (14 R390). The list says which elements clamped. -/
def rotZip (r w : Nat) : Nat → List PByte → List PByte → List PByte × List Bool
  | 0, _, _ => ([], [])
  | n + 1, a, b =>
    let x := a.take w
    let y := b.take w
    let (v, k) := rotOp r (leNat (rawBytes x)) (leNat (rawBytes y))
    let p := anyPoison x || anyPoison y
    let (rest, k') := rotZip r w n (a.drop w) (b.drop w)
    ((leBytes w v).map (fun c => (c, p)) ++ rest, k :: k')

/-- BF16 bytes as FP32 bytes (14 R390): exact. -/
def widen : List PByte → List PByte
  | a :: b :: l => (0, a.2 || b.2) :: (0, a.2 || b.2) :: (a.1, a.2 || b.2) :: (b.1, a.2 || b.2) :: widen l
  | _ => []

/-- FP32 bytes rounded to BF16 (14 R390). -/
def narrow : List PByte → List PByte
  | a :: b :: c :: d :: l =>
    let p := anyPoison [a, b, c, d]
    (leBytes 2 (bf16.encode false (fp32.decode (leNat (rawBytes [a, b, c, d]))))).map (fun x => (x, p)) ++ narrow l
  | _ => []

def rotIn (r : Nat) (d : List PByte) : List PByte := if rotWide r then widen d else d
def rotOut (r : Nat) (d : List PByte) : List PByte := if rotWide r then narrow d else d

/-! ### Exchanges (14 R389, R392) -/

/-- The exchanges of a plan in order, stage and whether it gathers; stages of one position have none. A BROADCAST has none: its bytes are
forwarded as they come. -/
def exchanges (r : Nat) : List (Nat × Bool) :=
  let ks := (List.range (plStages r)).filter (fun k => sgSize (plStage r k) ≠ 1)
  match plOp r with
  | 0 => ks.map (fun k => (k, false)) ++ ks.reverse.map (fun k => (k, true))
  | 1 => ks.map (fun k => (k, false))
  | 2 => ks.reverse.map (fun k => (k, true))
  | _ => []

/-- The part of a chip vector of `v` bytes that stage k divides: offset and bytes. -/
def stageRegion (r v k : Nat) : Nat × Nat :=
  (List.range k).foldl (fun (x : Nat × Nat) j =>
    let n := x.2 / sgSize (plStage r j)
    (x.1 + sgPos (plStage r j) * n, n)) (0, v)

/-- ARG0 of a Rotunda message (14 R392). DESIGN CHOICE (log 93): bit 17 of a data message says that its bytes met a clamp (R390). -/
def rotArg0 (plan k : Nat) (gather sat : Bool) (code num : Nat) : Nat :=
  plan + k * 2 ^ 8 + b2n gather * 2 ^ 16 + b2n sat * 2 ^ 17 + code * 2 ^ 24 + num % 2 ^ 32 * 2 ^ 32

/-- Bytes of the chip vector that get a SAT flag of their own: a shard in a REDUCE_SCATTER, else all (14 R390). -/
def satUnit (r len : Nat) : Nat := if plOp r = 1 then len / ((plCores r).length * plP r) else len

/-- The units that the bytes `[a, a + n)` of a chip vector touch. -/
def satUnits (r len a n : Nat) : List Nat :=
  let u := satUnit r len
  if u = 0 || n = 0 then [] else (List.range ((a + n - 1) / u + 1 - a / u)).map (· + a / u)

/-- The units of the elements that clamped, the first of which lies at offset `a`. -/
def satClamps (r len a : Nat) (ks : List Bool) : List Nat :=
  let u := satUnit r len
  if u = 0 then [] else ((ks.zipIdx.filter (·.1)).map (fun x => (a + x.2 * rotWidth r) / u)).eraseDups

/-- The bytes `[a, a + n)` cut into messages of at most 16,384 bytes, none of which spans two units. -/
def rotPieces (r len a n : Nat) : List (Nat × Nat) :=
  (satUnits r len a n).flatMap (fun i =>
    let u := satUnit r len
    let lo := max a (i * u)
    let hi := min (a + n) ((i + 1) * u)
    (List.range (cdiv (hi - lo) 16384)).map (fun j => (lo + 16384 * j, min 16384 (hi - (lo + 16384 * j)))))

/-- Bytes that the COLLECTs of an instance send: poisoned once one of their cores has detected a Plot error (09 R255, R256). -/
def State.rotOutgoing (s : State) (x : Inst) (d : List PByte) : List PByte := x.parts.foldl (fun d y => s.outgoing y.core d) d

/-- Send bytes `[off, off + n)` of the chip vector to the NEXT of stage k (14 R392). -/
def State.rotSend (s : State) (p : Nat) (x : Inst) (k : Nat) (gather : Bool) (off n : Nat) : State :=
  let r := s.plan p x.plan
  let e := plStage r k
  let lead := (x.parts.map (fun y => (y.core, y.cmd))).headD (0, 0)
  (rotPieces r x.vec.length off n).foldl (fun s (a, m) =>
    let sat := (satUnits r x.vec.length a m).any (fun u => x.sats.contains u)
    s.sendMsg { dst := sgNext e, src := s.chipId, dpav := sgNextPav e, spav := p, kind := 5, hops := 0,
                arg0 := rotArg0 x.plan k gather sat 0 x.num, arg1 := a + x.len * 2 ^ 32,
                data := s.rotOutgoing x ((x.vec.drop a).take m), level := 0 }
      (some (plClass r)) lead.1 lead.2) s

/-- The exchange numbered `ex` begins: this position sends its first segment (14 R389); with none left the instance has every byte. -/
def State.rotEnter (s : State) (p : Nat) (x : Inst) : State :=
  let r := s.plan p x.plan
  match (exchanges r)[x.ex]? with
  | none => s.setInst p { x with complete := true }
  | some (k, g) =>
    let e := plStage r k
    let (lo, n) := stageRegion r x.vec.length k
    let sg := n / sgSize e
    let j := if g then sgPos e else (sgPos e + sgSize e - 1) % sgSize e
    (s.setInst p x).rotSend p x k g (lo + j * sg) sg

/-! ### Records and conclusion (14 R399) -/

/-- The completion record (14 Table 14-3). -/
def rotRecord (now num origin flags status : Nat) : List Byte :=
  leBytes 16 (status + flags * 2 ^ 8 + origin % 2 ^ 15 * 2 ^ 17 + num % 2 ^ 32 * 2 ^ 32 + now % 2 ^ 64 * 2 ^ 64)

/-- The parts of an instance by ascending core. -/
def Inst.sorted (x : Inst) : List Part := x.parts.foldl (fun l y => insertBy Part.core y l) []

/-- Bytes that a COLLECT of core n is to write at `at_`. -/
def State.rotPut (s : State) (n cmd : Nat) (cnt : Option Nat) (at_ : Nat) (d : List PByte) : State :=
  (s.updRun n .rot cmd (fun r =>
    { r with buf := r.buf ++ [{ rid := none, len := d.length, data := d }], dsts := r.dsts ++ plotDsts n at_ d.length 0 cnt })).pumpOwn n .rot cmd

/-- The record of a COLLECT, after which it may complete (14 R399). -/
def State.rotRecordPut (s : State) (n cmd : Nat) (cnt : Option Nat) (at_ : Nat) (rc : List Byte) : State :=
  (s.updRun n .rot cmd (fun r => { r with closing := true })).rotPut n cmd cnt at_ (clean rc)

/-- The counter that a started COLLECT names. -/
def State.collectCnt (s : State) (n cmd : Nat) : Option Nat := ((s.core n).runOf .rot cmd).bind (fun r => r.cmd.cnt)

/-- Flags of a record: those of the launch, POISON, SAT and REMOTE. -/
def Inst.flagsOf (x : Inst) (poison sat remote : Bool) : Nat := x.flags + 8 * b2n poison + 16 * b2n sat + 32 * b2n remote

/-- An instance whose mask cores all have their records concludes, and a plan that waits for it commits (14 R386, R399). -/
def State.rotConclude (s : State) (p k : Nat) : State :=
  match s.inst p k with
  | none => s
  | some x =>
    if (plCores (s.plan p k)).all (fun n => x.parts.any (fun y => y.core = n && y.written)) then
      (s.updRot p (fun r => { r with insts := r.insts.filter (fun y => y.plan ≠ k),
                                     counts := Sparse.put r.counts k ((Sparse.getD r.counts k 0 + 1) % 2 ^ 32) })).planCommit p
    else s

/-- What a part is still to write to DST is given up (14 Table 14-4: DST holds partial values of the collective). -/
def State.rotDropDst (s : State) (y : Part) : State := s.updRun y.core .rot y.cmd (fun r => { r with dsts := [], buf := [], wtagSince := none })

/-- Write failure records to the started cores that have none. -/
def State.rotFailRecords (s : State) (p k : Nat) : State :=
  match s.inst p k with
  | none => s
  | some x =>
    match x.fail with
    | none => s
    | some f =>
      let s := (x.parts.filter (fun y => !y.written)).foldl (fun s y =>
        (s.rotDropDst y).rotRecordPut y.core y.cmd (s.collectCnt y.core y.cmd) y.record
          (rotRecord s.time.now x.num f.origin (x.flagsOf false false f.remote) f.code)) s
      (s.setInst p { x with parts := x.parts.map (fun y => { y with written := true }) }).rotConclude p k

/-- What core `y` gets in DST (14 R388): offset and bytes. -/
def Inst.result (x : Inst) (r : Nat) (y : Part) : Nat × List PByte :=
  let v := rotOut r x.vec
  let cs := plCores r
  let i := (cs.findIdx? (· = y.core)).getD 0
  if plOp r = 1 && i ≠ 0 then
    let sh := x.len / (cs.length * plP r)
    let off := (plRank r * cs.length + i) * sh
    (off, (v.drop off).take sh)
  else (0, v)

/-- The result of core `y` met a clamp (14 R390): its own shard in a REDUCE_SCATTER, else any element. -/
def Inst.satOf (x : Inst) (r : Nat) (y : Part) : Bool :=
  let cs := plCores r
  x.sats.contains (if plOp r = 1 then plRank r * cs.length + (cs.findIdx? (· = y.core)).getD 0 else 0)

/-- The DST of a part is written and its record can follow: no tag holds either back (22 R595). A part whose COLLECT has ended has none. -/
def State.dstDone (s : State) (y : Part) : Bool :=
  match (s.core y.core).runOf .rot y.cmd with
  | none => true
  | some r => r.dsts.isEmpty && !(s.core y.core).writeBlocked y.record 16

/-- Once every DST of an instance is written, its cores get their records and it concludes (14 R399). -/
def State.rotRecords (s : State) (p k : Nat) : State :=
  match s.inst p k with
  | none => s
  | some x =>
    if !x.putting || x.fail.isSome || !x.parts.all s.dstDone then s
    else
      let r := s.plan p k
      let s := x.sorted.foldl (fun s y =>
        s.rotRecordPut y.core y.cmd (s.collectCnt y.core y.cmd) y.record
          (rotRecord s.time.now x.num s.chipId (x.flagsOf (anyPoison (x.result r y).2) (x.satOf r y) false) 0)) s
      (s.setInst p { x with parts := x.parts.map (fun y => { y with written := true }) }).rotConclude p k

/-- Send an ABORT of an instance to NEXT and PREV of every stage (14 R396). -/
def State.rotAbort (s : State) (p k num code origin : Nat) : State :=
  let r := s.plan p k
  (List.range (plStages r)).foldl (fun s i =>
    let e := plStage r i
    if sgSize e = 1 then s
    else
      [(sgNext e, sgNextPav e), (sgPrev e, sgPrevPav e)].foldl (fun s x =>
        (s.sendMsg { dst := x.1, src := s.chipId, dpav := x.2, spav := p, kind := 6, hops := 0, arg0 := rotArg0 k i false false code num,
                     arg1 := origin, data := [], level := 3 } none 0 0).tallyAdd 0x29 p 1) s) s

/-- The present instance of a plan fails (14 R396): recorded, told to its neighbours, and written to the cores that have started. -/
def State.rotFail (s : State) (p k code origin : Nat) (remote : Bool) : State :=
  let x := (s.inst p k).getD { plan := k, num := s.instCount p k, parts := [] }
  if x.fail.isSome then s
  else
    let s := s.setInst p { x with fail := some { code := code, origin := origin, remote := remote }, due := none }
    (s.rotAbort p k x.num code origin).rotFailRecords p k

/-! ### Launch (14 R391) -/

/-- The time from which the deadline of an instance counts (14 R394, R395): LAUNCH, or the start of its last mask core. -/
def Inst.base (x : Inst) : Option Nat :=
  match x.parts with
  | [] => none
  | y :: _ => if y.launch ≠ 0 then some y.launch else x.readyAt

/-- Why the launch of an instance fails, 0 where it does not (14 R391). Data of a BROADCAST that has come already names its LENGTH (R393). -/
def State.launchFails (s : State) (p : Nat) (x : Inst) : Nat :=
  let r := s.plan p x.plan
  match x.parts with
  | [] => 0
  | y :: ys =>
    let c := (plCores r).length
    let unit := 256 * plP r * (if plOp r = 1 || plOp r = 2 then c else 1)
    if ys.any (fun z => z.len ≠ y.len || z.launch ≠ y.launch) then 5
    else if y.len % unit ≠ 0 then 7
    else if y.launch ≠ 0 && s.timeFree then 1
    else if x.base.any (fun t => decide (t + plDeadline r < s.time.now)) then 2
    else if x.len ≠ 0 && x.len ≠ y.len then 5
    else 0

/-- A core's operand of a reduction or a gather, read from its Plot. -/
def State.rotSrc (s : State) (y : Part) (off n : Nat) : List PByte × State := s.plotRead y.core (y.src + off) n

/-- The chip vector at launch (14 R388, R389), and the units that the fold clamped. What has come of a BROADCAST stands. -/
def State.rotFold (s : State) (p : Nat) (x : Inst) : (List PByte × List Nat) × State :=
  let r := s.plan p x.plan
  let ps := x.sorted
  let len := (ps.map (·.len)).headD 0
  let c := ps.length
  let sh := len / (c * plP r)
  match plOp r with
  | 2 =>
    ps.zipIdx.foldl (fun (acc : (List PByte × List Nat) × State) (y, i) =>
      let off := (plRank r * c + i) * sh
      let (d, s) := acc.2.rotSrc y off sh
      ((patch acc.1.1 off d, []), s)) ((zeroRow len, []), s)
  | 3 =>
    match ps with
    | y :: _ => if plRank r = 0 then let (d, s) := s.rotSrc y 0 len; ((d, []), s)
      else ((if x.vec.isEmpty then zeroRow len else x.vec, []), s)
    | [] => (([], []), s)
  | _ =>
    match ps with
    | [] => (([], []), s)
    | y :: ys =>
      let (d, s) := s.rotSrc y 0 len
      ys.foldl (fun (acc : (List PByte × List Nat) × State) z =>
        let (d, s) := acc.2.rotSrc z 0 len
        let (v, ks) := rotZip r (rotWidth r) (acc.1.1.length / rotWidth r) acc.1.1 (rotIn r d)
        ((v, (acc.1.2 ++ satClamps r len 0 ks).eraseDups), s)) ((rotIn r d, []), s)

/-- Stages through which a position of a BROADCAST passes bytes on: its receiving stage and the ones before it (14 R388). The root passes
them on in every stage. -/
def castStage (r : Nat) : Nat := ((List.range (plStages r)).find? (fun k => sgPos (plStage r k) ≠ 0)).getD (plStages r)

def State.castSend (s : State) (p : Nat) (x : Inst) (off n : Nat) : State :=
  let r := s.plan p x.plan
  let t := castStage r
  (List.range (plStages r)).reverse.foldl (fun s k =>
    let e := plStage r k
    if sgSize e = 1 || t < k || (k = t && sgPos e + 1 = sgSize e) then s else s.rotSend p x k true off n) s

/-- The instance launches, or fails at its launch. -/
def State.rotLaunch (s : State) (p k : Nat) : State :=
  match s.inst p k with
  | none => s
  | some x =>
    let r := s.plan p k
    let x := { x with flags := b2n s.holdover + 2 * b2n s.timeFree + 4 * b2n x.past, due := none }
    let code := s.launchFails p x
    if code ≠ 0 then (s.setInst p x).rotFail p k code s.chipId false
    else
      let ((v, sats), s) := s.rotFold p x
      let x := { x with launched := true, len := (x.parts.map (·.len)).headD 0, vec := v, sats := sats }
      if plOp r = 3 then
        let root := plRank r = 0
        let s := s.setInst p { x with complete := root || plP r = 1 || decide (v.length ≤ x.got) }
        if root then s.castSend p x 0 v.length else s
      else s.rotEnter p x

/-- Every mask core of an instance has started, and it has neither launched nor failed. -/
def State.rotWaits (s : State) (p : Nat) (x : Inst) : Bool :=
  !x.launched && x.fail.isNone && (plCores (s.plan p x.plan)).all (fun n => x.parts.any (fun y => y.core = n))

/-- An instance whose mask cores have all started launches now, or waits for its time or for one of the 32 places (14 R391, R394). -/
def State.rotReady (s : State) (p k : Nat) : State :=
  match s.inst p k with
  | none => s
  | some x =>
    if !s.rotWaits p x || decide (32 ≤ s.rotActive) then s
    else
      match x.parts with
      | [] => s
      | y :: ys => if ys.any (fun z => z.launch ≠ y.launch) || y.launch ≤ s.time.now then s.rotLaunch p k else s

/-- The last mask core of an instance may have started (14 R391): LAUNCH has passed by then, or it is the time of the launch. -/
def State.rotStarted (s : State) (p k : Nat) : State :=
  match s.inst p k with
  | none => s
  | some x =>
    if !s.rotWaits p x then s
    else
      let launch := (x.parts.map (·.launch)).headD 0
      let past : Bool := launch ≠ 0 && decide (launch < s.time.now)
      let due := if s.time.now < launch then some launch else none
      (s.setInst p { x with readyAt := some s.time.now, past := past, due := due }).rotReady p k

/-- COLLECTIVE_LAUNCH (14 R391, R394; 02 R52): the launch time of the instance in its turn, or a place for one that waits. -/
def execCollectiveLaunch (p : PavIx) (plan : Nat) (s : State) : Host.Outcome State Fault Refusal :=
  s.clocked (fun s => match s.inst p plan with
    | none => s
    | some x =>
      if !s.rotWaits p x then s
      else
        match x.due with
        | some t => if s.turn { at_ := t, rank := 5, pav := p, core := x.lead } then (s.elapseTo t).rotReady p plan else s
        | none => s.rotReady p plan)

/-! ### The port (14 R391, R399) -/

/-- A COLLECT gets PLAN_INVALID (14 R399, R405). -/
def State.planInvalid (s : State) (p n : Nat) (l : LongCmd) (k : Nat) : State :=
  s.rotRecordPut n l.id l.cnt l.c (rotRecord s.time.now (s.instCount p k) s.chipId 0 6)

/-- The bytes of SRC that a COLLECT of core n reads (14 R388): all of LENGTH, its own shard in an ALL_GATHER, none in a BROADCAST but at the
root, and none where it takes part in no instance (14 R399). -/
def State.collectSrc (s : State) (n : Nat) (l : LongCmd) : Nat × Nat :=
  let len := bits l.y1 95 64
  match s.owner n with
  | none => (l.a, 0)
  | some p =>
    let r := s.plan p (l.m 15 0)
    let cs := plCores r
    let i := (cs.findIdx? (· = n)).getD 0
    if !bit (plMask r) n then (l.a, 0)
    else if plOp r = 2 then
      let sh := len / (cs.length * plP r)
      (l.a + (plRank r * cs.length + i) * sh, sh)
    else if plOp r = 3 && !(plRank r = 0 && i = 0) then (l.a, 0)
    else (l.a, len)

/-- A started COLLECT whose tagged source is FULL joins its instance. -/
def State.collectBegin (s : State) (n : Nat) (l : LongCmd) : State :=
  let (a, k) := s.collectSrc n l
  if (s.core n).readBlocked a k then
    s.updRun n .rot l.id (fun r => { r with held := true, tagSince := some (r.tagSince.getD s.cyc.cycles) })
  else
    let s := s.updRun n .rot l.id (fun r => { r with held := false, tagSince := none })
    match s.owner n with
    | none => s
    | some p =>
      let k := l.m 15 0
      let r := s.plan p k
      if !bit (plMask r) n then s.planInvalid p n l k
      else
        let x := (s.inst p k).getD { plan := k, num := s.instCount p k, parts := [] }
        -- a mask core is fenced: the next COLLECT of the plan is refused, the others wait (14 R405)
        if (plCores r).any (fun c => !s.coreUsable c) && !x.refused && x.fail.isNone then
          (s.setInst p { x with refused := true }).planInvalid p n l k
        else
          let y : Part := { core := n, cmd := l.id, src := l.a, dst := l.b, record := l.c, len := bits l.y1 95 64, launch := bits l.y1 63 0,
                            written := false }
          let s := s.setInst p { x with parts := x.parts ++ [y] }
          if x.fail.isSome then s.rotFailRecords p k else s.rotStarted p k

/-- COLLECT_PORT_START (14 R391). -/
def execCollectPortStart (c : CoreIx) (s : State) : Host.Outcome State Fault Refusal :=
  s.clocked (fun s =>
    let k := s.core c
    match k.rot.queue with
    | [] => s
    | l :: rest =>
      if !k.rot.run.isEmpty || !k.engineGo then s
      else ((s.setCore c { k with rot := { queue := rest, run := [{ cmd := l }] } }).disturbCal).collectBegin c l)

/-! ### Messages (14 R392, R393, R396) -/

/-- A message can be processed now: it is not for a later instance, and data not for one that has not launched, but of a BROADCAST (14 R397),
nor for a later exchange. The others wait (14 R393). -/
def State.rotDue (s : State) (p : Nat) (m : Msg) : Bool :=
  if !s.rotFrom p m then true
  else
    match s.rotAge p m with
    | 1 => true
    | 2 => false
    | _ =>
      let r := s.plan p m.rPlan
      m.kind = 6 || plOp r = 3
        || (match s.inst p m.rPlan with
            | none => false
            | some x =>
              x.fail.isSome || (x.launched && (x.complete || (exchanges r)[x.ex]? == some (m.rStage, bit m.arg0 16)
                || !(exchanges r).contains (m.rStage, bit m.arg0 16))))

/-- A message of a kind is the next to be processed for Pavilion p: in the order of arrival, data before control in one cycle (14 R396, R403). -/
def State.rotNext (s : State) (p kind : Nat) (m : Msg) : Bool :=
  m.kind = kind && m.dpav = p && s.rotDue p m
    && !s.link.delivered.any (fun o => o.kind = 11 - kind && o.dpav = p && s.rotDue p o
        && (decide (o.arr < m.arr) || (kind = 6 && o.arr = m.arr)))

/-- Data of the exchange in progress, offset `a` (14 R389): combined or copied, passed on, and counted. -/
def State.rotTake (s : State) (p : Nat) (x : Inst) (k : Nat) (g : Bool) (a : Nat) (d : List PByte) (sat : Bool) : State :=
  let r := s.plan p x.plan
  let e := plStage r k
  let n := d.length
  let (lo, len) := stageRegion r x.vec.length k
  let sg := len / sgSize e
  let j := (a - lo) / sg
  if a < lo || lo + len < a + n || n = 0 || lo + (j + 1) * sg < a + n || n % rotWidth r ≠ 0
      || j = (if g then sgPos e else (sgPos e + sgSize e - 1) % sgSize e) then
    s.rotFail p x.plan 5 s.chipId false
  else
    let (v, ks) := if g then (d, []) else rotZip r (rotWidth r) (n / rotWidth r) d ((x.vec.drop a).take n)
    let sats := satClamps r x.vec.length a ks ++ (if sat then satUnits r x.vec.length a n else [])
    let x := { x with vec := patch x.vec a v, sats := (x.sats ++ sats).eraseDups, got := x.got + n }
    let on : Bool := if g then j ≠ (sgPos e + 1) % sgSize e else j ≠ sgPos e
    let s := s.setInst p x
    let s := if on then s.rotSend p x k g a n else s
    if x.got < len - sg then s else s.rotEnter p { x with ex := x.ex + 1, got := 0 }

/-- Data of a BROADCAST (14 R388, R397): kept and passed on, whether or not the instance has launched or failed here. -/
def State.castTake (s : State) (p : Nat) (x : Inst) (k a len : Nat) (d : List PByte) : State :=
  let r := s.plan p x.plan
  let x := if x.vec.isEmpty then { x with vec := zeroRow len, len := len } else x
  if k ≠ castStage r || x.len ≠ len || x.complete || x.vec.length < a + d.length || d.isEmpty then s.rotFail p x.plan 5 s.chipId false
  else
    let x := { x with vec := patch x.vec a d, got := x.got + d.length }
    let x := { x with complete := x.launched && decide (x.vec.length ≤ x.got) }
    (s.setInst p x).castSend p x a d.length

/-- ROTUNDA_DATA_RECEIVED (14 R393). -/
def execRotundaDataReceived (p : PavIx) (s : State) : Host.Outcome State Fault Refusal :=
  s.clocked (fun s => match s.takeMsg (s.rotNext p 5) with
    | none => s
    | some (m, s) =>
      if !s.rotFrom p m then s.tallyAdd 0x3A 0 1
      else if s.rotAge p m = 1 then s.tallyAdd 0x28 p 1
      else if plOp (s.plan p m.rPlan) = 3 then
        s.castTake p ((s.inst p m.rPlan).getD { plan := m.rPlan, num := s.instCount p m.rPlan, parts := [] })
          m.rStage (bits m.arg1 31 0) (bits m.arg1 63 32) m.data
      else
        match s.inst p m.rPlan with
        | none => s
        | some x =>
          if x.fail.isSome then s
          else if bits m.arg1 63 32 ≠ x.len || x.complete then s.rotFail p x.plan 5 s.chipId false
          else if (exchanges (s.plan p x.plan))[x.ex]? == some (m.rStage, bit m.arg0 16) then
            s.rotTake p x m.rStage (bit m.arg0 16) (bits m.arg1 31 0) m.data (bit m.arg0 17)
          else s.rotFail p x.plan 5 s.chipId false)

/-- ROTUNDA_CTRL_RECEIVED (14 R393, R396): an ABORT of an instance that has not concluded or failed here fails it with its code and origin. -/
def execRotundaCtrlReceived (p : PavIx) (s : State) : Host.Outcome State Fault Refusal :=
  s.clocked (fun s => match s.takeMsg (s.rotNext p 6) with
    | none => s
    | some (m, s) =>
      if !s.rotFrom p m then s.tallyAdd 0x3A 0 1
      else if s.rotAge p m = 1 then s.tallyAdd 0x28 p 1
      else s.rotFail p m.rPlan (bits m.arg0 31 24) (bits m.arg1 14 0) true)

/-- COLLECTIVE_DEADLINE (14 R394, R395; 22 R595): an instance that has not launched, lacks data, or has a DST that waits on its tags. -/
def execCollectiveDeadline (p : PavIx) (plan : Nat) (s : State) : Host.Outcome State Fault Refusal :=
  s.clocked (fun s => match s.inst p plan with
    | none => s
    | some x =>
      match x.base with
      | none => s
      | some t =>
        if x.fail.isSome || (x.complete && (!x.putting || x.parts.all s.dstDone)) then s
        else (s.elapseTo (t + plDeadline (s.plan p plan))).rotFail p plan 2 s.chipId false)

/-- COLLECTIVE_RESULT_WRITTEN (14 R388, R399; 22 R595): every byte has come; DST is written as its tags allow, then the records, and the
instance concludes. -/
def execCollectiveResultWritten (p : PavIx) (plan : Nat) (s : State) : Host.Outcome State Fault Refusal :=
  s.clocked (fun s => match s.inst p plan with
    | none => s
    | some x =>
      if !x.complete || x.fail.isSome then s
      else if x.putting then s.rotRecords p plan
      else
        let r := s.plan p plan
        let s := x.sorted.foldl (fun s y =>
          let (off, d) := x.result r y
          s.rotPut y.core y.cmd (s.collectCnt y.core y.cmd) (y.dst + off) d) s
        (s.setInst p { x with putting := true }).rotRecords p plan)

/-- A COLLECT of core n of Pavilion p goes on writing; its instance may get its records (22 R595). -/
def State.rotResume (s : State) (n cmd : Nat) : State :=
  let s := s.pumpOwn n .rot cmd
  match s.owner n, (s.core n).runOf .rot cmd with
  | some p, some r => s.rotRecords p (r.cmd.m 15 0)
  | _, _ => s

/-- Plans of Pavilion p of which a started COLLECT has not joined its instance yet: its tags hold it. -/
def State.rotHeld (s : State) (p : Nat) : List Nat :=
  ((s.coresOf p).flatMap (fun n => ((s.core n).rot.run.filter (·.held)).filterMap (fun r =>
    if bit (plMask (s.plan p (r.cmd.m 15 0))) n then some (r.cmd.m 15 0) else none))).eraseDups

/-- A Pavilion reset (14 R398): an ABORT with PEER_RESET for each instance that has launched or has a COLLECT started; the instances are
abandoned without records, and the counts restart at 0. -/
def State.rotReset (s : State) (p : Nat) : State :=
  let joined := ((s.pav p).rot.insts.filter (fun x => x.launched || !x.parts.isEmpty)).map (·.plan)
  let ks := joined ++ (s.rotHeld p).filter (fun k => !joined.contains k)
  let s := ks.foldl (fun s k => s.rotAbort p k (s.instCount p k) 3 s.chipId) s
  (s.updRot p (fun r => { r with insts := [], counts := [] })).planCommit p

/-! ### Notices (13 R365, 14 R398) -/

/-- A NOTICE about a message this chip sent, or whose tag names it. -/
def State.noticed (s : State) (m : Msg) (reason : Nat) : State :=
  let own := fun (t : Nat) => tgChip t = s.chipId
  match m.kind with
  | 1 => if m.src = s.chipId then s.diceNotice m.spav m.dst (bits m.arg0 7 0) m.arg1 else s
  | 2 => if m.dst = s.chipId then s.diceNotice m.dpav m.src (bits m.arg0 7 0) m.arg1 else s
  | 3 => if own m.arg0 then s.diceLost m.spav m.arg0 else s
  | 4 => if own m.arg0 then s.diceLost m.dpav m.arg0 else s
  | 5 | 6 =>
    if m.src = s.chipId && s.plan m.spav m.rPlan ≠ 0 && s.rotAge m.spav m = 0 then
      s.rotFail m.spav m.rPlan (if reason = 4 then 3 else 4) s.chipId false
    else s
  | _ => s

/-- NOTICE_RECEIVED (13 R365). -/
def execNoticeReceived (s : State) : Host.Outcome State Fault Refusal :=
  s.clocked (fun s => match s.takeMsg (fun m => m.kind = 8) with
    | none => s
    | some (m, s) => s.noticed (Msg.ofHeader (leNat (rawBytes m.data)) []) (bits m.arg0 7 0))

end Sys2Proof.Machine
end

