-- ==== Sys2Proof/Machine/TagEvents.lean ====
section
/-! DEFINITION. Machine/TagEvents.lean: waiting tagged accesses that resume, and the completion of long commands (04 R112, 05 R140). -/

namespace Sys2Proof.Machine

/-- The tags still hold back what a started command waits to read or to write. -/
def Core.stillRead (c : Core) (r : Running) : Bool :=
  match r.srcs with
  | .plot a k _ :: _ => c.readBlocked a k
  | _ => false

def Core.stillWrite (c : Core) (r : Running) : Bool :=
  match r.dsts with
  | .plot _ a k _ _ :: _ => c.writeBlocked a k
  | _ => false

/-- A command whose operands waited for their tags begins again (04 R112). -/
def State.beginAgain (s : State) (n : Nat) (e : Eng) (l : LongCmd) : State :=
  match e with
  | .mover => s.moverBegin n l
  | .dice => s.diceBegin n l
  | .rot => s.collectBegin n l
  | .parterre => s.parterreBegin n l
  | .trellis => s.trellisBegin n l

/-- The waiting access of engine e of core n goes on where its tag allows. -/
def State.tagResume (s : State) (n : Nat) (e : Eng) : State :=
  match ((s.core n).eng e).run.find? (fun r => r.held || r.tagSince.isSome || r.wtagSince.isSome) with
  | none => s
  | some r =>
    if r.held then s.beginAgain n e r.cmd
    else
      let c := s.core n
      let s := s.updRun n e r.cmd.id (fun r =>
        { r with tagSince := if c.stillRead r then r.tagSince else none, wtagSince := if c.stillWrite r then r.wtagSince else none })
      match e with
      | .mover => s.pump n
      | .rot => s.rotResume n r.cmd.id
      | _ => s.pumpOwn n e r.cmd.id

/-- TAG_ACCESS_RESUME (04 R112). -/
def execTagAccessResume (c : CoreIx) (e : Eng) (s : State) : Host.Outcome State Fault Refusal := s.clocked (fun s => s.tagResume c e)

/-- A ROUTE or COLLECT whose outcome is written and visible completes (11 R317, 14 R399). -/
def State.portComplete (s : State) (n : Nat) (e : Eng) : State :=
  match ((s.core n).eng e).run with
  | r :: _ => if r.closing && r.finished then s.retire n e r else s
  | [] => s

/-- LONG_COMMAND_COMPLETE (05 R140): the engine has finished and its writes are visible. -/
def execLongCommandComplete (c : CoreIx) (e : Eng) (s : State) : Host.Outcome State Fault Refusal :=
  s.clocked (fun s => match e with
    | .mover => s.moverComplete c
    | .parterre => s.parterreComplete c
    | .trellis => s.trellisComplete c
    | .dice => s.portComplete c .dice
    | .rot => s.portComplete c .rot)

end Sys2Proof.Machine
end

