-- ==== Sys2Proof/Machine/Pavilion.lean ====
section
/-! DEFINITION. Machine/Pavilion.lean: creating, resizing, resetting and destroying Pavilions, and core resets (15 R406 to R433). -/

namespace Sys2Proof.Machine

def pavIx (p : Nat) : Nat := 0x3000 + 16 * p

def pavCoreBusy := 0x110
def pavCoreOwned := 0x111
def pavRangeCode := 0x112
def pavIncomplete := 0x113

/-! ### The steps of a reset, for one core (15 R422) -/

/-- Step 1: a core stops issue, whatever it waits for; a leased Checkmate run stops without a result (18 R506). -/
def Core.stopReset (c : Core) : Core :=
  { c with ctl := { c.ctl with drain := .reset }, sa := { c.sa with wait := .none }, sx := { c.sx with wait := .none },
           fence := { c.fence with run := if c.fence.run = .lease then .none else c.fence.run } }

/-- A leased core of Pavilion p is being reset: the lease is abandoned (18 R506). -/
def State.leaseDrop (s : State) (p n : Nat) : State :=
  if (s.core n).fence.run = .lease then s.updPav p (fun v => { v with leaseStatus := 4 }) else s

/-- Step 2: started Parterre commands finish; every other command ends, and nothing of it is awaited any more. -/
def State.dropCommands (s : State) (n : Nat) : State :=
  let s := (List.range (s.core n).par.eng.run.length).foldl (fun s _ => s.parterreComplete n) s
  let mine := fun (q : Req) => q.core = n && q.cmd ≠ 0
  let arb := s.arb
  let s := { s with arb := { arb with waiting := arb.waiting.filter (fun q => !mine q), reads := arb.reads.filter (fun q => !mine q),
                                      host := arb.host.filter (fun q => !mine q) } }
  s.updCore n (fun c =>
    { c with mover := {}, dice := {}, rot := {}, tre := {}, par := { c.par with eng := {} }, map := { c.map with walk := none } })

/-- Steps 3 to 5: counters, held arrivals, the Plot (after a pending classification or repair; 09 R268), registers, queues, windows, flags,
breakpoints, step and fault state, and the map buffer. A FENCED core stays FENCED. -/
def Core.clearReset (c : Core) : Core :=
  let c := c.scrubOrWait
  { c with ctl := { c.ctl with st := if c.ctl.st = .fenced then .fenced else .idle, split := false, stepNum := 0, stepState := 1, fault := 0,
                               sregs := [], drain := .none },
           sa := {}, sx := {}, cnts := [], wins := [], qs := [], pbuf := [],
           map := { c.map with entries := [], rr := 0, walk := none },
           pint := { c.pint with stepFailed := false },
           dbg := { c.dbg with bps := [], single := false, triggered := false, trigStepped := false, trace := [], reason := 0 },
           fence := { c.fence with coreReset := false } }

/-- Steps 2 to 5 for core n. Held arrivals are dropped and counted. -/
def State.resetCore (s : State) (n : Nat) : State :=
  let s := s.dropCommands n
  let held := (s.core n).pbuf.length
  let s := if held = 0 then s else s.tallyPav 0x2C (s.owner n) held
  (s.updCore n (·.clearReset)).settle n

/-! ### Pavilion resets (15 R421 to R425, R429) -/

/-- Messages of a Pavilion that have been delivered and not taken are discarded (13 R372, 11 R325). -/
def State.dropDelivered (s : State) (p : Nat) : State :=
  let mine := fun (m : Msg) => m.ofPav && m.dpav = p
  let gone := s.link.delivered.filter mine
  let left := s.link.delivered.filter (fun m => !mine m)
  let s := { s with link := { s.link with delivered := left } }
  gone.foldl (fun s m => if m.kind = 4 then (s.tallyAdd 0x38 0 1).tallyAdd 0x27 p 1 else s.dropMsg m 4) s

/-- Step 1 of a Pavilion reset for a cause of PAV_LAST_RESET. -/
def State.pavStop (s : State) (p : Nat) (st : PState) (code : Nat) : State :=
  let s := s.updPav p (fun v => { v with st := st, resetAt := 2, lastReset := code })
  let s := (s.coresOf p).foldl (fun s n => (s.leaseDrop p n).updCore n (·.stopReset)) s
  let s := ((s.rotReset p).diceReset p).dropDelivered p
  (s.endRequester (1 + p)).syncChip

/-- A Pavilion that is not FREE is reset; a reset under way takes the request in (15 R429). -/
def State.pavResetBy (s : State) (p code : Nat) : State :=
  match (s.pav p).st with
  | .active => s.pavStop p .resetting code
  | _ => s

/-- The effect of PAV_RESET. -/
def State.pavReset (s : State) (p v : Nat) : Nat × State :=
  if v = 0 then (stOk, s) else if (s.pav p).st = .free then (stState, s) else (stOk, s.pavResetBy p 1)

/-- The effect of PAV_DESTROY (15 R413, R429). -/
def State.pavDestroy (s : State) (p v : Nat) : Nat × State :=
  if 1 < v then (stRange, s)
  else
    let s := s.updPav p (fun w => { w with destroyV := v })
    match (s.pav p).st with
    | .resetting => (stOk, s.updPav p (fun w => { w with st := .destroying, lastReset := 5 }))
    | .destroying => (stOk, s)
    | _ => (stOk, s.pavStop p .destroying 5)

/-- Steps 2 to 7 of a Pavilion reset. -/
def State.pavClear (s : State) (p : Nat) : State :=
  let s := (s.coresOf p).foldl (fun s n => s.resetCore n) s
  let s := s.orgDrop p 0 (2 ^ 48) false
  (s.bsReset p).updPav p (fun v => { v with resetAt := 3 })

/-- PAV_RESET_DRAIN_COMPLETE (15 R422): the drain of step 2 ends, and steps 3 to 7 follow once no classification or repair is pending
(09 R268). -/
def execPavResetDrainComplete (p : PavIx) (s : State) : Host.Outcome State Fault Refusal :=
  .next (
    if (s.pav p).resetAt = 2 && (s.coresOf p).all (fun n => (s.core n).pint.suspects.isEmpty) then s.pavClear p else s)

/-- Step 8: every pending cause is discarded, RESET_DONE is raised, and PF0 is told. -/
def State.pavStep8 (s : State) (p : Nat) : State :=
  let s := s.updFn (p + 1) (fun f => { f with pending := 0, listMap := 0, pba := 0 })
  let s := s.raiseVf p 5
  let s := s.updPav p (fun v => { v with resetAt := 0, resetCount := (v.resetCount + 1) % 2 ^ 32 })
  let s := s.updFn 0 (fun f => { f with listMap := setBit f.listMap p true })
  s.raise 0 4

/-- PAV_RESET_COMPLETE (15 R422). -/
def execPavResetComplete (p : PavIx) (s : State) : Host.Outcome State Fault Refusal :=
  .next (
    if (s.pav p).resetAt = 3 && (s.pav p).st = .resetting then ((s.pavStep8 p).updPav p (fun v => { v with st := .active })).syncChip else s)

/-- Zero a range of the tiers with good Pip codes (15 R413). -/
def State.zeroRange (s : State) (b n : Nat) : State :=
  let m := s.mmeta
  let blk := (List.range (n / 4096)).foldl (fun (t : Sparse Nat) i => Sparse.put t (b / 4096 + i) 0) m.pip
  { s with mem := Mem.zero s.mem b n,
           mmeta := { m with pip := blk, mark := m.mark.filter (fun k => decide (64 * k < b) || decide (b + n ≤ 64 * k)),
                             err := m.err.filter (fun r => decide (64 * r.1 < b) || decide (b + n ≤ 64 * r.1)) } }

/-- Release what a destroyed Pavilion owns (15 R413). -/
def State.pavRelease (s : State) (p : Nat) : State :=
  let s := if (s.pav p).destroyV = 1 then
      (List.range 8).foldl (fun s r => let (b, n) := s.pavRange p r; if n = 0 then s else s.zeroRange b n) s
    else s
  let s := s.setObj (pavIx p) 2 0
  let s := (List.range 8).foldl (fun s r => (s.setObj (pavIx p + 1) (1 + r) 0).setObj (pavIx p + 1) (9 + r) 0) s
  ((s.setObj (bsIx p) 2 0).updPav p (fun v => { v with st := .free, resetAt := 0 })).syncChip

/-- PAV_DESTROY_COMPLETE (15 R413). -/
def execPavDestroyComplete (p : PavIx) (s : State) : Host.Outcome State Fault Refusal :=
  .next (if (s.pav p).resetAt = 3 && (s.pav p).st = .destroying then (s.pavStep8 p).pavRelease p else s)

/-! ### Core resets (15 R424, R429, R432) -/

/-- The effect of PAV_CORE_RESET. -/
def State.pavCoreReset (s : State) (p n : Nat) : Nat × State :=
  if (s.pav p).st = .free then (stState, s)
  else if !bit (s.pavCores p) n || 143 < n then (pavCoreOwned, s)
  else if (s.pav p).resetAt ≠ 0 || (s.core n).fence.coreReset then (stOk, s)
  else (stOk, (s.leaseDrop p n).updCore n (fun c => { c.stopReset with fence := { c.stopReset.fence with coreReset := true } }))

/-- CORE_RESET_COMPLETE (15 R424): steps 2 to 5 for the core, once no classification or repair is pending. -/
def execCoreResetComplete (c : CoreIx) (s : State) : Host.Outcome State Fault Refusal :=
  .next (
    if (s.core c).fence.coreReset && (s.core c).pint.suspects.isEmpty then (s.resetCore c).raiseCore c 6 else s)

/-! ### Creating (15 R409) -/

/-- PAV_CREATE needs cores and an HBM4 range. -/
def State.pavWhole (s : State) (p : Nat) : Bool :=
  s.pavCores p ≠ 0 && (List.range 8).any (fun r => (s.pavRange p r).2 ≠ 0 && tierOf (s.pavRange p r).1 = 0)

/-- A core of a new Pavilion: scrubbed, counters 0, IDLE. -/
def Core.fresh (c : Core) : Core :=
  let c := c.scrubOrWait
  { c with cnts := [], ctl := { c.ctl with st := if c.ctl.st = .fenced then .fenced else .idle } }

/-- Counters and histories that start again with a Pavilion (16 R450, 17 R474, 19 Table 19-2, 21 R570). -/
def State.pavHistory (s : State) (p : Nat) : State :=
  let v := s.pav p
  let old := (v.energy.map (·.2)).sum
  let s := { s with energy := { s.energy with retired := (s.energy.retired + old) % 2 ^ 64 } }
  let s := s.setPav p { v with energy := [], dice := { v.dice with skip := [] }, ct := { v.ct with hist := [], miss := [] } }
  (s.tallyClearPav p).latchContract p |>.updPav p (·.bucketsStart)

/-- The effect of PAV_CREATE. -/
def State.pavCreate (s : State) (p v : Nat) : Nat × State :=
  if v = 0 then (stOk, s)
  else if !s.boot.ready || (s.pav p).st ≠ .free then (stState, s)
  else if !s.pavWhole p then (pavIncomplete, s)
  else
    let s := (s.coresOf p).foldl (fun s n => s.updCore n (·.fresh)) s
    let s := s.updFn (p + 1) (fun f => { f with pending := 0 })
    let s := s.updPav p (fun v => { v with st := .active, resetAt := 0 })
    (stOk, (s.pavHistory p).syncChip)

/-! ### Resizing (15 R408, R411, R412) -/

/-- The first check of R411 that a change of PAV_CORES from `old` to `new` fails, 0 where none does. -/
def State.coresFail (s : State) (old new : Nat) : Nat :=
  ((List.range 144).findSome? (fun n =>
    if bit new n && !bit old n then (if s.coreUsable n && s.owner n = none then none else some pavCoreOwned)
    else if bit old n && !bit new n then
      (match (s.core n).ctl.st with | .run => some pavCoreBusy | .halted => some pavCoreBusy | _ => none)
    else none)).getD 0

/-- The effect of a write to PAV_CORES. -/
def State.pavSetCores (s : State) (p new : Nat) : Nat × State :=
  let old := s.pavCores p
  let code := s.coresFail old new
  if code ≠ 0 then (code, s)
  else
    let gone := (List.range 144).filter (fun n => bit old n && !bit new n)
    let come := (List.range 144).filter (fun n => bit new n && !bit old n)
    let s := gone.foldl (fun s n => (s.resetCore n).raiseVf p 6) s
    let s := s.setObj (pavIx p) 2 new
    (stOk, come.foldl (fun s n => (s.updCore n (fun c => { c.scrubOrWait with fence := { c.fence with run := .none } })).tallyClearCore n) s)

/-- Two ranges share a byte. -/
def rangesMeet (a n b m : Nat) : Bool := n ≠ 0 && m ≠ 0 && decide (a < b + m) && decide (b < a + n)

/-- A range of Pavilion p breaks 15 R408. -/
def State.rangeBad (s : State) (p base size : Nat) : Bool :=
  base % 2097152 ≠ 0 || size % 2097152 ≠ 0 || (size ≠ 0 && (!populated base size
    || (List.range 16).any (fun q => q ≠ p && (List.range 8).any (fun r => let (b, n) := s.pavRange q r; rangesMeet base size b n))))

/-- The effect of a write to a range object: `sub` 1 to 8 a base, 9 to 16 a size (15 R408, R412). -/
def State.pavSetRange (s : State) (p sub v : Nat) : Nat × State :=
  let r := (sub - 1) % 8
  let (b, n) := s.pavRange p r
  let (b', n') := if sub ≤ 8 then (v, n) else (b, v)
  if s.rangeBad p b' n' then (pavRangeCode, s)
  else
    let leave := if n = 0 then [] else if rangesMeet b n b' n' then [(b, b' - b), (b' + n', b + n - (b' + n'))] else [(b, n)]
    let s := leave.foldl (fun s x => if x.2 = 0 then s else s.orgDrop p x.1 x.2 true) s
    (stOk, s.setObj (pavIx p + 1) sub v)

/-- The effect of a write to PT_ROOT (10 R282, R295): the Pavilion's map buffers are emptied, and walks start again from the new root. -/
def State.ptRootWrite (s : State) (p v : Nat) : Nat × State :=
  if v % 2097152 ≠ 0 || 2 ^ 48 ≤ v then (stRange, s)
  else (stOk, (s.coresOf p).foldl (fun s n => s.updCore n (fun c => { c with map := { c.map with entries := [], rr := 0 } })) (s.setObj (0x2210 + p) 1 v))

/-! ### Objects (15 Table 15-8) -/

def PState.num : PState → Nat
  | .free => 0
  | .active => 1
  | .resetting => 2
  | .destroying => 3

/-- Live values of the Pavilion objects. -/
def State.pavRead (s : State) (i sub : Nat) : Option Nat :=
  if 0x3000 ≤ i && i < 0x3100 && i % 16 = 0 then
    let v := s.pav ((i - 0x3000) / 16)
    match sub with
    | 1 => some v.st.num
    | 7 => some v.resetCount
    | 8 => some v.lastReset
    | _ => none
  else none

/-- The effect of a write to a Pavilion object. -/
def State.pavWrite (s : State) (i sub v : Nat) : Option (Nat × State) :=
  if 0x2210 ≤ i && i < 0x2220 then
    if sub = 1 then some (s.ptRootWrite (i - 0x2210) v)
    else if sub ≤ 3 && v % 4096 ≠ 0 then some (stRange, s)
    else some (stOk, s.setObj i sub v)
  else if i < 0x3000 || 0x3100 ≤ i then none
  else
    let p := (i - 0x3000) / 16
    if i % 16 = 1 then some (s.pavSetRange p sub v)
    else match sub with
      | 2 => some (s.pavSetCores p v)
      | 3 => some (s.pavCreate p v)
      | 4 => some (s.pavDestroy p v)
      | 5 => some (s.pavReset p v)
      | 6 => some (s.pavCoreReset p v)
      | _ => none

end Sys2Proof.Machine
end

