-- ==== Sys2Proof/Machine/Pcie.lean ====
section
/-! DEFINITION. Machine/Pcie.lean: the PCIe functions: BAR accesses, doorbells, interrupt registers, configuration, and function resets
(15 R414 to R421, R425, R430, R637; 19 R528, R535). -/

namespace Sys2Proof.Machine

/-! ### BAR0 (15 Table 15-3) -/

/-- The Pavilion of a function; none for PF0. -/
def fnPav (f : Nat) : Option Nat := if f = 0 then none else some (f - 1)

/-- A 32-bit register of BAR0 that a read changes nothing in; 0 at every offset that maps none, and for DOORBELL (15 R637). -/
def State.bar0 (s : State) (f off : Nat) : Nat :=
  let r := s.req f
  let n := s.fn f
  if off = 0 then r.mreq else if off = 4 then r.marg else if off = 8 then r.mwdata else if off = 0xC then r.mstatus
  else if off = 0x10 then r.mrdata
  else if off = 0x2000 then n.pending
  else if off = 0x2004 then n.mask
  else if 0x2010 ≤ off && off < 0x2024 && off % 4 = 0 then bits n.listMap (8 * (off - 0x2010) + 31) (8 * (off - 0x2010))
  else if 0x2080 ≤ off && off < 0x20A0 && off % 4 = 0 then bits n.vector (8 * (off - 0x2080) + 31) (8 * (off - 0x2080))
  else if 0x3000 ≤ off && off < 0x3400 && off % 4 = 0 then n.tableWord ((off - 0x3000) / 4)
  else if off = 0x3800 || off = 0x3804 then bits n.pba (8 * (off - 0x3800) + 31) (8 * (off - 0x3800))
  else 0

/-- INT_PENDING_CLEAR (15 R420). -/
def execIntPendingClear (f : FnIx) (v : Word) (s : State) : Host.Outcome State Fault Refusal :=
  .next (if s.fnExists f then s.updFn f (fun n => { n with pending := (bitList n.pending 32).foldl (fun a i => if bit v.toNat i then a else a + 2 ^ i) 0 })
    else s)

/-- INT_MASK_WRITE (15 R420): a pending cause that is unmasked sends its message. -/
def execIntMaskWrite (f : FnIx) (v : Word) (s : State) : Host.Outcome State Fault Refusal :=
  .next (
    if s.fnExists f then
      let n := s.fn f
      let s := s.setFn f { n with mask := v.toNat }
      ((bitList n.pending 32).filter (fun i => bit n.mask i && !bit v.toNat i)).foldl (fun s i => s.sendIrq f i) s
    else s)

/-- LIST_DONE_MAP_CLEAR (15 Table 15-3): a word of LIST_DONE_MAP, or word 0 of PAV_RESET_MAP for PF0. -/
def execListDoneMapClear (f : FnIx) (word : Fin 5) (v : Word) (s : State) : Host.Outcome State Fault Refusal :=
  .next (
    if s.fnExists f && (f.val ≠ 0 || word.val = 0) then
      s.updFn f (fun n => { n with listMap := (bitList n.listMap 160).foldl (fun a i =>
        if i / 32 = word.val && bit v.toNat (i % 32) then a else a + 2 ^ i) 0 })
    else s)

/-- Send the messages that wait in the PBA of a function and can leave. -/
def State.flushPba (s : State) (f : Nat) : State :=
  (bitList (s.fn f).pba 64).foldl (fun s v =>
    if s.msixOpen f v then (s.updFn f (fun n => { n with pba := setBit n.pba v false })).sendMsix f v else s) s

/-- MSIX_ENABLE (15 R420, R425). -/
def execMsixEnable (f : FnIx) (on : Bool) (s : State) : Host.Outcome State Fault Refusal :=
  .next (if s.fnExists f then (s.updFn f (fun n => { n with msix := on })).flushPba f else s)

/-- `len` bytes of BAR0 from an offset. -/
def State.bar0Bytes (s : State) (f off len : Nat) : Nat :=
  leNat ((List.range len).map (fun i => BitVec.ofNat 8 (s.bar0 f ((off + i) / 4 * 4) / 256 ^ ((off + i) % 4))))

/-- A register of `size` bytes at `base` after a write of `len` bytes at `off`. -/
def regBytes (old base size off len v : Nat) : Nat :=
  (List.range len).foldl (fun x i =>
    let a := off + i
    if base ≤ a && a < base + size then setBits x (8 * (a - base) + 7) (8 * (a - base)) (v / 256 ^ i) else x) old

/-- Word k of the MSI-X table after a write of BAR0; of a control word the mask bit alone is kept (log 5). -/
def Fn.writeTable (n : Fn) (off len v k : Nat) : Fn :=
  let base := 0x3000 + 4 * k
  if base < off + len && off < base + 4 then
    let w := regBytes (n.tableWord k) base 4 off len v
    { n with msixTable := Sparse.put n.msixTable k (if k % 4 = 3 then w % 2 else w) }
  else n

/-- MBX_REQ after a write of BAR0 that does not write GO as 1 (03 R84, Table 3-8): HALF, OP, INDEX and SUBINDEX are stored, the reserved bits
are ignored, and GO stands as it is. A GO is the row MBX_READ or MBX_WRITE. -/
def mbxReqBytes (old off len v : Nat) : Nat :=
  let w := regBytes (setBit old 31 false) 0 4 off len v
  if bit w 31 then old else setBit (setBits w 29 28 0) 31 (bit old 31)

/-- A write of BAR0 outside the registers that rows of their own write (15 Table 15-3, R637): INT_VECTOR, the MSI-X table, MBX_ARG,
MBX_WDATA and, but for GO, MBX_REQ take it, and it is ignored everywhere else. -/
def State.bar0Write (s : State) (f off len v : Nat) : State :=
  let s := s.updReq f (fun r => { r with mreq := mbxReqBytes r.mreq off len v })
  let s := s.updReq f (fun r => { r with marg := regBytes r.marg 4 4 off len v, mwdata := regBytes r.mwdata 8 4 off len v })
  let s := s.updFn f (fun n =>
    (List.range 256).foldl (fun n k => n.writeTable off len v k) { n with vector := regBytes n.vector 0x2080 32 off len v })
  s.flushPba f

/-- BAR0_UNMAPPED_ACCESS (15 R637): an access of BAR0 that no other row names. -/
def execBar0UnmappedAccess (f : FnIx) (write : Bool) (off len : Nat) (v : DWord) (s : State) : Host.Outcome State Fault Refusal :=
  .next (
    if !s.fnExists f then s
    else if write then s.bar0Write f off (min len 8) v.toNat
    else s.emit (.bar0 f (s.bar0Bytes f off (min len 8))))

/-! ### Doorbells (15 R418, R419, R428) -/

/-- Plot writes that a function sent through BAR4 before become visible (15 R417). -/
def State.posted (s : State) (f : Nat) : State :=
  let p := (fnPav f).getD 16
  let mine := s.net.filter (fun k => k.src = 144 && k.pav = p)
  mine.foldl (fun s k => s.packetArrives k) { s with net := s.net.filter (fun k => !(k.src = 144 && k.pav = p)) }

/-- A reserved bit of a DOORBELL value is set (15 Table 15-4). -/
def doorbellReserved (v : Nat) : Bool := bits v 63 62 ≠ 0 || bits v 15 9 ≠ 0

/-- DOORBELL (15 R417, R418). -/
def execDoorbell (p : PavIx) (v : DWord) (width : Nat) (s : State) : Host.Outcome State Fault Refusal :=
  .next (
    if !s.fnExists (p + 1) then s
    else
      let s := s.posted (p + 1)
      if width ≠ 8 then s.tallyAdd 0x2B p 1
      else
        let x := v.toNat
        s.startRequest p (bits x 7 0) (doorbellReserved x) (bit x 8) (bits x 38 16) (bits x 61 39))

/-- DB_REFUSAL_READ (15 R419). -/
def execDbRefusalRead (p : PavIx) (s : State) : Host.Outcome State Fault Refusal :=
  .next (
    if s.fnExists (p + 1) then
      (s.emit (.bar0 (p + 1) (s.fn (p + 1)).dbRefusal)).updFn (p + 1) (fun n => { n with dbRefusal := 0 })
    else s)

/-! ### BAR2 and BAR4 (15 R415, R416) -/

/-- The physical address that `len` bytes at an offset of BAR2 map to (15 Table 15-2). -/
def State.bar2Addr (s : State) (f off len : Nat) : Option Nat :=
  match fnPav f with
  | none => if populated off len && off + len ≤ 2 ^ 41 then some off else none
  | some p =>
    ((List.range 8).foldl (fun (acc : Option Nat × Nat) r =>
      let (b, n) := s.pavRange p r
      (if acc.1.isNone && n ≠ 0 && decide (acc.2 ≤ off) && decide (off + len ≤ acc.2 + n) then some (b + (off - acc.2)) else acc.1, acc.2 + n))
      (none, 0)).1

/-- An access that maps nothing (15 R416). -/
def State.unbacked (s : State) (f : Nat) (write : Bool) : State :=
  let s := s.tallyPav 0x2A (fnPav f) 1
  if write then s else s.emit (.cplUR f)

/-- Mark a host access of a Pavilion (16 R436, R443). -/
def State.hostMark (s : State) (f tier len : Nat) : State :=
  match fnPav f with
  | none => s
  | some p => let (cls, s) := s.classOf p 3 tier none; (s.mark p (tierRes tier) cls len).2

/-- BAR2_ACCESS (15 R416). -/
def execBar2Access (f : FnIx) (write : Bool) (off len : Nat) (data : List Byte) (ep : Bool) (s : State) :
    Host.Outcome State Fault Refusal :=
  .next (
    let n := if write then data.length else len
    if !s.fnExists f || n = 0 then s
    else
      match (if s.boot.ready then s.bar2Addr f off n else none) with
      | none => s.unbacked f write
      | some pa =>
        let s := s.hostMark f (tierOf pa) n
        if write then s.physWrite pa (data.map (fun b => (b, ep)))
        else
          let (d, s) := s.physRead pa n
          s.emit (.cplData f (rawBytes d) (anyPoison d)))

/-- The core and Plot address of an access through BAR4 (15 Table 15-2). -/
def State.bar4Addr (s : State) (f off len : Nat) : Option (Nat × Nat) :=
  let n := off / 8388608
  let a := off % 8388608
  let mine : Bool := match fnPav f with | none => true | some p => s.owner n = some p
  if s.coreUsable n && mine && a + len ≤ plotSize then some (n, a) else none

/-- A write enters the Hedgerow as packets of at most one slot each (09 R244); `p` is the Pavilion, 16 for PF0. -/
def State.gatewayWrite (s : State) (p n a : Nat) (d : List PByte) : State :=
  (slotPieces a d.length).foldl (fun s x =>
    let (id, s) := s.fresh
    { s with net := s.net ++ [{ id := id, src := 144, dst := n, pav := p, addr := x.1, data := (d.drop (x.1 - a)).take x.2, aow := 0,
                                cnt := none, amount := 0, signal := false, cmd := 0 }] }) s

/-- BAR4_ACCESS (15 R416): a write enters the Hedgerow at gateway 0; a read returns after the function's earlier writes. -/
def execBar4Access (f : FnIx) (write : Bool) (off len : Nat) (data : List Byte) (ep : Bool) (s : State) :
    Host.Outcome State Fault Refusal :=
  .next (
    let k := if write then data.length else len
    if !s.fnExists f || k = 0 then s
    else
      match (if s.boot.ready then s.bar4Addr f off k else none) with
      | none => s.unbacked f write
      | some (n, a) =>
        let s := s.hostMark f 3 k
        if write then s.gatewayWrite ((fnPav f).getD 16) n a (data.map (fun b => (b, ep)))
        else
          let s := s.posted f
          let d := (s.core n).plotBytes a k
          s.emit (.cplData f (rawBytes d) (anyPoison d)))

/-! ### Host-window completions (10 R271, 15 R416) -/

/-- A host-window read of a command ends with bytes, or with a memory fault of cause HOST (10 R271). -/
def State.hostEnd (s : State) (rid : Nat) (d : Option (List PByte)) : State :=
  match s.arb.host.find? (fun q => q.id = rid) with
  | none => s
  | some q =>
    let s := { s with arb := { s.arb with host := s.arb.host.filter (fun x => x.id ≠ rid) } }
    match d with
    | some d => s.deliver q ((d ++ clean (List.replicate q.len 0)).take q.len)
    | none => (s.memFault q.core 6 false q.va).deliver q (poisonZeros q.len)

/-- A host-window read of a chip unit ends; a Bandstand goes on with its ring. -/
def State.fetchEnd (s : State) (rid : Nat) (d : Option (List PByte)) : State :=
  match s.arb.fetch.find? (fun f => f.id = rid) with
  | none => s
  | some f =>
    let s := { s with arb := { s.arb with fetch := s.arb.fetch.map (fun x =>
      if x.id = rid then { x with got := some (d.map (fun d => (d ++ clean (List.replicate f.len 0)).take f.len)) } else x) } }
    if f.unit = 0 then s.bsResume f.pav else s

/-- A host-window read ends. -/
def State.hostDone (s : State) (rid : Nat) (d : Option (List PByte)) : State := (s.hostEnd rid d).fetchEnd rid d

/-- Every host-window read under way ends without a completion: the link is gone. -/
def State.hostLost (s : State) : State :=
  let ids := s.arb.host.map (·.id) ++ (s.arb.fetch.filter (fun f => f.got.isNone)).map (·.id)
  ids.foldl (fun s i => s.hostDone i none) s

/-- HOST_COMPLETION (10 R271, 15 R416): a completion with EP carries poisoned data. -/
def execHostCompletion (rid : Nat) (ok : Bool) (data : List Byte) (ep : Bool) (s : State) : Host.Outcome State Fault Refusal :=
  .next (s.hostDone rid (if ok then some (data.map (fun b => (b, ep))) else none))

/-- HOST_COMPLETION_TIMEOUT (10 R271). -/
def execHostCompletionTimeout (rid : Nat) (s : State) : Host.Outcome State Fault Refusal := .next (s.hostDone rid none)

/-! ### Configuration and function resets (15 R421, R425, R430; 19 R528, R535) -/

/-- Bytes of BAR 2j of a function (15 Table 15-2). -/
def barSize (vf : Bool) (j : Nat) : Nat :=
  if j = 0 then 2 ^ 16 else if j = 1 then (if vf then 2 ^ 40 else 2 ^ 41) else 2 ^ 31

/-- What BAR register k reads after `v` was written to it (15 R415; log 5): every BAR takes two registers, its address bits are those of a multiple
of its size, and bits 3:0 of the first name a 64-bit memory BAR, prefetchable but for BAR0. -/
def barRead (vf : Bool) (k v : Nat) : Nat :=
  let size := barSize vf (k / 2)
  let low := size % 2 ^ 32
  if k % 2 = 1 then v / (max 1 (size / 2 ^ 32)) * max 1 (size / 2 ^ 32)
  else (if low = 0 then 0 else v / low * low) + 4 + (if k = 0 then 0 else 8)

/-- A function has a capability or feature (15 Table 15-1; 20 R559). -/
def hasCap (f : Nat) : CfgCap → Bool
  | .sriov => f = 0
  | .ari | .msix | .flr | .aer | .doe => true
  | .ats | .pri | .pasid | .ide | .tph | .atomicOps | .msi | .intx | .aspm | .peerToPeer => false

/-- What a configuration read answers (15 R414, R415; 24 Table 24-6). Link speeds, widths and completion timeout ranges are sets, one bit each from
the lowest. A VF has no IDs, BARs or VFs of its own there (log 5). -/
def State.cfgRead (s : State) (f : Nat) : CfgItem → Nat
  | .ids => if f = 0 then Config.fuses.vendorId.toNat + 0x08A1 * 65536 else 0xFFFFFFFF
  | .vfDeviceId => if f = 0 then 0x08A2 else 0
  | .classCode => 0x120000
  | .bar k => if f = 0 then barRead false k (Sparse.getD s.pcie.bars k 0) else 0
  | .vfBar k => if f = 0 then barRead true k (Sparse.getD s.pcie.vfBars k 0) else 0
  | .linkSpeeds => 63
  | .linkWidths => 31
  | .maxPayload => s.pcie.maxPayload
  | .maxReadRequest => s.pcie.maxReadRequest
  | .tags => 512
  | .totalVfs => if f = 0 then 16 else 0
  | .firstVfOffset => if f = 0 then 1 else 0
  | .vfStride => if f = 0 then 1 else 0
  | .msixVectors => 64
  | .timeoutRanges => 15
  | .has c => b2n (hasCap f c)

/-- A size that the host may set (15 Table 15-1): a power of two from 128 to `top`. -/
def cfgSize (top n old : Nat) : Nat := if (List.range 6).any (fun i => n = 128 * 2 ^ i) && decide (n ≤ top) then n else old

/-- PCIE_CONFIG_REQUEST (15 R414, R415; 19 R528, R535). -/
def execPcieConfigRequest (f : FnIx) (req : CfgReq) (s : State) : Host.Outcome State Fault Refusal :=
  .next (
    if !s.boot.perstN then s
    else if s.boot.phase < 2 || s.cyc.ns < s.pcie.crsUntil then s.emit .crs
    else if !s.fnExists f then s.emit (.cplUR f)
    else
      let s := match req with
        | .read item => s.emit (.cfgData f (s.cfgRead f item))
        | _ => s.emit .cfgOK
      let pf := fun (g : Pcie → Pcie) => if f.val = 0 then { s with pcie := g s.pcie } else s
      match req with
      | .read _ => s
      | .bar k v => pf (fun x => { x with bars := Sparse.put x.bars k v.toNat })
      | .vfBar k v => pf (fun x => { x with vfBars := Sparse.put x.vfBars k v.toNat })
      | .maxPayload n => pf (fun x => { x with maxPayload := cfgSize 512 n x.maxPayload })
      | .maxReadRequest n => pf (fun x => { x with maxReadRequest := cfgSize 4096 n x.maxReadRequest })
      | .busMaster on => (s.updFn f (fun n => { n with busMaster := on })).flushPba f
      | .functionMask on => (s.updFn f (fun n => { n with fnMask := on })).flushPba f
      | .vfEnable => { s with pcie := { s.pcie with vfEnable := true } })

/-- PCIe state of a function that a reset of it clears: MSI-X Enable, its masks and table, and Bus Master Enable (log 5). -/
def Fn.clearPcie (n : Fn) : Fn := { n with msix := false, fnMask := false, msixTable := [], busMaster := false }

/-- PF0's configuration space at its reset values, VF Enable apart (log 5). -/
def Pcie.clear (x : Pcie) : Pcie := { x with bars := [], vfBars := [], maxPayload := 128, maxReadRequest := 512 }

/-- FLR (15 R421, R425; 03 R89). -/
def execFlr (f : FnIx) (s : State) : Host.Outcome State Fault Refusal :=
  .next (
    if !s.fnExists f then s
    else if f.val = 0 then
      let s := (((s.endRequester 0).cancelFn 0).setReq 0 {}).setFn 0 (Fn.resetOf 0)
      { s with pcie := s.pcie.clear }
    else (((s.endRequester f).cancelFn f).updFn f (·.clearPcie)).pavResetBy (f.val - 1) 2)

/-- VF Enable is clear: the VFs do not exist (15 R430, R637). -/
def State.vfsGone (s : State) (code : Nat) : State :=
  let s := { s with pcie := { s.pcie with vfEnable := false } }
  (List.range 16).foldl (fun s p => (((s.updFn (p + 1) (·.clearPcie)).endRequester (p + 1)).cancelFn (p + 1)).pavResetBy p code) s

/-- VF_ENABLE_CLEAR (15 R430). -/
def execVfEnableClear (s : State) : Host.Outcome State Fault Refusal :=
  .next (if s.pcie.vfEnable then s.vfsGone 3 else s)

/-- PERST_N_ASSERT (15 R421, 19 R535); the pin is ignored while PWRGOOD is low (23 R611). -/
def execPerstNAssert (s : State) : Host.Outcome State Fault Refusal :=
  .next (
    let s := { s with boot := { s.boot with perstN := false } }
    if !s.boot.pwrgood then s
    else
    let s := ((s.vfsGone 4).cancelHeld 26).updFn 0 (·.clearPcie)
    { s with pcie := { s.pcie.clear with linkUp := false } })

/-- PERST_N_RISE (19 R528, R535): the link trains; Retry Status lasts a time of at most 20 ms that the manual leaves open. -/
def execPerstNRise (s : State) : Host.Outcome State Fault Refusal :=
  .next (
    if s.boot.perstN then s
    else if !s.boot.pwrgood then { s with boot := { s.boot with perstN := true } }
    else
      let (r, s) := s.draw
      { s with boot := { s.boot with perstN := true },
               pcie := { s.pcie with linkUp := !s.boot.thermtripLow, crsUntil := s.cyc.ns + r % 20000001 } })

end Sys2Proof.Machine
end

