-- ==== Sys2Proof/Machine/Power.lean ====
section
/-! DEFINITION. Machine/Power.lean: the cap split, Millpond, energy attribution, rails and V/F points, calibration and thermal limits
(17 R459 to R496; 19 R532). -/

namespace Sys2Proof.Machine

/-! ### Objects the controller reads -/

def State.pwrCap (s : State) : Nat := s.obj 0x4010 2
def State.floorLinks (s : State) : Nat := s.obj 0x4010 3
def State.floorMem (s : State) : Nat := s.obj 0x4010 4
def State.pwrShare (s : State) (p : Nat) : Nat := s.obj 0x4011 (p + 1)
def State.mpRamp (s : State) : Nat := s.obj 0x4020 1

/-- PWR_SHARE_SUM (17 Table 17-4). -/
def State.shareSum (s : State) : Nat := ((List.range 16).map s.pwrShare).sum

/-- The sum of R461 is within PWR_CAP. -/
def State.capHolds (s : State) : Bool := decide (s.shareSum + s.floorLinks + s.floorMem + 60 ≤ s.pwrCap)

/-- S_c (17 R467): the shares of the Pavilions with reservations. -/
def State.contractShare (s : State) : Nat :=
  ((List.range 16).map (fun p =>
    if ((s.pav p).st = .active || (s.pav p).st = .resetting) && ((List.range 6).any (fun r => s.obj (ctIx p) (1 + r) ≠ 0) || s.obj (ctIx p) 0xF ≠ 0) then s.pwrShare p
    else 0)).sum

/-- The next slot start that a controller has not processed: `done` is the last it did. -/
def State.toSlot (s : State) (done : Option Nat) : State :=
  let cur := absSlot s.time.now
  let due : Bool := match done with
    | some k => decide (k < cur)
    | none => s.time.now = absStart cur
  if due then s else s.elapseTo (absStart (cur + 1))

/-! ### The cap (17 R460 to R464, R484) -/

/-- PWR_CAP_EFF of the next slot, in 1/256 W (17 R460, R484): thermal limiting lowers it at MP_RAMP, and it rises back at MP_RAMP; a lower
PWR_CAP is approached from the present power at MP_RAMP; it is PWR_CAP otherwise. -/
def State.capNext (s : State) : State :=
  let cap := 256 * s.pwrCap
  let e := s.power.capEff
  let r := s.mpRamp
  let w := s.power
  if s.energy.limit then { s with power := { w with capEff := min cap (e - r), capRamp := true, capTherm := true } }
  else if w.capTherm then
    let ok : Bool := match s.energy.belowSince with
      | some t => decide (t + 1000000 ≤ s.cyc.ns)
      | none => false
    let e' := if ok then min cap (e + r) else min cap e
    { s with power := { w with capEff := e', capRamp := decide (e' < cap), capTherm := decide (e' < cap) } }
  else if cap < e then
    let from_ := if w.capRamp then e else min e (max cap (256 * w.now))
    let e' := max cap (from_ - r)
    let e' := if from_ = cap then cap else e'
    { s with power := { w with capEff := e', capRamp := decide (cap < e') } }
  else { s with power := { w with capEff := cap, capRamp := false } }

/-- Hand the remainder to the groups of PWR_ORDER, each up to its demand (17 R462). Groups: 0 LINKS, 1 MEMORY, 2 COMPUTE. -/
def capHand (demand : Nat → Nat) : List Nat → Nat → (Nat → Nat) → (Nat → Nat)
  | [], _, a => a
  | g :: gs, left, a =>
    let give := min left (demand g - a g)
    capHand demand gs (left - give) (fun x => if x = g then a g + give else a x)

/-- Take `need` back from the groups of a list in turn, none below its step-2 amount `f` (17 R462, R484). -/
def capTake (f : Nat → Nat) : List Nat → Nat → (Nat → Nat) → (Nat → Nat)
  | [], _, a => a
  | g :: gs, need, a =>
    let t := min need (a g - f g)
    capTake f gs (need - t) (fun x => if x = g then a g - t else a x)

/-- The amounts handed out above step 2. -/
def capExtra (f a : Nat → Nat) : Nat := (a 0 - f 0) + (a 1 - f 1) + (a 2 - f 2)

/-- The allotments of LINKS, MEMORY and COMPUTE from `left`, the remainder of PWR_CAP_EFF, and `full`, that of PWR_CAP, in the order `gs`.
The reduction of thermal limiting comes from COMPUTE first (17 R462, R484). -/
def capAllot (f demand : Nat → Nat) (gs : List Nat) (left full : Nat) (therm : Bool) : Nat → Nat :=
  if therm then
    let a := capHand demand gs full f
    capTake f (2 :: gs.reverse) (capExtra f a - left) a
  else capHand demand gs left f

/-- The cap split is still at its starting value (19 Table 19-2): 16 frames from milestone 8 have not passed. -/
def State.capStarting (s : State) : Bool := !s.boot.ready || decide (s.cyc.ns < s.boot.ready8 + 4000000)

/-! ### Pacing (17 R463, R464) -/

/-- Hold back power of a group: requests of level 2, then of level 1; level 0 is never paced. -/
def levelPace (d : LevelPower) (need : Nat) : LevelPower :=
  let t := min need d.l2
  { d with l2 := d.l2 - t, l1 := d.l1 - (need - t) }

def levelTotal (d : LevelPower) : Nat := d.l0 + d.l1 + d.l2

/-- Withhold `need` from the Pavilions above their share, in proportion to the excess (draw and share of each); what is left of the need. -/
def paceExcess (need : Nat) (l : List (Nat × Nat)) : List (Nat × Nat) × Nat :=
  let x := (l.map (fun y => y.1 - y.2)).sum
  let t := min need x
  (l.map (fun y => (y.1 - cdiv (t * (y.1 - y.2)) x, y.2)), need - t)

/-- Withhold from Pavilions in proportion to their shares, round by round, as far as they draw. -/
def paceShares : Nat → Nat → List (Nat × Nat) → List (Nat × Nat)
  | 0, _, l => l
  | fuel + 1, need, l =>
    let total := (l.map (fun y => if y.1 = 0 then 0 else y.2)).sum
    let l' := l.map (fun y => (y.1 - cdiv (need * y.2) total, y.2))
    if need = 0 || total = 0 then l else paceShares fuel (need - ((l.map (·.1)).sum - (l'.map (·.1)).sum)) l'

/-- Pace COMPUTE by `need` in the order of R463: Pavilions above their share, then, where `within`, those within it. The draws that remain, and
whether a Pavilion within its share was paced. -/
def State.paceCompute (s : State) (within : Bool) (need : Nat) (comp : List Nat) : List Nat × Bool :=
  let (l, left) := paceExcess need (comp.zipIdx.map (fun y => (y.1, 256 * s.pwrShare y.2)))
  if within && left ≠ 0 && l.any (fun y => y.1 ≠ 0) then ((paceShares 17 left l).map (·.1), true) else (l.map (·.1), false)

/-- The draw of a slot under the cap (17 R462, R463): LINKS and MEMORY are held to their allotments as far as their levels allow, COMPUTE to
its allotment, and, where a case of R464 holds, to what the others leave of the cap. -/
def State.capPace (s : State) (d : PowerDemand) : PowerDemand × Bool :=
  let a := fun g => Sparse.getD s.power.allot g 0
  let links := levelPace d.links (levelTotal d.links - a 2)
  let mem := levelPace d.mem (levelTotal d.mem - a 3)
  let room := s.power.capEff - d.base - levelTotal links - levelTotal mem
  let lim := if s.power.mayBreach then min (a 4) room else a 4
  let (comp, within) := s.paceCompute s.power.mayBreach (d.comp.sum - lim) d.comp
  ({ d with links := links, mem := mem, comp := comp }, within)

/-- A case in which SHARE_BREACH can be set (17 R464). -/
def State.breachAdmitted (s : State) (d : PowerDemand) : Bool :=
  s.energy.emergency || decide (Sparse.getD s.power.allot 2 0 < d.links.l0) || decide (Sparse.getD s.power.allot 3 0 < d.mem.l0)
    || decide (256 * 60 < d.base)

/-- Count a frame in which SHARE_BREACH is set (17 R464), and record it at most once in 256 frames. -/
def State.countBreach (s : State) (watts : Nat) : State :=
  if !s.power.shareBreach || s.power.breachCounted = some s.frame then s
  else
    let s := { s with power := { s.power with breachCounted := some s.frame, breachFrames := (s.power.breachFrames + 1) % 2 ^ 64 } }
    let due : Bool := match s.power.lastBreach with
      | some f => decide (f + 256 ≤ s.frame)
      | none => true
    if due then ({ s with power := { s.power with lastBreach := some s.frame } }).logRec 0x0040 0 2 none watts else s

/-- The power of a demand or a draw. -/
def powerTotal (d : PowerDemand) : Nat := d.base + levelTotal d.links + levelTotal d.mem + d.comp.sum

/-- The allotments of a slot whose demand is `d` (17 R462). -/
def State.splitCap (s : State) (d : PowerDemand) : State :=
  let f := fun g => 256 * (if g = 0 then s.floorLinks else if g = 1 then s.floorMem else if g = 2 then s.shareSum else 0)
  let rest := fun cap => if s.capStarting then 0 else cap - d.base - f 0 - f 1 - f 2
  let o := s.obj 0x4010 1
  let a := capAllot f (fun g => if g = 0 then levelTotal d.links else if g = 1 then levelTotal d.mem else d.comp.sum) [bits o 1 0, bits o 3 2, bits o 5 4]
    (rest s.power.capEff) (rest (256 * s.pwrCap)) s.power.capTherm
  { s with power := { s.power with allot := [(1, d.base), (2, a 0), (3, a 1), (4, a 2)] } }

/-- PWR_SLOT_SPLIT (17 R462 to R464, 20 R544): the split of a slot start and the pacing that holds it, for the demand of the slot. A Machenil
restart holds the last cap and allotments. -/
def execPwrSlotSplit (demand : PowerDemand) (s : State) : Host.Outcome State Fault Refusal :=
  .next (
    if !s.boot.pwrgood then s
    else
      let s := s.toSlot s.power.splitSlot
      let s := { s with power := { s.power with splitSlot := some (absSlot s.time.now) } }
      let s := if s.fw.down then s else s.capNext.splitCap demand
      let s := { s with power := { s.power with mayBreach := s.breachAdmitted demand } }
      let (d, within) := s.capPace demand
      let s := { s with power := { s.power with draw := d, shareBreach := s.energy.emergency || within } }
      s.countBreach (powerTotal d / 256))

/-! ### Millpond (17 R465 to R471) -/

/-- MP_FLOOR_EFF (17 R467), in 1/256 W. -/
def State.mpFloorEff (s : State) : Nat := min (Sparse.getD s.power.allot 4 0) (256 * max (s.obj 0x4020 3) s.contractShare)

/-- A reading of a sensor: a value, or one more missing (20 R547). -/
def Energy.seen (e : Energy) (k : Nat) (got : Bool) : Energy :=
  if got then { e with missed := Sparse.del e.missed k, flagged := e.flagged.filter (· ≠ k) }
  else { e with missed := Sparse.put e.missed k (min 4 (Sparse.getD e.missed k 0 + 1)) }

/-- Readings of a class of sensors, by index; `store` keeps a value that was read. -/
def Energy.readings {α : Type} (cls : Nat) (store : Energy → Nat → α → Energy) : Energy → Nat → List (Option α) → Energy
  | e, _, [] => e
  | e, i, none :: l => Energy.readings cls store (e.seen (256 * cls + i) false) (i + 1) l
  | e, i, some v :: l => Energy.readings cls store (store (e.seen (256 * cls + i) true) i v) (i + 1) l

/-- The chip is in FAULT for a reason other than THERMTRIP and a rail fault: COMPUTE stops, and P falls to BASE at MP_RAMP (17 R471). -/
def State.faultFall (s : State) : Bool := s.chipState = 5 && !s.boot.causes.thermtrip && !s.boot.causes.rail

/-- R465 binds (17 R465, R471, R485, R487): from the time Machenil is up, in READY, RUN and DEGRADED and while P falls in FAULT, outside the
emergency stage. -/
def State.rampBinds (s : State) : Bool :=
  !s.energy.emergency && decide (1 ≤ s.boot.phase) && (s.chipState ≠ 5 || s.faultFall)

/-- What R465 allows for the power of the slot `n` slots after the last one: from below and above. -/
def State.rampBounds (s : State) (n : Nat) : Option (Nat × Nat) :=
  if s.rampBinds then s.power.env.map (fun e => (e.1 - n * s.mpRamp, e.2 + n * s.mpRamp)) else none

/-- The bounds of R465 after a slot of power `p` that lay in `e`: each slot since bounds the later ones to 5 W. -/
def rampNext (e : Option (Nat × Nat)) (p : Nat) : Nat × Nat :=
  match e with
  | some (lo, hi) => if lo ≤ p && p ≤ hi then (max lo (p - 1280), min hi (p + 1280)) else (p - 1280, p + 1280)
  | none => (p - 1280, p + 1280)

/-- A rise of `need` beyond R465 is held (17 R466): COMPUTE in the order of R463, not within shares while COVERED is set (R467); then level 2 and
level 1 of LINKS and MEMORY. -/
def State.holdRise (s : State) (need : Nat) (d : PowerDemand) : PowerDemand × Bool :=
  let (comp, within) := s.paceCompute (s.power.mayBreach && !s.power.covered) need d.comp
  let need := need - (d.comp.sum - comp.sum)
  let t2 := min need d.links.l2
  let m2 := min (need - t2) d.mem.l2
  let t1 := min (need - t2 - m2) d.links.l1
  let m1 := min (need - t2 - m2 - t1) d.mem.l1
  ({ d with links := { d.links with l2 := d.links.l2 - t2, l1 := d.links.l1 - t1 },
            mem := { d.mem with l2 := d.mem.l2 - m2, l1 := d.mem.l1 - m1 }, comp := comp }, within)

/-- The ballast of a slot that draws `d` (17 R466, R467, R469): what holds COMPUTE at MP_FLOOR_EFF and what slows a fall, as far as the usable
cores, the cap and R465 allow. -/
def State.ballastFor (s : State) (bmax : Nat) (e : Option (Nat × Nat)) (d : PowerDemand) : Nat :=
  let p := powerTotal d
  let floor := if s.chipState = 5 then 0 else s.mpFloorEff - d.comp.sum
  let room := s.power.capEff - p
  match e with
  | some (lo, hi) => min (min (max floor (lo - p)) bmax) (min room (hi - p))
  | none => min (min floor bmax) room

/-- MILLPOND_SLOT (17 R465 to R469; 20 R547): Millpond slows a fall of the slot's draw with ballast and a rise with pacing; a change that escapes
both is a BREACH. `ballastMax` is the ballast the usable cores can draw; then the ballast and pacing cycles of the cores, and the rail current
monitors. -/
def execMillpondSlot (ballastMax : Nat) (cores : List CorePower) (amps : List (Option Int)) (s : State) : Host.Outcome State Fault Refusal :=
  .next (
    if !s.boot.pwrgood then s
    else
      let old := s.power.mpSlot
      let s := s.toSlot old
      let n := absSlot s.time.now - old.getD (absSlot s.time.now)
      let d : PowerDemand := if s.chipState = 5 then { base := s.power.draw.base } else s.power.draw
      let e := s.rampBounds n
      let need := match e with | some (_, hi) => powerTotal d - hi | none => 0
      let (d, within) := s.holdRise need d
      let b := s.ballastFor ballastMax e d
      let p := powerTotal d + b
      let broken : Bool := match e with | some (lo, hi) => decide (p < lo) || decide (hi < p) | none => false
      let paced := decide (powerTotal d < powerTotal s.power.draw) && need ≠ 0
      let w := s.power
      let s := { s with power := { w with mpSlot := some (absSlot s.time.now), now := p / 256, run := d, ballast := b, ballastMax := ballastMax,
                                          floorEff := s.mpFloorEff, covered := decide (256 * s.contractShare ≤ d.comp.sum + b),
                                          mpState := if b ≠ 0 then 1 else if paced then 2 else 0, env := some (rampNext e p),
                                          shareBreach := w.shareBreach || within },
                        energy := Energy.readings 2 (fun e i v => { e with current := Sparse.put e.current i v }) s.energy 0 (amps.take 16) }
      let s := s.countBreach (p / 256)
      let s := if b ≠ 0 then s.disturbCal else s
      let s := cores.foldl (fun s c =>
        let s := if c.ballast = 0 || b = 0 || !s.coreUsable c.core then s else s.tallyAdd 7 c.core c.ballast
        if c.paced = 0 then s else s.tallyAdd 0x1D c.core c.paced) s
      if broken then ({ s with power := { s.power with mpBreach := true } }).logRec 0x0041 0 2 none (p / 256) else s)

/-- MP_STATUS (17 Table 17-4). -/
def State.mpStatus (s : State) : Nat := b2n s.power.covered + 2 * b2n s.power.mpBreach

/-- A read of MP_STATUS clears BREACH. -/
def State.mpStatusSeen (s : State) : State := { s with power := { s.power with mpBreach := false } }

/-- t_e of a value of MP_STEP_TIME (17 R470). -/
def State.stepTime (s : State) (v : Nat) : Nat := v + s.obj 0x4020 9 * (s.chipId % s.obj 0x4020 0xA)

/-- MILLPOND_POWER_STEP (17 R470; 02 R52): time reaches t_e in its turn, MP_FLOOR takes MP_STEP_FLOOR, and the step is no longer pending. -/
def execMillpondPowerStep (s : State) : Host.Outcome State Fault Refusal :=
  .next (
    if s.obj 0x4020 7 = 0 || !s.turn { at_ := s.power.stepAt, rank := 3 } then s
    else
      let s := s.elapseTo s.power.stepAt
      (s.setObj 0x4020 3 (s.obj 0x4020 8)).setObj 0x4020 7 0)

/-! ### Energy (17 R472 to R474) -/

/-- e_i of an estimate (17 R473). -/
def charge (e a x : Nat) : Nat := if a = 0 then 0 else if a ≤ e then x else x * e / a

/-- Charge one part to its Pavilion. -/
def State.chargePart (s : State) (e a : Nat) (x : EnergyPart) : State :=
  s.updPav x.pav (fun v => { v with energy := Sparse.put v.energy x.queue ((Sparse.getD v.energy x.queue 0 + charge e a x.amount) % 2 ^ 64) })

/-- FRAME_ENERGY_ATTRIBUTION (17 R473, R474): the frame's energy in nJ, the estimates of the parts and of the ballast. The fraction of a µJ
is carried. -/
def execFrameEnergyAttribution (nanojoule : Nat) (parts : List EnergyPart) (ballast : Nat) (s : State) : Host.Outcome State Fault Refusal :=
  .next (
    let t := nanojoule + s.energy.frac
    let e := t / 1000
    let a := (parts.map (·.amount)).sum + ballast
    let eb := charge e a ballast
    let used := (parts.map (fun x => charge e a x.amount)).sum + eb
    let s := parts.foldl (fun s x => s.chargePart e a x) s
    let n := s.energy
    { s with energy := { n with frac := t % 1000, total := (n.total + e) % 2 ^ 64, ballast := (n.ballast + eb) % 2 ^ 64,
                                uncharged := (n.uncharged + (e - used)) % 2 ^ 64 } })

/-! ### Rails and points (17 R475 to R480) -/

/-- V_k of the V/F table, fused, in mV: such that V_req stays in the range of rail 0 whatever the ageing, the guard and VF_OFFSET_MV add
(23 Table 23-2; log 83). -/
def vTable (k : Nat) : Nat := 620 + Config.fusedPower k % 256

/-- The fused setpoint of rail 1 or 2, in mV: such that its target stays in the rail's range of Table 23-2 (log 83). -/
def railSetpoint (k : Nat) : Nat := (if k = 1 then 720 else 770) + Config.fusedPower (15 + k) % 21

/-- VF_OFFSET_MV. -/
def State.vfOffset (s : State) : Int := toSigned 32 (s.obj 0x4030 6)

/-- V_req(k) (17 R476). -/
def State.vReq (s : State) (k : Nat) : Nat := ((vTable k + s.power.aging + s.power.droopG : Nat) + s.vfOffset).toNat

/-- The point requested of the clock (17 R475): 0 before milestone 8, else VF_POINT, lowered by thermal limiting. -/
def State.vfGoal (s : State) : Nat := if s.boot.ready then min (s.obj 0x4030 2) (15 - s.power.thermDown) else 0

/-- RAIL_SLEW of rail k, in mV per µs. -/
def State.railSlew (s : State) (k : Nat) : Nat := s.obj (0x4040 + k) 3

/-- Where rail k stands: it moves from its last known voltage toward its target at RAIL_SLEW (17 R479). -/
def State.railAt (s : State) (k : Nat) : Nat :=
  let r := s.rail k
  let d := s.railSlew k * (s.cyc.ns - r.since) / 1000
  if r.target < r.readback then max r.target (r.readback - d) else min r.target (r.readback + d)

/-- Write a target to rail k over AVSBus (17 R479). -/
def State.retarget (s : State) (k target : Nat) : State :=
  let v := s.railAt k
  (s.updRail k (fun r => { r with target := target, readback := v, since := s.cyc.ns, done := false, slewing := true })).emit (.avs k target)

/-- The core clock moves to a point. -/
def State.moveClock (s : State) (k : Nat) : State := { s with power := { s.power with vf := k } }

/-- The clock and rail 0 follow the requested point (17 R478, R479): down, the clock moves first; up, it waits for the rail. -/
def State.aimVf (s : State) : State :=
  let g := s.vfGoal
  let s := if g < s.power.vf then s.moveClock g else s
  let t := s.vReq g
  let s := if (s.rail 0).target = t then s else s.retarget 0 t
  if (s.rail 0).done && s.power.vf < min g s.power.vfCeil then s.moveClock (min g s.power.vfCeil) else s

/-- The target of rail k = 1, 2. -/
def State.fixedTarget (s : State) (k : Nat) : Nat := ((railSetpoint k + s.power.aging : Nat) + s.vfOffset).toNat

/-- Every rail follows a change of the ageing or of VF_OFFSET_MV (17 R476). -/
def State.aimRails (s : State) : State :=
  [1, 2].foldl (fun s k => if (s.rail k).target = s.fixedTarget k then s else s.retarget k (s.fixedTarget k)) s.aimVf

/-- A write of VF_POINT (17 R478, R494). -/
def State.vfPoint (s : State) (v : Nat) : State := (s.setObj 0x4030 2 v).aimVf

/-- RAIL_SETTLED (17 R479, R480, 20 R562): rail k has been within 5 mV of its last target for 10 µs. A rail fault ends, and the clock rises
to the requested point. A target that has timed out sets RAIL_DONE alone: the fault ends with a later one. -/
def execRailSettled (k : Fin 3) (readback : Nat) (s : State) : Host.Outcome State Fault Refusal :=
  .next (
    let r := s.rail k
    if (Sparse.find s.power.rails k).isNone || r.done || readback + 5 < r.target || r.target + 5 < readback then s
    else
      let dv := (max r.target r.readback) - (min r.target r.readback)
      let s := s.elapseNs (r.since + cdiv (dv * 1000) (s.railSlew k) + 10000)
      let e := s.energy.seen (3 * 256 + k) true
      let late := !r.slewing
      let s := { (s.setRail k { r with readback := readback, done := true, slewing := false, fault := r.fault && late }) with energy := e }
      if k.val = 0 && !late then
        let s := { s with power := { s.power with vfCeil := 15 }, boot := { s.boot with causes := { s.boot.causes with rail := false } } }
        (if s.power.vf < s.vfGoal then s.moveClock s.vfGoal else s).syncChip
      else s)

/-- The highest point whose V_req is at or below a voltage (17 R480). -/
def State.pointFor (s : State) (mv : Nat) : Option Nat := ((List.range 16).filter (fun k => decide (s.vReq k ≤ mv))).getLast?

/-- RAIL_TIMEOUT (17 R480): rail k has not settled in time. Rail 0 lowers the active point, or puts the chip into FAULT. -/
def execRailTimeout (k : Fin 3) (readback : Nat) (s : State) : Host.Outcome State Fault Refusal :=
  .next (
    let r := s.rail k
    if !r.slewing then s
    else
      let dv := (max r.target r.readback) - (min r.target r.readback)
      let s := s.elapseNs (r.since + cdiv (dv * 1000) (s.railSlew k) + 100000)
      let e := s.energy.seen (3 * 256 + k) true
      let s := { (s.setRail k { r with readback := readback, since := s.cyc.ns, slewing := false, fault := true }) with energy := e }
      let s := (s.logRec 0x0042 k 2 none (r.target + readback * 65536)).raise 0 6
      if k.val ≠ 0 then s
      else
        match s.pointFor readback with
        | some p => { s with power := { s.power with vfCeil := p, vf := min s.power.vf p } }
        | none =>
          ({ s with power := { s.power with vfCeil := 0, vf := 0 },
                    boot := { s.boot with causes := { s.boot.causes with rail := true } } }).syncChip)

/-- VF_AGING_MV (17 R476). -/
def agingMv (hours : Nat) : Nat := min 30 (2 * (hours / 5000))

/-- One hour in ns. -/
def hourNs : Nat := 3600000000000

/-- VF_AGING_UPDATE (17 R476): the next whole hour since PWRGOOD. -/
def execVfAgingUpdate (s : State) : Host.Outcome State Fault Refusal :=
  .next (
    if !s.boot.pwrgood then s
    else
      let s := s.elapseNs (hourNs * (s.cyc.ns / hourNs + 1))
      let h := (s.power.hours + 1) % 2 ^ 32
      let old := s.power.aging
      let s := { s with power := { s.power with hours := h, aging := agingMv h } }
      if agingMv h = old then s else s.aimRails)

/-- DROOP_GUARD_UPDATE (19 R532, 20 R547): the largest droops the sensors saw in the frame that ends. After the first 2^20 cycles of the
clock, G follows the largest of the last 16 frames. -/
def execDroopGuardUpdate (peaks : List (Option Nat)) (s : State) : Host.Outcome State Fault Refusal :=
  .next (
    let e : Energy := Energy.readings 1 (fun e i v => { e with droop := Sparse.put e.droop i v }) s.energy 0 (peaks.take 144)
    let m := (peaks.take 144).foldl (fun a x => max a (x.getD 0)) 0
    let s : State := { s with energy := e, power := { s.power with droops := (m :: s.power.droops).take 16 } }
    if s.power.clockOn && decide (s.boot.clkStart + 1048576 ≤ s.cyc.cycles) then
      let g := min 15 (s.power.droops.foldl max 0 - 20)
      if g = s.power.droopG then s else ({ s with power := { s.power with droopG := g } }).aimVf
    else s)

/-! ### Calibration (17 R481 to R483, R490, R491) -/

def calNotIdle := 0x131
def calRunningCode := 0x132

/-- Everything is idle for a calibration (17 R481). -/
def State.calIdle (s : State) : Bool :=
  s.power.ballast = 0
    && s.cores.all (fun r => coreShipped r.1 ||
      ((r.2.ctl.st = .idle || r.2.ctl.st = .faulted || r.2.ctl.st = .fenced) && r.2.flights.isEmpty))

/-- Begin a window: 8 frames from the next frame boundary (17 R482). -/
def State.calBegin (s : State) (forced : Bool) : State :=
  { s with energy := { s.energy with calRunning := true, calForced := forced, calBroken := false, calStatus := 1,
                                     calEnd := 250000 * (s.frame + 9) } }

/-- The effect of CAL_START (17 R481). -/
def State.calStart (s : State) (v : Nat) : Nat × State :=
  if v = 0 then (stOk, s)
  else if s.energy.calRunning then (calRunningCode, s)
  else if !s.calIdle then (calNotIdle, s)
  else (stOk, s.calBegin false)

/-- The effect of CAL_FORCE (17 R483); a window under way begins again. -/
def State.calForce (s : State) (v : Nat) : Nat × State := if v = 0 then (stOk, s) else (stOk, s.calBegin true)

/-- A running calibration ends without a result (17 R482, 19 R533). -/
def State.calDiscard (s : State) : State :=
  if s.energy.calRunning then { s with energy := { s.energy with calRunning := false, calStatus := 3 } } else s

/-- CALIBRATION_WINDOW_END (17 R482, R483): the measured offsets as the number of the BLOB, and whether a sensor saw the load change. -/
def execCalibrationWindowEnd (offsets : Nat) (changed : Bool) (s : State) : Host.Outcome State Fault Refusal :=
  .next (
    if !s.energy.calRunning then s
    else
      let s := s.elapseTo s.energy.calEnd
      let n := s.energy
      if n.calForced then
        ({ s with energy := { n with calRunning := false, calStatus := 4, suspect := true, calOffsets := offsets % 2 ^ 512,
                                     calTime := s.time.now } }).logRec 0x0045 0 1 none 0
      else if changed || n.calBroken then s.calDiscard.logRec 0x0043 0 0 none 0
      else
        ({ s with energy := { n with calRunning := false, calStatus := 2, suspect := false, calOffsets := offsets % 2 ^ 512,
                                     calTime := s.time.now } }).logRec 0x0044 0 0 none 0)

/-! ### Thermal limits (17 R484 to R486) -/

/-- The reading that counts for thermal sensor i (20 R547): THERM_LIMIT + 8 °C while it is flagged. -/
def State.thermOf (s : State) (i : Nat) : Int :=
  if s.energy.flagged.contains i then 1000 * s.obj 0x4100 4 + 8000 else Sparse.getD s.energy.therm i 0

/-- THERM_MAX and THERM_HOT_SENSOR. -/
def State.thermTop (s : State) : Int × Nat :=
  (List.range 64).foldl (fun a i => if a.1 < s.thermOf i then (s.thermOf i, i) else a) (s.thermOf 0, 0)

/-- One point down (17 R485). -/
def State.thermLower (s : State) : State :=
  ({ s with power := { s.power with thermDown := min 15 (15 - (s.power.vf - 1)) } }).aimVf

/-- WARN, LIMIT and EMERGENCY follow THERM_MAX (17 R484, R485). -/
def State.thermEval (s : State) : State :=
  let (m, hot) := s.thermTop
  let lim : Int := 1000 * s.obj 0x4100 4
  let n := s.energy
  let warn := decide (1000 * (s.obj 0x4100 3 : Int) ≤ m)
  let limit := decide (lim ≤ m)
  let emer := if n.emergency then limit else decide (lim + 8000 ≤ m)
  let below := if m < lim - 3000 then some (n.belowSince.getD s.cyc.ns) else none
  let s := { s with energy := { n with thermMax := m, thermHot := hot, warn := warn, limit := limit, emergency := emer, belowSince := below,
                                       thermStep := if emer = n.emergency then n.thermStep else s.cyc.ns } }
  let s := if emer && !n.emergency then
      ((({ s with power := { s.power with shareBreach := true } }).countBreach s.power.now).logRec 0x0046 hot 2 none (ofSigned 32 m)).thermLower
    else s
  if warn ≠ n.warn || limit ≠ n.limit || emer ≠ n.emergency then s.raise 0 2 else s

/-- THERMAL_READING (17 R484, 20 R547): the 64 sensors, in m°C, at the next 125 µs from milestone 1 (19 Table 19-2). -/
def execThermalReading (temps : List (Option Int)) (s : State) : Host.Outcome State Fault Refusal :=
  .next (
    if !s.boot.pwrgood || s.boot.phase = 0 || s.fw.down then s
    else
      let s := s.elapseNs (s.boot.upAt + 125000 * ((s.cyc.ns - s.boot.upAt) / 125000 + 1))
      ({ s with energy := Energy.readings 0 (fun e i v => { e with therm := Sparse.put e.therm i v }) s.energy 0 (temps.take 64) }).thermEval)

/-- THERM_POINT_STEP (17 R485): one point down every 100 µs in the emergency stage, one up every 1 ms after it. -/
def execThermPointStep (s : State) : Host.Outcome State Fault Refusal :=
  .next (
    if s.energy.emergency then
      if s.power.vf = 0 then s
      else
        let s := s.elapseNs (s.energy.thermStep + 100000)
        ({ s with energy := { s.energy with thermStep := s.cyc.ns } }).thermLower
    else if s.power.thermDown = 0 then s
    else
      let s := s.elapseNs (s.energy.thermStep + 1000000)
      let d := s.power.thermDown - 1
      let d := if s.obj 0x4030 2 ≤ 15 - d then 0 else d
      ({ s with energy := { s.energy with thermStep := s.cyc.ns }, power := { s.power with thermDown := d } }).aimVf)

/-- THERMTRIP (17 R486): a sensor at 115 °C or more; the AON comparison works from PWRGOOD. -/
def execThermtrip (sensor : Fin 64) (temp : Int) (s : State) : Host.Outcome State Fault Refusal :=
  .next (
    if !s.boot.pwrgood || temp < 115000 || s.boot.thermtripLow then s
    else
      let s := { s with boot := { s.boot with thermtripLow := true, causes := { s.boot.causes with thermtrip := true } },
                        power := { s.power with clockOn := false }, pcie := { s.pcie with linkUp := false } }
      (s.logRec 0x0047 sensor 4 none (ofSigned 32 temp)).syncChip)

/-! ### Objects (17 Table 17-4, 24 Table 24-8) -/

/-- VF_TABLE as the number of its 64 bytes. -/
def vfTable : Nat := (List.range 16).foldl (fun a k => a + (vfMHz k + 65536 * vTable k) * 2 ^ (32 * k)) 0

/-- Live values of the power objects. -/
def State.powerRead (s : State) (i sub : Nat) : Option Nat :=
  let w := s.power
  let n := s.energy
  match i, sub with
  | 0x4000, 1 => some w.now
  | 0x4000, 2 => some (b2n w.shareBreach + 2 * b2n w.capRamp)
  | 0x4000, 3 => some (w.capEff / 256)
  | 0x4000, 4 => some w.breachFrames
  | 0x4010, 5 => some s.shareSum
  | 0x4020, 2 => some w.mpState
  | 0x4020, 4 => some (w.floorEff / 256)
  | 0x4020, 5 => some (w.ballast / 256)
  | 0x4020, 6 => some (w.ballastMax / 256)
  | 0x4020, 0xB => some s.mpStatus
  | 0x4030, 1 => some vfTable
  | 0x4030, 3 => some w.vf
  | 0x4030, 4 => some w.aging
  | 0x4030, 5 => some w.hours
  | 0x4050, 3 => some n.calStatus
  | 0x4050, 4 => some n.calOffsets
  | 0x4050, 5 => some n.calTime
  | 0x4100, 1 => some (ofSigned 32 n.thermMax)
  | 0x4100, 2 => some n.thermHot
  | 0x4100, 5 => some (b2n n.warn + 2 * b2n n.limit + 4 * b2n n.emergency)
  | 0x4110, 1 => some s.boot.clk
  | 0x4200, 1 => some n.total
  | 0x4200, 2 => some n.ballast
  | 0x4200, 3 => some n.uncharged
  | 0x4200, 4 => some n.retired
  | 0x4200, 5 => some (b2n n.suspect)
  | _, _ =>
    if i = 0x4012 && 1 ≤ sub && sub ≤ 4 then some (Sparse.getD w.allot sub 0 / 256)
    else if 0x4040 ≤ i && i < 0x4043 then
      let r := s.rail (i - 0x4040)
      match sub with
      | 1 => some r.target
      | 2 => some r.readback
      | 4 => some (b2n r.done + 2 * b2n r.slewing + 4 * b2n r.fault)
      | _ => none
    else if i = 0x4101 && 1 ≤ sub && sub ≤ 0x40 then some (ofSigned 32 (Sparse.getD n.therm (sub - 1) 0))
    else if i = 0x4102 && 1 ≤ sub && sub ≤ 0x90 then some (Sparse.getD n.droop (sub - 1) 0)
    else if i = 0x4103 && 1 ≤ sub && sub ≤ 0x10 then some (ofSigned 32 (Sparse.getD n.current (sub - 1) 0))
    else if 0x4210 ≤ i && i < 0x4220 && 1 ≤ sub then
      let e := (s.pav (i - 0x4210)).energy
      if sub = 1 then some ((e.map (·.2)).sum % 2 ^ 64) else if sub ≤ 8 then some (Sparse.getD e (sub - 2) 0) else none
    else none

def pwrOverbook := 0x130

/-- PWR_ORDER names each group once (17 R461). -/
def orderOk (v : Nat) : Bool :=
  let l := [bits v 1 0, bits v 3 2, bits v 5 4]
  l.contains 0 && l.contains 1 && l.contains 2

/-- The effect of a write to a power object. -/
def State.powerWrite (s : State) (i sub v : Nat) : Option (Nat × State) :=
  match i, sub with
  | 0x4010, 1 => some (if orderOk v then (stOk, s.setObj i sub (v % 64)) else (stRange, s))
  | 0x4020, 7 =>
    some (if v = 0 then (stOk, s.setObj i sub 0)
      else if s.time.epoch.isNone then (stState, s)
      else if s.stepTime v < s.time.now then (stTimePast, s)
      else
        let t := s.setObj i sub v
        (stOk, { t with power := { t.power with stepAt := s.stepTime v } }))
  | 0x4030, 2 => some (stOk, s.vfPoint v)
  | 0x4030, 6 =>
    some (if -20 ≤ toSigned 32 v && toSigned 32 v ≤ 30 then (stOk, (s.setObj i sub v).aimRails) else (stRange, s))
  | 0x4050, 1 => some (s.calStart v)
  | 0x4050, 2 => some (s.calForce v)
  | 0x4100, 3 => some (if s.obj 0x4100 4 < v then (stRange, s) else (stOk, (s.setObj i sub v).thermEval))
  | 0x4100, 4 => some (if v < s.obj 0x4100 3 then (stRange, s) else (stOk, (s.setObj i sub v).thermEval))
  | _, _ =>
    if (i = 0x4010 && 2 ≤ sub && sub ≤ 4) || i = 0x4011 then
      let t := s.setObj i sub v
      some (if t.capHolds then (stOk, t) else (pwrOverbook, s))
    else none

end Sys2Proof.Machine
end

