-- ==== Sys2Proof/Machine/Integrity.lean ====
section
/-! DEFINITION. Machine/Integrity.lean: fences, Checkmate runs and leases, and the stored fence table (18 R503 to R522). -/

namespace Sys2Proof.Machine

def cmNotIdle := 0x140
def fenceInUse := 0x141
def cmNotOwned := 0x142

/-! ### Fence requests (18 R508 to R510, R519) -/

/-- A core becomes SUSPECT for a reason, and is fenced unless its CORE_STATE is RUN or HALTED. -/
def State.suspect (s : State) (n reason : Nat) : State :=
  (s.updCore n (fun c => { c with fence := { c.fence with st := 1, reason := reason } })).settle n

/-- The effect of FENCE_REQUEST. A port that has never been UP is never fenced. -/
def State.fenceRequest (s : State) (v : Nat) : Nat × State :=
  if v < 144 then
    if coreShipped v then (stRange, s)
    else if (s.core v).fence.st ≠ 0 then (stOk, s)
    else (stOk, s.suspect v 2)
  else if 0x100 ≤ v && v < 0x140 then
    let q := v - 0x100
    (stOk, if (s.port q).fenced || !(s.port q).wasUp then s else (s.fencePort q 1).groupsCheck)
  else (stRange, s)

/-! ### Fence clears (18 R512) -/

/-- A Checkmate run begins now. -/
def FenceSt.begin (f : FenceSt) (r : CmRun) (cycles : Nat) : FenceSt := { f with run := r, runAt := cycles }

/-- Clear core n: its bank fences and repairs go, and Checkmate runs on it. -/
def State.clearCore (s : State) (n : Nat) : State :=
  let s := s.updCore n (fun c =>
    { c with pint := { c.pint with fenced := 0, spares := [], badSpares := [], repairs := [] }, fence := c.fence.begin .clear s.cyc.cycles })
  { s with integ := { s.integ with storePending := true } }

/-- Clear port q: it takes the state that PORT_ENABLE gives. -/
def State.clearPort (s : State) (q : Nat) : State :=
  let s := s.updPort q (fun p => { p with fenced := false, fails := 0 })
  let s := { s with integ := { s.integ with fencePorts := setBit s.integ.fencePorts q false, storePending := true } }
  let s := s.logRec 0x0053 (0x100 + q) 0 none 0
  (s.portEnable q (s.obj (0x2500 + q) 1)).syncChip

/-- Cores fenced beyond the shipped set. -/
def State.fencedCores (s : State) : List Nat := (List.range 144).filter (fun n => !coreShipped n && (s.core n).fence.st = 2)

/-- The effect of FENCE_CLEAR. -/
def State.fenceClear (s : State) (v : Nat) : Nat × State :=
  if v < 144 then
    if coreShipped v then (stRange, s) else if (s.owner v).isSome then (fenceInUse, s) else (stOk, s.clearCore v)
  else if 0x100 ≤ v && v < 0x140 then (stOk, if (s.port (v - 0x100)).fenced then s.clearPort (v - 0x100) else s)
  else if v = 0xFFFF then
    if s.fencedCores.any (fun n => (s.owner n).isSome) then (fenceInUse, s)
    else
      let s := s.fencedCores.foldl (fun s n => s.clearCore n) s
      (stOk, (List.range 64).foldl (fun s q => if (s.port q).fenced then s.clearPort q else s) s)
  else (stRange, s)

/-- FENCE_TABLE_STORE (18 R513): the fence table as it stands is in flash. -/
def execFenceTableStore (s : State) : Host.Outcome State Fault Refusal :=
  .next (
    if s.integ.storePending then
      { s with integ := { s.integ with storePending := false, storedPorts := s.integ.fencePorts,
                                       storedCores := s.fencedCores.foldl (fun m n => m + 2 ^ n) 0,
                                       storedPlots := s.cores.map (fun r =>
                                         let p := r.2.pint
                                         (r.1, { fenced := p.fenced, spares := p.spares, badSpares := p.badSpares, repairs := p.repairs })) } }
    else s)

/-- The stored fence table is applied (18 R513): before any core, Plot or port is used. -/
def State.applyFences (s : State) : State :=
  let s := s.integ.storedPlots.foldl (fun s r => s.updCore r.1 (fun c =>
    { c with pint := { c.pint with fenced := r.2.fenced, spares := r.2.spares, badSpares := r.2.badSpares, repairs := r.2.repairs } })) s
  let s := (bitList s.integ.storedCores 144).foldl (fun s n => s.updCore n (fun c =>
    { c with fence := { c.fence with st := 2 }, ctl := { c.ctl with st := .fenced } })) s
  let s := (bitList s.integ.storedPorts 64).foldl (fun s q => s.updPort q (fun p => { p with fenced := true })) s
  let s := (List.range 144).foldl (fun s n => if coreShipped n then s.updCore n (fun c => { c with ctl := { c.ctl with st := .fenced } }) else s) s
  { s with integ := { s.integ with fencePorts := s.integ.storedPorts } }

/-! ### Checkmate (18 R504 to R507, R512, R520) -/

/-- Machenil may test core n: enabled, unfenced, of no Pavilion, with no run and no repair in progress. -/
def State.cmCandidate (s : State) (n : Nat) : Bool :=
  s.coreUsable n && (s.core n).fence.st = 0 && (s.owner n).isNone && (s.core n).fence.run = .none && (s.core n).pint.suspects.isEmpty

/-- CHECKMATE_RUN_START (18 R505): CM_PERIOD frames after the last, at a slot start, on the next core. -/
def execCheckmateRunStart (s : State) : Host.Outcome State Fault Refusal :=
  .next (
    if s.obj 0x5010 1 = 0 || !s.boot.ready || s.fw.down then s
    else
      let s := s.elapseNs (s.integ.cmLast + 250000 * s.obj 0x5010 2)
      let s := s.toSlot none
      let s := { s with integ := { s.integ with cmLast := s.cyc.ns } }
      match ((List.range 144).map (fun i => (s.integ.cmNext + i) % 144)).find? s.cmCandidate with
      | none => s
      | some n =>
        (s.updCore n (fun c => { c with fence := c.fence.begin .machenil s.cyc.cycles })) |> fun s =>
          { s with integ := { s.integ with cmNext := (n + 1) % 144 } })

/-- The effect of CM_LEASE (18 R506): the core reads RUN while the run lasts. -/
def State.cmLease (s : State) (p n : Nat) : Nat × State :=
  let c := s.core n
  if 143 < n || !bit (s.pavCores p) n then (cmNotOwned, s)
  else if c.ctl.st ≠ .idle || c.ctl.drain ≠ .none || c.fence.coreReset || (s.pav p).leaseStatus = 1 then (cmNotIdle, s)
  else
    let s := s.setCore n { c with fence := c.fence.begin .lease s.cyc.cycles, ctl := { c.ctl with st := .run } }
    (stOk, s.updPav p (fun v => { v with leaseStatus := 1 }))

/-- Cycles of the tests of 18 Table 18-1, in order; the scrub at the end takes 520 more. -/
def cmCycles : List Nat := [2000, 4200, 1500, 1200, 2400, 1100, 900, 1300, 1000]

/-- The first failing test, 1 to 9, and the signature obtained, where the tests give these signatures in order (18 R504). -/
def cmFirstFail (sigs : List Word) : Option (Nat × Word) :=
  ((List.range 9).map (fun i => (i + 1, sigs.getD i 0))).find? (fun x => x.2 != Config.checkmateSignature x.1)

/-- Cycles of a run: all tests and the scrub, or the tests through the failing one. -/
def cmLength (fail : Option (Nat × Word)) : Nat :=
  match fail with
  | none => cmCycles.sum + 520
  | some x => (cmCycles.take x.1).sum

/-- Count a run and its result on the core (18 Table 18-4). A pass scrubs the Plot. -/
def State.cmResult (s : State) (n : Nat) (fail : Option (Nat × Word)) : State :=
  let s := { s with integ := { s.integ with cmRuns := (s.integ.cmRuns + 1) % 2 ^ 64, cmFails := (s.integ.cmFails + b2n fail.isSome) % 2 ^ 32 } }
  match fail with
  | none => s.updCore n (fun c => { c.scrubOrWait with fence := { c.fence with run := .none, cmLast := 9 } })
  | some (t, got) =>
    let s := s.updCore n (fun c => { c with fence := { c.fence with run := .none, cmLast := t % 256 + 256 } })
    s.logRec 0x0050 n 2 (s.owner n) (t % 256 + (Config.checkmateSignature t).toNat * 2 ^ 8 + got.toNat * 2 ^ 40)

/-- CHECKMATE_RUN_END (18 R504, R506, R507, R512, R520): `sigs` are the signatures that the tests give, and the run has taken its cycles. -/
def execCheckmateRunEnd (c : CoreIx) (sigs : List Word) (s : State) : Host.Outcome State Fault Refusal :=
  .next (
    let fail := cmFirstFail sigs
    let r := (s.core c).fence
    let s := if r.run = .none then s else s.elapseCycles (r.runAt + cmLength fail - s.cyc.cycles)
    match r.run with
    | .none => s
    | .machenil =>
      let s := s.cmResult c fail
      if fail.isSome then s.suspect c 0 else s
    | .lease =>
      let p := (s.owner c).getD 0
      let s := s.cmResult c fail
      let s := (s.resetCore c).raiseCore c 6
      let s := s.updPav p (fun v => { v with leaseStatus := if fail.isSome then 3 else 2 })
      if fail.isSome then s.suspect c 0 else s
    | .clear =>
      let s := s.cmResult c fail
      let s := s.updCore c (fun k => { k with fence := { k.fence with st := 0 }, ctl := { k.ctl with st := .idle } })
      let s := if fail.isSome then s.suspect c 0 else s
      let s := s.logRec 0x0053 c 0 none (b2n fail.isSome)
      ({ s with integ := { s.integ with storePending := true } }).syncChip)

/-! ### Objects (18 Table 18-4) -/

/-- Live values of the integrity objects. -/
def State.integRead (s : State) (i sub : Nat) : Option Nat :=
  match i, sub with
  | 0x5000, 1 => some (Nat.lor shippedMask (s.fencedCores.foldl (fun m n => m + 2 ^ n) 0))
  | 0x5000, 2 => some shippedMask
  | 0x5000, 3 => some s.integ.fencePorts
  | 0x5000, 7 => some s.mmeta.pipFails
  | 0x5000, 8 => some (Sparse.getD s.mmeta.sweepMs 0 0)
  | 0x5000, 9 => some (Sparse.getD s.mmeta.sweepMs 1 0)
  | 0x5010, 3 => some s.integ.cmRuns
  | 0x5010, 4 => some s.integ.cmFails
  | _, _ =>
    if 0x5020 ≤ i && i < 0x5030 && sub = 2 then some (s.pav (i - 0x5020)).leaseStatus else none

/-- The effect of a write to an integrity object. -/
def State.integWrite (s : State) (i sub v : Nat) : Option (Nat × State) :=
  if i = 0x5000 && sub = 4 then some (s.fenceRequest v)
  else if i = 0x5000 && sub = 5 then some (s.fenceClear v)
  else if 0x5020 ≤ i && i < 0x5030 && sub = 1 then some (s.cmLease (i - 0x5020) v)
  else none

end Sys2Proof.Machine
end

