-- ==== Sys2Proof/Machine/Boot.lean ====
section
/-! DEFINITION. Machine/Boot.lean: power-up, cold and warm resets, reference clocks and secure boot (19 R523 to R542; 20 R553, R554;
23 R604, R610, R611, R616). -/

namespace Sys2Proof.Machine

/-! ### Firmware slots (20 R553, R555, R557) -/

/-- FW_ROLLBACK: the fuses blown at shipment and since. -/
def State.fwRollback (s : State) : Nat := min 64 (Config.fuses.rollback.toNat + s.fw.rollback)

/-- KEYS_REVOKED. -/
def State.keysRevoked (s : State) : Nat := Nat.lor (Config.fuses.revoked.toNat % 16) (s.fw.revoked % 16)

def State.slot (s : State) (k : Nat) : Slot := Sparse.getD s.fw.slots k {}

def State.setSlot (s : State) (k : Nat) (v : Slot) : State := { s with fw := { s.fw with slots := Sparse.put s.fw.slots k v } }

/-- The header of the image in slot k, as its number (20 Table 20-4). -/
def State.slotHeader (s : State) (k : Nat) : Nat :=
  let v := s.slot k
  if v.written then leNat (Mem.read v.data 0 256) else (Config.shippedHeader k).toNat

/-- Bytes of an image: header and body. -/
def imageBytes (h : Nat) : Nat := 256 + bits h 127 96

/-- The header is right (20 Table 20-4): MAGIC, KEY_SLOT, ROLLBACK, MODEL and a LENGTH that the slot holds; reserved bits are ignored. -/
def State.headerOk (s : State) (k : Nat) : Bool :=
  let h := s.slotHeader k
  let v := s.slot k
  bits h 31 0 = 0x4D434E4C && decide (bits h 39 32 ≤ 3) && decide (bits h 47 40 ≤ 64) && bits h 63 48 = 0x08A1
    && decide (imageBytes h ≤ if v.written then min slotBytes v.len else slotBytes)

/-- The reason for which the image of slot k fails the check (20 R553, Table 20-3): 0 signature or digest, 1 rollback, 2 revoked key, 3 header;
none where it passes. -/
def State.imageFails (s : State) (k : Nat) (c : SlotCheck) : Option Nat :=
  let h := s.slotHeader k
  if !s.headerOk k then some 3
  else if bit s.keysRevoked (bits h 39 32) then some 2
  else if !c.digest || !c.signature then some 0
  else if bits h 47 40 < s.fwRollback then some 1
  else none

/-- What a check says of a slot: EMPTY where it was erased and not written, VALID or INVALID, with the header's fields. -/
def State.recordSlot (s : State) (k : Nat) (c : SlotCheck) : State :=
  let h := s.slotHeader k
  let v := s.slot k
  s.setSlot k { v with st := if v.written && v.len = 0 then 0 else if s.headerOk k && c.digest && c.signature then 1 else 2,
                       version := bits h 95 64, rollback := bits h 47 40, key := bits h 39 32 }

/-- An external programmer writes images into slots (20 R554). -/
def State.program (s : State) : Nat → List (Option (List Byte)) → State
  | _, [] => s
  | k, none :: l => s.program (k + 1) l
  | k, some b :: l => (s.setSlot k { data := Mem.write [] 0 b, len := b.length, written := true }).program (k + 1) l

/-- FW_SLOT_STATE of slot k: a slot below the counter, or of a revoked key, reads REVOKED. -/
def State.slotState (s : State) (k : Nat) : Nat :=
  let v := s.slot k
  if v.st = 1 && (decide (v.rollback < s.fwRollback) || bit s.keysRevoked v.key) then 3 else v.st

/-! ### PWRGOOD (19 R525, R526; 23 R611, R616) -/

/-- PWRGOOD_RISE: the sequence starts; the count and the time since PWRGOOD are 0. PERST_N counts as risen then where it is high. -/
def execPwrgoodRise (s : State) : Host.Outcome State Fault Refusal :=
  .next (
    if s.boot.pwrgood then s
    else
      { s with boot := { s.boot with pwrgood := true }, pcie := { s.pcie with linkUp := s.boot.perstN },
               energy := { s.energy with suspect := s.energy.suspect || s.energy.calStatus = 0 },
               power := { s.power with aging := agingMv s.power.hours } })

/-- Keys of the persistent objects (24 R622): marked P, or of access code RWS. -/
def persistentKey (k : Nat) : Bool :=
  match objInfo (k / 256) (k % 256) with
  | some o => o.pers || o.acc = .rws
  | none => false

/-- The log in flash: the records still queued are lost (20 R548). -/
def LogSt.cold (l : LogSt) : LogSt :=
  { recs := l.recs.filter (fun r => decide (r.1 + l.queued < l.nextSeq)), nextSeq := l.nextSeq - l.queued, oldest := l.oldest }

/-- A slot that was being written reads INVALID (20 R565). -/
def FwSt.cold (f : FwSt) (image : Nat) : FwSt :=
  let other := 1 - image
  let half := f.status ≠ 0 && f.status ≠ 4
  { slots := if half then Sparse.put f.slots other { Sparse.getD f.slots other {} with st := 2 } else f.slots,
    manA := f.manA, manB := f.manB, rollback := f.rollback, revoked := f.revoked, activated := f.activated }

/-- The chip after a loss of PWRGOOD: only persistent objects and what flash and fuses hold survive (15 R421, 24 R622),
and what is broken in the Plots stays broken. -/
def State.cold (s : State) : State :=
  { State.reset with
    boot := { State.reset.boot with perstN := s.boot.perstN },
    cores := (s.cores.filter (fun r => !(s.core r.1).pint.broken.isEmpty)).map (fun r => (r.1, { pint := { broken := (s.core r.1).pint.broken } })),
    objs := s.objs.filter (fun r => persistentKey r.1),
    blobLen := s.blobLen.filter (fun r => persistentKey r.1),
    energy := { State.reset.energy with calStatus := if s.energy.calRunning then 3 else s.energy.calStatus, calOffsets := s.energy.calOffsets,
                                        calTime := s.energy.calTime },
    power := { State.reset.power with hours := s.power.hours },
    integ := { State.reset.integ with storedCores := s.integ.storedCores, storedPorts := s.integ.storedPorts, storedPlots := s.integ.storedPlots },
    log := s.log.cold, fw := s.fw.cold s.boot.image, out := s.out, free := s.free, pending := s.pending }

/-- COLD_RESET (19 R526, 23 R611, R615): a low of PWRGOOD. Below 1 µs it is ignored, from 10 µs it is a cold reset, and between the two the
chip takes it or not. -/
def execColdReset (lowNs : Nat) (taken : Bool) (s : State) : Host.Outcome State Fault Refusal :=
  .next (
    if !s.boot.pwrgood || lowNs < 1000 || (lowNs < 10000 && !taken) then s else s.cold)

/-! ### Milestones 1 to 5 (19 Table 19-1) -/

/-- Start the image of a slot: milestone 1. Machenil retargets the rails (23 R604). -/
def State.startImage (s : State) (k : Nat) : State :=
  let s := { s with boot := { s.boot with image := k, romFail := false, upAt := s.cyc.ns } }
  let s := s.milestone 1
  let s := [1, 2].foldl (fun s k => s.retarget k (s.fixedTarget k)) s
  s.retarget 0 (s.vReq 0)

/-- The boot ROM checks the slot the manifest names, then the other (20 R553, R554); `slots` says what it finds, by slot. -/
def State.bootRom (s : State) (slots : List SlotCheck) : State :=
  let first := s.fw.manifest
  let other := 1 - first
  let a := slots.getD first default
  let b := slots.getD other default
  let s := (s.recordSlot first a).recordSlot other b
  match s.imageFails first a with
  | none => s.startImage first
  | some r =>
    match s.imageFails other b with
    | none => (s.startImage other).logRec 0x0061 0 2 none (first + 256 * r)
    | some _ => { s with boot := { s.boot with romFail := true } }

/-- MACHENIL_UP. -/
def execMachenilUp (slots : List SlotCheck) (s : State) : Host.Outcome State Fault Refusal :=
  .next (if s.boot.pwrgood && s.boot.phase = 0 && !s.boot.romFail then s.bootRom slots else s)

/-- BOOT_ROM_RECHECK (20 R554): both slots again, 1 s later. The SPI pins are released meanwhile, and a programmer may have written the flash. -/
def execBootRomRecheck (images : List (Option (List Byte))) (slots : List SlotCheck) (s : State) : Host.Outcome State Fault Refusal :=
  .next (if s.boot.pwrgood && s.boot.romFail then ((s.elapse 1000000000).program 0 images).bootRom slots else s)

/-- Milestone 2 without the queued requests: the fence table is applied and the clock starts at point 0, once rail 0 has settled; with
BOOT_HOLD the chip is in STANDBY. -/
def State.fusesLoaded (s : State) : State :=
  let s := s.applyFences.milestone 2
  let s := { s with power := { s.power with clockOn := true, vf := 0, droopG := 15, droops := [] },
                    boot := { s.boot with clkStart := s.cyc.cycles, standby := s.obj 0x1010 2 = 1 } }
  s.syncChip

/-- HBM_TRAINED. -/
def execHbmTrained (s : State) : Host.Outcome State Fault Refusal :=
  .next (if s.boot.phase = 2 && !s.boot.standby && !s.faulted then s.milestone 3 else s)

/-- GROTTO_TRAINED. -/
def execGrottoTrained (s : State) : Host.Outcome State Fault Refusal :=
  .next (if s.boot.phase = 3 && !s.faulted then s.milestone 4 else s)

/-- MEMORY_TRAINING_FAIL (19 R524): units 0 to 5 are the HBM4 stacks, 6 and 7 the Grotto controllers. -/
def execMemoryTrainingFail (unit : Fin 8) (s : State) : Host.Outcome State Fault Refusal :=
  .next (
    if s.boot.fail = 0 && !s.boot.standby && ((s.boot.phase = 2 && unit.val < 8) || (s.boot.phase = 3 && 5 < unit.val)) then
      let s := { s with boot := { s.boot with fail := unit + 1, causes := { s.boot.causes with train := true } } }
      (s.logRec 0x0060 0 4 none (unit + 1 + 256 * s.boot.phase)).syncChip
    else s)

/-- PLOTS_SCRUBBED. -/
def execPlotsScrubbed (s : State) : Host.Outcome State Fault Refusal :=
  .next (
    if s.boot.phase = 4 && !s.faulted then
      ((List.range 144).foldl (fun s n => s.updCore n (·.scrubOrWait)) s).milestone 5
    else s)

/-! ### Milestone 8 -/

/-- READY or DEGRADED: the clock moves to VF_POINT, and what counts from milestone 8 begins. A warm reset leaves the turn of Checkmate
(19 Table 19-2). -/
def State.ready8 (s : State) : State :=
  let s := s.milestone 8
  let s := { s with boot := { s.boot with ready := true, warm := false, ready8 := s.cyc.ns },
                    integ := { s.integ with cmLast := if s.boot.warm then s.integ.cmLast else s.cyc.ns } }
  s.aimVf.syncChip

/-- CHIP_READY (19 R523, R525). -/
def execChipReady (s : State) : Host.Outcome State Fault Refusal :=
  .next (if s.boot.phase = 7 && !s.boot.warm && !s.faulted then s.ready8 else s)

/-- WARM_RESET_COMPLETE (19 R533). -/
def execWarmResetComplete (s : State) : Host.Outcome State Fault Refusal :=
  .next (if s.boot.phase = 7 && s.boot.warm && !s.faulted then s.ready8 else s)

/-- The effect of BOOT_CONTINUE (19 R523). -/
def State.bootContinue (s : State) (v : Nat) : Nat × State :=
  if !s.boot.standby then (stState, s)
  else if v = 0 then (stOk, s)
  else (stOk, ({ s with boot := { s.boot with standby := false } }).syncChip)

/-! ### Warm reset (19 R533 to R535, 20 R562, R566) -/

/-- Steps 1 to 7 of a Pavilion reset, then FREE without RESET_DONE; PF0 is told. -/
def State.pavWarm (s : State) (p : Nat) : State :=
  match (s.pav p).st with
  | .free => s
  | st =>
    let s := if st = .active then (s.updPav p (fun v => { v with destroyV := 0 })).pavStop p .destroying 5 else s
    let s := if (s.pav p).resetAt = 2 then s.pavClear p else s
    let s := s.pavRelease p
    let s := s.updFn 0 (fun f => { f with listMap := setBit f.listMap p true })
    s.raise 0 4

/-- A core at a warm reset: it belongs to no Pavilion now; its Plot is scrubbed, its map buffer is empty, and a Checkmate run on it ends
without a result. -/
def Core.warm (c : Core) : Core :=
  let c := c.scrubOrWait
  { c with map := { c.map with entries := [], rr := 0, walk := none }, fence := { c.fence with run := .none, coreReset := false } }

/-- The warm reset itself, for a RESET_CAUSE. -/
def State.warmReset (s : State) (cause : Nat) : State :=
  let s := { s with boot := { s.boot with ready := false, warm := true, phase := 5, t0 := s.cyc.ns, times := [], cause := cause,
                                          causes := { s.boot.causes with mgmt := false } } }
  let s := s.calDiscard
  let s := (List.range 16).foldl (fun s p => s.pavWarm p) s
  let s := (List.range 16).foldl (fun s p => (s.cancelFn (p + 1)).updFn (p + 1) (·.clearPcie)) s
  let s := (List.range 26).foldl (fun s k => s.endRequester k) s
  let waiting := s.link.inject
  let s := { s with link := { s.link with inject := [], group := 0, groupAt := 0 }, net := [] }
  let s := waiting.foldl (fun s i => s.dropMsg i.msg 1) s
  let s := (List.range 64).foldl (fun s q => if (s.port q).st = 0 then s else s.portFall q 0) s
  let s := (List.range 144).foldl (fun s n => s.updCore n (·.warm)) s
  let s := { s with org := {}, arb := { s.arb with waiting := [], reads := [], host := [] },
                    power := { s.power with vf := 0, droopG := 15, droops := [] }, boot := { s.boot with clkStart := s.cyc.cycles } }
  s.aimVf.syncChip

/-- The effect of WARM_RESET (19 R533, R535): it joins a reset under way, and before milestone 8 the sequence in progress. -/
def State.warmWrite (s : State) (v : Nat) : Nat × State :=
  (stOk, if v = 0 || !s.boot.ready then s else s.warmReset 1)

/-! ### Reference clocks (23 R610) -/

/-- REFCLK_LOSS: 0 PCIE_REFCLK, 1 LINK_REFCLK, 2 MGMT_CLK25; 2 µs without an edge. -/
def execRefclkLoss (k : Fin 3) (s : State) : Host.Outcome State Fault Refusal :=
  .next (
    if !s.boot.pwrgood then s
    else
      let s := { s with boot := { s.boot with clk := setBit s.boot.clk k true } }
      match k with
      | 0 =>
        { s with pcie := { s.pcie with linkUp := false } }.hostLost
      | 1 =>
        ({ s with power := { s.power with clockOn := false }, boot := { s.boot with causes := { s.boot.causes with refclk := true } } }).syncChip
      | 2 => s)

/-! ### Objects (19 Table 19-3) -/

/-- Live values of the boot objects. -/
def State.bootRead (s : State) (i sub : Nat) : Option Nat :=
  match i, sub with
  | 0x1010, 1 => some s.chipState
  | 0x1010, 5 => some s.boot.cause
  | 0x1010, 6 => some s.boot.phase
  | 0x1010, 7 => some s.boot.fail
  | _, _ => if i = 0x1011 && 1 ≤ sub && sub ≤ 8 then some (Sparse.getD s.boot.times sub 0 % 2 ^ 32) else none

/-- The effect of a write to a boot object. -/
def State.bootWrite (s : State) (i sub v : Nat) : Option (Nat × State) :=
  match i, sub with
  | 0x1010, 3 => some (s.bootContinue v)
  | 0x1010, 4 => some (s.warmWrite v)
  | _, _ => none

end Sys2Proof.Machine
end

