-- ==== Sys2Proof/Machine/Mgmt.lean ====
section
/-! DEFINITION. Machine/Mgmt.lean: Machenil: the watchdog, the log, sensors, alerts, firmware update, keys and attestation
(20 R543 to R568; 24 R628). -/

namespace Sys2Proof.Machine

def fwOwnerCode := 0x150
def fwSequence := 0x151
def fwLastKey := 0x152

/-- Machenil answers requests: it is up, is not restarting and hands no image over (20 R544, R557). -/
def State.mgmtUp (s : State) : Bool := decide (1 ≤ s.boot.phase) && !s.fw.down && !s.boot.handover

/-! ### Sessions -/

/-- Close MOP session k (03 R78, R83, R89). -/
def State.closeSession (s : State) (k : Nat) : State :=
  if (s.sess k).isOpen then
    let s := ((s.setSess k {}).endRequester (18 + k)).cancelHeld (18 + k)
    ({ s with dict := { s.dict with subs := s.dict.subs.filter (fun u => u.sess ≠ k) } }).emit (.mopClose k)
  else s

def State.closeAll (s : State) : State := (List.range 8).foldl (fun s k => s.closeSession k) s

/-! ### Watchdog (20 R544, R567) -/

/-- WATCHDOG_EXPIRY: 250 ms without service, or an SRAM error; three restarts in 10 s put the chip into FAULT. -/
def execWatchdogExpiry (sram : Bool) (s : State) : Host.Outcome State Fault Refusal :=
  .next (
    if s.boot.phase = 0 || s.fw.down then s
    else
      let s := s.closeAll
      let s := (List.range 18).foldl (fun s k => s.endRequester k) s
      let rs := s.cyc.ns :: s.fw.restarts.filter (fun t => decide (s.cyc.ns < t + 10000000000))
      let s := { s with fw := { s.fw with down := true, restartCause := b2n sram, restarts := rs } }
      if 3 ≤ rs.length then ({ s with boot := { s.boot with causes := { s.boot.causes with mgmt := true } } }).syncChip else s)

/-- The restart is over (20 R544). -/
def State.mgmtRestarted (s : State) : State :=
  ({ s with fw := { s.fw with down := false } }).logRec 0x0062 0 2 none s.fw.restartCause

/-! ### Log, alerts and sensors (20 R547 to R552) -/

/-- The records that flash holds once all are written (20 R548): sectors of 128, of which the oldest are erased to make room. -/
def LogSt.flush (l : LogSt) : LogSt :=
  let old := max l.oldest (128 * ((l.nextSeq - 1) / 128 + 1 - logSectors))
  { l with queued := 0, oldest := old, recs := l.recs.filter (fun r => decide (old ≤ r.1)) }

/-- LOG_FLUSH (20 R548): the queued records are in flash. -/
def execLogFlush (s : State) : Host.Outcome State Fault Refusal :=
  .next (if s.boot.phase = 0 || s.fw.down then s else { s with log := s.log.flush })

/-- ALERT_STATUS (20 R552). -/
def State.alertStatus (s : State) : Nat :=
  b2n s.energy.warn + 2 * b2n ((List.range 3).any (fun k => (s.rail k).fault)) + 4 * b2n s.faulted + 8 * b2n s.log.alert3
    + 16 * b2n (!s.energy.flagged.isEmpty)

/-- ALERT_N is low (20 R552, R554). -/
def State.alertN (s : State) : Bool := s.boot.pwrgood && (s.alertStatus ≠ 0 || s.boot.romFail)

/-- The effect of ALERT_ACK. -/
def State.alertAck (s : State) (v : Nat) : Nat × State := (stOk, if v = 0 then s else { s with log := { s.log with alert3 := false } })

/-- Sensors of a class (20 Table 20-2): thermal, droop, current, AVSBus. -/
def sensorCount (cls : Nat) : Nat :=
  match cls with
  | 0 => 64
  | 1 => 144
  | 2 => 16
  | _ => 3

/-- SENSOR_TIMEOUT (20 R547): a sensor has returned no reading for 4 periods. The readings of classes 0 to 2 are counted; of the AVSBus no
command brings the missing ones. -/
def execSensorTimeout (cls : Fin 4) (ix : Nat) (s : State) : Host.Outcome State Fault Refusal :=
  .next (
    let k := 256 * cls.val + ix
    if sensorCount cls ≤ ix || s.boot.phase = 0 || s.energy.flagged.contains k || (cls.val ≠ 3 && Sparse.getD s.energy.missed k 0 < 4) then s
    else
      let s := { s with energy := { s.energy with flagged := s.energy.flagged ++ [k] } }
      (s.logRec 0x0067 0 2 none (cls.val + 256 * ix)).thermEval)

/-- SENSOR_FAULT. -/
def State.sensorFault (s : State) : Nat := ((List.range 4).map (fun c => 2 ^ c * b2n (s.energy.flagged.any (fun k => k / 256 = c)))).sum

/-- The record with a SEQ, 0 where none is held (20 R550). -/
def LogSt.find (l : LogSt) (seq : Nat) : Nat := ((l.recs.find? (fun r => r.1 % 2 ^ 32 = seq % 2 ^ 32)).map Prod.snd).getD 0

/-- LOG_WINDOW of a requester (20 R550): 32 records from LOG_SELECT, absent ones zero, as the number of its bytes. -/
def State.logWindow (s : State) (sel : Nat) : Nat :=
  (List.range 32).foldl (fun a i => a + s.log.find (sel + i) * 2 ^ (256 * i)) 0

/-! ### Firmware update (20 R557, R558, R562) -/

/-- Another requester holds the update. -/
def State.fwHeld (s : State) (who : Requester) : Bool :=
  match s.fw.owner with
  | some k => k ≠ who.ix
  | none => false

/-- FW_BEGIN. -/
def State.fwBegin (s : State) (who : Requester) (v : Nat) : Nat × State :=
  if s.fwHeld who then (fwOwnerCode, s)
  else if v = 0 then (stOk, s)
  else
    let k := 1 - s.boot.image
    let s := s.setSlot k { st := 2, written := true }
    (stOk, { s with fw := { s.fw with owner := some who.ix, status := 1, next := 0, rateUntil := 0 } })

/-- FW_ERASE_DONE. -/
def execFwEraseDone (s : State) : Host.Outcome State Fault Refusal :=
  .next (if s.fw.status = 1 && !s.fw.down then { s with fw := { s.fw with status := 2 } } else s)

/-- FW_DATA at offset `off` of the window: the status, a retry hint and the new state. The hint of BUSY is the model's free value. -/
def State.fwData (s : State) (who : Requester) (off : Nat) (bytes : List Byte) : Nat × Nat × State :=
  let a := s.obj 0x7001 2 + off
  if s.fwHeld who then (fwOwnerCode, 0, s)
  else if 65536 < off + bytes.length || slotBytes < a + bytes.length then (stRange, 0, s)
  else if s.fw.owner.isNone || (s.fw.status ≠ 1 && s.fw.status ≠ 2) then (stState, 0, s)
  else if s.fw.status = 1 || s.cyc.ns < s.fw.rateUntil then
    let (r, s) := s.draw
    (stBusy, r % 2 ^ 32, s)
  else if a ≠ s.fw.next then (fwSequence, 0, s)
  else
    let k := 1 - s.boot.image
    let v := s.slot k
    let s := s.setSlot k { v with data := Mem.write v.data a bytes, len := a + bytes.length }
    (stOk, 0, { s with fw := { s.fw with next := a + bytes.length, rateUntil := s.cyc.ns + bytes.length * 1000000000 / 4194304 } })

/-- FW_VERIFY. -/
def State.fwVerify (s : State) (who : Requester) (v : Nat) : Nat × State :=
  if s.fwHeld who then (fwOwnerCode, s)
  else if v = 0 then (stOk, s)
  else if s.fw.status = 2 || s.fw.status = 4 || s.fw.status = 5 then (stOk, { s with fw := { s.fw with status := 3 } })
  else (stState, s)

/-- FW_VERIFY_DONE: what the check of the written slot finds. -/
def execFwVerifyDone (check : SlotCheck) (s : State) : Host.Outcome State Fault Refusal :=
  .next (
    if s.fw.status ≠ 3 || s.fw.down then s
    else
      let k := 1 - s.boot.image
      let s := s.recordSlot k check
      match s.imageFails k check with
      | none => { s with fw := { s.fw with status := 4 } }
      | some r => ({ s with fw := { s.fw with status := 5 } }).logRec 0x0065 0 1 none r)

/-- Run a warm reset, or join the sequence in progress (19 R535); a FAULT of restarts ends either way (20 R562). -/
def State.warmOrJoin (s : State) (cause : Nat) : State :=
  if s.boot.ready then s.warmReset cause
  else if s.boot.causes.mgmt then ({ s with boot := { s.boot with causes := { s.boot.causes with mgmt := false } } }).syncChip
  else s

/-- FW_ACTIVATE. -/
def State.fwActivate (s : State) (who : Requester) (v : Nat) : Nat × State :=
  if s.fwHeld who then (fwOwnerCode, s)
  else if v = 0 then (stOk, s)
  else if s.fw.status ≠ 4 || s.boot.fail ≠ 0 then (stState, s)
  else
    let k := 1 - s.boot.image
    let s := { s with fw := { s.fw.setManifest k with activated := some k, owner := none, status := 0, next := 0 },
                      boot := { s.boot with handover := true } }
    (stOk, (s.logRec 0x0063 0 0 none (k + 256 * (s.slot k).version)).warmOrJoin 2)

/-- The new image runs (20 R557). -/
def State.handedOver (s : State) : State := { s with boot := { s.boot with handover := false, image := s.fw.manifest } }

/-- FW_COMMIT (20 R557, R564). -/
def State.fwCommit (s : State) (who : Requester) (v : Nat) : Nat × State :=
  if s.fwHeld who then (fwOwnerCode, s)
  else if v = 0 then (stOk, s)
  else if s.fw.activated ≠ some s.boot.image then (stState, s)
  else
    let old := s.fwRollback
    let new := max old (s.slot s.boot.image).rollback
    (stOk, ({ s with fw := { s.fw with rollback := s.fw.rollback + (new - old) } }).logRec 0x0064 0 0 none (old + 256 * new))

/-- FW_RESTART (20 R558). -/
def State.fwRestart (s : State) (who : Requester) (v : Nat) : Nat × State :=
  if s.fwHeld who then (fwOwnerCode, s)
  else if v = 0 then (stOk, s)
  else if s.boot.fail ≠ 0 then (stState, s)
  else (stOk, s.warmOrJoin 1)

/-- KEY_REVOKE (20 R555). -/
def State.keyRevoke (s : State) (v : Nat) : Nat × State :=
  let left := (List.range 4).filter (fun k => !bit s.keysRevoked k)
  if bit s.keysRevoked v then (stOk, s)
  else if v = (s.slot s.boot.image).key || left = [v] then (fwLastKey, s)
  else (stOk, { s with fw := { s.fw with revoked := setBit s.fw.revoked v true } })

/-! ### Attestation (20 R559 to R561) -/

/-- RANGE_DIGEST of Pavilion p (20 R560). -/
def State.rangeDigest (s : State) (p : Nat) : Nat :=
  Config.sha384 ((List.range 8).flatMap (fun r => leBytes 8 (s.pavRange p r).1 ++ leBytes 8 (s.pavRange p r).2))

/-- The 96-byte record of Pavilion p (20 R560). A digest is stored most significant byte first. -/
def State.pavRecord (s : State) (p : Nat) : List Byte :=
  leBytes 24 (s.pavCores p) ++ ((leBytes 48 (s.rangeDigest p)).reverse.take 32) ++ leBytes 8 (s.obj (0x2210 + p) 2)
    ++ leBytes 8 (s.obj (0x2210 + p) 3) ++ leBytes 2 (s.obj (0x2410 + p) 1) ++ leBytes 2 (s.obj (0x2410 + p) 2)
    ++ leBytes 4 (s.pav p).resetCount ++ leBytes 16 0

/-- Measurement i (20 Table 20-5). -/
def State.measurement (s : State) (i : Nat) : Option Nat :=
  if i = 1 || i = 3 then some (Config.shipped i)
  else if i = 2 then
    let v := s.slot s.boot.image
    some (if v.written then Config.sha384 (Mem.read v.data 0 (imageBytes (s.slotHeader s.boot.image)))
          else Config.shipped (16 + s.boot.image))
  else if i = 4 then
    some (Config.sha384 (leBytes (s.len 0x1201 1) (s.obj 0x1201 1) ++ leBytes (s.len 0x1201 2) (s.obj 0x1201 2)
      ++ leBytes 1 (s.obj 0x1203 1) ++ leBytes 1 s.keysRevoked))
  else if 16 ≤ i && i < 32 then some (Config.sha384 (s.pavRecord (i - 16)))
  else none

/-- A function's DOE returns measurement i (20 R561). -/
def measureSeen (f i : Nat) : Bool := f = 0 || (1 ≤ i && i ≤ 4) || i = 15 + f

/-- SPDM request codes (DMTF DSP0274) of 20 Table 20-5. -/
def spdmCodes : List Nat := [0x84, 0xE1, 0xE3, 0x81, 0x82, 0x83, 0xE0]

/-- The response to an SPDM request (20 R559, R561; log 56): code and body. A request that is not supported, or names another certificate slot than
0, gets ERROR. GET_DIGESTS, GET_CERTIFICATE and GET_MEASUREMENTS carry what the spec defines; a measurement the function does not see is
absent. -/
def State.spdm (s : State) (f code index : Nat) : Nat × List Nat :=
  if !spdmCodes.contains code || ((code = 0x82 || code = 0x83) && index ≠ 0) then (0x7F, [])
  else if code = 0xE0 then
    (0x60, match s.measurement index with | some d => if measureSeen f index then [index, d] else [] | none => [])
  else if code = 0x81 then (0x01, [Config.sha384 Config.certChain])
  else if code = 0x82 then (0x02, Config.certChain.map BitVec.toNat)
  else (code - 0x80, [])

/-- Answer an SPDM request at the DOE of function f. -/
def State.answerSpdm (s : State) (f code index : Nat) : State :=
  let (c, b) := s.spdm f code index
  s.emit (.spdm f c b)

/-- SPDM_REQUEST (20 R559, R561): while Machenil is down or hands over the exchange waits, and a function has one at a time. -/
def execSpdmRequest (f : FnIx) (code index : Nat) (s : State) : Host.Outcome State Fault Refusal :=
  .next (
    if !s.fnExists f || s.boot.phase < 2 || !(s.heldReqs (26 + f)).isEmpty then s
    else if s.fw.down || s.boot.handover then
      { s with dict := { s.dict with queue := s.dict.queue ++ [{ req := .doe f code index, at_ := s.cyc.ns }] } }
    else s.answerSpdm f code index)

/-! ### Objects (20 Table 20-6) -/

/-- Live values of the management objects that are the same for every requester. -/
def State.mgmtRead (s : State) (i sub : Nat) : Option Nat :=
  match i, sub with
  | 0x1200, 5 => some ((List.range 8).filter (fun k => (s.sess k).isOpen)).length
  | 0x5030, 1 => some (s.log.nextSeq % 2 ^ 32)
  | 0x5030, 2 => some (s.log.oldest % 2 ^ 32)
  | 0x5030, 5 => some s.log.lost
  | 0x5030, 7 => some s.alertStatus
  | 0x5030, 9 => some s.sensorFault
  | 0x7000, 1 => some s.boot.image
  | 0x7000, 2 => some (s.slot 0).version
  | 0x7000, 3 => some (s.slot 1).version
  | 0x7000, 4 => some s.fwRollback
  | 0x7000, 5 => some (s.slotState 0 + 16 * s.slotState 1)
  | 0x7001, 8 => some s.fw.status
  | 0x7001, 9 => some s.fw.next
  | 0x7002, 2 => some s.keysRevoked
  | _, _ => none

/-- The effect of a write of requester `who` to a management object. -/
def State.mgmtWrite (s : State) (who : Requester) (i sub v : Nat) : Option (Nat × State) :=
  match i, sub with
  | 0x5030, 8 => some (s.alertAck v)
  | 0x7001, 1 => some (s.fwBegin who v)
  | 0x7001, 2 => some (if s.fwHeld who then (fwOwnerCode, s) else if v % 65536 ≠ 0 then (stRange, s) else (stOk, s.setObj 0x7001 2 v))
  | 0x7001, 4 => some (s.fwVerify who v)
  | 0x7001, 5 => some (s.fwActivate who v)
  | 0x7001, 6 => some (s.fwCommit who v)
  | 0x7001, 7 => some (s.fwRestart who v)
  | 0x7002, 1 => some (s.keyRevoke v)
  | _, _ => none

end Sys2Proof.Machine
end

