-- ==== Sys2Proof/Machine/Debug.lean ====
section
/-! DEFINITION. Machine/Debug.lean: Tally selections, breakpoints and halts by object, Stalemates, Snapshot triggers and traces
(21 R569 to R587). -/

namespace Sys2Proof.Machine

/-! ### Tally objects (21 R571, R635) -/

/-- A selection names an instance that a role sees. -/
def State.tallySees (s : State) (r : Role) (id inst : Nat) : Bool :=
  match r with
  | .tenant p =>
    match tallyScope id with
    | some 144 => bit (s.pavCores p) inst && decide (inst < 144)
    | some 16 => inst = p
    | _ => false
  | _ => true

/-- The counter of an ID and an instance; beyond the scope it reads 0. -/
def State.tallyRead (s : State) (id inst : Nat) : Nat :=
  match tallyScope id with
  | none => 0
  | some n => if inst < n || (inst = 0xFFFF && 1 < n) then s.tallyGet id inst else 0

/-- A write of TALLY_SELECT. -/
def State.tallySelect (s : State) (who : Requester) (v : Nat) : Nat × State :=
  if (tallyScope (v / 65536)).isNone then (stRange, s)
  else if !s.tallySees (s.role who) (v / 65536) (v % 65536) then (stNoObject, s)
  else (stOk, s.updReq who.ix (fun r => { r with tallySel := v }))

/-- TALLY_VALUE (k = 0) and TALLY_BLOCK (instance selected + k). -/
def State.tallyThrough (s : State) (who : Requester) (k : Nat) : Except Nat Nat :=
  let v := (s.req who.ix).tallySel
  if v = 0 then .ok 0
  else if !s.tallySees (s.role who) (v / 65536) (v % 65536) then .error stNoObject
  else
    let inst := v % 65536 + k
    .ok (if 65536 ≤ inst || !s.tallySees (s.role who) (v / 65536) inst then 0 else s.tallyRead (v / 65536) inst)

/-! ### Halts and breakpoints by object (21 R573 to R577) -/

/-- The core of DBG_SEL that a requester sees. -/
def State.dbgCore (s : State) (who : Requester) : Except Nat Nat :=
  let n := (s.req who.ix).dbgSel % 256
  match s.role who with
  | .tenant p => if bit (s.pavCores p) n then .ok n else .error stNoObject
  | _ => .ok n

/-- The breakpoint of DBG_SEL. -/
def State.dbgBp (s : State) (who : Requester) : Nat := (s.req who.ix).dbgSel / 256 % 8

/-- A write of DBG_SEL: a tenant selects a core of its own (21 R583). -/
def State.dbgSelect (s : State) (who : Requester) (v : Nat) : Nat × State :=
  let t := s.updReq who.ix (fun r => { r with dbgSel := v % 2048 })
  match t.dbgCore who with
  | .error e => (e, s)
  | .ok _ => if 143 < v % 256 then (stRange, s) else (stOk, t)

/-- A write of DBG_HALT (21 R576). -/
def State.dbgHalt (s : State) (n v : Nat) : Nat × State :=
  match (s.core n).ctl.st with
  | .run => (stOk, if v = 0 then s else s.halt n haltExternal 0)
  | .halted => (stOk, s)
  | _ => (stState, s)

/-- A WAITCNT that a halt stopped counts its frame limit afresh from frame `f` (22 R591). -/
def StreamSt.relimit (t : StreamSt) (f : Nat) : StreamSt :=
  match t.wait with
  | .cnt k v limit _ => { t with wait := .cnt k v limit (f + limit) }
  | _ => t

/-- A halted core goes on (21 R574, R576): its streams take up what they waited for. -/
def State.resumeCore (s : State) (n : Nat) (single : Bool) : State :=
  (s.updCore n (fun c =>
    { c with ctl := { c.ctl with st := .run, drain := .none }, dbg := { c.dbg with single := single },
             sa := { c.sa.relimit s.frame with resumed := true, singled := false },
             sx := { c.sx.relimit s.frame with resumed := true, singled := false } })).checkCntBps n

/-- A write of DBG_RESUME. -/
def State.dbgResume (s : State) (n v : Nat) : Nat × State :=
  if v = 0 then (stOk, s)
  else if (s.core n).ctl.st ≠ .halted then (stState, s)
  else (stOk, s.resumeCore n (v = 2))

/-- A breakpoint value passes the checks of BRK (21 R573). -/
def bpOk (kind : Nat) (m : DWord) : Bool :=
  (kind = 2 || decide (m.toNat < 2 ^ 32)) && (kind ≠ 0 || (m.toNat % 16 = 0 && decide (m.toNat < plotSize)))

/-- Store breakpoint b of core n, if it is disarmed or passes the checks. -/
def State.setBp (s : State) (n b : Nat) (v : Bp) : Nat × State :=
  if v.armed && !bpOk v.kind v.mtch then (stRange, s)
  else (stOk, (s.updCore n (fun c => { c with dbg := { c.dbg with bps := Sparse.put c.dbg.bps b v } })).checkCntBps n)

/-- DBG_BP_CTRL as a number. -/
def Bp.ctrl (b : Bp) : Nat := b2n b.armed + 2 * b.kind + 8 * b.cnt

/-- TRACE_WINDOW as the number of its bytes: entries oldest first (21 R582). -/
def Core.traceWindow (c : Core) : Nat := (c.dbg.trace.zipIdx).foldl (fun a x => a + x.1 % 2 ^ 128 * 2 ^ (128 * x.2)) 0

/-! ### Stalemate (21 R578, R579, R585) -/

/-- Cores that a Stalemate halts. -/
def State.staleCores (s : State) : List Nat :=
  ((bitList (s.obj 0x6020 2) 16).flatMap s.coresOf).filter (fun n =>
    (s.core n).canHalt s.cyc.cycles)

/-- The halt of a Stalemate; LATE marks DBG_REASON where the time had passed on arrival. -/
def State.stalemate (s : State) (late stepped : Bool) : State :=
  let l := s.staleCores
  let s := l.foldl (fun s n =>
    let s := s.haltEvent n haltStalemate 0 stepped
    if late then s.updCore n (fun c => { c with dbg := { c.dbg with reason := setBit c.dbg.reason 19 true } }) else s) s
  (s.logRecS 0x0072 0 0 none l.length stepped).setObj 0x6020 1 0

/-- STALEMATE_HALT: the halt event of STALEMATE_TIME. -/
def execStalemateHalt (s : State) : Host.Outcome State Fault Refusal :=
  s.clocked (fun s =>
    let t := s.obj 0x6020 1
    if t = 0 || !s.turn { at_ := t, rank := 1 } then s
    else
      let s := s.elapseTo t
      s.stalemate false (s.steppedPast t))

/-- STALEMATE_RESUME: every core still HALTED for a Stalemate runs on. -/
def execStalemateResume (s : State) : Host.Outcome State Fault Refusal :=
  s.clocked (fun s =>
    let t := s.obj 0x6020 3
    if t = 0 then s
    else
      let s := s.elapseTo t
      let l := (List.range 144).filter (fun n => (s.core n).ctl.st = .halted && (s.core n).dbg.reason % 256 = haltStalemate)
      (l.foldl (fun s n => s.resumeCore n false) s).setObj 0x6020 3 0)

/-- A STALEMATE_ID is applied; the last 16 are known. -/
def State.noteStale (s : State) (id : Nat) : State := { s with link := { s.link with stIds := (id :: s.link.stIds).take 16 } }

/-- The Stalemate message (21 Table 21-2). -/
def staleMsg (src dst op id time pavs resume : Nat) : Msg :=
  { dst := dst, src := src, dpav := 0, spav := 0, kind := 7, hops := 1, arg0 := op + id * 2 ^ 32, arg1 := time,
    data := clean (leBytes 2 pavs ++ leBytes 6 0 ++ leBytes 8 resume), level := 3 }

/-- Send a Stalemate to the peer on each UP port but `except`; a port in Ethernet mode carries the flood too (21 R579; 22 Table 22-4). -/
def State.flood (s : State) (except : Option Nat) (op id time pavs resume : Nat) : State :=
  ((List.range 64).filter (fun q => s.portUp q && except ≠ some q)).foldl (fun s q =>
    let m := staleMsg s.wireChip (((s.port q).peer.map (·.1)).getD 0) op id time pavs resume
    let vc := s.dateline none q
    let t : TxMsg := { vc := vc, pav := 0, inPort := none, flits := m.flits vc, whole := true, started := false, hdr := m, core := 0, cmd := 0,
                       frame := s.frame }
    s.updPort q (fun p => { p with tx := p.tx ++ [t] })) s

/-- A write of STALEMATE_FLOOD: ARM where a halt time is set, else CANCEL. -/
def State.stalemateFlood (s : State) (v : Nat) : Nat × State :=
  if v = 0 then (stOk, s)
  else
    let id := s.chipId % 2 ^ 15 * 2 ^ 17 + s.link.stSeq % 2 ^ 17
    let s := { s with link := { s.link with stSeq := s.link.stSeq + 1 } }
    let s := s.noteStale id
    let op := if s.obj 0x6020 1 = 0 then 2 else 1
    (stOk, s.flood none op id (s.obj 0x6020 1) (s.obj 0x6020 2) (s.obj 0x6020 3))

/-- Take the first delivered Stalemate message of an operation, with its port. -/
def State.takeStale (s : State) (op : Nat) : Option (Msg × Nat × State) :=
  let stale := fun (m : Msg) => m.kind = 7
  let l := s.link.delivered
  match l.find? (fun m => stale m && m.arg0 % 256 = op) with
  | none => none
  | some m =>
    let i := l.idxOf m
    let j := ((l.take i).filter stale).length
    let link := { s.link with delivered := l.eraseIdx i, sysIn := s.link.sysIn.eraseIdx j }
    some (m, s.link.sysIn.getD j 64, { s with link := link })

/-- The fields of a Stalemate's data. -/
def Msg.stalePavs (m : Msg) : Nat := leNat (rawBytes (m.data.take 2))
def Msg.staleResume (m : Msg) : Nat := leNat (rawBytes ((m.data.drop 8).take 8))

/-- A received Stalemate is applied, recorded and forwarded, or discarded where its ID is known (21 R579). The record's LATE is its top bit
(log 33). -/
def State.staleReceived (s : State) (op : Nat) : State :=
  match s.takeStale op with
  | none => s
  | some (m, q, s) =>
    let id := m.arg0 / 2 ^ 32 % 2 ^ 32
    if s.link.stIds.contains id then s
    else
      let s := s.noteStale id
      let s := if op = 1 then ((s.setObj 0x6020 1 m.arg1).setObj 0x6020 2 m.stalePavs).setObj 0x6020 3 m.staleResume
        else (s.setObj 0x6020 1 0).setObj 0x6020 3 0
      let late := op = 1 && m.arg1 ≠ 0 && decide (m.arg1 < s.time.now)
      let s := s.logRec 0x0071 0 0 none (id + m.arg1 % 2 ^ 63 * 2 ^ 32 + b2n late * 2 ^ 95)
      let s := s.flood (some q) op id m.arg1 m.stalePavs m.staleResume
      if late then s.stalemate true false else s

/-- STALEMATE_ARM_RECEIVED. -/
def execStalemateArmReceived (s : State) : Host.Outcome State Fault Refusal := s.clocked (fun s => s.staleReceived 1)

/-- STALEMATE_CANCEL_RECEIVED. -/
def execStalemateCancelReceived (s : State) : Host.Outcome State Fault Refusal := s.clocked (fun s => s.staleReceived 2)

/-! ### Snapshot (21 R580) -/

/-- SNAPSHOT_TRIGGER: SNAP_TIME sets TRIGGERED on every core of the Pavilion. -/
def execSnapshotTrigger (p : PavIx) (s : State) : Host.Outcome State Fault Refusal :=
  s.clocked (fun s =>
    let t := s.obj (0x6030 + p) 1
    if t = 0 || !s.turn { at_ := t, rank := 2, pav := p } then s
    else
      let s := s.elapseTo t
      let st := s.steppedPast t
      let s := (s.coresOf p).foldl (fun s n => s.updCore n (fun c => { c with dbg := { c.dbg with triggered := true, trigStepped := st } })) s
      s.setObj (0x6030 + p) 1 0)

/-! ### Objects (21 Table 21-3) -/

/-- Live values of the debug objects, as requester `who` sees them. -/
def State.debugRead (s : State) (who : Requester) (i sub : Nat) : Option (Except Nat Nat) :=
  let core := fun (f : Core → Nat) => (s.dbgCore who).map (fun n => f (s.core n))
  let bp := fun (c : Core) => Sparse.getD c.dbg.bps (s.dbgBp who) {}
  match i, sub with
  | 0x6000, 1 => some (.ok (s.req who.ix).tallySel)
  | 0x6000, 2 => some (s.tallyThrough who 0)
  | 0x6010, 1 => some (.ok (s.req who.ix).dbgSel)
  | 0x6010, 2 => some (core (fun c => (bp c).mtch.toNat))
  | 0x6010, 3 => some (core (fun c => (bp c).ctrl))
  | 0x6010, 6 => some (core (fun c => c.dbg.reason))
  | 0x6010, 7 => some (core (fun c => c.dbg.haltAddr))
  | 0x6010, 8 => some (core (fun c => c.dbg.traceMode))
  | 0x6010, 9 => some (core (fun c => c.dbg.trace.length))
  | 0x6010, 0xA => some (core (fun c => c.traceWindow))
  | 0x6020, 5 => some (.ok (s.link.stIds.headD 0))
  | _, _ =>
    if i = 0x6001 && 1 ≤ sub then some (s.tallyThrough who (sub - 1))
    else if 0x6030 ≤ i && i < 0x6040 && sub = 4 then some (.ok (s.pav (i - 0x6030)).snapCount)
    else none

/-- A write of a Sundial target (02 R53, 19 R530): 0 cancels. -/
def State.timeTarget (s : State) (i sub v : Nat) : Nat × State :=
  if v = 0 then (stOk, s.setObj i sub 0)
  else if s.time.epoch.isNone then (stState, s)
  else if v < s.time.now then (stTimePast, s)
  else (stOk, s.setObj i sub v)

/-- The effect of a write of requester `who` to a debug object. -/
def State.debugWrite (s : State) (who : Requester) (i sub v : Nat) : Option (Nat × State) :=
  let on := fun (f : Nat → Nat × State) => match s.dbgCore who with
    | .ok n => f n
    | .error e => (e, s)
  let bp := fun (n : Nat) => Sparse.getD (s.core n).dbg.bps (s.dbgBp who) {}
  match i, sub with
  | 0x6000, 1 => some (s.tallySelect who v)
  | 0x6010, 1 => some (s.dbgSelect who v)
  | 0x6010, 2 => some (on (fun n => s.setBp n (s.dbgBp who) { bp n with mtch := BitVec.ofNat 64 v }))
  | 0x6010, 3 => some (on (fun n => s.setBp n (s.dbgBp who) { bp n with armed := bit v 0, kind := bits v 2 1, cnt := bits v 8 3 }))
  | 0x6010, 4 => some (on (fun n => s.dbgHalt n v))
  | 0x6010, 5 => some (on (fun n => s.dbgResume n v))
  | 0x6010, 8 => some (on (fun n => (stOk, s.updCore n (fun c => { c with dbg := { c.dbg with traceMode := v } }))))
  | 0x6020, 1 => some (s.timeTarget i sub v)
  | 0x6020, 3 => some (s.timeTarget i sub v)
  | 0x6020, 4 => some (s.stalemateFlood v)
  | _, _ =>
    if 0x6030 ≤ i && i < 0x6040 && sub = 1 then some (s.timeTarget i sub v)
    else if 0x6030 ≤ i && i < 0x6040 && sub = 2 then some (if v % 32 ≠ 0 then (stRange, s) else (stOk, s.setObj i sub v))
    else none

end Sys2Proof.Machine
end

