-- ==== Sys2Proof/Machine/Dictionary.lean ====
section
/-! DEFINITION. Machine/Dictionary.lean: how a request to the object dictionary is executed (03 R67 to R98): values, checks, writes, halves,
the mailbox, I3C and MOP. -/

namespace Sys2Proof.Machine

/-! ### Values -/

/-- CORE_STATE of core n; a core disabled at shipment reads FENCED. -/
def State.coreStateCode (s : State) (n : Nat) : Nat :=
  if coreShipped n then 4
  else match (s.core n).ctl.st with
    | .idle => 0
    | .run => 1
    | .halted => 2
    | .faulted => 3
    | .fenced => 4

/-- PLOT_HEALTH (09 Table 9-2). -/
def PlotInt.health (p : PlotInt) : Nat :=
  if !p.suspects.isEmpty then 3 else if p.fenced ≠ 0 then 2 else if !p.repairs.isEmpty then 1 else 0

/-- SPARES_LEFT as the number of its bytes. -/
def PlotInt.sparesBlob (p : PlotInt) : Nat := (List.range 192).foldl (fun a k => a + p.sparesLeft k * 256 ^ k) 0

/-- Live values of a core's objects (04 Table 4-3, 07 Table 7-4, 16 Table 16-3, 18 Table 18-4, 21 R572). -/
def State.coreObj (s : State) (n sub : Nat) : Option Nat :=
  let c := s.core n
  match sub with
  | 1 => some (s.coreStateCode n)
  | 2 => some (b2n c.ctl.split)
  | 3 => some c.ctl.stepNum.toNat
  | 4 => some c.ctl.stepState
  | 5 => some c.ctl.stepAddr
  | 6 => some c.ctl.fault
  | 7 => some c.ctl.faultAddr
  | 0x10 => some (if coreShipped n then 3 else c.fence.st)
  | 0x11 => some c.fence.cmLast
  | 0x20 => some (c.par.satFlags % 2 ^ 64)
  | 0x21 => some (c.par.satFlags / 2 ^ 64 % 2 ^ 64)
  | 0x30 => some c.disp.last
  | 0x31 => some c.disp.deferred
  | 0x32 => some c.disp.refused
  | _ =>
    if 0x23 ≤ sub && sub ≤ 0x26 then some (Sparse.getD c.par.satCount (sub - 0x23) 0)
    else if 0x40 ≤ sub && sub ≤ 0x47 then some (s.tallyGet (sub - 0x3F) n)
    else none

/-- Live values of a core's Plot objects (09 Table 9-2). -/
def State.plotObj (s : State) (n sub : Nat) : Option Nat :=
  let p := (s.core n).pint
  match sub with
  | 1 => some p.health
  | 2 => some p.detects
  | 3 => some p.last
  | 4 => some p.columnFaults
  | 5 => some p.softFaults
  | 6 => some p.fenced
  | 7 => some p.sparesBlob
  | _ => none

/-- Live values of the objects of cores. -/
def State.coreRead (s : State) (i sub : Nat) : Option Nat :=
  if 0x2000 ≤ i && i < 0x2090 then s.coreObj (i - 0x2000) sub
  else if i = 0x2100 && sub = 1 then some s.integ.plotDetects
  else if 0x2101 ≤ i && i < 0x2191 then s.plotObj (i - 0x2101) sub
  else if 0x2240 ≤ i && i < 0x22D0 then
    match sub with
    | 1 => some (s.core (i - 0x2240)).map.memFault
    | 2 => some (s.core (i - 0x2240)).map.memFaults
    | _ => none
  else none

/-- ENABLED_CORES (24 R625). -/
def enabledCores : Nat := 2 ^ 144 - 1 - shippedMask

/-- Identity (24 Table 24-6). -/
def idRead (i sub : Nat) : Option Nat :=
  match i, sub with
  | 0x1000, 1 => some Config.fuses.vendorId.toNat
  | 0x1000, 4 => some modelStr
  | 0x1000, 5 => some Config.fuses.stepping.toNat
  | 0x1000, 6 => some Config.fuses.serial.toNat
  | 0x1000, 7 => some enabledCores
  | 0x1000, 8 => some (popcount enabledCores 144)
  | _, _ => none

/-- The value of an object that is the same for every requester. -/
def State.commonValue (s : State) (i sub : Nat) : Nat :=
  (s.timeRead i sub <|> s.ctRead i sub <|> s.bsRead i sub <|> s.linkRead i sub <|> s.diceRead i sub <|> s.rotRead i sub
    <|> s.pavRead i sub <|> s.powerRead i sub <|> s.integRead i sub <|> s.bootRead i sub <|> s.mgmtRead i sub <|> s.coreRead i sub
    <|> idRead i sub).getD (s.obj i sub)

/-- The value of an object as a requester reads it: a number, or the number of the bytes of a STR or BLOB; an error where a selection of the
requester names what it does not see (21 R583). -/
def State.value (s : State) (who : Requester) (i sub : Nat) : Except Nat Nat :=
  if sub = 0 then .ok ((objMax i).getD 0)
  else if i = 0x5030 && sub = 3 then .ok (s.req who.ix).logSel
  else if i = 0x5030 && sub = 4 then .ok (s.logWindow (s.req who.ix).logSel)
  else if i = 0x1202 && sub = 2 then .ok (b2n (s.role who = .vendor))
  else match s.debugRead who i sub with
    | some v => v
    | none => .ok (s.commonValue i sub)

/-- What a read changes (02 R57, 12 R335, 17 R466). -/
def State.seen (s : State) (i sub : Nat) : State :=
  if i = 0x1100 && sub = 7 then s.sundialStatusRead
  else if i = 0x4020 && sub = 0xB then s.mpStatusSeen
  else if 0x2410 ≤ i && i < 0x2420 && sub = 0x12 then s.bsStatusRead (i - 0x2410)
  else s

/-! ### Checks (03 R68 to R74) -/

/-- A type code that a request carries fits the object: 0 stands for none on a read. -/
def typeFits (ty : Nat) (o : ObjInfo) (read : Bool) : Bool := ty = o.ty || (read && ty = 0)

/-- The checks of a read: the object's row, or the status. -/
def State.readOk (s : State) (who : Requester) (i sub ty : Nat) : Except Nat ObjInfo :=
  match s.reach (s.role who) i sub with
  | none => .error stNoObject
  | some o =>
    if !typeFits ty o true then .error stType
    else if readCheckAcc o ≠ 0 then .error stAccess
    else .ok o

/-- The checks of a write before its size and value: that the role reaches the object, its type code, then the role's right to write, the access
code and the chip state (log 84). `ty` is none on a path that carries no type code. -/
def State.writeOk (s : State) (who : Requester) (i sub : Nat) (ty : Option Nat) : Except Nat ObjInfo :=
  match s.reach (s.role who) i sub with
  | none => .error stNoObject
  | some o =>
    if (match ty with | some t => !typeFits t o false | none => false) then .error stType
    else if s.writeCheck (s.role who) i sub o ≠ 0 then .error (s.writeCheck (s.role who) i sub o)
    else .ok o

/-! ### Writes -/

/-- A write to 0x1200.01 to .04 (24 R626): every other session closes, and PTP lock is lost. -/
def State.transportWrite (s : State) (who : Requester) (sub v : Nat) : State :=
  let s := s.setObj 0x1200 sub v
  let s := (List.range 8).foldl (fun s k => if who.ix = 18 + k then s else s.closeSession k) s
  s.ptpLost

/-- SAT_CLEAR (07 R209). -/
def State.satClear (s : State) (n v : Nat) : State :=
  if v = 0 then s else s.updCore n (fun c => { c with par := { c.par with satFlags := 0 } })

/-- The effect of a value written to an object that no unit's rules change. -/
def State.plainWrite (s : State) (who : Requester) (i sub v : Nat) : Nat × State :=
  if i = 0x1200 && sub ≤ 4 then (stOk, s.transportWrite who sub v)
  else if 0x2000 ≤ i && i < 0x2090 && sub = 0x22 then (stOk, s.satClear (i - 0x2000) v)
  else if i = 0x5030 && sub = 3 then (stOk, s.updReq who.ix (fun r => { r with logSel := v }))
  else (stOk, s.setObj i sub v)

/-- The effect of a checked value written to an object. -/
def State.applyWrite (s : State) (who : Requester) (i sub v : Nat) : Nat × State :=
  (s.debugWrite who i sub v <|> s.mgmtWrite who i sub v <|> s.powerWrite i sub v <|> s.integWrite i sub v <|> s.bootWrite i sub v
    <|> s.pavWrite i sub v <|> s.rotWrite i sub v <|> s.diceWrite i sub v <|> s.linkWrite i sub v <|> s.bsWrite i sub v
    <|> s.ctWrite i sub v <|> s.timeWrite i sub v).getD (s.plainWrite who i sub v)

/-- Replace `len` bytes at `off` of content held as a number. -/
def setBytes (old off len v : Nat) : Nat := if len = 0 then old else setBits old (8 * (off + len) - 1) (8 * off) v

/-- A write of a STR or BLOB (03 R80): status, retry hint, state. BS_ADMIT acts on the write that carries its last byte. -/
def State.writeBytes (s : State) (who : Requester) (i sub : Nat) (o : ObjInfo) (off len v : Nat) : Nat × Nat × State :=
  if i = 0x7001 && sub = 3 then s.fwData who off (leBytes len v)
  else if i = 0x1202 then (stOp, 0, s)
  else if o.size < off + len then (stRange, 0, s)
  else if o.vari then
    let n := s.len i sub
    if n < off then (stRange, 0, s)
    else
      let new := if off = 0 then v % 256 ^ len else setBytes (s.obj i sub) off len v
      let s := s.setObj i sub new
      (stOk, 0, { s with blobLen := Sparse.put s.blobLen (okey i sub) (if off = 0 then len else max n (off + len)) })
  else
    let new := setBytes (s.obj i sub) off len v
    if o.acc = .cmd && off + len < o.size then (stOk, 0, s.setObj i sub new)
    else
      let (st, s) := s.applyWrite who i sub new
      (st, 0, s)

/-- A write after its checks (03 R69, R70): `len` bytes whose number is `v`. -/
def State.writeValue (s : State) (who : Requester) (i sub : Nat) (o : ObjInfo) (off len v : Nat) : Nat × Nat × State :=
  if tyBytes o.ty then s.writeBytes who i sub o off len v
  else if len ≠ tySize o.ty then (stSize, 0, s)
  else if !o.inRange (objKeep i sub (v % 256 ^ len)) then (stRange, 0, s)
  else
    let (st, s) := s.applyWrite who i sub (objKeep i sub (v % 256 ^ len))
    (st, 0, s)

/-- A whole write of an object by a requester: status, retry hint, state. -/
def State.put (s : State) (who : Requester) (i sub : Nat) (ty : Option Nat) (off len v : Nat) : Nat × Nat × State :=
  match s.writeOk who i sub ty with
  | .error e => (e, 0, s)
  | .ok o => s.writeValue who i sub o off len v

/-- A whole read of an object by a requester: status, value, state. -/
def State.get (s : State) (who : Requester) (i sub ty : Nat) : Nat × Nat × State :=
  match s.readOk who i sub ty with
  | .error e => (e, 0, s)
  | .ok _ =>
    match s.value who i sub with
    | .error e => (e, 0, s)
    | .ok v => (stOk, v, s.seen i sub)

/-! ### Halves (03 R87, R88) -/

/-- UNPAIRED, bit 15 of a status (03 R76). -/
def unpaired : Nat := 0x8000

/-- A low-half read; of an object that is not 64 bits wide, a plain read. -/
def State.lowRead (s : State) (who : Requester) (i sub : Nat) : Nat × Nat × State :=
  match s.readOk who i sub 0, s.get who i sub 0 with
  | .ok o, (0, v, t) =>
    if tyWide o.ty then (stOk, v % 2 ^ 32, t.updReq who.ix (fun r => { r with latch := some (okey i sub, v) })) else (stOk, v, t)
  | _, (e, _, _) => (e, 0, s)

/-- A high-half read (03 R87): it passes the checks of a read whether or not the latch holds the object. -/
def State.highRead (s : State) (who : Requester) (i sub : Nat) : Nat × Nat × State :=
  match s.readOk who i sub 0, s.get who i sub 0 with
  | .error e, _ => (e, 0, s)
  | .ok o, (e, v, t) =>
    if !tyWide o.ty then (stType, 0, s)
    else if e ≠ 0 then (e, 0, s)
    else
      match (s.req who.ix).latch with
      | some (k, x) =>
        if k = okey i sub then (stOk, x / 2 ^ 32, s.updReq who.ix (fun r => { r with latch := none })) else (unpaired, v / 2 ^ 32, t)
      | none => (unpaired, v / 2 ^ 32, t)

/-- A high-half write: the half is staged. -/
def State.highWrite (s : State) (who : Requester) (i sub v : Nat) : Nat × Nat × State :=
  match s.writeOk who i sub none with
  | .error e => (e, 0, s)
  | .ok o =>
    if !tyWide o.ty then (stType, 0, s)
    else (stOk, 0, s.updReq who.ix (fun r => { r with staging := some (okey i sub, v % 2 ^ 32) }))

/-- A low half without its staged high half: it joins the present bits 63:32. UNPAIRED goes with a value that is written; a write that fails
answers its code alone (log 84). -/
def State.loneLow (s : State) (who : Requester) (i sub v : Nat) : Nat × Nat × State :=
  let hi := match s.value who i sub with | .ok x => x / 2 ^ 32 | .error _ => 0
  match s.put who i sub none 0 8 (v % 2 ^ 32 + hi * 2 ^ 32) with
  | (0, d, t) => (unpaired, d, t)
  | r => r

/-- A low-half write; to an object that is not 64 bits wide, a plain write. It empties the staging of its object whatever check fails. -/
def State.lowWrite (s : State) (who : Requester) (i sub v : Nat) : Nat × Nat × State :=
  match (s.req who.ix).staging with
  | some (k, hi) =>
    if k = okey i sub then
      (s.updReq who.ix (fun r => { r with staging := none })).put who i sub none 0 8 (v % 2 ^ 32 + hi * 2 ^ 32)
    else if ((objInfo i sub).map (fun o => tyWide o.ty)).getD false then s.loneLow who i sub v
    else s.put who i sub none 0 (tySize (((objInfo i sub).map ObjInfo.ty).getD 0)) v
  | none =>
    if ((objInfo i sub).map (fun o => tyWide o.ty)).getD false then s.loneLow who i sub v
    else s.put who i sub none 0 (tySize (((objInfo i sub).map ObjInfo.ty).getD 0)) v

/-- An access of 32 bits to a number, on the mailbox and I3C (03 R84, R86): a value of fewer bits must be in range as a whole. -/
def State.half (s : State) (who : Requester) (write high : Bool) (i sub v : Nat) : Nat × Nat × State :=
  let o := (objInfo i sub).getD default
  if tyBytes o.ty && (s.reach (s.role who) i sub).isSome then (stOp, 0, s)
  else if write then
    if high then s.highWrite who i sub v
    else
      if 2 ^ (8 * tySize o.ty) ≤ v then
        match s.writeOk who i sub none with
        | .error e => (e, 0, s)
        | .ok _ => (stRange, 0, s)
      else s.lowWrite who i sub v
  else if high then s.highRead who i sub
  else s.lowRead who i sub

/-! ### Mailbox (03 R84) -/

/-- Four bytes of a STR or BLOB at an offset. -/
def State.chunkRead (s : State) (who : Requester) (i sub off : Nat) : Nat × Nat × State :=
  match s.get who i sub 0 with
  | (0, v, t) =>
    let o := (objInfo i sub).getD default
    if off % 4 ≠ 0 || o.size ≤ off then (stRange, 0, s)
    else (stOk, v % 256 ^ s.len i sub / 256 ^ off % 2 ^ 32, t)
  | r => r

/-- A write of four bytes, of which those past the largest size must be 0 and are not written. -/
def State.chunkWrite (s : State) (who : Requester) (i sub off v : Nat) : Nat × Nat × State :=
  match s.writeOk who i sub none with
  | .error e => (e, 0, s)
  | .ok o =>
    let n := min 4 (o.size - off)
    if i = 0x1202 then (stOp, 0, s)
    else if off % 4 ≠ 0 || o.size ≤ off || 256 ^ n ≤ v then (stRange, 0, s)
    else s.writeBytes who i sub o off n v

/-- Execute a mailbox request: status, DATA, state. -/
def State.mbxDo (s : State) (who : Requester) (req arg data : Nat) : Nat × Nat × State :=
  let op := bits req 27 24
  let i := bits req 23 8
  let sub := bits req 7 0
  let high := bit req 30
  if op ≠ 1 && op ≠ 2 then (stOp, 0, s)
  else
    match s.reach (s.role who) i sub with
    | some o =>
      if tyBytes o.ty then
        if high then (stType, 0, s)
        else if op = 1 then s.chunkRead who i sub arg
        else s.chunkWrite who i sub arg data
      else s.half who (op = 2) high i sub data
    | none => s.half who (op = 2) high i sub data

/-- The requester of a function's mailbox. -/
def mbxWho (f : FnIx) : Requester := if h : f.val = 0 then .pf0 else .vf ⟨f.val - 1, by omega⟩

/-- A mailbox request completes: MBX_STATUS, MBX_RDATA, GO, and the cause MBX_DONE of its function. -/
def State.mbxDone (s : State) (f : FnIx) (status data : Nat) : State :=
  let k := (mbxWho f).ix
  let s := s.updReq k (fun r => { r with mreq := setBit r.mreq 31 false, mrdata := data,
                                         mstatus := setBit (setBits r.mstatus 15 0 status) 28 true })
  s.raise f (if f.val = 0 then 5 else 7)

/-! ### I3C (03 R86) -/

/-- Execute an I3C private write: status, DATA, state. -/
def State.i3cDo (s : State) (b : List Byte) : Nat × Nat × State :=
  let i := leNat (b.take 2)
  let sub := leNat ((b.drop 2).take 1)
  let c := leNat ((b.drop 3).take 1)
  let op := bits c 7 6
  let v := leNat (b.drop 4)
  if (b.length ≠ 4 && b.length ≠ 8) || (op = 1 && b.length = 8) || (op = 2 && b.length = 4) then (stSize, 0, s)
  else if op ≠ 1 && op ≠ 2 then (stOp, 0, s)
  else
    match s.reach (s.role .i3c) i sub with
    | some o => if tyBytes o.ty then (stOp, 0, s) else s.half .i3c (op = 2) (bit c 5) i sub v -- OP whatever HALF says (log 84)
    | none => s.half .i3c (op = 2) (bit c 5) i sub v

/-! ### MOP (03 R79 to R83) -/

/-- What a MOP request answers: status, TYPE, ARG where it is a retry hint, payload. -/
structure MopResp where
  status : Nat
  ty : Nat
  hint : Nat := 0
  payload : List Byte := []
deriving DecidableEq, Repr, Inhabited

/-- Header and payload of a MOP record (03 R79). -/
def mopHdr (r : List Byte) : Nat := beNat (r.take 16)
def mopBody (r : List Byte) : List Byte := r.drop 16

/-- Fields of a MOP header (03 Table 3-7). -/
def mopOp (h : Nat) : Nat := bits h 119 112
def mopIndex (h : Nat) : Nat := bits h 95 80
def mopSub (h : Nat) : Nat := bits h 79 72
def mopType (h : Nat) : Nat := bits h 71 64
def mopArg (h : Nat) : Nat := bits h 31 0

/-- Size of a value in a block, padded to 4 bytes (03 R80). -/
def padded (o : ObjInfo) : Nat := 4 * cdiv (tySize o.ty) 4

/-- The rows of a block (03 R80), or the status of the check that fails: type code, count, then the objects in order. -/
def State.blockRows (s : State) (who : Requester) (write : Bool) (i sub ty n : Nat) : Except Nat (List (Nat × ObjInfo)) :=
  if ty ≠ 0 then .error stType
  else if n = 0 || 255 < n || 256 < sub + n then .error stRange
  else
    (List.range n).foldr (fun k acc =>
      match (if write then s.writeOk who i (sub + k) none else s.readOk who i (sub + k) 0) with
      | .error e => .error e
      | .ok o => if tyBytes o.ty then .error stType else acc.map (fun l => (sub + k, o) :: l)) (.ok [])

/-- The values of a block, all of one moment, in network byte order. -/
def State.blockValues (s : State) (who : Requester) (i : Nat) : List (Nat × ObjInfo) → Except Nat (List Byte)
  | [] => .ok []
  | (k, o) :: rest =>
    match s.value who i k, State.blockValues s who i rest with
    | .ok v, .ok l => .ok (beBytes (padded o) v ++ l)
    | .error e, _ => .error e
    | _, .error e => .error e

/-- The values of a READ_BLOCK or a block push. -/
def State.readBlock (s : State) (who : Requester) (i sub ty n : Nat) : MopResp × State :=
  match s.blockRows who false i sub ty n with
  | .error e => ({ status := e, ty := 0 }, s)
  | .ok rows =>
    if 1024 < (rows.map (fun r => padded r.2)).sum then ({ status := stRange, ty := 0 }, s)
    else
      match s.blockValues who i rows with
      | .error e => ({ status := e, ty := 0 }, s)
      | .ok l => ({ status := stOk, ty := 0, payload := l }, rows.foldl (fun s r => s.seen i r.1) s)

/-- A value of a WRITE_BLOCK: its subindex, its object and the number written. -/
structure BlockVal where
  sub : Nat
  obj : ObjInfo
  v : Nat
deriving DecidableEq, Repr

/-- The values of a WRITE_BLOCK's payload (03 R80). Padding is not part of a value (log 84). -/
def blockVals : List (Nat × ObjInfo) → List Byte → List BlockVal
  | [], _ => []
  | (k, o) :: rest, l =>
    { sub := k, obj := o, v := beNat (l.take (padded o)) % 256 ^ tySize o.ty } :: blockVals rest (l.drop (padded o))

/-- Write one value of a block. -/
def State.writeVal (s : State) (who : Requester) (i : Nat) (x : BlockVal) : Nat × State :=
  let (e, _, t) := s.writeValue who i x.sub x.obj 0 (tySize x.obj.ty) x.v
  (e, t)

/-- Write those values of a block that pass their checks as the state stands, in subindex order: the state, and those left over. -/
def State.writePass (s : State) (who : Requester) (i : Nat) : List BlockVal → State × List BlockVal
  | [] => (s, [])
  | x :: rest =>
    let (e, t) := s.writeVal who i x
    if e = 0 then State.writePass t who i rest
    else
      let (t, l) := State.writePass s who i rest
      (t, x :: l)

/-- Pass over what is left of a block as long as `n` allows. -/
def State.writePasses : Nat → Requester → Nat → State × List BlockVal → State × List BlockVal
  | 0, _, _, r => r
  | n + 1, who, i, (s, l) => if l.isEmpty then (s, l) else State.writePasses n who i (s.writePass who i l)

/-- Write the values of a block in one cycle (03 R80): checks that bind values of the block together see all of them (log 84). What passes only
with the others in place is written with them in place; where a value fails even so, none is written and the first status that fails
stands. -/
def State.writeRows (s : State) (who : Requester) (i : Nat) (l : List BlockVal) : Except Nat State :=
  let (t, rest) := State.writePasses l.length who i (s, l)
  let t := rest.foldl (fun t x => t.setObj i x.sub (objKeep i x.sub x.v)) t
  match (t.writePass who i rest) with
  | (t, []) => .ok t
  | (_, x :: _) => .error (s.writeVal who i x).1

/-- A WRITE_BLOCK. -/
def State.writeBlock (s : State) (who : Requester) (i sub ty n : Nat) (l : List Byte) : MopResp × State :=
  match s.blockRows who true i sub ty n with
  | .error e => ({ status := e, ty := 0 }, s)
  | .ok rows =>
    if l.length ≠ (rows.map (fun r => padded r.2)).sum then ({ status := stSize, ty := 0 }, s)
    else
      match s.writeRows who i (blockVals rows l) with
      | .error e => ({ status := e, ty := 0 }, s)
      | .ok t => ({ status := stOk, ty := 0 }, t)

/-- A READ of one object; a STR or BLOB from the offset to the end of its content, at most 1,024 bytes. -/
def State.mopGet (s : State) (who : Requester) (i sub ty off : Nat) : MopResp × State :=
  match s.readOk who i sub ty, s.get who i sub ty with
  | .ok o, (0, v, t) =>
    if tyBytes o.ty then
      let n := s.len i sub
      if n < off then ({ status := stRange, ty := o.ty }, s)
      else ({ status := stOk, ty := o.ty, payload := leBytes (min 1024 (n - off)) (v % 256 ^ n / 256 ^ off) }, t)
    else ({ status := stOk, ty := o.ty, payload := beBytes (tySize o.ty) v }, t)
  | _, (e, _, _) => ({ status := e, ty := ty }, s)

/-- A WRITE of one object. -/
def State.mopPut (s : State) (who : Requester) (i sub ty off : Nat) (l : List Byte) : MopResp × State :=
  let o := (objInfo i sub).getD default
  match s.put who i sub (some ty) off l.length (if tyBytes o.ty then leNat l else beNat l) with
  | (st, hint, t) => ({ status := st, ty := ty, hint := hint }, t)

/-- The number of live subscriptions of session k. -/
def State.subsOf (s : State) (k : Nat) : Nat := (s.dict.subs.filter (fun u => u.sess = k)).length

/-- The lowest ID that no live subscription has. -/
def State.freeSub (s : State) : Nat :=
  ((List.range 129).map (· + 1)).find? (fun i => s.dict.subs.all (fun u => u.id ≠ i)) |>.getD 0

/-- The type code that the answer to a request for an object carries: the object's own where the request carries none (03 R69). -/
def ansType (i sub ty : Nat) : Nat := if ty = 0 then ((objInfo i sub).map ObjInfo.ty).getD 0 else ty

/-- A SUBSCRIBE with a period (03 R82): count in bits 7:0 of the first payload word, 0 or no payload for one object. -/
def State.subscribe (s : State) (k h : Nat) (l : List Byte) : MopResp × State :=
  let i := mopIndex h
  let sub := mopSub h
  let ty := mopType h
  let n := beNat (l.take 4) % 256
  let rty := if n = 0 then ty else 0
  if 0 < l.length && l.length < 4 then ({ status := stSize, ty := ty }, s)
  else if mopArg h < 4 || 4000000 < mopArg h then ({ status := stRange, ty := rty }, s)
  else
    let chk : Nat :=
      if n = 0 then (match s.readOk (.mop (Fin.ofNat 8 k)) i sub ty with | .ok _ => 0 | .error e => e)
      else match s.blockRows (.mop (Fin.ofNat 8 k)) false i sub ty n with
        | .ok rows => if 1024 < (rows.map (fun r => padded r.2)).sum then stRange else 0
        | .error e => e
    if chk ≠ 0 then ({ status := chk, ty := rty }, s)
    else if 32 ≤ s.subsOf k || 128 ≤ s.dict.subs.length then ({ status := stBusy, ty := rty, hint := 0xFFFFFFFF }, s)
    else
      let id := s.freeSub
      let u : Sub := { id := id, sess := k, index := i, sub := sub, count := n, block := n ≠ 0, period := mopArg h, last := s.frame }
      ({ status := stOk, ty := if n = 0 then ansType i sub ty else 0, payload := beBytes 4 id }, { s with dict := { s.dict with subs := s.dict.subs ++ [u] } })

/-- A SUBSCRIBE with period 0 (03 R82). -/
def State.unsubscribe (s : State) (k h : Nat) (l : List Byte) : MopResp × State :=
  let id := beNat (l.take 4) % 65536
  if 0 < l.length && l.length < 4 then ({ status := stSize, ty := mopType h }, s)
  else if l.isEmpty || !(s.dict.subs.any (fun u => u.id = id && u.sess = k)) then ({ status := stRange, ty := mopType h }, s)
  else ({ status := stOk, ty := mopType h, payload := beBytes 4 id },
        { s with dict := { s.dict with subs := s.dict.subs.filter (fun u => u.id ≠ id) } })

/-- A token passes (20 R556): signed, for this chip, and not past its last hour. -/
def State.tokenOk (s : State) (t : Token) : Bool :=
  t.signed && t.serial = Config.fuses.serial && decide (s.power.hours ≤ t.lastHours.toNat)

/-- A WRITE of SERVICE_AUTH (20 R556, 24 R628; 03 R69, R74) whose token passes or not. -/
def State.serviceAuth (s : State) (k : Fin 8) (ty off : Nat) (l : List Byte) (valid : Bool) : Nat × State :=
  match s.writeOk (.mop k) 0x1202 1 (some ty) with
  | .error e => (e, s)
  | .ok o =>
    if off ≠ 0 || o.size < l.length then (stRange, s)
    else if valid then (stOk, s.setSess k { s.sess k with role := 2 })
    else (stAuth, s.logRec 0x0066 0 1 none 1)

/-- The record is a WRITE of SERVICE_AUTH. -/
def mopIsAuth (h : Nat) : Bool := mopOp h = 2 && mopIndex h = 0x1202 && mopSub h = 1

/-- Execute a MOP record of session k (03 R79, R80). `tok` is what the check of a token of SERVICE_AUTH finds. -/
def State.mopDo (s : State) (k : Fin 8) (h : Nat) (l : List Byte) (tok : Bool) : MopResp × State :=
  let who : Requester := .mop k
  if 1024 < bits h 47 32 || bits h 47 32 ≠ l.length then ({ status := stSize, ty := mopType h }, s)
  else if bits h 127 120 ≠ 1 then ({ status := stOp, ty := mopType h }, s)
  else if mopIsAuth h then
    let (st, t) := s.serviceAuth k (mopType h) (mopArg h) l tok
    ({ status := st, ty := mopType h }, t)
  else
    match mopOp h with
    | 1 => s.mopGet who (mopIndex h) (mopSub h) (mopType h) (mopArg h)
    | 2 => s.mopPut who (mopIndex h) (mopSub h) (mopType h) (mopArg h) l
    | 3 => s.readBlock who (mopIndex h) (mopSub h) (mopType h) (mopArg h)
    | 4 => s.writeBlock who (mopIndex h) (mopSub h) (mopType h) (mopArg h) l
    | 5 => if mopArg h = 0 then s.unsubscribe k h l else s.subscribe k h l
    | _ => ({ status := stOp, ty := mopType h }, s)

/-- Send the response of a MOP record. -/
def State.mopAnswer (s : State) (k h : Nat) (r : MopResp) : State :=
  s.emit (.mop k (128 + mopOp h % 64) (bits h 111 96) (mopIndex h) (mopSub h) r.ty r.status
    (if r.status = stBusy then r.hint else mopArg h) r.payload)

/-- A session that has changed the management addresses closes after its response (24 R626). -/
def State.closeOwn (s : State) (who : Requester) (i sub status : Nat) : State :=
  match who with
  | .mop k => if i = 0x1200 && 1 ≤ sub && sub ≤ 4 && status = stOk then s.closeSession k else s
  | _ => s

/-! ### Execution (03 R90, 19 R527, 20 R544, R557) -/

/-- The response of a request of a general row. -/
def State.respond (s : State) (who : Requester) (status data : Nat) : State := s.emit (.resp who status data)

/-- A whole access of a requester that reaches a STR or BLOB over I3C, which does not carry one (03 R86). -/
def State.noI3c (s : State) (who : Requester) (i sub : Nat) : Bool :=
  who = .i3c && (match s.reach (s.role who) i sub with | some o => tyBytes o.ty | none => false)

/-- Execute and answer a MOP record of session k. -/
def State.runMop (s : State) (k : Nat) (r : List Byte) (tok : Bool) : State :=
  let k := Fin.ofNat 8 k
  let h := mopHdr r
  if (s.sess k).isOpen && s.mgmtNet then
    let (x, t) := s.mopDo k h (mopBody r) tok
    let t := t.mopAnswer k h x
    if mopOp h = 2 || mopOp h = 4 then t.closeOwn (.mop k) (mopIndex h) (mopSub h) x.status else t
  else s

/-- Execute a request and answer it. -/
def State.runReq (s : State) (q : DReq) : State :=
  match q with
  | .mbx f req arg data =>
    let f := Fin.ofNat 17 f
    if bit (s.req (mbxWho f).ix).mreq 31 then
      let (st, d, s) := s.mbxDo (mbxWho f) req arg data
      s.mbxDone f st d
    else s
  | .i3c b =>
    if (s.req 17).running then
      let (st, d, s) := s.i3cDo b
      s.updReq 17 (fun r => { r with running := false, reply := some (st, d) })
    else s
  | .mop k r => s.runMop k r false
  | .half who write high i sub v =>
    let (st, d, s) := s.half who write high i sub v
    s.respond who st d
  | .get who i sub =>
    let (st, d, s) := if s.noI3c who i sub then (stOp, 0, s) else s.get who i sub 0
    s.respond who st d
  | .put who i sub off len v =>
    let (st, d, s) := if s.noI3c who i sub then (stOp, 0, s) else s.put who i sub none off len v
    (s.respond who st d).closeOwn who i sub st
  | .auth k r token => s.runMop k r (s.tokenOk token)
  | .doe f code index => s.answerSpdm f code index

/-- Answer a request that is not executed with a status and, for BUSY, a retry hint. -/
def State.refuse (s : State) (q : DReq) (status hint : Nat) : State :=
  match q with
  | .mbx f _ _ _ => s.mbxDone (Fin.ofNat 17 f) status hint
  | .i3c _ => s.updReq 17 (fun r => { r with running := false, reply := some (status, hint) })
  | .mop k r | .auth k r _ => s.mopAnswer (k % 8) (mopHdr r) { status := status, ty := mopType (mopHdr r), hint := hint }
  | .half who _ _ _ _ _ | .get who _ _ | .put who _ _ _ _ _ => s.respond who status hint
  | .doe _ _ _ => s

/-- Answer a request BUSY with a retry hint. -/
def State.busy (s : State) (q : DReq) (hint : Nat) : State := s.refuse q stBusy hint

/-- A read of 0x1000 to 0x101F, which is answered at once from milestone 1 (19 R527). -/
def DReq.early (q : DReq) : Bool :=
  let low := fun (i : Nat) => decide (0x1000 ≤ i) && decide (i < 0x1020)
  match q with
  | .mbx _ req _ _ => bits req 27 24 = 1 && low (bits req 23 8)
  | .i3c b => bits (leNat ((b.drop 3).take 1)) 7 6 = 1 && low (leNat (b.take 2))
  | .mop _ r => (mopOp (mopHdr r) = 1 || mopOp (mopHdr r) = 3) && low (mopIndex (mopHdr r))
  | .half _ write _ i _ _ => !write && low i
  | .get _ i _ => low i
  | .put _ _ _ _ _ _ => false
  | .auth _ _ _ => false
  | .doe _ _ _ => false

/-- Take a request that came at time `t`: execute it, queue it, or answer BUSY. -/
def State.offerAt (s : State) (q : DReq) (t : Nat) : State :=
  let held := { s with dict := { s.dict with queue := s.dict.queue ++ [{ req := q, at_ := t }] } }
  if s.boot.phase = 0 then s
  else if s.fw.down || s.boot.handover then held
  else if s.boot.phase = 1 && !q.early then
    if s.dict.queue.length < 16 then held else s.busy q (max 1000 (150000 - s.cyc.ns / 1000))
  else s.runReq q

/-- Requester k is the mailbox of a VF whose Pavilion is being reset: until step 8 a GO fails with STATE (15 R422). -/
def State.vfResetting (s : State) (k : Nat) : Bool := decide (1 ≤ k) && decide (k ≤ 16) && (s.pav (k - 1)).resetAt ≠ 0

/-- A request comes now. -/
def State.offer (s : State) (q : DReq) : State :=
  if s.vfResetting q.who && !s.fw.down && !s.boot.handover then s.refuse q stState 0 else s.offerAt q s.cyc.ns

/-- Rank of a requester among requests that arrive in one MGMT cycle (03 R90): I3C, the PF0 mailbox, the VF mailboxes, the MOP sessions. -/
def rankOf (k : Nat) : Nat := if k = 17 then 0 else k + 1

/-- Request `x` goes before `y` (03 R90; 19 R527): it came in an earlier MGMT cycle, of 5 ns (23 Table 23-6), or in the same by rank. -/
def QReq.before (x y : QReq) : Bool :=
  decide (x.at_ / 5 < y.at_ / 5) || (x.at_ / 5 = y.at_ / 5 && decide (rankOf x.req.who < rankOf y.req.who))

/-- Insert a held request behind those that do not come after it. -/
def QReq.insert (x : QReq) : List QReq → List QReq
  | [] => [x]
  | y :: l => if x.before y then x :: y :: l else y :: QReq.insert x l

/-- The requests that waited are taken in arrival order, those of one MGMT cycle in the order of 03 R90. -/
def State.drainQueue (s : State) : State :=
  (s.dict.queue.foldl (fun l q => QReq.insert q l) []).foldl (fun s q => s.offerAt q.req q.at_) { s with dict := { s.dict with queue := [] } }

end Sys2Proof.Machine
end

