-- ==== Sys2Proof/Machine/Requests.lean ====
section
/-! DEFINITION. Machine/Requests.lean: the commands that reach the dictionary: mailbox, I3C, MOP and the rows of single objects (03, 24),
and the ends of waits (19 R527, 20 R544, R557). -/

namespace Sys2Proof.Machine

/-! ### Requesters -/

/-- The requester can send a request: its function answers, its session is open, the I3C target is up (19 R527, R528; 24 R626). -/
def State.live (s : State) (who : Requester) : Bool :=
  match who with
  | .pf0 => decide (2 ≤ s.boot.phase)
  | .vf _ => s.pcie.vfEnable && decide (2 ≤ s.boot.phase)
  | .i3c => decide (1 ≤ s.boot.phase)
  | .mop k => (s.sess k).isOpen && s.mgmtNet

/-- A record of a session has arrived (03 R78). -/
def State.touch (s : State) (who : Requester) : State :=
  match who with
  | .mop k => s.setSess k { s.sess k with last := s.cyc.ns }
  | _ => s

/-- The objects a request of a session touches, and whether it writes them (03 R80, R81). -/
def DReq.target (q : DReq) : List (Nat × Nat) × Bool :=
  match q with
  | .mop _ r | .auth _ r _ =>
    let h := mopHdr r
    let n := if mopOp h = 3 || mopOp h = 4 then mopArg h % 256 else 1
    ((List.range n).map (fun k => (mopIndex h, mopSub h + k)), mopOp h = 2 || mopOp h = 4)
  | .half _ w _ i sub _ => ([(i, sub)], w)
  | .get _ i sub => ([(i, sub)], false)
  | .put _ i sub _ _ _ => ([(i, sub)], true)
  | _ => ([], false)

/-- The retry hint of a session with 16 requests outstanding (03 R81), in µs, from its oldest: 1,000 where that touches a BLOB. -/
def State.sessionHint (s : State) (q : QReq) : Nat :=
  let (l, w) := q.req.target
  if l.any (fun x => ((objInfo x.1 x.2).map ObjInfo.ty).getD 0 = tBlob) then 1000
  else
    let late := if w && l.any (fun x => persistentKey (okey x.1 x.2)) then 50000000 else 1000000
    max 1 (cdiv (q.at_ + late - s.cyc.ns) 1000)

/-- A request of a live requester arrives. Each requester has its own limit (03 R75): a mailbox and the I3C target run one request at a time, a
further one being discarded with OVERRUN or not acknowledged (R84, R86); a session has at most 16 outstanding (R81), a limit that does not bind
while requests wait for milestone 2 (19 R527). -/
def State.ask (s : State) (who : Requester) (q : DReq) : State :=
  if !s.live who then s
  else
    let s := s.touch who
    match who, s.heldReqs who.ix with
    | _, [] => s.offer q
    | .mop _, x :: rest => if s.boot.phase ≠ 1 && decide (15 ≤ rest.length) then s.busy q (s.sessionHint x) else s.offer q
    | .i3c, _ => s.emit (.i3cAck false)
    | _, _ => s.updReq who.ix (fun r => { r with mstatus := setBit r.mstatus 29 true })

/-- A write of a number of `len` bytes, or of a whole BLOB. -/
def State.putRow (s : State) (who : Requester) (i sub len v : Nat) : Host.Outcome State Fault Refusal :=
  .next (s.ask who (.put who i sub 0 len v))

/-- A read. -/
def State.getRow (s : State) (who : Requester) (i sub : Nat) : Host.Outcome State Fault Refusal := .next (s.ask who (.get who i sub))

/-! ### Mailbox (03 R84); a mailbox write waits for the posted writes of its function (15 R417) -/

/-- GO is written in a function's mailbox: a request under way keeps the mailbox and sets OVERRUN. -/
def State.mbxGo (s : State) (f : FnIx) (req arg : Nat) (data : Option Nat) : State :=
  let k := (mbxWho f).ix
  if !s.live (mbxWho f) then s
  else if bit (s.req k).mreq 31 then s.updReq k (fun r => { r with mstatus := setBit r.mstatus 29 true })
  else
    let q := setBit (setBits req 29 28 0) 31 true
    let s := s.updReq k (fun r =>
      { r with mreq := q, marg := arg, mwdata := data.getD r.mwdata, mstatus := setBit (setBit r.mstatus 29 false) 28 false })
    s.offer (.mbx f q arg (data.getD 0))

/-- MBX_READ; a request with a reserved OP is one of either row. -/
def execMbxRead (f : FnIx) (req arg : Word) (s : State) : Host.Outcome State Fault Refusal :=
  .next (if bits req.toNat 27 24 = 2 then s else (s.posted f).mbxGo f req.toNat arg.toNat none)

/-- MBX_WRITE. -/
def execMbxWrite (f : FnIx) (req arg data : Word) (s : State) : Host.Outcome State Fault Refusal :=
  .next (if bits req.toNat 27 24 = 1 then s else (s.posted f).mbxGo f req.toNat arg.toNat (some data.toNat))

/-! ### Halves (03 R87, R88) -/

/-- A half access; MOP carries values whole and has none (03 R80). -/
def State.halfRow (s : State) (who : Requester) (write high : Bool) (i sub v : Nat) : State :=
  match who with
  | .mop _ => s
  | _ => s.ask who (.half who write high i sub v)

/-- LOW_HALF_READ. -/
def execLowHalfRead (who : Requester) (index sub : Nat) (s : State) : Host.Outcome State Fault Refusal :=
  .next (s.halfRow who false false index sub 0)

/-- HIGH_HALF_READ. -/
def execHighHalfRead (who : Requester) (index sub : Nat) (s : State) : Host.Outcome State Fault Refusal :=
  .next (s.halfRow who false true index sub 0)

/-- HIGH_HALF_WRITE. -/
def execHighHalfWrite (who : Requester) (index sub : Nat) (v : Word) (s : State) : Host.Outcome State Fault Refusal :=
  .next (s.halfRow who true true index sub v.toNat)

/-- LOW_HALF_WRITE. -/
def execLowHalfWrite (who : Requester) (index sub : Nat) (v : Word) (s : State) : Host.Outcome State Fault Refusal :=
  .next (s.halfRow who true false index sub v.toNat)

/-! ### I3C (03 R85, R86) -/

/-- The address the target answers to (03 Table 3-9): its dynamic address, or as a legacy I²C target 0x5A until one is assigned. -/
def State.i3cTarget (s : State) : Nat := s.dict.i3cAddr.getD 0x5A

/-- A private write: one to another address is not for this target; it is not acknowledged before milestone 1 or while a request runs. -/
def State.i3cPrivate (s : State) (a : BitVec 7) (b : List Byte) : State :=
  if a.toNat ≠ s.i3cTarget then s
  else if s.boot.phase = 0 || (s.req 17).running then s.emit (.i3cAck false)
  else ((s.emit (.i3cAck true)).updReq 17 (fun r => { r with running := true })).offer (.i3c b)

/-- OP of a private write; 0 where there are too few bytes. -/
def i3cOp (b : List Byte) : Nat := bits (leNat ((b.drop 3).take 1)) 7 6

/-- I3C_READ; a write with a reserved OP or no OP is one of either row. -/
def execI3cRead (addr : BitVec 7) (bytes : List Byte) (s : State) : Host.Outcome State Fault Refusal :=
  .next (if i3cOp bytes = 2 then s else s.i3cPrivate addr bytes)

/-- I3C_WRITE. -/
def execI3cWrite (addr : BitVec 7) (bytes : List Byte) (s : State) : Host.Outcome State Fault Refusal :=
  .next (if i3cOp bytes = 1 then s else s.i3cPrivate addr bytes)

/-- I3C_PRIVATE_READ: the retry hint while a request runs is a free value. -/
def execI3cPrivateRead (addr : BitVec 7) (s : State) : Host.Outcome State Fault Refusal :=
  .next (
    if addr.toNat ≠ s.i3cTarget then s
    else if s.boot.phase = 0 then s.emit (.i3cAck false)
    else if (s.req 17).running then
      let (h, s) := s.draw
      s.emit (.i3c stBusy (h % 2 ^ 32))
    else match (s.req 17).reply with
      | some (st, d) => s.emit (.i3c st d)
      | none => s.emit (.i3c stOp 0))

/-- Take a dynamic address, where none is assigned. -/
def State.i3cAssign (s : State) (a : BitVec 7) : State :=
  if s.boot.phase = 0 then s
  else if s.dict.i3cAddr.isSome then s
  else { s with dict := { s.dict with i3cAddr := some a.toNat } }

/-- ENTDAA. -/
def execEntdaa (addr : BitVec 7) (s : State) : Host.Outcome State Fault Refusal := .next (s.i3cAssign addr)

/-- SETDASA: it names its target by the static address 0x5A (03 Table 3-9). -/
def execSetdasa (static addr : BitVec 7) (s : State) : Host.Outcome State Fault Refusal :=
  .next (if static = 0x5A then s.i3cAssign addr else s)

/-- The I3C requester ends (03 R86, R89): latch, staging, selections and reply are empty, and a request still held goes with it. -/
def State.i3cEnd (s : State) : State := (s.endRequester 17).cancelHeld 17

/-- RSTDAA (03 R86). -/
def execRstdaa (s : State) : Host.Outcome State Fault Refusal :=
  .next (
    if s.boot.phase = 0 then s
    else
      let s := s.i3cEnd
      { s with dict := { s.dict with i3cAddr := none } })

/-- RSTACT (03 R86). -/
def execRstact (s : State) : Host.Outcome State Fault Refusal := .next (if s.boot.phase = 0 then s else s.i3cEnd)

/-- ENEC and DISEC: no in-band interrupt is used (03 Table 3-9), so the enable has no further effect. -/
def execEnec (s : State) : Host.Outcome State Fault Refusal :=
  .next (if s.boot.phase = 0 then s else { s with dict := { s.dict with i3cEvents := true } })

def execDisec (s : State) : Host.Outcome State Fault Refusal :=
  .next (if s.boot.phase = 0 then s else { s with dict := { s.dict with i3cEvents := false } })

/-- Draw n free bytes. -/
def State.drawBytes : Nat → State → List Byte × State
  | 0, s => ([], s)
  | n + 1, s =>
    let (v, s) := s.draw
    let (l, s) := State.drawBytes n s
    (BitVec.ofNat 8 v :: l, s)

/-- A GET CCC of n bytes, whose content the manual does not give: free values. -/
def State.i3cGet (s : State) (n : Nat) : State :=
  if s.boot.phase = 0 then s
  else
    let (l, s) := State.drawBytes n s
    s.emit (.i3cData l)

/-- GETPID. -/
def execGetpid (s : State) : Host.Outcome State Fault Refusal := .next (s.i3cGet 6)

/-- GETBCR. -/
def execGetbcr (s : State) : Host.Outcome State Fault Refusal := .next (s.i3cGet 1)

/-- GETDCR. -/
def execGetdcr (s : State) : Host.Outcome State Fault Refusal := .next (s.i3cGet 1)

/-- GETSTATUS. -/
def execGetstatus (s : State) : Host.Outcome State Fault Refusal := .next (s.i3cGet 2)

/-! ### MOP (03 R78 to R83) -/

/-- Length of the DER element that a list of bytes begins with, identifier and length octets included, where it is a SEQUENCE with a definite length
in the shortest form. -/
def derLength (l : List Byte) : Option Nat :=
  match l with
  | t :: n :: rest =>
    let k := n.toNat - 128
    if t ≠ 0x30 then none
    else if n.toNat < 128 then some (2 + n.toNat)
    else
      let v := beNat (rest.take k)
      if k = 0 || rest.length < k || rest.head? = some 0 || v < 128 then none else some (2 + k + v)
  | _ => none

/-- A trust anchor can authenticate a client (24 R627): from offset 0 it holds one DER certificate and then at most 3 zero bytes. -/
def anchorOk (l : List Byte) : Bool :=
  match derLength l with
  | some n => decide (n ≤ l.length) && decide (l.length ≤ n + 3) && (l.drop n).all (· == 0)
  | none => false

/-- DTLS_HANDSHAKE (03 R78, 24 R627; log 47): `role` is the role of the anchor the client's certificate chains to, 0 OBSERVER or 1 OPERATOR. -/
def execDtlsHandshake (role : Option (Fin 2)) (s : State) : Host.Outcome State Fault Refusal :=
  .next (
    if !s.mgmtUp || !s.mgmtNet then s
    else match (List.range 8).find? (fun k => !(s.sess k).isOpen) with
      | none => s.emit (.dtlsAlert 40)
      | some k =>
        match role with
        | some r =>
          if !anchorOk (leBytes (s.len 0x1201 (2 - r.val)) (s.obj 0x1201 (2 - r.val))) then s.logRec 0x0066 0 1 none 0
          else s.setSess k { isOpen := true, role := r.val, last := s.cyc.ns }
        | none => s.logRec 0x0066 0 1 none 0)

/-- MOP_SESSION_TIMEOUT (03 R78). -/
def execMopSessionTimeout (k : Fin 8) (s : State) : Host.Outcome State Fault Refusal :=
  .next (if (s.sess k).isOpen then (s.elapseNs ((s.sess k).last + 60000000000)).closeSession k else s)

/-- A record of more than 1,040 bytes or fewer than 16 is discarded, but it is a record of the client (03 R78, R79). -/
def State.mopRow (s : State) (k : Fin 8) (r : List Byte) (mine : Bool) (q : DReq) : State :=
  if !mine || !s.live (.mop k) then s
  else if 1040 < r.length || r.length < 16 then s.touch (.mop k)
  else s.ask (.mop k) q

/-- The record is one of opcode `op`, or one without a header or of a reserved opcode, which every row takes. -/
def mopMine (r : List Byte) (op : Nat) : Bool :=
  decide (r.length < 16) || mopOp (mopHdr r) = op || mopOp (mopHdr r) = 0 || decide (5 < mopOp (mopHdr r))

/-- A WRITE of SERVICE_AUTH passes every check before that of its token, which the row SERVICE_AUTH brings (24 R628). -/
def State.authNeeds (s : State) (k : Fin 8) (r : List Byte) : Bool :=
  let h := mopHdr r
  mopIsAuth h && ((s.mopDo k h (mopBody r) true).1.status = stOk)

/-- MOP_READ. -/
def execMopRead (k : Fin 8) (record : List Byte) (s : State) : Host.Outcome State Fault Refusal :=
  .next (s.mopRow k record (mopMine record 1) (.mop k record))

/-- MOP_WRITE. A write of SERVICE_AUTH whose token is checked is the row SERVICE_AUTH. -/
def execMopWrite (k : Fin 8) (record : List Byte) (s : State) : Host.Outcome State Fault Refusal :=
  .next (s.mopRow k record (mopMine record 2 && !s.authNeeds k record) (.mop k record))

/-- MOP_READ_BLOCK. -/
def execMopReadBlock (k : Fin 8) (record : List Byte) (s : State) : Host.Outcome State Fault Refusal :=
  .next (s.mopRow k record (mopMine record 3) (.mop k record))

/-- MOP_WRITE_BLOCK. -/
def execMopWriteBlock (k : Fin 8) (record : List Byte) (s : State) : Host.Outcome State Fault Refusal :=
  .next (s.mopRow k record (mopMine record 4) (.mop k record))

/-- MOP_SUBSCRIBE. -/
def execMopSubscribe (k : Fin 8) (record : List Byte) (s : State) : Host.Outcome State Fault Refusal :=
  .next (s.mopRow k record (mopMine record 5 && !(mopOp (mopHdr record) = 5 && mopArg (mopHdr record) = 0)) (.mop k record))

/-- MOP_SUBSCRIBE_CANCEL. -/
def execMopSubscribeCancel (k : Fin 8) (record : List Byte) (s : State) : Host.Outcome State Fault Refusal :=
  .next (s.mopRow k record (mopMine record 5 && !(mopOp (mopHdr record) = 5 && mopArg (mopHdr record) ≠ 0)) (.mop k record))

/-- Send the push of a subscription for frame f (03 R83). -/
def State.pushSub (s : State) (f : Nat) (u : Sub) : State :=
  let who : Requester := .mop (Fin.ofNat 8 u.sess)
  let (r, s) := if u.block then s.readBlock who u.index u.sub 0 u.count else s.mopGet who u.index u.sub 0 0
  let flags := (if s.timeFree then 0x4000 else 0) + (if s.holdover then 0x2000 else 0)
  s.emit (.mop u.sess 0xC5 u.id u.index u.sub r.ty (r.status + flags) (f % 2 ^ 32) r.payload)

/-- Frame f has been pushed: a forward step passes only the first of the pushes it skips (02 R55; 03 R83). -/
def State.subPushed (s : State) (f : Nat) : State :=
  let g := if s.steppedPast (250000 * f) then max f (frameOf s.cyc.lastStep) else f
  { s with dict := { s.dict with subs := s.dict.subs.map (fun u => if s.pushOf u = f then { u with last := g } else u) } }

/-- TALLY_SUBSCRIPTION_PUSH (03 R83, R97): the next pushes due at a frame boundary, in ascending ID. `full` names the sessions whose outbound
queue is full. During a hand-over no push is sent. -/
def execTallySubscriptionPush (full : List (Fin 8)) (s : State) : Host.Outcome State Fault Refusal :=
  .next (
    match s.nextPush with
    | none => s
    | some f =>
      if !s.turn { at_ := 250000 * f, rank := 8 } then s
      else
        let due := ((List.range 129).filterMap (fun i => s.dict.subs.find? (fun u => u.id = i))).filter (fun u =>
          s.pushOf u = f && !full.any (fun k => k.val = u.sess))
        let s := (s.subPushed f).elapseTo (250000 * f)
        if !s.mgmtUp || !s.mgmtNet then s else due.foldl (fun s u => s.pushSub f u) s)

/-! ### Rows of single objects -/

/-- OBJECT_WRITE (03 R71). -/
def execObjectWrite (who : Requester) (index sub off len v : Nat) (s : State) : Host.Outcome State Fault Refusal :=
  .next (s.ask who (.put who index sub off len v))

/-- MGMT_TRANSPORT_WRITE (24 R626): MGMT_MAC, MGMT_IP, MGMT_NETMASK, MGMT_GATEWAY. -/
def execMgmtTransportWrite (who : Requester) (sub v : Nat) (s : State) : Host.Outcome State Fault Refusal :=
  if sub = 0 || 4 < sub then .next s else s.putRow who 0x1200 sub (if sub = 1 then 8 else 4) v

/-- SERVICE_AUTH (24 R628): a MOP WRITE of the token, whose fields and signature the row brings (20 R556; log 94). -/
def execServiceAuth (k : Fin 8) (record : List Byte) (token : Token) (s : State) : Host.Outcome State Fault Refusal :=
  .next (s.mopRow k record (decide (16 ≤ record.length) && mopIsAuth (mopHdr record)) (.auth k record token))

/-- FW_DATA (20 R557). -/
def execFwData (who : Requester) (off : Nat) (bytes : List Byte) (s : State) : Host.Outcome State Fault Refusal :=
  .next (s.ask who (.put who 0x7001 3 off bytes.length (leNat bytes)))

/-- PAV_CORES_WRITE (15 R411). -/
def execPavCoresWrite (who : Requester) (p : PavIx) (off len v : Nat) (s : State) : Host.Outcome State Fault Refusal :=
  .next (s.ask who (.put who (0x3000 + 16 * p) 2 off len v))

/-- PAV_RANGE_WRITE (15 R412): subindex 1 to 8 the bases, 9 to 16 the sizes. -/
def execPavRangeWrite (who : Requester) (p : PavIx) (sub : Fin 16) (v : Nat) (s : State) : Host.Outcome State Fault Refusal :=
  s.putRow who (0x3001 + 16 * p) (sub + 1) 8 v

def execDiceLoad (who : Requester) (p : PavIx) (v : Nat) (s : State) := s.putRow who (0x2310 + p) 0xC 1 v
def execBsAdmit (who : Requester) (p : PavIx) (v : Nat) (s : State) := s.putRow who (0x2410 + p) 0xF 32 v
def execBsRetire (who : Requester) (p : PavIx) (v : Nat) (s : State) := s.putRow who (0x2410 + p) 0x10 2 v
def execBsStatusRead (who : Requester) (p : PavIx) (s : State) := s.getRow who (0x2410 + p) 0x12
def execRotPlanLoad (who : Requester) (p : PavIx) (v : Nat) (s : State) := s.putRow who (0x2610 + p) 3 1 v
def execSundialReform (who : Requester) (v : Nat) (s : State) := s.putRow who 0x1106 1 1 v
def execSundialStatusRead (who : Requester) (s : State) := s.getRow who 0x1100 7
def execPortReset (who : Requester) (q : PortIx) (v : Nat) (s : State) := s.putRow who (0x2500 + q) 0xD 1 v
def execPortEnableWrite (who : Requester) (q : PortIx) (v : Nat) (s : State) := s.putRow who (0x2500 + q) 1 1 v
def execRouteCommit (who : Requester) (v : Nat) (s : State) := s.putRow who 0x2540 3 1 v
def execSatClear (who : Requester) (c : CoreIx) (v : Nat) (s : State) := s.putRow who (0x2000 + c) 0x22 1 v
def execPtRootWrite (who : Requester) (p : PavIx) (v : Nat) (s : State) := s.putRow who (0x2210 + p) 1 8 v
def execPavCreate (who : Requester) (p : PavIx) (v : Nat) (s : State) := s.putRow who (0x3000 + 16 * p) 3 1 v
def execPavDestroy (who : Requester) (p : PavIx) (v : Nat) (s : State) := s.putRow who (0x3000 + 16 * p) 4 1 v
def execPavReset (who : Requester) (p : PavIx) (v : Nat) (s : State) := s.putRow who (0x3000 + 16 * p) 5 1 v
def execPavCoreReset (who : Requester) (p : PavIx) (v : Nat) (s : State) := s.putRow who (0x3000 + 16 * p) 6 1 v
def execCtHistClear (who : Requester) (p : PavIx) (v : Nat) (s : State) := s.putRow who (0x3185 + 8 * p) 9 1 v
def execMpStatusRead (who : Requester) (s : State) := s.getRow who 0x4020 0xB
def execVfPointWrite (who : Requester) (v : Nat) (s : State) := s.putRow who 0x4030 2 1 v
def execCalStart (who : Requester) (v : Nat) (s : State) := s.putRow who 0x4050 1 1 v
def execCalForce (who : Requester) (v : Nat) (s : State) := s.putRow who 0x4050 2 1 v
def execFenceRequest (who : Requester) (v : Nat) (s : State) := s.putRow who 0x5000 4 2 v
def execFenceClear (who : Requester) (v : Nat) (s : State) := s.putRow who 0x5000 5 2 v
def execCmLease (who : Requester) (p : PavIx) (v : Nat) (s : State) := s.putRow who (0x5020 + p) 1 1 v
def execAlertAck (who : Requester) (v : Nat) (s : State) := s.putRow who 0x5030 8 1 v
def execBootContinue (who : Requester) (v : Nat) (s : State) := s.putRow who 0x1010 3 1 v
def execWarmReset (who : Requester) (v : Nat) (s : State) := s.putRow who 0x1010 4 1 v
def execFwBegin (who : Requester) (v : Nat) (s : State) := s.putRow who 0x7001 1 1 v
def execFwVerify (who : Requester) (v : Nat) (s : State) := s.putRow who 0x7001 4 1 v
def execFwActivate (who : Requester) (v : Nat) (s : State) := s.putRow who 0x7001 5 1 v
def execFwCommit (who : Requester) (v : Nat) (s : State) := s.putRow who 0x7001 6 1 v
def execFwRestart (who : Requester) (v : Nat) (s : State) := s.putRow who 0x7001 7 1 v
def execKeyRevoke (who : Requester) (v : Nat) (s : State) := s.putRow who 0x7002 1 1 v
def execDbgHalt (who : Requester) (v : Nat) (s : State) := s.putRow who 0x6010 4 1 v
def execDbgResumeRun (who : Requester) (s : State) := s.putRow who 0x6010 5 1 1
def execDbgResumeSingle (who : Requester) (s : State) := s.putRow who 0x6010 5 1 2
def execStalemateFlood (who : Requester) (v : Nat) (s : State) := s.putRow who 0x6020 4 1 v

/-! ### Ends of waits -/

/-- FUSES_LOADED (19 R525, R527; 17 R604): milestone 2, once rail 0 has settled; the queued requests execute. -/
def execFusesLoaded (s : State) : Host.Outcome State Fault Refusal :=
  .next (if s.boot.phase = 1 && s.boot.pwrgood && !s.faulted && (s.rail 0).done then s.fusesLoaded.drainQueue else s)

/-- FW_HANDOVER_END (20 R557). -/
def execFwHandoverEnd (s : State) : Host.Outcome State Fault Refusal := .next (if s.boot.handover then s.handedOver.drainQueue else s)

/-- MGMT_RESTART_COMPLETE (20 R544). -/
def execMgmtRestartComplete (s : State) : Host.Outcome State Fault Refusal := .next (if s.fw.down then s.mgmtRestarted.drainQueue else s)

/-! ### An empty queue -/

/-- What a step does with no command waiting: 1 ns passes (log 9). -/
def State.tick (s : State) : State := s.elapse 1

end Sys2Proof.Machine
end

