-- ==== Sys2Proof/Machine/Dispatch.lean ====
section
/-! DEFINITION. Machine/Dispatch.lean: the meaning of each command, one arm per constructor. -/

namespace Sys2Proof.Machine

def exec (i : Instr) (s : State) : Host.Outcome State Fault Refusal :=
  match i with
  | .endCmd c t => Sys2Proof.Machine.execEndCmd c t s
  | .branch c t => Sys2Proof.Machine.execBranch c t s
  | .loop c t => Sys2Proof.Machine.execLoop c t s
  | .waitcnt c t => Sys2Proof.Machine.execWaitcnt c t s
  | .setcnt c t => Sys2Proof.Machine.execSetcnt c t s
  | .waittime c t => Sys2Proof.Machine.execWaittime c t s
  | .step c t => Sys2Proof.Machine.execStep c t s
  | .fence c t => Sys2Proof.Machine.execFence c t s
  | .mapinv c t => Sys2Proof.Machine.execMapinv c t s
  | .brk c t => Sys2Proof.Machine.execBrk c t s
  | .region c t => Sys2Proof.Machine.execRegion c t s
  | .qconf c t => Sys2Proof.Machine.execQconf c t s
  | .qpush c t => Sys2Proof.Machine.execQpush c t s
  | .qpop c t => Sys2Proof.Machine.execQpop c t s
  | .fork c t => Sys2Proof.Machine.execFork c t s
  | .join c t => Sys2Proof.Machine.execJoin c t s
  | .setr c t => Sys2Proof.Machine.execSetr c t s
  | .salu c t => Sys2Proof.Machine.execSalu c t s
  | .nop c t => Sys2Proof.Machine.execNop c t s
  | .move c t => Sys2Proof.Machine.execMove c t s
  | .gather c t => Sys2Proof.Machine.execGather c t s
  | .scatter c t => Sys2Proof.Machine.execScatter c t s
  | .signal c t => Sys2Proof.Machine.execSignal c t s
  | .oprefetch c t => Sys2Proof.Machine.execOprefetch c t s
  | .oflush c t => Sys2Proof.Machine.execOflush c t s
  | .oinv c t => Sys2Proof.Machine.execOinv c t s
  | .snap c t => Sys2Proof.Machine.execSnap c t s
  | .route c t => Sys2Proof.Machine.execRoute c t s
  | .collect c t => Sys2Proof.Machine.execCollect c t s
  | .loadw c t => Sys2Proof.Machine.execLoadw c t s
  | .matmul c t => Sys2Proof.Machine.execMatmul c t s
  | .conv c t => Sys2Proof.Machine.execConv c t s
  | .vecop c t => Sys2Proof.Machine.execVecop c t s
  | .reduce c t => Sys2Proof.Machine.execReduce c t s
  | .issueResume c t => Sys2Proof.Machine.execIssueResume c t s
  | .moverStart c => Sys2Proof.Machine.execMoverStart c s
  | .parterreStart c stalls => Sys2Proof.Machine.execParterreStart c stalls s
  | .trellisStart c stalls => Sys2Proof.Machine.execTrellisStart c stalls s
  | .dicePortStart c => Sys2Proof.Machine.execDicePortStart c s
  | .collectPortStart c => Sys2Proof.Machine.execCollectPortStart c s
  | .longCommandComplete c e => Sys2Proof.Machine.execLongCommandComplete c e s
  | .coreDrainComplete c => Sys2Proof.Machine.execCoreDrainComplete c s
  | .tagAccessResume c e => Sys2Proof.Machine.execTagAccessResume c e s
  | .tagTimeout c e => Sys2Proof.Machine.execTagTimeout c e s
  | .waitcntSatisfied c t => Sys2Proof.Machine.execWaitcntSatisfied c t s
  | .waitcntTimeout c t => Sys2Proof.Machine.execWaitcntTimeout c t s
  | .qpopResume c t => Sys2Proof.Machine.execQpopResume c t s
  | .qpushResume c t => Sys2Proof.Machine.execQpushResume c t s
  | .joinMeet c => Sys2Proof.Machine.execJoinMeet c s
  | .stepDrainComplete c => Sys2Proof.Machine.execStepDrainComplete c s
  | .fenceComplete c t => Sys2Proof.Machine.execFenceComplete c t s
  | .regionEffect c t => Sys2Proof.Machine.execRegionEffect c t s
  | .qconfEffect c t => Sys2Proof.Machine.execQconfEffect c t s
  | .endComplete c t => Sys2Proof.Machine.execEndComplete c t s
  | .mapinvComplete c t => Sys2Proof.Machine.execMapinvComplete c t s
  | .startRequest c split a b => Sys2Proof.Machine.execStartRequest c split a b s
  | .remoteWriteArrival dst src => Sys2Proof.Machine.execRemoteWriteArrival dst src s
  | .pendingWriteRelease c => Sys2Proof.Machine.execPendingWriteRelease c s
  | .plotSentinelSweep c bank lost upsets => Sys2Proof.Machine.execPlotSentinelSweep c bank lost upsets s
  | .plotClassify c bank => Sys2Proof.Machine.execPlotClassify c bank s
  | .plotRepairComplete c => Sys2Proof.Machine.execPlotRepairComplete c s
  | .plotScrubDone c => Sys2Proof.Machine.execPlotScrubDone c s
  | .pageWalkComplete c => Sys2Proof.Machine.execPageWalkComplete c s
  | .memoryReadResponse rid errs => Sys2Proof.Machine.execMemoryReadResponse rid errs s
  | .hostCompletion rid ok data ep => Sys2Proof.Machine.execHostCompletion rid ok data ep s
  | .hostCompletionTimeout rid => Sys2Proof.Machine.execHostCompletionTimeout rid s
  | .arbiterGrant r => Sys2Proof.Machine.execArbiterGrant r s
  | .pipSweepCheck k upsets => Sys2Proof.Machine.execPipSweepCheck k upsets s
  | .diceLoad who p v => Sys2Proof.Machine.execDiceLoad who p v s
  | .diceLoadCopyDone p => Sys2Proof.Machine.execDiceLoadCopyDone p s
  | .diceRoundClose p => Sys2Proof.Machine.execDiceRoundClose p s
  | .diceReqReceived p => Sys2Proof.Machine.execDiceReqReceived p s
  | .dicePhaseClose p => Sys2Proof.Machine.execDicePhaseClose p s
  | .diceOutcomeReceived p => Sys2Proof.Machine.execDiceOutcomeReceived p s
  | .diceRowReceived p => Sys2Proof.Machine.execDiceRowReceived p s
  | .diceInboxDeliver p expert => Sys2Proof.Machine.execDiceInboxDeliver p expert s
  | .diceRelease p expert => Sys2Proof.Machine.execDiceRelease p expert s
  | .diceResultReceived p => Sys2Proof.Machine.execDiceResultReceived p s
  | .diceHoldExpiry p expert => Sys2Proof.Machine.execDiceHoldExpiry p expert s
  | .diceSourceExpiry p => Sys2Proof.Machine.execDiceSourceExpiry p s
  | .bsAdmit who p v => Sys2Proof.Machine.execBsAdmit who p v s
  | .bsRetire who p v => Sys2Proof.Machine.execBsRetire who p v s
  | .bsSlotStart => Sys2Proof.Machine.execBsSlotStart s
  | .batchDeadline p => Sys2Proof.Machine.execBatchDeadline p s
  | .bsBatchDeliver p => Sys2Proof.Machine.execBsBatchDeliver p s
  | .timeWordDue q => Sys2Proof.Machine.execTimeWordDue q s
  | .timeFlitReceived q flit fec => Sys2Proof.Machine.execTimeFlitReceived q flit fec s
  | .portTimeLiveExpiry q => Sys2Proof.Machine.execPortTimeLiveExpiry q s
  | .sourceLoss => Sys2Proof.Machine.execSourceLoss s
  | .sourceElection others => Sys2Proof.Machine.execSourceElection others s
  | .sundialFrameBoundary => Sys2Proof.Machine.execSundialFrameBoundary s
  | .holdoverExpiry => Sys2Proof.Machine.execHoldoverExpiry s
  | .ptpSyncReceived m => Sys2Proof.Machine.execPtpSyncReceived m s
  | .ptpSyncTimeout => Sys2Proof.Machine.execPtpSyncTimeout s
  | .sundialReform who v => Sys2Proof.Machine.execSundialReform who v s
  | .ownEpochForm => Sys2Proof.Machine.execOwnEpochForm s
  | .ppsOutRise => Sys2Proof.Machine.execPpsOutRise s
  | .ppsOutFall => Sys2Proof.Machine.execPpsOutFall s
  | .ppsInEdge => Sys2Proof.Machine.execPpsInEdge s
  | .sundialStatusRead who => Sys2Proof.Machine.execSundialStatusRead who s
  | .flitSlot q => Sys2Proof.Machine.execFlitSlot q s
  | .dataFlitReceived q flit fec => Sys2Proof.Machine.execDataFlitReceived q flit fec s
  | .nakReceived q flit fec => Sys2Proof.Machine.execNakReceived q flit fec s
  | .idleFlitReceived q flit fec => Sys2Proof.Machine.execIdleFlitReceived q flit fec s
  | .holdFlitReceived q flit fec => Sys2Proof.Machine.execHoldFlitReceived q flit fec s
  | .initFlitReceived q flit fec => Sys2Proof.Machine.execInitFlitReceived q flit fec s
  | .portTrainingDone q => Sys2Proof.Machine.execPortTrainingDone q s
  | .portTrainingTimeout q => Sys2Proof.Machine.execPortTrainingTimeout q s
  | .portTrainingRetry q => Sys2Proof.Machine.execPortTrainingRetry q s
  | .retrainHoldExpiry q => Sys2Proof.Machine.execRetrainHoldExpiry q s
  | .linkGroupTrainStart => Sys2Proof.Machine.execLinkGroupTrainStart s
  | .portReset who q v => Sys2Proof.Machine.execPortReset who q v s
  | .portEnableWrite who q v => Sys2Proof.Machine.execPortEnableWrite who q v s
  | .messageHeadArrival q vc => Sys2Proof.Machine.execMessageHeadArrival q vc s
  | .noticeReceived => Sys2Proof.Machine.execNoticeReceived s
  | .linkInjectTimeout => Sys2Proof.Machine.execLinkInjectTimeout s
  | .routeCommit who v => Sys2Proof.Machine.execRouteCommit who v s
  | .ethFrameTimer k => Sys2Proof.Machine.execEthFrameTimer k s
  | .ethIdleTimer k => Sys2Proof.Machine.execEthIdleTimer k s
  | .ethFrameReceived k bytes fcsOk fec => Sys2Proof.Machine.execEthFrameReceived k bytes fcsOk fec s
  | .collectiveLaunch p plan => Sys2Proof.Machine.execCollectiveLaunch p plan s
  | .rotundaDataReceived p => Sys2Proof.Machine.execRotundaDataReceived p s
  | .rotundaCtrlReceived p => Sys2Proof.Machine.execRotundaCtrlReceived p s
  | .collectiveDeadline p plan => Sys2Proof.Machine.execCollectiveDeadline p plan s
  | .collectiveResultWritten p plan => Sys2Proof.Machine.execCollectiveResultWritten p plan s
  | .rotPlanLoad who p v => Sys2Proof.Machine.execRotPlanLoad who p v s
  | .rotPlanLoadDone p => Sys2Proof.Machine.execRotPlanLoadDone p s
  | .rotPlanCommit p => Sys2Proof.Machine.execRotPlanCommit p s
  | .stalemateArmReceived => Sys2Proof.Machine.execStalemateArmReceived s
  | .stalemateCancelReceived => Sys2Proof.Machine.execStalemateCancelReceived s
  | .doorbell p v width => Sys2Proof.Machine.execDoorbell p v width s
  | .dbRefusalRead p => Sys2Proof.Machine.execDbRefusalRead p s
  | .intPendingClear f v => Sys2Proof.Machine.execIntPendingClear f v s
  | .intMaskWrite f v => Sys2Proof.Machine.execIntMaskWrite f v s
  | .listDoneMapClear f word v => Sys2Proof.Machine.execListDoneMapClear f word v s
  | .msixEnable f on => Sys2Proof.Machine.execMsixEnable f on s
  | .bar0UnmappedAccess f write off len v => Sys2Proof.Machine.execBar0UnmappedAccess f write off len v s
  | .bar2Access f write off len data ep => Sys2Proof.Machine.execBar2Access f write off len data ep s
  | .bar4Access f write off len data ep => Sys2Proof.Machine.execBar4Access f write off len data ep s
  | .pcieConfigRequest f req => Sys2Proof.Machine.execPcieConfigRequest f req s
  | .flr f => Sys2Proof.Machine.execFlr f s
  | .vfEnableClear => Sys2Proof.Machine.execVfEnableClear s
  | .perstNAssert => Sys2Proof.Machine.execPerstNAssert s
  | .perstNRise => Sys2Proof.Machine.execPerstNRise s
  | .mbxRead f req arg => Sys2Proof.Machine.execMbxRead f req arg s
  | .mbxWrite f req arg data => Sys2Proof.Machine.execMbxWrite f req arg data s
  | .lowHalfRead who index sub => Sys2Proof.Machine.execLowHalfRead who index sub s
  | .highHalfRead who index sub => Sys2Proof.Machine.execHighHalfRead who index sub s
  | .highHalfWrite who index sub v => Sys2Proof.Machine.execHighHalfWrite who index sub v s
  | .lowHalfWrite who index sub v => Sys2Proof.Machine.execLowHalfWrite who index sub v s
  | .i3cRead addr bytes => Sys2Proof.Machine.execI3cRead addr bytes s
  | .i3cWrite addr bytes => Sys2Proof.Machine.execI3cWrite addr bytes s
  | .i3cPrivateRead addr => Sys2Proof.Machine.execI3cPrivateRead addr s
  | .entdaa addr => Sys2Proof.Machine.execEntdaa addr s
  | .setdasa static addr => Sys2Proof.Machine.execSetdasa static addr s
  | .rstdaa => Sys2Proof.Machine.execRstdaa s
  | .rstact => Sys2Proof.Machine.execRstact s
  | .enec => Sys2Proof.Machine.execEnec s
  | .disec => Sys2Proof.Machine.execDisec s
  | .getpid => Sys2Proof.Machine.execGetpid s
  | .getbcr => Sys2Proof.Machine.execGetbcr s
  | .getdcr => Sys2Proof.Machine.execGetdcr s
  | .getstatus => Sys2Proof.Machine.execGetstatus s
  | .dtlsHandshake role => Sys2Proof.Machine.execDtlsHandshake role s
  | .mopSessionTimeout k => Sys2Proof.Machine.execMopSessionTimeout k s
  | .mopRead k record => Sys2Proof.Machine.execMopRead k record s
  | .mopWrite k record => Sys2Proof.Machine.execMopWrite k record s
  | .mopReadBlock k record => Sys2Proof.Machine.execMopReadBlock k record s
  | .mopWriteBlock k record => Sys2Proof.Machine.execMopWriteBlock k record s
  | .mopSubscribe k record => Sys2Proof.Machine.execMopSubscribe k record s
  | .mopSubscribeCancel k record => Sys2Proof.Machine.execMopSubscribeCancel k record s
  | .tallySubscriptionPush full => Sys2Proof.Machine.execTallySubscriptionPush full s
  | .objectWrite who index sub off len v => Sys2Proof.Machine.execObjectWrite who index sub off len v s
  | .satClear who c v => Sys2Proof.Machine.execSatClear who c v s
  | .ptRootWrite who p v => Sys2Proof.Machine.execPtRootWrite who p v s
  | .mapBufferAging => Sys2Proof.Machine.execMapBufferAging s
  | .pavCreate who p v => Sys2Proof.Machine.execPavCreate who p v s
  | .pavDestroy who p v => Sys2Proof.Machine.execPavDestroy who p v s
  | .pavDestroyComplete p => Sys2Proof.Machine.execPavDestroyComplete p s
  | .pavReset who p v => Sys2Proof.Machine.execPavReset who p v s
  | .pavResetDrainComplete p => Sys2Proof.Machine.execPavResetDrainComplete p s
  | .pavResetComplete p => Sys2Proof.Machine.execPavResetComplete p s
  | .pavCoreReset who p v => Sys2Proof.Machine.execPavCoreReset who p v s
  | .coreResetComplete c => Sys2Proof.Machine.execCoreResetComplete c s
  | .pavCoresWrite who p off len v => Sys2Proof.Machine.execPavCoresWrite who p off len v s
  | .pavRangeWrite who p sub v => Sys2Proof.Machine.execPavRangeWrite who p sub v s
  | .ctHistClear who p v => Sys2Proof.Machine.execCtHistClear who p v s
  | .pwrSlotSplit demand => Sys2Proof.Machine.execPwrSlotSplit demand s
  | .millpondSlot ballastMax cores amps => Sys2Proof.Machine.execMillpondSlot ballastMax cores amps s
  | .mpStatusRead who => Sys2Proof.Machine.execMpStatusRead who s
  | .millpondPowerStep => Sys2Proof.Machine.execMillpondPowerStep s
  | .frameEnergyAttribution nanojoule parts ballast => Sys2Proof.Machine.execFrameEnergyAttribution nanojoule parts ballast s
  | .vfPointWrite who v => Sys2Proof.Machine.execVfPointWrite who v s
  | .railSettled k readback => Sys2Proof.Machine.execRailSettled k readback s
  | .railTimeout k readback => Sys2Proof.Machine.execRailTimeout k readback s
  | .vfAgingUpdate => Sys2Proof.Machine.execVfAgingUpdate s
  | .droopGuardUpdate peaks => Sys2Proof.Machine.execDroopGuardUpdate peaks s
  | .calStart who v => Sys2Proof.Machine.execCalStart who v s
  | .calForce who v => Sys2Proof.Machine.execCalForce who v s
  | .calibrationWindowEnd offsets changed => Sys2Proof.Machine.execCalibrationWindowEnd offsets changed s
  | .thermalReading temps => Sys2Proof.Machine.execThermalReading temps s
  | .thermPointStep => Sys2Proof.Machine.execThermPointStep s
  | .thermtrip sensor temp => Sys2Proof.Machine.execThermtrip sensor temp s
  | .fenceRequest who v => Sys2Proof.Machine.execFenceRequest who v s
  | .fenceClear who v => Sys2Proof.Machine.execFenceClear who v s
  | .fenceTableStore => Sys2Proof.Machine.execFenceTableStore s
  | .checkmateRunStart => Sys2Proof.Machine.execCheckmateRunStart s
  | .cmLease who p v => Sys2Proof.Machine.execCmLease who p v s
  | .checkmateRunEnd c sigs => Sys2Proof.Machine.execCheckmateRunEnd c sigs s
  | .watchdogExpiry sram => Sys2Proof.Machine.execWatchdogExpiry sram s
  | .mgmtRestartComplete => Sys2Proof.Machine.execMgmtRestartComplete s
  | .logFlush => Sys2Proof.Machine.execLogFlush s
  | .sensorTimeout cls ix => Sys2Proof.Machine.execSensorTimeout cls ix s
  | .alertAck who v => Sys2Proof.Machine.execAlertAck who v s
  | .refclkLoss k => Sys2Proof.Machine.execRefclkLoss k s
  | .pwrgoodRise => Sys2Proof.Machine.execPwrgoodRise s
  | .coldReset lowNs taken => Sys2Proof.Machine.execColdReset lowNs taken s
  | .machenilUp slots => Sys2Proof.Machine.execMachenilUp slots s
  | .fusesLoaded => Sys2Proof.Machine.execFusesLoaded s
  | .hbmTrained => Sys2Proof.Machine.execHbmTrained s
  | .grottoTrained => Sys2Proof.Machine.execGrottoTrained s
  | .memoryTrainingFail unit => Sys2Proof.Machine.execMemoryTrainingFail unit s
  | .plotsScrubbed => Sys2Proof.Machine.execPlotsScrubbed s
  | .chipReady => Sys2Proof.Machine.execChipReady s
  | .bootContinue who v => Sys2Proof.Machine.execBootContinue who v s
  | .bootRomRecheck images slots => Sys2Proof.Machine.execBootRomRecheck images slots s
  | .warmReset who v => Sys2Proof.Machine.execWarmReset who v s
  | .warmResetComplete => Sys2Proof.Machine.execWarmResetComplete s
  | .fwBegin who v => Sys2Proof.Machine.execFwBegin who v s
  | .fwEraseDone => Sys2Proof.Machine.execFwEraseDone s
  | .fwData who off bytes => Sys2Proof.Machine.execFwData who off bytes s
  | .fwVerify who v => Sys2Proof.Machine.execFwVerify who v s
  | .fwVerifyDone check => Sys2Proof.Machine.execFwVerifyDone check s
  | .fwActivate who v => Sys2Proof.Machine.execFwActivate who v s
  | .fwHandoverEnd => Sys2Proof.Machine.execFwHandoverEnd s
  | .fwCommit who v => Sys2Proof.Machine.execFwCommit who v s
  | .fwRestart who v => Sys2Proof.Machine.execFwRestart who v s
  | .keyRevoke who v => Sys2Proof.Machine.execKeyRevoke who v s
  | .serviceAuth k record token => Sys2Proof.Machine.execServiceAuth k record token s
  | .mgmtTransportWrite who sub v => Sys2Proof.Machine.execMgmtTransportWrite who sub v s
  | .spdmRequest f code index => Sys2Proof.Machine.execSpdmRequest f code index s
  | .dbgHalt who v => Sys2Proof.Machine.execDbgHalt who v s
  | .dbgResumeRun who => Sys2Proof.Machine.execDbgResumeRun who s
  | .dbgResumeSingle who => Sys2Proof.Machine.execDbgResumeSingle who s
  | .haltDrainComplete c => Sys2Proof.Machine.execHaltDrainComplete c s
  | .stalemateHalt => Sys2Proof.Machine.execStalemateHalt s
  | .stalemateResume => Sys2Proof.Machine.execStalemateResume s
  | .stalemateFlood who v => Sys2Proof.Machine.execStalemateFlood who v s
  | .snapshotTrigger p => Sys2Proof.Machine.execSnapshotTrigger p s
  | .bsStatusRead who p => Sys2Proof.Machine.execBsStatusRead who p s
  | .waittimeCompletion c t => Sys2Proof.Machine.execWaittimeCompletion c t s
  | .timeBreakpointMatch c => Sys2Proof.Machine.execTimeBreakpointMatch c s
  | .blockLockLoss q => Sys2Proof.Machine.execBlockLockLoss q s

end Sys2Proof.Machine
end

