-- ==== Sys2Proof/Safety.lean ====
section
/-! DEFINITION. Safety.lean: the terms in which claims about the block are stated: which parts of the state a command may change, what
a control command that completes at issue leaves, and the memories' canonical forms. -/

namespace Sys2Proof.Safety
open Sys2Proof.Machine

/-- The fields of State, as names. -/
inductive Fld where
  | boot
  | time
  | cyc
  | objs
  | blobLen
  | reqs
  | dict
  | cores
  | pavs
  | streams
  | fns
  | pcie
  | mem
  | mmeta
  | org
  | arb
  | net
  | ports
  | link
  | power
  | energy
  | integ
  | log
  | fw
  | tally
  | out
  | free
  | pending
deriving DecidableEq, Repr

/-- `t` is `s` but for the fields that `l` names: the frame of a command. -/
structure Only (l : List Fld) (s t : State) : Prop where
  boot : Fld.boot ∈ l ∨ t.boot = s.boot
  time : Fld.time ∈ l ∨ t.time = s.time
  cyc : Fld.cyc ∈ l ∨ t.cyc = s.cyc
  objs : Fld.objs ∈ l ∨ t.objs = s.objs
  blobLen : Fld.blobLen ∈ l ∨ t.blobLen = s.blobLen
  reqs : Fld.reqs ∈ l ∨ t.reqs = s.reqs
  dict : Fld.dict ∈ l ∨ t.dict = s.dict
  cores : Fld.cores ∈ l ∨ t.cores = s.cores
  pavs : Fld.pavs ∈ l ∨ t.pavs = s.pavs
  streams : Fld.streams ∈ l ∨ t.streams = s.streams
  fns : Fld.fns ∈ l ∨ t.fns = s.fns
  pcie : Fld.pcie ∈ l ∨ t.pcie = s.pcie
  mem : Fld.mem ∈ l ∨ t.mem = s.mem
  mmeta : Fld.mmeta ∈ l ∨ t.mmeta = s.mmeta
  org : Fld.org ∈ l ∨ t.org = s.org
  arb : Fld.arb ∈ l ∨ t.arb = s.arb
  net : Fld.net ∈ l ∨ t.net = s.net
  ports : Fld.ports ∈ l ∨ t.ports = s.ports
  link : Fld.link ∈ l ∨ t.link = s.link
  power : Fld.power ∈ l ∨ t.power = s.power
  energy : Fld.energy ∈ l ∨ t.energy = s.energy
  integ : Fld.integ ∈ l ∨ t.integ = s.integ
  log : Fld.log ∈ l ∨ t.log = s.log
  fw : Fld.fw ∈ l ∨ t.fw = s.fw
  tally : Fld.tally ∈ l ∨ t.tally = s.tally
  out : Fld.out ∈ l ∨ t.out = s.out
  free : Fld.free ∈ l ∨ t.free = s.free
  pending : Fld.pending ∈ l ∨ t.pending = s.pending

/-- No core but `n` changes. -/
def OtherCores (n : Nat) (s t : State) : Prop := ∀ m, m ≠ n → t.core m = s.core m

/-- No Pavilion but `p` changes. -/
def OtherPavs (p : Nat) (s t : State) : Prop := ∀ q, q ≠ p → t.pav q = s.pav q

/-- No port but `q` changes. -/
def OtherPorts (q : Nat) (s t : State) : Prop := ∀ r, r ≠ q → t.port r = s.port r

/-- A core without its streams and debug state, and without the mark of a halt that begins: what no control flow touches. -/
def still (c : Core) : Core := { c with sa := {}, sx := {}, dbg := {}, ctl := { c.ctl with drain := .none } }

/-- The other stream. -/
def other (t : Strm) : Strm := match t with | .access => .exec | .exec => .access

/-- Stream `t` of core `n` can issue the command `d` with `ext` extension words: the core clock runs, the stream may issue, fetch answers
the word, no ADDRESS breakpoint stands at it, and it passes the checks of its encoding (05 R138). -/
structure Offers (s : State) (n : Nat) (t : Strm) (d : Dec) (ext : Nat) : Prop where
  clock : s.power.clockOn = true
  can : (s.core n).canIssue t = true
  word : ((s.core n).fetch t).1 = .word d ext
  bp : ((s.core n).strm t).resumed = true ∨
    (s.core n).bpMask (fun _ b => b.kind = 0 && b.mtch.toNat = ((s.core n).strm t).pc) = 0
  legal : decodeCheck (s.core n).ctl.split t d = 0

/-- A stream without the lines its fetch unit holds and its single-step marks; a stalled word is fetched again (04 R109, R123). -/
def seen (v : StreamSt) : StreamSt := { v.unstall with why := .range, line := none, ahead := none, resumed := false, singled := false }

/-- A stream whose command `d` with `ext` extension words has issued: it stands at the word after it and waits for nothing. -/
def passed (v : StreamSt) (d : Dec) (ext : Nat) : StreamSt := { v with pc := d.addr + 16 * (1 + ext), wait := .none }

/-- Of the cores only `n` changes from `s` to `s'`: its registers, counters, queues, engines, Plot and the rest are those of `k`, its
stream `t` is `v`, and its other stream stands as it stood. -/
structure OnCore (s s' : State) (n : Nat) (t : Strm) (k : Core) (v : StreamSt) : Prop where
  others : OtherCores n s s'
  rest : still (s'.core n) = still k
  own : seen ((s'.core n).strm t) = seen v
  other : seen ((s'.core n).strm (other t)) = seen ((s.core n).strm (other t))

/-- `s'` is `s` after a control command of stream `t` of core `n`: nothing outside the core and the Tally counters changes (05 R138,
Table 5-3). -/
structure Ran (s s' : State) (n : Nat) (t : Strm) (k : Core) (v : StreamSt) : Prop extends OnCore s s' n t k v where
  only : Only [.cores, .tally] s s'

/-- Queue and started commands of each engine of a core: mover, Dice port, Rotunda port, Parterre, Trellis (04 R99). -/
def engs (c : Core) : List (List LongCmd × List LongCmd) := c.engs.map (fun e => (e.queue, e.run.map (·.cmd)))

/-- The copy of the i-th tensor descriptor that a long command names (05 R139, R161). -/
def descCopy (s : State) (n : Nat) (d : Dec) (i : Nat) : Nat :=
  match (descAddrs d)[i]? with
  | some a => leNat (rawBytes ((s.core n).plotBytes a 64))
  | none => 0

/-- The long command `d` for engine `e` passes the checks of its descriptors, read as `x` has them, and of its operands: the descriptors are
aligned, in the Plot, good, legal and not waited for (05 R138, R139). -/
structure Passes (s : State) (n : Nat) (d x : Dec) (e : Eng) : Prop where
  eng : (shapeOf d.op).bind (·.eng) = some e
  desc : ∀ a ∈ descAddrs d, a % 64 = 0 ∧ inPlot a 64 = true ∧ (s.core n).lineCond (a / 64) = 0 ∧ (s.core n).descBlocked a = false ∧
    descIllegal (leNat (rawBytes ((s.core n).plotBytes a 64))) = false
  copy : x = { d with d1 := descCopy s n d 0, d2 := descCopy s n d 1 }
  legal : (s.operandCheck n x).ill = false ∧ (s.operandCheck n x).bnd = false

/-- Core `n` takes the long command `d` into the queue of engine `e`: it passes, tags and all, and queue and scoreboard have room (04 R99,
R109; 05 R138; 22 R594). -/
structure Accepts (s : State) (n : Nat) (d x : Dec) (e : Eng) : Prop extends Passes s n d x e where
  tags : (s.core n).tagBad (s.operandCheck n x) = false
  room : (s.core n).mustStall e (s.operandCheck n x).rngs = false

/-- `l` is the long command `x` of stream `t` as it leaves issue, with the operand ranges `rs` (05 R139). -/
structure Carries (l : LongCmd) (t : Strm) (x : Dec) (rs : List Rng) : Prop where
  op : l.op = x.op
  strm : l.strm = t
  addr : l.addr = x.addr
  w0 : l.w0 = BitVec.ofNat 128 x.w
  x1 : l.x1 = BitVec.ofNat 128 x.x1
  x2 : l.x2 = BitVec.ofNat 128 x.x2
  operands : l.a = x.a ∧ l.b = x.b ∧ l.c = x.c
  descs : l.desc1 = x.d1 ∧ l.desc2 = x.d2
  rngs : l.rngs = rs

/-- The local count runs at the rate of its oscillator: PWRGOOD stands and LINK_REFCLK runs, no offset is slewed, no trim applies (02 R33, R34,
R47, R49; 23 R610). -/
structure Steady (s : State) : Prop where
  power : s.boot.pwrgood = true
  clock : bit s.boot.clk 1 = false
  offset : s.time.offset = none
  rate : s.time.rate = 0
  frac : s.time.trimFrac = 0

/-- The canonical form of every byte memory: the tiers', and each core's Plot (09 R240, 10 R270). -/
def MemOk (s : State) : Prop := Mem.wf s.mem = true ∧ ∀ r ∈ s.cores, Mem.wf r.2.plot.bytes = true

/-- Requester `who` is answered at once: it is live, the boot has passed milestone 2, Machenil is up, no hand-over is in progress, and no
request waits; no reset of a VF's Pavilion
is under way (03 R90; 15 R422; 19 R527, R528; 20 R544, R557). -/
structure Serves (s : State) (who : Requester) : Prop where
  live : s.live who = true
  phase : 2 ≤ s.boot.phase
  up : s.fw.down = false
  still : s.boot.handover = false
  first : s.dict.queue = []
  path : s.vfResetting who.ix = false

/-- A write of `len` bytes of value `v` to an object of numbers is answered at once and passes the checks of type, role, access, chip state,
size and range (03 R68 to R74). -/
structure Takes (s : State) (who : Requester) (i sub len v : Nat) : Prop where
  serves : Serves s who
  check : ∃ o, s.writeOk who i sub none = .ok o ∧ tyBytes o.ty = false ∧ len = tySize o.ty ∧ o.inRange (v % 256 ^ len) = true

/-- A read of an object is answered at once and passes the checks of a read (03 R68 to R74). -/
structure Gives (s : State) (who : Requester) (i sub : Nat) : Prop where
  serves : Serves s who
  check : ∃ o, s.readOk who i sub 0 = .ok o

/-- An object that no unit's rules change: a checked value is stored, and that is all (03 R69). -/
def Plain (who : Requester) (i sub v : Nat) : Prop := ∀ t : State, t.applyWrite who i sub v = (stOk, t.setObj i sub v)

/-- A read of an object of at most 32 bits is answered at once with `v`. -/
structure Reads (s : State) (who : Requester) (i sub v : Nat) : Prop where
  serves : Serves s who
  check : ∃ o, s.readOk who i sub 0 = .ok o ∧ tyBytes o.ty = false ∧ tyWide o.ty = false
  value : s.value who i sub = .ok v

/-- A read of an object of 64 bits is answered at once with `v`. -/
structure ReadsWide (s : State) (who : Requester) (i sub v : Nat) : Prop where
  serves : Serves s who
  check : ∃ o, s.readOk who i sub 0 = .ok o ∧ tyWide o.ty = true
  value : s.value who i sub = .ok v

/-- The answer of a request is the one message the block sends. -/
def Answered (s t : State) (who : Requester) (status data : Nat) : Prop := t.out = s.out ++ [.resp who status data]

/-- The answer of a request is the last message the block sends. -/
def Replied (s t : State) (who : Requester) (status data : Nat) : Prop := ∃ l, t.out = s.out ++ l ++ [.resp who status data]

/-- The instance number of plan `k` once its present instance has concluded: one more, or 0 where a plan waits to take effect (14 R386, R399). -/
def countAfter (s : State) (p k : Nat) : Nat :=
  if (Sparse.find (s.pav p).rot.staged k).isSome then 0 else (s.instCount p k + 1) % 2 ^ 32

/-- A core after steps 2 to 5 of a reset: Plot, counters, windows, queues, registers, streams, engines, held arrivals, map buffer and
breakpoints are as after a cold reset (15 R422). -/
structure Cleared (c : Core) : Prop where
  plot : c.plot = {}
  ctl : c.ctl.split = false ∧ c.ctl.stepNum = 0 ∧ c.ctl.stepState = 1 ∧ c.ctl.fault = 0 ∧ c.ctl.sregs = [] ∧ c.ctl.drain = .none
  streams : c.sa = {} ∧ c.sx = {}
  own : c.cnts = [] ∧ c.wins = [] ∧ c.qs = [] ∧ c.pbuf = []
  map : c.map.entries = [] ∧ c.map.walk = none
  engines : ∀ e ∈ engs c, e = ([], [])
  bps : c.dbg.bps = []

end Sys2Proof.Safety

namespace Sys2Proof.Machine

/-- The state in which a command that stream `t` offers runs: its fetch unit holds the fetched lines (04 R123). -/
def State.fetched (s : State) (n : Nat) (t : Strm) : State := s.setCore n ((s.core n).setStrm t ((s.core n).fetch t).2)

end Sys2Proof.Machine
end

