-- ==== Sys2Proof/Certificates/Slice0/Obligations.lean ====
section
/-! DEFINITION. Obligations.lean: what is claimed of the model, for the provers. -/

open Sys2Proof Sys2Proof.Machine Sys2Proof.Safety

/-! ### The queue -/

/-- The next step runs the command at the front of the queue, with the rest of the queue waiting; an empty queue lets one nanosecond
pass (log 9, the model's choice). No command stops the block: in every state each one is answered by a next state, for whatever goes wrong the
manual turns into state (04 R120, 10 R283, 19 R524). -/
def Obligations.StepRunsFront : Prop :=
  (∀ (c : Instr) (q : List Instr) (s : State), step { s with pending := c :: q } = exec c { s with pending := q }) ∧
  (∀ s : State, s.pending = [] → step s = .next s.tick) ∧
  ∀ (c : Instr) (s : State), ∃ s', exec c s = .next s'

/-! ### Control commands (04, 05) -/

/-- SETR writes its immediate, SALU the result of its operation, NOP nothing; each ends at the word after it, with the stream's flags as
they were (05 R141, Table 5-3). Register s0 takes no value, and a written register reads as written (04 R100, R104). BRANCH goes to OPA
where its condition holds and LOOP while the register it has decreased is not 0; either target that is not a multiple of 16 faults
ILLEGAL_OP at issue, and a BRANCH target outside the Plot faults PLOT_BOUNDS (05 Table 5-3, R136, R160; 04 Table 4-2). -/
def Obligations.ScalarAndBranchCommands : Prop :=
  ((∀ (s : State) (n : CoreIx) (t : Strm) (d : Dec) (ext : Nat), Offers s n t d ext →
    (d.op = 0x11 → ∃ s', exec (.setr n t) s = .next s' ∧
      Ran s s' n t ((s.core n).setSreg t (d.m 4 0) (BitVec.ofNat 32 d.x1)) (passed ((s.core n).strm t) d ext)) ∧
    (d.op = 0x12 → ∃ s', exec (.salu n t) s = .next s' ∧
      Ran s s' n t ((s.core n).setSreg t (d.m 8 4) (saluResult (d.m 3 0) ((s.core n).sreg t (d.m 13 9)) (BitVec.ofNat 32 d.a)))
        (passed ((s.core n).strm t) d ext)) ∧
    (d.op = 0x13 → ∃ s', exec (.nop n t) s = .next s' ∧ Ran s s' n t (s.core n) (passed ((s.core n).strm t) d ext))) ∧
  (∀ (c : Core) (t : Strm) (r q : Nat) (v : Word), (c.setSreg t r v).sreg t q = if r = q ∧ r ≠ 0 then v else c.sreg t q) ∧
  (∀ x y : Word, saluResult 0 x y = x + y ∧ saluResult 1 x y = x - y ∧ saluResult 5 x y = x <<< (y.toNat % 32) ∧
    saluResult 7 x y = x.sshiftRight (y.toNat % 32) ∧ saluResult 8 x y = x * y ∧
    (saluResult 9 x y).toNat = min x.toNat y.toNat ∧ (saluResult 10 x y).toNat = max x.toNat y.toNat)) ∧
  ∀ (s : State) (n : CoreIx) (t : Strm) (d : Dec) (ext : Nat), Offers s n t d ext →
    (d.op = 0x02 → d.a % 16 = 0 → inPlot d.a 16 = true → ∃ s', exec (.branch n t) s = .next s' ∧
      Ran s s' n t (s.core n)
        (if branchTaken ((s.core n).strm t).flags (d.m 3 0) ((s.core n).sreg t (d.m 8 4)) ((s.core n).sreg t (d.m 13 9)) then
          { passed ((s.core n).strm t) d ext with pc := d.a } else passed ((s.core n).strm t) d ext)) ∧
    (d.op = 0x03 → d.a % 16 = 0 → ∃ s', exec (.loop n t) s = .next s' ∧
      Ran s s' n t ((s.core n).setSreg t (d.m 4 0) ((s.core n).sreg t (d.m 4 0) - 1))
        (if (s.core n).sreg t (d.m 4 0) = 1 then passed ((s.core n).strm t) d ext
          else { passed ((s.core n).strm t) d ext with pc := d.a })) ∧
    (d.op = 0x02 ∨ d.op = 0x03 → d.a % 16 ≠ 0 →
      exec (if d.op = 0x02 then .branch n t else .loop n t) s = .next ((s.fetched n t).coreFault n t d.addr illegalOp)) ∧
    (d.op = 0x02 → d.a % 16 = 0 → inPlot d.a 16 = false → exec (.branch n t) s = .next ((s.fetched n t).coreFault n t d.addr plotBounds))

/-- SETCNT sets its counter or subtracts from it. WAITCNT completes with TIMEOUT 0 where the counter has reached its value, else it waits,
with the frame whose start ends it; the counter reaching the value later completes it with TIMEOUT 0, that frame's start with TIMEOUT 1 (04
R117, R118). WAITTIME takes its time from X1 by its base: none, the present frame's start, or the stream's last target (the present frame's
start where it has none). A target that is not ahead completes at once, PAST where it is behind; else the stream waits, and completes when
the count reaches the target, and the events of Table 2-3 that come before it have taken effect, with PAST 0 and STEPPED by R55; a halt of
the target's own cycle does not hold it off (05 R145; 02 R52, R54, R55). -/
def Obligations.CountersAndTimeWaits : Prop :=
  ((∀ (s : State) (n : CoreIx) (t : Strm) (d : Dec) (ext : Nat), Offers s n t d ext →
    (d.op = 0x05 → ∃ s', exec (.setcnt n t) s = .next s' ∧
      Ran s s' n t { s.core n with
          cnts := Sparse.put (s.core n).cnts (d.m 5 0)
            (if d.m 6 6 = 1 then (s.core n).cnt (d.m 5 0) - BitVec.ofNat 32 d.a else BitVec.ofNat 32 d.a) }
        (passed ((s.core n).strm t) d ext)) ∧
    (d.op = 0x04 → ∃ s', exec (.waitcnt n t) s = .next s' ∧
      Ran s s' n t (s.core n) (if cntReached ((s.core n).cnt (d.m 5 0)) (BitVec.ofNat 32 d.a)
        then { passed ((s.core n).strm t) d ext with flags := { ((s.core n).strm t).flags with timeout := false } }
        else { passed ((s.core n).strm t) d ext with
          wait := .cnt (d.m 5 0) (BitVec.ofNat 32 d.a) (d.m 21 6) (s.frame + d.m 21 6) }))) ∧
  ∀ (s : State) (n : CoreIx) (t : Strm) (k limit due : Nat) (v : Word), ((s.core n).strm t).wait = .cnt k v limit due →
    (s.core n).live t = true →
    (cntReached ((s.core n).cnt k) v = true → s.power.clockOn = true → ∃ s', exec (.waitcntSatisfied n t) s = .next s' ∧
      Ran s s' n t (s.core n) { (s.core n).strm t with
        wait := .none, flags := { ((s.core n).strm t).flags with timeout := false } }) ∧
    (cntReached ((s.core n).cnt k) v = false → limit ≠ 0 → s.power.clockOn = true → ∃ s', exec (.waitcntTimeout n t) s = .next s' ∧
      Only [.time, .cyc, .pavs, .cores, .tally] s s' ∧
      OnCore s s' n t (s.core n) { (s.core n).strm t with
        wait := .none, flags := { ((s.core n).strm t).flags with timeout := true } })) ∧
  (∀ (s : State) (n : CoreIx) (t : Strm) (d : Dec) (ext target : Nat), Offers s n t d ext → d.op = 0x06 →
    target = d.x1 + (match d.m 1 0 with
      | 0 => 0
      | 1 => 250000 * s.frame
      | _ => ((s.core n).strm t).prevTarget.getD (250000 * s.frame)) →
    ∃ s', exec (.waittime n t) s = .next s' ∧
      Ran s s' n t (s.core n) (if target ≤ s.time.now
        then { passed ((s.core n).strm t) d ext with
          prevTarget := some target,
          flags := { ((s.core n).strm t).flags with
            past := decide (target < s.time.now), timeFree := decide (s.time.st = 0), holdover := decide (s.time.st = 1),
            stepped := false } }
        else { passed ((s.core n).strm t) d ext with prevTarget := some target, wait := .time target })) ∧
  ∀ (s : State) (n : CoreIx) (t : Strm) (target : Nat), s.power.clockOn = true → (s.core n).timeWait t = some target →
    s.turn { at_ := target, rank := 6, pav := (s.owner n).getD 16, core := n } = true →
    ∃ s', exec (.waittimeCompletion n t) s = .next s' ∧ Only [.time, .cyc, .pavs, .cores, .tally] s s' ∧
      OnCore s s' n t (s.core n) { (s.core n).strm t with
        wait := .none,
        flags := { ((s.core n).strm t).flags with
          past := false, timeFree := decide (s'.time.st = 0), holdover := decide (s'.time.st = 1),
          stepped := s'.steppedPast target } } ∧
      (Steady s → target ≤ s'.time.now)

/-- A STEP of an undivided core with nothing in flight closes its step and opens step OPA at the word after it; with a command in flight it
waits, and STEP_DRAIN_COMPLETE opens the step when nothing is in flight any more. Opening a step makes it OPEN with OOB 0 (04 R119; 05
R142). A FENCE passes where no command of its stream is in flight, else it waits until none is (05 R146). MAPINV waits, and at its
completion the named map buffers lose the named entries and no other (05 R147). -/
def Obligations.StepAndFenceCommands : Prop :=
  ((∀ (s : State) (n : CoreIx) (d : Dec) (ext : Nat), Offers s n .access d ext → d.op = 0x07 → (s.core n).ctl.split = false →
    ((s.core n).flights = [] → ∃ s', exec (.step n .access) s = .next s' ∧
      Ran s s' n .access { s.core n with
          ctl := { (s.core n).ctl with stepNum := BitVec.ofNat 32 d.a, stepState := 0, stepAddr := d.addr + 16 * (1 + ext) } }
        { passed (s.core n).sa d ext with flags := { (s.core n).sa.flags with oob := false } }) ∧
    ((s.core n).flights ≠ [] → ∃ s', exec (.step n .access) s = .next s' ∧
      Ran s s' n .access (s.core n) { passed (s.core n).sa d ext with wait := .step (BitVec.ofNat 32 d.a) })) ∧
  ∀ (s : State) (n : CoreIx) (v : Word), (s.core n).stepDue = some v → (s.core n).live .access = true → (s.core n).flights = [] →
    s.power.clockOn = true → ∃ s', exec (.stepDrainComplete n) s = .next s' ∧ Only [.cores, .tally] s s' ∧ OtherCores n s s' ∧
      still (s'.core n) = still { s.core n with
        ctl := { (s.core n).ctl with
          stepNum := v, stepState := 0,
          stepAddr := if (s.core n).ctl.split then (s.core n).sa.pc * 2 ^ 32 + (s.core n).sx.pc else (s.core n).sa.pc } } ∧
      seen (s'.core n).sa = seen { (s.core n).sa with wait := .none, flags := { (s.core n).sa.flags with oob := false } } ∧
      seen (s'.core n).sx = seen { (s.core n).sx with
        wait := if (s.core n).ctl.split then .none else (s.core n).sx.wait, flags := { (s.core n).sx.flags with oob := false } }) ∧
  (∀ (s : State) (n : CoreIx) (t : Strm) (d : Dec) (ext : Nat), Offers s n t d ext →
    (d.op = 0x08 → ∃ s', exec (.fence n t) s = .next s' ∧
      Ran s s' n t (s.core n) { passed ((s.core n).strm t) d ext with
        wait := if (s.core n).flightsOf t = [] then .none else .fence }) ∧
    (d.op = 0x09 → ∃ s', exec (.mapinv n t) s = .next s' ∧
      Ran s s' n t (s.core n) { passed ((s.core n).strm t) d ext with
        wait := .mapinv (d.m 2 2 = 1) (d.m 1 0 = 1) (bits d.x1 47 0) })) ∧
  (∀ (s : State) (n : CoreIx) (t : Strm), ((s.core n).strm t).wait = .fence → (s.core n).live t = true → (s.core n).flightsOf t = [] →
    s.power.clockOn = true → ∃ s', exec (.fenceComplete n t) s = .next s' ∧ Ran s s' n t (s.core n) { (s.core n).strm t with wait := .none }) ∧
  ∀ (s : State) (n : CoreIx) (t : Strm) (all one : Bool) (a : Nat) (named : List Nat), ((s.core n).strm t).wait = .mapinv all one a →
    (s.core n).live t = true →
    named = (if all then (match s.owner n with | some p => s.coresOf p | none => [n.val]) else [n.val]) →
    s.power.clockOn = true → ∃ s', exec (.mapinvComplete n t) s = .next s' ∧ Only [.cores, .tally] s s' ∧
      seen ((s'.core n).strm t) = seen { (s.core n).strm t with wait := .none } ∧
      (∀ m, m ≠ n.val → m ∉ named → s'.core m = s.core m) ∧
      (∀ m ∈ named, ∀ k e, (k, e) ∈ (s'.core m).map.entries ↔
        (k, e) ∈ (s.core m).map.entries ∧ one = true ∧ ¬(e.va ≤ a ∧ a < e.va + e.size))

/-- REGION and QCONF take effect at once where no access in flight and no blocked QPOP stands in the way, else they wait and take effect
when none does (04 R106, R110). A window set to TAGGED has all its tags at the initial value, and no other slot's tag changes (R112). -/
def Obligations.RegionsAndQueueSetup : Prop :=
  (∀ (s : State) (n : CoreIx) (t : Strm) (d : Dec) (ext : Nat), Offers s n t d ext →
    (d.op = 0x0B → (d.m 5 5 = 1 → d.a % 256 = 0 ∧ d.b ≠ 0 ∧ d.b % 256 = 0 ∧ inPlot d.a d.b = true) →
      ∃ s', exec (.region n t) s = .next s' ∧
        (if (s.core n).regionBusy (d.m 2 0) (d.m 5 5 = 1) d.a d.b then
          Ran s s' n t (s.core n) { passed ((s.core n).strm t) d ext with
            wait := .region (d.m 2 0) (d.m 5 5 = 1) (d.m 4 4 = 1) (d.m 3 3 = 1) d.a d.b }
        else
          Ran s s' n t ((s.core n).region (d.m 2 0) (d.m 5 5 = 1) (d.m 4 4 = 1) (d.m 3 3 = 1) d.a d.b)
            (passed ((s.core n).strm t) d ext))) ∧
    (d.op = 0x0C → d.a % 256 = 0 → inPlot d.a (16 * (d.m 10 3 + 1)) = true → ∃ s', exec (.qconf n t) s = .next s' ∧
      (if (s.core n).popBlocked (d.m 2 0) then
        Ran s s' n t (s.core n) { passed ((s.core n).strm t) d ext with wait := .qconf (d.m 2 0) d.a (d.m 10 3 + 1) }
      else
        Ran s s' n t { s.core n with
            qs := Sparse.put (s.core n).qs (d.m 2 0) { base := d.a, depth := d.m 10 3 + 1, head := 0, count := 0 } }
          (passed ((s.core n).strm t) d ext)))) ∧
  (∀ (s : State) (n : CoreIx) (t : Strm) (w b z : Nat) (en full tg : Bool), ((s.core n).strm t).wait = .region w en full tg b z →
    (s.core n).live t = true → (s.core n).regionBusy w en b z = false → s.power.clockOn = true → ∃ s', exec (.regionEffect n t) s = .next s' ∧
      Ran s s' n t ((s.core n).region w en full tg b z) { (s.core n).strm t with wait := .none }) ∧
  (∀ (s : State) (n : CoreIx) (t : Strm) (q b z : Nat), ((s.core n).strm t).wait = .qconf q b z →
    (s.core n).live t = true → (s.core n).popBlocked q = false → s.power.clockOn = true → ∃ s', exec (.qconfEffect n t) s = .next s' ∧
      Ran s s' n t { s.core n with qs := Sparse.put (s.core n).qs q { base := b, depth := z, head := 0, count := 0 } }
        { (s.core n).strm t with wait := .none }) ∧
  ∀ (c : Core) (w b z slot : Nat) (full tg : Bool),
    Sparse.find (c.region w true full tg b z).wins w = some { base := b, size := z, tagged := tg } ∧
    (c.region w true full tg b z).tag slot = (if tg && decide (slot ∈ slotsOf b z) then full else c.tag slot) ∧
    (c.region w true full tg b z).plot.bytes = c.plot.bytes ∧
    c.region w false full tg b z = { c with wins := Sparse.del c.wins w } ∧
    ∀ v, Sparse.find (c.region w false full tg b z).wins v = if v = w then none else Sparse.find c.wins v

/-- QPUSH appends its entry at the tail of its ring: two registers, OPA and OPB as little-endian words, the counter it names
counting one arrival; a ring in a TAGGED window faults TAG_ALIGN, a queue not configured QUEUE_CONF. QPOP takes the
head entry's first two words into its registers; with the queue empty it waits (04 R106, R107; 05 R143). Bytes beside the entry keep what a
read of their line finds (09 R241). -/
def Obligations.DataQueues : Prop :=
  (∀ (s : State) (n : CoreIx) (t : Strm) (d : Dec) (ext : Nat) (q : DataQ), Offers s n t d ext → Sparse.find (s.core n).qs (d.m 2 0) = some q →
    (d.op = 0x0D → inPlot d.a d.b = true →
      ((s.core n).pushBlocked t q d.a d.b = false → (s.core n).tagged ((q.base + 16 * ((q.head + q.count) % q.depth)) / 256) = false →
        ∃ s', exec (.qpush n t) s = .next s' ∧ OtherCores n s s' ∧
          Mem.read (s'.core n).plot.bytes (q.base + 16 * ((q.head + q.count) % q.depth)) 16 =
            leBytes 4 ((s.core n).sreg t (d.m 7 3)).toNat ++ leBytes 4 ((s.core n).sreg t (d.m 12 8)).toNat ++ leBytes 4 d.a ++ leBytes 4 d.b ∧
          (∀ a, a < q.base + 16 * ((q.head + q.count) % q.depth) ∨ q.base + 16 * ((q.head + q.count) % q.depth) + 16 ≤ a →
            Mem.byte (s'.core n).plot.bytes a =
              if a / 64 ∈ linesOf (q.base + 16 * ((q.head + q.count) % q.depth)) 16 then (s.core n).byteSeen a
              else Mem.byte (s.core n).plot.bytes a) ∧
          Sparse.find (s'.core n).qs (d.m 2 0) = some { q with count := q.count + 1 } ∧ (s'.core n).ctl.sregs = (s.core n).ctl.sregs ∧
          ((s'.core n).strm t).pc = d.addr + 16 * (1 + ext) ∧
          (q.base % 16 = 0 → ∀ k, (s'.core n).cnt k = if cntOf d.w = some k then (s.core n).cnt k + 1 else (s.core n).cnt k)) ∧
      ((s.core n).pushBlocked t q d.a d.b = false → (s.core n).tagged ((q.base + 16 * ((q.head + q.count) % q.depth)) / 256) = true →
        ∃ s', exec (.qpush n t) s = .next s' ∧ OtherCores n s s' ∧ (s'.core n).ctl.fault = tagAlign + 256 * b2n (t = .exec) ∧
          (s'.core n).ctl.faultAddr = d.addr ∧ (s'.core n).ctl.drain = .fault ∧ (s'.core n).plot = (s.core n).plot ∧
          (s'.core n).qs = (s.core n).qs) ∧
      ((s.core n).pushBlocked t q d.a d.b = true → ∃ s', exec (.qpush n t) s = .next s' ∧
        Ran s s' n t (s.core n) { passed ((s.core n).strm t) d ext with
          wait := .qpush (d.m 2 0) ((s.core n).sreg t (d.m 7 3)) ((s.core n).sreg t (d.m 12 8)) d.a d.b (cntOf d.w) })) ∧
    (d.op = 0x0E →
      (q.count = 0 → ∃ s', exec (.qpop n t) s = .next s' ∧
        Ran s s' n t (s.core n) { passed ((s.core n).strm t) d ext with wait := .qpop (d.m 2 0) (d.m 7 3) (d.m 12 8) }) ∧
      (q.count ≠ 0 → (∀ l ∈ linesOf (q.base + 16 * q.head) 8, (s.core n).lineCond l = 0) → ∃ s', exec (.qpop n t) s = .next s' ∧
        Ran s s' n t
          (({ s.core n with qs := Sparse.put (s.core n).qs (d.m 2 0) { q with head := (q.head + 1) % q.depth, count := q.count - 1 } }.setSreg t
              (d.m 7 3) (BitVec.ofNat 32 (leNat (rawBytes ((s.core n).plotBytes (q.base + 16 * q.head) 4))))).setSreg t
            (d.m 12 8) (BitVec.ofNat 32 (leNat (rawBytes ((s.core n).plotBytes (q.base + 16 * q.head + 4) 4)))))
          (passed ((s.core n).strm t) d ext)))) ∧
  (∀ (s : State) (n : CoreIx) (t : Strm) (d : Dec) (ext : Nat), Offers s n t d ext → Sparse.find (s.core n).qs (d.m 2 0) = none →
    (d.op = 0x0D → inPlot d.a d.b = true → exec (.qpush n t) s = .next ((s.fetched n t).coreFault n t d.addr queueConf)) ∧
    (d.op = 0x0E → exec (.qpop n t) s = .next ((s.fetched n t).coreFault n t d.addr queueConf))) ∧
  (∀ (s : State) (n : CoreIx) (t : Strm) (qi base len : Nat) (a b : Word) (cnt : Option Nat) (q : DataQ),
    ((s.core n).strm t).wait = .qpush qi a b base len cnt → Sparse.find (s.core n).qs qi = some q → (s.core n).live t = true →
    (s.core n).pushBlocked t q base len = false → (s.core n).tagged ((q.base + 16 * ((q.head + q.count) % q.depth)) / 256) = false →
    s.power.clockOn = true → ∃ s', exec (.qpushResume n t) s = .next s' ∧ OtherCores n s s' ∧
      Mem.read (s'.core n).plot.bytes (q.base + 16 * ((q.head + q.count) % q.depth)) 16 =
        leBytes 4 a.toNat ++ leBytes 4 b.toNat ++ leBytes 4 base ++ leBytes 4 len ∧
      Sparse.find (s'.core n).qs qi = some { q with count := q.count + 1 } ∧ (s'.core n).ctl.sregs = (s.core n).ctl.sregs) ∧
  ∀ (s : State) (n : CoreIx) (t : Strm) (qi dr er : Nat) (q : DataQ), ((s.core n).strm t).wait = .qpop qi dr er →
    Sparse.find (s.core n).qs qi = some q → (s.core n).live t = true → q.count ≠ 0 →
    (∀ l ∈ linesOf (q.base + 16 * q.head) 8, (s.core n).lineCond l = 0) → s.power.clockOn = true → ∃ s', exec (.qpopResume n t) s = .next s' ∧
      Ran s s' n t
        (({ s.core n with qs := Sparse.put (s.core n).qs qi { q with head := (q.head + 1) % q.depth, count := q.count - 1 } }.setSreg t
            dr (BitVec.ofNat 32 (leNat (rawBytes ((s.core n).plotBytes (q.base + 16 * q.head) 4))))).setSreg t
          er (BitVec.ofNat 32 (leNat (rawBytes ((s.core n).plotBytes (q.base + 16 * q.head + 4) 4)))))
        { (s.core n).strm t with wait := .none }

/-- FORK makes the core SPLIT and starts the execute stream at OPA with its flags 0; a JOIN waits for the other stream's, and where both stand at
JOIN the core is UNIFIED again and goes on after the access stream's (04 R105). -/
def Obligations.ForkAndJoin : Prop :=
  (∀ (s : State) (n : CoreIx) (d : Dec) (ext : Nat), Offers s n .access d ext → d.op = 0x0F → d.a % 16 = 0 →
    ∃ s', exec (.fork n .access) s = .next s' ∧ Only [.cores, .tally] s s' ∧ OtherCores n s s' ∧
      still (s'.core n) = still { s.core n with ctl := { (s.core n).ctl with split := true } } ∧
      seen (s'.core n).sa = seen (passed (s.core n).sa d ext) ∧ seen (s'.core n).sx = seen { present := true, pc := d.a }) ∧
  (∀ (s : State) (n : CoreIx) (t : Strm) (d : Dec) (ext : Nat), Offers s n t d ext → d.op = 0x10 →
    ((s.core n).strm (other t)).wait ≠ .join → ∃ s', exec (.join n t) s = .next s' ∧
      Ran s s' n t (s.core n) { passed ((s.core n).strm t) d ext with wait := .join }) ∧
  (∀ (s : State) (n : CoreIx) (t : Strm) (d : Dec) (ext : Nat), Offers s n t d ext → d.op = 0x10 →
    ((s.core n).strm (other t)).wait = .join → ∃ s', exec (.join n t) s = .next s' ∧ Only [.cores, .tally] s s' ∧ OtherCores n s s' ∧
      still (s'.core n) = still { s.core n with ctl := { (s.core n).ctl with split := false } } ∧
      seen (s'.core n).sa = seen (match t with
        | .access => passed (s.core n).sa d ext
        | .exec => { (s.core n).sa with wait := .none }) ∧ seen (s'.core n).sx = seen {}) ∧
  ∀ (s : State) (n : CoreIx), (s.core n).sa.wait = .join → (s.core n).sx.wait = .join → (s.core n).live .access = true →
    s.power.clockOn = true → ∃ s', exec (.joinMeet n) s = .next s' ∧ Only [.cores, .tally] s s' ∧ OtherCores n s s' ∧
      still (s'.core n) = still { s.core n with ctl := { (s.core n).ctl with split := false } } ∧
      seen (s'.core n).sa = seen { (s.core n).sa with wait := .none } ∧ seen (s'.core n).sx = seen {}

/-- END waits for its stream's earlier commands; without any, an undivided core goes IDLE or, chained, starts its next list, and NOTIFY
marks its LIST_DONE_MAP bit and cause. END_COMPLETE does the same once nothing is in flight; in SPLIT the first stream to end waits for
the other (04 R102, 05 R144). -/
def Obligations.ListEnds : Prop :=
  (∀ (s : State) (n : CoreIx) (t : Strm) (d : Dec) (ext : Nat), Offers s n t d ext → d.op = 0x01 →
    (d.m 0 0 = 1 → d.a % 16 = 0 ∧ inPlot d.a 16 = true) → (d.m 1 0 = 3 → d.b % 16 = 0 ∧ inPlot d.b 16 = true) →
    ((s.core n).flightsOf t ≠ [] → ∃ s', exec (.endCmd n t) s = .next s' ∧
      Ran s s' n t (s.core n) { passed ((s.core n).strm t) d ext with
        wait := .endw (d.m 0 0 = 1) (d.m 0 0 = 1 && d.m 1 1 = 1) (d.m 2 2 = 1) d.a d.b }) ∧
    ((s.core n).flightsOf t = [] → (s.core n).ctl.split = false → t = .access → (s.core n).fence.st = 0 → (s.core n).pint.fenced = 0 →
      (∀ a b c d e, (s.core n).sx.wait ≠ .ended a b c d e) →
      ∃ s', exec (.endCmd n t) s = .next s' ∧ Only [.cores, .tally, .fns, .out] s s' ∧ OtherCores n s s' ∧
        (s'.core n).plot = (s.core n).plot ∧ (s'.core n).cnts = (s.core n).cnts ∧ (s'.core n).ctl.sregs = (s.core n).ctl.sregs ∧
        (d.m 0 0 = 0 → (s'.core n).ctl.st = .idle ∧ (s'.core n).sa.present = false) ∧
        (d.m 0 0 = 1 → (s'.core n).ctl.st = .run ∧ (s'.core n).sa.present = true ∧ (s'.core n).sa.pc = d.a ∧
          (s'.core n).ctl.split = decide (d.m 1 1 = 1) ∧ (s'.core n).ctl.stepState = 0 ∧ (d.m 1 1 = 1 → (s'.core n).sx.pc = d.b)) ∧
        (∀ p, d.m 2 2 = 1 → s.owner n = some p → bit (s'.fn (p + 1)).listMap n = true ∧ bit (s'.fn (p + 1)).pending 0 = true) ∧
        (d.m 2 2 = 0 → s'.fns = s.fns))) ∧
  ∀ (s : State) (n : CoreIx) (t : Strm) (ch cs no : Bool) (a b : Nat), ((s.core n).strm t).wait = .endw ch cs no a b →
    (s.core n).live t = true → (s.core n).flightsOf t = [] →
    ((s.core n).ctl.split = true → (∀ a b c d e, ((s.core n).strm (other t)).wait ≠ .ended a b c d e) →
      s.power.clockOn = true → ∃ s', exec (.endComplete n t) s = .next s' ∧ Ran s s' n t (s.core n) { (s.core n).strm t with wait := .ended ch cs no a b }) ∧
    ((s.core n).ctl.split = false → (∀ a b c d e, ((s.core n).strm (other t)).wait ≠ .ended a b c d e) →
      (s.core n).fence.st = 0 → (s.core n).pint.fenced = 0 →
      s.power.clockOn = true → ∃ s', exec (.endComplete n t) s = .next s' ∧ Only [.cores, .tally, .fns, .out] s s' ∧ OtherCores n s s' ∧
        (ch = false → (s'.core n).ctl.st = .idle ∧ (s'.core n).sa.present = false) ∧
        (ch = true → (s'.core n).ctl.st = .run ∧ (s'.core n).sa.pc = a ∧ (s'.core n).ctl.split = cs) ∧
        (∀ p, no = true → s.owner n = some p → bit (s'.fn (p + 1)).listMap n = true ∧ bit (s'.fn (p + 1)).pending 0 = true))

/-- A start request with aligned addresses inside the Plot to a usable core of an ACTIVE Pavilion that runs nothing starts its list: the
core is RUN with its step OPEN and the streams at their addresses, MEM_FAULT is cleared, and registers and counters keep their values. One that
fails a check of 15 R418 changes no core, and is recorded with its reason and raises LIST_REFUSED (04 R101; 15 R418, R419). -/
def Obligations.StartRequests : Prop :=
  ∀ (s : State) (n : CoreIx) (split : Bool) (a b p : Nat), s.owner n = some p →
    (a % 16 = 0 → b % 16 = 0 → a < plotSize → b < plotSize → (split = false → b = 0) → (s.pav p).st = .active → (s.core n).fence.st ≠ 2 →
      (s.core n).fence.coreReset = false → (s.core n).ctl.drain ≠ .reset → (s.core n).ctl.drain ≠ .fault → coreShipped n = false →
      (s.core n).ctl.st = .idle ∨ (s.core n).ctl.st = .faulted →
      s.power.clockOn = true → ∃ s', exec (.startRequest n split a b) s = .next s' ∧ Only [.cores, .tally] s s' ∧ OtherCores n s s' ∧
        (s'.core n).ctl.st = .run ∧ (s'.core n).ctl.split = split ∧ (s'.core n).ctl.stepState = 0 ∧ (s'.core n).sa.present = true ∧
        (s'.core n).sa.pc = a ∧ (s'.core n).sx.present = split ∧ (s'.core n).sx.pc = b ∧ (s'.core n).sa.flags = {} ∧
        (s'.core n).map.memFault = 0 ∧ (s'.core n).ctl.sregs = (s.core n).ctl.sregs ∧ (s'.core n).cnts = (s.core n).cnts ∧
        (s'.core n).plot = (s.core n).plot) ∧
    (∀ r, r ≠ 0 → s.startReason p n false split a b = r → s.power.clockOn = true → ∃ s', exec (.startRequest n split a b) s = .next s' ∧
      Only [.fns, .out] s s' ∧ bits (s'.fn (p + 1)).dbRefusal 7 0 = n.val ∧ bits (s'.fn (p + 1)).dbRefusal 15 8 = r ∧
      bits (s'.fn (p + 1)).dbRefusal 31 16 = min 0xFFFF (bits (s.fn (p + 1)).dbRefusal 31 16 + 1) ∧
      bit (s'.fn (p + 1)).pending 1 = true) ∧
    (a % 16 ≠ 0 → s.startReason p n false split a b = 1) ∧
    (a % 16 = 0 → b = 0 → a < plotSize → (s.pav p).st = .active → (s.core n).fence.st = 0 → (s.core n).fence.coreReset = false →
      coreShipped n = false → (s.core n).ctl.drain ≠ .reset → (s.core n).ctl.st = .run → s.startReason p n false split a b = 5)

/-- BRK begins a halt, arms a breakpoint or disarms one; a breakpoint of KIND TIME matches when its time is due and its turn of
Table 2-3 has come, disarms and begins a halt, STEPPED where a forward step passed it (02 R52, R55).
When every issued command has completed the core is HALTED with DBG_HALT_ADDR and raises HALT (21 R573 to R575). -/
def Obligations.BreakpointsAndHalts : Prop :=
  (∀ (s : State) (n : CoreIx) (t : Strm) (d : Dec) (ext : Nat), Offers s n t d ext → d.op = 0x0A →
    (∃ s', exec (.brk n t) s = .next s' ∧ OtherCores n s s' ∧ ((s'.core n).strm t).pc = d.addr + 16 * (1 + ext) ∧
      (s'.core n).plot = (s.core n).plot ∧ (s'.core n).ctl.sregs = (s.core n).ctl.sregs ∧ (s'.core n).cnts = (s.core n).cnts ∧
      engs (s'.core n) = engs (s.core n)) ∧
    ((s.core n).fence.run = .none →
    (d.m 4 3 = 0 → ∃ s', exec (.brk n t) s = .next s' ∧ Ran s s' n t (s.core n) (passed ((s.core n).strm t) d ext) ∧
      (s'.core n).ctl.drain = .halt ∧ (s'.core n).dbg.reason = haltBrk) ∧
    (d.m 4 3 = 1 → (d.m 6 5 ≠ 3 ∨ cntReached ((s.core n).cnt (d.m 12 7)) (BitVec.ofNat 32 d.x1) = false) →
      (∀ i, i < 8 → (Sparse.getD (s.core n).dbg.bps i {}).armed = true → (Sparse.getD (s.core n).dbg.bps i {}).kind ≠ 3) →
      (s.core n).dbg.single = false → ∃ s', exec (.brk n t) s = .next s' ∧ Ran s s' n t (s.core n) (passed ((s.core n).strm t) d ext) ∧
        Sparse.find (s'.core n).dbg.bps (d.m 2 0) =
          some { armed := true, kind := d.m 6 5, mtch := BitVec.ofNat 64 d.x1, cnt := d.m 12 7 }) ∧
    (d.m 4 3 = 1 → d.m 6 5 = 3 → cntReached ((s.core n).cnt (d.m 12 7)) (BitVec.ofNat 32 d.x1) = true → ∃ s', exec (.brk n t) s = .next s' ∧
      Ran s s' n t (s.core n) (passed ((s.core n).strm t) d ext) ∧ (s'.core n).ctl.drain = .halt ∧
      (Sparse.getD (s'.core n).dbg.bps (d.m 2 0) {}).armed = false) ∧
    (d.m 4 3 = 2 → (s.core n).dbg.single = false → ∃ s', exec (.brk n t) s = .next s' ∧
      Ran s s' n t (s.core n) (passed ((s.core n).strm t) d ext) ∧
      (Sparse.getD (s'.core n).dbg.bps (d.m 2 0) {}).armed = false ∧
      ∀ i, i ≠ d.m 2 0 → Sparse.find (s'.core n).dbg.bps i = Sparse.find (s.core n).dbg.bps i))) ∧
  (∀ (s : State) (n : CoreIx) (i : Nat) (b : Bp), i < 8 → Sparse.find (s.core n).dbg.bps i = some b → b.armed = true → b.kind = 2 →
    b.mtch.toNat ≤ s.time.now ∨ Steady s →
    (s.core n).ctl.st = .run → (s.core n).ctl.drain = .none → (s.core n).fence.run = .none →
    s.turn { at_ := b.mtch.toNat, rank := 1, pav := (s.owner n).getD 16, core := n } = true →
    s.power.clockOn = true → ∃ s', exec (.timeBreakpointMatch n) s = .next s' ∧ OtherCores n s s' ∧ still (s'.core n) = still (s.core n) ∧
      (s'.core n).ctl.drain = .halt ∧ (s'.core n).dbg.haltStepped = s'.steppedPast b.mtch.toNat ∧
      (Sparse.getD (s'.core n).dbg.bps i {}).armed = false ∧ bit (s'.core n).dbg.reason (8 + i) = true ∧
      ((∀ j, j < 8 → j ≠ i → (Sparse.getD (s.core n).dbg.bps j {}).armed = false) →
        (s'.core n).dbg.reason = haltBreakpoint + 256 * 2 ^ i + 65536 * i)) ∧
  ∀ (s : State) (n : CoreIx), (s.core n).ctl.drain = .halt → (s.core n).flights = [] →
    s.power.clockOn = true → ∃ s', exec (.haltDrainComplete n) s = .next s' ∧ Only [.cores, .log, .fns, .out] s s' ∧ OtherCores n s s' ∧
      (s'.core n).ctl.st = .halted ∧ (s'.core n).ctl.drain = .none ∧ (s'.core n).sa = (s.core n).sa ∧ (s'.core n).sx = (s.core n).sx ∧
      (s'.core n).dbg.haltAddr = (if (s.core n).ctl.split then (s.core n).sa.pc * 2 ^ 32 + (s.core n).sx.pc else (s.core n).sa.pc) ∧
      ∀ p, s.owner n = some p → bit (s'.fn (p + 1)).pending 8 = true

/-- A faulted core with nothing started drops the commands still queued and becomes FAULTED; it raises STEP_FAILED for a Plot error, and
waits for banks still to classify (04 R120, 09 R258). A program fault records its code and address, fails the open step and raises
CORE_FAULT. -/
def Obligations.CoreFaults : Prop :=
  (∀ (s : State) (n : CoreIx), (s.core n).ctl.drain = .fault → (s.core n).drained = true → (s.core n).pint.fenced = 0 → (s.core n).fence.st = 0 →
    ((s.core n).pint.suspects = [] → s.power.clockOn = true → ∃ s', exec (.coreDrainComplete n) s = .next s' ∧ Only [.cores, .fns, .out] s s' ∧
      OtherCores n s s' ∧ (s'.core n).ctl.st = .faulted ∧ (s'.core n).ctl.drain = .none ∧ (s'.core n).flights = [] ∧
      (s'.core n).ctl.fault = (s.core n).ctl.fault ∧ (s'.core n).ctl.sregs = (s.core n).ctl.sregs ∧
      (∀ p, (s.core n).pint.stepFailed = true → s.owner n = some p → bit (s'.fn (p + 1)).pending 3 = true) ∧
      ((s.core n).pint.stepFailed = false → s'.fns = s.fns)) ∧
    ((s.core n).pint.suspects ≠ [] → s.power.clockOn = true → ∃ s', exec (.coreDrainComplete n) s = .next s' ∧ Only [.cores] s s' ∧ OtherCores n s s' ∧
      (s'.core n).flights = [] ∧ (s'.core n).ctl = (s.core n).ctl)) ∧
  ∀ (s : State) (n addr code : Nat) (t : Strm), (s.core n).ctl.drain ≠ .fault → (s.core n).ctl.drain ≠ .reset →
    Only [.cores, .log, .fns, .out] s (s.coreFault n t addr code) ∧ OtherCores n s (s.coreFault n t addr code) ∧
    ((s.coreFault n t addr code).core n).ctl.fault = code + 256 * b2n (t = .exec) ∧
    ((s.coreFault n t addr code).core n).ctl.faultAddr = addr ∧ ((s.coreFault n t addr code).core n).ctl.drain = .fault ∧
    ((s.core n).ctl.stepState = 0 → ((s.coreFault n t addr code).core n).ctl.stepState = 2) ∧
    ((s.coreFault n t addr code).core n).plot = (s.core n).plot ∧
    ∀ p, s.owner n = some p → bit ((s.coreFault n t addr code).fn (p + 1)).pending 2 = true

/-- A long command that its core takes joins the tail of its engine's queue with its words, operands, descriptor copies and ranges, and its
stream goes on; with the queue full, a range conflict or no scoreboard entry left the stream stalls at it, nothing queued, and ISSUE_RESUME
issues it when that clears (04 R99, R108, R109; 05 R139). One whose own write range is not a whole number of slots inside a TAGGED window, or
whose AOW meets one, faults TAG_ALIGN and enters no queue (22 R594; 04 R112, 05 R138). -/
def Obligations.LongCommandsIssue : Prop :=
  (∀ (s : State) (n : CoreIx) (t : Strm) (d x : Dec) (ext : Nat) (e : Eng) (c : Instr), Offers s n t d ext →
    (d.op, c) ∈ [(0x20, Instr.move n t), (0x21, .gather n t), (0x22, .scatter n t), (0x23, .signal n t), (0x24, .oprefetch n t),
      (0x25, .oflush n t), (0x26, .oinv n t), (0x27, .snap n t), (0x30, .route n t), (0x38, .collect n t), (0x40, .loadw n t),
      (0x41, .matmul n t), (0x42, .conv n t), (0x50, .vecop n t), (0x51, .reduce n t)] →
    (Accepts (s.fetched n t) n d x e → ∃ s' l, exec c s = .next s' ∧ Only [.cores, .tally, .arb] s s' ∧
      Carries l t x ((s.fetched n t).operandCheck n x).rngs ∧
      OnCore s s' n t ((s.core n).setEng e { (s.core n).eng e with queue := ((s.core n).eng e).queue ++ [l] })
        (passed ((s.core n).strm t) d ext)) ∧
    (Passes (s.fetched n t) n d x e → ((s.fetched n t).core n).tagBad ((s.fetched n t).operandCheck n x) = false →
      ((s.fetched n t).core n).mustStall e ((s.fetched n t).operandCheck n x).rngs = true →
      ∃ s', exec c s = .next s' ∧ Ran s s' n t (s.core n) ((s.core n).strm t) ∧ ((s'.core n).strm t).wait = .stall s.cyc.cycles) ∧
    (Passes (s.fetched n t) n d x e → ((s.fetched n t).core n).tagBad ((s.fetched n t).operandCheck n x) = true →
      ∃ s', exec c s = .next s' ∧ OtherCores n s s' ∧ (s'.core n).ctl.fault = tagAlign + 256 * b2n (t = .exec) ∧
        (s'.core n).ctl.faultAddr = d.addr ∧ (s'.core n).flights = (s.core n).flights ∧ (s'.core n).plot = (s.core n).plot)) ∧
  ∀ (s : State) (n : CoreIx) (t : Strm) (d x : Dec) (ext k : Nat) (e : Eng), (s.core n).live t = true → ((s.core n).strm t).wait = .stall k →
    ((s.core n).fetch t).1 = .word d ext → 0x20 ≤ d.op → decodeCheck (s.core n).ctl.split t d = 0 →
    (s.core n).bpMask (fun _ b => b.kind = 0 && b.mtch.toNat = ((s.core n).strm t).pc) = 0 → Accepts (s.fetched n t) n d x e →
    s.power.clockOn = true → ∃ s' l, exec (.issueResume n t) s = .next s' ∧ Only [.cores, .tally, .arb] s s' ∧
      Carries l t x ((s.fetched n t).operandCheck n x).rngs ∧
      OnCore s s' n t ((s.core n).setEng e { (s.core n).eng e with queue := ((s.core n).eng e).queue ++ [l] })
        (passed ((s.core n).strm t) d ext)

/-- An engine that is free, or a Parterre whose paths for it are, starts the first command of its queue: the command leaves the queue and is
started, the other engines keep theirs, and no other core changes. A SIGNAL of the own core counts at once; to another core it leaves as a
packet (04 R99, R115; 06 R170, R175; 08 R231). A tagged access that waited goes on once its slots' tags allow it, and one that has waited
longer than TAG_LIMIT faults TAG_TIMEOUT on the core that issued it and ends, a packet held at another core too; so does, at its own
address, a word that waits at issue for the tag of its descriptor (04 R112, R114; 22 R591; log 12 of the model for the last). -/
def Obligations.EngineStartsAndWaits : Prop :=
  (∀ (s : State) (n : CoreIx) (stalls : Nat) (l : LongCmd) (rest : List LongCmd), (s.core n).engineGo = true →
    ((s.core n).mover = { queue := l :: rest, run := [] } →
      (s.power.clockOn = true → ∃ s', exec (.moverStart n) s = .next s' ∧ OtherCores n s s' ∧
        engs (s'.core n) = engs { s.core n with mover := { queue := rest, run := [{ cmd := l }] } } ∧
        (s'.core n).ctl.sregs = (s.core n).ctl.sregs ∧ (s'.core n).wins = (s.core n).wins) ∧
      (l.op = 0x23 → dstCore n (l.m 7 0) = n.val → s.power.clockOn = true → ∃ s', exec (.moverStart n) s = .next s' ∧
        ∀ k, (s'.core n).cnt k = if k = cntNum l.w then (s.core n).cnt k + BitVec.ofNat 32 l.a else (s.core n).cnt k) ∧
      (l.op = 0x23 → dstCore n (l.m 7 0) ≠ n.val → s.power.clockOn = true → ∃ s' q pkt, exec (.moverStart n) s = .next s' ∧ s'.arb.waiting = s.arb.waiting ++ [q] ∧
        q.pkt = some pkt ∧ pkt.src = n.val ∧ pkt.dst = dstCore n (l.m 7 0) ∧ pkt.signal = true ∧ pkt.amount = l.a ∧
        pkt.cnt = some (cntNum l.w) ∧ (s'.core n).cnts = (s.core n).cnts)) ∧
    ((s.core n).tre = { queue := l :: rest, run := [] } →
      s.power.clockOn = true → ∃ s', exec (.trellisStart n stalls) s = .next s' ∧ OtherCores n s s' ∧
        engs (s'.core n) = engs { s.core n with tre := { queue := rest, run := [{ cmd := l }] } } ∧
        (s'.core n).ctl.sregs = (s.core n).ctl.sregs ∧ (s'.core n).wins = (s.core n).wins) ∧
    ((s.core n).par.eng.queue = l :: rest → (s.core n).pathsFree l ((s.core n).streamFree l s.cyc.cycles) = true →
      { s.core n with par := { (s.core n).par with beds := if l.beds = (s.core n).par.bedCount then (s.core n).par.beds else [] } }.parIllegal
        l = false →
      s.power.clockOn = true → ∃ s', exec (.parterreStart n stalls) s = .next s' ∧ OtherCores n s s' ∧
        engs (s'.core n) = engs { s.core n with
          par := { (s.core n).par with eng := { queue := rest, run := (s.core n).par.eng.run ++ [{ cmd := l }] } } } ∧
        (s'.core n).ctl.sregs = (s.core n).ctl.sregs ∧ (s'.core n).wins = (s.core n).wins)) ∧
  (∀ (s : State) (n : CoreIx) (e : Eng) (r : Running),
    ((s.core n).eng e).run.find? (fun r => r.held || r.tagSince.isSome || r.wtagSince.isSome) = some r → s.power.clockOn = true →
    ∃ s', exec (.tagAccessResume n e) s = .next s' ∧ s'.time = s.time ∧
      ((s'.core n).eng e).run.map (·.cmd) = ((s.core n).eng e).run.map (·.cmd)) ∧
  (∀ (s : State) (n : CoreIx) (r : Running), (s.core n).par.eng.run = [r] → r.held = true → r.cmd.op = 0x40 →
    (∀ x ∈ parRanges r.cmd, (s.core n).readBlocked x.1 x.2 = false ∧ ∀ l ∈ linesOf x.1 x.2, (s.core n).lineCond l = 0) →
    s.power.clockOn = true → ∃ s' d, exec (.tagAccessResume n .parterre) s = .next s' ∧ OtherCores n s s' ∧
      d = ((parRanges r.cmd).map (fun x => (s.core n).plotBytes x.1 x.2)).flatten ∧
      (s'.core n).par.eng.run =
        [{ r with held := false, tagSince := none, begunAt := some s.cyc.cycles, buf := [{ rid := none, len := d.length, data := d }] }] ∧
      (s'.core n).plot = (s.core n).plot) ∧
  (∀ (s : State) (n : CoreIx) (r : Running), (s.core n).par.eng.run = [r] → r.held = true →
    (parRanges r.cmd).any (fun x => (s.core n).readBlocked x.1 x.2) = true →
    s.power.clockOn = true → ∃ s', exec (.tagAccessResume n .parterre) s = .next s' ∧ OtherCores n s s' ∧ engs (s'.core n) = engs (s.core n) ∧
      (s'.core n).plot = (s.core n).plot ∧ (s'.core n).par.cistern = (s.core n).par.cistern ∧ (s'.core n).par.beds = (s.core n).par.beds) ∧
  (∀ (s : State) (n : CoreIx) (e : Eng) (l : LongCmd) (since : Nat),
    ((s.core n).eng e).run.findSome? (fun r => (r.tagSince.orElse (fun _ => r.wtagSince)).map (fun t => (t, r.cmd))) = some (since, l) →
    (s.core n).ctl.drain ≠ .fault → (s.core n).ctl.drain ≠ .reset → s.power.clockOn = true → s.boot.pwrgood = true →
    ∃ s', exec (.tagTimeout n e) s = .next s' ∧ Only [.time, .cyc, .pavs, .tally, .cores, .log, .fns, .out] s s' ∧ OtherCores n s s' ∧
      since + s.obj (0x2000 + n) 8 < s'.cyc.cycles ∧ (since + s.obj (0x2000 + n) 8 < s.cyc.cycles → s'.time = s.time ∧ s'.cyc = s.cyc) ∧
      ((s'.core n).eng e).run = ((s.core n).eng e).run.filter (fun r => r.cmd.id ≠ l.id) ∧
      (s'.core n).ctl.fault = tagTimeout + 256 * b2n (l.strm = .exec) ∧ (s'.core n).ctl.faultAddr = l.addr ∧
      (s'.core n).plot = (s.core n).plot) ∧
  (∀ (s : State) (n d : CoreIx) (h : HeldPacket), (∀ r ∈ (s.core n).mover.run, r.tagSince = none ∧ r.wtagSince = none) →
    (s.core n).tagStallOf .mover = none → s.heldOf n = some (d.val, h) → s.power.clockOn = true → s.boot.pwrgood = true →
    ∃ s', exec (.tagTimeout n .mover) s = .next s' ∧ h.since + s.obj (0x2000 + n) 8 < s'.cyc.cycles ∧
      (s'.core d).pbuf = (s.core d).pbuf.filter (fun x => x.pkt.id ≠ h.pkt.id) ∧ (s'.core d).plot = (s.core d).plot ∧
      ∀ l, h.pkt.cmd ≠ 0 → (s.core h.pkt.src).flights.find? (fun l => l.id = h.pkt.cmd) = some l → (s.core h.pkt.src).ctl.drain ≠ .fault →
        (s.core h.pkt.src).ctl.drain ≠ .reset → (s'.core h.pkt.src).ctl.fault = tagTimeout + 256 * b2n (l.strm = .exec) ∧
        (s'.core h.pkt.src).ctl.faultAddr = l.addr) ∧
  ∀ (s : State) (n : CoreIx) (e : Eng) (t : Strm) (since addr : Nat), (∀ r ∈ ((s.core n).eng e).run, r.tagSince = none ∧ r.wtagSince = none) →
    (s.core n).tagStallOf e = some (t, since, addr) →
    (s.core n).ctl.drain ≠ .fault → (s.core n).ctl.drain ≠ .reset → s.power.clockOn = true → s.boot.pwrgood = true →
    ∃ s', exec (.tagTimeout n e) s = .next s' ∧ Only [.time, .cyc, .pavs, .tally, .cores, .log, .fns, .out] s s' ∧ OtherCores n s s' ∧
      since + s.obj (0x2000 + n) 8 < s'.cyc.cycles ∧ (since + s.obj (0x2000 + n) 8 < s.cyc.cycles → s'.time = s.time ∧ s'.cyc = s.cyc) ∧
      (s'.core n).ctl.fault = tagTimeout + 256 * b2n (t = .exec) ∧ (s'.core n).ctl.faultAddr = addr ∧ (s'.core n).plot = (s.core n).plot

/-- A command that has nothing left to do leaves its engine, with its opcode and how it was served in the disposition register, and no
byte of any Plot changes; of the commands on the Parterre's paths the one completes whose last write is visible first. A LOADW leaves its tile
in the standby place of its bed, an integer MATMUL or CONV its count of clamped words. A SNAP that has copied writes its record before it
completes and is counted (05 R140; 06 R174, R175; 07 R210; 16 R447; 21 R581). -/
def Obligations.LongCommandsComplete : Prop :=
  ∀ (s : State) (n : CoreIx) (r : Running) (rs : List Running) (dsp : Nat), s.power.clockOn = true →
    dsp = r.cmd.op + (if r.refused then 2 ^ 31 else if r.defer = 0 then 0 else min r.defer 0x3FFFFF * 256 + 2 ^ 30) →
    ((s.core n).mover.run = r :: rs → r.finished = true →
      (r.snap = false → ∃ s', exec (.longCommandComplete n .mover) s = .next s' ∧ Only [.cores, .tally] s s') ∧
      (∀ p, r.snap = true → r.closing = true → s.owner n = some p → ∃ s', exec (.longCommandComplete n .mover) s = .next s' ∧
        Only [.cores, .tally, .pavs] s s' ∧ OtherPavs p s s' ∧ (s'.pav p).snapCount = ((s.pav p).snapCount + 1) % 2 ^ 32) ∧
      (r.snap = false ∨ r.closing = true → ∃ s', exec (.longCommandComplete n .mover) s = .next s' ∧ OtherCores n s s' ∧
        (s'.core n).mover = { (s.core n).mover with run := (r :: rs).filter (fun x => x.cmd.id ≠ r.cmd.id) } ∧
        (s'.core n).disp.last = dsp ∧ (s'.core n).plot = (s.core n).plot ∧
        ((s'.core n).strm r.cmd.strm).flags.oob = (r.oob || ((s.core n).strm r.cmd.strm).flags.oob)) ∧
      (r.snap = true → r.closing = false → ∃ s' r', exec (.longCommandComplete n .mover) s = .next s' ∧ OtherCores n s s' ∧
        (s'.core n).mover.run.head? = some r' ∧ r'.cmd = r.cmd ∧ r'.closing = true ∧ (s'.core n).disp = (s.core n).disp)) ∧
    ((s.core n).tre.run = r :: rs → r.finished = true → ∃ s', exec (.longCommandComplete n .trellis) s = .next s' ∧
      Only [.cores, .tally] s s' ∧ OtherCores n s s' ∧
      (s'.core n).tre = { (s.core n).tre with run := (r :: rs).filter (fun x => x.cmd.id ≠ r.cmd.id) } ∧
      (s'.core n).disp.last = dsp ∧ (s'.core n).plot = (s.core n).plot) ∧
    ((s.core n).parNext = some r → ∃ s', exec (.longCommandComplete n .parterre) s = .next s' ∧
      Only [.time, .cyc, .pavs, .cores, .tally] s s' ∧ OtherCores n s s' ∧
      (s'.core n).par.eng = { (s.core n).par.eng with run := (s.core n).par.eng.run.filter (fun x => x.cmd.id ≠ r.cmd.id) } ∧
      (s'.core n).par.cistern = (s.core n).par.cistern ∧ (s'.core n).plot = (s.core n).plot ∧ (s'.core n).disp.last = dsp ∧
      (r.cmd.op = 0x40 → ((s'.core n).bed r.cmd.bed).standby = some (tileOf r.cmd (rawBytes (readyBytes r.buf))) ∧
        ((s'.core n).bed r.cmd.bed).active = ((s.core n).bed r.cmd.bed).active) ∧
      (r.cmd.op ≠ 0x40 → fmtInt r.cmd.fmtA = true →
        Sparse.find (s'.core n).par.satCount r.cmd.bed = some (min r.sat 0xFFFFFFFF))) ∧
    ((s.core n).dice.run = r :: rs → r.closing = true → r.finished = true → ∃ s', exec (.longCommandComplete n .dice) s = .next s' ∧
      Only [.cores, .tally] s s' ∧ OtherCores n s s' ∧
      (s'.core n).dice = { (s.core n).dice with run := (r :: rs).filter (fun x => x.cmd.id ≠ r.cmd.id) } ∧
      (s'.core n).disp.last = dsp ∧ (s'.core n).plot = (s.core n).plot) ∧
    ((s.core n).rot.run = r :: rs → r.closing = true → r.finished = true → ∃ s', exec (.longCommandComplete n .rot) s = .next s' ∧
      Only [.cores, .tally] s s' ∧ OtherCores n s s' ∧
      (s'.core n).rot = { (s.core n).rot with run := (r :: rs).filter (fun x => x.cmd.id ≠ r.cmd.id) } ∧
      (s'.core n).disp.last = dsp ∧ (s'.core n).plot = (s.core n).plot)

/-- A write of HBM4 or the Grotto below no Orangery line is what a later read of its bytes sees, and every other byte reads as before; the
memory stays canonical (10 R271, R286). -/
def Obligations.MemoryReadsBack : Prop :=
  ∀ (s : State) (pa : Nat) (d : List PByte), (∀ l ∈ s.org.far, l.holds pa d.length = false) →
    (∀ i, i < d.length → ((s.memWrite pa d).memByte (pa + i)).1 = (d.getD i (0, false)).1) ∧
    (∀ a, a < pa ∨ pa + d.length ≤ a → ((s.memWrite pa d).memByte a).1 = (s.memByte a).1) ∧
    (Mem.wf s.mem = true → Mem.wf (s.memWrite pa d).mem = true)

/-- An arbiter grants a request of the lowest level that waits for its resource, and among equals in level the Pavilion with slot precedence
or the next in cyclic order, then the first arrival, then the lowest core; a write of a command waits for an earlier one of it to the same byte,
packets of one core keep their order, and a host-window read waits for a tag. A granted packet leaves on the Hedgerow behind those under way, a
granted write reaches memory, a read is under way; a host-window access of a function that may send none is a HOST fault (04 R116; 05 R150; 09
R244; 15 R416; 16 R437). -/
def Obligations.ArbiterGrants : Prop :=
  (∀ (s : State) (r : Nat) (q : Req), s.granted r = some q → q ∈ s.arb.waiting ∧ q.res = r ∧
    (r ≠ 3 → ∀ l x l', s.arb.waiting = l ++ x :: l' → x.res = r → (r = 5 → x.write = true ∨ s.hostTags x.pav < 512) →
      (∀ y ∈ l, y.res = r → x.follows y = false) → s.reqBefore x q = false) ∧
    (r = 3 → ∀ x, s.arb.waiting.find? (fun y => y.res = 3 && y.core = x.core) = some x → s.reqBefore x q = false)) ∧
  (∀ (s : State) (r : Nat) (x : Req), x ∈ s.arb.waiting → x.res = r → (r = 5 → x.write = true ∨ s.hostTags x.pav < 512) →
    (s.granted r).isSome = true) ∧
  (∀ (s : State) (q x : Req), q.level < x.level → s.reqRank q < s.reqRank x ∧ s.reqBefore q x = true) ∧
  ∀ (s : State) (r : Fin 6) (q : Req), s.granted r = some q → s.power.clockOn = true → ∃ s', exec (.arbiterGrant r) s = .next s' ∧
    (q.res ≠ 5 ∨ q.pkt ≠ none ∨ s.hostOpen q.pav = true →
      ∀ x ∈ s'.arb.waiting, x.id = q.id → q.pkt = none ∧ q.write = false ∧ q.res = 2) ∧
    (∀ pkt, q.pkt = some pkt → Only [.arb, .net, .cores] s s' ∧ s'.net = s.net ++ [{ pkt with id := q.id }]) ∧
    (q.pkt = none → q.res ≠ 5 → q.write = true → q.org = false → s'.mem = (s.memWrite q.pa q.data).mem ∧ s'.net = s.net) ∧
    (q.pkt = none → q.res = 5 → s.hostOpen q.pav = true → s'.mem = s.mem ∧
      (q.write = true → s'.out = s.out ++ [.pcieWrite (q.pav + 1) (q.pa - hostBase + s.obj (0x2210 + q.pav) 2) q.data]) ∧
      (q.write = false → s'.out = s.out ++ [.pcieRead (q.pav + 1) (q.pa - hostBase + s.obj (0x2210 + q.pav) 2) q.len] ∧
        s'.arb.host = s.arb.host ++ [q])) ∧
    (q.pkt = none → q.res = 5 → s.hostOpen q.pav = false → (s.core q.core).map.memFault = 0 → (s.core q.core).ctl.drain ≠ .reset →
      (s'.core q.core).map.memFault = q.va % 2 ^ 48 + b2n q.write * 2 ^ 55 + 6 * 2 ^ 56) ∧
    (q.pkt = none → q.res ≠ 5 → q.write = false → q.res ≠ 2 → s'.arb.reads = s.arb.reads ++ [q] ∧ s'.mem = s.mem)

/-- A read's data ends its request, whether memory or the host answers; a host answer that does not come is a HOST memory fault. A page
walk that finds a leaf fills the map buffer, one that fails is the waiting access's memory fault. At frame f + 2, and after the events of Table
2-3 before it, the entries walked in frame f are gone, and no other (02 R52; 10 R271, R273, R276 to R279, R283). -/
def Obligations.MemoryEvents : Prop :=
  (∀ (s : State) (rid : Nat) (upsets : List MemUpset) (q : Req), s.arb.reads.find? (fun x => x.id = rid) = some q →
    s.power.clockOn = true → ∃ s', exec (.memoryReadResponse rid upsets) s = .next s' ∧ s'.arb.reads = s.arb.reads.filter (fun x => x.id ≠ rid) ∧
      s'.arb.host = s.arb.host) ∧
  (∀ (s : State) (rid : Nat) (ok ep : Bool) (data : List Byte) (q : Req), s.arb.host.find? (fun x => x.id = rid) = some q →
    (∃ s', exec (.hostCompletion rid ok data ep) s = .next s' ∧ s'.arb.host = s.arb.host.filter (fun x => x.id ≠ rid) ∧
      s'.arb.reads = s.arb.reads) ∧
    (∃ s', exec (.hostCompletionTimeout rid) s = .next s' ∧ s'.arb.host = s.arb.host.filter (fun x => x.id ≠ rid) ∧
      s'.arb.reads = s.arb.reads) ∧
    ((s.core q.core).map.memFault = 0 → (s.core q.core).ctl.drain ≠ .reset →
      ∃ s', exec (.hostCompletionTimeout rid) s = .next s' ∧ s'.arb.host = s.arb.host.filter (fun x => x.id ≠ rid) ∧
        (s'.core q.core).map.memFault = q.va % 2 ^ 48 + 6 * 2 ^ 56)) ∧
  (∀ (s : State) (n : CoreIx) (va : Nat), (s.core n).map.walk = some va → s.power.clockOn = true →
    (∀ e s1, s.walk ((s.owner n).getD 0) va (some n) = (.leaf e, s1) → ∃ s', exec (.pageWalkComplete n) s = .next s' ∧
      ∃ k, (k, e) ∈ (s'.core n).map.entries) ∧
    (∀ c s1, s.walk ((s.owner n).getD 0) va (some n) = (.fail c, s1) → ∃ s', exec (.pageWalkComplete n) s = .next s' ∧
      (s'.core n).map.entries = (s.core n).map.entries)) ∧
  (∀ (s : State) (n : CoreIx) (va : Nat), (s.core n).map.walk = some va → (s.core n).mover.run = [] →
    (∀ e s1, s.walk ((s.owner n).getD 0) va (some n) = (.leaf e, s1) → s.power.clockOn = true → ∃ s', exec (.pageWalkComplete n) s = .next s' ∧
      OtherCores n s s' ∧ (s'.core n).map.walk = none ∧ (∃ k, (k, e) ∈ (s'.core n).map.entries) ∧
      (s'.core n).map.memFault = (s.core n).map.memFault) ∧
    (∀ c s1, s.walk ((s.owner n).getD 0) va (some n) = (.fail c, s1) → s.power.clockOn = true → ∃ s', exec (.pageWalkComplete n) s = .next s' ∧
      OtherCores n s s' ∧ (s'.core n).map = { (s.core n).map with walk := none })) ∧
  (∀ (s : State) (n : CoreIx) (va k c : Nat) (r : Running) (org : Bool) (rest : List SrcPiece) (s1 : State),
    (s.core n).map.walk = some va → (s.core n).mover.run = [r] → r.walkWait = true → r.srcs = .mem va k org :: rest → isRange r.cmd.op = false →
    (s.core n).map.memFault = 0 → (s.core n).ctl.drain ≠ .reset → s.walk ((s.owner n).getD 0) va (some n) = (.fail c, s1) →
    s.power.clockOn = true → ∃ s', exec (.pageWalkComplete n) s = .next s' ∧ OtherCores n s s' ∧ (s'.core n).map.memFault = va % 2 ^ 48 + c * 2 ^ 56 ∧
      (s'.core n).map.entries = (s.core n).map.entries) ∧
  (∀ (s : State) (t : Nat), s.power.clockOn = true → s.agingAt = some t → s.turn { at_ := t, rank := 7 } = true →
    ∃ s', exec .mapBufferAging s = .next s' ∧ Only [.time, .cyc, .pavs, .cores, .tally] s s' ∧ (Steady s → t ≤ s'.time.now) ∧
      ∀ n k e, (k, e) ∈ (s'.core n).map.entries ↔ (k, e) ∈ (s.core n).map.entries ∧ s'.frame < e.frame + 2) ∧
  (∀ (s : State) (t n k : Nat) (e : MapEntry), s.agingAt = some t → (k, e) ∈ (s.core n).map.entries → t ≤ 250000 * (e.frame + 2)) ∧
  ∀ s : State, s.agingAt = none → exec .mapBufferAging s = .next s

/-- A controller that holds no request checks the next written block of its sweep and steps past it; past the last one its pass ends and
starts again at the first (18 R503). A sentinel sweep that shows every column in service right changes no core but for the spares that fail;
one that shows a column in service wrong is a detection on the core: it is recorded with class 1 and its place, the step fails, and a running
core drains; a core of a Pavilion that was not running is FAULTED, one of no Pavilion stays as it was (09 R257, R261, Table 9-3). What befalls
the bank is the row's operand (log 87). -/
def Obligations.MemorySweeps : Prop :=
  (∀ (s s0 : State) (k : Fin 8) (upsets : List MemUpset), s0 = upsets.foldl State.memUpset s →
    ((s.arb.waiting ++ s.arb.reads).any (fun q => q.pkt.isNone && q.res ≠ 5 && memc q.pa = k.val)) = false → s.power.clockOn = true →
    (∀ b c, s0.mmeta.pip.find? (fun r => decide (Sparse.getD s0.mmeta.sweep k 0 ≤ r.1) && memc (4096 * r.1) = k.val) = some (b, c) →
      ∃ s', exec (.pipSweepCheck k upsets) s = .next s' ∧ Sparse.getD s'.mmeta.sweep k 0 = b + 1 ∧ s'.mem = s0.mem ∧ s'.cores = s.cores ∧
        (pipCond (Sparse.find s0.mmeta.pip b) = 3 →
          s'.mmeta.pipFails = s0.mmeta.pipFails + 1 ∧ Sparse.find s'.mmeta.pip b = some pipPoison ∧ ∀ i, i < 64 → 64 * b + i ∈ s'.mmeta.mark) ∧
        (pipCond (Sparse.find s0.mmeta.pip b) = 1 → Only [.mmeta] s0 s' ∧ s'.mmeta.mark = s0.mmeta.mark)) ∧
    (s0.mmeta.pip.find? (fun r => decide (Sparse.getD s0.mmeta.sweep k 0 ≤ r.1) && memc (4096 * r.1) = k.val) = none →
      ∃ s', exec (.pipSweepCheck k upsets) s = .next s' ∧ Only [.mmeta] s0 s' ∧ Sparse.getD s'.mmeta.sweep k 0 = 0 ∧
        Sparse.getD s'.mmeta.sweepMs (if k.val < 6 then 0 else 1) 0 =
          ((s.cyc.ns - Sparse.getD s0.mmeta.sweepStart k 0) / 1000000) % 2 ^ 32)) ∧
  (∀ (s : State) (u : MemUpset), Only [.mem, .mmeta, .org] s (s.memUpset u)) ∧
  ∀ (s : State) (n : CoreIx) (bank : Fin 48) (lost : Nat) (upsets : List Upset), s.power.clockOn = true → coreShipped n = false →
    bit (s.core n).pint.fenced bank = false →
    ((s.core n).pint.columnFaults' bank = [] ∨ (s.core n).pint.suspects.any (fun x => x.bank = bank.val) = true →
      ∃ s', exec (.plotSentinelSweep n bank lost upsets) s = .next s' ∧ Only [.time, .cyc, .pavs, .tally, .cores, .integ] s s' ∧
        OtherCores n s s' ∧
        s'.core n = upsets.foldl (fun c u => c.upset bank u) { s.core n with pint := (s.core n).pint.spareFails bank } ∧
        ((s.core n).pint.spareFails bank = (s.core n).pint → upsets = [] → Only [.time, .cyc, .pavs, .tally] s s')) ∧
    (∀ x rest, (s.core n).pint.columnFaults' bank = x :: rest → (s.core n).pint.suspects.any (fun y => y.bank = bank.val) = false →
      ∃ s', exec (.plotSentinelSweep n bank lost upsets) s = .next s' ∧ OtherCores n s s' ∧
        (s'.core n).pint.detects = ((s.core n).pint.detects + 1) % 2 ^ 32 ∧
        (s'.core n).pint.last = lastDetect 1 bank x.sub 0 x.column (s.core n).ctl.stepNum.toNat ∧
        (s'.core n).pint.suspects = (s.core n).pint.suspects ++ x :: rest ∧ (upsets = [] → (s'.core n).plot = (s.core n).plot) ∧
        ((s.owner n).isSome = true → (s.core n).ctl.drain ≠ .reset → (s'.core n).ctl.stepState = 2 ∧
          ((s.core n).ctl.st = .run ∨ (s.core n).ctl.st = .halted → (s'.core n).ctl.drain = .fault) ∧
          ((s.core n).ctl.st ≠ .run → (s.core n).ctl.st ≠ .halted → (s'.core n).ctl.st = .faulted)) ∧
        (s.owner n = none → (s'.core n).ctl.st = (s.core n).ctl.st ∧ (s'.core n).ctl.drain = (s.core n).ctl.drain ∧
          (s'.core n).ctl.stepState = (s.core n).ctl.stepState))

/-- When a packet reaches its port, the held packets that can proceed go first. One that its destination takes is then written into the Plot
there, or accumulated, and counted; behind a held packet of its source or slot, or with its slot FULL, it is held, or with the buffer full stays
on the Hedgerow; one for a core or range its Pavilion does not hold is refused and writes nothing, and one that meets a reset is dropped. A
gateway's packet writes plainly. A held packet leaves when the tag allows, of those that can proceed the one of the lowest source (04 R112 to
R115; 09 R245 to R248; 15 R416, R422). -/
def Obligations.RemoteWrites : Prop :=
  (∀ (s s1 : State) (dst : CoreIx) (src : Fin 145) (p : Packet), s1 = State.releaseAll (s.core dst).pbuf.length dst s →
    (s.nextHeld dst = none → s1 = s) ∧
    (s.power.clockOn = true → s.net.find? (fun x => x.dst = dst.val && x.src = src.val) = some p →
      (src.val ≠ 144 → (s1.core dst).pbuf.any (fun h => h.pkt.src = src.val) = false →
        (s1.packetRefused p = 0 → (s1.core dst).packetHeld p = false ∧ (oldestHeld (s1.core dst).pbuf).any (fun h => (s1.core dst).sameSlot h.pkt p) = false) →
        (∀ q, s1.owner dst = some q → (s1.pav q).resetAt ≠ 3) →
        (s1.packetRefused p = 0 → p.signal = false → p.data.length % 4 = 0 ∨ p.aow = 0 →
          ∃ s', exec (.remoteWriteArrival dst src) s = .next s' ∧ s'.mem = s1.mem ∧
          s'.net = s1.net.filter (fun x => x.id ≠ p.id) ∧ (∀ m, m ≠ dst.val → m ≠ src.val → s'.core m = s1.core m) ∧
          Mem.read (s'.core dst).plot.bytes p.addr p.data.length =
            rawBytes (if p.aow = 0 then p.data else (aowWords p.aow ((s1.core dst).plotBytes p.addr p.data.length) p.data).1) ∧
          (∀ a, a < p.addr ∨ p.addr + p.data.length ≤ a → Mem.byte (s'.core dst).plot.bytes a =
            if a / 64 ∈ linesOf p.addr p.data.length then (s1.core dst).byteSeen a else Mem.byte (s1.core dst).plot.bytes a) ∧
          ∀ k, (s'.core dst).cnt k =
            if p.cnt = some k then (s1.core dst).cnt k + BitVec.ofNat 32 (slotsOf p.addr p.data.length).length else (s1.core dst).cnt k) ∧
        (s1.packetRefused p = 0 → p.signal = true → ∃ s', exec (.remoteWriteArrival dst src) s = .next s' ∧
          (s'.core dst).plot = (s1.core dst).plot ∧
          ∀ k, (s'.core dst).cnt k = if p.cnt.getD 0 = k then (s1.core dst).cnt k + BitVec.ofNat 32 p.amount else (s1.core dst).cnt k) ∧
        (s1.packetRefused p ≠ 0 → ∃ s', exec (.remoteWriteArrival dst src) s = .next s' ∧ (s'.core dst).plot = (s1.core dst).plot ∧
          (s'.core dst).cnts = (s1.core dst).cnts ∧ s'.net = s1.net.filter (fun x => x.id ≠ p.id))) ∧
      (src.val ≠ 144 → (s1.core dst).pbuf.any (fun h => h.pkt.src = src.val) = true ∨
          s1.packetRefused p = 0 ∧ ((s1.core dst).packetHeld p = true ∨
            (oldestHeld (s1.core dst).pbuf).any (fun h => (s1.core dst).sameSlot h.pkt p) = true) →
        ((s1.core dst).pbuf.length < 16 → ∃ s', exec (.remoteWriteArrival dst src) s = .next s' ∧ Only [.net, .cores] s1 s' ∧
          OtherCores dst s1 s' ∧ s'.core dst = { s1.core dst with pbuf := (s1.core dst).pbuf ++ [{ pkt := p, since := s1.cyc.cycles }] }) ∧
        (16 ≤ (s1.core dst).pbuf.length → exec (.remoteWriteArrival dst src) s = .next s1)) ∧
      (src.val = 144 → (∀ q, s1.owner dst = some q → (s1.pav q).resetAt ≠ 3) →
        (p.pav = 16 ∨ s1.owner dst = some p.pav ∧ s1.coreUsable dst = true → ∃ s', exec (.remoteWriteArrival dst src) s = .next s' ∧
          OtherCores dst s1 s' ∧ s'.net = s1.net.filter (fun x => x.id ≠ p.id) ∧ (s'.core dst).cnts = (s1.core dst).cnts ∧
          Mem.read (s'.core dst).plot.bytes p.addr p.data.length = rawBytes p.data) ∧
        (p.pav ≠ 16 → s1.owner dst ≠ some p.pav ∨ s1.coreUsable dst = false → ∃ s', exec (.remoteWriteArrival dst src) s = .next s' ∧
          Only [.net, .tally] s1 s' ∧ s'.net = s1.net.filter (fun x => x.id ≠ p.id))))) ∧
  (∀ (s : State) (dst : CoreIx) (h : HeldPacket), s.power.clockOn = true → s.nextHeld dst = some h → h.pkt.dst = dst.val →
    ∃ s', exec (.pendingWriteRelease dst) s = .next s' ∧ (∀ m, m ≠ dst.val → m ≠ h.pkt.src → s'.core m = s.core m) ∧
      (s'.core dst).pbuf.map (·.pkt) = ((s.core dst).pbuf.filter (fun x => x.pkt.id ≠ h.pkt.id)).map (·.pkt) ∧
      (h.pkt.src ≠ 144 → (∀ q, s.owner dst = some q → (s.pav q).resetAt ≠ 3) →
        (s.packetRefused h.pkt = 0 → h.pkt.signal = false → h.pkt.aow = 0 →
          Mem.read (s'.core dst).plot.bytes h.pkt.addr h.pkt.data.length = rawBytes h.pkt.data) ∧
        (s.packetRefused h.pkt = 0 → h.pkt.signal = true →
          ∀ k, (s'.core dst).cnt k = if h.pkt.cnt.getD 0 = k then (s.core dst).cnt k + BitVec.ofNat 32 h.pkt.amount else (s.core dst).cnt k) ∧
        (s.packetRefused h.pkt ≠ 0 → (s'.core dst).plot = (s.core dst).plot ∧ (s'.core dst).cnts = (s.core dst).cnts))) ∧
  ∀ (s : State) (dst : CoreIx), s.power.clockOn = true → s.nextHeld dst = none → exec (.pendingWriteRelease dst) s = .next s

/-- Classifying the bank of a detection finds a column fault, a cell fault or a soft error; a soft error's line is zeroed and good again, and
its bank counted (09 R257, R258). A repair steers the column to the lowest usable spare and zeroes its sub-array, and without one the bank, and
with it the core, is fenced; the core ends FAULTED with STEP_FAILED (09 R259, R260). A scrub leaves the Plot zero and good, the tags EMPTY and
the Cistern 0 (R262). -/
def Obligations.PlotRepairs : Prop :=
  (∀ (s : State) (n : CoreIx) (bank : Fin 48), (s.core n).pint.suspects.any (fun x => x.bank = bank.val && x.stage = 0) = true →
    (s.core n).ctl.drain = .none ∨ (s.core n).drained = true → s.power.clockOn = true → ∃ s', exec (.plotClassify n bank) s = .next s' ∧
      OtherCores n s s' ∧ (s'.core n).ctl = (s.core n).ctl ∧ (∀ x ∈ (s'.core n).pint.suspects, x.bank = bank.val → x.stage ≠ 0) ∧
      (∀ x ∈ (s.core n).pint.suspects, x.bank ≠ bank.val ∨ x.stage ≠ 0 → x ∈ (s'.core n).pint.suspects) ∧
      (∀ x ∈ (s.core n).pint.columnFaults' bank, x ∈ (s'.core n).pint.suspects) ∧
      ∀ x ∈ (s.core n).pint.suspects, x.bank = bank.val → x.stage = 0 → (∀ y ∈ (s.core n).pint.columnFaults' bank, y.sub ≠ x.sub) →
        (match (s.core n).pint.cellFault x with | some k => { x with stage := 2, column := k } | none => { x with stage := 3 }) ∈
          (s'.core n).pint.suspects) ∧
  (∀ (s : State) (n : CoreIx), (s.core n).pint.suspects ≠ [] → (∀ x ∈ (s.core n).pint.suspects, x.stage ≠ 0) →
    (s.core n).ctl.drain = .none ∨ (s.core n).drained = true → s.power.clockOn = true → ∃ s', exec (.plotRepairComplete n) s = .next s' ∧
      OtherCores n s s' ∧ (s'.core n).pint.suspects = [] ∧ (∀ x ∈ (s.core n).pint.suspects, x.stage ≠ 3 →
        bit (s'.core n).pint.fenced x.bank = true ∨ ∃ y ∈ (s'.core n).pint.repairs, y.bank = x.bank ∧ y.sub = x.sub ∧ y.column = x.column) ∧
      ((s.core n).ctl.drain = .fault → (s'.core n).ctl.st = .faulted ∨ (s'.core n).ctl.st = .fenced)) ∧
  (∀ (s : State) (n : CoreIx) (bank : Fin 48) (x : Suspect), (s.core n).pint.suspects = [x] → x.bank = bank.val → x.stage = 0 →
    (s.core n).ctl.drain = .fault → (s.core n).drained = true →
    ((s.core n).pint.columnFaults' bank = [] → (s.core n).pint.cellFault x = none → s.obj 0x2100 2 = 0 →
      s.power.clockOn = true → ∃ s', exec (.plotClassify n bank) s = .next s' ∧ Only [.cores] s s' ∧ OtherCores n s s' ∧
      (s'.core n).pint.suspects = [{ x with stage := 3 }] ∧ (s'.core n).pint.softFaults = ((s.core n).pint.softFaults + 1) % 2 ^ 32 ∧
      Sparse.find (s'.core n).plot.chk (lineAddr x.bank x.sub x.row / 64) = none ∧
      ∀ a, Mem.byte (s'.core n).plot.bytes a = if lineAddr x.bank x.sub x.row ≤ a ∧ a < lineAddr x.bank x.sub x.row + 64 then 0
        else Mem.byte (s.core n).plot.bytes a) ∧
    ((s.core n).pint.columnFaults' bank = [] → (s.core n).pint.cellFault x = none → s.obj 0x2100 2 ≠ 0 →
      s.obj 0x2100 2 ≤ Sparse.getD (s.core n).pint.softBank x.bank 0 + 1 →
      s.power.clockOn = true → ∃ s', exec (.plotClassify n bank) s = .next s' ∧ OtherCores n s s' ∧ bit (s'.core n).pint.fenced bank = true) ∧
    (∀ col, (s.core n).pint.columnFaults' bank = [] → (s.core n).pint.cellFault x = some col →
      s.power.clockOn = true → ∃ s', exec (.plotClassify n bank) s = .next s' ∧ Only [.cores] s s' ∧ OtherCores n s s' ∧
      (s'.core n).pint.suspects = [{ x with stage := 2, column := col }] ∧ (s'.core n).plot = (s.core n).plot ∧
      (s'.core n).pint.columnFaults = ((s.core n).pint.columnFaults + 1) % 2 ^ 32) ∧
    (∀ fs, (s.core n).pint.columnFaults' bank = fs → fs.any (fun y => y.sub = x.sub) = true →
      s.power.clockOn = true → ∃ s', exec (.plotClassify n bank) s = .next s' ∧ Only [.cores] s s' ∧ OtherCores n s s' ∧
      (s'.core n).pint.suspects = fs ∧ (s'.core n).plot = (s.core n).plot ∧
      (s'.core n).pint.columnFaults = ((s.core n).pint.columnFaults + fs.length) % 2 ^ 32)) ∧
  (∀ (s : State) (n : CoreIx) (x : Suspect), (s.core n).pint.suspects = [x] → x.stage = 1 ∨ x.stage = 2 → (s.core n).pint.fenced = 0 →
    (s.core n).ctl.drain = .fault → (s.core n).drained = true → (s.core n).fence.st = 0 → coreShipped n = false →
    (∀ i, ((s.core n).pint.spareFails x.bank).nextSpare (4 * x.bank + x.sub) = some i → s.power.clockOn = true →
      ∃ s', exec (.plotRepairComplete n) s = .next s' ∧ OtherCores n s s' ∧
      (s'.core n).ctl.st = .faulted ∧ (s'.core n).pint.suspects = [] ∧
      (s'.core n).pint.repairs = (s.core n).pint.repairs ++ [{ bank := x.bank, sub := x.sub, column := x.column, spare := i }] ∧
      (∀ r k, r < 512 → k < 64 → Mem.byte (s'.core n).plot.bytes (lineAddr x.bank x.sub r + k) = 0) ∧
      ∀ p, (s.core n).pint.stepFailed = true → s.owner n = some p → bit (s'.fn (p + 1)).pending 3 = true) ∧
    (((s.core n).pint.spareFails x.bank).nextSpare (4 * x.bank + x.sub) = none → s.power.clockOn = true →
      ∃ s', exec (.plotRepairComplete n) s = .next s' ∧ OtherCores n s s' ∧
      bit (s'.core n).pint.fenced x.bank = true ∧ (s'.core n).ctl.st = .fenced ∧ (s'.core n).fence.st = 2 ∧
      (s'.core n).plot.bytes = (s.core n).plot.bytes)) ∧
  ∀ (s : State) (n : CoreIx), (s.core n).pint.scrubPending = true → (s.core n).pint.suspects = [] →
    s.power.clockOn = true → ∃ s', exec (.plotScrubDone n) s = .next s' ∧ Only [.cores] s s' ∧ OtherCores n s s' ∧ (s'.core n).plot = {} ∧
      (s'.core n).par.cistern = [] ∧ (s'.core n).pint.repairs = (s.core n).pint.repairs ∧ (s'.core n).pint.fenced = (s.core n).pint.fenced ∧
      (s'.core n).ctl = (s.core n).ctl

/-- DICE_LOAD takes the table's size and commit round and starts the copy; with a load in progress or uncommitted it is refused. The end of
the copy fills the standby bank where every entry is legal and the capacities on this chip fit; a bad entry or a bad read fails the load, and
the active table stands in either case; while the host has not answered a read of its window the copy goes on (10 R271; 11 R303 to R306). -/
def Obligations.DiceTable : Prop :=
  (∀ (s : State) (who : Requester) (p : PavIx), Takes s who (0x2310 + p) 0xC 1 1 →
    ((s.pav p).dice.loading = false → (s.pav p).dice.loaded = false →
      ∃ s', exec (.diceLoad who p 1) s = .next s' ∧ Only [.pavs, .dict, .out] s s' ∧ OtherPavs p s s' ∧ Answered s s' who 0 0 ∧
        (s'.pav p).dice = { (s.pav p).dice with
          loading := true, failed := false, late := false, commitRound := s.obj (0x2310 + p) 0xB, loadE := s.obj (0x2310 + p) 1,
          loadSrc := s.obj (0x2310 + p) 0xA }) ∧
    ((s.pav p).dice.loading = true ∨ (s.pav p).dice.loaded = true →
      ∃ s', exec (.diceLoad who p 1) s = .next s' ∧ Only [.dict, .out] s s' ∧ Answered s s' who 0x104 0)) ∧
  ∀ (s : State) (p : PavIx), (s.pav p).dice.loading = true →
    (∀ b t, s.unitRead p (s.pav p).dice.loadSrc (8 * (s.pav p).dice.loadE) 1 = (.ok b, t) →
      (∀ i, i < (s.pav p).dice.loadE → entryFails (s.obj (0x2310 + p) 8) (leNat (rawBytes ((b.drop (8 * i)).take 8))) = false) →
      ((List.range (s.pav p).dice.loadE).map (fun i =>
        let e := leNat (rawBytes ((b.drop (8 * i)).take 8))
        if exV e && exChip e = s.chipId then exCap e else 0)).sum ≤ 65536 →
      s.power.clockOn = true → ∃ s', exec (.diceLoadCopyDone p) s = .next s' ∧ s'.cores = s.cores ∧ OtherPavs p s s' ∧
        (s'.pav p).dice.loading = false ∧ (s'.pav p).dice.loaded = true ∧ (s'.pav p).dice.active = (s.pav p).dice.active ∧
        ∀ i, i < (s.pav p).dice.loadE → Sparse.getD (s'.pav p).dice.standby i 0 = leNat (rawBytes ((b.drop (8 * i)).take 8))) ∧
    (∀ t, s.unitRead p (s.pav p).dice.loadSrc (8 * (s.pav p).dice.loadE) 1 = (.wait, t) → s.power.clockOn = true →
      exec (.diceLoadCopyDone p) s = .next t ∧ (t.pav p).dice = (s.pav p).dice) ∧
    (∀ c t, s.unitRead p (s.pav p).dice.loadSrc (8 * (s.pav p).dice.loadE) 1 = (.error c, t) →
      s.power.clockOn = true → ∃ s', exec (.diceLoadCopyDone p) s = .next s' ∧ s'.cores = s.cores ∧ OtherPavs p s s' ∧
        (s'.pav p).dice = { (s.pav p).dice with loading := false, failed := true }) ∧
    (∀ b t, s.unitRead p (s.pav p).dice.loadSrc (8 * (s.pav p).dice.loadE) 1 = (.ok b, t) →
      (∃ i, i < (s.pav p).dice.loadE ∧ entryFails (s.obj (0x2310 + p) 8) (leNat (rawBytes ((b.drop (8 * i)).take 8))) = true) ∨
        65536 < ((List.range (s.pav p).dice.loadE).map (fun i =>
          let e := leNat (rawBytes ((b.drop (8 * i)).take 8))
          if exV e && exChip e = s.chipId then exCap e else 0)).sum →
      s.power.clockOn = true → ∃ s', exec (.diceLoadCopyDone p) s = .next s' ∧ (s'.pav p).dice = { (s.pav p).dice with loading := false, failed := true })

/-- The first ROUTE of a core starts: with no round in progress it opens the next one, with the commit due at its start, and takes part in
it, a choice for each token and k; with routing disabled it runs without a round; with rows of another size it is an ILLEGAL_OP fault. The
round closes after its wait and sends phase 0 to every home chip. A home chip takes the requests and the marker of its phase, and an answer
settles the choices of its home (11 R307 to R309, R313 to R315, R329). -/
def Obligations.DiceRounds : Prop :=
  (∀ (s : State) (n : CoreIx) (p : Nat) (l : LongCmd) (rest : List LongCmd), (s.core n).dice.queue = l :: rest → (s.core n).dice.run = [] →
    (s.core n).engineGo = true → s.owner n = some p →
    (bits l.y1 31 16 = s.diceNext p 8 →
      (s.core n).readBlocked l.a (bits l.y1 15 0 * (if l.m 0 0 = 1 then 24 else 16)) = false →
      (s.core n).readBlocked l.b (bits l.y1 15 0 * bits l.y1 31 16) = false →
      (s.diceNext p 1 = 0 → s.power.clockOn = true → ∃ s', exec (.dicePortStart n) s = .next s' ∧ OtherCores n s s' ∧ (s'.core n).dice.queue = rest ∧
        (s'.core n).dice.run.map (·.cmd) = [l] ∧ (s'.pav p).dice.rnd = (s.pav p).dice.rnd ∧ (s'.pav p).dice.waiting = (s.pav p).dice.waiting) ∧
      (s.diceNext p 1 ≠ 0 → 2 ≤ s.diceNext p 6 → (s.pav p).dice.rnd = none → (s.pav p).dice.waiting = [] →
        s.power.clockOn = true → ∃ s' r x, exec (.dicePortStart n) s = .next s' ∧ OtherCores n s s' ∧ OtherPavs p s s' ∧
        (s'.core n).dice.queue = rest ∧ (s'.core n).dice.run.map (·.cmd) = [l] ∧ (s'.pav p).dice.round = ((s.pav p).dice.round + 1) % 256 ∧
        (s'.pav p).dice.rnd = some r ∧ r.num = ((s.pav p).dice.round + 1) % 256 ∧ r.isOpen = true ∧ r.openAt = s.time.now ∧ r.srcs = [x] ∧
        x.core = n ∧ x.cmd = l.id ∧ x.k = l.m 3 1 + 1 ∧ x.count = bits l.y1 15 0 ∧ x.results = l.c ∧
        r.choices.length = (l.m 3 1 + 1) * bits l.y1 15 0)) ∧
    (bits l.y1 31 16 ≠ s.diceNext p 8 → (s.core n).ctl.drain = .none → s.power.clockOn = true → ∃ s', exec (.dicePortStart n) s = .next s' ∧ OtherCores n s s' ∧
      (s'.core n).dice.queue = rest ∧ (s'.core n).dice.run = [] ∧ (s'.core n).ctl.drain = .fault ∧ (s'.core n).ctl.faultAddr = l.addr ∧
      (s'.core n).ctl.fault % 256 = illegalOp)) ∧
  (∀ (s : State) (p : PavIx) (r : DRound), (s.pav p).dice.rnd = some r → r.isOpen = true → s.power.clockOn = true →
    (s.diceHomes p ≠ [] → ∃ s' r', exec (.diceRoundClose p) s = .next s' ∧ (s'.pav p).dice.rnd = some r' ∧ r'.isOpen = false ∧ r'.num = r.num ∧
      r'.phase = r.phase ∧ r'.awaiting = s.diceHomes p ∧ (Steady s → r.openAt + s.diceEff p 4 ≤ s'.time.now)) ∧
    (s.diceHomes p = [] → (s.pav p).dice.waiting = [] → ∃ s', exec (.diceRoundClose p) s = .next s' ∧
      ∀ r', (s'.pav p).dice.rnd = some r' → r'.isOpen = false)) ∧
  (∀ (s t : State) (p : PavIx) (m : Msg), s.takeMsg (fun m => m.kind = 1 && m.dpav = p && s.reqKind p m ≠ 0) = some (m, t) →
    s.power.clockOn = true →
    (s.reqKind p m = 1 → ∃ s', exec (.diceReqReceived p) s = .next s' ∧ Only [.pavs, .link] s s' ∧ OtherPavs p s s' ∧ s'.link = t.link ∧
      (s'.pav p).dice.homes.length = (s.pav p).dice.homes.length ∧ ∀ (i : Nat) (h : HRound), (s.pav p).dice.homes[i]? = some h →
        ∃ h', (s'.pav p).dice.homes[i]? = some h' ∧ h'.phase = h.phase ∧ h'.closed = h.closed ∧
          h'.reqs = h.reqs ++ m.recs.map (fun x => { tag := bits x 63 0, expert := bits x 79 64 }) ∧
          ∀ c, c ∈ h'.markers ↔ c ∈ h.markers ∨ (c = m.src ∧ bit m.arg0 8 = true)) ∧
    (s.reqKind p m = 2 → ∃ s' r h', exec (.diceReqReceived p) s = .next s' ∧ Only [.pavs, .link] s s' ∧
      OtherPavs p s s' ∧ s'.link = t.link ∧ (s'.pav p).dice.rnd = some r ∧ r.num = m.arg1 ∧ r.srcs = [] ∧ (s'.pav p).dice.homes = [h'] ∧
      h'.reqs = m.recs.map (fun x => { tag := bits x 63 0, expert := bits x 79 64 })) ∧
    (s.reqKind p m = 3 → ∃ s', exec (.diceReqReceived p) s = .next s' ∧ (s'.pav p).dice = (s.pav p).dice ∧ s'.cores = s.cores)) ∧
  ∀ (s t : State) (p : PavIx) (m : Msg), s.takeMsg (fun m => m.kind = 2 && m.dpav = p) = some (m, t) → s.power.clockOn = true →
    ((∀ r, (s.pav p).dice.rnd = some r → m.arg1 ≠ r.num ∨ bits m.arg0 7 0 ≠ r.phase ∨ m.src ∉ r.awaiting) →
      exec (.diceOutcomeReceived p) s = .next t) ∧
    ∀ (r : DRound) (asked : Choice → Prop) (answer : Choice → Nat → Prop), (s.pav p).dice.rnd = some r → m.arg1 = r.num →
      bits m.arg0 7 0 = r.phase → m.src ∈ r.awaiting →
      (∀ c, asked c ↔ c.state = 1 ∧ exChip (s.expert p (c.expert.getD 0)) = m.src) →
      (∀ c x, answer c x ↔ x ∈ m.recs ∧ m.recs.find? (fun y => tgSource y = c.source && tgPos y = c.pos && tgChoice y = c.c) = some x) →
      ((∃ h ∈ r.awaiting, h ≠ m.src) ∨ (∃ c ∈ r.choices, asked c ∧ ∀ x, ¬ answer c x) →
        ∃ s' r', exec (.diceOutcomeReceived p) s = .next s' ∧ (s'.pav p).dice.rnd = some r' ∧
        r'.awaiting = (if r'.choices.any (fun c => c.state = 1 && exChip (s.expert p (c.expert.getD 0)) = m.src) then r.awaiting
          else r.awaiting.filter (fun x => x ≠ m.src)) ∧ r'.phase = r.phase ∧ r'.choices.length = r.choices.length ∧
        ∀ (i : Nat) (c : Choice), r.choices[i]? = some c → (¬ asked c → r'.choices[i]? = some c) ∧
          (asked c → ∀ x, answer c x → ∃ c', r'.choices[i]? = some c' ∧ c'.state = (if bit x 64 then 2 else 0) ∧ c'.expert = c.expert)) ∧
      ((∀ h ∈ r.awaiting, h = m.src) → (∀ c ∈ r.choices, asked c → ∃ x, answer c x) → s.diceHomes p ≠ [] → (s.pav p).dice.round = r.num →
        r.num < 256 → ∃ s', exec (.diceOutcomeReceived p) s = .next s' ∧
          ∀ r', (s'.pav p).dice.rnd = some r' → r'.num = r.num → r'.phase = r.phase + 1)

/-- Admission never takes more rows for an expert than its capacity and answers every request, in order. A phase that has all its markers,
or whose first marker came DICE_WAIT ago, closes: its requests are admitted in the order of class, choice, chip, source and position, and
the next phase begins; the last phase closes the round here and hands its rows to their experts (11 R314, R318). A returned row finishes its
choice, and the results its ROUTE waits for are one fewer; one that nothing waits for is dropped and counted. Choices whose results have not
returned when the hold and a frame are over are finished as refused (11 R317, R325; 13 R365). -/
def Obligations.DiceAdmissionAndResults : Prop :=
  ((∀ (s : State) (p : Nat) (rs adm : List HReq) (x : Nat), (adm.filter (fun a => a.expert = x)).length ≤ exCap (s.expert p x) →
    ((s.diceAdmit p rs adm []).1.filter (fun a => a.expert = x)).length ≤ exCap (s.expert p x)) ∧
  (∀ (s : State) (p : Nat) (rs adm : List HReq), (s.diceAdmit p rs adm []).2.map (·.1) = rs ∧
    (s.diceAdmit p rs adm []).1 = adm ++ ((s.diceAdmit p rs adm []).2.filter (fun a => a.2.2)).map (·.1)) ∧
  ∀ (s : State) (p : PavIx) (h : HRound), (s.pav p).dice.homes = [h] → h.closed = false →
    s.diceEff p 5 ≤ h.markers.length ∨ h.first ≠ none → s.power.clockOn = true →
    ∃ s' l adm, exec (.dicePhaseClose p) s = .next s' ∧ (s.diceEff p 5 ≤ h.markers.length → OtherPavs p s s') ∧ l.Perm h.reqs ∧
      l.Pairwise (fun a b => s.admitKey a ≤ s.admitKey b) ∧ adm = (s.diceAdmit p l h.admitted []).1 ∧
      (h.phase < s.diceEff p 3 → (s'.pav p).dice.toDeliver = (s.pav p).dice.toDeliver) ∧
      (s.diceEff p 3 ≤ h.phase → (s'.pav p).dice.toDeliver = (s.pav p).dice.toDeliver ++ s.diceDeliveries p { h with admitted := adm }) ∧
      ∀ r, (s.pav p).dice.rnd = some r → r.isOpen = false → r.phase ≤ s.diceEff p 3 → (s'.pav p).dice.homes =
        [{ h with phase := h.phase + 1, markers := [], first := none, reqs := [], admitted := adm, closed := decide (s.diceEff p 3 ≤ h.phase) }]) ∧
  (∀ (s t : State) (p : PavIx) (m : Msg), s.takeMsg (fun m => m.kind = 4 && m.dpav = p) = some (m, t) → s.power.clockOn = true →
    (∀ r c src k, (s.pav p).dice.choiceOf m.arg0 = some (r, c) → r.srcs.find? (fun x => x.source = c.source) = some src →
      r.toks.find? (fun t => t.source = c.source && t.pos = c.pos) = some k →
      ∃ s', exec (.diceResultReceived p) s = .next s' ∧ OtherCores src.core s s' ∧ s'.link = t.link ∧
        (∀ z ∈ (s'.pav p).dice.rounds, z.num = r.num → z.openAt = r.openAt → ∀ y ∈ z.choices,
          y.source = c.source → y.pos = c.pos → y.c = c.c → y.state = 4) ∧
        ((s.pav p).dice.rnd = some r → ∃ r', (s'.pav p).dice.rnd = some r' ∧
          (∀ y : Choice, y ∈ r.choices → ¬(y.source = c.source ∧ y.pos = c.pos ∧ y.c = c.c) → y ∈ r'.choices) ∧
          r'.srcs.find? (fun x => x.source = c.source) = some { src with left := src.left - 1 })) ∧
    ((s.pav p).dice.choiceOf m.arg0 = none → ∃ s', exec (.diceResultReceived p) s = .next s' ∧ Only [.link, .tally] s s' ∧
      s'.link = t.link ∧ Sparse.getD s'.tally (tkey 0x27 p) 0 = (Sparse.getD s.tally (tkey 0x27 p) 0 + 1) % 2 ^ 48)) ∧
  ∀ (s : State) (p : PavIx) (r : DRound), r ∈ (s.pav p).dice.rounds → (∃ c ∈ r.choices, c.state = 2) → r.frame + r.hold + 1 ≤ s.frame →
    (∀ y ∈ (s.pav p).dice.rounds, y.num = r.num → y.openAt = r.openAt → y = r) →
    (∀ c ∈ r.choices, c.state = 2 → (r.srcs.find? (fun x => x.source = c.source)).isSome = true ∧
      (r.toks.find? (fun t => t.source = c.source && t.pos = c.pos)).isSome = true) →
    s.power.clockOn = true → ∃ s', exec (.diceSourceExpiry p) s = .next s' ∧ s'.time = s.time ∧
      ((s.pav p).dice.rnd = some r → ∃ r', (s'.pav p).dice.rnd = some r' ∧ r'.num = r.num) ∧
      ∀ z ∈ (s'.pav p).dice.rounds, z.num = r.num → z.openAt = r.openAt → ∀ y ∈ z.choices, y.state ≠ 2

/-- A row of an admitted request joins its round; a round's rows go to an expert's inbox behind its round number, count and tags, and its counter
counts them; no other byte of the Plot changes. A release or the end of the hold takes the inbox away and returns every row by its tag: a
released row as it stands, an expired one refused, and refused with NO_EXPERT where the home core can take or give none any more; rows for such
a core come back without delivery (11 R318, R319, R324, R326). -/
def Obligations.DiceExperts : Prop :=
  (∀ (s t : State) (p : PavIx) (m : Msg), s.takeMsg (fun m => m.kind = 3 && m.dpav = p) = some (m, t) →
    s.power.clockOn = true → ∃ s', exec (.diceRowReceived p) s = .next s' ∧ Only [.pavs, .link] s s' ∧ OtherPavs p s s' ∧ s'.link = t.link ∧
      (∀ h a, (s.pav p).dice.homes = [h] → h.num = tgRound m.arg0 → a ∈ h.admitted → sameTag a.tag m.arg0 = true →
        (s'.pav p).dice.homes = [{ h with rows := h.rows ++ [{ tag := m.arg0, row := m.data }] }]) ∧
      ∀ (i : Nat) (dl : Delivery), (s.pav p).dice.toDeliver[i]? = some dl → ∃ dl', (s'.pav p).dice.toDeliver[i]? = some dl' ∧
        dl'.expert = dl.expert ∧ (dl.expert = m.arg1 → ∀ y ∈ dl'.rows, sameTag y.tag m.arg0 = true → y.row = m.data)) ∧
  (∀ (s : State) (p : PavIx) (x : Nat) (dl : Delivery), (s.pav p).dice.toDeliver.find? (fun d => d.expert = x) = some dl →
    (∀ b ∈ (s.pav p).dice.inboxes, b.expert ≠ x) →
    (∀ m ∈ s.link.delivered, ¬(m.kind = 3 ∧ m.dpav = p ∧ m.arg1 = x ∧ tgRound m.arg0 = dl.round)) → s.power.clockOn = true →
    (s.homeUp p (exCore dl.entry) = true → ∃ s' b, exec (.diceInboxDeliver p x) s = .next s' ∧ OtherCores (exCore dl.entry) s s' ∧
      (s'.pav p).dice.toDeliver = (s.pav p).dice.toDeliver.erase dl ∧ (s'.pav p).dice.inboxes = (s.pav p).dice.inboxes ++ [b] ∧ b.expert = x ∧
      b.round = dl.round ∧ b.core = exCore dl.entry ∧ b.rowBytes = dl.rowBytes ∧
      ∀ k, (s'.core (exCore dl.entry)).cnt k = (s.core (exCore dl.entry)).cnt k + (if k = exCnt dl.entry then 1 else 0)) ∧
    (s.homeUp p (exCore dl.entry) = false → ∃ s', exec (.diceInboxDeliver p x) s = .next s' ∧ s'.cores = s.cores ∧
      (s'.pav p).dice.toDeliver = (s.pav p).dice.toDeliver.erase dl ∧ (s'.pav p).dice.inboxes = (s.pav p).dice.inboxes)) ∧
  (∀ (s : State) (p : PavIx) (x : Nat) (b : Inbox) (c : Instr), (s.pav p).dice.inboxes.find? (fun b => b.expert = x) = some b →
    s.power.clockOn = true → c = .diceRelease p x ∨ c = .diceHoldExpiry p x →
    s.homeUp p b.core = false ∨ cntReached ((s.core b.core).cnt b.cnt) (BitVec.ofNat 32 b.target) = true ∨ c = .diceHoldExpiry p x →
    ∃ s', exec c s = .next s' ∧ OtherCores b.core s s' ∧ (s'.pav p).dice.inboxes = (s.pav p).dice.inboxes.erase b ∧
      (s'.core b.core).plot = (s.core b.core).plot) ∧
  (∀ (s : State) (p : PavIx) (x : Nat) (dl : Delivery) (more : List Delivery) (rows : List TagRow), (s.pav p).dice.toDeliver = dl :: more →
    dl.expert = x → rows = dl.rows.filter (fun r => !r.row.isEmpty) → (∀ b ∈ (s.pav p).dice.inboxes, b.expert ≠ x) →
    (∀ m ∈ s.link.delivered, ¬(m.kind = 3 ∧ m.dpav = p ∧ m.arg1 = x ∧ tgRound m.arg0 = dl.round)) → s.homeUp p (exCore dl.entry) = true →
    dl.rowBytes % 64 = 0 → (∀ r ∈ rows, r.row.length = dl.rowBytes) → rows.length ≤ exCap dl.entry →
    s.power.clockOn = true → ∃ s' b, exec (.diceInboxDeliver p x) s = .next s' ∧ OtherCores (exCore dl.entry) s s' ∧
      (s'.pav p).dice.toDeliver = more ∧ (s'.pav p).dice.inboxes = (s.pav p).dice.inboxes ++ [b] ∧ b.expert = x ∧ b.round = dl.round ∧
      b.core = exCore dl.entry ∧ b.rowBytes = dl.rowBytes ∧ b.tags = rows.map (·.tag) ∧
      Mem.read (s'.core (exCore dl.entry)).plot.bytes (exInbox dl.entry) 8 = leBytes 4 dl.round ++ leBytes 4 rows.length ∧
      (∀ k r, rows[k]? = some r →
        ((s.core (exCore dl.entry)).pint.broken = [] →
          Mem.read (s'.core (exCore dl.entry)).plot.bytes (exInbox dl.entry + 256 + 8 * k) 8 = leBytes 8 r.tag) ∧
        Mem.read (s'.core (exCore dl.entry)).plot.bytes
          (exInbox dl.entry + inboxHead (exCap dl.entry) + k * dl.rowBytes) dl.rowBytes = rawBytes r.row) ∧
      (∀ a, a < exInbox dl.entry ∨ exInbox dl.entry + inboxHead (exCap dl.entry) + exCap dl.entry * dl.rowBytes ≤ a →
        Mem.byte (s'.core (exCore dl.entry)).plot.bytes a = Mem.byte (s.core (exCore dl.entry)).plot.bytes a) ∧
      ∀ k, (s'.core (exCore dl.entry)).cnt k = (s.core (exCore dl.entry)).cnt k + (if k = exCnt dl.entry then 1 else 0)) ∧
  (∀ (s : State) (p : PavIx) (x : Nat) (b : Inbox) (more : List Inbox) (c : Instr), (s.pav p).dice.inboxes = b :: more → b.expert = x →
    (∀ t ∈ b.tags, s.routeByte (tgChip t) = 0xFE) → (s.pav p).st = .active → (s.pav p).resetAt = 0 → s.power.clockOn = true →
    c = .diceRelease p x ∨ c = .diceHoldExpiry p x →
    (s.homeUp p b.core = true → cntReached ((s.core b.core).cnt b.cnt) (BitVec.ofNat 32 b.target) = true →
      ∃ s' l, exec c s = .next s' ∧ OtherCores b.core s s' ∧ (s'.pav p).dice.inboxes = more ∧
        s'.link.delivered = s.link.delivered ++ l ∧ l.map (fun m => m.arg0 / 1024) = b.tags.map (fun t => t / 1024) ∧
        (∀ m ∈ l, m.kind = 4 ∧ m.dpav = p ∧ m.arg1 = x ∧ m.data.length = b.rowBytes) ∧
        (s'.core b.core).plot = (s.core b.core).plot) ∧
    (s.homeUp p b.core = false →
      ∃ s' l, exec c s = .next s' ∧ s'.cores = s.cores ∧ (s'.pav p).dice.inboxes = more ∧
        s'.link.delivered = s.link.delivered ++ l ∧ l.map (fun m => m.arg0 / 1024) = b.tags.map (fun t => t / 1024) ∧
        ∀ m ∈ l, m.kind = 4 ∧ m.arg1 = x ∧ bit m.arg0 1 = true ∧ bit m.arg0 6 = true ∧ m.data = zeroRow b.rowBytes) ∧
    (s.homeUp p b.core = true → cntReached ((s.core b.core).cnt b.cnt) (BitVec.ofNat 32 b.target) = false →
      exec (.diceRelease p x) s = .next s ∧
      ∃ s' l, exec (.diceHoldExpiry p x) s = .next s' ∧ s'.cores = s.cores ∧ (s'.pav p).dice.inboxes = more ∧
        s'.link.delivered = s.link.delivered ++ l ∧ l.map (fun m => m.arg0 / 1024) = b.tags.map (fun t => t / 1024) ∧
        ∀ m ∈ l, m.kind = 4 ∧ m.arg1 = x ∧ bit m.arg0 0 = true ∧ bit m.arg0 6 = true ∧ m.data = zeroRow b.rowBytes)) ∧
  ∀ (s : State) (p : PavIx) (x : Nat) (dl : Delivery) (more : List Delivery), (s.pav p).dice.toDeliver = dl :: more → dl.expert = x →
    (∀ b ∈ (s.pav p).dice.inboxes, b.expert ≠ x) →
    (∀ m ∈ s.link.delivered, ¬(m.kind = 3 ∧ m.dpav = p ∧ m.arg1 = x ∧ tgRound m.arg0 = dl.round)) → s.homeUp p (exCore dl.entry) = false →
    (∀ r ∈ dl.rows, s.routeByte (tgChip r.tag) = 0xFE) → (s.pav p).st = .active → (s.pav p).resetAt = 0 → s.power.clockOn = true →
    ∃ s' l, exec (.diceInboxDeliver p x) s = .next s' ∧ s'.cores = s.cores ∧ (s'.pav p).dice.toDeliver = more ∧
      s'.link.delivered = s.link.delivered ++ l ∧ l.map (fun m => m.arg0 / 1024) = dl.rows.map (fun r => r.tag / 1024) ∧
      ∀ m ∈ l, m.kind = 4 ∧ m.arg1 = x ∧ bit m.arg0 1 = true ∧ bit m.arg0 6 = true ∧ m.data = zeroRow dl.rowBytes

/-- BS_ADMIT of a legal entry makes a FREE stream of the slice IDLE under its Pavilion; a bad entry, a foreign ID, a stream in use and a
contract that does not fit are refused in this order, and change no stream. BS_RETIRE marks a stream, and the next slot start frees it before
anything else and discards its rows. Reading BS_STATUS clears its overrun bit alone (12 R331, R332, R335, R345). -/
def Obligations.BandstandStreams : Prop :=
  (∀ (s : State) (who : Requester) (p : PavIx) (e : Nat), Serves s who → (∃ o, s.writeOk who (0x2410 + p) 0xF none = .ok o) → e < 2 ^ 256 →
    (entryBad e = false → s.inSlice p (bits e 11 0) = true → seState (s.stream (bits e 11 0)) = 0 → (seClass e = 0 → s.ctFits p = true) →
      ∃ s', exec (.bsAdmit who p e) s = .next s' ∧ Only [.streams, .dict, .out] s s' ∧ Answered s s' who 0 0 ∧
        (∀ j, j ≠ bits e 11 0 → s'.stream j = s.stream j) ∧ seState (s'.stream (bits e 11 0)) = 1 ∧
        bits (s'.stream (bits e 11 0)) 37 34 = p ∧ sePos (s'.stream (bits e 11 0)) = sePos e ∧ sePending (s'.stream (bits e 11 0)) = 0 ∧
        seClass (s'.stream (bits e 11 0)) = seClass e ∧ bits (s'.stream (bits e 11 0)) 255 98 = bits e 255 98) ∧
    (∀ code, (entryBad e = true ∧ code = stRange) ∨ (entryBad e = false ∧ s.inSlice p (bits e 11 0) = false ∧ code = 0x102) ∨
        (entryBad e = false ∧ s.inSlice p (bits e 11 0) = true ∧ seState (s.stream (bits e 11 0)) ≠ 0 ∧ code = 0x101) ∨
        (entryBad e = false ∧ s.inSlice p (bits e 11 0) = true ∧ seState (s.stream (bits e 11 0)) = 0 ∧ seClass e = 0 ∧ s.ctFits p = false ∧
          code = 0x103) →
      ∃ s', exec (.bsAdmit who p e) s = .next s' ∧ Only [.dict, .out] s s' ∧ Answered s s' who code 0)) ∧
  (∀ (s : State) (who : Requester) (p : PavIx) (id : Nat), Takes s who (0x2410 + p) 0x10 2 id → id < 65536 → s.inSlice p id = true →
    seState (s.stream id) ≠ 0 → ∃ s', exec (.bsRetire who p id) s = .next s' ∧ Only [.pavs, .dict, .out] s s' ∧ OtherPavs p s s' ∧
      Answered s s' who 0 0 ∧
      s'.pav p = { s.pav p with bs := { (s.pav p).bs with retire := (s.pav p).bs.retire ++ [id] } }) ∧
  (∀ (s : State) (who : Requester) (p : PavIx), Gives s who (0x2410 + p) 0x12 →
    ∃ s', exec (.bsStatusRead who p) s = .next s' ∧ Only [.pavs, .dict, .out] s s' ∧ OtherPavs p s s' ∧
      Answered s s' who 0 (s.bsStatus p) ∧ s'.pav p = { s.pav p with bs := { (s.pav p).bs with overrun := false } }) ∧
  (∀ s : State, s.power.clockOn = true → ∃ s', exec .bsSlotStart s = .next s' ∧ s'.cyc.slotDone = some (absSlot s'.time.now) ∧
    (∀ j, s.cyc.slotDone = some j → absSlot s.time.now ≤ j → Steady s → absSlot s.time.now < absSlot s'.time.now) ∧
    ∀ p, p < 16 → (s'.pav p).bs.retire = []) ∧
  ∀ s : State, (∀ p, p < 16 → s.obj (0x2410 + p) 0xC ≠ 1 ∧ (s.pav p).bs.due = none) →
    s.power.clockOn = true → ∃ s', exec .bsSlotStart s = .next s' ∧ Only [.time, .cyc, .pavs, .tally, .streams] s s' ∧ s'.cyc.slotDone = some (absSlot s'.time.now) ∧
      (∀ p, p < 16 → (s'.pav p).bs.retire = [] ∧
        (s'.pav p).bs.queue = (s.pav p).bs.queue.filter (fun r => !(s.pav p).bs.retire.contains r.stream)) ∧
      (∀ p id, p < 16 → id ∈ (s.pav p).bs.retire → s'.stream id = freeEntry) ∧
      ∀ id, (∀ p, p < 16 → id ∉ (s.pav p).bs.retire) → s'.stream id = s.stream id

/-- A ready record that is legal adds its rows to the queue and to its stream's PENDING; any other is dropped and counted. The ring read
takes the tail for the head: at most a ring's length behind it is normal, further it is an overrun, and a tail behind the head moves nothing
(12 R334, R335); a ring in the host window is read when the host has answered. At a deadline slot, in its turn of Table 2-3, batches close as
FILL where the rows reach the threshold, else one closes with the rows that may be taken, if any; while closed batches wait for a free record
the first that waits is marked late, and nothing closes. The oldest closed batch is written into the next record of the ring, the batch counter
counts it, and no byte outside the record changes but as a read of its last line shows it (02 R52; 09 R241; 12 R336, R337, R339, R340). -/
def Obligations.BandstandRingAndBatches : Prop :=
  ((∀ (s : State) (p r : Nat), bits r 63 48 = 0 → bits r 39 12 = 0 → bits r 47 40 ≠ 0 → bits r 47 40 ≤ 128 → s.inSlice p (bits r 11 0) = true →
    seState (s.stream (bits r 11 0)) ≠ 0 → seHome (s.stream (bits r 11 0)) = true → seEnd (s.stream (bits r 11 0)) = false →
    sePending (s.stream (bits r 11 0)) + bits r 47 40 ≤ 65535 →
    Only [.streams, .pavs] s (s.bsRecord p r) ∧ OtherPavs p s (s.bsRecord p r) ∧
      ((s.bsRecord p r).pav p).bs.queue = (s.pav p).bs.queue ++
        List.replicate (bits r 47 40) { stream := bits r 11 0, defer := 0, at_ := s.time.now, slot := s.cyc.slotDone.getD 0 } ∧
      sePending ((s.bsRecord p r).stream (bits r 11 0)) = sePending (s.stream (bits r 11 0)) + bits r 47 40 ∧
      seState ((s.bsRecord p r).stream (bits r 11 0)) = 2) ∧
  (∀ (s : State) (p r : Nat), p < 16 → bits r 47 40 = 0 ∨ 128 < bits r 47 40 ∨ s.inSlice p (bits r 11 0) = false ∨
      seState (s.stream (bits r 11 0)) = 0 ∨ seHome (s.stream (bits r 11 0)) = false ∨ seEnd (s.stream (bits r 11 0)) = true →
    Only [.tally] s (s.bsRecord p r) ∧
      Sparse.getD (s.bsRecord p r).tally (tkey 0x25 p) 0 = (Sparse.getD s.tally (tkey 0x25 p) 0 + 1) % 2 ^ 48) ∧
  (∀ (s : State) (p size tail d : Nat) (t : List PByte) (s1 : State), size = 2 ^ s.bsEff p 6 →
    s.unitRead p (s.bsEff p 5 + 8 * size) 4 0 = (.ok t, s1) → tail = leNat (rawBytes t) →
    d = (tail + 2 ^ 32 - (s.pav p).bs.head % 2 ^ 32) % 2 ^ 32 →
    ((s.pav p).bs.headInit = true → ((s.bsRing p).pav p).bs.head = tail ∧ ((s.bsRing p).pav p).bs.headInit = false ∧
      ((s.bsRing p).pav p).bs.queue = (s.pav p).bs.queue) ∧
    ((s.pav p).bs.headInit = false →
      (2 ^ 31 ≤ d → ((s.bsRing p).pav p).bs.head = (s.pav p).bs.head ∧ ((s.bsRing p).pav p).bs.overrun = true ∧
        ((s.bsRing p).pav p).bs.queue = (s.pav p).bs.queue) ∧
      (d < 2 ^ 31 → (s1.bsRecords p (s.bsEff p 5) size (tail + 2 ^ 32 - min d size) (min d size)).1 ≠ .wait →
        ((s.bsRing p).pav p).bs.head = tail ∧ ((s.bsRing p).pav p).bs.reading = false ∧
        (size < d → ((s.bsRing p).pav p).bs.overrun = true)) ∧
      (d < 2 ^ 31 → (s1.bsRecords p (s.bsEff p 5) size (tail + 2 ^ 32 - min d size) (min d size)).1 = .wait →
        ((s.bsRing p).pav p).bs.head = (s.pav p).bs.head ∧ ((s.bsRing p).pav p).bs.reading = true))) ∧
  (∀ (s : State) (p cause : Nat) (s1 : State), s.unitRead p (s.bsEff p 5 + 8 * 2 ^ s.bsEff p 6) 4 0 = (.error cause, s1) →
    ((s.bsRing p).pav p).bs.ringFault = true ∧ ((s.bsRing p).pav p).bs.head = (s.pav p).bs.head ∧
    ((s.bsRing p).pav p).bs.queue = (s.pav p).bs.queue)) ∧
  (∀ (s : State) (p : PavIx) (k : Nat), s.obj (0x2410 + p) 0xC ≠ 0 → s.bsNext p = some k →
    s.turn { at_ := absStart k, rank := 4, pav := p } = true → s.power.clockOn = true →
    ((s.pav p).bs.due = some k →
      (s.bsStuck p = false → s.bsFull p (some k) = false → s.takeable p (some k) ≠ [] → ∃ s' b, exec (.batchDeadline p) s = .next s' ∧
        Only [.pavs, .streams, .tally] s s' ∧ OtherPavs p s s' ∧ (s'.pav p).bs.waiting = (s.pav p).bs.waiting ++ [b] ∧
        b.num = (s.pav p).bs.batchNo ∧ b.fill = false ∧ b.time = s.time.now ∧ b.rows.length ≤ s.bsEff p 3 ∧
        b.flags = b2n s.timeFree + 2 * b2n s.holdover + 8 * b2n (s.steppedPast (absStart k)) ∧ (s'.pav p).bs.due = none ∧
        (s'.pav p).bs.lastDue = some k ∧ (s'.pav p).bs.batchNo = ((s.pav p).bs.batchNo + 1) % 2 ^ 32) ∧
      (s.bsStuck p = false → s.takeable p (some k) = [] → ∃ s', exec (.batchDeadline p) s = .next s' ∧ Only [.pavs] s s' ∧ OtherPavs p s s' ∧
        s'.pav p = { s.pav p with bs := { (s.pav p).bs with due := none, lastDue := some k } }) ∧
      (s.bsStuck p = false → s.bsFull p (some k) = true → ∃ s' b more, exec (.batchDeadline p) s = .next s' ∧
        Only [.pavs, .streams, .tally] s s' ∧ OtherPavs p s s' ∧ (s'.pav p).bs.waiting = (s.pav p).bs.waiting ++ b :: more ∧
        b.num = (s.pav p).bs.batchNo ∧ b.fill = true ∧ b.time = s.time.now ∧ b.rows.length = s.bsEff p 3) ∧
      (s.bsStuck p = true → ∃ s', exec (.batchDeadline p) s = .next s' ∧ Only [.pavs, .tally] s s' ∧ OtherPavs p s s' ∧
        (s'.pav p).bs.waiting.length = (s.pav p).bs.waiting.length ∧
        (∀ i b, (s.pav p).bs.waiting[i]? = some b → ∃ b', (s'.pav p).bs.waiting[i]? = some b' ∧ b'.rows = b.rows ∧ b'.num = b.num ∧
          (i = s.bsRoom p → bit b'.flags 2 = true) ∧ (i ≠ s.bsRoom p → b' = b)) ∧ (s'.pav p).bs.batchNo = (s.pav p).bs.batchNo ∧
        Sparse.getD s'.tally (tkey 0x26 p) 0 = (Sparse.getD s.tally (tkey 0x26 p) 0 + 1) % 2 ^ 48)) ∧
    ((s.pav p).bs.due = none → ∃ s', exec (.batchDeadline p) s = .next s' ∧ Only [.time, .cyc, .pavs, .streams, .tally] s s' ∧
      (Steady s → absStart k ≤ s'.time.now) ∧ (s'.pav p).bs.due = none ∧ (s'.pav p).bs.lastDue = some k)) ∧
  ∀ (s : State) (p : PavIx) (b : Batch) (rest : List Batch) (a : Nat), (s.pav p).bs.waiting = b :: rest → s.bsRoom p ≠ 0 →
    a = 256 * (s.bsEff p 8 + 17 * ((s.pav p).bs.written % s.bsEff p 9)) → s.power.clockOn = true →
    ∃ s', exec (.bsBatchDeliver p) s = .next s' ∧ OtherCores (s.bsEff p 7) s s' ∧ (s'.pav p).bs.waiting = rest ∧
      (s'.pav p).bs.written = (s.pav p).bs.written + 1 ∧
      (∀ i, i < b.bytes.length → a + i < plotSize → Mem.byte (s'.core (s.bsEff p 7)).plot.bytes (a + i) = b.bytes.getD i 0) ∧
      (∀ x, x < a ∨ a + b.bytes.length ≤ x → Mem.byte (s'.core (s.bsEff p 7)).plot.bytes x =
        if x / 64 ∈ linesOf a (min b.bytes.length (plotSize - a)) then (s.core (s.bsEff p 7)).byteSeen x
        else Mem.byte (s.core (s.bsEff p 7)).plot.bytes x) ∧
      ∀ k, (s'.core (s.bsEff p 7)).cnt k = (s.core (s.bsEff p 7)).cnt k + (if k = s.bsEff p 0xA % 64 then 1 else 0)

/-- A time word carries the count, the epoch and the hops of its chip. A chip without an epoch takes the epoch and the count of the
neighbour that is nearest to the source; a word of another epoch is set aside but for the mark of its port; a word of the same epoch gives
its port's place in the tree and, on the upstream port, the offset. A port 64 µs without a word leaves the tree (02 R36, R39 to R41; 19
R530). -/
def Obligations.SundialWords : Prop :=
  (∀ (s : State) (q : PortIx), (s.port q).st = 4 → s.blp q = true → (s.port q).peerHold = false → s.chipState ≠ 5 →
    s.power.clockOn = true → ∃ (s' : State) (f : Flit), exec (.timeWordDue q) s = .next s' ∧ Only [.time, .cyc, .pavs, .tally, .ports, .out] s s' ∧ OtherPorts q s s' ∧
      s'.out = s.out ++ [.flit q (fecBlocks (s.port q).blocks f.encode)] ∧ f.ty = ftTime ∧ bits f.payload 63 0 = s'.time.now % 2 ^ 64 ∧
      bits f.payload 223 160 = (s.time.epoch.getD { id := 0, tai := 0 }).id % 2 ^ 64 ∧ bits f.payload 319 312 = s.hopsOut % 256 ∧
      (s'.port q).tm.txSeq = ((s.port q).tm.txSeq + 1) % 2 ^ 16 ∧ (s'.port q).tm.lastSent = s'.cyc.ns) ∧
  (∀ (s : State) (q : PortIx) (f : Flit) (k : Nat), (s.port q).st = 4 → s.blp q = true → f.wf = true → f.ty = ftTime →
    (s.time.epoch = none → bits f.payload 223 160 ≠ 0 → (∀ r, r ≠ q.val → s.liveTime r = false) →
      s.power.clockOn = true → ∃ s', exec (.timeFlitReceived q f.encode (some k)) s = .next s' ∧
        s'.time.epoch = some { id := bits f.payload 223 160, tai := bits f.payload 287 224 } ∧
        s'.time.now = bits f.payload 63 0 + s'.portDelay q) ∧
    (∀ e, s.time.epoch = some e → bits f.payload 223 160 ≠ 0 → bits f.payload 223 160 ≠ e.id →
      s.power.clockOn = true → ∃ s', exec (.timeFlitReceived q f.encode (some k)) s = .next s' ∧ s'.time.epoch = some e ∧ s'.time.now = s.time.now ∧
        (s'.port q).tm = { (s.port q).tm with mismatch := true } ∧ s'.time.upstream = s.time.upstream) ∧
    (∀ e, s.time.epoch = some e → bits f.payload 223 160 = e.id →
      s.power.clockOn = true → ∃ s', exec (.timeFlitReceived q f.encode (some k)) s = .next s' ∧ s'.time.epoch = some e ∧ s'.time.now = s.time.now ∧
        (s'.port q).tm.hops = bits f.payload 319 312 ∧ (s'.port q).tm.src = bits f.payload 302 288 ∧ (s'.port q).tm.last = some s.cyc.ns ∧
        (s'.time.isSource = false → s'.time.upstream = some q.val →
          s'.time.offset = some ((s.time.now : Int) - ((bits f.payload 63 0 + s'.portDelay q : Nat) : Int)))) ∧
    (bits f.payload 223 160 = 0 → s.power.clockOn = true → ∃ s', exec (.timeFlitReceived q f.encode (some k)) s = .next s' ∧
      s'.time.epoch = s.time.epoch ∧ s'.time.now = s.time.now ∧ (s'.port q).tm.mismatch = false ∧ (s'.port q).tm.last = some s.cyc.ns) ∧
    (s.time.epoch = none → bits f.payload 223 160 ≠ 0 → s.power.clockOn = true →
      ∃ s', exec (.timeFlitReceived q f.encode (some k)) s = .next s' ∧ (s'.port q).tm.last = some s.cyc.ns ∧
        (s'.port q).tm.epoch = bits f.payload 223 160 ∧ (s'.time.epoch = none ∧ s'.time.now = s.time.now ∨
          s'.time.epoch = some { id := bits f.payload 223 160, tai := bits f.payload 287 224 } ∧
          s'.time.now = bits f.payload 63 0 + s'.portDelay q))) ∧
  ∀ (s : State) (q : PortIx) (t : Nat), (s.port q).tm.last = some t →
    ∃ s', exec (.portTimeLiveExpiry q) s = .next s' ∧ s'.cores = s.cores ∧ (s.boot.pwrgood = true → s'.liveTime q = false) ∧
      (s.boot.pwrgood = true → s.time.isSource = false → s'.time.upstream ≠ some q.val)

/-- 250 µs without a source open an election; the highest priority wins it, then the lowest chip ID. The winner is the source: LOCKED to
itself with a bound of 0, and its count starts an epoch where it had none. HOLDOVER ends in FREE after 2 s. At a frame boundary the
contracts are latched, faulty ports retrain, the eighth offset in bound locks the chip, and a count more than 1 µs behind steps (02 R36,
R38, R48, R50; 13 R371; 16 R452; 19 R530). A Sync gives the offset to PTP on a chip that follows it, and 3 s without one end the lock.
SUNDIAL_REFORM drops the epoch unless a Pavilion is active; a chip alone forms its own. The PPS output rises with the second and falls 100
µs later, and is low in FREE; the PPS input records the count less the cable delay, and trims the source's rate by no more than 500 ppm.
Reading SUNDIAL_STATUS clears its step bit (02 R37, R43 to R47, R57; 19 R530). -/
def Obligations.SundialStatesAndSources : Prop :=
  ((∀ (s : State) (t : Nat), s.time.lossSince = some t → s.time.isSource = false →
    ∃ s', exec .sourceLoss s = .next s' ∧ Only [.time, .cyc, .pavs, .tally] s s' ∧
      (s.boot.pwrgood = true → t + 250000 ≤ s'.cyc.ns) ∧
      (s.time.epoch.isSome = true → t + 250000 ≤ s.cyc.ns → (∃ q, q < 64 ∧ s.liveTime q = true) →
        (∀ q, q < 64 → s.liveTime q = true → (s.port q).tm.hops = 0xFF) → s'.time.electing = true) ∧
      ((∀ q, q < 64 → s.liveTime q = false) → s'.time.electing = s.time.electing ∧ s'.time.lossSince = none)) ∧
  (∀ (s : State) (others : List Candidate), s.time.isSource = false →
    (s.time.epoch = none ∧ s.livePorts = [] ∧ s.boot.phase = 8) ∨ s.time.electing = true →
    ((s.obj 0x1101 1 ≠ 0 ∧ ∀ o ∈ others, o.prio < s.obj 0x1101 1 ∨ (o.prio = s.obj 0x1101 1 ∧ s.chipId ≤ o.chip)) →
      ∃ s', exec (.sourceElection others) s = .next s' ∧ s'.time.isSource = true ∧ s'.time.st = 2 ∧ s'.time.ref = 3 ∧ s'.time.hops = 0 ∧
        s'.time.electing = false ∧ s'.errBound = 0 ∧
        (∀ e, s.time.epoch = some e → s'.time.epoch = some e ∧ s'.time.now = s.time.now) ∧
        (s.time.epoch = none → s'.time.now = 0 ∧ ∃ e, s'.time.epoch = some e ∧ e.id / 2 ^ 48 = s.chipId % 2 ^ 15)) ∧
    (s.obj 0x1101 1 = 0 ∨ (∃ o ∈ others, s.obj 0x1101 1 < o.prio ∨ (o.prio = s.obj 0x1101 1 ∧ o.chip < s.chipId)) →
      ∃ s', exec (.sourceElection others) s = .next s' ∧ Only [.time] s s' ∧ s'.time = { s.time with electing := false })) ∧
  (∀ (s : State) (t : Nat), s.time.st = 1 → s.time.holdSince = some t → ∃ s', exec .holdoverExpiry s = .next s' ∧ s'.time.st = 0 ∧
    s'.time.isSource = s.time.isSource ∧ s'.time.epoch = s.time.epoch) ∧
  ∀ s : State, ∃ s', exec .sundialFrameBoundary s = .next s' ∧ s'.cores = s.cores ∧
    (∀ p k, p < 16 → 1 ≤ k → k ≤ 18 → Sparse.getD (s'.pav p).ct.eff k 0 = s.obj (0x3180 + 8 * p) k) ∧
    (∀ q, (s.port q).frameUncorr ≠ 0 → 2 ≤ (s.port q).st → (s.port q).st ≤ 4 → (s'.port q).st = 5) ∧
    (Steady s → s'.frame = s.frame + 1) ∧
    ((∀ r ∈ s.ports, r.2.frameUncorr = 0) → s.time.isSource = false → ∀ o, s.time.offset = some o →
      (o < -1000 → s'.time.st = 0 ∧ s'.time.stepped = true ∧ s'.time.offset = some 0) ∧
      (-1000 ≤ o → s.residual o ≤ 16000 → 7 ≤ s.time.inBound → s.time.st ≠ 2 → s.time.epoch.isSome = true → s.time.upstream.isSome = true →
        s'.time.st = 2 ∧ s'.time.ref = 1 ∧ s'.time.lockBound = 12))) ∧
  (∀ (s : State) (m : PtpSync), s.obj 0x1103 1 = 1 → s.mgmtNet = true → m.udp4 = true → m.peerDelay = false → m.domain = s.obj 0x1103 2 →
    1 ≤ m.rate → m.rate ≤ 128 →
    ∃ s', exec (.ptpSyncReceived m) s = .next s' ∧ Only [.time] s s' ∧
      s'.time.ptpOffset = m.offset + ((s.obj 0x1103 3 : Int) - (s.obj 0x1103 4 : Int)) / 2 ∧
      s'.time.ptpLast = some s.cyc.ns ∧ s'.time.now = s.time.now ∧
      (s.time.isSource = true ∨ s.time.upstream.isSome = true → s'.time.offset = s.time.offset ∧ s'.time.st = s.time.st) ∧
      (s.time.isSource = false → s.time.upstream = none → (s.time.st ≠ 1 → s'.time.ref = 2) ∧
        (s.time.epoch.isSome = true → s'.time.offset = some s'.time.ptpOffset ∧
          (s.time.st = 2 → s'.time.st = if 1000 < s'.time.ptpOffset.natAbs then 0 else 2)))) ∧
  (∀ (s : State) (m : PtpSync), m.udp4 = false ∨ m.peerDelay = true ∨ m.domain ≠ s.obj 0x1103 2 ∨ m.rate = 0 ∨ 128 < m.rate →
    exec (.ptpSyncReceived m) s = .next s) ∧
  (∀ (s : State) (t : Nat), s.time.ptpLast = some t → ∃ s', exec .ptpSyncTimeout s = .next s' ∧ s'.time.ptpLast = none ∧
    (s.time.isSource = false → s.time.st = 2 → s.time.ref = 2 → s'.time.st = 1)) ∧
  (∀ (s : State) (who : Requester), Takes s who 0x1106 1 1 1 →
    (s.anyPav = false → ∃ s', exec (.sundialReform who 1) s = .next s' ∧ Replied s s' who 0 0 ∧ s'.time.epoch = none ∧
      s'.time.st = (if s.time.st = 1 then 1 else 0) ∧ s'.time.isSource = false ∧ s'.time.now = s.time.now) ∧
    (s.anyPav = true → ∃ s', exec (.sundialReform who 1) s = .next s' ∧ Answered s s' who stState 0 ∧ Only [.dict, .out] s s')) ∧
  (∀ s : State, s.time.epoch = none → s.boot.phase = 8 → s.obj 0x1101 1 ≠ 0 → (∀ r ∈ s.ports, r.2.st ≠ 4) →
    ∃ s' e, exec .ownEpochForm s = .next s' ∧ s'.time.epoch = some e ∧ e.id / 2 ^ 48 = s.chipId % 2 ^ 15 ∧ s'.time.isSource = true ∧
      s'.time.st = 2 ∧ s'.time.ref = 3 ∧ s'.time.now = 0) ∧
  (∀ s : State, ∃ s', exec .ppsOutRise s = .next s' ∧ Only [.time, .cyc, .pavs, .tally] s s' ∧
    s'.time.ppsOut = (s.time.ppsOut || (decide (s.obj 0x1104 2 = 1) && decide (s.time.st ≠ 0)))) ∧
  (∀ s : State, s.time.ppsOut = true → ∃ s', exec .ppsOutFall s = .next s' ∧ Only [.time, .cyc, .pavs, .tally] s s' ∧ s'.time.ppsOut = false) ∧
  (∀ s : State, ∃ s', exec .ppsInEdge s = .next s' ∧ Only [.time, .free] s s' ∧ s'.time.now = s.time.now ∧
    (s.obj 0x1104 1 = 1 ∨ s.obj 0x1104 1 = 2 → s'.time.ppsLast = ((s.time.now : Int) - toSigned 32 (s.obj 0x1104 4)).toNat) ∧
    (s.obj 0x1104 1 = 2 → s.time.isSource = true → -500 ≤ s'.time.trim ∧ s'.time.trim ≤ 500) ∧
    (s.obj 0x1104 1 ≠ 2 ∨ s.time.isSource = false → s'.time.trim = s.time.trim) ∧
    (s.obj 0x1104 1 ≠ 1 → s.obj 0x1104 1 ≠ 2 → s' = s)) ∧
  ∀ (s : State) (who : Requester), Gives s who 0x1100 7 → ∃ s', exec (.sundialStatusRead who) s = .next s' ∧ Only [.time, .dict, .out] s s' ∧
    Answered s s' who 0 s.sundialStatus ∧ s'.time = { s.time with stepped := false }

/-- Every legal flit that is sent is read back as it was: no field of its header, no byte of its payload is lost, and its check holds (13 R352,
R353, Table 13-2, Table 13-3). -/
def Obligations.FlitRoundTrip : Prop := ∀ f : Flit, f.wf = true → Flit.decode f.encode = some f

/-- A bad flit is counted and answered with a NAK. A good DATA flit in order is accepted into its channel's buffer; a later one is NAKed, an
earlier one dropped, a far one a protocol error. Acknowledgements empty the retry buffer, credits are added, a NAK replays; HOLD and INIT
give the peer's estimate and credits (13 R353, R355, R357, R358, R368, R370). -/
def Obligations.FlitReception : Prop :=
  (∀ (s : State) (q : PortIx) (x : BitVec 2048) (u : Option Nat) (c : Instr), (s.port q).takes = true → u = none ∨ Flit.decode x = none →
    s.power.clockOn = true → c ∈ [Instr.dataFlitReceived q x u, .nakReceived q x u, .idleFlitReceived q x u, .holdFlitReceived q x u, .initFlitReceived q x u,
      .timeFlitReceived q x u] →
    ∃ s', exec c s = .next s' ∧ Only [.tally, .ports] s s' ∧ OtherPorts q s s' ∧
      Sparse.getD s'.tally (tkey 0x30 q) 0 = (Sparse.getD s.tally (tkey 0x30 q) 0 + 1) % 2 ^ 48 ∧
      (s'.port q).ll.nakDue = ((s.port q).ll.nakDue || decide ((s.port q).st = 4)) ∧ (s'.port q).rx = (s.port q).rx ∧
      (u = none → (s'.port q).fecUncorr = ((s.port q).fecUncorr + 1) % 2 ^ 64 ∧ (s'.port q).fecCorr = (s.port q).fecCorr) ∧
      (∀ k, u = some k → k ≠ 0 → (s'.port q).fecCorr = ((s.port q).fecCorr + k) % 2 ^ 64 ∧ (s'.port q).fecUncorr = (s.port q).fecUncorr)) ∧
  (∀ (s : State) (q : PortIx) (f : Flit) (k : Nat), (s.port q).st = 4 → f.wf = true → f.ty = ftData →
    ((f.seq + 4096 - (s.port q).ll.rxSeq) % 4096 = 0 → Sparse.getD (s.port q).ll.granted f.vc (s.vcCredits f.vc) ≠ 0 →
      s.power.clockOn = true → ∃ s', exec (.dataFlitReceived q f.encode (some k)) s = .next s' ∧ (s'.port q).ll.rxSeq = ((s.port q).ll.rxSeq + 1) % 4096 ∧
        (s'.port q).ll.rxAny = true ∧ (s'.port q).st = 4 ∧ (s'.port q).ll.nakDue = (s.port q).ll.nakDue ∧
        Sparse.getD (s'.port q).ll.granted f.vc (s.vcCredits f.vc) = Sparse.getD (s.port q).ll.granted f.vc (s.vcCredits f.vc) - 1 ∧
        ((Sparse.getD (s.port q).rx f.vc {}).route = none →
          (Sparse.getD (s'.port q).rx f.vc {}).flits = (Sparse.getD (s.port q).rx f.vc {}).flits ++ [f.dflit])) ∧
    ((f.seq + 4096 - (s.port q).ll.rxSeq) % 4096 ≠ 0 →
      s.power.clockOn = true → ∃ s', exec (.dataFlitReceived q f.encode (some k)) s = .next s' ∧ (s'.port q).ll.rxSeq = (s.port q).ll.rxSeq ∧
        (s'.port q).rx = (s.port q).rx ∧
        ((f.seq + 4096 - (s.port q).ll.rxSeq) % 4096 < 512 → (s.port q).ll.dropping = false → (s'.port q).ll.nakDue = true) ∧
        ((s'.port q).st = if 512 ≤ (f.seq + 4096 - (s.port q).ll.rxSeq) % 4096 ∧ (f.seq + 4096 - (s.port q).ll.rxSeq) % 4096 < 3584
          then 5 else 4))) ∧
  (∀ (s : State) (q : PortIx) (f : Flit) (k : Nat), (s.port q).takes = true → f.wf = true →
    (f.ty = ftIdle → s.power.clockOn = true → ∃ s', exec (.idleFlitReceived q f.encode (some k)) s = .next s' ∧ (s'.port q).rx = (s.port q).rx ∧
      (s'.port q).st = (s.port q).st ∧ (f.ackV = false → Only [.ports] s s' ∧ (s'.port q).ll.retry = (s.port q).ll.retry) ∧
      (∀ a r b, f.ackV = true → (s.port q).ll.retry = a ++ r :: b → r.seq = f.ack → (∀ x ∈ a, x.seq ≠ f.ack) →
        (s'.port q).ll.retry = b) ∧
      (f.credV = true → (s.port q).ll.credits ≠ [] →
        Sparse.getD (s'.port q).ll.credits f.credVc 0 = Sparse.getD (s.port q).ll.credits f.credVc 0 + f.cred)) ∧
    (f.ty = ftNak → s.power.clockOn = true → ∃ s', exec (.nakReceived q f.encode (some k)) s = .next s' ∧ (s'.port q).ll.replay = (s'.port q).ll.retry ∧
      (f.ackV = false → (s'.port q).ll.retry = (s.port q).ll.retry)) ∧
    (f.ty = ftHold → s.power.clockOn = true → ∃ s', exec (.holdFlitReceived q f.encode (some k)) s = .next s' ∧ (s'.port q).peerHold = true ∧
      (s'.port q).holdEst = bits f.payload 31 0 ∧ (s'.port q).st = (s.port q).st) ∧
    (f.ty = ftInit → (s.port q).st = 3 → s.power.clockOn = true → ∃ s', exec (.initFlitReceived q f.encode (some k)) s = .next s' ∧
      (s'.port q).peer = some (bits f.payload 78 64, bits f.payload 85 80) ∧ (s'.port q).peerHold = false ∧ (s'.port q).ll.initGot = true ∧
      (s'.port q).st = (if 4 ≤ (s.port q).ll.initSent then 4 else 3) ∧
      ((s.port q).ll.credits = [] → ∀ v, v < 8 → Sparse.getD (s'.port q).ll.credits v 0 = bits f.payload (8 * v + 7) (8 * v)))) ∧
  ∀ (s : State) (q : PortIx), s.power.clockOn = true → ∃ s', exec (.blockLockLoss q) s = .next s' ∧ OtherPorts q s s' ∧
    (s'.port q).st = (if 2 ≤ (s.port q).st ∧ (s.port q).st ≤ 4 then 5 else (s.port q).st) ∧ (s'.port q).tx = (s.port q).tx ∧
    (s'.port q).rx = (s.port q).rx ∧ (s'.port q).ll.retry = (s.port q).ll.retry

/-- In a slot an UP port sends, in this order: a due NAK, the next flit of a replay, the next flit of the ready message of the lowest rank, an
IDLE flit. Each carries the acknowledgement of what has come in order. A HOLD port of a chip not in service sends HOLD, an INIT port INIT, and
is UP after four with the peer's (13 R353, R357, R366, R368, R370). -/
def Obligations.FlitSlots : Prop :=
  (∀ (s : State) (q i : Nat), s.nextTx q = some i → ∃ t, (s.port q).tx[i]? = some t ∧ (s.port q).ready t = true ∧
    ∀ u ∈ (s.port q).tx, (s.port q).ready u = true → s.txRank t ≤ s.txRank u) ∧
  (∀ (s : State) (q : PortIx), (s.port q).st = 4 → (s.port q).peerHold = false → s.chipState ≠ 5 → s.blp q = true →
    s.cyc.ns < (s.port q).tm.lastSent + 16000 →
    ((s.port q).ll.nakDue = true → (s.port q).ll.nakCount < 7 → s.power.clockOn = true → ∃ (s' : State) (f : Flit), exec (.flitSlot q) s = .next s' ∧ Only [.ports, .out] s s' ∧
      OtherPorts q s s' ∧ s'.out = s.out ++ [.flit q (fecBlocks (s.port q).blocks f.encode)] ∧ f.ty = ftNak ∧ (s'.port q).ll.nakDue = false ∧
      f.ackV = (s.port q).ll.rxAny ∧ f.ack = (if (s.port q).ll.rxAny then ((s.port q).ll.rxSeq + 4095) % 4096 else 0)) ∧
    (∀ r rest, (s.port q).ll.nakDue = false → (s.port q).ll.replay = r :: rest → s.power.clockOn = true → ∃ (s' : State) (f : Flit), exec (.flitSlot q) s = .next s' ∧
      Only [.ports, .out, .tally] s s' ∧ OtherPorts q s s' ∧ s'.out = s.out ++ [.flit q (fecBlocks (s.port q).blocks f.encode)] ∧ f.ty = ftData ∧ f.seq = r.seq ∧
      f.vc = r.flit.vc ∧ f.payload = leNat r.flit.payload ∧ (s'.port q).ll.replay = rest) ∧
    (∀ i t d rest, (s.port q).ll.nakDue = false → (s.port q).ll.replay = [] → (s.port q).ll.retry.length < 512 → s.nextTx q = some i →
      (s.port q).tx[i]? = some t → t.flits = d :: rest → s.power.clockOn = true → ∃ (s' : State) (f : Flit), exec (.flitSlot q) s = .next s' ∧
      s'.out = s.out ++ [.flit q (fecBlocks (s.port q).blocks f.encode)] ∧ f.ty = ftData ∧ f.seq = (s.port q).ll.txSeq ∧ f.vc = d.vc ∧ f.head = d.head ∧
      f.tail = d.tail ∧ f.payload = leNat d.payload ∧ (s'.port q).ll.txSeq = ((s.port q).ll.txSeq + 1) % 4096 ∧
      (s'.port q).ll.retry = (s.port q).ll.retry ++ [{ seq := (s.port q).ll.txSeq, flit := d, hdr := t.hdr }] ∧
      Sparse.getD (s'.port q).ll.credits t.vc 0 = Sparse.getD (s.port q).ll.credits t.vc 0 - 1) ∧
    ((s.port q).ll.nakDue = false → (s.port q).ll.replay = [] → 512 ≤ (s.port q).ll.retry.length ∨ s.nextTx q = none →
      s.power.clockOn = true → ∃ (s' : State) (f : Flit), exec (.flitSlot q) s = .next s' ∧ Only [.ports, .out] s s' ∧ OtherPorts q s s' ∧
      s'.out = s.out ++ [.flit q (fecBlocks (s.port q).blocks f.encode)] ∧ f.ty = ftIdle ∧ (s'.port q).tx = (s.port q).tx ∧
      f.ackV = (s.port q).ll.rxAny ∧ f.ack = (if (s.port q).ll.rxAny then ((s.port q).ll.rxSeq + 4095) % 4096 else 0))) ∧
  ∀ (s : State) (q : PortIx), s.blp q = true →
    ((s.port q).st = 2 → s.inService = false → s.power.clockOn = true → ∃ (s' : State) (f : Flit), exec (.flitSlot q) s = .next s' ∧ Only [.ports, .out] s s' ∧ OtherPorts q s s' ∧
      s'.out = s.out ++ [.flit q (fecBlocks (s.port q).blocks f.encode)] ∧ f.ty = ftHold ∧ bits f.payload 31 0 = s.readyEst % 2 ^ 32 ∧ (s'.port q).st = 2) ∧
    ((s.port q).st = 3 → s.inService = true → (s.port q).noInitBefore ≤ s.cyc.ns → s.power.clockOn = true → ∃ (s' : State) (f : Flit) (l : List Out), exec (.flitSlot q) s = .next s' ∧
      s'.out = s.out ++ [.flit q (fecBlocks (s.port q).blocks f.encode)] ++ l ∧ f.ty = ftInit ∧ bits f.payload 78 64 = s.chipId % 2 ^ 15 ∧
      bits f.payload 85 80 = q ∧ (s'.port q).ll.initSent = (s.port q).ll.initSent + 1 ∧
      (s'.port q).st = if (s.port q).ll.initGot = true ∧ 3 ≤ (s.port q).ll.initSent then 4 else 3)

/-- Training ends in HOLD or, on a chip in service, INIT, and a RETRAIN in INIT; a training that fails counts and is tried again, and at
the limit a port that has been UP is fenced. A RETRAIN that holds too long, or a disable, empties the port; a reset drops what it has to
repeat. The groups start in order, and every enabled port of a group begins training (13 R368, R369, R371; 18 R512). -/
def Obligations.PortStates : Prop :=
  (∀ (s : State) (q : PortIx), (s.port q).st = 1 → (s.port q).retryAt = none →
    (s.power.clockOn = true → ∃ s', exec (.portTrainingDone q) s = .next s' ∧ Only [.ports, .boot] s s' ∧ OtherPorts q s s' ∧ (s'.port q).ll = {} ∧
      (s'.port q).st = if s.inService = true ∧ s.obj (0x2500 + q) 1 = 1 then 3 else 2) ∧
    ((s.port q).wasUp = false ∨ (s.port q).fails + 1 < s.obj 0x5000 6 → s.power.clockOn = true → ∃ s', exec (.portTrainingTimeout q) s = .next s' ∧
      OtherPorts q s s' ∧ (s'.port q).st = 1 ∧ (s'.port q).fails = (s.port q).fails + 1 ∧
      (s'.port q).retryAt = some (s'.cyc.ns + 1000000000) ∧ s'.integ = s.integ) ∧
    ((s.port q).wasUp = true → s.obj 0x5000 6 ≤ (s.port q).fails + 1 → s.power.clockOn = true → ∃ s', exec (.portTrainingTimeout q) s = .next s' ∧
      OtherPorts q s s' ∧ (s'.port q).st = 0 ∧ (s'.port q).fenced = true ∧ bit s'.integ.fencePorts q = true ∧ bit (s'.fn 0).pending 1 = true)) ∧
  (∀ (s : State) (q : PortIx), (s.port q).st = 5 →
    (s.power.clockOn = true → ∃ s', exec (.portTrainingDone q) s = .next s' ∧ Only [.ports] s s' ∧ OtherPorts q s s' ∧ (s'.port q).st = 3 ∧
      (s'.port q).ll = (s.port q).ll) ∧
    (s.power.clockOn = true → ∃ s', exec (.retrainHoldExpiry q) s = .next s' ∧ (s'.port q).st = 1 ∧ (s'.port q).tx = [] ∧
      (s'.port q).ll.retry = [] ∧ (s'.port q).retryAt = none)) ∧
  (∀ (s : State) (q : PortIx) (t : Nat), (s.port q).retryAt = some t → s.power.clockOn = true → ∃ s', exec (.portTrainingRetry q) s = .next s' ∧
    Only [.time, .cyc, .pavs, .tally, .ports] s s' ∧ OtherPorts q s s' ∧ (s'.port q).st = 1 ∧ (s'.port q).retryAt = none ∧
    (s'.port q).since = s'.cyc.ns ∧ (s.boot.pwrgood = true → t ≤ s'.cyc.ns)) ∧
  (∀ s : State, s.link.group < 8 → 5 ≤ s.boot.phase → s.boot.standby = false → s.power.clockOn = true → ∃ s', exec .linkGroupTrainStart s = .next s' ∧
    s'.link.group = s.link.group + 1 ∧ s'.link.groupAt = s'.cyc.ns ∧
    ∀ q, q / 8 = s.link.group → ((s.obj (0x2500 + q) 1 = 1 ∧ (s.port q).fenced = false ∧ (s.port q).st = 0) → (s'.port q).st = 1) ∧
      (¬(s.obj (0x2500 + q) 1 = 1 ∧ (s.port q).fenced = false ∧ (s.port q).st = 0) → s'.port q = s.port q)) ∧
  (∀ (s : State) (who : Requester) (q : PortIx), Takes s who (0x2500 + q) 0xD 1 1 → (s.port q).takes = true ∨ (s.port q).st = 5 →
    ∃ s', exec (.portReset who q 1) s = .next s' ∧ Replied s s' who 0 0 ∧ (s'.port q).st = 5 ∧ (s'.port q).ll.retry = [] ∧
      (s'.port q).ll.replay = []) ∧
  (∀ (s : State) (who : Requester) (q : PortIx), Takes s who (0x2500 + q) 0xD 1 1 → (s.port q).st ≤ 1 →
    ∃ s', exec (.portReset who q 1) s = .next s' ∧ Answered s s' who 0 0 ∧ Only [.dict, .out] s s') ∧
  ∀ (s : State) (who : Requester) (q : PortIx),
    (∀ v, Takes s who (0x2500 + q) 1 1 v → v ≤ 1 → ∃ s', exec (.portEnableWrite who q v) s = .next s' ∧ Replied s s' who 0 0 ∧
      s'.obj (0x2500 + q) 1 = v) ∧
    (Takes s who (0x2500 + q) 1 1 0 → (s.port q).st ≠ 0 → ∃ s', exec (.portEnableWrite who q 0) s = .next s' ∧ Replied s s' who 0 0 ∧
      s'.obj (0x2500 + q) 1 = 0 ∧ (s'.port q).st = 0 ∧ (s'.port q).tx = [] ∧ (s'.port q).ll.retry = []) ∧
    (Takes s who (0x2500 + q) 1 1 1 → (s.port q).st = 0 → ∃ s', exec (.portEnableWrite who q 1) s = .next s' ∧ Answered s s' who 0 0 ∧
      OtherPorts q s s' ∧ s'.obj (0x2500 + q) 1 = 1 ∧
      (s'.port q).st = if (s.port q).fenced = false ∧ q.val / 8 < s.link.group then 1 else 0)

/-- The head of a message is routed: for this chip its bytes are gathered and a whole message is delivered, but a collective's message for a
later instance waits while the early buffer is full; for another port it waits there with one hop more; an unroutable message is dropped. A
notice settles what its message stood for. A message that has waited its limit at injection is refused. ROUTE_COMMIT takes the whole table
at once (13 R361 to R366, R381; 14 R393). -/
def Obligations.Messages : Prop :=
  (∀ (s : State) (q : PortIx) (vc : Fin 8) (d : DFlit) (ds : List DFlit), (Sparse.getD (s.port q).rx vc {}).route = none →
    (Sparse.getD (s.port q).rx vc {}).flits = d :: ds →
    d.head = false ∨ (∃ r, s.hop { Msg.ofBytes (clean d.payload) with level := vcLevel vc } = .fail r) ∨
      (s.hop { Msg.ofBytes (clean d.payload) with level := vcLevel vc } = .here ∧
        s.earlyFull { Msg.ofBytes (clean d.payload) with level := vcLevel vc } = false) ∨
      (∃ o, s.hop { Msg.ofBytes (clean d.payload) with level := vcLevel vc } = .port o ∧
        s.flowHeld { Msg.ofBytes (clean d.payload) with level := vcLevel vc } (2 * (vc.val / 2) + s.dateline (some (q, vc.val % 2)) o) o = false) →
    s.power.clockOn = true → ∃ s' k, exec (.messageHeadArrival q vc) s = .next s' ∧ (Sparse.getD (s'.port q).rx vc {}).flits = ds.drop k ∧
      s'.time = s.time ∧ s'.mem = s.mem) ∧
  (∀ (s : State) (q : PortIx) (vc : Fin 8) (d : DFlit), (Sparse.getD (s.port q).rx vc {}).route = none →
    (Sparse.getD (s.port q).rx vc {}).flits = [d] → d.head = true →
    (d.tail = false → s.hop { Msg.ofBytes (clean d.payload) with level := vcLevel vc } = .here →
      s.earlyFull { Msg.ofBytes (clean d.payload) with level := vcLevel vc } = false →
      s.power.clockOn = true → ∃ s', exec (.messageHeadArrival q vc) s = .next s' ∧ Only [.ports] s s' ∧ OtherPorts q s s' ∧
        (Sparse.getD (s'.port q).rx vc {}).flits = [] ∧ (Sparse.getD (s'.port q).rx vc {}).route = some .here ∧
        (Sparse.getD (s'.port q).rx vc {}).got = d.payload.map (fun b => (b, d.poison)) ∧
        Sparse.getD (s'.port q).ll.owed vc 0 = Sparse.getD (s.port q).ll.owed vc 0 + 1) ∧
    (s.hop { Msg.ofBytes (clean d.payload) with level := vcLevel vc } = .here →
      s.earlyFull { Msg.ofBytes (clean d.payload) with level := vcLevel vc } = true → exec (.messageHeadArrival q vc) s = .next s) ∧
    (d.tail = true → s.hop { Msg.ofBytes (clean d.payload) with level := vcLevel vc } = .here →
      s.earlyFull { Msg.ofBytes (clean d.payload) with level := vcLevel vc } = false →
      ∀ m, m = { Msg.ofBytes (d.payload.map (fun b => (b, d.poison))) with level := vcLevel vc } → 1 ≤ m.kind → m.kind ≤ 6 →
      (s.pav m.dpav).st = .active → (s.pav m.dpav).resetAt = 0 →
      s.power.clockOn = true → ∃ s', exec (.messageHeadArrival q vc) s = .next s' ∧ Only [.ports, .link] s s' ∧ OtherPorts q s s' ∧
        s'.link.delivered = s.link.delivered ++ [{ m with arr := s.cyc.cycles }] ∧
        (Sparse.getD (s'.port q).rx vc {}).route = none ∧
        Sparse.getD (s'.port q).ll.owed vc 0 = Sparse.getD (s.port q).ll.owed vc 0 + 1) ∧
    (∀ o, d.tail = true → s.hop { Msg.ofBytes (clean d.payload) with level := vcLevel vc } = .port o →
      s.flowHeld { Msg.ofBytes (clean d.payload) with level := vcLevel vc } (2 * (vc.val / 2) + s.dateline (some (q, vc.val % 2)) o) o = false →
      (∀ t ∈ (s.port o).tx, t.inPort ≠ some (8 * q.val + vc.val)) →
      s.power.clockOn = true → ∃ s' t d', exec (.messageHeadArrival q vc) s = .next s' ∧ Only [.ports] s s' ∧ (s'.port o).tx = (s.port o).tx ++ [t] ∧ t.whole = true ∧
        t.inPort = some (8 * q.val + vc.val) ∧ t.flits = [d'] ∧ d'.vc = t.vc ∧ t.vc / 2 = vc.val / 2 ∧ t.vc % 2 = s.dateline (some (q, vc.val % 2)) o ∧
        d'.payload.eraseIdx 7 = d.payload.eraseIdx 7 ∧ (8 ≤ d.payload.length → d'.payload[7]? = (d.payload[7]?).map (· + 1))) ∧
    (∀ r, d.tail = true → s.hop { Msg.ofBytes (clean d.payload) with level := vcLevel vc } = .fail r →
      s.power.clockOn = true → ∃ s', exec (.messageHeadArrival q vc) s = .next s' ∧ (Sparse.getD (s'.port q).rx vc {}).flits = [] ∧
        (Sparse.getD (s'.port q).rx vc {}).route = none ∧ ∃ l, s'.link.delivered = s.link.delivered ++ l ∧ ∀ m ∈ l, m.kind = 8)) ∧
  (∀ (s t0 : State) (m h : Msg), s.takeMsg (fun m => m.kind = 8) = some (m, t0) → h = Msg.ofHeader (leNat (rawBytes m.data)) [] →
    (s.power.clockOn = true → ∃ s', exec .noticeReceived s = .next s' ∧ s'.time = s.time ∧ s'.boot = s.boot) ∧
    (∀ r c src t, h.kind = 3 → tgChip h.arg0 = s.chipId → (s.pav h.spav).dice.rnd = some r →
      (s.pav h.spav).dice.choiceOf h.arg0 = some (r, c) → r.srcs.find? (fun x => x.source = c.source) = some src →
      r.toks.find? (fun t => t.source = c.source && t.pos = c.pos) = some t → s.power.clockOn = true → ∃ s' r', exec .noticeReceived s = .next s' ∧
        s'.link.delivered = t0.link.delivered ∧ (s'.pav h.spav).dice.rnd = some r' ∧
        ∀ y ∈ r'.choices, y.source = c.source → y.pos = c.pos → y.c = c.c → y.state = 4) ∧
    (h.kind = 7 ∨ 8 ≤ h.kind ∨ h.kind = 0 → s.power.clockOn = true → ∃ s', exec .noticeReceived s = .next s' ∧ s' = t0)) ∧
  (∀ (s : State) (i : Inject), i ∈ s.link.inject → s.power.clockOn = true → ∃ s', exec .linkInjectTimeout s = .next s' ∧ s.time.now ≤ s'.time.now ∧
    (i.msg.kind ≠ 8 → i.frame + s.obj 0x2540 6 ≤ s'.frame → i ∉ s'.link.inject)) ∧
  (∀ (s : State) (i : Inject), i ∈ s.link.inject → i.msg.kind ≠ 8 → i.frame + s.obj 0x2540 6 ≤ s.frame →
    s.power.clockOn = true → ∃ s', exec .linkInjectTimeout s = .next s' ∧ s'.time = s.time ∧ i ∉ s'.link.inject ∧
      ∀ e r, i.cmd ≠ 0 → r ∈ ((s'.core i.core).eng e).run → r.cmd.id = i.cmd → r.refused = true) ∧
  ∀ (s : State) (who : Requester), Takes s who 0x2540 3 1 1 → ∃ s', exec (.routeCommit who 1) s = .next s' ∧
    Only [.link, .dict, .out] s s' ∧ Answered s s' who 0 0 ∧ s'.link.active = some (s.obj 0x2540 2) ∧
    (∀ b, b < 16 → Sparse.getD s'.link.bundles b 0 = s.obj 0x2541 (b + 1)) ∧ s'.link.delivered = s.link.delivered ∧
    s'.link.inject = s.link.inject

/-- An Ethernet port sends the frame under construction when its timer ends, and an IDLE flit in a frame of its own when it has sent none for a
while; a frame that passes every check gives its flits, as if they had come on lanes, and any other is counted (13 R374 to R376). -/
def Obligations.EthernetPorts : Prop :=
  (∀ (s : State) (k : Fin 8), (s.port (56 + k.val)).ethBuf ≠ [] → s.power.clockOn = true → ∃ s', exec (.ethFrameTimer k) s = .next s' ∧
    Only [.time, .cyc, .pavs, .tally, .ports, .out] s s' ∧ OtherPorts (56 + k.val) s s' ∧
    s'.out = s.out ++ [.frame (56 + k.val) (s.ethFrame k (s.port (56 + k.val)).ethBuf)] ∧ (s'.port (56 + k.val)).ethBuf = [] ∧
    (s'.port (56 + k.val)).ll = (s.port (56 + k.val)).ll) ∧
  (∀ (s : State) (k : Fin 8), s.blp (56 + k.val) = false → (s.port (56 + k.val)).st = 4 → (s.port (56 + k.val)).ethBuf = [] →
    s.power.clockOn = true → ∃ s' f, exec (.ethIdleTimer k) s = .next s' ∧ Only [.time, .cyc, .pavs, .tally, .ports, .out] s s' ∧ OtherPorts (56 + k.val) s s' ∧
      s'.out = s.out ++ [.frame (56 + k.val) (s.ethFrame k [Flit.encode f])] ∧ f.ty = ftIdle ∧ f.ackV = (s.port (56 + k.val)).ll.rxAny ∧
      (s'.port (56 + k.val)).ethBuf = []) ∧
  ∀ (s : State) (k : Fin 8) (b : List Byte) (ok : Bool) (q : PortIx), s.blp (56 + k.val) = false → (s.port (56 + k.val)).takes = true →
    q.val = 56 + k.val →
    (ok = false ∨ s.ethOpen k b = none → s.power.clockOn = true → ∃ s', exec (.ethFrameReceived k b ok (some 0)) s = .next s' ∧ Only [.tally] s s' ∧
      Sparse.getD s'.tally (tkey 0x33 (56 + k.val)) 0 = (Sparse.getD s.tally (tkey 0x33 (56 + k.val)) 0 + 1) % 2 ^ 48) ∧
    (s.power.clockOn = true → ∃ s', exec (.ethFrameReceived k b ok none) s = .next s' ∧ Only [.tally, .ports] s s' ∧ OtherPorts q s s' ∧
      s'.port q = { s.port q with fecUncorr := ((s.port q).fecUncorr + 1) % 2 ^ 64, frameUncorr := (s.port q).frameUncorr + 1 }) ∧
    (∀ fs c, s.ethOpen k b = some fs → s.power.clockOn = true → ∃ s', exec (.ethFrameReceived k b true (some c)) s = .next s' ∧ s'.time = s.time ∧
      s'.mem = s.mem ∧ Sparse.getD s'.tally (tkey 0x33 (56 + k.val)) 0 = Sparse.getD s.tally (tkey 0x33 (56 + k.val)) 0) ∧
    (∀ x f, s.ethOpen k b = some [x] → Flit.decode x = some f →
      (f.ty = ftData → s.power.clockOn = true → ∃ s', exec (.ethFrameReceived k b true (some 0)) s = .next s' ∧ exec (.dataFlitReceived q x (some 0)) s = .next s') ∧
      (f.ty = ftTime → exec (.ethFrameReceived k b true (some 0)) s = .next s))

/-- ROT_PLAN_LOAD starts a load; its end stages a legal plan, which takes effect at once if no instance of it is in progress and else when
it has concluded, with its count back at 0; a bad plan or a bad read fails the load and leaves every plan as it was, and a read that waits for
the host lets it go on (14 R386; 10 R271). -/
def Obligations.RotundaPlans : Prop :=
  (∀ (s : State) (who : Requester) (p : PavIx), Takes s who (0x2610 + p) 3 1 1 → ∃ s', exec (.rotPlanLoad who p 1) s = .next s' ∧
    Only [.pavs, .dict, .out] s s' ∧ OtherPavs p s s' ∧ Answered s s' who 0 0 ∧
    (s'.pav p).rot = { (s.pav p).rot with
      loading := some (s.obj (0x2610 + p) 1, s.obj (0x2610 + p) 2), loaded := false, failed := false }) ∧
  (∀ (s : State) (p : PavIx) (k va : Nat), (s.pav p).rot.loading = some (k, va) → s.power.clockOn = true →
    (∀ b t r, s.unitRead p va 64 2 = (.ok b, t) → r = leNat (rawBytes b) →
      (planBad r = false → (∀ n ∈ plCores r, s.coreUsable n = true ∧ bit (s.pavCores p) n = true) → plMask r < 2 ^ 144 →
        ∃ s', exec (.rotPlanLoadDone p) s = .next s' ∧ s'.cores = s.cores ∧ OtherPavs p s s' ∧
          (s'.pav p).rot.loaded = true ∧ (s'.pav p).rot.loading = none ∧ (s'.pav p).rot.insts = (s.pav p).rot.insts ∧
          (s.inst p k = none → Sparse.find (s'.pav p).rot.plans k = some r ∧ s'.instCount p k = 0 ∧
            Sparse.find (s'.pav p).rot.staged k = none) ∧
          ((s.inst p k).isSome = true → Sparse.find (s'.pav p).rot.staged k = some r ∧ s'.plan p k = s.plan p k ∧
            s'.instCount p k = s.instCount p k) ∧
          ∀ j, j ≠ k → Sparse.find (s.pav p).rot.staged j = none ∨ (s.inst p j).isSome = true → s'.plan p j = s.plan p j ∧
            s'.instCount p j = s.instCount p j ∧ Sparse.find (s'.pav p).rot.staged j = Sparse.find (s.pav p).rot.staged j) ∧
      (planBad r = true ∨ (∃ n ∈ plCores r, s.coreUsable n = false ∨ bit (s.pavCores p) n = false) →
        ∃ s', exec (.rotPlanLoadDone p) s = .next s' ∧ s'.cores = s.cores ∧ OtherPavs p s s' ∧
          (s'.pav p).rot = { (s.pav p).rot with loading := none, failed := true })) ∧
    (∀ c t, s.unitRead p va 64 2 = (.error c, t) → ∃ s', exec (.rotPlanLoadDone p) s = .next s' ∧ s'.cores = s.cores ∧
      OtherPavs p s s' ∧ (s'.pav p).rot = { (s.pav p).rot with loading := none, failed := true }) ∧
    (∀ t, s.unitRead p va 64 2 = (.wait, t) → exec (.rotPlanLoadDone p) s = .next t)) ∧
  (∀ (s : State) (p : PavIx) (k r : Nat), Sparse.find (s.pav p).rot.staged k = some r → s.inst p k = none → s.power.clockOn = true →
    ∃ s', exec (.rotPlanCommit p) s = .next s' ∧ Only [.pavs] s s' ∧ OtherPavs p s s' ∧ (s'.pav p).rot.insts = (s.pav p).rot.insts ∧
      Sparse.find (s'.pav p).rot.plans k = some r ∧ s'.instCount p k = 0 ∧ Sparse.find (s'.pav p).rot.staged k = none ∧
      ∀ j, j ≠ k → Sparse.find (s.pav p).rot.staged j = none ∨ (s.inst p j).isSome = true → s'.plan p j = s.plan p j) ∧
  ∀ (s : State) (p : PavIx), (∀ x ∈ (s.pav p).rot.staged, (s.inst p x.1).isSome = true) → exec (.rotPlanCommit p) s = .next s

/-- The Rotunda port starts the oldest COLLECT, which waits while its tagged source is EMPTY. One of a core outside the mask, of a plan that is
not valid, or the next one after a mask core was fenced, gets PLAN_INVALID; the first of an instance opens it, and the others join it. At its
launch time, in its turn, an instance whose cores have all started launches, or fails with its code and concludes. Its deadline fails it; when
every byte has come, DST and then the records are written and it concludes (14 R388, R391, R394, R395, R396, R399, R405; 22 R595). -/
def Obligations.CollectiveLaunches : Prop :=
  (∀ (s : State) (n : CoreIx) (l : LongCmd) (rest : List LongCmd), (s.core n).rot.queue = l :: rest → (s.core n).rot.run = [] →
    (s.core n).engineGo = true → s.power.clockOn = true →
    (∃ s', exec (.collectPortStart n) s = .next s' ∧ (s'.core n).rot.queue = rest ∧ (s'.core n).rot.run.map (·.cmd) = [l]) ∧
    ((s.core n).readBlocked (s.collectSrc n l).1 (s.collectSrc n l).2 = true →
      ∃ s', exec (.collectPortStart n) s = .next s' ∧ Only [.cores, .energy] s s' ∧ OtherCores n s s' ∧
        (s'.core n).rot.run = [{ cmd := l, held := true, tagSince := some s.cyc.cycles }]) ∧
    ∀ (p k : Nat) (x : Inst) (y : Part), (s.core n).readBlocked (s.collectSrc n l).1 (s.collectSrc n l).2 = false → s.owner n = some p →
      k = l.m 15 0 → x = (s.inst p k).getD { plan := k, num := s.instCount p k, parts := [] } →
      y = { core := n, cmd := l.id, src := l.a, dst := l.b, record := l.c, len := bits l.y1 95 64, launch := bits l.y1 63 0, written := false } →
      ((bit (plMask (s.plan p k)) n = false ∨ ((∃ c ∈ plCores (s.plan p k), s.coreUsable c = false) ∧ x.refused = false ∧ x.fail = none)) →
        ∃ s', exec (.collectPortStart n) s = .next s' ∧ OtherCores n s s' ∧ OtherPavs p s s' ∧
          (bit (plMask (s.plan p k)) n = false → (s'.pav p).rot = (s.pav p).rot) ∧
          (bit (plMask (s.plan p k)) n = true → s'.inst p k = some { x with refused := true }) ∧
          ((s.core n).wins = [] → Mem.read (s'.core n).plot.bytes l.c 16 = rotRecord s.time.now (s.instCount p k) s.chipId 0 6) ∧
          ∀ a, (s.core n).wins = [] → a < l.c ∨ l.c + 16 ≤ a → Mem.byte (s'.core n).plot.bytes a =
            if a / 64 ∈ linesOf l.c 16 then (s.core n).byteSeen a else Mem.byte (s.core n).plot.bytes a) ∧
      (bit (plMask (s.plan p k)) n = true → (∀ c ∈ plCores (s.plan p k), s.coreUsable c = true) ∨ x.refused = true → x.fail = none →
        ((∃ m ∈ plCores (s.plan p k), m ≠ n.val ∧ ∀ z ∈ x.parts, z.core ≠ m) → ∃ s', exec (.collectPortStart n) s = .next s' ∧
          Only [.cores, .pavs, .energy] s s' ∧ OtherCores n s s' ∧ OtherPavs p s s' ∧
          s'.inst p k = some { x with parts := x.parts ++ [y] }) ∧
        ((∀ m ∈ plCores (s.plan p k), m = n.val ∨ ∃ z ∈ x.parts, z.core = m) → (∀ z ∈ x.parts, z.launch = y.launch) → x.launched = false →
          s.time.now < y.launch → ∃ s', exec (.collectPortStart n) s = .next s' ∧ Only [.cores, .pavs, .energy] s s' ∧ OtherCores n s s' ∧
          OtherPavs p s s' ∧ s'.inst p k = some
            { x with parts := x.parts ++ [y], readyAt := some s.time.now, past := false, due := some y.launch }))) ∧
  (∀ (s : State) (p : PavIx) (k : Nat) (x : Inst) (y : Part) (ys : List Part), s.inst p k = some x → x.parts = y :: ys → x.fail = none →
    s.power.clockOn = true → (∀ c ∈ plCores (s.plan p k), ∃ z ∈ x.parts, z.core = c) →
    (x.launched = false → s.rotActive < 32 →
      (x.due = none ∨ ∃ t, x.due = some t ∧ t ≤ s.time.now ∧ s.turn { at_ := t, rank := 5, pav := p, core := x.lead } = true) →
      y.launch ≤ s.time.now ∨ (∃ z ∈ ys, z.launch ≠ y.launch) →
      (s.launchFails p x = 0 → ∃ s' x', exec (.collectiveLaunch p k) s = .next s' ∧ s'.time = s.time ∧ s'.inst p k = some x' ∧
        x'.launched = true ∧ x'.len = y.len ∧ x'.fail = none ∧ x'.parts = x.parts ∧
        x'.flags = b2n s.holdover + 2 * b2n s.timeFree + 4 * b2n x.past) ∧
      (s.launchFails p x ≠ 0 → ∃ s', exec (.collectiveLaunch p k) s = .next s' ∧ s'.inst p k = none ∧
        s'.instCount p k = countAfter s p k)) ∧
    (∀ t, x.launched = false → s.rotActive < 32 → x.due = some t → y.launch ≤ t →
      s.turn { at_ := t, rank := 5, pav := p, core := x.lead } = true → Steady s →
      ∃ s', exec (.collectiveLaunch p k) s = .next s' ∧ t ≤ s'.time.now ∧
        ((∃ x', s'.inst p k = some x' ∧ x'.launched = true) ∨
          (s'.inst p k = none ∧ s'.instCount p k = countAfter s p k))) ∧
    (x.base.isSome = true → x.complete = false ∨ (x.putting = true ∧ ∃ z ∈ x.parts, s.dstDone z = false) →
      ∃ s', exec (.collectiveDeadline p k) s = .next s' ∧ s'.inst p k = none ∧ s'.instCount p k = countAfter s p k) ∧
    (x.complete = true →
      (∃ s', exec (.collectiveResultWritten p k) s = .next s' ∧ (s'.inst p k = none ∨ ∃ x', s'.inst p k = some x' ∧ x'.putting = true)) ∧
      (x.putting = true → (∃ z ∈ x.parts, s.dstDone z = false) → exec (.collectiveResultWritten p k) s = .next s) ∧
      (x.putting = true ∧ (∀ z ∈ x.parts, s.dstDone z = true) ∨ (∀ z ∈ x.parts, (s.core z.core).wins = [] ∧
          ∀ r, (s.core z.core).runOf .rot z.cmd = some r → r.dsts = [] ∧ r.buf = [] ∧ r.held = false ∧ r.wtagSince = none) →
        ∃ s', exec (.collectiveResultWritten p k) s = .next s' ∧ s'.inst p k = none ∧
          s'.instCount p k = countAfter s p k))) ∧
  (∀ (s : State) (p : PavIx) (k : Nat) (x : Inst) (y : Part) (ys : List Part) (c : Nat), s.inst p k = some x → x.parts = y :: ys →
    x.fail = none → s.power.clockOn = true → c ∈ plCores (s.plan p k) → (∀ z ∈ x.parts, z.core ≠ c) → x.base.isSome = true → x.complete = false →
    ∃ s' x', exec (.collectiveDeadline p k) s = .next s' ∧ s'.inst p k = some x' ∧
      x'.fail = some { code := 2, origin := s.chipId, remote := false } ∧ s'.instCount p k = s.instCount p k) ∧
  ∀ (s : State) (p : PavIx) (k : Nat) (x : Inst) (y : Part) (l : LongCmd) (off : Nat) (d : List PByte), s.inst p k = some x → x.parts = [y] →
    x.fail = none → x.complete = true → x.putting = false → (s.core y.core).rot.run = [{ cmd := l }] → l.id = y.cmd → (s.core y.core).wins = [] →
    x.result (s.plan p k) y = (off, d) → d ≠ [] → (∀ i ∈ linesOf (y.dst + off) d.length, i ∉ linesOf y.record 16) →
    s.power.clockOn = true → ∃ s', exec (.collectiveResultWritten p k) s = .next s' ∧ OtherCores y.core s s' ∧
      Mem.read (s'.core y.core).plot.bytes (y.dst + off) d.length = rawBytes d ∧
      Mem.read (s'.core y.core).plot.bytes y.record 16 =
        rotRecord s.time.now x.num s.chipId (x.flagsOf (anyPoison d) (x.satOf (s.plan p k) y) false) 0

/-- Messages are processed in their order. One from no neighbour of its stage, or of an instance that has concluded, is dropped and counted. Data
of the exchange in progress is combined with the chip vector in a reduce phase and copied into it in a gather phase, that of a BROADCAST is kept
whether or not the instance has launched; data of another length fails the instance. An ABORT fails the instance with the code and the chip it names
(14 R389, R390, R393, R396, R397, R403). -/
def Obligations.CollectiveMessages : Prop :=
  (∀ (s t : State) (p : PavIx) (m : Msg) (c : Instr),
    (s.takeMsg (s.rotNext p 5) = some (m, t) ∧ c = .rotundaDataReceived p) ∨ (s.takeMsg (s.rotNext p 6) = some (m, t) ∧ c = .rotundaCtrlReceived p) →
    s.power.clockOn = true →
    (∃ s', exec c s = .next s' ∧ s'.time = s.time ∧ s'.boot = s.boot) ∧
    (s.rotFrom p m = false → ∃ s', exec c s = .next s' ∧ Only [.link, .tally] s s' ∧ s'.link = t.link ∧
      Sparse.getD s'.tally (tkey 0x3A 0) 0 = (Sparse.getD s.tally (tkey 0x3A 0) 0 + 1) % 2 ^ 48) ∧
    (s.rotFrom p m = true → s.rotAge p m = 1 → ∃ s', exec c s = .next s' ∧ Only [.link, .tally] s s' ∧ s'.link = t.link ∧
      Sparse.getD s'.tally (tkey 0x28 p) 0 = (Sparse.getD s.tally (tkey 0x28 p) 0 + 1) % 2 ^ 48)) ∧
  (∀ (s t : State) (p : PavIx) (m : Msg) (x : Inst) (g : Bool) (a lo n sg : Nat), s.takeMsg (s.rotNext p 5) = some (m, t) →
    s.rotFrom p m = true → s.rotAge p m = 0 → s.inst p m.rPlan = some x → x.fail = none → x.launched = true → x.complete = false →
    plOp (s.plan p m.rPlan) ≠ 3 → (exchanges (s.plan p m.rPlan))[x.ex]? = some (m.rStage, g) → bit m.arg0 16 = g →
    a = bits m.arg1 31 0 → stageRegion (s.plan p m.rPlan) x.vec.length m.rStage = (lo, n) →
    sg = n / sgSize (plStage (s.plan p m.rPlan) m.rStage) → s.power.clockOn = true →
    (bits m.arg1 63 32 = x.len → lo ≤ a → a + m.data.length ≤ lo + n → m.data ≠ [] →
      m.data.length % rotWidth (s.plan p m.rPlan) = 0 →
      (∀ e j, e = plStage (s.plan p m.rPlan) m.rStage → j = (a - lo) / sg →
        a + m.data.length ≤ lo + (j + 1) * sg ∧ j ≠ (if g then sgPos e else (sgPos e + sgSize e - 1) % sgSize e)) →
      ∃ s' x', exec (.rotundaDataReceived p) s = .next s' ∧ s'.inst p m.rPlan = some x' ∧ x'.fail = none ∧
        (x.got + m.data.length < n - sg → x'.ex = x.ex ∧ x'.got = x.got + m.data.length) ∧
        (n - sg ≤ x.got + m.data.length → x'.ex = x.ex + 1 ∧ x'.got = 0 ∧
          x'.complete = decide ((exchanges (s.plan p m.rPlan)).length ≤ x.ex + 1)) ∧
        x'.vec = patch x.vec a (if g then m.data else
          (rotZip (s.plan p m.rPlan) (rotWidth (s.plan p m.rPlan)) (m.data.length / rotWidth (s.plan p m.rPlan)) m.data
            ((x.vec.drop a).take m.data.length)).1)) ∧
    (bits m.arg1 63 32 ≠ x.len → (∀ c ∈ plCores (s.plan p m.rPlan), ∃ z ∈ x.parts, z.core = c) →
      ∃ s', exec (.rotundaDataReceived p) s = .next s' ∧ s'.inst p m.rPlan = none ∧ s'.instCount p m.rPlan = countAfter s p m.rPlan)) ∧
  (∀ (s t : State) (p : PavIx) (m : Msg) (x : Inst) (v : List PByte), s.takeMsg (s.rotNext p 5) = some (m, t) →
    s.rotFrom p m = true → s.rotAge p m = 0 → plOp (s.plan p m.rPlan) = 3 → m.rStage = castStage (s.plan p m.rPlan) →
    x = (s.inst p m.rPlan).getD { plan := m.rPlan, num := s.instCount p m.rPlan, parts := [] } → x.complete = false →
    v = (if x.vec = [] then zeroRow (bits m.arg1 63 32) else x.vec) → x.vec = [] ∨ x.len = bits m.arg1 63 32 → m.data ≠ [] →
    bits m.arg1 31 0 + m.data.length ≤ v.length → s.power.clockOn = true →
    ∃ s' x', exec (.rotundaDataReceived p) s = .next s' ∧ s'.cores = s.cores ∧ s'.inst p m.rPlan = some x' ∧ x'.got = x.got + m.data.length ∧
      x'.vec = patch v (bits m.arg1 31 0) m.data ∧ x'.fail = x.fail ∧ x'.parts = x.parts ∧ x'.launched = x.launched) ∧
  (∀ (s t : State) (p : PavIx) (m : Msg) (f : RFail), s.takeMsg (s.rotNext p 6) = some (m, t) → s.rotFrom p m = true → s.rotAge p m = 0 →
    f = { code := bits m.arg0 31 24, origin := bits m.arg1 14 0, remote := true } → s.power.clockOn = true →
    (s.inst p m.rPlan = none → plCores (s.plan p m.rPlan) ≠ [] → ∃ s' x, exec (.rotundaCtrlReceived p) s = .next s' ∧ s'.cores = s.cores ∧
      s'.inst p m.rPlan = some x ∧ x.parts = [] ∧ x.fail = some f) ∧
    (∀ x, s.inst p m.rPlan = some x → x.fail = none → (∃ c ∈ plCores (s.plan p m.rPlan), ∀ z ∈ x.parts, z.core ≠ c) →
      ∃ s' x', exec (.rotundaCtrlReceived p) s = .next s' ∧ s'.inst p m.rPlan = some x' ∧ x'.fail = some f ∧
        s'.instCount p m.rPlan = s.instCount p m.rPlan) ∧
    (∀ x, s.inst p m.rPlan = some x → x.fail = none → (∀ c ∈ plCores (s.plan p m.rPlan), ∃ z ∈ x.parts, z.core = c) →
      ∃ s', exec (.rotundaCtrlReceived p) s = .next s' ∧ s'.inst p m.rPlan = none ∧ s'.instCount p m.rPlan = countAfter s p m.rPlan) ∧
    ∀ x, s.inst p m.rPlan = some x → x.fail.isSome = true → exec (.rotundaCtrlReceived p) s = .next t)

/-- A Stalemate message that is new sets or clears the armed times, is noted and passed on; a known one is discarded; one whose time has
passed halts at once, marked LATE. At its time, in its turn, every running core of the armed Pavilions halts, and at the resume time every
core it halted runs on. A flood gives the message an ID of this chip and goes out on every UP port. A halt by object stops a running core, a
resume runs a halted one on, alone or for one command, and a WAITCNT counts its limit afresh. SNAP_TIME triggers the cores of its Pavilion
in its turn (02 R52, R55; 21 R574, R576, R578 to R580; 22 R591). -/
def Obligations.DebugCommands : Prop :=
  (∀ (s t : State) (m : Msg) (q op : Nat) (c : Instr), s.takeStale op = some (m, q, t) →
    (op = 1 ∧ c = .stalemateArmReceived) ∨ (op = 2 ∧ c = .stalemateCancelReceived) → s.power.clockOn = true →
    (m.arg0 / 2 ^ 32 % 2 ^ 32 ∈ s.link.stIds → ∃ s', exec c s = .next s' ∧ s' = t) ∧
    (m.arg0 / 2 ^ 32 % 2 ^ 32 ∉ s.link.stIds → op = 2 ∨ m.arg1 = 0 ∨ s.time.now ≤ m.arg1 → ∃ s', exec c s = .next s' ∧ s'.cores = s.cores ∧
      s'.link.delivered = t.link.delivered ∧ s'.link.stIds = (m.arg0 / 2 ^ 32 % 2 ^ 32 :: s.link.stIds).take 16 ∧
      s'.obj 0x6020 1 = (if op = 1 then m.arg1 else 0) ∧ s'.obj 0x6020 3 = (if op = 1 then m.staleResume else 0) ∧
      s'.obj 0x6020 2 = (if op = 1 then m.stalePavs else s.obj 0x6020 2)) ∧
    (m.arg0 / 2 ^ 32 % 2 ^ 32 ∉ s.link.stIds → op = 1 → m.arg1 ≠ 0 → m.arg1 < s.time.now → ∃ s', exec c s = .next s' ∧
      s'.link.delivered = t.link.delivered ∧ s'.obj 0x6020 1 = 0 ∧ s'.obj 0x6020 3 = m.staleResume ∧
      ∀ p n, p < 16 → bit m.stalePavs p = true → n ∈ s.coresOf p → (s.core n).ctl.st = .run → (s.core n).ctl.drain = .none →
        (s.core n).fence.run = .none → (s'.core n).ctl.drain = .halt ∧ (s'.core n).dbg.reason % 256 = 1 ∧
          bit (s'.core n).dbg.reason 19 = true)) ∧
  (∀ s : State, s.obj 0x6020 1 ≠ 0 → s.power.clockOn = true →
    (s.turn { at_ := s.obj 0x6020 1, rank := 1 } = false → exec .stalemateHalt s = .next s) ∧
    (s.turn { at_ := s.obj 0x6020 1, rank := 1 } = true → ∃ s', exec .stalemateHalt s = .next s' ∧ s'.obj 0x6020 1 = 0 ∧
      (Steady s → s.obj 0x6020 1 ≤ s'.time.now) ∧
      (∀ n, n ∈ s.staleCores → (s.core n).ctl.drain = .none → (s'.core n).ctl.drain = .halt ∧ (s'.core n).dbg.reason = 1 ∧
        (s'.core n).dbg.haltStepped = s'.steppedPast (s.obj 0x6020 1)) ∧
      ∀ n, n ∉ s.staleCores → (∀ x, (s.core n).dbg.haltAt = some x → x.1 ≤ s.cyc.cycles) → s'.core n = s.core n)) ∧
  (∀ s : State, s.obj 0x6020 3 ≠ 0 → s.power.clockOn = true → ∃ s', exec .stalemateResume s = .next s' ∧ s'.obj 0x6020 3 = 0 ∧
    (∀ n, n < 144 → (s.core n).ctl.st = .halted → (s.core n).dbg.reason % 256 = 1 → (s'.core n).ctl.st = .run) ∧
    ∀ n, ¬((s.core n).ctl.st = .halted ∧ (s.core n).dbg.reason % 256 = 1) → s'.core n = s.core n) ∧
  (∀ (s : State) (who : Requester), Takes s who 0x6020 4 1 1 → ∃ s', exec (.stalemateFlood who 1) s = .next s' ∧
    Only [.link, .ports, .dict, .out] s s' ∧ Answered s s' who 0 0 ∧ s'.link.stSeq = s.link.stSeq + 1 ∧
    s'.link.stIds = ((s.chipId % 2 ^ 15 * 2 ^ 17 + s.link.stSeq % 2 ^ 17) :: s.link.stIds).take 16 ∧
    ∀ q, q < 64 → s.portUp q = true → (s'.port q).tx.length = (s.port q).tx.length + 1) ∧
  (∀ (s : State) (who : Requester) (n : Nat), s.dbgCore who = .ok n →
    (Takes s who 0x6010 4 1 1 → (s.core n).ctl.st = .run → (s.core n).ctl.drain = .none → (s.core n).fence.run = .none →
      ∃ s', exec (.dbgHalt who 1) s = .next s' ∧ Only [.cores, .tally, .dict, .out] s s' ∧ OtherCores n s s' ∧ Answered s s' who 0 0 ∧
        (s'.core n).ctl.drain = .halt ∧ (s'.core n).dbg.reason = haltExternal) ∧
    (Takes s who 0x6010 4 1 1 → (s.core n).ctl.st ≠ .run → (s.core n).ctl.st ≠ .halted →
      ∃ s', exec (.dbgHalt who 1) s = .next s' ∧ Only [.dict, .out] s s' ∧ Answered s s' who stState 0) ∧
    (∀ v c, (v = 1 ∧ c = Instr.dbgResumeRun who) ∨ (v = 2 ∧ c = Instr.dbgResumeSingle who) → Takes s who 0x6010 5 1 v →
      ((s.core n).ctl.st = .halted → (s.core n).bpMask (fun _ b => b.kind = 3 && cntReached ((s.core n).cnt b.cnt) (b.mtch.setWidth 32)) = 0 →
        ∃ s', exec c s = .next s' ∧ Only [.cores, .dict, .out] s s' ∧ OtherCores n s s' ∧ Answered s s' who 0 0 ∧
        (s'.core n).ctl.st = .run ∧ (s'.core n).ctl.drain = .none ∧ (s'.core n).dbg.single = decide (v = 2) ∧
        (s'.core n).plot = (s.core n).plot ∧ (s'.core n).ctl.sregs = (s.core n).ctl.sregs ∧ (s'.core n).sa.pc = (s.core n).sa.pc ∧
        ∀ c' v' l d, (s.core n).sa.wait = .cnt c' v' l d → (s'.core n).sa.wait = .cnt c' v' l (s.frame + l)) ∧
      ((s.core n).ctl.st ≠ .halted → ∃ s', exec c s = .next s' ∧ Only [.dict, .out] s s' ∧ Answered s s' who stState 0))) ∧
  ∀ (s : State) (p : PavIx), s.obj (0x6030 + p) 1 ≠ 0 → s.turn { at_ := s.obj (0x6030 + p) 1, rank := 2, pav := p } = true →
    s.power.clockOn = true → ∃ s', exec (.snapshotTrigger p) s = .next s' ∧
    Only [.time, .cyc, .pavs, .tally, .cores, .objs] s s' ∧ s'.obj (0x6030 + p) 1 = 0 ∧
    (∀ n, n ∈ s.coresOf p → (s'.core n).dbg.triggered = true ∧
      (s'.core n).dbg.trigStepped = s'.steppedPast (s.obj (0x6030 + p) 1) ∧ (s'.core n).ctl = (s.core n).ctl ∧ (s'.core n).plot = (s.core n).plot) ∧
    ∀ n, n ∉ s.coresOf p → s'.core n = s.core n

/-- A cause becomes pending once; if it is unmasked its message leaves on the vector INT_VECTOR names, or waits in the PBA. Writing ones
clears pending causes and map bits and nothing else; unmasking a pending cause and enabling MSI-X send what waits. A doorbell of 8 bytes is a
start request of its Pavilion, once the writes sent before it are visible; DB_REFUSAL clears as it is read; INT_VECTOR, the MSI-X table and, but for
its GO, MBX_REQ take a write of BAR0 (03 R84; 15 R417 to R420, R425, R637). -/
def Obligations.PcieRegisters : Prop :=
  (∀ (s : State) (f i : Nat), bit ((s.raise f i).fn f).pending i = true ∧ (∀ j, j ≠ i → bit ((s.raise f i).fn f).pending j = bit (s.fn f).pending j) ∧
    (bit (s.fn f).pending i = true → s.raise f i = s) ∧ (bit (s.fn f).mask i = true → (s.raise f i).out = s.out) ∧
    ∀ v, bit (s.fn f).pending i = false → bit (s.fn f).mask i = false → bits (s.fn f).vector (8 * i + 7) (8 * i) = v → v ≤ 63 →
      (s.msixOpen f v = true → (s.raise f i).out = s.out ++ [.msix f v
        ((s.fn f).tableWord (4 * v) + 2 ^ 32 * (s.fn f).tableWord (4 * v + 1)) ((s.fn f).tableWord (4 * v + 2))]) ∧
      (s.msixOpen f v = false → (s.raise f i).out = s.out ∧ bit ((s.raise f i).fn f).pba v = true)) ∧
  (∀ (s : State) (f : FnIx) (v : Word), s.fnExists f = true →
    (∃ s', exec (.intPendingClear f v) s = .next s' ∧ Only [.fns] s s' ∧ (∀ g, g ≠ f.val → s'.fn g = s.fn g) ∧
      s'.fn f = { s.fn f with pending := (s'.fn f).pending } ∧
      ∀ i, i < 32 → bit (s'.fn f).pending i = (bit (s.fn f).pending i && !bit v.toNat i)) ∧
    (∃ s', exec (.intMaskWrite f v) s = .next s' ∧ Only [.fns, .out] s s' ∧ (∀ g, g ≠ f.val → s'.fn g = s.fn g) ∧
      (s'.fn f).mask = v.toNat ∧ (s'.fn f).pending = (s.fn f).pending ∧
      ((∀ i, i < 32 → bit (s.fn f).pending i = true → bit (s.fn f).mask i = true → bit v.toNat i = true) → s'.out = s.out) ∧
      ∀ i w, i < 32 → bit (s.fn f).pending i = true → bit (s.fn f).mask i = true → bit v.toNat i = false →
        bits (s.fn f).vector (8 * i + 7) (8 * i) = w → w ≤ 63 →
        (s.msixOpen f w = true → Out.msix f w ((s.fn f).tableWord (4 * w) + 2 ^ 32 * (s.fn f).tableWord (4 * w + 1))
          ((s.fn f).tableWord (4 * w + 2)) ∈ s'.out) ∧
        (s.msixOpen f w = false → bit (s'.fn f).pba w = true)) ∧
    (∀ word : Fin 5, f.val ≠ 0 ∨ word.val = 0 → ∃ s', exec (.listDoneMapClear f word v) s = .next s' ∧ Only [.fns] s s' ∧
      (∀ g, g ≠ f.val → s'.fn g = s.fn g) ∧ s'.fn f = { s.fn f with listMap := (s'.fn f).listMap } ∧
      ∀ i, i < 160 → bit (s'.fn f).listMap i = (bit (s.fn f).listMap i && !(decide (i / 32 = word.val) && bit v.toNat (i % 32)))) ∧
    (∃ s', exec (.msixEnable f false) s = .next s' ∧ Only [.fns] s s' ∧ s'.fn f = { s.fn f with msix := false }) ∧
    (∃ s', exec (.msixEnable f true) s = .next s' ∧ Only [.fns, .out] s s' ∧ (∀ g, g ≠ f.val → s'.fn g = s.fn g) ∧ (s'.fn f).msix = true ∧
      (s'.fn f).pending = (s.fn f).pending ∧
      ∀ w, w < 64 → bit (s.fn f).pba w = true → (s.fn f).busMaster = true → (s.fn f).fnMask = false →
        bit ((s.fn f).tableWord (4 * w + 3)) 0 = false → bit (s'.fn f).pba w = false ∧
        Out.msix f w ((s.fn f).tableWord (4 * w) + 2 ^ 32 * (s.fn f).tableWord (4 * w + 1)) ((s.fn f).tableWord (4 * w + 2)) ∈ s'.out)) ∧
  (∀ (s t : State) (p : PavIx) (v : DWord) (n : CoreIx) (width : Nat), s.fnExists (p + 1) = true → t = s.posted (p + 1) →
    (width = 8 → bits v.toNat 7 0 = n → doorbellReserved v.toNat = false → t.owner n = some p.val → t.power.clockOn = true →
      ∃ s', exec (.doorbell p v width) s = .next s' ∧
        exec (.startRequest n (bit v.toNat 8) (bits v.toNat 38 16) (bits v.toNat 61 39)) t = .next s') ∧
    (width ≠ 8 → ∃ s', exec (.doorbell p v width) s = .next s' ∧ Only [.tally] t s' ∧
      Sparse.getD s'.tally (tkey 0x2B p) 0 = (Sparse.getD t.tally (tkey 0x2B p) 0 + 1) % 2 ^ 48)) ∧
  (∀ (s : State) (p : PavIx), s.fnExists (p + 1) = true → ∃ s', exec (.dbRefusalRead p) s = .next s' ∧ Only [.fns, .out] s s' ∧
    s'.out = s.out ++ [.bar0 (p + 1) (s.fn (p + 1)).dbRefusal] ∧ s'.fn (p + 1) = { s.fn (p + 1) with dbRefusal := 0 } ∧
    ∀ g, g ≠ p.val + 1 → s'.fn g = s.fn g) ∧
  ∀ (s : State) (f : FnIx) (off k : Nat) (v : DWord), s.fnExists f = true →
    (off % 4 = 0 → ∃ s', exec (.bar0UnmappedAccess f false off 4 v) s = .next s' ∧ Only [.out] s s' ∧
      s'.out = s.out ++ [.bar0 f (s.bar0 f off % 2 ^ 32)]) ∧
    (off = 0 → bit v.toNat 31 = false → ∃ s', exec (.bar0UnmappedAccess f true off 4 v) s = .next s' ∧ Only [.fns, .reqs, .out] s s' ∧
      bits (s'.req f).mreq 27 0 = bits v.toNat 27 0 ∧ bit (s'.req f).mreq 30 = bit v.toNat 30 ∧ bits (s'.req f).mreq 29 28 = 0 ∧
      bit (s'.req f).mreq 31 = bit (s.req f).mreq 31) ∧
    (off = 0x2080 + 4 * k → k < 8 → ∃ s', exec (.bar0UnmappedAccess f true off 4 v) s = .next s' ∧ Only [.fns, .reqs, .out] s s' ∧
      bits (s'.fn f).vector (32 * k + 31) (32 * k) = v.toNat % 2 ^ 32 ∧ (s'.fn f).pending = (s.fn f).pending ∧
      (s'.fn f).mask = (s.fn f).mask ∧ ∀ j, j < 8 → j ≠ k → bits (s'.fn f).vector (32 * j + 31) (32 * j) = bits (s.fn f).vector (32 * j + 31) (32 * j)) ∧
    (off = 0x3000 + 4 * k → k < 256 → ∃ s', exec (.bar0UnmappedAccess f true off 4 v) s = .next s' ∧ Only [.fns, .reqs, .out] s s' ∧
      bits ((s'.fn f).tableWord k) 31 0 = (if k % 4 = 3 then v.toNat % 2 else v.toNat % 2 ^ 32) ∧ (s'.fn f).vector = (s.fn f).vector ∧
      ∀ j, j ≠ k → (s'.fn f).tableWord j = (s.fn f).tableWord j)

/-- An access of BAR2 goes to the memory of its function's ranges, one of BAR4 to the Plot of a usable core of its Pavilion, written by way
of the Hedgerow in packets of at most a slot; one that maps nothing is counted, and as a read answered UR. Configuration requests are
answered by retry until the function is ready; then a read answers what the function holds. Each function reset clears what it must and
resets the Pavilions it reaches, under its own code (15 R415 to R417, R421, R425, R430, R637; 19 R528, R535). -/
def Obligations.PcieAccesses : Prop :=
  (∀ (s : State) (f : FnIx) (off len pa : Nat) (data : List Byte) (ep : Bool), s.fnExists f = true → s.boot.ready = true →
    (data ≠ [] → s.bar2Addr f off data.length = some pa → ∃ s', exec (.bar2Access f true off len data ep) s = .next s' ∧ s'.cores = s.cores ∧
      (s.org.far = [] → ∀ i, i < data.length → (s'.memByte (pa + i)).1 = data.getD i 0) ∧
      ∀ a, s.org.far = [] → a < pa ∨ pa + data.length ≤ a → (s'.memByte a).1 = (s.memByte a).1) ∧
    (0 < len → s.bar2Addr f off len = some pa → ∃ s' l bad, exec (.bar2Access f false off len data ep) s = .next s' ∧ s'.cores = s.cores ∧
      s'.mem = s.mem ∧ ∃ d, s'.out = s.out ++ l ++ [.cplData f d bad] ∧ d.length = len ∧
      (s.org.far = [] → d = (List.range len).map (fun i => (s.memByte (pa + i)).1)))) ∧
  (∀ (s : State) (f : FnIx) (off len n a : Nat) (data : List Byte) (ep : Bool), s.fnExists f = true → s.boot.ready = true →
    (data ≠ [] → s.bar4Addr f off data.length = some (n, a) → ∃ s' l, exec (.bar4Access f true off len data ep) s = .next s' ∧
      s'.net = s.net ++ l ∧ s'.cores = s.cores ∧ s'.out = s.out ∧
      l.map (fun k => (k.src, k.dst, k.pav, k.addr, k.data)) = (slotPieces a data.length).map (fun x =>
        (144, n, (fnPav f).getD 16, x.1, ((data.map (fun b => (b, ep))).drop (x.1 - a)).take x.2))) ∧
    (∀ t, 0 < len → s.bar4Addr f off len = some (n, a) → t = (s.hostMark f 3 len).posted f → ∃ s' bad,
      exec (.bar4Access f false off len data ep) s = .next s' ∧ s'.cores = t.cores ∧
      s'.out = t.out ++ [.cplData f (rawBytes ((t.core n).plotBytes a len)) bad])) ∧
  (∀ (s : State) (f : FnIx) (off len : Nat) (data : List Byte) (ep w four : Bool), s.fnExists f = true →
    0 < (if w then data.length else len) →
    s.boot.ready = false ∨ (if four then (s.bar4Addr f off (if w then data.length else len)).isNone = true
      else (s.bar2Addr f off (if w then data.length else len)).isNone = true) →
    ∃ s', exec (if four then .bar4Access f w off len data ep else .bar2Access f w off len data ep) s = .next s' ∧ Only [.tally, .out] s s' ∧
      s'.out = (if w then s.out else s.out ++ [.cplUR f]) ∧
      Sparse.getD s'.tally (tkey 0x2A 0xFFFF) 0 = (Sparse.getD s.tally (tkey 0x2A 0xFFFF) 0 + 1) % 2 ^ 48) ∧
  (∀ (s : State) (f : FnIx) (r : CfgReq), s.boot.perstN = true →
    (s.boot.phase < 2 ∨ s.cyc.ns < s.pcie.crsUntil → ∃ s', exec (.pcieConfigRequest f r) s = .next s' ∧ Only [.out] s s' ∧
      s'.out = s.out ++ [.crs]) ∧
    (2 ≤ s.boot.phase → s.pcie.crsUntil ≤ s.cyc.ns →
      (s.fnExists f = false → ∃ s', exec (.pcieConfigRequest f r) s = .next s' ∧ Only [.out] s s' ∧ s'.out = s.out ++ [.cplUR f]) ∧
      (s.fnExists f = true → ∃ s' l, exec (.pcieConfigRequest f r) s = .next s' ∧ Only [.fns, .pcie, .out] s s' ∧
        s'.out = s.out ++ [match r with | .read item => .cfgData f (s.cfgRead f item) | _ => .cfgOK] ++ l ∧
        (∀ k v, r = .bar k v → f.val = 0 → s'.cfgRead 0 (.bar k) = barRead false k v.toNat) ∧
        (∀ k v, r = .vfBar k v → f.val = 0 → s'.cfgRead 0 (.vfBar k) = barRead true k v.toNat) ∧ (s'.fn f).pending = (s.fn f).pending ∧
        (s'.fn f).busMaster = (match r with | .busMaster on => on | _ => (s.fn f).busMaster) ∧
        (s'.fn f).fnMask = (match r with | .functionMask on => on | _ => (s.fn f).fnMask) ∧
        s'.pcie.vfEnable = (match r with | .vfEnable => true | _ => s.pcie.vfEnable)))) ∧
  (∀ s : State, (∃ s', exec (.flr 0) s = .next s' ∧ Only [.fns, .reqs, .fw, .pcie, .dict] s s' ∧ s'.fn 0 = Fn.resetOf 0 ∧ s'.req 0 = {} ∧
      s'.heldReqs 0 = [] ∧ s'.pcie = s.pcie.clear ∧ ∀ g, g ≠ 0 → s'.fn g = s.fn g) ∧
    ∀ (f : FnIx) (p : Nat), f.val = p + 1 → s.pcie.vfEnable = true → ∃ s', exec (.flr f) s = .next s' ∧ (s'.fn f).msix = false ∧
      (s'.fn f).busMaster = false ∧ (s'.fn f).msixTable = [] ∧ (s'.req f).latch = none ∧ (s'.req f).staging = none ∧
      ((s.pav p).st = .active → (s'.pav p).st = .resetting ∧ (s'.pav p).lastReset = 2 ∧ (s'.pav p).resetAt = 2 ∧
        ∀ n ∈ s.coresOf p, (s'.core n).ctl.drain = .reset) ∧
      ((s.pav p).st ≠ .active → s'.pavs = s.pavs ∧ s'.cores = s.cores)) ∧
  (∀ s : State, s.pcie.vfEnable = true → ∃ s', exec .vfEnableClear s = .next s' ∧ s'.pcie.vfEnable = false ∧
    ∀ p, p < 16 → (s'.fn (p + 1)).msix = false ∧ ((s.pav p).st = .active → (s'.pav p).st = .resetting ∧ (s'.pav p).lastReset = 3)) ∧
  (∀ s : State, s.boot.pwrgood = true → ∃ s', exec .perstNAssert s = .next s' ∧ s'.boot.perstN = false ∧ s'.pcie.linkUp = false ∧
    s'.pcie.vfEnable = false ∧ (s'.fn 0).msix = false ∧ (s'.fn 0).busMaster = false ∧
    ∀ p, p < 16 → (s.pav p).st = .active → (s'.pav p).st = .resetting ∧ (s'.pav p).lastReset = 4) ∧
  ∀ s : State, s.boot.pwrgood = true → s.boot.perstN = false → ∃ s', exec .perstNRise s = .next s' ∧ Only [.boot, .pcie, .free] s s' ∧
    s'.boot.perstN = true ∧ s'.pcie.linkUp = !s.boot.thermtripLow ∧ s'.pcie.vfEnable = s.pcie.vfEnable ∧ s.cyc.ns ≤ s'.pcie.crsUntil ∧
    s'.pcie.crsUntil ≤ s.cyc.ns + 20000000

/-- A mailbox request, once the writes its function sent before it are visible, puts status and data into the mailbox, ends GO and raises
MBX_DONE; a second one sets OVERRUN. An I3C private write to the target's address is acknowledged when none runs, and its reply is kept for
the next private read. Its common command codes take and drop the address, end what the requester held, and answer with the bytes they have
(03 R69, R84 to R86; 15 R417, Table 15-5). -/
def Obligations.MailboxAndI3c : Prop :=
  (∀ (s t : State) (f : FnIx) (req arg data : Word) (i sub : Nat), t = s.posted f → bit (t.req (mbxWho f).ix).mreq 31 = false →
    bit req.toNat 30 = false → i = bits req.toNat 23 8 → sub = bits req.toNat 7 0 →
    (∀ v, bits req.toNat 27 24 = 1 → Reads t (mbxWho f) i sub v → ∃ s', exec (.mbxRead f req arg) s = .next s' ∧ s'.cores = t.cores ∧
      s'.objs = t.objs ∧ (s'.req (mbxWho f).ix).mrdata = v ∧ bits (s'.req (mbxWho f).ix).mstatus 15 0 = 0 ∧
      bit (s'.req (mbxWho f).ix).mstatus 28 = true ∧ bit (s'.req (mbxWho f).ix).mreq 31 = false ∧
      bit (s'.fn f).pending (if f.val = 0 then 5 else 7) = true) ∧
    (∀ e, bits req.toNat 27 24 = 1 → Serves t (mbxWho f) → tyBytes ((objInfo i sub).getD default).ty = false →
      t.readOk (mbxWho f) i sub 0 = .error e → e < 65536 → ∃ s', exec (.mbxRead f req arg) s = .next s' ∧ Only [.reqs, .fns, .out] t s' ∧
      (s'.req (mbxWho f).ix).mrdata = 0 ∧ bits (s'.req (mbxWho f).ix).mstatus 15 0 = e ∧ bit (s'.req (mbxWho f).ix).mstatus 28 = true) ∧
    (∀ len, bits req.toNat 27 24 = 2 → Takes t (mbxWho f) i sub len data.toNat → len ≤ 4 → data.toNat < 256 ^ len →
      Plain (mbxWho f) i sub data.toNat → (∀ h, (t.req (mbxWho f).ix).staging ≠ some (okey i sub, h)) → ∃ s', exec (.mbxWrite f req arg data) s = .next s' ∧
      Only [.reqs, .fns, .out, .objs] t s' ∧ s'.obj i sub = data.toNat ∧ (∀ j x, okey j x ≠ okey i sub → s'.obj j x = t.obj j x) ∧
      bits (s'.req (mbxWho f).ix).mstatus 15 0 = 0 ∧ bit (s'.req (mbxWho f).ix).mstatus 28 = true ∧
      bit (s'.fn f).pending (if f.val = 0 then 5 else 7) = true)) ∧
  (∀ (s t : State) (f : FnIx) (req arg data : Word), t = s.posted f → t.live (mbxWho f) = true → bit (t.req (mbxWho f).ix).mreq 31 = true →
    bits req.toNat 27 24 = 1 ∨ bits req.toNat 27 24 = 2 →
    ∃ s', exec (if bits req.toNat 27 24 = 1 then .mbxRead f req arg else .mbxWrite f req arg data) s = .next s' ∧ Only [.reqs] t s' ∧
      s'.req (mbxWho f).ix = { t.req (mbxWho f).ix with mstatus := (s'.req (mbxWho f).ix).mstatus } ∧
      bit (s'.req (mbxWho f).ix).mstatus 29 = true) ∧
  (∀ (s : State) (a : BitVec 7) (i sub : Nat), a.toNat = s.i3cTarget → i < 65536 → sub < 256 → (s.req 17).running = false →
    (∀ v, Reads s .i3c i sub v → ∃ s', exec (.i3cRead a (leBytes 2 i ++ leBytes 1 sub ++ [0x40])) s = .next s' ∧
      s'.out = s.out ++ [.i3cAck true] ∧ s'.cores = s.cores ∧ s'.objs = s.objs ∧ (s'.req 17).reply = some (0, v) ∧
      (s'.req 17).running = false) ∧
    (∀ v len, Takes s .i3c i sub len v → len ≤ 4 → v < 256 ^ len → Plain .i3c i sub v → (∀ h, (s.req 17).staging ≠ some (okey i sub, h)) →
      ∃ s', exec (.i3cWrite a (leBytes 2 i ++ leBytes 1 sub ++ [0x80] ++ leBytes 4 v)) s = .next s' ∧ Only [.out, .reqs, .objs] s s' ∧
      s'.obj i sub = v ∧ (s'.req 17).reply = some (0, 0) ∧ s'.out = s.out ++ [.i3cAck true])) ∧
  (∀ s : State, s.boot.phase ≠ 0 →
    (∀ a st d, a.toNat = s.i3cTarget → (s.req 17).running = false → (s.req 17).reply = some (st, d) → ∃ s', exec (.i3cPrivateRead a) s = .next s' ∧ Only [.out] s s' ∧
      s'.out = s.out ++ [.i3c st d]) ∧
    (∀ a, a.toNat = s.i3cTarget → (s.req 17).running = true → ∃ s' h, exec (.i3cPrivateRead a) s = .next s' ∧ Only [.out, .free] s s' ∧ s'.out = s.out ++ [.i3c stBusy h]) ∧
    (∀ a c, c ∈ [Instr.entdaa a, .setdasa 0x5A a] → ∃ s', exec c s = .next s' ∧ Only [.dict] s s' ∧
      s'.dict = { s.dict with i3cAddr := some (s.dict.i3cAddr.getD a.toNat) }) ∧
    (∃ s', exec .rstdaa s = .next s' ∧ Only [.dict, .reqs, .fw] s s' ∧
      s'.dict = { s.dict with i3cAddr := none, queue := s.dict.queue.filter (fun q => q.req.who ≠ 17) } ∧
      (s'.req 17).latch = none ∧ (s'.req 17).staging = none ∧ (s'.req 17).reply = none ∧ (s'.req 17).running = false) ∧
    (∃ s', exec .rstact s = .next s' ∧ Only [.reqs, .fw, .dict] s s' ∧ s'.heldReqs 17 = [] ∧ (s'.req 17).latch = none ∧ (s'.req 17).staging = none ∧
      (s'.req 17).reply = none ∧ (s'.req 17).running = false) ∧
    (∃ s', exec .enec s = .next s' ∧ Only [.dict] s s' ∧ s'.dict = { s.dict with i3cEvents := true }) ∧
    (∃ s', exec .disec s = .next s' ∧ Only [.dict] s s' ∧ s'.dict = { s.dict with i3cEvents := false }) ∧
    ∀ c n, (c, n) ∈ [(Instr.getpid, 6), (.getbcr, 1), (.getdcr, 1), (.getstatus, 2)] → ∃ s' l, exec c s = .next s' ∧
      Only [.out, .free] s s' ∧ s'.out = s.out ++ [.i3cData l] ∧ l.length = n) ∧
  (∀ (s : State) (a d : BitVec 7) (b : List Byte), a.toNat ≠ s.i3cTarget → ∀ c, c ∈ [Instr.i3cRead a b, .i3cWrite a b, .i3cPrivateRead a] →
    exec c s = .next s ∧ (a ≠ 0x5A → exec (.setdasa a d) s = .next s)) ∧
  ∀ (s : State) (a : BitVec 7), a.toNat = s.i3cTarget → s.boot.phase = 0 →
    ∀ c, c ∈ [Instr.i3cRead a [], .i3cWrite a [], .i3cPrivateRead a] → ∃ s', exec c s = .next s' ∧ Only [.out] s s' ∧
    s'.out = s.out ++ [.i3cAck false]

/-- A write to an object that the requester may not write, or of a wrong size or value, changes nothing; any other plain write is what the object
holds from then on. A 64-bit object is read and written in halves: the latch and the staging tie the two together, and a half without its
other is marked UNPAIRED (03 R68 to R76, R87, R88). -/
def Obligations.ObjectAccess : Prop :=
  (∀ (s : State) (who : Requester) (i sub off len v : Nat), Serves s who →
    (∀ e, s.writeOk who i sub none = .error e → ∃ s', exec (.objectWrite who i sub off len v) s = .next s' ∧
      Only [.dict, .out] s s' ∧ Answered s s' who e 0) ∧
    (∀ o, s.writeOk who i sub none = .ok o → tyBytes o.ty = false → len ≠ tySize o.ty → ∃ s', exec (.objectWrite who i sub off len v) s = .next s' ∧
      Only [.dict, .out] s s' ∧ Answered s s' who stSize 0) ∧
    (∀ o, s.writeOk who i sub none = .ok o → tyBytes o.ty = false → len = tySize o.ty → o.inRange (v % 256 ^ len) = false →
      ∃ s', exec (.objectWrite who i sub off len v) s = .next s' ∧ Only [.dict, .out] s s' ∧ Answered s s' who stRange 0) ∧
    (Takes s who i sub len v → v < 256 ^ len → Plain who i sub v → i ≠ 0x1200 → ∃ s', exec (.objectWrite who i sub off len v) s = .next s' ∧
      Only [.objs, .dict, .out] s s' ∧ Answered s s' who 0 0 ∧ s'.obj i sub = v ∧
      ∀ j x, okey j x ≠ okey i sub → s'.obj j x = s.obj j x)) ∧
  ∀ (s : State) (who : Requester) (i sub : Nat), (∀ k, who ≠ .mop k) →
    (∀ v, ReadsWide s who i sub v →
      (∃ s', exec (.lowHalfRead who i sub) s = .next s' ∧ Answered s s' who 0 (v % 2 ^ 32) ∧ s'.objs = s.objs ∧ s'.cores = s.cores ∧
        (s'.req who.ix).latch = some (okey i sub, v)) ∧
      (∀ x, (s.req who.ix).latch = some (okey i sub, x) → ∃ s', exec (.highHalfRead who i sub) s = .next s' ∧ Only [.reqs, .out] s s' ∧
        Answered s s' who 0 (x / 2 ^ 32) ∧ s'.req who.ix = { s.req who.ix with latch := none }) ∧
      ((∀ x, (s.req who.ix).latch ≠ some (okey i sub, x)) → ∃ s', exec (.highHalfRead who i sub) s = .next s' ∧ Answered s s' who 0x8000 (v / 2 ^ 32) ∧
        s'.objs = s.objs ∧ s'.req who.ix = s.req who.ix)) ∧
    (∀ v : Word, Serves s who → (∃ o, s.writeOk who i sub none = .ok o ∧ tyWide o.ty = true) →
      ∃ s', exec (.highHalfWrite who i sub v) s = .next s' ∧ Only [.reqs, .out] s s' ∧ Answered s s' who 0 0 ∧
        s'.req who.ix = { s.req who.ix with staging := some (okey i sub, v.toNat) }) ∧
    (∀ (v : Word) (hi : Nat), Takes s who i sub 8 (v.toNat + hi * 2 ^ 32) → hi < 2 ^ 32 → Plain who i sub (v.toNat + hi * 2 ^ 32) →
      ((s.req who.ix).staging = some (okey i sub, hi) → ∃ s', exec (.lowHalfWrite who i sub v) s = .next s' ∧ Only [.objs, .reqs, .out] s s' ∧
        Answered s s' who 0 0 ∧ s'.obj i sub = v.toNat + hi * 2 ^ 32 ∧ (s'.req who.ix).staging = none) ∧
      (∀ x, (∀ h, (s.req who.ix).staging ≠ some (okey i sub, h)) → s.value who i sub = .ok x → x / 2 ^ 32 = hi → ∃ s', exec (.lowHalfWrite who i sub v) s = .next s' ∧
        Only [.objs, .out] s s' ∧ Answered s s' who 0x8000 0 ∧ s'.obj i sub = v.toNat + hi * 2 ^ 32))

/-- A handshake under an anchor that holds a certificate opens the lowest free session in its role, and any other is recorded; a session without a
record for 60 s closes, and its subscriptions with it. A MOP record is answered with its sequence number; a block is written whole or not at all; a
subscription takes the lowest free ID and is pushed, in its turn, at the frames its period divides; SERVICE_AUTH makes a session VENDOR, where it may
write it and its token holds (02 R52, R55; 03 R78 to R83; 20 R556; 24 R627, R628). -/
def Obligations.MopSessions : Prop :=
  (∀ (s : State) (k : Nat) (r : Fin 2), s.mgmtUp = true → s.mgmtNet = true →
    (k < 8 → (s.sess k).isOpen = false → (∀ j, j < k → (s.sess j).isOpen = true) →
      (anchorOk (leBytes (s.len 0x1201 (2 - r.val)) (s.obj 0x1201 (2 - r.val))) = true → ∃ s', exec (.dtlsHandshake (some r)) s = .next s' ∧
        Only [.dict] s s' ∧ s'.sess k = { isOpen := true, role := r.val, last := s.cyc.ns } ∧ ∀ j, j ≠ k → s'.sess j = s.sess j) ∧
      (anchorOk (leBytes (s.len 0x1201 (2 - r.val)) (s.obj 0x1201 (2 - r.val))) = false → ∃ s', exec (.dtlsHandshake (some r)) s = .next s' ∧
        Only [.log, .fns, .out] s s' ∧ s'.dict = s.dict) ∧
      ∃ s', exec (.dtlsHandshake none) s = .next s' ∧ Only [.log, .fns, .out] s s' ∧ s'.dict = s.dict) ∧
    ((∀ j, j < 8 → (s.sess j).isOpen = true) → ∃ s', exec (.dtlsHandshake (some r)) s = .next s' ∧ Only [.out] s s' ∧
      s'.out = s.out ++ [.dtlsAlert 40])) ∧
  (∀ (s : State) (k : Fin 8), (s.sess k).isOpen = true → ∃ s', exec (.mopSessionTimeout k) s = .next s' ∧ (s'.sess k).isOpen = false ∧
    s'.out = s.out ++ [.mopClose k] ∧ s'.dict.subs = s.dict.subs.filter (fun u => u.sess ≠ k.val) ∧ s'.heldReqs (18 + k) = [] ∧
    s'.cores = s.cores ∧ s'.objs = s.objs) ∧
  (∀ (s : State) (k : Fin 8) (r l : List Byte) (h i sub : Nat), Serves s (.mop k) → r.length = 16 + l.length → r.drop 16 = l → h = mopHdr r →
    bits h 127 120 = 1 → bits h 47 32 = l.length → l.length ≤ 1024 → mopIndex h = i → mopSub h = sub → i < 0x1200 ∨ 0x1300 ≤ i →
    (∀ o v, mopOp h = 1 → s.readOk (.mop k) i sub (mopType h) = .ok o → tyBytes o.ty = false → s.value (.mop k) i sub = .ok v →
      ∃ s', exec (.mopRead k r) s = .next s' ∧ s'.cores = s.cores ∧ s'.objs = s.objs ∧ s'.out = s.out ++
        [.mop k 0x81 (bits h 111 96) i sub o.ty 0 (mopArg h) (beBytes (tySize o.ty) v)]) ∧
    (∀ o v, mopOp h = 2 → s.writeOk (.mop k) i sub (some (mopType h)) = .ok o → tyBytes o.ty = false → l = beBytes (tySize o.ty) v →
      v < 256 ^ tySize o.ty → o.inRange v = true → Plain (.mop k) i sub v → ∃ s', exec (.mopWrite k r) s = .next s' ∧
        Only [.objs, .dict, .out] s s' ∧ s'.obj i sub = v ∧
        s'.out = s.out ++ [.mop k 0x82 (bits h 111 96) i sub (mopType h) 0 (mopArg h) []]) ∧
    (∀ rows b, mopOp h = 3 → s.blockRows (.mop k) false i sub (mopType h) (mopArg h) = .ok rows →
      (rows.map (fun r => padded r.2)).sum ≤ 1024 → s.blockValues (.mop k) i rows = .ok b → ∃ s', exec (.mopReadBlock k r) s = .next s' ∧
        s'.cores = s.cores ∧ s'.objs = s.objs ∧ s'.out = s.out ++ [.mop k 0x83 (bits h 111 96) i sub 0 0 (mopArg h) b]) ∧
    (∀ e, mopOp h = 4 → s.blockRows (.mop k) true i sub (mopType h) (mopArg h) = .error e → e ≠ stBusy →
      ∃ s', exec (.mopWriteBlock k r) s = .next s' ∧ Only [.dict, .out] s s' ∧
        s'.out = s.out ++ [.mop k 0x84 (bits h 111 96) i sub 0 e (mopArg h) []]) ∧
    (∀ rows e, mopOp h = 4 → s.blockRows (.mop k) true i sub (mopType h) (mopArg h) = .ok rows →
      l.length = (rows.map (fun r => padded r.2)).sum → (s.touch (.mop k)).writeRows (.mop k) i (blockVals rows l) = .error e → e ≠ stBusy →
      ∃ s', exec (.mopWriteBlock k r) s = .next s' ∧ Only [.dict, .out] s s' ∧
        s'.out = s.out ++ [.mop k 0x84 (bits h 111 96) i sub 0 e (mopArg h) []]) ∧
    (∀ rows t, mopOp h = 4 → s.blockRows (.mop k) true i sub (mopType h) (mopArg h) = .ok rows →
      l.length = (rows.map (fun r => padded r.2)).sum → (s.touch (.mop k)).writeRows (.mop k) i (blockVals rows l) = .ok t →
      ∃ s', exec (.mopWriteBlock k r) s = .next s' ∧ s'.cores = t.cores ∧ s'.objs = t.objs) ∧
    (∀ o v, mopOp h = 4 → s.blockRows (.mop k) true i sub (mopType h) (mopArg h) = .ok [(sub, o)] → l = beBytes (padded o) v →
      v < 256 ^ tySize o.ty → o.inRange v = true → Plain (.mop k) i sub v → tyBytes o.ty = false → ∃ s', exec (.mopWriteBlock k r) s = .next s' ∧
        Only [.objs, .dict, .out] s s' ∧ s'.obj i sub = v ∧
        s'.out = s.out ++ [.mop k 0x84 (bits h 111 96) i sub 0 0 (mopArg h) []]) ∧
    (∀ o, mopOp h = 5 → l = [] → 4 ≤ mopArg h → mopArg h ≤ 4000000 → s.readOk (.mop k) i sub (mopType h) = .ok o →
      s.subsOf k < 32 → s.dict.subs.length < 128 → ∃ s' id, exec (.mopSubscribe k r) s = .next s' ∧ Only [.dict, .out] s s' ∧ 1 ≤ id ∧
        (∀ u ∈ s.dict.subs, u.id ≠ id) ∧ (∀ j, 1 ≤ j → j < id → ∃ u ∈ s.dict.subs, u.id = j) ∧
        s'.dict.subs = s.dict.subs ++
          [{ id := id, sess := k, index := i, sub := sub, count := 0, block := false, period := mopArg h, last := s.frame }] ∧
        s'.out = s.out ++ [.mop k 0x85 (bits h 111 96) i sub (ansType i sub (mopType h)) 0 (mopArg h) (beBytes 4 id)]) ∧
    (∀ u, mopOp h = 5 → mopArg h = 0 → u ∈ s.dict.subs → u.sess = k.val → l = beBytes 4 u.id → u.id < 65536 →
      ∃ s', exec (.mopSubscribeCancel k r) s = .next s' ∧ Only [.dict, .out] s s' ∧ s'.dict.subs = s.dict.subs.filter (fun x => x.id ≠ u.id) ∧
        s'.out = s.out ++ [.mop k 0x85 (bits h 111 96) i sub (mopType h) 0 0 (beBytes 4 u.id)])) ∧
  (∀ (s : State) (k : Fin 8) (r : List Byte), Serves s (.mop k) → r.length < 16 ∨ 1040 < r.length →
    ∀ c, c ∈ [Instr.mopRead k r, .mopWrite k r, .mopReadBlock k r, .mopWriteBlock k r, .mopSubscribe k r, .mopSubscribeCancel k r] →
    ∃ s', exec c s = .next s' ∧ Only [.dict] s s' ∧ (s'.dict = s.dict ∨ s'.sess k = { s.sess k with last := s.cyc.ns })) ∧
  (∀ (s : State) (f g : Nat) (full : List (Fin 8)), s.nextPush = some f →
    g = (if s.steppedPast (250000 * f) then max f (frameOf s.cyc.lastStep) else f) →
    (s.turn { at_ := 250000 * f, rank := 8 } = false → exec (.tallySubscriptionPush full) s = .next s) ∧
    (s.turn { at_ := 250000 * f, rank := 8 } = true → ∃ s', exec (.tallySubscriptionPush full) s = .next s' ∧ s'.cores = s.cores ∧
      (Steady s → 250000 * f ≤ s'.time.now) ∧ s'.dict.subs = s.dict.subs.map (fun u => if s.pushOf u = f then { u with last := g } else u))) ∧
  (∀ (s : State) (u : Sub) (k : Fin 8) (f : Nat), s.dict.subs = [u] → u.sess = k.val → u.id ≤ 128 → f = s.pushOf u →
    s.turn { at_ := 250000 * f, rank := 8 } = true →
    ∀ o v, u.block = false → s.mgmtUp = true → s.mgmtNet = true → 250000 * f ≤ s.time.now → s.readOk (.mop k) u.index u.sub 0 = .ok o →
      tyBytes o.ty = false → s.value (.mop k) u.index u.sub = .ok v →
      (∃ s', exec (.tallySubscriptionPush []) s = .next s' ∧ s'.objs = s.objs ∧
        s'.out = s.out ++ [.mop k 0xC5 u.id u.index u.sub o.ty (0x4000 * b2n s.timeFree + 0x2000 * b2n s.holdover) (f % 2 ^ 32)
          (beBytes (tySize o.ty) v)]) ∧
      ∃ s', exec (.tallySubscriptionPush [k]) s = .next s' ∧ s'.out = s.out) ∧
  ∀ (s : State) (k : Fin 8) (r l : List Byte) (h : Nat) (token : Token) (re : Nat → Out), Serves s (.mop k) → r.length = 16 + l.length →
    r.drop 16 = l → h = mopHdr r → bits h 127 120 = 1 → bits h 47 32 = l.length → l.length ≤ 1024 → mopIsAuth h = true →
    (∀ e, re e = .mop k 0x82 (bits h 111 96) 0x1202 1 (mopType h) e (mopArg h) []) →
    (∀ o, s.writeOk (.mop k) 0x1202 1 (some (mopType h)) = .ok o →
      (mopArg h = 0 → l.length ≤ o.size → s.tokenOk token = true → ∃ s', exec (.serviceAuth k r token) s = .next s' ∧ Only [.dict, .out] s s' ∧
        s'.out = s.out ++ [re 0] ∧ s'.role (.mop k) = .vendor) ∧
      (mopArg h = 0 → l.length ≤ o.size → s.tokenOk token = false → ∃ s' w, exec (.serviceAuth k r token) s = .next s' ∧
        Only [.dict, .out, .log, .fns] s s' ∧ s'.out = s.out ++ w ++ [re stAuth] ∧ s'.role (.mop k) = s.role (.mop k)) ∧
      (mopArg h ≠ 0 ∨ o.size < l.length → ∃ s', exec (.serviceAuth k r token) s = .next s' ∧ Only [.dict, .out] s s' ∧
        s'.out = s.out ++ [re stRange] ∧ s'.role (.mop k) = s.role (.mop k))) ∧
    (∀ e, s.writeOk (.mop k) 0x1202 1 (some (mopType h)) = .error e → e ≠ stBusy → ∃ s', exec (.serviceAuth k r token) s = .next s' ∧
      Only [.dict, .out] s s' ∧ s'.out = s.out ++ [re e] ∧ s'.role (.mop k) = s.role (.mop k)) ∧
    ((s.sess k).role = 0 → mopType h = ((objInfo 0x1202 1).getD default).ty → s.writeOk (.mop k) 0x1202 1 (some (mopType h)) = .error stDenied)

/-- SAT_CLEAR clears the saturation flags of its core; PT_ROOT takes a root of a 2 MiB page below 2^48 and empties the map buffers of its
Pavilion; a change of the management addresses closes every session and ends PTP lock; CT_HIST_CLEAR clears histograms and misses (07 R209; 10 R282,
R295; 16 R450; 24 R626). -/
def Obligations.UnitObjects : Prop :=
  (∀ (s : State) (who : Requester) (n : CoreIx), Takes s who (0x2000 + n) 0x22 1 1 → ∃ s', exec (.satClear who n 1) s = .next s' ∧
    Only [.cores, .dict, .out] s s' ∧ OtherCores n s s' ∧ Answered s s' who 0 0 ∧
    s'.core n = { s.core n with par := { (s.core n).par with satFlags := 0 } }) ∧
  (∀ (s : State) (who : Requester) (p : PavIx) (v : Nat), Takes s who (0x2210 + p) 1 8 v → v < 2 ^ 64 →
    (v % 2097152 = 0 → v < 2 ^ 48 → ∃ s', exec (.ptRootWrite who p v) s = .next s' ∧ Only [.objs, .cores, .dict, .out] s s' ∧
      Answered s s' who 0 0 ∧ s'.obj (0x2210 + p) 1 = v ∧ (∀ n ∈ s.coresOf p, (s'.core n).map.entries = [] ∧
        (s'.core n).plot = (s.core n).plot ∧ (s'.core n).ctl = (s.core n).ctl) ∧ ∀ n, n ∉ s.coresOf p → s'.core n = s.core n) ∧
    (v % 2097152 ≠ 0 ∨ 2 ^ 48 ≤ v → ∃ s', exec (.ptRootWrite who p v) s = .next s' ∧ Only [.dict, .out] s s' ∧
      Answered s s' who stRange 0)) ∧
  (∀ (s : State) (who : Requester) (sub v : Nat), 1 ≤ sub → sub ≤ 4 → Takes s who 0x1200 sub (if sub = 1 then 8 else 4) v →
    v < 256 ^ (if sub = 1 then 8 else 4) → ∃ s', exec (.mgmtTransportWrite who sub v) s = .next s' ∧ s'.cores = s.cores ∧ s'.pavs = s.pavs ∧
      s'.obj 0x1200 sub = v ∧ .resp who 0 0 ∈ s'.out ∧ (∀ j, j < 8 → (s'.sess j).isOpen = false) ∧ s'.time.ptpLast = none ∧
      s'.time.now = s.time.now) ∧
  ∀ (s : State) (who : Requester) (p : PavIx), Takes s who (0x3185 + 8 * p) 9 1 1 → ∃ s', exec (.ctHistClear who p 1) s = .next s' ∧
    Only [.pavs, .dict, .out] s s' ∧ OtherPavs p s s' ∧ Answered s s' who 0 0 ∧
    s'.pav p = { s.pav p with ct := { (s.pav p).ct with hist := [], miss := [] } }

/-- PAV_CREATE makes an ACTIVE Pavilion of its cores, whose counters are 0 and whose state is IDLE; it takes a READY chip, a FREE Pavilion, a
core and an HBM4 range. PAV_RESET, PAV_DESTROY and PAV_CORE_RESET stop issue on the cores they reset; a reset takes in a second request, and
a destroy turns it into its own (15 R409, R413, R422, R424, R429). -/
def Obligations.PavilionRequests : Prop :=
  (∀ (s : State) (who : Requester) (p : PavIx), Takes s who (0x3000 + 16 * p) 3 1 1 →
    (s.boot.ready = true → (s.pav p).st = .free → s.pavWhole p = true → ∃ s', exec (.pavCreate who p 1) s = .next s' ∧
      Only [.cores, .pavs, .fns, .energy, .tally, .boot, .dict, .out] s s' ∧ OtherPavs p s s' ∧ Replied s s' who 0 0 ∧
      (s'.pav p).st = .active ∧ (s'.pav p).ct.hist = [] ∧ (s'.pav p).ct.miss = [] ∧ (s'.pav p).energy = [] ∧ (s'.fn (p + 1)).pending = 0 ∧
      (∀ n ∈ s.coresOf p, (s'.core n).cnts = [] ∧ (s'.core n).ctl.st = (if (s.core n).ctl.st = .fenced then .fenced else .idle) ∧
        ((s.core n).pint.suspects = [] → (s'.core n).plot = {})) ∧
      ∀ n, n ∉ s.coresOf p → s'.core n = s.core n) ∧
    (s.boot.ready = false ∨ (s.pav p).st ≠ .free → ∃ s', exec (.pavCreate who p 1) s = .next s' ∧ Only [.dict, .out] s s' ∧
      Answered s s' who stState 0) ∧
    (s.boot.ready = true → (s.pav p).st = .free → s.pavWhole p = false → ∃ s', exec (.pavCreate who p 1) s = .next s' ∧
      Only [.dict, .out] s s' ∧ Answered s s' who 0x113 0)) ∧
  (∀ (s : State) (who : Requester) (p : PavIx) (v : Nat), v ≤ 1 → Takes s who (0x3000 + 16 * p) 4 1 v →
    ((s.pav p).st = .active ∨ (s.pav p).st = .free → ∃ s', exec (.pavDestroy who p v) s = .next s' ∧ Replied s s' who 0 0 ∧
      (s'.pav p).st = .destroying ∧ (s'.pav p).resetAt = 2 ∧ (s'.pav p).lastReset = 5 ∧ (s'.pav p).destroyV = v ∧ s'.mem = s.mem ∧
      s'.objs = s.objs ∧ ∀ n ∈ s.coresOf p, (s'.core n).ctl.drain = .reset) ∧
    ((s.pav p).st = .resetting → ∃ s', exec (.pavDestroy who p v) s = .next s' ∧ Only [.pavs, .dict, .out] s s' ∧ OtherPavs p s s' ∧
      Answered s s' who 0 0 ∧ s'.pav p = { s.pav p with st := .destroying, lastReset := 5, destroyV := v })) ∧
  (∀ (s : State) (who : Requester) (p : PavIx), Takes s who (0x3000 + 16 * p) 5 1 1 →
    ((s.pav p).st = .active → ∃ s', exec (.pavReset who p 1) s = .next s' ∧ Replied s s' who 0 0 ∧ (s'.pav p).st = .resetting ∧
      (s'.pav p).resetAt = 2 ∧ (s'.pav p).lastReset = 1 ∧ s'.mem = s.mem ∧ s'.objs = s.objs ∧
      ∀ n ∈ s.coresOf p, (s'.core n).ctl.drain = .reset) ∧
    ((s.pav p).st = .resetting ∨ (s.pav p).st = .destroying → ∃ s', exec (.pavReset who p 1) s = .next s' ∧ Only [.dict, .out] s s' ∧
      Answered s s' who 0 0) ∧
    ((s.pav p).st = .free → ∃ s', exec (.pavReset who p 1) s = .next s' ∧ Only [.dict, .out] s s' ∧ Answered s s' who stState 0)) ∧
  ∀ (s : State) (who : Requester) (p : PavIx) (n : CoreIx), Takes s who (0x3000 + 16 * p) 6 1 n →
    ((s.pav p).st ≠ .free → n.val ∈ s.coresOf p → (s.pav p).resetAt = 0 → (s.core n).fence.coreReset = false → (s.core n).fence.run = .none →
      ∃ s', exec (.pavCoreReset who p n) s = .next s' ∧ Only [.cores, .dict, .out] s s' ∧ OtherCores n s s' ∧ Answered s s' who 0 0 ∧
        (s'.core n).ctl = { (s.core n).ctl with drain := .reset } ∧ (s'.core n).fence.coreReset = true ∧ (s'.core n).plot = (s.core n).plot) ∧
    ((s.pav p).st ≠ .free → n.val ∉ s.coresOf p → ∃ s', exec (.pavCoreReset who p n) s = .next s' ∧ Only [.dict, .out] s s' ∧
      Answered s s' who 0x111 0)

/-- When the drain of a reset ends, every core of the Pavilion is cleared, its Plot once nothing of it is to be classified, and no other core is
touched; step 8 discards the pending causes,
raises RESET_DONE, tells PF0 and counts the reset. A destroyed Pavilion gives up its cores and ranges, with v = 1 zeroed, and no other byte of
memory changes. A core reset clears its core alone (09 R262, R268; 15 R413, R422, R424, R432). -/
def Obligations.PavilionResets : Prop :=
  (∀ (s : State) (p : PavIx), (s.pav p).resetAt = 2 → (∀ n ∈ s.coresOf p, (s.core n).pint.suspects = []) →
    ∃ s', exec (.pavResetDrainComplete p) s = .next s' ∧ OtherPavs p s s' ∧ (s'.pav p).resetAt = 3 ∧ (s'.pav p).st = (s.pav p).st ∧
      s'.fw = s.fw ∧ s'.time = s.time ∧ s'.reqs = s.reqs ∧
      (∀ n ∈ s.coresOf p, ((s.core n).par.eng.run = [] ∨ (s'.core n).pint.suspects = [] → Cleared (s'.core n)) ∧
        ((s.core n).ctl.st ≠ .fenced → (s.core n).fence.st = 0 → (s.core n).pint.fenced = 0 → (s'.core n).ctl.st = .idle)) ∧
      ∀ n, n ∉ s.coresOf p → s'.core n = s.core n) ∧
  (∀ (s : State) (p : PavIx), (s.pav p).resetAt = 3 →
    ((s.pav p).st = .resetting → ∃ s', exec (.pavResetComplete p) s = .next s' ∧ Only [.pavs, .fns, .boot, .out] s s' ∧ OtherPavs p s s' ∧
      s'.pav p = { s.pav p with st := .active, resetAt := 0, resetCount := ((s.pav p).resetCount + 1) % 2 ^ 32 } ∧
      (s'.fn (p + 1)).pending = 32 ∧ (s'.fn (p + 1)).listMap = 0 ∧ bit (s'.fn 0).pending 4 = true ∧ bit (s'.fn 0).listMap p = true) ∧
    ((s.pav p).st = .destroying → ∃ s', exec (.pavDestroyComplete p) s = .next s' ∧ Only [.pavs, .fns, .boot, .out, .objs, .mem, .mmeta] s s' ∧
      OtherPavs p s s' ∧ (s'.pav p).st = .free ∧ (s'.pav p).resetAt = 0 ∧ (s'.fn (p + 1)).pending = 32 ∧ s'.pavCores p = 0 ∧
      (∀ r, r < 8 → s'.pavRange p r = (0, 0)) ∧ ((s.pav p).destroyV ≠ 1 → s'.mem = s.mem) ∧
      ((s.pav p).destroyV = 1 → ∀ r, r < 8 → ∀ a, (s.pavRange p r).1 ≤ a → a < (s.pavRange p r).1 + (s.pavRange p r).2 →
        Mem.byte s'.mem a = 0) ∧
      ∀ a, (∀ r, r < 8 → a < (s.pavRange p r).1 ∨ (s.pavRange p r).1 + (s.pavRange p r).2 ≤ a) → Mem.byte s'.mem a = Mem.byte s.mem a)) ∧
  ∀ (s : State) (n : CoreIx) (p : Nat), (s.core n).fence.coreReset = true → (s.core n).pint.suspects = [] → s.owner n = some p →
    ∃ s', exec (.coreResetComplete n) s = .next s' ∧ OtherCores n s s' ∧ s'.pavs = s.pavs ∧ s'.mem = s.mem ∧ s'.objs = s.objs ∧
      ((s.core n).par.eng.run = [] ∨ (s'.core n).pint.suspects = [] → Cleared (s'.core n)) ∧ (s'.core n).fence.coreReset = false ∧ bit (s'.fn (p + 1)).pending 6 = true ∧
      ((s.core n).ctl.st ≠ .fenced → (s.core n).fence.st = 0 → (s.core n).pint.fenced = 0 → (s'.core n).ctl.st = .idle)

/-- A write to PAV_CORES takes usable cores that no Pavilion owns and gives up cores that neither run nor are halted, which are cleared;
it refuses a running core with 0x110 and a core of another owner with 0x111. A range object takes an aligned range of the tiers that meets
no other Pavilion's; any other is refused with 0x112 (15 R408, R411, R412). -/
def Obligations.PavilionShape : Prop :=
  (∀ (s : State) (who : Requester) (p : PavIx) (v : Nat), Serves s who → (∃ o, s.writeOk who (0x3000 + 16 * p) 2 none = .ok o) →
    v < 2 ^ 144 → s.pavCores p < 2 ^ 144 →
    ((∀ n, n < 144 → bit v n = true → bit (s.pavCores p) n = false → s.coreUsable n = true ∧ s.owner n = none) →
      (∀ n, n < 144 → bit v n = false → bit (s.pavCores p) n = true → (s.core n).ctl.st ≠ .run ∧ (s.core n).ctl.st ≠ .halted) →
      ∃ s', exec (.pavCoresWrite who p 0 18 v) s = .next s' ∧ Replied s s' who 0 0 ∧ s'.pavCores p = v ∧
        (∀ n, n < 144 → bit v n = false → bit (s.pavCores p) n = true → (s'.core n).ctl.sregs = [] ∧ (s'.core n).wins = [] ∧
          ((s.core n).pint.suspects = [] → (s.core n).par.eng.run = [] → Cleared (s'.core n)) ∧
          ((s.core n).pint.suspects ≠ [] → (s'.core n).pint.scrubPending = true)) ∧
        (∀ n, bit v n = bit (s.pavCores p) n → s'.core n = s.core n) ∧
        (∀ q : PavIx, q ≠ p → s'.pavCores q = s.pavCores q) ∧ s'.mem = s.mem) ∧
    ((∀ n, n < 144 → bit v n = true → bit (s.pavCores p) n = true) → (∃ n, n < 144 ∧ bit v n = false ∧ bit (s.pavCores p) n = true ∧
        ((s.core n).ctl.st = .run ∨ (s.core n).ctl.st = .halted)) →
      ∃ s', exec (.pavCoresWrite who p 0 18 v) s = .next s' ∧ Only [.dict, .out] s s' ∧ Answered s s' who 0x110 0) ∧
    ((∀ n, n < 144 → bit v n = false → bit (s.pavCores p) n = false) → (∃ n, n < 144 ∧ bit v n = true ∧ bit (s.pavCores p) n = false ∧
        (s.coreUsable n = false ∨ s.owner n ≠ none)) →
      ∃ s', exec (.pavCoresWrite who p 0 18 v) s = .next s' ∧ Only [.dict, .out] s s' ∧ Answered s s' who 0x111 0)) ∧
  ∀ (s : State) (who : Requester) (p : PavIx) (k : Fin 16) (v b n : Nat), Takes s who (0x3001 + 16 * p) (k + 1) 8 v → v < 2 ^ 64 →
    (b, n) = (if k.val < 8 then (v, (s.pavRange p (k % 8)).2) else ((s.pavRange p (k % 8)).1, v)) →
    (b % 2097152 = 0 → n % 2097152 = 0 → n = 0 ∨ populated b n = true ∧ (∀ q : PavIx, q ≠ p → ∀ r, r < 8 →
        (s.pavRange q r).2 = 0 ∨ (s.pavRange q r).1 + (s.pavRange q r).2 ≤ b ∨ b + n ≤ (s.pavRange q r).1) →
      ∃ s', exec (.pavRangeWrite who p k v) s = .next s' ∧ Replied s s' who 0 0 ∧ s'.obj (0x3001 + 16 * p) (k + 1) = v ∧
        s'.pavRange p (k % 8) = (b, n) ∧ s'.cores = s.cores ∧ s'.pavs = s.pavs ∧
        ∀ j x, okey j x ≠ okey (0x3001 + 16 * p) (k + 1) → s'.obj j x = s.obj j x) ∧
    (b % 2097152 ≠ 0 ∨ n % 2097152 ≠ 0 ∨ n ≠ 0 ∧ populated b n = false → ∃ s', exec (.pavRangeWrite who p k v) s = .next s' ∧
      Only [.dict, .out] s s' ∧ Answered s s' who 0x112 0)

/-- At a slot start BASE gets its measured draw, each group its floor, and the remainder of the cap goes to the groups in PWR_ORDER, each up
to its demand, and what thermal limiting takes comes from COMPUTE first; the cap rises at once, and falls at MP_RAMP. LINKS and MEMORY are
held to their allotments but for level 0, COMPUTE to its own, and a Pavilion within its share is paced only in the cases of R464. A slot's
power, ballast and pacing keep to the ramp as far as they can, and are what MP_STATE and the floor objects report; a change that escapes
both is a BREACH, which a read of MP_STATUS clears. A power step moves MP_FLOOR at its time, in its turn. A frame's energy is charged by the
estimates, scaled down where they exceed it (02 R52; 17 R460 to R474). -/
def Obligations.PowerSlots : Prop :=
  (∀ (s : State) (d : PowerDemand), s.boot.pwrgood = true →
    ∃ s', exec (.pwrSlotSplit d) s = .next s' ∧ s'.power.splitSlot = some (absSlot s'.time.now) ∧
      ∀ k, s.power.splitSlot = some k → absSlot s.time.now ≤ k → Steady s → absSlot s.time.now < absSlot s'.time.now) ∧
  (∀ (s : State) (d : PowerDemand) (k g0 g1 g2 : Nat), s.boot.pwrgood = true → s.fw.down = false →
    s.power.splitSlot = some k → k < absSlot s.time.now → g0 < 3 → g1 < 3 → g2 < 3 → g0 ≠ g1 → g0 ≠ g2 → g1 ≠ g2 →
    s.obj 0x4010 1 % 64 = g0 + 4 * g1 + 16 * g2 → ∃ s', exec (.pwrSlotSplit d) s = .next s' ∧
      Only [.power, .log, .fns, .out] s s' ∧
      s'.power.splitSlot = some (absSlot s.time.now) ∧ Sparse.getD s'.power.allot 1 0 = d.base ∧
      (∀ D f a : Nat → Nat, D = (fun g => if g = 0 then levelTotal d.links else if g = 1 then levelTotal d.mem else d.comp.sum) →
        f = (fun g => 256 * (if g = 0 then s.obj 0x4010 3 else if g = 1 then s.obj 0x4010 4
          else ((List.range 16).map (fun p => s.obj 0x4011 (p + 1))).sum)) →
        a = (fun g => Sparse.getD s'.power.allot (g + 2) 0) →
        (∀ (left full : Nat) (h : Nat → Nat), left = (if s.capStarting then 0 else s'.power.capEff - d.base - f 0 - f 1 - f 2) →
          full = (if s.capStarting then 0 else 256 * s.obj 0x4010 2 - d.base - f 0 - f 1 - f 2) →
          (∀ top, top = (if s'.power.capTherm then full else left) → h g0 = min top (D g0 - f g0) ∧ h g1 = min (top - h g0) (D g1 - f g1) ∧
            h g2 = min (top - h g0 - h g1) (D g2 - f g2)) →
          (s'.power.capTherm = false → ∀ g, g < 3 → a g = f g + h g) ∧
          (s'.power.capTherm = true → h 0 + h 1 + h 2 - left ≤ h 2 →
            a 2 = f 2 + (h 2 - (h 0 + h 1 + h 2 - left)) ∧ a 0 = f 0 + h 0 ∧ a 1 = f 1 + h 1) ∧
          a 0 + a 1 + a 2 = f 0 + f 1 + f 2 + min left (h 0 + h 1 + h 2) ∧ ∀ g, g < 3 → f g ≤ a g) ∧
        s'.power.draw.base = d.base ∧ s'.power.draw.links.l0 = d.links.l0 ∧ s'.power.draw.mem.l0 = d.mem.l0 ∧
        levelTotal s'.power.draw.links = max d.links.l0 (min (D 0) (a 0)) ∧ levelTotal s'.power.draw.mem = max d.mem.l0 (min (D 1) (a 1)) ∧
        (d.comp.length ≤ 16 → s'.power.draw.comp.sum ≤ a 2) ∧
        (s.energy.emergency = false → d.links.l0 ≤ a 0 → d.mem.l0 ≤ a 1 → d.base ≤ 256 * 60 → Only [.power] s s' ∧ s'.power.shareBreach = false ∧
          ∀ i v, d.comp[i]? = some v → v ≤ 256 * s.obj 0x4011 (i + 1) → s'.power.draw.comp[i]? = some v)) ∧
      (s.energy.limit = false → s.power.capTherm = false → s.power.capEff ≤ 256 * s.obj 0x4010 2 →
        s'.power.capEff = 256 * s.obj 0x4010 2 ∧ s'.power.capRamp = false) ∧
      (s.energy.limit = false → s.power.capTherm = false → s.power.capRamp = true → 256 * s.obj 0x4010 2 < s.power.capEff →
        s'.power.capEff = max (256 * s.obj 0x4010 2) (s.power.capEff - s.obj 0x4020 1)) ∧
      (s.energy.limit = true → s'.power.capEff = min (256 * s.obj 0x4010 2) (s.power.capEff - s.obj 0x4020 1))) ∧
  (∀ (s : State) (d : PowerDemand) (k : Nat), s.boot.pwrgood = true → s.fw.down = true → s.power.splitSlot = some k →
    k < absSlot s.time.now → ∃ s', exec (.pwrSlotSplit d) s = .next s' ∧ Only [.power, .log, .fns, .out] s s' ∧
      s'.power.allot = s.power.allot ∧ s'.power.capEff = s.power.capEff) ∧
  (∀ (s : State) (bmax : Nat) (cores : List CorePower) (amps : List (Option Int)), s.boot.pwrgood = true →
    ∃ s', exec (.millpondSlot bmax cores amps) s = .next s' ∧ s'.power.mpSlot = some (absSlot s'.time.now) ∧ s'.power.ballastMax = bmax ∧
      s'.power.env.isSome = true ∧ ∀ k, s.power.mpSlot = some k → absSlot s.time.now ≤ k → Steady s → absSlot s.time.now < absSlot s'.time.now) ∧
  (∀ (s : State) (bmax k q p : Nat) (cores : List CorePower) (amps : List (Option Int)) (e : Option (Nat × Nat)) (D : PowerDemand),
    s.boot.pwrgood = true → s.power.mpSlot = some k → k < absSlot s.time.now → e = s.rampBounds (absSlot s.time.now - k) →
    D = (if s.chipState = 5 then { base := s.power.draw.base } else s.power.draw) →
    ∃ s', exec (.millpondSlot bmax cores amps) s = .next s' ∧ Only [.power, .energy, .tally, .log, .fns, .out] s s' ∧
      s'.power.mpSlot = some (absSlot s.time.now) ∧ (q = powerTotal s'.power.run → p = q + s'.power.ballast →
        s'.power.now = p / 256 ∧ s'.power.ballastMax = bmax ∧ s'.power.env = some (rampNext e p) ∧
        s'.power.floorEff = min (Sparse.getD s.power.allot 4 0) (256 * max (s.obj 0x4020 3) s.contractShare) ∧
        s'.power.covered = decide (256 * s.contractShare ≤ s'.power.run.comp.sum + s'.power.ballast) ∧
        (∀ lo hi fl, e = some (lo, hi) → fl = (if s.chipState = 5 then 0 else s'.power.floorEff - s'.power.run.comp.sum) →
          s'.power.ballast = min (min (max fl (lo - q)) bmax) (min (s.power.capEff - q) (hi - q)) ∧
          (powerTotal D ≤ hi → s'.power.run = D) ∧
          (powerTotal D - hi ≤ ((D.comp.zipIdx.map (fun y => y.1 - 256 * s.obj 0x4011 (y.2 + 1))).sum) → q ≤ hi) ∧
          s'.power.mpBreach = (s.power.mpBreach || decide (p < lo) || decide (hi < p)) ∧
          (lo ≤ p → p ≤ hi → s.power.shareBreach = false → s.power.mayBreach = false → s'.log = s.log ∧ s'.out = s.out)) ∧
        (e = none → s'.power.run = D ∧ s'.power.mpBreach = s.power.mpBreach ∧ s'.power.ballast =
          min (min (if s.chipState = 5 then 0 else s'.power.floorEff - D.comp.sum) bmax) (s.power.capEff - q)) ∧
        (s'.power.ballast ≠ 0 → s'.power.mpState = 1) ∧ (s'.power.ballast = 0 → s'.power.run = s.power.draw → s'.power.mpState = 0)) ∧
      s'.power.run.base = D.base ∧ s'.power.run.links.l0 = D.links.l0 ∧ s'.power.run.mem.l0 = D.mem.l0 ∧
      (∀ i v, i < 16 → amps[i]? = some (some v) → Sparse.getD s'.energy.current i 0 = v) ∧ (cores = [] → s'.tally = s.tally) ∧
      (∀ c, cores = [c] → (c.ballast ≠ 0 → s'.power.ballast ≠ 0 → s.coreUsable c.core = true →
          s'.tallyGet 7 c.core = (s.tallyGet 7 c.core + c.ballast) % 2 ^ 48) ∧
        (c.paced ≠ 0 → s'.tallyGet 0x1D c.core = (s.tallyGet 0x1D c.core + c.paced) % 2 ^ 48))) ∧
  (∀ (s : State) (who : Requester), Gives s who 0x4020 0xB → ∃ s', exec (.mpStatusRead who) s = .next s' ∧ Only [.power, .dict, .out] s s' ∧
    Answered s s' who 0 (b2n s.power.covered + 2 * b2n s.power.mpBreach) ∧ s'.power = { s.power with mpBreach := false }) ∧
  (∀ s : State, (s.obj 0x4020 7 = 0 → exec .millpondPowerStep s = .next s) ∧
    (s.turn { at_ := s.power.stepAt, rank := 3 } = false → exec .millpondPowerStep s = .next s) ∧
    (s.obj 0x4020 7 ≠ 0 → s.turn { at_ := s.power.stepAt, rank := 3 } = true → ∃ s', exec .millpondPowerStep s = .next s' ∧
      Only [.time, .cyc, .pavs, .tally, .objs] s s' ∧ (s.power.stepAt ≤ s.time.now → Only [.objs] s s') ∧
      (Steady s → s.power.stepAt ≤ s'.time.now) ∧ s'.obj 0x4020 3 = s.obj 0x4020 8 ∧ s'.obj 0x4020 7 = 0 ∧
      ∀ i x, okey i x ≠ okey 0x4020 3 → okey i x ≠ okey 0x4020 7 → s'.obj i x = s.obj i x)) ∧
  (∀ (s : State) (nj bal : Nat) (l : List EnergyPart), ∃ s', exec (.frameEnergyAttribution nj l bal) s = .next s' ∧ Only [.energy, .pavs] s s' ∧
    s'.energy.total = (s.energy.total + (nj + s.energy.frac) / 1000) % 2 ^ 64 ∧ s'.energy.frac = (nj + s.energy.frac) % 1000 ∧
    ∀ p, (∀ x ∈ l, x.pav ≠ p) → s'.pav p = s.pav p) ∧
  ∀ (s : State) (nj bal e a : Nat) (x : EnergyPart), e = (nj + s.energy.frac) / 1000 → a = x.amount + bal →
    ∃ s', exec (.frameEnergyAttribution nj [x] bal) s = .next s' ∧ Only [.energy, .pavs] s s' ∧ OtherPavs x.pav s s' ∧
      s'.energy.total = (s.energy.total + e) % 2 ^ 64 ∧ s'.energy.frac = (nj + s.energy.frac) % 1000 ∧
      (a ≤ e → Sparse.getD (s'.pav x.pav).energy x.queue 0 = (Sparse.getD (s.pav x.pav).energy x.queue 0 + x.amount) % 2 ^ 64 ∧
        s'.energy.ballast = (s.energy.ballast + bal) % 2 ^ 64 ∧ s'.energy.uncharged = (s.energy.uncharged + (e - a)) % 2 ^ 64) ∧
      (e < a → Sparse.getD (s'.pav x.pav).energy x.queue 0 = (Sparse.getD (s.pav x.pav).energy x.queue 0 + x.amount * e / a) % 2 ^ 64 ∧
        s'.energy.ballast = (s.energy.ballast + bal * e / a) % 2 ^ 64 ∧
        s'.energy.uncharged = (s.energy.uncharged + (e - (x.amount * e / a + bal * e / a))) % 2 ^ 64)

/-- VF_POINT and thermal limiting set the point: down, the clock moves first, up, it waits for rail 0, which settles within 5 mV of its
target; a rail that does not settle is a fault, and rail 0 then lowers the point or puts the chip into FAULT. Ageing follows whole hours, the
droop guard the largest droop of 16 frames (17 R475 to R480; 19 R532; 23 R604). -/
def Obligations.RailsAndPoints : Prop :=
  (∀ (s : State) (who : Requester) (v g : Nat), Takes s who 0x4030 2 1 v → v ≤ 15 → s.boot.ready = true → g = min v (15 - s.power.thermDown) →
    ∃ s', exec (.vfPointWrite who v) s = .next s' ∧ Only [.objs, .power, .dict, .out] s s' ∧ Replied s s' who 0 0 ∧ s'.obj 0x4030 2 = v ∧
      (s'.rail 0).target = s.vReq g ∧ (g < s.power.vf → s'.power.vf = g) ∧
      (s.power.vf ≤ g → (s.rail 0).target ≠ s.vReq g → s'.power.vf = s.power.vf ∧ (s'.rail 0).done = false ∧ .avs 0 (s.vReq g) ∈ s'.out) ∧
      (s.power.vf ≤ g → (s.rail 0).target = s.vReq g → (s.rail 0).done = true → g ≤ s.power.vfCeil → s'.power.vf = g)) ∧
  (∀ (s : State) (k : Fin 3) (mv : Nat) (r : Rail), Sparse.find s.power.rails k = some r →
    (r.done = true ∨ mv + 5 < r.target ∨ r.target + 5 < mv → exec (.railSettled k mv) s = .next s) ∧
    (r.done = false → r.target ≤ mv + 5 → mv ≤ r.target + 5 → r.slewing = true →
      ∃ s', exec (.railSettled k mv) s = .next s' ∧ Only [.time, .cyc, .pavs, .tally, .power, .energy, .boot, .fns, .out] s s' ∧
        (r.since + cdiv ((max r.target r.readback - min r.target r.readback) * 1000) (s.railSlew k) + 10000 ≤ s.cyc.ns →
          Only [.power, .energy, .boot, .fns, .out] s s') ∧
        s'.rail k = { r with readback := mv, done := true, slewing := false, fault := false } ∧ (∀ j, j ≠ k.val → s'.rail j = s.rail j) ∧
        (k.val ≠ 0 → s'.power.vf = s.power.vf ∧ s'.boot = s.boot) ∧
        (k.val = 0 → s'.power.vfCeil = 15 ∧ s'.boot.causes.rail = false ∧ s'.power.vf = max s.power.vf s.vfGoal)) ∧
    (r.done = false → r.target ≤ mv + 5 → mv ≤ r.target + 5 → r.slewing = false →
      ∃ s', exec (.railSettled k mv) s = .next s' ∧ Only [.time, .cyc, .pavs, .tally, .power, .energy] s s' ∧
        (r.since + cdiv ((max r.target r.readback - min r.target r.readback) * 1000) (s.railSlew k) + 10000 ≤ s.cyc.ns →
          Only [.power, .energy] s s') ∧ s'.rail k = { r with readback := mv, done := true } ∧
        (∀ j, j ≠ k.val → s'.rail j = s.rail j) ∧ s'.power.vf = s.power.vf) ∧
    (r.slewing = true →
      ∃ s', exec (.railTimeout k mv) s = .next s' ∧ Only [.time, .cyc, .pavs, .tally, .power, .energy, .log, .boot, .fns, .out] s s' ∧
        (r.since + cdiv ((max r.target r.readback - min r.target r.readback) * 1000) (s.railSlew k) + 100000 ≤ s.cyc.ns →
          Only [.power, .energy, .log, .boot, .fns, .out] s s') ∧
        s'.rail k = { r with readback := mv, since := s'.cyc.ns, slewing := false, fault := true } ∧ (∀ j, j ≠ k.val → s'.rail j = s.rail j) ∧
        (k.val ≠ 0 → s'.power.vf = s.power.vf) ∧
        (∀ p, k.val = 0 → p < 16 → s.vReq p ≤ mv → (∀ q, p < q → q < 16 → mv < s.vReq q) → s'.power.vf = min s.power.vf p ∧ s'.power.vfCeil = p) ∧
        (k.val = 0 → (∀ q, q < 16 → mv < s.vReq q) → s'.power.vf = 0 ∧ s'.boot.causes.rail = true ∧ s'.chipState = 5)) ∧
    (r.slewing = false → exec (.railTimeout k mv) s = .next s)) ∧
  (∀ s : State, s.boot.pwrgood = true → ∃ s', exec .vfAgingUpdate s = .next s' ∧ s'.cyc.ns = 3600000000000 * (s.cyc.ns / 3600000000000 + 1) ∧
    s'.power.hours = (s.power.hours + 1) % 2 ^ 32 ∧ s'.power.aging = min 30 (2 * (s'.power.hours / 5000)) ∧
    (s'.power.aging ≠ s.power.aging → (s'.rail 0).target = s'.vReq s'.vfGoal ∧ (s'.rail 1).target = s'.fixedTarget 1 ∧
      (s'.rail 2).target = s'.fixedTarget 2) ∧ s'.objs = s.objs ∧ s'.cores = s.cores ∧ s'.mem = s.mem) ∧
  ∀ (s : State) (peaks : List (Option Nat)), ∃ s', exec (.droopGuardUpdate peaks) s = .next s' ∧ Only [.power, .energy, .out] s s' ∧
    (∀ i v, i < 144 → peaks[i]? = some (some v) → Sparse.getD s'.energy.droop i 0 = v) ∧
    s'.power.droops = (((peaks.take 144).map (fun x => x.getD 0)).foldl max 0 :: s.power.droops).take 16 ∧
    (s.power.clockOn = true → s.boot.clkStart + 1048576 ≤ s.cyc.cycles → s'.power.droopG = min 15 (s'.power.droops.foldl max 0 - 20)) ∧
    (s.power.clockOn = false ∨ s.cyc.cycles < s.boot.clkStart + 1048576 → s'.power.droopG = s.power.droopG ∧ s'.out = s.out)

/-- THERM_MAX is the largest reading that counts; WARN, LIMIT and EMERGENCY follow it, and in the emergency stage the point falls by one
step and another every 100 µs. A sensor at 115 °C stops the clock and puts the chip into FAULT. A calibration runs on an idle chip for 8 frames
from the next frame start; a disturbed one is discarded, a forced one marks the energy figures suspect (17 R481 to R486). -/
def Obligations.ThermalAndCalibration : Prop :=
  (∀ (s : State) (temps : List (Option Int)), s.boot.pwrgood = true → s.boot.phase ≠ 0 → s.fw.down = false → s.boot.upAt ≤ s.cyc.ns →
    ∃ s', exec (.thermalReading temps) s = .next s' ∧ s'.cyc.ns = s.boot.upAt + 125000 * ((s.cyc.ns - s.boot.upAt) / 125000 + 1) ∧ s'.objs = s.objs ∧ s'.cores = s.cores ∧
      s'.mem = s.mem ∧ (∀ i v, i < 64 → temps[i]? = some (some v) → Sparse.getD s'.energy.therm i 0 = v) ∧
      (∀ i, i < 64 → s'.thermOf i ≤ s'.energy.thermMax) ∧ s'.thermOf s'.energy.thermHot = s'.energy.thermMax ∧
      s'.energy.warn = decide (1000 * (s.obj 0x4100 3 : Int) ≤ s'.energy.thermMax) ∧
      s'.energy.limit = decide (1000 * (s.obj 0x4100 4 : Int) ≤ s'.energy.thermMax) ∧
      s'.energy.emergency = (if s.energy.emergency then s'.energy.limit else decide (1000 * (s.obj 0x4100 4 : Int) + 8000 ≤ s'.energy.thermMax)) ∧
      (s.energy.emergency = false → s'.energy.emergency = true → s'.power.shareBreach = true)) ∧
  (∀ s : State,
    (s.energy.emergency = true → s.power.vf ≠ 0 → s.power.vf ≤ 15 → s.boot.ready = true → s.power.vf ≤ s.obj 0x4030 2 →
      ∃ s', exec .thermPointStep s = .next s' ∧ Only [.time, .cyc, .pavs, .tally, .energy, .power, .out] s s' ∧
        (s.energy.thermStep + 100000 ≤ s.cyc.ns → Only [.energy, .power, .out] s s') ∧
        s'.power.vf = s.power.vf - 1 ∧ s'.energy = { s.energy with thermStep := s'.cyc.ns }) ∧
    (s.energy.emergency = false → s.power.thermDown ≠ 0 → s.power.thermDown ≤ 15 →
      ∃ s', exec .thermPointStep s = .next s' ∧ Only [.time, .cyc, .pavs, .tally, .energy, .power, .out] s s' ∧
        (s.energy.thermStep + 1000000 ≤ s.cyc.ns → Only [.energy, .power, .out] s s') ∧
        s'.energy = { s.energy with thermStep := s'.cyc.ns } ∧
        s'.power.thermDown = (if s.obj 0x4030 2 + (s.power.thermDown - 1) ≤ 15 then 0 else s.power.thermDown - 1)) ∧
    (s.energy.emergency = false → s.power.thermDown = 0 → exec .thermPointStep s = .next s)) ∧
  (∀ (s : State) (i : Fin 64) (t : Int), s.boot.pwrgood = true → s.boot.thermtripLow = false →
    (115000 ≤ t → ∃ s', exec (.thermtrip i t) s = .next s' ∧ Only [.boot, .power, .pcie, .log, .fns, .out] s s' ∧ s'.boot.thermtripLow = true ∧
      s'.pcie.linkUp = false ∧
      s'.power = { s.power with clockOn := false } ∧ s'.chipState = 5) ∧
    (t < 115000 → exec (.thermtrip i t) s = .next s)) ∧
  (∀ (s : State) (who : Requester), Takes s who 0x4050 1 1 1 →
    (s.energy.calRunning = true → ∃ s', exec (.calStart who 1) s = .next s' ∧ Only [.dict, .out] s s' ∧ Answered s s' who 0x132 0) ∧
    (s.energy.calRunning = false → s.calIdle = false → ∃ s', exec (.calStart who 1) s = .next s' ∧ Only [.dict, .out] s s' ∧
      Answered s s' who 0x131 0) ∧
    (s.energy.calRunning = false → s.calIdle = true → ∃ s', exec (.calStart who 1) s = .next s' ∧ Only [.energy, .dict, .out] s s' ∧
      Answered s s' who 0 0 ∧ s'.energy = { s.energy with
        calRunning := true, calForced := false, calBroken := false, calStatus := 1, calEnd := 250000 * (s.time.now / 250000 + 9) })) ∧
  (∀ (s : State) (who : Requester), Takes s who 0x4050 2 1 1 → ∃ s', exec (.calForce who 1) s = .next s' ∧ Only [.energy, .dict, .out] s s' ∧
    Answered s s' who 0 0 ∧ s'.energy = { s.energy with
      calRunning := true, calForced := true, calBroken := false, calStatus := 1, calEnd := 250000 * (s.time.now / 250000 + 9) }) ∧
  ∀ (s : State) (off : Nat) (ch : Bool), s.energy.calRunning = true →
    ∃ s', exec (.calibrationWindowEnd off ch) s = .next s' ∧ Only [.time, .cyc, .pavs, .tally, .energy, .log, .fns, .out] s s' ∧
      (s.energy.calEnd ≤ s.time.now → Only [.energy, .log, .fns, .out] s s') ∧ (Steady s → s.energy.calEnd ≤ s'.time.now) ∧ s'.energy.calRunning = false ∧
      (s.energy.calForced = true → s'.energy.calStatus = 4 ∧ s'.energy.suspect = true ∧ s'.energy.calOffsets = off % 2 ^ 512 ∧
        s'.energy.calTime = s'.time.now) ∧
      (s.energy.calForced = false → ch = true ∨ s.energy.calBroken = true → s'.energy.calStatus = 3 ∧
        s'.energy.calOffsets = s.energy.calOffsets ∧ s'.energy.suspect = s.energy.suspect) ∧
      (s.energy.calForced = false → ch = false → s.energy.calBroken = false → s'.energy.calStatus = 2 ∧ s'.energy.suspect = false ∧
        s'.energy.calOffsets = off % 2 ^ 512 ∧ s'.energy.calTime = s'.time.now)

/-- A request fences a core once it neither runs nor is halted, and a port that has been UP; clearing takes an unowned core, drops its bank
fences and repairs and starts Checkmate on it. Stored fences are what flash holds. Machenil tests one unowned core after another; a lease
tests a core of the Pavilion that asks. A pass scrubs the Plot, a failure fences the core (18 R504 to R513, R519, R520). -/
def Obligations.FencesAndCheckmate : Prop :=
  (∀ (s : State) (who : Requester) (v : Nat), v < 65536 → Takes s who 0x5000 4 2 v →
    (v < 144 → coreShipped v = false → (s.core v).fence.st = 0 → (s.core v).ctl.st = .run ∨ (s.core v).ctl.st = .halted →
      ∃ s', exec (.fenceRequest who v) s = .next s' ∧ Only [.cores, .dict, .out] s s' ∧ OtherCores v s s' ∧ Answered s s' who 0 0 ∧
        s'.core v = { s.core v with fence := { (s.core v).fence with st := 1, reason := 2 } }) ∧
    (v < 144 → coreShipped v = false → (s.core v).fence.st = 0 → (s.core v).ctl.st ≠ .run → (s.core v).ctl.st ≠ .halted →
      ∃ s', exec (.fenceRequest who v) s = .next s' ∧ Only [.cores, .log, .fns, .integ, .boot, .dict, .out] s s' ∧ OtherCores v s s' ∧
        Replied s s' who 0 0 ∧ (s'.core v).fence.st = 2 ∧ (s'.core v).ctl.st = .fenced ∧ (s'.core v).plot = (s.core v).plot ∧
        bit (s'.fn 0).pending 1 = true ∧ s'.integ.storePending = true) ∧
    (v < 144 → coreShipped v = false → (s.core v).fence.st ≠ 0 → ∃ s', exec (.fenceRequest who v) s = .next s' ∧ Only [.dict, .out] s s' ∧
      Answered s s' who 0 0) ∧
    (∀ q, q < 64 → v = 0x100 + q → (s.port q).fenced = false → (s.port q).wasUp = true → ∃ s', exec (.fenceRequest who v) s = .next s' ∧
      Replied s s' who 0 0 ∧ (s'.port q).fenced = true ∧ (s'.port q).st = 0 ∧ bit s'.integ.fencePorts q = true ∧
      bit (s'.fn 0).pending 1 = true ∧ ∀ n, (s'.core n).ctl = (s.core n).ctl ∧ (s'.core n).plot = (s.core n).plot ∧ (s'.core n).fence = (s.core n).fence) ∧
    (∀ q, q < 64 → v = 0x100 + q → (s.port q).fenced = true ∨ (s.port q).wasUp = false → ∃ s', exec (.fenceRequest who v) s = .next s' ∧
      Only [.dict, .out] s s' ∧ Answered s s' who 0 0) ∧
    ((v < 144 ∧ coreShipped v = true) ∨ (144 ≤ v ∧ v < 0x100) ∨ 0x140 ≤ v → ∃ s', exec (.fenceRequest who v) s = .next s' ∧
      Only [.dict, .out] s s' ∧ Answered s s' who stRange 0)) ∧
  (∀ (s : State) (who : Requester) (v : Nat), v < 65536 → Takes s who 0x5000 5 2 v →
    (v < 144 → coreShipped v = false → s.owner v = none → ∃ s', exec (.fenceClear who v) s = .next s' ∧ Only [.cores, .integ, .dict, .out] s s' ∧
      OtherCores v s s' ∧ Answered s s' who 0 0 ∧ (s'.core v).fence = { (s.core v).fence with run := .clear, runAt := s.cyc.cycles } ∧
      (s'.core v).pint.fenced = 0 ∧ (s'.core v).pint.repairs = [] ∧ (s'.core v).plot = (s.core v).plot ∧ s'.integ.storePending = true) ∧
    (v < 144 → coreShipped v = false → s.owner v ≠ none → ∃ s', exec (.fenceClear who v) s = .next s' ∧ Only [.dict, .out] s s' ∧
      Answered s s' who 0x141 0) ∧
    (∀ q, q < 64 → v = 0x100 + q → (s.port q).fenced = true → ∃ s', exec (.fenceClear who v) s = .next s' ∧ Replied s s' who 0 0 ∧
      (s'.port q).fenced = false ∧ bit s'.integ.fencePorts q = false ∧
      ∀ n, (s'.core n).ctl = (s.core n).ctl ∧ (s'.core n).plot = (s.core n).plot ∧ (s'.core n).fence = (s.core n).fence) ∧
    (v = 0xFFFF → (∀ n, n < 144 → coreShipped n = false → (s.core n).fence.st = 2 → s.owner n = none) → ∃ s', exec (.fenceClear who v) s = .next s' ∧
      Replied s s' who 0 0 ∧ (∀ n, n < 144 → coreShipped n = false → (s.core n).fence.st = 2 → (s'.core n).fence.run = .clear) ∧
      ∀ q, q < 64 → (s'.port q).fenced = false) ∧
    ((v < 144 ∧ coreShipped v = true) ∨ (144 ≤ v ∧ v < 0x100) ∨ (0x140 ≤ v ∧ v ≠ 0xFFFF) → ∃ s', exec (.fenceClear who v) s = .next s' ∧
      Only [.dict, .out] s s' ∧ Answered s s' who stRange 0)) ∧
  (∀ s : State, (s.integ.storePending = false → exec .fenceTableStore s = .next s) ∧
    (s.integ.storePending = true → ∃ s', exec .fenceTableStore s = .next s' ∧ Only [.integ] s s' ∧ s'.integ.storePending = false ∧
      s'.integ.storedPorts = s.integ.fencePorts ∧ (∀ n, n < 144 → bit s'.integ.storedCores n = (!coreShipped n && (s.core n).fence.st = 2)) ∧
      ∀ n c, Sparse.find s.cores n = some c → ∃ x, Sparse.find s'.integ.storedPlots n = some x ∧ x.fenced = c.pint.fenced ∧
        x.spares = c.pint.spares ∧ x.repairs = c.pint.repairs)) ∧
  (∀ s : State, (s.obj 0x5010 1 = 0 ∨ s.boot.ready = false ∨ s.fw.down = true → exec .checkmateRunStart s = .next s) ∧
    (s.obj 0x5010 1 ≠ 0 → s.boot.ready = true → s.fw.down = false →
      (∀ i n, i < 144 → n = (s.integ.cmNext + i) % 144 → s.cmCandidate n = true →
        (∀ j, j < i → s.cmCandidate ((s.integ.cmNext + j) % 144) = false) → ∃ s', exec .checkmateRunStart s = .next s' ∧
        Only [.time, .cyc, .pavs, .tally, .cores, .integ] s s' ∧ OtherCores n s s' ∧
        (s.boot.pwrgood = true → s.integ.cmLast + 250000 * s.obj 0x5010 2 ≤ s'.cyc.ns) ∧
        s'.core n = { s.core n with fence := { (s.core n).fence with run := .machenil, runAt := s'.cyc.cycles } } ∧
        s'.integ = { s.integ with cmLast := s'.cyc.ns, cmNext := (n + 1) % 144 } ∧
        (s.integ.cmLast + 250000 * s.obj 0x5010 2 ≤ s.cyc.ns → s.time.now = absStart (absSlot s.time.now) → s'.time = s.time ∧ s'.cyc = s.cyc)) ∧
      ((∀ n, n < 144 → s.cmCandidate n = false) → ∃ s', exec .checkmateRunStart s = .next s' ∧ Only [.time, .cyc, .pavs, .tally, .integ] s s' ∧
        s'.integ = { s.integ with cmLast := s'.cyc.ns }))) ∧
  (∀ (s : State) (who : Requester) (p : PavIx) (n : Nat), n < 256 → Takes s who (0x5020 + p) 1 1 n →
    (n ∈ s.coresOf p → (s.core n).ctl.st = .idle → (s.core n).ctl.drain = .none → (s.core n).fence.coreReset = false → (s.pav p).leaseStatus ≠ 1 →
      ∃ s', exec (.cmLease who p n) s = .next s' ∧ Only [.cores, .pavs, .dict, .out] s s' ∧ OtherCores n s s' ∧ OtherPavs p s s' ∧
        Answered s s' who 0 0 ∧ (s'.core n).fence.run = .lease ∧ (s'.core n).ctl = { (s.core n).ctl with st := .run } ∧
        s'.pav p = { s.pav p with leaseStatus := 1 }) ∧
    (n ∈ s.coresOf p → (s.core n).ctl.st ≠ .idle ∨ (s.pav p).leaseStatus = 1 → ∃ s', exec (.cmLease who p n) s = .next s' ∧
      Only [.dict, .out] s s' ∧ Answered s s' who 0x140 0) ∧
    (n ∉ s.coresOf p → ∃ s', exec (.cmLease who p n) s = .next s' ∧ Only [.dict, .out] s s' ∧ Answered s s' who 0x142 0)) ∧
  (∀ sigs : List Word, (cmFirstFail sigs = none ↔ ∀ i, i < 9 → sigs.getD i 0 = Config.checkmateSignature (i + 1)) ∧
    ∀ t got, cmFirstFail sigs = some (t, got) ↔ 1 ≤ t ∧ t ≤ 9 ∧ got = sigs.getD (t - 1) 0 ∧ got ≠ Config.checkmateSignature t ∧
      ∀ i, i + 1 < t → sigs.getD i 0 = Config.checkmateSignature (i + 1)) ∧
  ∀ (s : State) (n : CoreIx) (sigs : List Word) (fail : Option (Nat × Word)), fail = cmFirstFail sigs →
    ((s.core n).fence.run = .none → exec (.checkmateRunEnd n sigs) s = .next s) ∧
    ((s.core n).fence.run ≠ .none → coreShipped n = false → ((s.core n).fence.run = .machenil → (s.core n).ctl.st = .idle) →
      ∃ s', exec (.checkmateRunEnd n sigs) s = .next s' ∧ OtherCores n s s' ∧ s'.mem = s.mem ∧ s'.objs = s.objs ∧
        s'.integ.cmRuns = (s.integ.cmRuns + 1) % 2 ^ 64 ∧ s'.integ.cmFails = (s.integ.cmFails + b2n fail.isSome) % 2 ^ 32 ∧
        (s.power.clockOn = true → s.boot.pwrgood = true →
          (s.core n).fence.runAt + (if fail = none then 16120 else 1000) ≤ s'.cyc.cycles) ∧
        (s'.core n).fence.run = .none ∧ (fail.isSome = true → (s'.core n).fence.st = 2 ∧ (s'.core n).ctl.st = .fenced) ∧
        (∀ t got, fail = some (t, got) → (s'.core n).fence.cmLast = t + 256) ∧ (fail = none → (s'.core n).fence.cmLast = 9) ∧
        (fail = none → (s.core n).pint.suspects = [] → (s.core n).par.eng.run = [] → (s'.core n).plot = {}) ∧
        ((s.core n).fence.run = .machenil → fail = none → (s'.core n).fence.st = (s.core n).fence.st) ∧
        ((s.core n).fence.run = .clear → fail = none → (s'.core n).fence.st = 0 ∧ (s'.core n).ctl.st = .idle) ∧
        ∀ p, (s.core n).fence.run = .lease → s.owner n = some p →
          ((s.core n).pint.suspects = [] → (s.core n).par.eng.run = [] → Cleared (s'.core n)) ∧ bit (s'.fn (p + 1)).pending 6 = true ∧
          (s'.pav p).leaseStatus = (if fail.isSome then 3 else 2))

/-- PWRGOOD starts the sequence, whose milestones follow one another: the image that passes the checks runs, the manifest's slot first; the
fences are applied and the clock starts with rail 0 settled, in STANDBY with BOOT_HOLD; the memories train; the Plots are scrubbed; the chip
is READY. A training failure is FAULT (19 R523 to R532; 20 R553, R554; 18 R513). -/
def Obligations.BootSequence : Prop :=
  (∀ s : State, (s.boot.pwrgood = true → exec .pwrgoodRise s = .next s) ∧
    (s.boot.pwrgood = false → ∃ s', exec .pwrgoodRise s = .next s' ∧ Only [.boot, .pcie, .energy, .power] s s' ∧
      s'.boot = { s.boot with pwrgood := true } ∧ s'.pcie = { s.pcie with linkUp := s.boot.perstN } ∧
      s'.power.aging = min 30 (2 * (s.power.hours / 5000)))) ∧
  (∀ (s : State) (k : Nat) (c : SlotCheck), s.imageFails k c = none ↔ s.headerOk k = true ∧ bit s.keysRevoked (bits (s.slotHeader k) 39 32) = false ∧
    c.digest = true ∧ c.signature = true ∧ s.fwRollback ≤ bits (s.slotHeader k) 47 40) ∧
  (∀ (s : State) (slots : List SlotCheck) (m n : Nat) (a b : SlotCheck), s.boot.pwrgood = true → s.boot.phase = 0 → m = s.fw.manifest → m < 2 →
    n = 1 - m → a = slots.getD m default → b = slots.getD n default →
    (s.boot.romFail = false → ∃ s', exec (.machenilUp slots) s = .next s' ∧ s'.cyc = s.cyc ∧ s'.cores = s.cores ∧ s'.objs = s.objs ∧
      (s.imageFails m a = none → s'.boot.phase = 1 ∧ s'.boot.image = m ∧ s'.log = s.log) ∧
      (s.imageFails m a ≠ none → s.imageFails n b = none → s'.boot.phase = 1 ∧ s'.boot.image = n) ∧
      (s.imageFails m a = none ∨ s.imageFails n b = none → Sparse.getD s'.boot.times 1 0 = (s.cyc.ns - s.boot.t0) / 1000 ∧
        (s'.rail 0).target = s.vReq 0 ∧ (s'.rail 0).done = false) ∧
      (s.imageFails m a ≠ none → s.imageFails n b ≠ none → s'.boot = { s.boot with romFail := true } ∧ s'.alertN = true)) ∧
    (s.boot.romFail = true → exec (.machenilUp slots) s = .next s ∧ ∀ (images : List (Option (List Byte))) (r : State),
      r = (s.elapse 1000000000).program 0 images → ∃ s', exec (.bootRomRecheck images slots) s = .next s' ∧
      s'.cyc.ns = s.cyc.ns + 1000000000 ∧ s'.cores = s.cores ∧ s'.objs = s.objs ∧
      (∀ k l, images[k]? = some (some l) → (s'.slot k).written = true ∧ (s'.slot k).data = Mem.write [] 0 l) ∧
      (∀ k, (images[k]?).join = none → (s'.slot k).data = (s.slot k).data) ∧
      (r.imageFails m a = none → s'.boot.phase = 1 ∧ s'.boot.image = m ∧ s'.boot.romFail = false) ∧
      (r.imageFails m a ≠ none → r.imageFails n b = none → s'.boot.phase = 1 ∧ s'.boot.image = n ∧ s'.boot.romFail = false) ∧
      (r.imageFails m a ≠ none → r.imageFails n b ≠ none → s'.boot = s.boot))) ∧
  (∀ s : State, s.boot.pwrgood = true → s.boot.phase = 1 → s.faulted = false →
    ((s.rail 0).done = false → exec .fusesLoaded s = .next s) ∧
    ((s.rail 0).done = true → s.dict.queue = [] → ∃ s', exec .fusesLoaded s = .next s' ∧
      Only [.boot, .power, .cores, .ports, .integ, .fns, .dict, .out] s s' ∧ s'.boot.phase = 2 ∧
      s'.boot.standby = decide (s.obj 0x1010 2 = 1) ∧ s'.power.clockOn = true ∧ s'.power.vf = 0 ∧ s'.power.droopG = 15 ∧
      (∀ n, n < 144 → bit s.integ.storedCores n = true ∨ coreShipped n = true → (s'.core n).ctl.st = .fenced) ∧
      (∀ q, q < 64 → bit s.integ.storedPorts q = true → (s'.port q).fenced = true) ∧ s'.integ.fencePorts = s.integ.storedPorts ∧
      (s.obj 0x1010 2 = 1 → s'.chipState = 1))) ∧
  (∀ s : State, s.boot.standby = false → s.faulted = false →
    (s.boot.phase = 2 → ∃ s', exec .hbmTrained s = .next s' ∧ Only [.boot] s s' ∧ s'.boot.phase = 3 ∧
      Sparse.getD s'.boot.times 3 0 = (s.cyc.ns - s.boot.t0) / 1000) ∧
    (s.boot.phase = 3 → ∃ s', exec .grottoTrained s = .next s' ∧ Only [.boot] s s' ∧ s'.boot.phase = 4 ∧
      Sparse.getD s'.boot.times 4 0 = (s.cyc.ns - s.boot.t0) / 1000) ∧
    (s.boot.phase = 4 → ∃ s', exec .plotsScrubbed s = .next s' ∧ Only [.boot, .cores] s s' ∧ s'.boot.phase = 5 ∧
      Sparse.getD s'.boot.times 5 0 = (s.cyc.ns - s.boot.t0) / 1000 ∧
      ∀ n, n < 144 → (s.core n).pint.suspects = [] → (s'.core n).plot = {} ∧ (s'.core n).par.beds = []) ∧
    (s.boot.phase = 7 → ∃ s', exec (if s.boot.warm then .warmResetComplete else .chipReady) s = .next s' ∧
      Only [.boot, .integ, .power, .fns, .out] s s' ∧ s'.boot.phase = 8 ∧ s'.boot.ready = true ∧ s'.boot.warm = false ∧
      s'.integ.cmLast = (if s.boot.warm then s.integ.cmLast else s.cyc.ns) ∧ (s'.rail 0).target = s'.vReq s'.vfGoal ∧ 2 ≤ s'.chipState ∧ s'.chipState ≤ 4) ∧
    (∀ k : Fin 8, s.boot.fail = 0 → s.boot.phase = 2 ∨ (s.boot.phase = 3 ∧ 6 ≤ k.val) → ∃ s', exec (.memoryTrainingFail k) s = .next s' ∧
      Only [.boot, .log, .fns, .out] s s' ∧ s'.boot.fail = k + 1 ∧ s'.boot.causes.train = true ∧ s'.chipState = 5)) ∧
  ∀ (s : State) (who : Requester), Takes s who 0x1010 3 1 1 →
    (s.boot.standby = true → ∃ s', exec (.bootContinue who 1) s = .next s' ∧ Only [.boot, .fns, .dict, .out] s s' ∧ Replied s s' who 0 0 ∧
      s'.boot.standby = false ∧ s'.boot.phase = s.boot.phase) ∧
    (s.boot.standby = false → ∃ s', exec (.bootContinue who 1) s = .next s' ∧ Only [.dict, .out] s s' ∧ Answered s s' who stState 0)

/-- Loss of PWRGOOD for 10 µs leaves what flash, fuses and persistent objects hold, and nothing else; below 1 µs it does nothing. A warm reset
frees every Pavilion, takes every port DOWN and starts at milestone 5; before milestone 8 it joins the sequence. A lost reference clock stops
what it clocks: LINK_REFCLK is FAULT (19 R526, R533 to R535; 23 R610, R611; 24 R622). -/
def Obligations.ResetsAndClocks : Prop :=
  (∀ (s : State) (low : Nat) (taken : Bool),
    (s.boot.pwrgood = false ∨ low < 1000 ∨ (low < 10000 ∧ taken = false) → exec (.coldReset low taken) s = .next s) ∧
    (s.boot.pwrgood = true → 10000 ≤ low ∨ (1000 ≤ low ∧ taken = true) → ∃ s', exec (.coldReset low taken) s = .next s' ∧
      (∀ i x, x < 256 → persistentKey (okey i x) = true → s'.obj i x = s.obj i x) ∧
      (∀ i x, x < 256 → persistentKey (okey i x) = false → s'.obj i x = objDefault i x) ∧
      s'.boot = { State.reset.boot with perstN := s.boot.perstN } ∧ s'.mem = [] ∧
      (∀ n, s'.core n = { pint := { broken := (s.core n).pint.broken } }) ∧ s'.energy.suspect = false ∧ s'.pavs = [] ∧ s'.ports = [] ∧ s'.fns = [] ∧
      s'.reqs = [] ∧ s'.streams = [] ∧ s'.tally = [] ∧ s'.dict = {} ∧ s'.time = {} ∧ s'.cyc = {} ∧ s'.arb = {} ∧ s'.link = {} ∧ s'.org = {} ∧
      s'.power = { State.reset.power with hours := s.power.hours } ∧ s'.integ.storedCores = s.integ.storedCores ∧
      s'.integ.storedPorts = s.integ.storedPorts ∧ s'.integ.storedPlots = s.integ.storedPlots ∧ s'.integ.fencePorts = 0 ∧
      s'.fw.manifest = s.fw.manifest ∧ s'.fw.rollback = s.fw.rollback ∧ s'.fw.revoked = s.fw.revoked ∧ s'.fw.owner = none ∧ s'.fw.status = 0 ∧
      (∀ q, q + s.log.queued < s.log.nextSeq → Sparse.find s'.log.recs q = Sparse.find s.log.recs q) ∧
      s'.log.queued = 0 ∧ s'.out = s.out ∧ s'.pending = s.pending)) ∧
  (∀ (s : State) (who : Requester), Takes s who 0x1010 4 1 1 →
    (s.boot.ready = false → ∃ s', exec (.warmReset who 1) s = .next s' ∧ Only [.dict, .out] s s' ∧ Answered s s' who 0 0) ∧
    (s.boot.ready = true → ∃ s', exec (.warmReset who 1) s = .next s' ∧ Replied s s' who 0 0 ∧ s'.boot.ready = false ∧ s'.boot.warm = true ∧
      s'.boot.phase = 5 ∧ s'.boot.cause = 1 ∧ s'.boot.t0 = s.cyc.ns ∧ s'.power.vf = 0 ∧ s'.org = {} ∧ s'.net = [] ∧
      (∀ p, p < 16 → (s'.pav p).st = .free ∧ ((s.pav p).st ≠ .free → s'.pavCores p = 0)) ∧ (∀ q, q < 64 → (s'.port q).st = 0) ∧
      (∀ n, n < 144 → (s'.core n).map.entries = [] ∧ (s'.core n).fence.run = .none) ∧ s'.cyc = s.cyc ∧ s'.time.now = s.time.now)) ∧
  ∀ s : State, s.boot.pwrgood = true →
    (∃ s', exec (.refclkLoss 0) s = .next s' ∧ s'.pcie = { s.pcie with linkUp := false } ∧ bit s'.boot.clk 0 = true ∧ s'.power = s.power) ∧
    (∃ s', exec (.refclkLoss 1) s = .next s' ∧ Only [.boot, .power, .fns, .out] s s' ∧ s'.power = { s.power with clockOn := false } ∧
      bit s'.boot.clk 1 = true ∧ s'.chipState = 5) ∧
    ∃ s', exec (.refclkLoss 2) s = .next s' ∧ Only [.boot] s s' ∧ s'.boot = { s.boot with clk := setBit s.boot.clk 2 true } ∧
      bit s'.boot.clk 2 = true ∧ s'.mgmtNet = false

/-- A watchdog expiry closes every session, ends what every requester holds and takes Machenil down, and the third in 10 s is FAULT; a restart
brings it up again and is logged. The log's queued records reach flash; a sensor silent for 4 periods is flagged; ALERT_ACK acknowledges
the records of severity 3. A revoked key is revoked for good, but neither the last nor the running image's. SPDM answers the requests of its
list (20 R544 to R561). -/
def Obligations.ManagementEvents : Prop :=
  (∀ (s : State) (sram : Bool),
    (s.boot.phase = 0 ∨ s.fw.down = true → exec (.watchdogExpiry sram) s = .next s) ∧
    (s.boot.phase ≠ 0 → s.fw.down = false → ∃ s', exec (.watchdogExpiry sram) s = .next s' ∧ Only [.dict, .reqs, .fw, .boot, .fns, .out] s s' ∧
      s'.fw.down = true ∧ (∀ k, k < 8 → (s'.sess k).isOpen = false ∧
        ((s.sess k).isOpen = true → s'.heldReqs (18 + k) = [])) ∧ (∀ k, k < 18 → (s'.req k).latch = none ∧ (s'.req k).staging = none) ∧
      s'.fw.restarts = s.cyc.ns :: s.fw.restarts.filter (fun t => decide (s.cyc.ns < t + 10000000000)) ∧
      (3 ≤ s'.fw.restarts.length → s'.boot.causes.mgmt = true ∧ s'.chipState = 5) ∧
      (s'.fw.restarts.length < 3 → s'.boot = s.boot))) ∧
  (∀ s : State, (s.fw.down = false → exec .mgmtRestartComplete s = .next s) ∧
    (s.fw.down = true → s.dict.queue = [] → ∃ s', exec .mgmtRestartComplete s = .next s' ∧ Only [.fw, .log, .fns, .dict, .out] s s' ∧
      s'.fw = { s.fw with down := false } ∧ s'.dict = s.dict)) ∧
  (∀ s : State, (s.boot.phase = 0 ∨ s.fw.down = true → exec .logFlush s = .next s) ∧
    (s.boot.phase ≠ 0 → s.fw.down = false → ∃ s', exec .logFlush s = .next s' ∧ Only [.log] s s' ∧
      s'.log = { s.log with queued := 0, oldest := s'.log.oldest, recs := s'.log.recs } ∧ s.log.oldest ≤ s'.log.oldest ∧
      s.log.nextSeq ≤ s'.log.oldest + 128 * 513 ∧ (s.log.nextSeq ≤ 128 * 513 → s'.log.oldest = s.log.oldest) ∧
      (∀ q, s'.log.oldest ≤ q → Sparse.find s'.log.recs q = Sparse.find s.log.recs q) ∧
      ∀ q, q < s'.log.oldest → Sparse.find s'.log.recs q = none)) ∧
  (∀ (s : State) (c : Fin 4) (ix : Nat),
    (s.boot.phase ≠ 0 → ix < sensorCount c → 256 * c.val + ix ∉ s.energy.flagged → c.val = 3 ∨ 4 ≤ Sparse.getD s.energy.missed (256 * c.val + ix) 0 →
      ∃ s', exec (.sensorTimeout c ix) s = .next s' ∧ Only [.energy, .power, .log, .fns, .out] s s' ∧
        s'.energy.flagged = s.energy.flagged ++ [256 * c.val + ix] ∧ bit s'.sensorFault c = true ∧ bit s'.alertStatus 4 = true) ∧
    (s.boot.phase = 0 ∨ sensorCount c ≤ ix ∨ 256 * c.val + ix ∈ s.energy.flagged → exec (.sensorTimeout c ix) s = .next s)) ∧
  (∀ (s : State) (who : Requester), Takes s who 0x5030 8 1 1 → ∃ s', exec (.alertAck who 1) s = .next s' ∧ Only [.log, .dict, .out] s s' ∧
    Answered s s' who 0 0 ∧ s'.log = { s.log with alert3 := false }) ∧
  (∀ (s : State) (who : Requester) (v : Nat), v < 4 → Takes s who 0x7002 1 1 v →
    (bit s.keysRevoked v = true → ∃ s', exec (.keyRevoke who v) s = .next s' ∧ Only [.dict, .out] s s' ∧ Answered s s' who 0 0) ∧
    (bit s.keysRevoked v = false → v = (s.slot s.boot.image).key ∨ (∀ k, k < 4 → k ≠ v → bit s.keysRevoked k = true) →
      ∃ s', exec (.keyRevoke who v) s = .next s' ∧ Only [.dict, .out] s s' ∧ Answered s s' who 0x152 0) ∧
    (bit s.keysRevoked v = false → v ≠ (s.slot s.boot.image).key → (∃ k, k < 4 ∧ k ≠ v ∧ bit s.keysRevoked k = false) →
      ∃ s', exec (.keyRevoke who v) s = .next s' ∧ Only [.fw, .dict, .out] s s' ∧ Answered s s' who 0 0 ∧
        ∀ k, k < 4 → bit s'.keysRevoked k = (bit s.keysRevoked k || decide (k = v)))) ∧
  ∀ (s : State) (f : FnIx) (code ix : Nat), s.fnExists f = true → 2 ≤ s.boot.phase →
    (s.heldReqs (26 + f) = [] → s.fw.down = false → s.boot.handover = false →
      ∃ s' b, exec (.spdmRequest f code ix) s = .next s' ∧ Only [.out] s s' ∧
      s'.out = s.out ++ [.spdm f (if code ∈ [0x81, 0x82, 0x83, 0x84, 0xE0, 0xE1, 0xE3] ∧ ¬ ((code = 0x82 ∨ code = 0x83) ∧ ix ≠ 0)
        then code - 0x80 else 0x7F) b] ∧
      (code = 0xE0 → f.val = 0 ∨ (1 ≤ ix ∧ ix ≤ 4) ∨ ix = 15 + f.val → ∀ d, s.measurement ix = some d → b = [ix, d]) ∧
      (code = 0xE0 → s.measurement ix = none → b = []) ∧
      (code = 0xE0 → f.val ≠ 0 → ix = 0 ∨ (4 < ix ∧ ix ≠ 15 + f.val) → b = []) ∧
      (code = 0x81 → b = [Config.sha384 Config.certChain]) ∧ (code = 0x82 → ix = 0 → b = Config.certChain.map BitVec.toNat) ∧
      (code ∉ [0x81, 0x82, 0xE0] → b = [])) ∧
    (s.heldReqs (26 + f) = [] → s.fw.down = true ∨ s.boot.handover = true → ∃ s', exec (.spdmRequest f code ix) s = .next s' ∧
      Only [.dict] s s' ∧ s'.dict = { s.dict with queue := s.dict.queue ++ [{ req := .doe f code ix, at_ := s.cyc.ns }] }) ∧
    (s.heldReqs (26 + f) ≠ [] → exec (.spdmRequest f code ix) s = .next s)

/-- FW_BEGIN claims the update and erases the other slot, FW_DATA writes it in sequence, FW_VERIFY checks it, FW_ACTIVATE makes it the image that
starts, FW_COMMIT moves the rollback counter and never back. Another requester gets 0x150, a command out of its order STATE, data out of sequence
0x151 (20 R557, R558, R562, R564). -/
def Obligations.FirmwareUpdate : Prop :=
  (∀ (s : State) (who : Requester) (c : Nat) (i : Instr), (c, i) ∈ [(1, Instr.fwBegin who 1), (4, .fwVerify who 1), (5, .fwActivate who 1),
    (6, .fwCommit who 1), (7, .fwRestart who 1)] → Takes s who 0x7001 c 1 1 → (∃ k, s.fw.owner = some k ∧ k ≠ who.ix) →
    ∃ s', exec i s = .next s' ∧ Only [.dict, .out] s s' ∧ Answered s s' who 0x150 0) ∧
  (∀ (s : State) (who : Requester), (s.fw.owner = none ∨ s.fw.owner = some who.ix) →
    (Takes s who 0x7001 1 1 1 → ∃ s', exec (.fwBegin who 1) s = .next s' ∧ Only [.fw, .dict, .out] s s' ∧ Answered s s' who 0 0 ∧
      s'.fw.owner = some who.ix ∧ s'.fw.status = 1 ∧ s'.fw.next = 0 ∧ s'.slot (1 - s.boot.image) = { st := 2, written := true } ∧
      ∀ k, k ≠ 1 - s.boot.image → s'.slot k = s.slot k) ∧
    (Takes s who 0x7001 4 1 1 → (s.fw.status ∈ [2, 4, 5] → ∃ s', exec (.fwVerify who 1) s = .next s' ∧ Only [.fw, .dict, .out] s s' ∧
        Answered s s' who 0 0 ∧ s'.fw = { s.fw with status := 3 }) ∧
      (s.fw.status ∉ [2, 4, 5] → ∃ s', exec (.fwVerify who 1) s = .next s' ∧ Only [.dict, .out] s s' ∧ Answered s s' who stState 0)) ∧
    (Takes s who 0x7001 5 1 1 → (s.fw.status = 4 → s.boot.fail = 0 → s.boot.image < 2 → ∃ s', exec (.fwActivate who 1) s = .next s' ∧
        Replied s s' who 0 0 ∧ s'.fw.manifest = 1 - s.boot.image ∧ s'.fw.activated = some (1 - s.boot.image) ∧ s'.fw.owner = none ∧
        s'.fw.status = 0 ∧ s'.boot.handover = true ∧ s'.boot.image = s.boot.image ∧
        (s.boot.ready = true → s'.boot.ready = false ∧ s'.boot.cause = 2 ∧ s'.boot.phase = 5) ∧
        (s.boot.ready = false → s.boot.causes.mgmt = false → s'.boot = { s.boot with handover := true })) ∧
      (s.fw.status ≠ 4 ∨ s.boot.fail ≠ 0 → ∃ s', exec (.fwActivate who 1) s = .next s' ∧ Only [.dict, .out] s s' ∧ Answered s s' who stState 0)) ∧
    (Takes s who 0x7001 6 1 1 → (s.fw.activated = some s.boot.image → (s.slot s.boot.image).rollback ≤ 64 → ∃ s',
        exec (.fwCommit who 1) s = .next s' ∧ Only [.fw, .log, .fns, .dict, .out] s s' ∧ Replied s s' who 0 0 ∧
        s'.fwRollback = max s.fwRollback (s.slot s.boot.image).rollback) ∧
      (s.fw.activated ≠ some s.boot.image → ∃ s', exec (.fwCommit who 1) s = .next s' ∧ Only [.dict, .out] s s' ∧
        Answered s s' who stState 0)) ∧
    (Takes s who 0x7001 7 1 1 → (s.boot.fail = 0 → s.boot.ready = true → ∃ s', exec (.fwRestart who 1) s = .next s' ∧ Replied s s' who 0 0 ∧
        s'.boot.ready = false ∧ s'.boot.warm = true ∧ s'.boot.phase = 5 ∧ s'.boot.cause = 1) ∧
      (s.boot.fail = 0 → s.boot.ready = false → s.boot.causes.mgmt = false → ∃ s', exec (.fwRestart who 1) s = .next s' ∧ Only [.dict, .out] s s' ∧
        Answered s s' who 0 0) ∧
      (s.boot.fail = 0 → s.boot.ready = false → s.boot.causes.mgmt = true → ∃ s', exec (.fwRestart who 1) s = .next s' ∧
        Only [.boot, .fns, .dict, .out] s s' ∧ Replied s s' who 0 0 ∧ s'.boot.causes = { s.boot.causes with mgmt := false }) ∧
      (s.boot.fail ≠ 0 → ∃ s', exec (.fwRestart who 1) s = .next s' ∧ Only [.dict, .out] s s' ∧ Answered s s' who stState 0))) ∧
  (∀ (s : State) (who : Requester) (off : Nat) (l : List Byte), Serves s who → (∃ o, s.writeOk who 0x7001 3 none = .ok o) →
    off + l.length ≤ 65536 → s.obj 0x7001 2 + off + l.length ≤ 25165824 →
    (s.fw.owner = some who.ix → s.fw.status = 2 → s.fw.rateUntil ≤ s.cyc.ns → s.obj 0x7001 2 + off = s.fw.next →
      Mem.wf (s.slot (1 - s.boot.image)).data = true → ∃ s', exec (.fwData who off l) s = .next s' ∧ Only [.fw, .dict, .out] s s' ∧
      Answered s s' who 0 0 ∧ s'.fw.next = s.fw.next + l.length ∧
      (∀ i, i < l.length → Mem.byte (s'.slot (1 - s.boot.image)).data (s.fw.next + i) = l.getD i 0) ∧
      ∀ a, a < s.fw.next ∨ s.fw.next + l.length ≤ a →
        Mem.byte (s'.slot (1 - s.boot.image)).data a = Mem.byte (s.slot (1 - s.boot.image)).data a) ∧
    (s.fw.owner = some who.ix → s.fw.status = 2 → s.fw.rateUntil ≤ s.cyc.ns → s.obj 0x7001 2 + off ≠ s.fw.next →
      ∃ s', exec (.fwData who off l) s = .next s' ∧ Only [.dict, .out] s s' ∧ Answered s s' who 0x151 0) ∧
    (s.fw.owner = some who.ix → s.fw.status = 1 → ∃ s' h, exec (.fwData who off l) s = .next s' ∧ Only [.dict, .free, .out] s s' ∧
      Answered s s' who stBusy h) ∧
    (s.fw.owner = none → ∃ s', exec (.fwData who off l) s = .next s' ∧ Only [.dict, .out] s s' ∧ Answered s s' who stState 0)) ∧
  (∀ s : State, (s.fw.status = 1 → s.fw.down = false → ∃ s', exec .fwEraseDone s = .next s' ∧ Only [.fw] s s' ∧
      s'.fw = { s.fw with status := 2 }) ∧ (s.fw.status ≠ 1 → exec .fwEraseDone s = .next s)) ∧
  (∀ (s : State) (c : SlotCheck) (k : Nat) (v : Slot), k = 1 - s.boot.image → v = s.slot k →
    (s.fw.status = 3 → s.fw.down = false → ∃ s', exec (.fwVerifyDone c) s = .next s' ∧
      Only [.fw, .log, .fns, .out] s s' ∧ s'.fw.status = (if s.imageFails k c = none then 4 else 5) ∧
      s'.slot k = { v with st := if v.written = true ∧ v.len = 0 then 0 else if s.headerOk k && c.digest && c.signature then 1 else 2,
                           version := bits (s.slotHeader k) 95 64, rollback := bits (s.slotHeader k) 47 40, key := bits (s.slotHeader k) 39 32 } ∧
      (s.imageFails k c = none → s'.log = s.log)) ∧
    (s.fw.status ≠ 3 → exec (.fwVerifyDone c) s = .next s)) ∧
  ∀ s : State, (s.boot.handover = false → exec .fwHandoverEnd s = .next s) ∧
    (s.boot.handover = true → s.dict.queue = [] → ∃ s', exec .fwHandoverEnd s = .next s' ∧ Only [.boot, .dict] s s' ∧ s'.dict = s.dict ∧
      s'.boot = { s.boot with handover := false, image := s.fw.manifest })

/-- The state before PWRGOOD rises: the values the spec gives for reset, and with log entry 3 the model's own where it gives none; no memory byte
is listed, nothing waits, and every memory is canonical. -/
def Obligations.ResetValues : Prop :=
  State.reset.boot.pwrgood = false ∧ State.reset.chipState = 0 ∧ State.reset.boot.phase = 0 ∧ State.reset.boot.cause = 0 ∧
  State.reset.time.st = 0 ∧ State.reset.time.ref = 0 ∧ State.reset.time.now = 0 ∧ State.reset.cyc.cycles = 0 ∧ State.reset.mem = [] ∧
  State.reset.pending = [] ∧ State.reset.out = [] ∧ State.reset.power.clockOn = false ∧ State.reset.power.capEff = 256 * 1400 ∧
  State.reset.pcie.vfEnable = false ∧ State.reset.link.active = none ∧ State.reset.fw.status = 0 ∧
  (∀ n, (State.reset.core n).ctl.st = .idle ∧ (State.reset.core n).ctl.stepState = 1 ∧ (State.reset.core n).ctl.fault = 0 ∧
    (∀ t r, (State.reset.core n).sreg t r = 0) ∧ (∀ k, (State.reset.core n).cnt k = 0) ∧ Cleared (State.reset.core n)) ∧
  (∀ p, (State.reset.pav p).st = .free ∧ State.reset.pavCores p = 0 ∧ ∀ r, r < 8 → State.reset.pavRange p r = (0, 0)) ∧
  (∀ q, (State.reset.port q).st = 0 ∧ (State.reset.port q).fenced = false) ∧
  (∀ f, (State.reset.fn f).pending = 0 ∧ (State.reset.fn f).mask = (if f = 0 then 0x20 else 0x80)) ∧
  (∀ i x, okey i x ≠ okey 0x2540 2 → okey i x ≠ okey 0x1200 1 → x < 256 →
    State.reset.obj i x = ((objInfo i x).map ObjInfo.dflt).getD 0) ∧
  (State.reset.rail 0).target = 750 ∧ (State.reset.rail 1).target = 750 ∧ (State.reset.rail 2).target = 800 ∧ MemOk State.reset

/-- No step takes the memory of the tiers out of its canonical form (10 R270). -/
def Obligations.MemoryStaysCanonical : Prop :=
  ∀ s s' : State, Mem.wf s.mem = true → step s = .next s' → Mem.wf s'.mem = true

/-- No step takes the Plot of any core out of its canonical form (09 R240). -/
def Obligations.PlotsStayCanonical : Prop :=
  ∀ s s' : State, (∀ n, Mem.wf (s.core n).plot.bytes = true) → step s = .next s' → ∀ n, Mem.wf (s'.core n).plot.bytes = true

/-- A Plot address A maps to slot ⌊A ÷ 256⌋, row ⌊s ÷ 48⌋, bank (s + r) mod 48 and sub-array ⌊(A mod 256) ÷ 64⌋; the mapping is one-to-one, and row
r of bank b holds slot 48r + ((b − r) mod 48) (09 R240). -/
def Obligations.PlotMap : Prop :=
  ∀ A : Nat, A < 0x00600000 →
    (plotLoc A).2.2 = A / 256 / 48 ∧ (plotLoc A).1 = (A / 256 + A / 256 / 48) % 48 ∧ (plotLoc A).2.1 = A % 256 / 64 ∧
    (plotLoc A).2.2 < 512 ∧ (plotLoc A).1 < 48 ∧ (plotLoc A).2.1 < 4 ∧
    ((A / 256 : Nat) : Int) = 48 * ((plotLoc A).2.2 : Int) + (((plotLoc A).1 : Int) - (plotLoc A).2.2) % 48 ∧
    (∀ B, B < 0x00600000 → plotLoc B = plotLoc A → B % 64 = A % 64 → B = A) ∧
    ∀ r b j y : Nat, r < 512 → b < 48 → j < 4 → y < 64 → ∃ C, C < 0x00600000 ∧ plotLoc C = (b, j, r) ∧ C % 64 = y

/-- The hot and evicted addresses of a batch row at position p, as its fields carry them: that an address past 48 bits wraps is the model's
choice, log 26 (12 R341, Table 12-2). -/
def Obligations.KvPlacement : Prop :=
  ∀ (id e p d h k r b : Nat), id < 4096 → p < 2 ^ 24 → d < 256 → h = 2 ^ bits e 103 99 → k = 256 * bits e 143 128 → r = bits e 113 108 + 1 →
    b = 2 ^ bits e 107 104 →
    bits (bsRowBits id e p d) 207 160 = (bits e 255 208 + p % h * k) % 2 ^ 48 ∧
    (h ≤ p → bit (bsRowBits id e p d) 153 = true ∧ bits (bsRowBits id e p d) 159 154 = (p - h) / b % r ∧
      bits (bsRowBits id e p d) 255 208 = (bits e 207 160 + ((p - h) / (b * r) * b + (p - h) % b) * k) % 2 ^ 48) ∧
    (p < h → bit (bsRowBits id e p d) 153 = false ∧ bits (bsRowBits id e p d) 159 154 = 0 ∧ bits (bsRowBits id e p d) 255 208 = 0)
end

