-- ==== Sys2Proof/Laws/State.lean ====
section
/-! SUPPORT. Laws/State.lean: what each update of a unit, an object, the outbox and the free-value count leaves of every field of State. -/

namespace Sys2Proof.Machine

section
variable (s : State) (n : Nat) (c : Core)
@[simp] theorem State.setCore_boot : (s.setCore n c).boot = s.boot := rfl
@[simp] theorem State.setCore_time : (s.setCore n c).time = s.time := rfl
@[simp] theorem State.setCore_cyc : (s.setCore n c).cyc = s.cyc := rfl
@[simp] theorem State.setCore_objs : (s.setCore n c).objs = s.objs := rfl
@[simp] theorem State.setCore_blobLen : (s.setCore n c).blobLen = s.blobLen := rfl
@[simp] theorem State.setCore_reqs : (s.setCore n c).reqs = s.reqs := rfl
@[simp] theorem State.setCore_dict : (s.setCore n c).dict = s.dict := rfl
@[simp] theorem State.setCore_cores : (s.setCore n c).cores = Sparse.put s.cores n c := rfl
@[simp] theorem State.setCore_pavs : (s.setCore n c).pavs = s.pavs := rfl
@[simp] theorem State.setCore_streams : (s.setCore n c).streams = s.streams := rfl
@[simp] theorem State.setCore_fns : (s.setCore n c).fns = s.fns := rfl
@[simp] theorem State.setCore_pcie : (s.setCore n c).pcie = s.pcie := rfl
@[simp] theorem State.setCore_mem : (s.setCore n c).mem = s.mem := rfl
@[simp] theorem State.setCore_mmeta : (s.setCore n c).mmeta = s.mmeta := rfl
@[simp] theorem State.setCore_org : (s.setCore n c).org = s.org := rfl
@[simp] theorem State.setCore_arb : (s.setCore n c).arb = s.arb := rfl
@[simp] theorem State.setCore_net : (s.setCore n c).net = s.net := rfl
@[simp] theorem State.setCore_ports : (s.setCore n c).ports = s.ports := rfl
@[simp] theorem State.setCore_link : (s.setCore n c).link = s.link := rfl
@[simp] theorem State.setCore_power : (s.setCore n c).power = s.power := rfl
@[simp] theorem State.setCore_energy : (s.setCore n c).energy = s.energy := rfl
@[simp] theorem State.setCore_integ : (s.setCore n c).integ = s.integ := rfl
@[simp] theorem State.setCore_log : (s.setCore n c).log = s.log := rfl
@[simp] theorem State.setCore_fw : (s.setCore n c).fw = s.fw := rfl
@[simp] theorem State.setCore_tally : (s.setCore n c).tally = s.tally := rfl
@[simp] theorem State.setCore_out : (s.setCore n c).out = s.out := rfl
@[simp] theorem State.setCore_free : (s.setCore n c).free = s.free := rfl
@[simp] theorem State.setCore_pending : (s.setCore n c).pending = s.pending := rfl
end

section
variable (s : State) (p : Nat) (v : Pav)
@[simp] theorem State.setPav_boot : (s.setPav p v).boot = s.boot := rfl
@[simp] theorem State.setPav_time : (s.setPav p v).time = s.time := rfl
@[simp] theorem State.setPav_cyc : (s.setPav p v).cyc = s.cyc := rfl
@[simp] theorem State.setPav_objs : (s.setPav p v).objs = s.objs := rfl
@[simp] theorem State.setPav_blobLen : (s.setPav p v).blobLen = s.blobLen := rfl
@[simp] theorem State.setPav_reqs : (s.setPav p v).reqs = s.reqs := rfl
@[simp] theorem State.setPav_dict : (s.setPav p v).dict = s.dict := rfl
@[simp] theorem State.setPav_cores : (s.setPav p v).cores = s.cores := rfl
@[simp] theorem State.setPav_pavs : (s.setPav p v).pavs = Sparse.put s.pavs p v := rfl
@[simp] theorem State.setPav_streams : (s.setPav p v).streams = s.streams := rfl
@[simp] theorem State.setPav_fns : (s.setPav p v).fns = s.fns := rfl
@[simp] theorem State.setPav_pcie : (s.setPav p v).pcie = s.pcie := rfl
@[simp] theorem State.setPav_mem : (s.setPav p v).mem = s.mem := rfl
@[simp] theorem State.setPav_mmeta : (s.setPav p v).mmeta = s.mmeta := rfl
@[simp] theorem State.setPav_org : (s.setPav p v).org = s.org := rfl
@[simp] theorem State.setPav_arb : (s.setPav p v).arb = s.arb := rfl
@[simp] theorem State.setPav_net : (s.setPav p v).net = s.net := rfl
@[simp] theorem State.setPav_ports : (s.setPav p v).ports = s.ports := rfl
@[simp] theorem State.setPav_link : (s.setPav p v).link = s.link := rfl
@[simp] theorem State.setPav_power : (s.setPav p v).power = s.power := rfl
@[simp] theorem State.setPav_energy : (s.setPav p v).energy = s.energy := rfl
@[simp] theorem State.setPav_integ : (s.setPav p v).integ = s.integ := rfl
@[simp] theorem State.setPav_log : (s.setPav p v).log = s.log := rfl
@[simp] theorem State.setPav_fw : (s.setPav p v).fw = s.fw := rfl
@[simp] theorem State.setPav_tally : (s.setPav p v).tally = s.tally := rfl
@[simp] theorem State.setPav_out : (s.setPav p v).out = s.out := rfl
@[simp] theorem State.setPav_free : (s.setPav p v).free = s.free := rfl
@[simp] theorem State.setPav_pending : (s.setPav p v).pending = s.pending := rfl
end

section
variable (s : State) (q : Nat) (v : Port)
@[simp] theorem State.setPort_boot : (s.setPort q v).boot = s.boot := rfl
@[simp] theorem State.setPort_time : (s.setPort q v).time = s.time := rfl
@[simp] theorem State.setPort_cyc : (s.setPort q v).cyc = s.cyc := rfl
@[simp] theorem State.setPort_objs : (s.setPort q v).objs = s.objs := rfl
@[simp] theorem State.setPort_blobLen : (s.setPort q v).blobLen = s.blobLen := rfl
@[simp] theorem State.setPort_reqs : (s.setPort q v).reqs = s.reqs := rfl
@[simp] theorem State.setPort_dict : (s.setPort q v).dict = s.dict := rfl
@[simp] theorem State.setPort_cores : (s.setPort q v).cores = s.cores := rfl
@[simp] theorem State.setPort_pavs : (s.setPort q v).pavs = s.pavs := rfl
@[simp] theorem State.setPort_streams : (s.setPort q v).streams = s.streams := rfl
@[simp] theorem State.setPort_fns : (s.setPort q v).fns = s.fns := rfl
@[simp] theorem State.setPort_pcie : (s.setPort q v).pcie = s.pcie := rfl
@[simp] theorem State.setPort_mem : (s.setPort q v).mem = s.mem := rfl
@[simp] theorem State.setPort_mmeta : (s.setPort q v).mmeta = s.mmeta := rfl
@[simp] theorem State.setPort_org : (s.setPort q v).org = s.org := rfl
@[simp] theorem State.setPort_arb : (s.setPort q v).arb = s.arb := rfl
@[simp] theorem State.setPort_net : (s.setPort q v).net = s.net := rfl
@[simp] theorem State.setPort_ports : (s.setPort q v).ports = Sparse.put s.ports q v := rfl
@[simp] theorem State.setPort_link : (s.setPort q v).link = s.link := rfl
@[simp] theorem State.setPort_power : (s.setPort q v).power = s.power := rfl
@[simp] theorem State.setPort_energy : (s.setPort q v).energy = s.energy := rfl
@[simp] theorem State.setPort_integ : (s.setPort q v).integ = s.integ := rfl
@[simp] theorem State.setPort_log : (s.setPort q v).log = s.log := rfl
@[simp] theorem State.setPort_fw : (s.setPort q v).fw = s.fw := rfl
@[simp] theorem State.setPort_tally : (s.setPort q v).tally = s.tally := rfl
@[simp] theorem State.setPort_out : (s.setPort q v).out = s.out := rfl
@[simp] theorem State.setPort_free : (s.setPort q v).free = s.free := rfl
@[simp] theorem State.setPort_pending : (s.setPort q v).pending = s.pending := rfl
end

section
variable (s : State) (f : Nat) (v : Fn)
@[simp] theorem State.setFn_boot : (s.setFn f v).boot = s.boot := rfl
@[simp] theorem State.setFn_time : (s.setFn f v).time = s.time := rfl
@[simp] theorem State.setFn_cyc : (s.setFn f v).cyc = s.cyc := rfl
@[simp] theorem State.setFn_objs : (s.setFn f v).objs = s.objs := rfl
@[simp] theorem State.setFn_blobLen : (s.setFn f v).blobLen = s.blobLen := rfl
@[simp] theorem State.setFn_reqs : (s.setFn f v).reqs = s.reqs := rfl
@[simp] theorem State.setFn_dict : (s.setFn f v).dict = s.dict := rfl
@[simp] theorem State.setFn_cores : (s.setFn f v).cores = s.cores := rfl
@[simp] theorem State.setFn_pavs : (s.setFn f v).pavs = s.pavs := rfl
@[simp] theorem State.setFn_streams : (s.setFn f v).streams = s.streams := rfl
@[simp] theorem State.setFn_fns : (s.setFn f v).fns = Sparse.put s.fns f v := rfl
@[simp] theorem State.setFn_pcie : (s.setFn f v).pcie = s.pcie := rfl
@[simp] theorem State.setFn_mem : (s.setFn f v).mem = s.mem := rfl
@[simp] theorem State.setFn_mmeta : (s.setFn f v).mmeta = s.mmeta := rfl
@[simp] theorem State.setFn_org : (s.setFn f v).org = s.org := rfl
@[simp] theorem State.setFn_arb : (s.setFn f v).arb = s.arb := rfl
@[simp] theorem State.setFn_net : (s.setFn f v).net = s.net := rfl
@[simp] theorem State.setFn_ports : (s.setFn f v).ports = s.ports := rfl
@[simp] theorem State.setFn_link : (s.setFn f v).link = s.link := rfl
@[simp] theorem State.setFn_power : (s.setFn f v).power = s.power := rfl
@[simp] theorem State.setFn_energy : (s.setFn f v).energy = s.energy := rfl
@[simp] theorem State.setFn_integ : (s.setFn f v).integ = s.integ := rfl
@[simp] theorem State.setFn_log : (s.setFn f v).log = s.log := rfl
@[simp] theorem State.setFn_fw : (s.setFn f v).fw = s.fw := rfl
@[simp] theorem State.setFn_tally : (s.setFn f v).tally = s.tally := rfl
@[simp] theorem State.setFn_out : (s.setFn f v).out = s.out := rfl
@[simp] theorem State.setFn_free : (s.setFn f v).free = s.free := rfl
@[simp] theorem State.setFn_pending : (s.setFn f v).pending = s.pending := rfl
end

section
variable (s : State) (k : Nat) (v : ReqSt)
@[simp] theorem State.setReq_boot : (s.setReq k v).boot = s.boot := rfl
@[simp] theorem State.setReq_time : (s.setReq k v).time = s.time := rfl
@[simp] theorem State.setReq_cyc : (s.setReq k v).cyc = s.cyc := rfl
@[simp] theorem State.setReq_objs : (s.setReq k v).objs = s.objs := rfl
@[simp] theorem State.setReq_blobLen : (s.setReq k v).blobLen = s.blobLen := rfl
@[simp] theorem State.setReq_reqs : (s.setReq k v).reqs = Sparse.put s.reqs k v := rfl
@[simp] theorem State.setReq_dict : (s.setReq k v).dict = s.dict := rfl
@[simp] theorem State.setReq_cores : (s.setReq k v).cores = s.cores := rfl
@[simp] theorem State.setReq_pavs : (s.setReq k v).pavs = s.pavs := rfl
@[simp] theorem State.setReq_streams : (s.setReq k v).streams = s.streams := rfl
@[simp] theorem State.setReq_fns : (s.setReq k v).fns = s.fns := rfl
@[simp] theorem State.setReq_pcie : (s.setReq k v).pcie = s.pcie := rfl
@[simp] theorem State.setReq_mem : (s.setReq k v).mem = s.mem := rfl
@[simp] theorem State.setReq_mmeta : (s.setReq k v).mmeta = s.mmeta := rfl
@[simp] theorem State.setReq_org : (s.setReq k v).org = s.org := rfl
@[simp] theorem State.setReq_arb : (s.setReq k v).arb = s.arb := rfl
@[simp] theorem State.setReq_net : (s.setReq k v).net = s.net := rfl
@[simp] theorem State.setReq_ports : (s.setReq k v).ports = s.ports := rfl
@[simp] theorem State.setReq_link : (s.setReq k v).link = s.link := rfl
@[simp] theorem State.setReq_power : (s.setReq k v).power = s.power := rfl
@[simp] theorem State.setReq_energy : (s.setReq k v).energy = s.energy := rfl
@[simp] theorem State.setReq_integ : (s.setReq k v).integ = s.integ := rfl
@[simp] theorem State.setReq_log : (s.setReq k v).log = s.log := rfl
@[simp] theorem State.setReq_fw : (s.setReq k v).fw = s.fw := rfl
@[simp] theorem State.setReq_tally : (s.setReq k v).tally = s.tally := rfl
@[simp] theorem State.setReq_out : (s.setReq k v).out = s.out := rfl
@[simp] theorem State.setReq_free : (s.setReq k v).free = s.free := rfl
@[simp] theorem State.setReq_pending : (s.setReq k v).pending = s.pending := rfl
end

section
variable (s : State) (k : Nat) (v : Session)
@[simp] theorem State.setSess_boot : (s.setSess k v).boot = s.boot := rfl
@[simp] theorem State.setSess_time : (s.setSess k v).time = s.time := rfl
@[simp] theorem State.setSess_cyc : (s.setSess k v).cyc = s.cyc := rfl
@[simp] theorem State.setSess_objs : (s.setSess k v).objs = s.objs := rfl
@[simp] theorem State.setSess_blobLen : (s.setSess k v).blobLen = s.blobLen := rfl
@[simp] theorem State.setSess_reqs : (s.setSess k v).reqs = s.reqs := rfl
@[simp] theorem State.setSess_dict : (s.setSess k v).dict = { s.dict with sessions := Sparse.put s.dict.sessions k v } := rfl
@[simp] theorem State.setSess_cores : (s.setSess k v).cores = s.cores := rfl
@[simp] theorem State.setSess_pavs : (s.setSess k v).pavs = s.pavs := rfl
@[simp] theorem State.setSess_streams : (s.setSess k v).streams = s.streams := rfl
@[simp] theorem State.setSess_fns : (s.setSess k v).fns = s.fns := rfl
@[simp] theorem State.setSess_pcie : (s.setSess k v).pcie = s.pcie := rfl
@[simp] theorem State.setSess_mem : (s.setSess k v).mem = s.mem := rfl
@[simp] theorem State.setSess_mmeta : (s.setSess k v).mmeta = s.mmeta := rfl
@[simp] theorem State.setSess_org : (s.setSess k v).org = s.org := rfl
@[simp] theorem State.setSess_arb : (s.setSess k v).arb = s.arb := rfl
@[simp] theorem State.setSess_net : (s.setSess k v).net = s.net := rfl
@[simp] theorem State.setSess_ports : (s.setSess k v).ports = s.ports := rfl
@[simp] theorem State.setSess_link : (s.setSess k v).link = s.link := rfl
@[simp] theorem State.setSess_power : (s.setSess k v).power = s.power := rfl
@[simp] theorem State.setSess_energy : (s.setSess k v).energy = s.energy := rfl
@[simp] theorem State.setSess_integ : (s.setSess k v).integ = s.integ := rfl
@[simp] theorem State.setSess_log : (s.setSess k v).log = s.log := rfl
@[simp] theorem State.setSess_fw : (s.setSess k v).fw = s.fw := rfl
@[simp] theorem State.setSess_tally : (s.setSess k v).tally = s.tally := rfl
@[simp] theorem State.setSess_out : (s.setSess k v).out = s.out := rfl
@[simp] theorem State.setSess_free : (s.setSess k v).free = s.free := rfl
@[simp] theorem State.setSess_pending : (s.setSess k v).pending = s.pending := rfl
end

section
variable (s : State) (k : Nat) (v : Rail)
@[simp] theorem State.setRail_boot : (s.setRail k v).boot = s.boot := rfl
@[simp] theorem State.setRail_time : (s.setRail k v).time = s.time := rfl
@[simp] theorem State.setRail_cyc : (s.setRail k v).cyc = s.cyc := rfl
@[simp] theorem State.setRail_objs : (s.setRail k v).objs = s.objs := rfl
@[simp] theorem State.setRail_blobLen : (s.setRail k v).blobLen = s.blobLen := rfl
@[simp] theorem State.setRail_reqs : (s.setRail k v).reqs = s.reqs := rfl
@[simp] theorem State.setRail_dict : (s.setRail k v).dict = s.dict := rfl
@[simp] theorem State.setRail_cores : (s.setRail k v).cores = s.cores := rfl
@[simp] theorem State.setRail_pavs : (s.setRail k v).pavs = s.pavs := rfl
@[simp] theorem State.setRail_streams : (s.setRail k v).streams = s.streams := rfl
@[simp] theorem State.setRail_fns : (s.setRail k v).fns = s.fns := rfl
@[simp] theorem State.setRail_pcie : (s.setRail k v).pcie = s.pcie := rfl
@[simp] theorem State.setRail_mem : (s.setRail k v).mem = s.mem := rfl
@[simp] theorem State.setRail_mmeta : (s.setRail k v).mmeta = s.mmeta := rfl
@[simp] theorem State.setRail_org : (s.setRail k v).org = s.org := rfl
@[simp] theorem State.setRail_arb : (s.setRail k v).arb = s.arb := rfl
@[simp] theorem State.setRail_net : (s.setRail k v).net = s.net := rfl
@[simp] theorem State.setRail_ports : (s.setRail k v).ports = s.ports := rfl
@[simp] theorem State.setRail_link : (s.setRail k v).link = s.link := rfl
@[simp] theorem State.setRail_power : (s.setRail k v).power = { s.power with rails := Sparse.put s.power.rails k v } := rfl
@[simp] theorem State.setRail_energy : (s.setRail k v).energy = s.energy := rfl
@[simp] theorem State.setRail_integ : (s.setRail k v).integ = s.integ := rfl
@[simp] theorem State.setRail_log : (s.setRail k v).log = s.log := rfl
@[simp] theorem State.setRail_fw : (s.setRail k v).fw = s.fw := rfl
@[simp] theorem State.setRail_tally : (s.setRail k v).tally = s.tally := rfl
@[simp] theorem State.setRail_out : (s.setRail k v).out = s.out := rfl
@[simp] theorem State.setRail_free : (s.setRail k v).free = s.free := rfl
@[simp] theorem State.setRail_pending : (s.setRail k v).pending = s.pending := rfl
end

section
variable (s : State) (i sub v : Nat)
@[simp] theorem State.setObj_boot : (s.setObj i sub v).boot = s.boot := rfl
@[simp] theorem State.setObj_time : (s.setObj i sub v).time = s.time := rfl
@[simp] theorem State.setObj_cyc : (s.setObj i sub v).cyc = s.cyc := rfl
@[simp] theorem State.setObj_objs : (s.setObj i sub v).objs = Sparse.put s.objs (okey i sub) v := rfl
@[simp] theorem State.setObj_blobLen : (s.setObj i sub v).blobLen = s.blobLen := rfl
@[simp] theorem State.setObj_reqs : (s.setObj i sub v).reqs = s.reqs := rfl
@[simp] theorem State.setObj_dict : (s.setObj i sub v).dict = s.dict := rfl
@[simp] theorem State.setObj_cores : (s.setObj i sub v).cores = s.cores := rfl
@[simp] theorem State.setObj_pavs : (s.setObj i sub v).pavs = s.pavs := rfl
@[simp] theorem State.setObj_streams : (s.setObj i sub v).streams = s.streams := rfl
@[simp] theorem State.setObj_fns : (s.setObj i sub v).fns = s.fns := rfl
@[simp] theorem State.setObj_pcie : (s.setObj i sub v).pcie = s.pcie := rfl
@[simp] theorem State.setObj_mem : (s.setObj i sub v).mem = s.mem := rfl
@[simp] theorem State.setObj_mmeta : (s.setObj i sub v).mmeta = s.mmeta := rfl
@[simp] theorem State.setObj_org : (s.setObj i sub v).org = s.org := rfl
@[simp] theorem State.setObj_arb : (s.setObj i sub v).arb = s.arb := rfl
@[simp] theorem State.setObj_net : (s.setObj i sub v).net = s.net := rfl
@[simp] theorem State.setObj_ports : (s.setObj i sub v).ports = s.ports := rfl
@[simp] theorem State.setObj_link : (s.setObj i sub v).link = s.link := rfl
@[simp] theorem State.setObj_power : (s.setObj i sub v).power = s.power := rfl
@[simp] theorem State.setObj_energy : (s.setObj i sub v).energy = s.energy := rfl
@[simp] theorem State.setObj_integ : (s.setObj i sub v).integ = s.integ := rfl
@[simp] theorem State.setObj_log : (s.setObj i sub v).log = s.log := rfl
@[simp] theorem State.setObj_fw : (s.setObj i sub v).fw = s.fw := rfl
@[simp] theorem State.setObj_tally : (s.setObj i sub v).tally = s.tally := rfl
@[simp] theorem State.setObj_out : (s.setObj i sub v).out = s.out := rfl
@[simp] theorem State.setObj_free : (s.setObj i sub v).free = s.free := rfl
@[simp] theorem State.setObj_pending : (s.setObj i sub v).pending = s.pending := rfl
end

section
variable (s : State) (o : Out)
@[simp] theorem State.emit_boot : (s.emit o).boot = s.boot := rfl
@[simp] theorem State.emit_time : (s.emit o).time = s.time := rfl
@[simp] theorem State.emit_cyc : (s.emit o).cyc = s.cyc := rfl
@[simp] theorem State.emit_objs : (s.emit o).objs = s.objs := rfl
@[simp] theorem State.emit_blobLen : (s.emit o).blobLen = s.blobLen := rfl
@[simp] theorem State.emit_reqs : (s.emit o).reqs = s.reqs := rfl
@[simp] theorem State.emit_dict : (s.emit o).dict = s.dict := rfl
@[simp] theorem State.emit_cores : (s.emit o).cores = s.cores := rfl
@[simp] theorem State.emit_pavs : (s.emit o).pavs = s.pavs := rfl
@[simp] theorem State.emit_streams : (s.emit o).streams = s.streams := rfl
@[simp] theorem State.emit_fns : (s.emit o).fns = s.fns := rfl
@[simp] theorem State.emit_pcie : (s.emit o).pcie = s.pcie := rfl
@[simp] theorem State.emit_mem : (s.emit o).mem = s.mem := rfl
@[simp] theorem State.emit_mmeta : (s.emit o).mmeta = s.mmeta := rfl
@[simp] theorem State.emit_org : (s.emit o).org = s.org := rfl
@[simp] theorem State.emit_arb : (s.emit o).arb = s.arb := rfl
@[simp] theorem State.emit_net : (s.emit o).net = s.net := rfl
@[simp] theorem State.emit_ports : (s.emit o).ports = s.ports := rfl
@[simp] theorem State.emit_link : (s.emit o).link = s.link := rfl
@[simp] theorem State.emit_power : (s.emit o).power = s.power := rfl
@[simp] theorem State.emit_energy : (s.emit o).energy = s.energy := rfl
@[simp] theorem State.emit_integ : (s.emit o).integ = s.integ := rfl
@[simp] theorem State.emit_log : (s.emit o).log = s.log := rfl
@[simp] theorem State.emit_fw : (s.emit o).fw = s.fw := rfl
@[simp] theorem State.emit_tally : (s.emit o).tally = s.tally := rfl
@[simp] theorem State.emit_out : (s.emit o).out = s.out ++ [o] := rfl
@[simp] theorem State.emit_free : (s.emit o).free = s.free := rfl
@[simp] theorem State.emit_pending : (s.emit o).pending = s.pending := rfl
end

section
variable (s : State)
@[simp] theorem State.draw_fst : s.draw.1 = Config.free s.free := rfl
@[simp] theorem State.draw_snd_boot : s.draw.2.boot = s.boot := rfl
@[simp] theorem State.draw_snd_time : s.draw.2.time = s.time := rfl
@[simp] theorem State.draw_snd_cyc : s.draw.2.cyc = s.cyc := rfl
@[simp] theorem State.draw_snd_objs : s.draw.2.objs = s.objs := rfl
@[simp] theorem State.draw_snd_blobLen : s.draw.2.blobLen = s.blobLen := rfl
@[simp] theorem State.draw_snd_reqs : s.draw.2.reqs = s.reqs := rfl
@[simp] theorem State.draw_snd_dict : s.draw.2.dict = s.dict := rfl
@[simp] theorem State.draw_snd_cores : s.draw.2.cores = s.cores := rfl
@[simp] theorem State.draw_snd_pavs : s.draw.2.pavs = s.pavs := rfl
@[simp] theorem State.draw_snd_streams : s.draw.2.streams = s.streams := rfl
@[simp] theorem State.draw_snd_fns : s.draw.2.fns = s.fns := rfl
@[simp] theorem State.draw_snd_pcie : s.draw.2.pcie = s.pcie := rfl
@[simp] theorem State.draw_snd_mem : s.draw.2.mem = s.mem := rfl
@[simp] theorem State.draw_snd_mmeta : s.draw.2.mmeta = s.mmeta := rfl
@[simp] theorem State.draw_snd_org : s.draw.2.org = s.org := rfl
@[simp] theorem State.draw_snd_arb : s.draw.2.arb = s.arb := rfl
@[simp] theorem State.draw_snd_net : s.draw.2.net = s.net := rfl
@[simp] theorem State.draw_snd_ports : s.draw.2.ports = s.ports := rfl
@[simp] theorem State.draw_snd_link : s.draw.2.link = s.link := rfl
@[simp] theorem State.draw_snd_power : s.draw.2.power = s.power := rfl
@[simp] theorem State.draw_snd_energy : s.draw.2.energy = s.energy := rfl
@[simp] theorem State.draw_snd_integ : s.draw.2.integ = s.integ := rfl
@[simp] theorem State.draw_snd_log : s.draw.2.log = s.log := rfl
@[simp] theorem State.draw_snd_fw : s.draw.2.fw = s.fw := rfl
@[simp] theorem State.draw_snd_tally : s.draw.2.tally = s.tally := rfl
@[simp] theorem State.draw_snd_out : s.draw.2.out = s.out := rfl
@[simp] theorem State.draw_snd_free : s.draw.2.free = s.free + 1 := rfl
@[simp] theorem State.draw_snd_pending : s.draw.2.pending = s.pending := rfl
end

@[simp] theorem State.updCore_eq (s : State) (n : Nat) (g : Core → Core) : s.updCore n g = s.setCore n (g (s.core n)) := rfl
@[simp] theorem State.updPav_eq (s : State) (n : Nat) (g : Pav → Pav) : s.updPav n g = s.setPav n (g (s.pav n)) := rfl
@[simp] theorem State.updPort_eq (s : State) (n : Nat) (g : Port → Port) : s.updPort n g = s.setPort n (g (s.port n)) := rfl
@[simp] theorem State.updFn_eq (s : State) (n : Nat) (g : Fn → Fn) : s.updFn n g = s.setFn n (g (s.fn n)) := rfl
@[simp] theorem State.updReq_eq (s : State) (n : Nat) (g : ReqSt → ReqSt) : s.updReq n g = s.setReq n (g (s.req n)) := rfl
@[simp] theorem State.updRail_eq (s : State) (n : Nat) (g : Rail → Rail) : s.updRail n g = s.setRail n (g (s.rail n)) := rfl

/-- The boot manifest names the slot written to it last (20 R546). -/
@[simp] theorem FwSt.manifest_setManifest (f : FwSt) (k : Nat) : (f.setManifest k).manifest = k := by
  unfold FwSt.setManifest FwSt.manifest; split <;> simp

/-- A clocked row has its effect while the clock runs, and none while it does not (23 R610). -/
theorem State.clocked_on {s : State} (f : State → State) (h : s.power.clockOn = true) : s.clocked f = .next (f s) := by simp [State.clocked, h]
theorem State.clocked_off {s : State} (f : State → State) (h : s.power.clockOn = false) : s.clocked f = .next s := by simp [State.clocked, h]

/-- A clocked row always answers a next state. -/
theorem State.clocked_next (s : State) (f : State → State) : ∃ t, s.clocked f = .next t := ⟨_, rfl⟩

end Sys2Proof.Machine
end

