-- ==== Sys2Proof/Laws/Sparse.lean ====
section
/-! SUPPORT. Laws/Sparse.lean: reading a table after a write, and through it the units and objects of the state. -/

namespace Sys2Proof.Machine

theorem Sparse.find_put {α : Type} (m : Sparse α) (k : Nat) (v : α) (j : Nat) :
    Sparse.find (Sparse.put m k v) j = if j = k then some v else Sparse.find m j := by
  induction m with
  | nil => simp [Sparse.put, Sparse.find, eq_comm]
  | cons r m ih =>
    obtain ⟨i, w⟩ := r
    unfold Sparse.put
    split
    · rename_i hik
      subst hik
      by_cases h : j = i
      · simp [Sparse.find, h]
      · simp [Sparse.find, h, Ne.symm h]
    · split
      · by_cases h : j = k
        · simp [Sparse.find, h]
        · simp [Sparse.find, h, Ne.symm h]
      · rename_i h1 h2
        simp only [Sparse.find, ih]
        by_cases h : j = k
        · subst h; simp [h1]
        · simp [h]

@[simp] theorem Sparse.getD_put_self {α : Type} (m : Sparse α) (k : Nat) (v d : α) : Sparse.getD (Sparse.put m k v) k d = v := by
  simp [Sparse.getD, Sparse.find_put]

theorem Sparse.getD_put_ne {α : Type} (m : Sparse α) (k : Nat) (v d : α) {j : Nat} (h : j ≠ k) :
    Sparse.getD (Sparse.put m k v) j d = Sparse.getD m j d := by
  simp [Sparse.getD, Sparse.find_put, h]

theorem Sparse.getD_put {α : Type} (m : Sparse α) (k : Nat) (v d : α) (j : Nat) :
    Sparse.getD (Sparse.put m k v) j d = if j = k then v else Sparse.getD m j d := by
  by_cases h : j = k <;> simp [Sparse.getD, Sparse.find_put, h]

theorem Sparse.find_del {α : Type} (m : Sparse α) (k j : Nat) :
    Sparse.find (Sparse.del m k) j = if j = k then none else Sparse.find m j := by
  induction m with
  | nil => simp [Sparse.del, Sparse.find]
  | cons r m ih =>
    obtain ⟨i, w⟩ := r
    unfold Sparse.del at ih ⊢
    rw [List.filter_cons]
    by_cases hi : i = k
    · subst hi
      by_cases h : j = i
      · simpa [Sparse.find, h] using ih
      · simpa [Sparse.find, h, Ne.symm h] using ih
    · by_cases h : j = k
      · subst h; simpa [Sparse.find, hi] using ih
      · simp only [h, if_false] at ih
        simp [Sparse.find, hi, h, ih]

/-! ### Units -/

section
variable (s : State)

theorem State.core_setCore (n : Nat) (c : Core) (m : Nat) : (s.setCore n c).core m = if m = n then c else s.core m :=
  Sparse.getD_put ..
@[simp] theorem State.core_setCore_self (n : Nat) (c : Core) : (s.setCore n c).core n = c := Sparse.getD_put_self ..
theorem State.pav_setPav (p : Nat) (v : Pav) (q : Nat) : (s.setPav p v).pav q = if q = p then v else s.pav q := Sparse.getD_put ..
@[simp] theorem State.pav_setPav_self (p : Nat) (v : Pav) : (s.setPav p v).pav p = v := Sparse.getD_put_self ..
theorem State.port_setPort (q : Nat) (v : Port) (r : Nat) : (s.setPort q v).port r = if r = q then v else s.port r := Sparse.getD_put ..
@[simp] theorem State.port_setPort_self (q : Nat) (v : Port) : (s.setPort q v).port q = v := Sparse.getD_put_self ..
theorem State.fn_setFn (f : Nat) (v : Fn) (g : Nat) : (s.setFn f v).fn g = if g = f then v else s.fn g := by
  by_cases h : g = f
  · subst h; simp [State.fn]
  · simp [State.fn, h, Sparse.getD_put_ne]
@[simp] theorem State.fn_setFn_self (f : Nat) (v : Fn) : (s.setFn f v).fn f = v := Sparse.getD_put_self ..
theorem State.req_setReq (k : Nat) (v : ReqSt) (j : Nat) : (s.setReq k v).req j = if j = k then v else s.req j := Sparse.getD_put ..
@[simp] theorem State.req_setReq_self (k : Nat) (v : ReqSt) : (s.setReq k v).req k = v := Sparse.getD_put_self ..
@[simp] theorem State.sess_setSess_self (k : Nat) (v : Session) : (s.setSess k v).sess k = v := Sparse.getD_put_self ..
@[simp] theorem State.rail_setRail_self (k : Nat) (v : Rail) : (s.setRail k v).rail k = v := Sparse.getD_put_self ..
@[simp] theorem State.obj_setObj_self (i sub v : Nat) : (s.setObj i sub v).obj i sub = v := Sparse.getD_put_self ..
theorem State.obj_setObj_ne (i sub v i' sub' : Nat) (h : okey i' sub' ≠ okey i sub) : (s.setObj i sub v).obj i' sub' = s.obj i' sub' :=
  Sparse.getD_put_ne _ _ _ _ h

/-! A unit reads the same where its table is the same. -/

theorem State.core_congr {s t : State} (h : t.cores = s.cores) (n : Nat) : t.core n = s.core n := by simp [State.core, h]
theorem State.pav_congr {s t : State} (h : t.pavs = s.pavs) (n : Nat) : t.pav n = s.pav n := by simp [State.pav, h]
theorem State.port_congr {s t : State} (h : t.ports = s.ports) (n : Nat) : t.port n = s.port n := by simp [State.port, h]
theorem State.fn_congr {s t : State} (h : t.fns = s.fns) (n : Nat) : t.fn n = s.fn n := by simp [State.fn, h]
theorem State.req_congr {s t : State} (h : t.reqs = s.reqs) (n : Nat) : t.req n = s.req n := by simp [State.req, h]
theorem State.obj_congr {s t : State} (h : t.objs = s.objs) (i sub : Nat) : t.obj i sub = s.obj i sub := by simp [State.obj, h]
end

end Sys2Proof.Machine
end

