-- ==== Sys2Proof/Laws/Frame.lean ====
section
/-! SUPPORT. Laws/Frame.lean: the frame relation as an equation between masked states, and what the shared operations may change. -/

namespace Sys2Proof.Safety
open Sys2Proof.Machine

/-- A state with the named fields blanked. -/
def mask (l : List Fld) (s : State) : State :=
  {boot := bif l.contains .boot then State.reset.boot else s.boot,
    time := bif l.contains .time then State.reset.time else s.time,
    cyc := bif l.contains .cyc then State.reset.cyc else s.cyc,
    objs := bif l.contains .objs then State.reset.objs else s.objs,
    blobLen := bif l.contains .blobLen then State.reset.blobLen else s.blobLen,
    reqs := bif l.contains .reqs then State.reset.reqs else s.reqs,
    dict := bif l.contains .dict then State.reset.dict else s.dict,
    cores := bif l.contains .cores then State.reset.cores else s.cores,
    pavs := bif l.contains .pavs then State.reset.pavs else s.pavs,
    streams := bif l.contains .streams then State.reset.streams else s.streams,
    fns := bif l.contains .fns then State.reset.fns else s.fns,
    pcie := bif l.contains .pcie then State.reset.pcie else s.pcie,
    mem := bif l.contains .mem then State.reset.mem else s.mem,
    mmeta := bif l.contains .mmeta then State.reset.mmeta else s.mmeta,
    org := bif l.contains .org then State.reset.org else s.org,
    arb := bif l.contains .arb then State.reset.arb else s.arb,
    net := bif l.contains .net then State.reset.net else s.net,
    ports := bif l.contains .ports then State.reset.ports else s.ports,
    link := bif l.contains .link then State.reset.link else s.link,
    power := bif l.contains .power then State.reset.power else s.power,
    energy := bif l.contains .energy then State.reset.energy else s.energy,
    integ := bif l.contains .integ then State.reset.integ else s.integ,
    log := bif l.contains .log then State.reset.log else s.log,
    fw := bif l.contains .fw then State.reset.fw else s.fw,
    tally := bif l.contains .tally then State.reset.tally else s.tally,
    out := bif l.contains .out then State.reset.out else s.out,
    free := bif l.contains .free then State.reset.free else s.free,
    pending := bif l.contains .pending then State.reset.pending else s.pending }

theorem only_iff_mask {l : List Fld} {s t : State} : Only l s t ↔ mask l t = mask l s := by
  constructor
  · intro h
    simp only [mask, State.mk.injEq]
    refine ⟨?_, ?_, ?_, ?_, ?_, ?_, ?_, ?_, ?_, ?_, ?_, ?_, ?_, ?_, ?_, ?_, ?_, ?_, ?_, ?_, ?_, ?_, ?_, ?_, ?_, ?_, ?_, ?_⟩
    · rcases h.boot with h | h <;> simp [h]
    · rcases h.time with h | h <;> simp [h]
    · rcases h.cyc with h | h <;> simp [h]
    · rcases h.objs with h | h <;> simp [h]
    · rcases h.blobLen with h | h <;> simp [h]
    · rcases h.reqs with h | h <;> simp [h]
    · rcases h.dict with h | h <;> simp [h]
    · rcases h.cores with h | h <;> simp [h]
    · rcases h.pavs with h | h <;> simp [h]
    · rcases h.streams with h | h <;> simp [h]
    · rcases h.fns with h | h <;> simp [h]
    · rcases h.pcie with h | h <;> simp [h]
    · rcases h.mem with h | h <;> simp [h]
    · rcases h.mmeta with h | h <;> simp [h]
    · rcases h.org with h | h <;> simp [h]
    · rcases h.arb with h | h <;> simp [h]
    · rcases h.net with h | h <;> simp [h]
    · rcases h.ports with h | h <;> simp [h]
    · rcases h.link with h | h <;> simp [h]
    · rcases h.power with h | h <;> simp [h]
    · rcases h.energy with h | h <;> simp [h]
    · rcases h.integ with h | h <;> simp [h]
    · rcases h.log with h | h <;> simp [h]
    · rcases h.fw with h | h <;> simp [h]
    · rcases h.tally with h | h <;> simp [h]
    · rcases h.out with h | h <;> simp [h]
    · rcases h.free with h | h <;> simp [h]
    · rcases h.pending with h | h <;> simp [h]
  · intro h
    simp only [mask, State.mk.injEq] at h
    obtain ⟨h_boot, h_time, h_cyc, h_objs, h_blobLen, h_reqs, h_dict, h_cores, h_pavs, h_streams, h_fns, h_pcie, h_mem, h_mmeta, h_org, h_arb, h_net, h_ports, h_link, h_power, h_energy, h_integ, h_log, h_fw, h_tally, h_out, h_free, h_pending⟩ := h
    constructor
    · by_cases hm : Fld.boot ∈ l
      · exact .inl hm
      · simp [hm] at h_boot; exact .inr h_boot
    · by_cases hm : Fld.time ∈ l
      · exact .inl hm
      · simp [hm] at h_time; exact .inr h_time
    · by_cases hm : Fld.cyc ∈ l
      · exact .inl hm
      · simp [hm] at h_cyc; exact .inr h_cyc
    · by_cases hm : Fld.objs ∈ l
      · exact .inl hm
      · simp [hm] at h_objs; exact .inr h_objs
    · by_cases hm : Fld.blobLen ∈ l
      · exact .inl hm
      · simp [hm] at h_blobLen; exact .inr h_blobLen
    · by_cases hm : Fld.reqs ∈ l
      · exact .inl hm
      · simp [hm] at h_reqs; exact .inr h_reqs
    · by_cases hm : Fld.dict ∈ l
      · exact .inl hm
      · simp [hm] at h_dict; exact .inr h_dict
    · by_cases hm : Fld.cores ∈ l
      · exact .inl hm
      · simp [hm] at h_cores; exact .inr h_cores
    · by_cases hm : Fld.pavs ∈ l
      · exact .inl hm
      · simp [hm] at h_pavs; exact .inr h_pavs
    · by_cases hm : Fld.streams ∈ l
      · exact .inl hm
      · simp [hm] at h_streams; exact .inr h_streams
    · by_cases hm : Fld.fns ∈ l
      · exact .inl hm
      · simp [hm] at h_fns; exact .inr h_fns
    · by_cases hm : Fld.pcie ∈ l
      · exact .inl hm
      · simp [hm] at h_pcie; exact .inr h_pcie
    · by_cases hm : Fld.mem ∈ l
      · exact .inl hm
      · simp [hm] at h_mem; exact .inr h_mem
    · by_cases hm : Fld.mmeta ∈ l
      · exact .inl hm
      · simp [hm] at h_mmeta; exact .inr h_mmeta
    · by_cases hm : Fld.org ∈ l
      · exact .inl hm
      · simp [hm] at h_org; exact .inr h_org
    · by_cases hm : Fld.arb ∈ l
      · exact .inl hm
      · simp [hm] at h_arb; exact .inr h_arb
    · by_cases hm : Fld.net ∈ l
      · exact .inl hm
      · simp [hm] at h_net; exact .inr h_net
    · by_cases hm : Fld.ports ∈ l
      · exact .inl hm
      · simp [hm] at h_ports; exact .inr h_ports
    · by_cases hm : Fld.link ∈ l
      · exact .inl hm
      · simp [hm] at h_link; exact .inr h_link
    · by_cases hm : Fld.power ∈ l
      · exact .inl hm
      · simp [hm] at h_power; exact .inr h_power
    · by_cases hm : Fld.energy ∈ l
      · exact .inl hm
      · simp [hm] at h_energy; exact .inr h_energy
    · by_cases hm : Fld.integ ∈ l
      · exact .inl hm
      · simp [hm] at h_integ; exact .inr h_integ
    · by_cases hm : Fld.log ∈ l
      · exact .inl hm
      · simp [hm] at h_log; exact .inr h_log
    · by_cases hm : Fld.fw ∈ l
      · exact .inl hm
      · simp [hm] at h_fw; exact .inr h_fw
    · by_cases hm : Fld.tally ∈ l
      · exact .inl hm
      · simp [hm] at h_tally; exact .inr h_tally
    · by_cases hm : Fld.out ∈ l
      · exact .inl hm
      · simp [hm] at h_out; exact .inr h_out
    · by_cases hm : Fld.free ∈ l
      · exact .inl hm
      · simp [hm] at h_free; exact .inr h_free
    · by_cases hm : Fld.pending ∈ l
      · exact .inl hm
      · simp [hm] at h_pending; exact .inr h_pending

theorem mask_trans {l : List Fld} {s t u : State} (h : mask l t = mask l s) (g : mask l u = mask l t) : mask l u = mask l s := g.trans h

@[simp] theorem mask_foldl {α : Type} {l : List Fld} (f : State → α → State) (h : ∀ s a, mask l (f s a) = mask l s) (xs : List α) (s : State) :
    mask l (xs.foldl f s) = mask l s := by
  induction xs generalizing s with
  | nil => rfl
  | cons a xs ih => rw [List.foldl_cons, ih, h]

@[simp] theorem mask_foldl_snd {α β : Type} {l : List Fld} (f : β × State → α → β × State) (h : ∀ b s a, mask l (f (b, s) a).2 = mask l s)
    (xs : List α) (b : β) (s : State) : mask l (xs.foldl f (b, s)).2 = mask l s := by
  induction xs generalizing b s with
  | nil => rfl
  | cons a xs ih => rw [List.foldl_cons, ← Prod.mk.eta (p := f (b, s) a), ih, h]

/-! ### Single fields -/

section
variable {l : List Fld} (s : State)
@[simp] theorem mask_boot (h : Fld.boot ∈ l) (v : Boot) : mask l { s with boot := v } = mask l s := by simp [mask, h]
@[simp] theorem mask_time (h : Fld.time ∈ l) (v : Sundial) : mask l { s with time := v } = mask l s := by simp [mask, h]
@[simp] theorem mask_cyc (h : Fld.cyc ∈ l) (v : Cycles) : mask l { s with cyc := v } = mask l s := by simp [mask, h]
@[simp] theorem mask_objs (h : Fld.objs ∈ l) (v : Sparse Nat) : mask l { s with objs := v } = mask l s := by simp [mask, h]
@[simp] theorem mask_blobLen (h : Fld.blobLen ∈ l) (v : Sparse Nat) : mask l { s with blobLen := v } = mask l s := by simp [mask, h]
@[simp] theorem mask_reqs (h : Fld.reqs ∈ l) (v : Sparse ReqSt) : mask l { s with reqs := v } = mask l s := by simp [mask, h]
@[simp] theorem mask_dict (h : Fld.dict ∈ l) (v : Dict) : mask l { s with dict := v } = mask l s := by simp [mask, h]
@[simp] theorem mask_cores (h : Fld.cores ∈ l) (v : Sparse Core) : mask l { s with cores := v } = mask l s := by simp [mask, h]
@[simp] theorem mask_pavs (h : Fld.pavs ∈ l) (v : Sparse Pav) : mask l { s with pavs := v } = mask l s := by simp [mask, h]
@[simp] theorem mask_streams (h : Fld.streams ∈ l) (v : Sparse Nat) : mask l { s with streams := v } = mask l s := by simp [mask, h]
@[simp] theorem mask_fns (h : Fld.fns ∈ l) (v : Sparse Fn) : mask l { s with fns := v } = mask l s := by simp [mask, h]
@[simp] theorem mask_pcie (h : Fld.pcie ∈ l) (v : Pcie) : mask l { s with pcie := v } = mask l s := by simp [mask, h]
@[simp] theorem mask_mem (h : Fld.mem ∈ l) (v : Mem) : mask l { s with mem := v } = mask l s := by simp [mask, h]
@[simp] theorem mask_mmeta (h : Fld.mmeta ∈ l) (v : MemMeta) : mask l { s with mmeta := v } = mask l s := by simp [mask, h]
@[simp] theorem mask_org (h : Fld.org ∈ l) (v : Orangery) : mask l { s with org := v } = mask l s := by simp [mask, h]
@[simp] theorem mask_arb (h : Fld.arb ∈ l) (v : Arb) : mask l { s with arb := v } = mask l s := by simp [mask, h]
@[simp] theorem mask_net (h : Fld.net ∈ l) (v : List Packet) : mask l { s with net := v } = mask l s := by simp [mask, h]
@[simp] theorem mask_ports (h : Fld.ports ∈ l) (v : Sparse Port) : mask l { s with ports := v } = mask l s := by simp [mask, h]
@[simp] theorem mask_link (h : Fld.link ∈ l) (v : LinkSt) : mask l { s with link := v } = mask l s := by simp [mask, h]
@[simp] theorem mask_power (h : Fld.power ∈ l) (v : Power) : mask l { s with power := v } = mask l s := by simp [mask, h]
@[simp] theorem mask_energy (h : Fld.energy ∈ l) (v : Energy) : mask l { s with energy := v } = mask l s := by simp [mask, h]
@[simp] theorem mask_integ (h : Fld.integ ∈ l) (v : Integ) : mask l { s with integ := v } = mask l s := by simp [mask, h]
@[simp] theorem mask_log (h : Fld.log ∈ l) (v : LogSt) : mask l { s with log := v } = mask l s := by simp [mask, h]
@[simp] theorem mask_fw (h : Fld.fw ∈ l) (v : FwSt) : mask l { s with fw := v } = mask l s := by simp [mask, h]
@[simp] theorem mask_tally (h : Fld.tally ∈ l) (v : Sparse Nat) : mask l { s with tally := v } = mask l s := by simp [mask, h]
@[simp] theorem mask_out (h : Fld.out ∈ l) (v : List Out) : mask l { s with out := v } = mask l s := by simp [mask, h]
@[simp] theorem mask_free (h : Fld.free ∈ l) (v : Nat) : mask l { s with free := v } = mask l s := by simp [mask, h]
@[simp] theorem mask_pending (h : Fld.pending ∈ l) (v : List Instr) : mask l { s with pending := v } = mask l s := by simp [mask, h]
end

end Sys2Proof.Safety
end

