-- ==== Sys2Proof/Laws/Issue.lean ====
section
/-! SUPPORT. Laws/Issue.lean: what fetch, the shared parts of an issue and the end of a word may do. -/

namespace Sys2Proof.Machine
open Sys2Proof.Safety

@[simp] theorem Core.strm_setStrm (c : Core) (t : Strm) (v : StreamSt) : (c.setStrm t v).strm t = v := by cases t <;> rfl
@[simp] theorem Core.strm_setStrm_other (c : Core) (t : Strm) (v : StreamSt) : (c.setStrm t v).strm (other t) = c.strm (other t) := by
  cases t <;> rfl
@[simp] theorem Core.strm_other_setStrm (c : Core) (t : Strm) (v : StreamSt) : (c.setStrm (other t) v).strm t = c.strm t := by
  cases t <;> rfl
@[simp] theorem Core.still_setStrm (c : Core) (t : Strm) (v : StreamSt) : still (c.setStrm t v) = still c := by cases t <;> rfl
@[simp] theorem Core.ctl_setStrm (c : Core) (t : Strm) (v : StreamSt) : (c.setStrm t v).ctl = c.ctl := by cases t <;> rfl
@[simp] theorem Core.dbg_setStrm (c : Core) (t : Strm) (v : StreamSt) : (c.setStrm t v).dbg = c.dbg := by cases t <;> rfl
@[simp] theorem Core.fence_setStrm (c : Core) (t : Strm) (v : StreamSt) : (c.setStrm t v).fence = c.fence := by cases t <;> rfl
@[simp] theorem Core.sreg_setStrm (c : Core) (t u : Strm) (v : StreamSt) (r : Nat) : (c.setStrm t v).sreg u r = c.sreg u r := by cases t <;> rfl
@[simp] theorem Core.strm_setSreg (c : Core) (t u : Strm) (r : Nat) (v : Word) : (c.setSreg t r v).strm u = c.strm u := by
  unfold Core.setSreg; split <;> cases u <;> rfl

/-- Fetch changes nothing of its stream but the held lines. -/
theorem Core.fetchTo_snd (c : Core) (st : StreamSt) (a : Nat) : ∃ l k, (c.fetchTo st a).2 = { st with line := l, ahead := k } := ⟨_, _, rfl⟩

/-- What a fetch keeps of a stalled word changes nothing but the held lines. -/
theorem StreamSt.holdLine_eq (a b : StreamSt) : ∃ l k, a.holdLine b = { b with line := l, ahead := k } := by
  unfold StreamSt.holdLine; split <;> exact ⟨_, _, rfl⟩

theorem Core.fetch_snd (c : Core) (t : Strm) : ∃ l k, (c.fetch t).2 = { c.strm t with line := l, ahead := k } := by
  unfold Core.fetch
  dsimp only
  repeat' split
  all_goals first
    | exact ⟨_, _, rfl⟩
    | exact StreamSt.holdLine_eq _ _

/-- A fetched command stands at the program counter. -/
theorem Core.fetch_addr {c : Core} {t : Strm} {d : Dec} {ext : Nat} (h : (c.fetch t).1 = .word d ext) : d.addr = (c.strm t).pc := by
  unfold Core.fetch at h
  dsimp only at h
  repeat' split at h
  all_goals first
    | (simp at h; done)
    | (simp only [FetchR.word.injEq] at h; obtain ⟨rfl, _⟩ := h; rfl)

/-- An issue row runs the command that its stream offers. -/
theorem State.issue_offers {s : State} {n : Nat} {t : Strm} {d : Dec} {ext : Nat} (h : Offers s n t d ext) {op : Nat} (hop : d.op = op)
    (run : State → Dec → Nat → State) : s.issue n t op run = run (s.fetched n t) d ext := by
  obtain ⟨hclk, hcan, hw, hbp, hleg⟩ := h
  unfold State.issue State.issueWith
  simp only [hclk, hcan, Bool.and_self, if_true]
  have e : (s.core n).fetch t = (.word d ext, ((s.core n).fetch t).2) := by rw [← hw]
  have hit : (if ((s.core n).strm t).resumed then 0
      else (s.core n).bpMask (fun _ b => b.kind = 0 && b.mtch.toNat = ((s.core n).strm t).pc)) = 0 := by
    rcases hbp with hr | hb
    · simp [hr]
    · split
      · rfl
      · exact hb
  rw [e]
  simp only [hop, decide_true, Bool.not_true, Bool.and_false, hit, hleg, ne_eq, not_true_eq_false, if_false, Bool.false_eq_true]
  rfl

@[simp] theorem StreamSt.unstall_pc (t : StreamSt) : t.unstall.pc = t.pc := by unfold StreamSt.unstall; split <;> rfl
@[simp] theorem StreamSt.unstall_flags (t : StreamSt) : t.unstall.flags = t.flags := by unfold StreamSt.unstall; split <;> rfl

end Sys2Proof.Machine

namespace Sys2Proof.Safety
open Sys2Proof.Machine

/-! ### What the ends of a word leave -/

@[simp] theorem seen_unstall (v : StreamSt) : seen v.unstall = seen v := by
  unfold seen StreamSt.unstall; split <;> split <;> simp_all

theorem seen_pc (v : StreamSt) : (seen v).pc = v.pc := by unfold seen; simp
theorem seen_flags (v : StreamSt) : (seen v).flags = v.flags := by unfold seen; simp
theorem seen_prev (v : StreamSt) : (seen v).prevTarget = v.prevTarget := by unfold seen StreamSt.unstall; split <;> rfl
theorem seen_wait (v : StreamSt) (h : ∀ k, v.wait ≠ .stall k) : (seen v).wait = v.wait := by
  unfold seen StreamSt.unstall; split
  · rename_i k hk; exact absurd hk (h k)
  · rfl

/-- `t` is `s` but for Tally counters and, in core `n`, its fetched lines and its debug state. -/
structure Quiet (s t : State) (n : Nat) : Prop where
  only : Only [.cores, .tally] s t
  others : OtherCores n s t
  rest : still (t.core n) = still (s.core n)
  strm : ∀ u, seen ((t.core n).strm u) = seen ((s.core n).strm u)

theorem Quiet.refl (s : State) (n : Nat) : Quiet s s n := ⟨only_iff_mask.2 rfl, fun _ _ => rfl, rfl, fun _ => rfl⟩

theorem Quiet.trans {s t u : State} {n : Nat} (h : Quiet s t n) (g : Quiet t u n) : Quiet s u n :=
  ⟨only_iff_mask.2 ((only_iff_mask.1 g.only).trans (only_iff_mask.1 h.only)), fun m hm => (g.others m hm).trans (h.others m hm),
    g.rest.trans h.rest, fun x => (g.strm x).trans (h.strm x)⟩

theorem Quiet.setCore {s : State} {n : Nat} {c : Core} (hr : still c = still (s.core n))
    (hp : ∀ u, seen (c.strm u) = seen ((s.core n).strm u)) : Quiet s (s.setCore n c) n :=
  ⟨only_iff_mask.2 (mask_cores s (by decide) _), fun m hm => by simp [State.core_setCore, hm], by simpa using hr, by simpa using hp⟩

theorem Quiet.tallyAdd (s : State) (n id i k : Nat) : Quiet s (s.tallyAdd id i k) n := by
  have e : ∃ v, s.tallyAdd id i k = { s with tally := v } := by unfold State.tallyAdd; dsimp only; split <;> exact ⟨_, rfl⟩
  obtain ⟨v, e⟩ := e
  rw [e]
  exact ⟨only_iff_mask.2 (mask_tally s (by decide) _), fun _ _ => rfl, rfl, fun _ => rfl⟩

theorem Quiet.tallyPav (s : State) (n id : Nat) (p : Option Nat) (k : Nat) : Quiet s (s.tallyPav id p k) n := by
  cases p with
  | some p => exact Quiet.tallyAdd ..
  | none => exact ⟨only_iff_mask.2 (mask_tally s (by decide) _), fun _ _ => rfl, rfl, fun _ => rfl⟩

theorem Quiet.setStrm (s : State) (n : Nat) (t : Strm) (v : StreamSt) (h : seen v = seen ((s.core n).strm t)) :
    Quiet s (s.setCore n ((s.core n).setStrm t v)) n :=
  Quiet.setCore (by simp) (fun u => by cases t <;> cases u <;> simp [Core.setStrm, Core.strm] at h ⊢ <;> exact h)

/-- A halt that begins stops issue and records its reason, and nothing else (21 R574, R575). -/
theorem Quiet.halt (s : State) (n r m : Nat) : Quiet s (s.halt n r m) n := by
  unfold State.halt
  dsimp only
  split
  · exact Quiet.refl s n
  · have h : ∀ d : Dbg, Quiet s (s.setCore n { s.core n with
        ctl := { (s.core n).ctl with drain := .halt }, dbg := d, sa := (s.core n).sa.unstall, sx := (s.core n).sx.unstall }) n := fun d =>
      Quiet.setCore rfl (fun u => by cases u <;> simp [Core.strm])
    split
    · split
      · exact (h _).trans (Quiet.tallyPav ..)
      · exact h _
    · split
      · exact ((h _).trans (Quiet.tallyAdd ..)).trans (Quiet.tallyPav ..)
      · exact (h _).trans (Quiet.tallyAdd ..)

theorem Quiet.wordDone (s : State) (n : Nat) (t : Strm) : Quiet s (s.wordDone n t) n := by
  unfold State.wordDone
  dsimp only
  have h := Quiet.setStrm s n t { (s.core n).strm t with resumed := false, singled := (s.core n).dbg.single } (by
    unfold seen StreamSt.unstall; cases ((s.core n).strm t).wait <;> rfl)
  split
  · exact h.trans (Quiet.halt ..)
  · exact h

theorem Quiet.fetched (s : State) (n : Nat) (t : Strm) : Quiet s (s.fetched n t) n := by
  obtain ⟨l, k, h⟩ := Core.fetch_snd (s.core n) t
  refine Quiet.setStrm s n t _ ?_
  rw [h]; unfold seen StreamSt.unstall; cases ((s.core n).strm t).wait <;> rfl

theorem Quiet.trace (s : State) (n : Nat) (t : Strm) (d : Dec) (k : Nat) : Quiet s (s.trace n t d k) n := by
  unfold State.trace
  dsimp only
  split
  · exact Quiet.setCore rfl (fun u => by cases u <;> rfl)
  · exact Quiet.refl s n

theorem Quiet.checkCntBps (s : State) (n : Nat) : Quiet s (s.checkCntBps n) n := by
  unfold State.checkCntBps
  dsimp only
  split
  · exact Quiet.refl s n
  · split
    · exact Quiet.refl s n
    · refine (Quiet.setCore ?_ (fun u => ?_)).trans (Quiet.halt ..)
      · rfl
      · cases u <;> rfl

/-- Steps that are quiet after a command ran leave what it left. -/
theorem Ran.quiet {s s1 s2 : State} {n : Nat} {t : Strm} {k : Core} {v : StreamSt} (h : Ran s s1 n t k v) (q : Quiet s1 s2 n) :
    Ran s s2 n t k v :=
  ⟨⟨fun m hm => (q.others m hm).trans (h.others m hm), q.rest.trans h.rest, (q.strm t).trans h.own, (q.strm _).trans h.other⟩,
    only_iff_mask.2 ((only_iff_mask.1 q.only).trans (only_iff_mask.1 h.only))⟩

/-- Steps that are quiet before it change nothing of what a command leaves. -/
theorem Quiet.ran {s s1 s2 : State} {n : Nat} {t : Strm} {k : Core} {v : StreamSt} (q : Quiet s s1 n) (h : Ran s1 s2 n t k v) :
    Ran s s2 n t k v :=
  ⟨⟨fun m hm => (h.others m hm).trans (q.others m hm), h.rest, h.own, h.other.trans (q.strm _)⟩,
    only_iff_mask.2 ((only_iff_mask.1 h.only).trans (only_iff_mask.1 q.only))⟩

/-- The state as it stands, seen as a command's. -/
theorem Ran.start (s : State) (n : Nat) (t : Strm) : Ran s s n t (s.core n) ((s.core n).strm t) :=
  ⟨⟨fun _ _ => rfl, rfl, rfl, rfl⟩, only_iff_mask.2 rfl⟩

/-- A command's own change of its core, outside its streams. -/
theorem Ran.upd {s s1 : State} {n : Nat} {t : Strm} {k : Core} {v : StreamSt} (h : Ran s s1 n t k v) (g : Core → Core)
    (hs : ∀ c : Core, still (g c) = still (g (still c))) (hp : ∀ c : Core, (g c).sa = c.sa ∧ (g c).sx = c.sx) :
    Ran s (s1.updCore n g) n t (g k) v := by
  obtain ⟨⟨h2, h3, h4, h5⟩, h1⟩ := h
  have e : ∀ u, ((s1.updCore n g).core n).strm u = (s1.core n).strm u := by
    intro u; simp only [State.updCore, State.core_setCore_self]; cases u <;> simp [Core.strm, hp]
  refine ⟨⟨?_, ?_, ?_, ?_⟩, only_iff_mask.2 ((mask_cores s1 (by decide) _).trans (only_iff_mask.1 h1))⟩
  · intro m hm; simp [State.updCore, State.core_setCore, hm, h2 m hm]
  · simp only [State.updCore, State.core_setCore_self]; rw [hs, h3, ← hs]
  · rw [e]; exact h4
  · rw [e]; exact h5

/-- A command's change of its own stream. -/
theorem Ran.updStrm {s s1 : State} {n : Nat} {t : Strm} {k : Core} {v : StreamSt} (h : Ran s s1 n t k v)
    (g : StreamSt → StreamSt) (hg : ∀ x : StreamSt, seen (g x) = seen (g (seen x))) :
    Ran s (s1.updCore n (fun c => c.setStrm t (g (c.strm t)))) n t k (g v) := by
  obtain ⟨⟨h2, h3, h4, h5⟩, h1⟩ := h
  refine ⟨⟨?_, ?_, ?_, ?_⟩, only_iff_mask.2 ((mask_cores s1 (by decide) _).trans (only_iff_mask.1 h1))⟩
  · intro m hm; simp [State.updCore, State.core_setCore, hm, h2 m hm]
  · simpa [State.updCore] using h3
  · simp only [State.updCore, State.core_setCore_self, Core.strm_setStrm]; rw [hg, h4, ← hg]
  · simpa [State.updCore] using h5

theorem Ran.setWait {s s1 : State} {n : Nat} {t : Strm} {k : Core} {v : StreamSt} (h : Ran s s1 n t k v) (w : Wait) :
    Ran s (s1.setWait n t w) n t k { v with wait := w } :=
  h.updStrm (fun x => { x with wait := w }) (fun x => by
    cases x with | mk a b y c d e f g h => cases y <;> cases w <;> rfl)

theorem Ran.setFlags {s s1 : State} {n : Nat} {t : Strm} {k : Core} {v : StreamSt} (h : Ran s s1 n t k v) (f : Flags → Flags) :
    Ran s (s1.setFlags n t f) n t k { v with flags := f v.flags } :=
  h.updStrm (fun x => { x with flags := f x.flags }) (fun x => by
    cases x with | mk a b y c d e i g h => cases y <;> rfl)

/-- A command that waited completes. -/
theorem Ran.endWait {s s1 : State} {n : Nat} {t : Strm} {k : Core} {v : StreamSt} (h : Ran s s1 n t k v) :
    Ran s (s1.endWait n t) n t k { v with wait := .none } := (h.setWait .none).quiet (Quiet.wordDone ..)

/-- A register of the core reads as in what the command left of it. -/
theorem Ran.sreg {s s1 : State} {n : Nat} {t : Strm} {k : Core} {v : StreamSt} (h : Ran s s1 n t k v) (u : Strm) (r : Nat) :
    (s1.core n).sreg u r = k.sreg u r := by
  rw [show (s1.core n).sreg u r = (still (s1.core n)).sreg u r from rfl, h.rest]; rfl

end Sys2Proof.Safety

namespace Sys2Proof.Machine
open Sys2Proof.Safety

/-- A word that issues moves its stream past it, and changes nothing else of the core (04 R100, 05 R138). -/
theorem State.issued_ran (s : State) (n : Nat) (t : Strm) (d : Dec) (ext : Nat) :
    Ran s (s.issued n t d ext) n t (s.core n) (passed ((s.core n).strm t) d ext) := by
  unfold State.issued
  dsimp only
  have h := (Ran.updStrm (Ran.quiet (Ran.start s n t) (Quiet.trace s n t d (((s.core n).strm t).stallCycles s.cyc.cycles)))
    (fun v => { v with pc := d.addr + 16 * (1 + ext), wait := .none, resumed := false })
    (fun x => by cases x with | mk a b y c d e f g h => cases y <;> rfl)).quiet (Quiet.tallyAdd _ n 1 n 1)
  exact { h with own := h.own }

/-- What a control command that its stream offers does, up to its own effect `f`: the state in which it acts is `s` with its word issued
(05 R138). -/
theorem State.issue_control {s : State} {n : Nat} {t : Strm} {d : Dec} {ext : Nat} (h : Offers s n t d ext) {op : Nat} (hop : d.op = op)
    (ho : d.op < 0x20) (hk : (controlCheck d).ill = false) (hb : (controlCheck d).bnd = false) (f : State → Dec → State → State) :
    ∃ s1, Ran s s1 n t (s.core n) (passed ((s.core n).strm t) d ext) ∧ s1.time = s.time ∧
      s.issue n t op (fun s d ext => s.control n t d ext (f s d)) = (f (s.fetched n t) d s1).wordDone n t := by
  have q := Quiet.fetched s n t
  have r := q.ran ((s.fetched n t).issued_ran n t d ext)
  refine ⟨(s.fetched n t).issued n t d ext, ?_, ?_, ?_⟩
  · refine { r with rest := r.rest.trans q.rest, own := r.own.trans ?_ }
    unfold State.fetched
    obtain ⟨l, k, h⟩ := Core.fetch_snd (s.core n) t
    simp only [State.core_setCore_self, Core.strm_setStrm, h, passed]
    rfl
  · have := r.only.time; simpa using this
  · rw [State.issue_offers h hop]
    unfold State.control State.issueControl State.operandCheck
    rw [if_pos ho]
    simp [hk, hb]

theorem Core.still_setSreg (t : Strm) (r : Nat) (v : Word) (c : Core) : still (c.setSreg t r v) = still ((still c).setSreg t r v) := by
  unfold Core.setSreg still; split <;> rfl

end Sys2Proof.Machine
end

