-- ==== Sys2Proof/Laws/Mem.lean ====
section
/-! SUPPORT. Laws/Mem.lean: the byte memories: every operation keeps the canonical form, and a read after a write. -/

namespace Sys2Proof.Machine

theorem Mem.wfFrom_mono {m : Mem} {a b : Nat} (h : Mem.wfFrom b m = true) (hab : a ≤ b) : Mem.wfFrom a m = true := by
  cases m with
  | nil => rfl
  | cons c m =>
    simp only [Mem.wfFrom, Bool.and_eq_true, decide_eq_true_eq] at h ⊢
    exact ⟨⟨by omega, h.1.2⟩, h.2⟩

theorem Mem.wfFrom_set {m : Mem} {lo a : Nat} (v : Byte) (h : Mem.wfFrom lo m = true) (ha : lo ≤ a) :
    Mem.wfFrom lo (Mem.set m a v) = true := by
  induction m generalizing lo with
  | nil => by_cases hv : v = 0#8 <;> simp [Mem.set, Mem.wfFrom, hv, ha]
  | cons c m ih =>
    obtain ⟨j, w⟩ := c
    have h0 := h
    simp only [Mem.wfFrom, Bool.and_eq_true, decide_eq_true_eq, bne_iff_ne] at h
    obtain ⟨⟨hj, hw⟩, hm⟩ := h
    unfold Mem.set
    split
    · subst_vars
      split
      · exact Mem.wfFrom_mono hm (by omega)
      · simp_all [Mem.wfFrom]
    · split
      · split
        · exact h0
        · have : a + 1 ≤ j := by omega
          simp_all [Mem.wfFrom]
      · have := ih hm (by omega)
        simp_all [Mem.wfFrom]

/-- Writing a byte keeps the canonical form. -/
theorem Mem.wf_set {m : Mem} (a : Nat) (v : Byte) (h : Mem.wf m = true) : Mem.wf (Mem.set m a v) = true :=
  Mem.wfFrom_set v h (Nat.zero_le a)

/-- Writing bytes keeps the canonical form. -/
theorem Mem.wf_write {m : Mem} (a : Nat) (l : List Byte) (h : Mem.wf m = true) : Mem.wf (Mem.write m a l) = true := by
  induction l generalizing m a with
  | nil => exact h
  | cons b bs ih => exact ih (a + 1) (Mem.wf_set a b h)

theorem Mem.wfFrom_filter {m : Mem} {lo : Nat} (p : Host.Cell → Bool) (h : Mem.wfFrom lo m = true) :
    Mem.wfFrom lo (m.filter p) = true := by
  induction m generalizing lo with
  | nil => exact h
  | cons c m ih =>
    obtain ⟨j, w⟩ := c
    simp only [Mem.wfFrom, Bool.and_eq_true, decide_eq_true_eq] at h
    by_cases hp : p (j, w)
    · simp only [List.filter, hp, Mem.wfFrom, Bool.and_eq_true, decide_eq_true_eq]
      exact ⟨h.1, ih h.2⟩
    · simp only [List.filter, hp]
      exact ih (Mem.wfFrom_mono h.2 (by omega))

/-- Zeroing a range keeps the canonical form. -/
theorem Mem.wf_zero {m : Mem} (a n : Nat) (h : Mem.wf m = true) : Mem.wf (Mem.zero m a n) = true := Mem.wfFrom_filter _ h

theorem Mem.byte_below {m : Mem} {lo a : Nat} (h : Mem.wfFrom lo m = true) (ha : a < lo) : Mem.byte m a = 0 := by
  induction m generalizing lo with
  | nil => rfl
  | cons c m ih =>
    obtain ⟨j, w⟩ := c
    simp only [Mem.wfFrom, Bool.and_eq_true, decide_eq_true_eq] at h
    have : j ≠ a := by omega
    simp [Mem.byte, this, ih h.2 (by omega : a < j + 1)]

theorem Mem.byte_set_from {m : Mem} {lo : Nat} (a : Nat) (v : Byte) (b : Nat) (h : Mem.wfFrom lo m = true) :
    Mem.byte (Mem.set m a v) b = if b = a then v else Mem.byte m b := by
  induction m generalizing lo with
  | nil =>
    by_cases hv : v = 0#8
    · by_cases hb : b = a <;> simp [Mem.set, Mem.byte, hv]
    · by_cases hb : b = a
      · simp [Mem.set, Mem.byte, hv, hb]
      · simp [Mem.set, Mem.byte, hv, hb, Ne.symm hb]
  | cons c m ih =>
    obtain ⟨j, w⟩ := c
    simp only [Mem.wfFrom, Bool.and_eq_true, decide_eq_true_eq] at h
    have hm := h.2
    unfold Mem.set
    split
    · rename_i hja
      subst hja
      by_cases hv : v = 0#8
      · by_cases hb : b = j
        · subst hb; simp [hv, Mem.byte_below hm (Nat.lt_succ_self b)]
        · simp [hv, Mem.byte, hb, Ne.symm hb]
      · by_cases hb : b = j
        · simp [hv, Mem.byte, hb]
        · simp [hv, Mem.byte, hb, Ne.symm hb]
    · rename_i hja
      split
      · rename_i hlt
        have ha0 : Mem.byte ((j, w) :: m) a = 0 := by
          have := Mem.byte_below hm (show a < j + 1 by omega)
          simp [Mem.byte, hja, this]
        by_cases hv : v = 0#8
        · by_cases hb : b = a
          · subst hb; simp [hv, ha0]
          · simp [hv, hb]
        · by_cases hb : b = a
          · simp [hv, Mem.byte, hb]
          · simp [hv, Mem.byte, hb, Ne.symm hb]
      · by_cases hjb : j = b
        · subst hjb; simp [Mem.byte, hja]
        · simp [Mem.byte, hjb, ih hm]

/-- A byte read after a byte written. -/
theorem Mem.byte_set {m : Mem} (a : Nat) (v : Byte) (b : Nat) (h : Mem.wf m = true) :
    Mem.byte (Mem.set m a v) b = if b = a then v else Mem.byte m b := Mem.byte_set_from a v b h

/-- A byte read after a range written: the byte of the range, or what it was. -/
theorem Mem.byte_write {m : Mem} (a : Nat) (l : List Byte) (b : Nat) (h : Mem.wf m = true) :
    Mem.byte (Mem.write m a l) b = if a ≤ b ∧ b < a + l.length then l.getD (b - a) 0 else Mem.byte m b := by
  induction l generalizing m a with
  | nil =>
    have : ¬(a ≤ b ∧ b < a + ([] : List Byte).length) := by simp
    rw [if_neg this]; rfl
  | cons x xs ih =>
    simp only [Mem.write, ih (a + 1) (Mem.wf_set a x h), Mem.byte_set a x b h, List.length_cons]
    by_cases h1 : a + 1 ≤ b ∧ b < a + 1 + xs.length
    · have h2 : a ≤ b ∧ b < a + (xs.length + 1) := by omega
      have h3 : b - a = (b - (a + 1)) + 1 := by omega
      simp [h1, h2, h3]
    · by_cases hb : b = a
      · subst hb; simp
      · have h2 : ¬(a ≤ b ∧ b < a + (xs.length + 1)) := by omega
        rw [if_neg h1, if_neg h2, if_neg hb]

theorem Mem.byte_zero {m : Mem} (a n b : Nat) :
    Mem.byte (Mem.zero m a n) b = if a ≤ b ∧ b < a + n then 0 else Mem.byte m b := by
  induction m with
  | nil => simp [Mem.zero, Mem.byte]
  | cons c m ih =>
    obtain ⟨j, w⟩ := c
    unfold Mem.zero at ih ⊢
    by_cases hj : j < a || a + n ≤ j
    · simp only [List.filter, hj, Mem.byte]
      by_cases hb : j = b
      · subst hb
        have : ¬(a ≤ j ∧ j < a + n) := by simp at hj; omega
        simp [this]
      · simpa [hb] using ih
    · simp only [List.filter, hj, Mem.byte]
      by_cases hb : j = b
      · subst hb
        have : a ≤ j ∧ j < a + n := by simp at hj; omega
        rw [ih]; simp [this]
      · simpa [hb] using ih

end Sys2Proof.Machine
end

