-- ==== Sys2Proof/WellFormed.lean ====
section
/-! DEFINITION. WellFormed.lean: commands whose operands the spec's parts can present. A command that is not well-formed still has a
meaning in Machine/; nothing outside sends it. -/

namespace Sys2Proof

/-- A place in a bank (09 R239): sub-array, row with the sentinel rows, column with the spares. -/
def Upset.wf (x : Upset) : Bool :=
  match x with
  | .flip sub row column => decide (sub < 4) && decide (row < 514) && decide (column < 533)
  | .stuck sub row column val => decide (sub < 4) && decide (row.getD 0 < 514) && decide (column < 533) && decide (val < 3)

/-- An object index and subindex (03 R67). -/
def objIx (index sub : Nat) : Bool := decide (index < 65536) && decide (sub < 256)

/-- Corrected symbols of what has come over a link: at most 15 in a codeword of RS(544,514) (13 Table 13-1). -/
def fecWf (most : Nat) (fec : Option Nat) : Bool :=
  match fec with
  | none => true
  | some k => decide (k ≤ most)

/-- A command is well-formed. -/
def Instr.wf (i : Instr) : Bool :=
  match i with
  | .endCmd _ _ => true
  | .branch _ _ => true
  | .loop _ _ => true
  | .waitcnt _ _ => true
  | .setcnt _ _ => true
  | .waittime _ _ => true
  | .step _ _ => true
  | .fence _ _ => true
  | .mapinv _ _ => true
  | .brk _ _ => true
  | .region _ _ => true
  | .qconf _ _ => true
  | .qpush _ _ => true
  | .qpop _ _ => true
  | .fork _ _ => true
  | .join _ _ => true
  | .setr _ _ => true
  | .salu _ _ => true
  | .nop _ _ => true
  | .move _ _ => true
  | .gather _ _ => true
  | .scatter _ _ => true
  | .signal _ _ => true
  | .oprefetch _ _ => true
  | .oflush _ _ => true
  | .oinv _ _ => true
  | .snap _ _ => true
  | .route _ _ => true
  | .collect _ _ => true
  | .loadw _ _ => true
  | .matmul _ _ => true
  | .conv _ _ => true
  | .vecop _ _ => true
  | .reduce _ _ => true
  | .issueResume _ _ => true
  | .moverStart _ => true
  | .parterreStart _ _ => true
  | .trellisStart _ _ => true
  | .dicePortStart _ => true
  | .collectPortStart _ => true
  | .longCommandComplete _ _ => true
  | .coreDrainComplete _ => true
  | .tagAccessResume _ _ => true
  | .tagTimeout _ _ => true
  | .waitcntSatisfied _ _ => true
  | .waitcntTimeout _ _ => true
  | .qpopResume _ _ => true
  | .qpushResume _ _ => true
  | .joinMeet _ => true
  | .stepDrainComplete _ => true
  | .fenceComplete _ _ => true
  | .regionEffect _ _ => true
  | .qconfEffect _ _ => true
  | .endComplete _ _ => true
  | .mapinvComplete _ _ => true
  | .startRequest _ _ a b => decide (a < 2 ^ 23) && decide (b < 2 ^ 23)
  | .remoteWriteArrival _ _ => true
  | .pendingWriteRelease _ => true
  | .plotSentinelSweep _ _ _ upsets => upsets.all Upset.wf
  | .plotClassify _ _ => true
  | .plotRepairComplete _ => true
  | .plotScrubDone _ => true
  | .pageWalkComplete _ => true
  | .memoryReadResponse _ _ => true
  | .hostCompletion _ _ _ _ => true
  | .hostCompletionTimeout _ => true
  | .arbiterGrant _ => true
  | .pipSweepCheck _ _ => true
  | .diceLoad _ _ _ => true
  | .diceLoadCopyDone _ => true
  | .diceRoundClose _ => true
  | .diceReqReceived _ => true
  | .dicePhaseClose _ => true
  | .diceOutcomeReceived _ => true
  | .diceRowReceived _ => true
  | .diceInboxDeliver _ expert => decide (expert < 65536)
  | .diceRelease _ expert => decide (expert < 65536)
  | .diceResultReceived _ => true
  | .diceHoldExpiry _ expert => decide (expert < 65536)
  | .diceSourceExpiry _ => true
  | .bsAdmit _ _ _ => true
  | .bsRetire _ _ _ => true
  | .bsSlotStart => true
  | .batchDeadline _ => true
  | .bsBatchDeliver _ => true
  | .timeWordDue _ => true
  | .timeFlitReceived _ _ f => fecWf 15 f
  | .portTimeLiveExpiry _ => true
  | .sourceLoss => true
  | .sourceElection others => others.all (fun c => decide (c.chip < 0x7FFF) && decide (c.prio < 256))
  | .sundialFrameBoundary => true
  | .holdoverExpiry => true
  | .ptpSyncReceived m => decide (m.domain < 256)
  | .ptpSyncTimeout => true
  | .sundialReform _ _ => true
  | .ownEpochForm => true
  | .ppsOutRise => true
  | .ppsOutFall => true
  | .ppsInEdge => true
  | .sundialStatusRead _ => true
  | .flitSlot _ => true
  | .dataFlitReceived _ _ f => fecWf 15 f
  | .nakReceived _ _ f => fecWf 15 f
  | .idleFlitReceived _ _ f => fecWf 15 f
  | .holdFlitReceived _ _ f => fecWf 15 f
  | .initFlitReceived _ _ f => fecWf 15 f
  | .portTrainingDone _ => true
  | .portTrainingTimeout _ => true
  | .portTrainingRetry _ => true
  | .retrainHoldExpiry _ => true
  | .linkGroupTrainStart => true
  | .portReset _ _ _ => true
  | .portEnableWrite _ _ _ => true
  | .messageHeadArrival _ _ => true
  | .noticeReceived => true
  | .linkInjectTimeout => true
  | .routeCommit _ _ => true
  | .ethFrameTimer _ => true
  | .ethIdleTimer _ => true
  | .ethFrameReceived _ bytes _ f => decide (bytes.length ≤ 9216) && fecWf 225 f
  | .collectiveLaunch _ plan => decide (plan < 256)
  | .rotundaDataReceived _ => true
  | .rotundaCtrlReceived _ => true
  | .collectiveDeadline _ plan => decide (plan < 256)
  | .collectiveResultWritten _ plan => decide (plan < 256)
  | .rotPlanLoad _ _ _ => true
  | .rotPlanLoadDone _ => true
  | .rotPlanCommit _ => true
  | .stalemateArmReceived => true
  | .stalemateCancelReceived => true
  | .doorbell _ _ width => [1, 2, 4, 8].contains width
  | .dbRefusalRead _ => true
  | .intPendingClear _ _ => true
  | .intMaskWrite _ _ => true
  | .listDoneMapClear _ _ _ => true
  | .msixEnable _ _ => true
  | .bar0UnmappedAccess _ _ _ len _ => decide (1 ≤ len) && decide (len ≤ 8)
  | .bar2Access _ _ _ len data _ => decide (len ≤ 4096) && decide (data.length ≤ 4096)
  | .bar4Access _ _ _ len data _ => decide (len ≤ 4096) && decide (data.length ≤ 4096)
  | .pcieConfigRequest _ _ => true
  | .flr _ => true
  | .vfEnableClear => true
  | .perstNAssert => true
  | .perstNRise => true
  | .mbxRead _ _ _ => true
  | .mbxWrite _ _ _ _ => true
  | .lowHalfRead _ index sub => objIx index sub
  | .highHalfRead _ index sub => objIx index sub
  | .highHalfWrite _ index sub _ => objIx index sub
  | .lowHalfWrite _ index sub _ => objIx index sub
  | .i3cRead _ _ => true
  | .i3cWrite _ _ => true
  | .i3cPrivateRead _ => true
  | .entdaa _ => true
  | .setdasa _ _ => true
  | .rstdaa => true
  | .rstact => true
  | .enec => true
  | .disec => true
  | .getpid => true
  | .getbcr => true
  | .getdcr => true
  | .getstatus => true
  | .dtlsHandshake _ => true
  | .mopSessionTimeout _ => true
  | .mopRead _ _ => true
  | .mopWrite _ _ => true
  | .mopReadBlock _ _ => true
  | .mopWriteBlock _ _ => true
  | .mopSubscribe _ _ => true
  | .mopSubscribeCancel _ _ => true
  | .tallySubscriptionPush _ => true
  | .objectWrite _ index sub _ len v => objIx index sub && decide (v < 256 ^ len)
  | .satClear _ _ _ => true
  | .ptRootWrite _ _ _ => true
  | .mapBufferAging => true
  | .pavCreate _ _ _ => true
  | .pavDestroy _ _ _ => true
  | .pavDestroyComplete _ => true
  | .pavReset _ _ _ => true
  | .pavResetDrainComplete _ => true
  | .pavResetComplete _ => true
  | .pavCoreReset _ _ _ => true
  | .coreResetComplete _ => true
  | .pavCoresWrite _ _ off len v => decide (off + len ≤ 18) && decide (v < 256 ^ len)
  | .pavRangeWrite _ _ _ _ => true
  | .ctHistClear _ _ _ => true
  | .pwrSlotSplit d => d.comp.length = 16
  | .millpondSlot _ _ amps => amps.length = 16
  | .mpStatusRead _ => true
  | .millpondPowerStep => true
  | .frameEnergyAttribution _ _ _ => true
  | .vfPointWrite _ _ => true
  | .railSettled _ _ => true
  | .railTimeout _ _ => true
  | .vfAgingUpdate => true
  | .droopGuardUpdate peaks => peaks.length = 144
  | .calStart _ _ => true
  | .calForce _ _ => true
  | .calibrationWindowEnd offsets _ => decide (offsets < 2 ^ 512)
  | .thermalReading temps => temps.length = 64
  | .thermPointStep => true
  | .thermtrip _ temp => decide (115000 ≤ temp)
  | .fenceRequest _ _ => true
  | .fenceClear _ _ => true
  | .fenceTableStore => true
  | .checkmateRunStart => true
  | .cmLease _ _ _ => true
  | .checkmateRunEnd _ sigs => sigs.length = 9
  | .watchdogExpiry _ => true
  | .mgmtRestartComplete => true
  | .logFlush => true
  | .sensorTimeout cls ix => decide (ix < [64, 144, 16, 3].getD cls.val 0)
  | .alertAck _ _ => true
  | .refclkLoss _ => true
  | .pwrgoodRise => true
  | .coldReset _ _ => true
  | .machenilUp slots => slots.length = 2
  | .fusesLoaded => true
  | .hbmTrained => true
  | .grottoTrained => true
  | .memoryTrainingFail _ => true
  | .plotsScrubbed => true
  | .chipReady => true
  | .bootContinue _ _ => true
  | .bootRomRecheck images slots => decide (images.length = 2) && decide (slots.length = 2)
      && images.all (fun x => (x.map (fun l => decide (l.length ≤ 25165824))).getD true)
  | .warmReset _ _ => true
  | .warmResetComplete => true
  | .fwBegin _ _ => true
  | .fwEraseDone => true
  | .fwData _ _ bytes => decide (bytes.length ≤ 1024)
  | .fwVerify _ _ => true
  | .fwVerifyDone _ => true
  | .fwActivate _ _ => true
  | .fwHandoverEnd => true
  | .fwCommit _ _ => true
  | .fwRestart _ _ => true
  | .keyRevoke _ _ => true
  | .serviceAuth _ _ _ => true
  | .mgmtTransportWrite _ sub _ => decide (1 ≤ sub) && decide (sub ≤ 4)
  | .spdmRequest _ code index => decide (code < 256) && decide (index < 256)
  | .dbgHalt _ _ => true
  | .dbgResumeRun _ => true
  | .dbgResumeSingle _ => true
  | .haltDrainComplete _ => true
  | .stalemateHalt => true
  | .stalemateResume => true
  | .stalemateFlood _ _ => true
  | .snapshotTrigger _ => true
  | .bsStatusRead _ _ => true
  | .waittimeCompletion _ _ => true
  | .timeBreakpointMatch _ => true
  | .blockLockLoss _ => true

end Sys2Proof
end

