-- ==== Sys2Proof/Tests/Slice0.lean ====
section
/-! SUPPORT. Tests/Slice0.lean: ill-formed commands that WellFormed refuses, states that meet the hypotheses of each obligation, and single
steps whose results the spec gives. -/

namespace Sys2Proof.Tests
open Sys2Proof.Machine Sys2Proof.Safety
set_option Elab.async false

/-! ### Small states -/

/-- A powered chip past milestone 8, its core clock running. -/
def on : State := { boot := { pwrgood := true, phase := 8, ready := true }, power := { clockOn := true } }

/-- Word 0 of a command (05 Table 5-1): opcode, NEXT, MODE and the offsets of OPA, OPB and OPC, with registers s0. -/
def word (op next mode a b c : Nat) : Nat := op + next * 2 ^ 8 + mode * 2 ^ 16 + a * 2 ^ 99 + b * 2 ^ 70 + c * 2 ^ 41

/-- A Plot with a list at address 0. -/
def prog (ws : List Nat) : PlotSt := { bytes := Mem.write [] 0 (ws.flatMap (leBytes 16)) }

/-- A running core with its access stream. -/
def runs (k : Core) : Core := { k with ctl := { k.ctl with st := .run, stepState := 0 }, sa := { k.sa with present := true } }

/-- A chip whose core 0 is `k`. -/
def with0 (k : Core) : State := on.setCore 0 k

/-- A chip whose core 0 is `k`, running, with a list at address 0. -/
def runCore (ws : List Nat) (k : Core) : State := with0 (runs { k with plot := prog ws })

/-- The same core divided, its execute stream at address 0 and its access stream waiting at a JOIN. -/
def runExec (ws : List Nat) (w : Wait) : State :=
  with0 { ctl := { st := .run, split := true, stepState := 0 }, sa := { present := true, wait := w }, sx := { present := true }, plot := prog ws }

/-- A running core whose access stream waits. -/
def waits (w : Wait) (k : Core) : State := with0 { runs k with sa := { present := true, pc := 16, wait := w } }

/-- A chip of which Pavilion 0, ACTIVE, owns core 0. -/
def owned (s : State) : State := (s.setObj 0x3000 2 1).setPav 0 { st := .active }

/-- What the stream's fetch answers. -/
def decOf (s : State) (t : Strm) : Dec := match ((s.core 0).fetch t).1 with | .word d _ => d | _ => { op := 0, addr := 0, w := 0 }
def extOf (s : State) (t : Strm) : Nat := match ((s.core 0).fetch t).1 with | .word _ e => e | _ => 0

/-- Offers, evaluated for core 0. -/
def offersB (s : State) (t : Strm) : Bool :=
  s.power.clockOn && (s.core 0).canIssue t && (match ((s.core 0).fetch t).1 with | .word _ _ => true | _ => false) &&
  decide ((s.core 0).dbg.bps = []) && decide (decodeCheck (s.core 0).ctl.split t (decOf s t) = 0)

theorem offers_of {s : State} {t : Strm} (h : offersB s t = true) : Offers s 0 t (decOf s t) (extOf s t) := by
  simp only [offersB, Bool.and_eq_true, decide_eq_true_eq] at h
  obtain ⟨⟨⟨⟨h1, h2⟩, h3⟩, h4⟩, h5⟩ := h
  refine ⟨h1, h2, ?_, Or.inr ?_, h5⟩
  · unfold decOf extOf
    split at h3
    · rename_i d e hd; rw [hd]
    · cases h3
  · simp [Core.bpMask, h4, Sparse.find, Sparse.getD]

/-- Stream t of core 0 offers a command with property P. -/
def offersWith (s : State) (t : Strm) (P : Dec → Bool) : Prop := ∃ d ext, Offers s 0 t d ext ∧ P d = true

theorem offersWith_of {s : State} {t : Strm} {P : Dec → Bool} (h : (offersB s t && P (decOf s t)) = true) : offersWith s t P := by
  rw [Bool.and_eq_true] at h
  exact ⟨_, _, offers_of h.1, h.2⟩

/-! ### Ill-formed commands -/

theorem test_wf_startRequest : Instr.wf (.startRequest 0 false (2 ^ 23) 0) = false := by decide +kernel
theorem test_wf_sentinel : Instr.wf (.plotSentinelSweep 0 0 0 [.flip 4 0 0]) = false ∧
    Instr.wf (.plotSentinelSweep 0 0 0 [.stuck 0 (some 514) 0 0]) = false ∧ Instr.wf (.plotSentinelSweep 0 0 0 [.stuck 0 none 533 0]) = false := by
  decide +kernel
theorem test_wf_inbox : Instr.wf (.diceInboxDeliver 0 65536) = false ∧ Instr.wf (.diceRelease 0 65536) = false ∧
    Instr.wf (.diceHoldExpiry 0 65536) = false := by decide +kernel
theorem test_wf_election : Instr.wf (.sourceElection [{ chip := 0x7FFF, prio := 1 }]) = false := by decide +kernel
theorem test_wf_ethFrame : Instr.wf (.ethFrameReceived 0 (List.replicate 9217 0) true (some 0)) = false ∧ Instr.wf (.idleFlitReceived 0 0 (some 16)) = false := by decide +kernel
theorem test_wf_plans : Instr.wf (.collectiveLaunch 0 256) = false ∧ Instr.wf (.collectiveDeadline 0 256) = false ∧
    Instr.wf (.collectiveResultWritten 0 256) = false := by decide +kernel
theorem test_wf_doorbell : Instr.wf (.doorbell 0 0 3) = false := by decide +kernel
theorem test_wf_bars : Instr.wf (.bar0UnmappedAccess 0 false 0 9 0) = false ∧ Instr.wf (.bar2Access 0 false 0 4097 [] false) = false ∧
    Instr.wf (.bar4Access 0 false 0 4097 [] false) = false := by decide +kernel
theorem test_wf_objects : Instr.wf (.lowHalfRead .i3c 65536 0) = false ∧ Instr.wf (.highHalfRead .i3c 0 256) = false ∧
    Instr.wf (.highHalfWrite .i3c 65536 0 0) = false ∧ Instr.wf (.lowHalfWrite .i3c 0 256 0) = false ∧
    Instr.wf (.objectWrite .i3c 0x1101 1 0 1 256) = false := by decide +kernel
theorem test_wf_pavCores : Instr.wf (.pavCoresWrite .i3c 0 17 2 0) = false := by decide +kernel
theorem test_wf_lengths : Instr.wf (.millpondSlot 0 [] []) = false ∧ Instr.wf (.droopGuardUpdate []) = false ∧
    Instr.wf (.thermalReading []) = false ∧ Instr.wf (.machenilUp []) = false ∧ Instr.wf (.bootRomRecheck [] [default, default]) = false ∧
    Instr.wf (.fwData .i3c 0 (List.replicate 1025 0)) = false ∧ Instr.wf (.pwrSlotSplit {}) = false ∧
    Instr.wf (.bootRomRecheck [none, none] []) = false := by decide +kernel
theorem test_wf_numbers : Instr.wf (.calibrationWindowEnd (2 ^ 512) false) = false ∧ Instr.wf (.thermtrip 0 114999) = false ∧
    Instr.wf (.checkmateRunEnd 0 [0]) = false ∧ Instr.wf (.sensorTimeout 3 3) = false ∧
    Instr.wf (.mgmtTransportWrite .i3c 5 0) = false ∧ Instr.wf (.spdmRequest 0 256 0) = false := by decide +kernel

/-! ### Control commands: states that offer each command -/

/-- Steady, evaluated. -/
def steadyB (s : State) : Bool :=
  s.boot.pwrgood && !bit s.boot.clk 1 && decide (s.time.offset = none) && decide (s.time.rate = 0) && decide (s.time.trimFrac = 0)

theorem steady_of {s : State} (h : steadyB s = true) : Steady s := by
  simp only [steadyB, Bool.and_eq_true, decide_eq_true_eq, Bool.not_eq_true'] at h
  exact ⟨h.1.1.1.1, h.1.1.1.2, h.1.1.2, h.1.2, h.2⟩

theorem test_setr_offered : offersWith (runCore [word 0x11 1 31 0 0 0, 2 ^ 32 - 1] {}) .access (fun d => d.op == 0x11 && d.m 4 0 == 31) :=
  offersWith_of (by decide +kernel)
theorem test_salu_offered : offersWith (runCore [word 0x12 0 (10 + 5 * 16 + 31 * 512) 7 0 0] {}) .access (fun d => d.op == 0x12) :=
  offersWith_of (by decide +kernel)
theorem test_nop_offered : offersWith (runExec [word 0x13 0 0 0 0 0] .none) .exec (fun d => d.op == 0x13) := offersWith_of (by decide +kernel)
theorem test_branch_offered : offersWith (runCore [word 0x02 0 12 0x5FFFF0 0 0] {}) .access (fun d => d.op == 0x02 && d.a % 16 == 0 && inPlot d.a 16) ∧
    offersWith (runCore [word 0x02 0 0 8 0 0] {}) .access (fun d => d.op == 0x02 && d.a % 16 != 0) ∧
    offersWith (runCore [word 0x02 0 0 0x600000 0 0] {}) .access (fun d => d.op == 0x02 && d.a % 16 == 0 && !inPlot d.a 16) :=
  ⟨offersWith_of (by decide +kernel), offersWith_of (by decide +kernel), offersWith_of (by decide +kernel)⟩
theorem test_loop_offered : offersWith (runCore [word 0x03 0 1 0 0 0] {}) .access (fun d => d.op == 0x03 && d.a % 16 == 0) ∧
    offersWith (runCore [word 0x03 0 1 1 0 0] {}) .access (fun d => d.op == 0x03 && d.a % 16 != 0) :=
  ⟨offersWith_of (by decide +kernel), offersWith_of (by decide +kernel)⟩
theorem test_setcnt_offered : offersWith (runCore [word 0x05 0 (63 + 64) 5 0 0] {}) .access (fun d => d.op == 0x05) :=
  offersWith_of (by decide +kernel)
theorem test_waitcnt_offered : offersWith (runCore [word 0x04 0 (63 + 64 * 65535) 1 0 0] {}) .access (fun d => d.op == 0x04) :=
  offersWith_of (by decide +kernel)
theorem test_waitcnt_waits :
    let s := (waits (.cnt 5 1 0 0) { cnts := [(5, 1)] })
    (((s.core 0).strm .access).wait = .cnt 5 1 0 0 ∧ (s.core 0).live .access = true ∧ cntReached ((s.core 0).cnt 5) 1 = true) ∧
    let s := waits (.cnt 5 1 65535 65535) {}
    ((s.core 0).strm .access).wait = .cnt 5 1 65535 65535 ∧ (s.core 0).live .access = true ∧
      cntReached ((s.core 0).cnt 5) 1 = false := by decide +kernel
theorem test_waittime_offered : offersWith (runCore [word 0x06 1 2 0 0 0, 2 ^ 64 - 1] {}) .access (fun d => d.op == 0x06) :=
  offersWith_of (by decide +kernel)
theorem test_waittime_waits :
    let s := waits (.time 500) {}
    let h := with0 { runs {} with ctl := { st := .halted }, sa := { present := true, wait := .time 500 }, dbg := { haltAt := some (0, 500) } }
    s.power.clockOn = true ∧ (s.core 0).timeWait .access = some 500 ∧
      s.turn { at_ := 500, rank := 6, pav := (s.owner 0).getD 16, core := 0 } = true ∧ steadyB s = true ∧
      (h.core 0).timeWait .access = some 500 ∧ h.turn { at_ := 500, rank := 6, pav := (h.owner 0).getD 16, core := 0 } = true := by decide +kernel
theorem test_step_offered : offersWith (runCore [word 0x07 0 0 9 0 0] {}) .access (fun d => d.op == 0x07) ∧
    ((runCore [word 0x07 0 0 9 0 0] {}).core 0).ctl.split = false ∧ ((runCore [word 0x07 0 0 9 0 0] {}).core 0).flights = [] ∧
    offersWith (runCore [word 0x07 0 0 9 0 0] { mover := { queue := [default] } }) .access (fun d => d.op == 0x07) ∧
    ((runCore [word 0x07 0 0 9 0 0] { mover := { queue := [default] } }).core 0).flights ≠ [] :=
  ⟨offersWith_of (by decide +kernel), by decide +kernel, by decide +kernel, offersWith_of (by decide +kernel), by decide +kernel⟩
theorem test_step_waits : ((waits (.step 4) {}).core 0).stepDue = some 4 ∧ ((waits (.step 4) {}).core 0).live .access = true ∧
    ((waits (.step 4) {}).core 0).flights = [] := by decide +kernel
theorem test_fence_offered : offersWith (runCore [word 0x08 0 0 0 0 0] {}) .access (fun d => d.op == 0x08) := offersWith_of (by decide +kernel)
theorem test_fence_waits : (((waits .fence {}).core 0).strm .access).wait = .fence ∧ ((waits .fence {}).core 0).live .access = true ∧
    ((waits .fence {}).core 0).flightsOf .access = [] := by decide +kernel
theorem test_mapinv_offered : offersWith (runCore [word 0x09 1 5 0 0 0, 4096] {}) .access (fun d => d.op == 0x09) :=
  offersWith_of (by decide +kernel)
theorem test_mapinv_waits : (((waits (.mapinv true true 4096) {}).core 0).strm .access).wait = .mapinv true true 4096 ∧
    ((waits (.mapinv true true 4096) {}).core 0).live .access = true := by decide +kernel
theorem test_region_offered :
    offersWith (runCore [word 0x0B 0 0x3F 0x5FFF00 256 0] {}) .access (fun d => d.op == 0x0B && d.a % 256 == 0 && d.b != 0 && d.b % 256 == 0 &&
      inPlot d.a d.b) := offersWith_of (by decide +kernel)
theorem test_region_waits : (((waits (.region 7 true true true 0 256) {}).core 0).strm .access).wait = .region 7 true true true 0 256 ∧
    ((waits (.region 7 true true true 0 256) {}).core 0).live .access = true ∧
    ((waits (.region 7 true true true 0 256) {}).core 0).regionBusy 7 true 0 256 = false := by decide +kernel
theorem test_qconf_offered :
    offersWith (runCore [word 0x0C 0 (7 + 255 * 8) 256 0 0] {}) .access (fun d => d.op == 0x0C && d.a % 256 == 0 && inPlot d.a (16 * (d.m 10 3 + 1))) :=
  offersWith_of (by decide +kernel)
theorem test_qconf_waits : (((waits (.qconf 7 256 256) {}).core 0).strm .access).wait = .qconf 7 256 256 ∧
    ((waits (.qconf 7 256 256) {}).core 0).live .access = true ∧ ((waits (.qconf 7 256 256) {}).core 0).popBlocked 7 = false := by decide +kernel

/-- Queue 2: a ring of two entries at 512, one held. -/
def ring : DataQ := { base := 512, depth := 2, head := 1, count := 1 }

theorem test_qpush_offered :
    (let s := runCore [word 0x0D 0 2 1024 256 0] { qs := [(2, ring)] }
     offersWith s .access (fun d => d.op == 0x0D && inPlot d.a d.b && (!(s.core 0).pushBlocked .access ring d.a d.b)) ∧
     Sparse.find (s.core 0).qs 2 = some ring ∧ (s.core 0).tagged ((512 + 16 * ((1 + 1) % 2)) / 256) = false) ∧
    (let s := runCore [word 0x0D 0 2 1024 256 0] { qs := [(2, ring)], wins := [(0, { base := 512, size := 256, tagged := true })] }
     offersWith s .access (fun d => d.op == 0x0D && inPlot d.a d.b && (!(s.core 0).pushBlocked .access ring d.a d.b)) ∧
     (s.core 0).tagged ((512 + 16 * ((1 + 1) % 2)) / 256) = true) ∧
    (let s := runCore [word 0x0D 0 2 1024 256 0] { qs := [(2, { ring with count := 2 })] }
     offersWith s .access (fun d => d.op == 0x0D && inPlot d.a d.b && (s.core 0).pushBlocked .access { ring with count := 2 } d.a d.b)) ∧
    (let s := runCore [word 0x0D 0 2 1024 256 0] {}
     offersWith s .access (fun d => d.op == 0x0D && inPlot d.a d.b) ∧ Sparse.find (s.core 0).qs 2 = none) :=
  ⟨⟨offersWith_of (by decide +kernel), by decide +kernel, by decide +kernel⟩, ⟨offersWith_of (by decide +kernel), by decide +kernel⟩,
    offersWith_of (by decide +kernel), offersWith_of (by decide +kernel), by decide +kernel⟩
theorem test_qpush_waits :
    let s := waits (.qpush 2 1 2 1024 256 none) { qs := [(2, ring)] }
    ((s.core 0).strm .access).wait = .qpush 2 1 2 1024 256 none ∧ Sparse.find (s.core 0).qs 2 = some ring ∧ (s.core 0).live .access = true ∧
      (s.core 0).pushBlocked .access ring 1024 256 = false ∧ (s.core 0).tagged ((512 + 16 * ((1 + 1) % 2)) / 256) = false := by decide +kernel
theorem test_qpop_waits :
    let s := waits (.qpop 2 30 31) { qs := [(2, ring)] }
    ((s.core 0).strm .access).wait = .qpop 2 30 31 ∧ Sparse.find (s.core 0).qs 2 = some ring ∧ (s.core 0).live .access = true ∧ ring.count ≠ 0 ∧
      ∀ l ∈ linesOf (512 + 16 * 1) 8, (s.core 0).lineCond l = 0 := by decide +kernel
theorem test_fork_offered : offersWith (runCore [word 0x0F 0 0 64 0 0] {}) .access (fun d => d.op == 0x0F && d.a % 16 == 0) :=
  offersWith_of (by decide +kernel)
theorem test_join_offered :
    (offersWith (runExec [word 0x10 0 0 0 0 0] .fence) .exec (fun d => d.op == 0x10) ∧
      (((runExec [word 0x10 0 0 0 0 0] .fence).core 0).strm (other .exec)).wait ≠ .join) ∧
    offersWith (runExec [word 0x10 0 0 0 0 0] .join) .exec (fun d => d.op == 0x10) ∧
      (((runExec [word 0x10 0 0 0 0 0] .join).core 0).strm (other .exec)).wait = .join :=
  ⟨⟨offersWith_of (by decide +kernel), by decide +kernel⟩, offersWith_of (by decide +kernel), by decide +kernel⟩
theorem test_join_meets :
    let s := with0 { ctl := { st := .run, split := true }, sa := { present := true, wait := .join }, sx := { present := true, wait := .join } }
    (s.core 0).sa.wait = .join ∧ (s.core 0).sx.wait = .join ∧ (s.core 0).live .access = true := by decide +kernel
theorem test_qpop_offered :
    offersWith (runCore [word 0x0E 0 (2 + 30 * 8 + 31 * 256) 0 0 0] { qs := [(2, { ring with count := 0 })] }) .access (fun d => d.op == 0x0E) ∧
    offersWith (runCore [word 0x0E 0 (2 + 30 * 8 + 31 * 256) 0 0 0] { qs := [(2, ring)] }) .access (fun d => d.op == 0x0E) ∧
    (∀ l ∈ linesOf (512 + 16 * 1) 8, ((runCore [word 0x0E 0 (2 + 30 * 8 + 31 * 256) 0 0 0] { qs := [(2, ring)] }).core 0).lineCond l = 0) ∧
    offersWith (runCore [word 0x0E 0 2 0 0 0] {}) .access (fun d => d.op == 0x0E) ∧
    Sparse.find ((runCore [word 0x0E 0 2 0 0 0] {}).core 0).qs 2 = none :=
  ⟨offersWith_of (by decide +kernel), offersWith_of (by decide +kernel), by decide +kernel, offersWith_of (by decide +kernel), by decide +kernel⟩

/-! ### Lists: END, start requests, breakpoints, faults -/

theorem test_end_offered :
    (let s := runCore [word 0x01 0 7 16 32 0] { tre := { queue := [default] } }
     offersWith s .access (fun d => d.op == 0x01 && d.m 1 0 == 3 && d.a % 16 == 0 && inPlot d.a 16 && d.b % 16 == 0 &&
       inPlot d.b 16) ∧ (s.core 0).flightsOf .access ≠ []) ∧
    (let s := owned (runCore [word 0x01 0 7 16 32 0] {})
     offersWith s .access (fun d => d.op == 0x01 && d.m 1 0 == 3 && d.a % 16 == 0 && inPlot d.a 16 && d.b % 16 == 0 &&
       inPlot d.b 16 && d.m 2 2 == 1) ∧
     (s.core 0).flightsOf .access = [] ∧ (s.core 0).ctl.split = false ∧ (s.core 0).fence.st = 0 ∧ (s.core 0).pint.fenced = 0 ∧
     (s.core 0).sx.wait = .none ∧ s.owner 0 = some 0) ∧
    offersWith (runCore [word 0x01 0 0 16 32 0] {}) .access (fun d => d.op == 0x01 && d.m 2 0 == 0) :=
  ⟨⟨offersWith_of (by decide +kernel), by decide +kernel⟩, ⟨offersWith_of (by decide +kernel), by decide +kernel⟩, offersWith_of (by decide +kernel)⟩
theorem test_end_waits :
    (let s := with0 { ctl := { st := .run, split := true }, sa := { present := true, wait := .endw false false true 0 0 }, sx := { present := true } }
     ((s.core 0).strm .access).wait = .endw false false true 0 0 ∧ (s.core 0).live .access = true ∧ (s.core 0).flightsOf .access = [] ∧
       (s.core 0).ctl.split = true ∧ ((s.core 0).strm (other .access)).wait = .none) ∧
    (let s := owned (waits (.endw true true true 16 32) {})
     ((s.core 0).strm .access).wait = .endw true true true 16 32 ∧ (s.core 0).live .access = true ∧ (s.core 0).flightsOf .access = [] ∧
       (s.core 0).ctl.split = false ∧ ((s.core 0).strm (other .access)).wait = .none ∧ (s.core 0).fence.st = 0 ∧
       (s.core 0).pint.fenced = 0 ∧ s.owner 0 = some 0) := by decide +kernel
theorem test_start_accepted (h : coreShipped 0 = false) :
    let s := owned (with0 {})
    s.owner 0 = some 0 ∧ 0x5FFFF0 % 16 = 0 ∧ 0x5FFFF0 < plotSize ∧ (s.pav 0).st = .active ∧ (s.core 0).fence.st ≠ 2 ∧
      (s.core 0).fence.coreReset = false ∧ (s.core 0).ctl.drain ≠ .reset ∧ (s.core 0).ctl.drain ≠ .fault ∧ coreShipped 0 = false ∧ (s.core 0).ctl.st = .idle :=
  ⟨by decide +kernel, by decide, by decide, by decide +kernel, by decide +kernel, by decide +kernel, by decide +kernel, by decide +kernel, h,
    by decide +kernel⟩
theorem test_start_refused : (owned (with0 {})).owner 0 = some 0 ∧ (owned (with0 {})).startReason 0 0 false false 8 0 = 1 ∧
    (owned (with0 {})).startReason 0 0 false true 0 0x600000 = 1 ∧
    ((owned (with0 {})).setPav 0 {}).startReason 0 0 false false 16 0 = 2 := by decide +kernel
theorem test_start_busy (h : coreShipped 0 = false) :
    let s := owned (with0 (runs {}))
    s.owner 0 = some 0 ∧ (s.pav 0).st = .active ∧ (s.core 0).fence.st = 0 ∧ (s.core 0).fence.coreReset = false ∧ coreShipped 0 = false ∧
      (s.core 0).ctl.drain ≠ .reset ∧ (s.core 0).ctl.st = .run :=
  ⟨by decide +kernel, by decide +kernel, by decide +kernel, by decide +kernel, h, by decide +kernel, by decide +kernel⟩
theorem test_brk_offered :
    offersWith (runCore [word 0x0A 1 0 0 0 0, 0] {}) .access (fun d => d.op == 0x0A && d.m 4 3 == 0) ∧
    offersWith (runCore [word 0x0A 1 (7 + 8 + 3 * 32 + 63 * 128) 0 0 0, 1] {}) .access (fun d => d.op == 0x0A && d.m 4 3 == 1 && d.m 6 5 == 3 &&
      !cntReached 0 (BitVec.ofNat 32 d.x1)) ∧
    offersWith (runCore [word 0x0A 1 (7 + 8 + 3 * 32 + 63 * 128) 0 0 0, 0] {}) .access (fun d => d.op == 0x0A && d.m 4 3 == 1 && d.m 6 5 == 3 &&
      cntReached 0 (BitVec.ofNat 32 d.x1)) ∧
    offersWith (runCore [word 0x0A 1 (7 + 16) 0 0 0, 0] {}) .access (fun d => d.op == 0x0A && d.m 4 3 == 2) ∧
    ((runCore [word 0x0A 1 0 0 0 0, 0] {}).core 0).fence.run = .none ∧ ((runCore [word 0x0A 1 0 0 0 0, 0] {}).core 0).dbg.single = false :=
  ⟨offersWith_of (by decide +kernel), offersWith_of (by decide +kernel), offersWith_of (by decide +kernel), offersWith_of (by decide +kernel),
    by decide +kernel, by decide +kernel⟩
theorem test_breakpoint_due :
    let b : Bp := { armed := true, kind := 2, mtch := 5 }
    let s := { with0 (runs { dbg := { bps := [(7, b)] } }) with time := { now := 5 } }
    let z := with0 (runs { dbg := { bps := [(7, b)] } })
    Sparse.find (s.core 0).dbg.bps 7 = some b ∧ b.mtch.toNat ≤ s.time.now ∧ b.armed = true ∧ b.kind = 2 ∧
      s.turn { at_ := b.mtch.toNat, rank := 1, pav := (s.owner 0).getD 16, core := 0 } = true ∧
      Sparse.find (z.core 0).dbg.bps 7 = some b ∧ z.time.now < b.mtch.toNat ∧ steadyB z = true ∧
      z.turn { at_ := b.mtch.toNat, rank := 1, pav := (z.owner 0).getD 16, core := 0 } = true ∧
      (∀ j, j < 8 → j ≠ 7 → (Sparse.getD (s.core 0).dbg.bps j {}).armed = false) ∧
      (s.core 0).ctl.st = .run ∧ (s.core 0).ctl.drain = .none ∧ (s.core 0).fence.run = .none := by decide +kernel
theorem test_halt_drained :
    let s := owned (with0 { ctl := { st := .run, drain := .halt }, sa := { present := true } })
    (s.core 0).ctl.drain = .halt ∧ (s.core 0).flights = [] ∧ s.owner 0 = some 0 := by decide +kernel
theorem test_faulted_drained :
    (let s := owned (with0 { ctl := { st := .run, drain := .fault }, mover := { queue := [default] }, pint := { stepFailed := true } })
     (s.core 0).ctl.drain = .fault ∧ (s.core 0).drained = true ∧ (s.core 0).pint.fenced = 0 ∧ (s.core 0).fence.st = 0 ∧
       (s.core 0).pint.suspects = [] ∧ s.owner 0 = some 0) ∧
    (let s := with0 { ctl := { st := .run, drain := .fault }, pint := { suspects := [default] } }
     (s.core 0).ctl.drain = .fault ∧ (s.core 0).drained = true ∧ (s.core 0).pint.fenced = 0 ∧ (s.core 0).fence.st = 0 ∧
       (s.core 0).pint.suspects ≠ []) := by decide +kernel
theorem test_fault_taken : ((owned (with0 (runs {}))).core 0).ctl.drain ≠ .fault ∧ ((owned (with0 (runs {}))).core 0).ctl.drain ≠ .reset ∧
    ((owned (with0 (runs {}))).core 0).ctl.stepState = 0 ∧ (owned (with0 (runs {}))).owner 0 = some 0 := by decide +kernel

/-! ### Long commands -/

/-- A descriptor of four FP32 elements at address 0 (05 Table 5-8). -/
def desc4 : Nat := 2 ^ 52 + 4 * 2 ^ 144

/-- Passes, evaluated for core 0, of the command its stream offers. -/
def passesB (s : State) (d x : Dec) (e : Eng) : Bool :=
  decide ((shapeOf d.op).bind (·.eng) = some e) &&
  (descAddrs d).all (fun a => a % 64 == 0 && inPlot a 64 && (s.core 0).lineCond (a / 64) == 0 && !(s.core 0).descBlocked a &&
    !descIllegal (leNat (rawBytes ((s.core 0).plotBytes a 64)))) &&
  decide (x = { d with d1 := descCopy s 0 d 0, d2 := descCopy s 0 d 1 }) && !(s.operandCheck 0 x).ill && !(s.operandCheck 0 x).bnd

theorem passes_of {s : State} {d x : Dec} {e : Eng} (h : passesB s d x e = true) : Passes s 0 d x e := by
  simp only [passesB, Bool.and_eq_true, decide_eq_true_eq, Bool.not_eq_true', List.all_eq_true, beq_iff_eq] at h
  obtain ⟨⟨⟨⟨h1, h2⟩, h3⟩, h4⟩, h5⟩ := h
  exact ⟨h1, fun a ha => by obtain ⟨⟨⟨⟨g1, g2⟩, g3⟩, g4⟩, g5⟩ := h2 a ha; exact ⟨g1, g2, g3, g4, g5⟩, h3, ⟨h4, h5⟩⟩

/-- Accepts, in the same way. -/
def acceptsB (s : State) (d x : Dec) (e : Eng) : Bool :=
  passesB s d x e && (!(s.core 0).tagBad (s.operandCheck 0 x) && !(s.core 0).mustStall e (s.operandCheck 0 x).rngs)

theorem accepts_of {s : State} {d x : Dec} {e : Eng} (h : acceptsB s d x e = true) : Accepts s 0 d x e := by
  simp only [acceptsB, Bool.and_eq_true, Bool.not_eq_true'] at h
  exact ⟨passes_of h.1, h.2.1, h.2.2⟩

/-- The command that stream access of core 0 offers, with the copies of its descriptors. -/
def copied (s : State) : Dec :=
  { decOf s .access with d1 := descCopy (s.fetched 0 .access) 0 (decOf s .access) 0, d2 := descCopy (s.fetched 0 .access) 0 (decOf s .access) 1 }

/-- A core whose list holds `ws` at 0 and the descriptor at 1024. -/
def longCore (ws : List Nat) (k : Core) : State :=
  with0 (runs { k with plot := { bytes := Mem.write (prog ws).bytes 1024 (leBytes 64 desc4) } })

/-- Stream access of core 0 offers an `op` that its engine takes. -/
def takesLong (s : State) (op : Nat) : Prop := ∃ d x ext e, Offers s 0 .access d ext ∧ d.op = op ∧ Accepts (s.fetched 0 .access) 0 d x e

theorem takesLong_of {s : State} {op : Nat} {e : Eng} (h : (offersB s .access && (decOf s .access).op == op &&
    acceptsB (s.fetched 0 .access) (decOf s .access)
      { decOf s .access with d1 := descCopy (s.fetched 0 .access) 0 (decOf s .access) 0, d2 := descCopy (s.fetched 0 .access) 0 (decOf s .access) 1 }
      e) = true) : takesLong s op := by
  simp only [Bool.and_eq_true, beq_iff_eq] at h
  exact ⟨_, _, _, e, offers_of h.1.1, h.1.2, accepts_of h.2⟩

theorem test_move_taken : takesLong (longCore [word 0x20 1 0 1024 256 0, 0xFF] {}) 0x20 := takesLong_of (e := .mover) (by decide +kernel)
theorem test_gather_taken : takesLong (longCore [word 0x21 1 0 1024 512 2048, 0xFF + 2 * 2 ^ 16] {}) 0x21 :=
  takesLong_of (e := .mover) (by decide +kernel)
theorem test_scatter_taken : takesLong (longCore [word 0x22 1 0 1024 512 2048, 0xFF + 2 * 2 ^ 16] {}) 0x22 :=
  takesLong_of (e := .mover) (by decide +kernel)
theorem test_signal_taken : takesLong (longCore [word 0x23 0 0xFF 65535 0 0 + 2 ^ 40] {}) 0x23 := takesLong_of (e := .mover) (by decide +kernel)
theorem test_orangery_taken : takesLong (longCore [word 0x24 0 0 1024 0 0] {}) 0x24 ∧ takesLong (longCore [word 0x25 0 2 1024 0 0] {}) 0x25 ∧
    takesLong (longCore [word 0x26 0 1 1024 0 0] {}) 0x26 :=
  ⟨takesLong_of (e := .mover) (by decide +kernel), takesLong_of (e := .mover) (by decide +kernel), takesLong_of (e := .mover) (by decide +kernel)⟩
theorem test_snap_taken : takesLong (longCore [word 0x27 1 0 2048 1024 0, 5] {}) 0x27 := takesLong_of (e := .mover) (by decide +kernel)
theorem test_route_taken : takesLong (longCore [word 0x30 1 0 4096 8192 65536, 1 + 256 * 2 ^ 16] {}) 0x30 :=
  takesLong_of (e := .dice) (by decide +kernel)
theorem test_collect_taken : takesLong (longCore [word 0x38 1 255 4096 8192 65536, 256 * 2 ^ 64] {}) 0x38 :=
  takesLong_of (e := .rot) (by decide +kernel)
theorem test_loadw_taken : takesLong (longCore [word 0x40 0 16 4096 0 0] {}) 0x40 := takesLong_of (e := .parterre) (by decide +kernel)
theorem test_matmul_taken : takesLong (longCore [word 0x41 1 (16 + 2 ^ 10) 4096 0 0, 1] {}) 0x41 :=
  takesLong_of (e := .parterre) (by decide +kernel)
theorem test_conv_taken : takesLong (longCore [word 0x42 2 (16 + 2 ^ 10) 4096 8192 0,
    2 + 2 * 2 ^ 16 + 2 ^ 48 + 2 ^ 52, 8 + 2 ^ 48] {}) 0x42 := takesLong_of (e := .parterre) (by decide +kernel)
theorem test_vecop_taken : takesLong (longCore [word 0x50 1 (64 + 2 ^ 10 + 2 ^ 14) 4096 8192 16384, 4] {}) 0x50 :=
  takesLong_of (e := .trellis) (by decide +kernel)
theorem test_reduce_taken : takesLong (longCore [word 0x51 1 (32 + 64 + 2 ^ 10) 4096 0 16384, 4 + 2 ^ 32] {}) 0x51 :=
  takesLong_of (e := .trellis) (by decide +kernel)
/-- Full queue: an offered SIGNAL passes and must stall. A VECOP that reads what a MOVE in flight writes must stall too. -/
theorem test_long_stalls :
    (let s := longCore [word 0x23 0 0xFF 1 0 0 + 2 ^ 40] { mover := { queue := List.replicate 16 default } }
     (offersB s .access && passesB (s.fetched 0 .access) (decOf s .access) (copied s) .mover &&
       !((s.fetched 0 .access).core 0).tagBad ((s.fetched 0 .access).operandCheck 0 (copied s)) &&
       ((s.fetched 0 .access).core 0).mustStall .mover ((s.fetched 0 .access).operandCheck 0 (copied s)).rngs) = true) ∧
    (let s := longCore [word 0x50 1 (64 + 2 ^ 10 + 2 ^ 14) 4096 8192 16384, 4] { mover := { run := [{ cmd := { (default : LongCmd) with
                op := 0x20, rngs := [pw 8200 4] } }] } }
     (offersB s .access && passesB (s.fetched 0 .access) (decOf s .access) (copied s) .trellis &&
       !((s.fetched 0 .access).core 0).tagBad ((s.fetched 0 .access).operandCheck 0 (copied s)) &&
       ((s.fetched 0 .access).core 0).mustStall .trellis ((s.fetched 0 .access).operandCheck 0 (copied s)).rngs) = true) := by decide +kernel
/-- A COLLECT whose 16-byte record lies in a TAGGED window (22 R594). -/
theorem test_collect_tagAlign :
    let s := longCore [word 0x38 1 255 4096 8192 65536, 256 * 2 ^ 64] { wins := [(0, { base := 65536, size := 256, tagged := true })] }
    (offersB s .access && passesB (s.fetched 0 .access) (decOf s .access) (copied s) .rot &&
      ((s.fetched 0 .access).core 0).tagBad ((s.fetched 0 .access).operandCheck 0 (copied s))) = true := by decide +kernel
/-- The 16 records of a ROUTE of 16 tokens fill a slot of a TAGGED window whole; those of one token do not (22 R594). -/
theorem test_route_tagAlign :
    ({ wins := [(0, { base := 65536, size := 8192, tagged := true })] } : Core).tagMisaligned 65536 (16 * 272) 0 = false ∧
    ({ wins := [(0, { base := 65536, size := 8192, tagged := true })] } : Core).tagMisaligned 65536 272 0 = true := by decide +kernel
theorem test_long_resumes :
    let s := with0 { runs { plot := prog [word 0x23 0 0xFF 1 0 0 + 2 ^ 40] } with sa := { present := true, wait := .stall 3 } }
    (s.core 0).live .access = true ∧ ((s.core 0).strm .access).wait = .stall 3 ∧ ((s.core 0).fetch .access).1 = .word (decOf s .access) 0 ∧
      0x20 ≤ (decOf s .access).op ∧ decodeCheck (s.core 0).ctl.split .access (decOf s .access) = 0 ∧
      (s.core 0).bpMask (fun _ b => b.kind = 0 && b.mtch.toNat = ((s.core 0).strm .access).pc) = 0 ∧
      acceptsB (s.fetched 0 .access) (decOf s .access) (decOf s .access) .mover = true := by decide +kernel

/-! ### Engines -/

/-- A SIGNAL of amount 7 to counter 5 of a core, as a long command. -/
def signal (dst : Nat) : LongCmd :=
  { id := 1, op := 0x23, strm := .access, addr := 0, w0 := BitVec.ofNat 128 (0x23 + 5 * 2 ^ 10 + dst * 2 ^ 16 + 2 ^ 40), x1 := 0, x2 := 0,
    a := 7, b := 0, c := 0, desc1 := 0, desc2 := 0, rngs := [] }

/-- A long command of an opcode with MODE. -/
def longCmd (op mode : Nat) : LongCmd :=
  { id := 1, op := op, strm := .access, addr := 0, w0 := BitVec.ofNat 128 (op + mode * 2 ^ 16), x1 := 0, x2 := 0,
    a := 0, b := 0, c := 0, desc1 := 0, desc2 := 0, rngs := [] }

theorem test_mover_starts :
    (∀ d ∈ [0xFF, 1], let k := runs { mover := { queue := [signal d] } }
      ((with0 k).core 0).engineGo = true ∧ ((with0 k).core 0).mover = { queue := signal d :: [], run := [] } ∧
      (signal d).op = 0x23) ∧
    dstCore 0 ((signal 0xFF).m 7 0) = 0 ∧ dstCore 0 ((signal 1).m 7 0) ≠ 0 := by decide +kernel
theorem test_trellis_starts :
    let k := runs { tre := { queue := [longCmd 0x50 (64 + 2 ^ 10 + 2 ^ 14)] } }
    ((with0 k).core 0).engineGo = true ∧ ((with0 k).core 0).tre = { queue := longCmd 0x50 (64 + 2 ^ 10 + 2 ^ 14) :: [], run := [] } := by decide +kernel
theorem test_parterre_starts :
    let k := runs { par := { eng := { queue := [longCmd 0x40 16] } } }
    ((with0 k).core 0).engineGo = true ∧ ((with0 k).core 0).par.eng.queue = longCmd 0x40 16 :: [] ∧
      ((with0 k).core 0).pathsFree (longCmd 0x40 16) (((with0 k).core 0).streamFree (longCmd 0x40 16) 0) = true ∧
      (longCmd 0x40 16).beds = ((with0 k).core 0).par.bedCount ∧
      { ((with0 k).core 0) with par := { ((with0 k).core 0).par with eng := { ((with0 k).core 0).par.eng with queue := [] } } }.parIllegal
        (longCmd 0x40 16) = false := by decide +kernel

/-- A LOADW that waits for a tag. -/
def heldLoad : Running := { cmd := longCmd 0x40 16, held := true, tagSince := some 3 }

/-- A TAGGED window over slot 0. -/
def win0 : Sparse Window := [(0, { base := 0, size := 256, tagged := true })]

theorem test_tag_resumes :
    (let s := with0 (runs { par := { eng := { run := [heldLoad] } } })
     (s.core 0).par.eng.run = [heldLoad] ∧ heldLoad.held = true ∧ heldLoad.cmd.op = 0x40 ∧
       ((s.core 0).eng .parterre).run.find? (fun r => r.held || r.tagSince.isSome || r.wtagSince.isSome) = some heldLoad ∧
       (∀ x ∈ parRanges heldLoad.cmd, (s.core 0).readBlocked x.1 x.2 = false ∧ ∀ l ∈ linesOf x.1 x.2, (s.core 0).lineCond l = 0)) ∧
    (let s := with0 (runs { par := { eng := { run := [heldLoad] } }, wins := win0 })
     (s.core 0).par.eng.run = [heldLoad] ∧ (parRanges heldLoad.cmd).any (fun x => (s.core 0).readBlocked x.1 x.2) = true) := by decide +kernel
theorem test_tag_timesOut :
    let z := with0 (runs { par := { eng := { run := [heldLoad] } }, wins := win0 })
    let s := { z with cyc := { cycles := 2 ^ 40 } }
    (∀ w ∈ [z, s], ((w.core 0).eng .parterre).run.findSome?
        (fun r => (r.tagSince.orElse (fun _ => r.wtagSince)).map (fun t => (t, r.cmd))) = some (3, heldLoad.cmd) ∧
      (w.core 0).ctl.drain ≠ .fault ∧ (w.core 0).ctl.drain ≠ .reset ∧ w.power.clockOn = true ∧ w.boot.pwrgood = true) ∧
    3 + s.obj (0x2000 + 0) 8 < s.cyc.cycles := by decide +kernel
/-- A packet of core 0's SIGNAL 4 that core 1 holds for a FULL slot. -/
theorem test_packet_timesOut :
    let p : Packet := { id := 3, src := 0, dst := 1, pav := 0, addr := 256, data := List.replicate 256 (5, false), aow := 0, cnt := some 7,
                        amount := 0, signal := false, cmd := 1 }
    let s := (with0 (runs { mover := { run := [{ cmd := signal 1 }] } })).setCore 1
      { wins := [(0, { base := 256, size := 256, tagged := true })], plot := { tags := [(1, true)] }, pbuf := [{ pkt := p, since := 0 }] }
    (∀ r ∈ (s.core 0).mover.run, r.tagSince = none ∧ r.wtagSince = none) ∧ (s.core 0).tagStallOf .mover = none ∧
      s.heldOf 0 = some (1, { pkt := p, since := 0 }) ∧ s.power.clockOn = true ∧ s.boot.pwrgood = true ∧ p.cmd ≠ 0 ∧
      (s.core p.src).flights.find? (fun l => l.id = p.cmd) = some (signal 1) ∧ (s.core p.src).ctl.drain = .none := by decide +kernel
theorem test_long_completes :
    let r : Running := { cmd := longCmd 0x40 16, closing := true }
    r.refused = false ∧ r.defer < 0x400000 ∧ r.finished = true ∧ r.snap = false ∧ r.held = false ∧ r.closing = true ∧ r.cmd.op = 0x40 ∧
      ({ r with snap := true } : Running).finished = true ∧ ({ r with snap := true, closing := false } : Running).finished = true ∧
      (owned on).owner 0 = some 0 ∧
      (with0 { mover := { run := [r] }, tre := { run := [r] }, par := { eng := { run := [r] } }, dice := { run := [r] }, rot := { run := [r] } }).core 0 =
        { mover := { run := [r] }, tre := { run := [r] }, par := { eng := { run := [r] } }, dice := { run := [r] }, rot := { run := [r] } } := by
  decide +kernel
/-- Of a MATMUL begun in cycle 4000 and a LOADW begun in cycle 0, the LOADW completes first; INT8 words count what they clamp. -/
theorem test_parNext :
    let r : Running := { cmd := { longCmd 0x41 (176 + 2 ^ 10) with x1 := 1 }, begunAt := some 4000 }
    let l : Running := { cmd := longCmd 0x40 16, begunAt := some 0 }
    ({ par := { eng := { run := [r, l] } } } : Core).parNext = some l ∧ l.cmd.op = 0x40 ∧
      ({ par := { eng := { run := [r] } } } : Core).parNext = some r ∧ r.cmd.op ≠ 0x40 ∧ fmtInt r.cmd.fmtA = true := by decide +kernel
/-- A MOVE stalled since cycle 3 because the slot of its descriptor is EMPTY. -/
theorem test_tag_word_timeout :
    let k := runs { plot := { bytes := Mem.write (prog [word 0x20 1 0 1024 256 0, 0xFF]).bytes 1024 (leBytes 64 desc4) },
                    wins := [(0, { base := 1024, size := 256, tagged := true })] }
    let s := { with0 { k with sa := { present := true, wait := .stall 3, why := .tag 3 } } with cyc := { cycles := 2 ^ 40 } }
    ((s.core 0).eng .mover).run = [] ∧ (s.core 0).tagStallOf .mover = some (.access, 3, 0) ∧ 3 + s.obj (0x2000 + 0) 8 < s.cyc.cycles ∧
      (s.core 0).ctl.drain = .none ∧ s.power.clockOn = true ∧ s.boot.pwrgood = true ∧ (s.core 0).descBlocked 1024 = true := by decide +kernel

/-! ### Memory, arbiters, the Hedgerow and the Plot -/

/-- Pavilion 0 with the first 2 MiB of HBM4, whose root at 0 maps the first 1 GiB there, writable (10 Table 10-3). -/
def mapped (s : State) : State :=
  { (((owned s).setObj 0x3001 1 0).setObj 0x3001 9 (2 ^ 21)).setObj 0x2210 1 0 with mem := [(7, 0xE0)], mmeta := { pip := [(0, 0)] } }

theorem walk_leaf {x : WalkR × State} (h : (match x.1 with | .leaf _ => true | .fail _ => false) = true) : ∃ e t, x = (.leaf e, t) := by
  obtain ⟨r, t⟩ := x
  cases r with
  | leaf e => exact ⟨e, t, rfl⟩
  | fail c => cases h

theorem walk_fail {x : WalkR × State} (h : (match x.1 with | .leaf _ => false | .fail _ => true) = true) : ∃ c t, x = (.fail c, t) := by
  obtain ⟨r, t⟩ := x
  cases r with
  | leaf e => cases h
  | fail c => exact ⟨c, t, rfl⟩

/-- A request of core 0 at resource 0 of level 1. -/
def req0 : Req :=
  { id := 9, core := 0, cmd := 1, pav := 0, res := 0, level := 1, write := false, va := 0, pa := 64, len := 1, data := [], org := false,
    frame := 0, pkt := none }

/-- A packet of core 1 to core 0. -/
def packet : Packet :=
  { id := 3, src := 1, dst := 0, pav := 0, addr := 256, data := List.replicate 256 (5, false), aow := 0, cnt := some 7, amount := 0,
    signal := false, cmd := 0 }

def waiting (q : Req) : State := { on with arb := { waiting := [{ req0 with res := q.res, core := 1, level := 2, id := 8 }, q] } }

theorem test_mem_uncached : ∀ l ∈ on.org.far, l.holds 0 4 = false := by decide +kernel
theorem test_arbiter_grants :
    (∀ q ∈ [req0, { req0 with write := true, data := [(5, false)] }, { req0 with res := 3, pkt := some packet },
        { req0 with res := 5, write := true, pa := hostBase, data := [(5, false)] }, { req0 with res := 5, pa := hostBase }],
      (waiting q).granted q.res = some q ∧ (waiting q).hostTags 0 < 512 ∧ q ∈ (waiting q).arb.waiting ∧ (waiting q).hostOpen 0 = false ∧
        ((waiting q).core 0).map.memFault = 0 ∧ ((waiting q).core 0).ctl.drain ≠ .reset) ∧
    (∀ w ∈ [true, false], let q := { req0 with res := 5, write := w, pa := hostBase }
      let s := { waiting q with pcie := { vfEnable := true, linkUp := true } }.setFn 1 { busMaster := true }
      s.granted 5 = some q ∧ s.hostOpen 0 = true) ∧
    (let q := { req0 with res := 3, pkt := some packet }
     (waiting q).arb.waiting.find? (fun y => y.res = 3 && y.core = q.core) = some q ∧
       (waiting q).arb.waiting.find? (fun y => y.res = 3 && y.core = 1) = some { req0 with res := 3, core := 1, level := 2, id := 8 }) ∧
    ([req0].all (fun y => !({ req0 with id := 10 } : Req).follows y)) = true ∧
    req0.level < ({ req0 with level := 2 } : Req).level := by decide +kernel
theorem test_read_ends : ({ on with arb := { reads := [req0] } } : State).arb.reads.find? (fun x => x.id = 9) = some req0 ∧
    ({ on with arb := { host := [req0] } } : State).arb.host.find? (fun x => x.id = 9) = some req0 ∧
    ({ on with arb := { host := [req0] } } : State).arb.host.length = 1 ∧
    (({ on with arb := { host := [req0] } } : State).core 0).map.memFault = 0 ∧
    (({ on with arb := { host := [req0] } } : State).core 0).ctl.drain ≠ .reset := by decide +kernel
theorem test_walk_ends :
    (let s := mapped (with0 { map := { walk := some 0 } })
     (s.core 0).map.walk = some 0 ∧ (s.core 0).mover.run = [] ∧ ∃ e t, s.walk ((s.owner 0).getD 0) 0 (some 0) = (.leaf e, t)) ∧
    (let s := with0 { map := { walk := some 0 } }
     (s.core 0).map.walk = some 0 ∧ (s.core 0).mover.run = [] ∧ ∃ c t, s.walk ((s.owner 0).getD 0) 0 (some 0) = (.fail c, t)) :=
  ⟨⟨by decide +kernel, by decide +kernel, walk_leaf (by decide +kernel)⟩, by decide +kernel, by decide +kernel, walk_fail (by decide +kernel)⟩
theorem test_walk_faults :
    let r : Running := { cmd := longCmd 0x20 0, srcs := [.mem 0 16 false], walkWait := true }
    let s := with0 { map := { walk := some 0 }, mover := { run := [r] } }
    (s.core 0).map.walk = some 0 ∧ (s.core 0).mover.run = [r] ∧ r.walkWait = true ∧ r.srcs = .mem 0 16 false :: [] ∧ isRange r.cmd.op = false ∧
      (s.core 0).map.memFault = 0 ∧ (s.core 0).ctl.drain ≠ .reset ∧ ∃ c t, s.walk ((s.owner 0).getD 0) 0 (some 0) = (.fail c, t) :=
  ⟨by decide +kernel, by decide +kernel, by decide +kernel, by decide +kernel, by decide +kernel, by decide +kernel, by decide +kernel,
    walk_fail (by decide +kernel)⟩
theorem test_map_aging :
    let e : MapEntry := { va := 0, pa := 0, size := 4096, w := false, oc := false, frame := 3 }
    let s := with0 { map := { entries := [(5, e)] } }
    s.agingAt = some (250000 * 5) ∧ s.turn { at_ := 250000 * 5, rank := 7 } = true ∧ steadyB s = true ∧ (5, e) ∈ (s.core 0).map.entries ∧
      on.agingAt = none := by decide +kernel
theorem test_pip_sweep :
    (let s := { on with mmeta := { pip := [(0, 0)] } }
     ((s.arb.waiting ++ s.arb.reads).any (fun q => q.pkt.isNone && q.res ≠ 5 && memc q.pa = memc 0)) = false ∧
     ∀ x ∈ [(([] : List MemUpset), 1), ([.code 0 5], 3)], let s0 := x.1.foldl State.memUpset s
      s0.mmeta.pip.find? (fun r => decide (Sparse.getD s0.mmeta.sweep (memc 0) 0 ≤ r.1) && memc (4096 * r.1) = memc 0) =
        some (0, (Sparse.find s0.mmeta.pip 0).getD 0) ∧
      pipCond (Sparse.find s0.mmeta.pip 0) = x.2) ∧
    on.mmeta.pip.find? (fun r => decide (Sparse.getD on.mmeta.sweep 7 0 ≤ r.1) && memc (4096 * r.1) = 7) = none ∧ memc 0 < 8 := by decide +kernel

/-- Core 0 with a column of its last bank broken. -/
def broke (column : Nat) (s : State) : State :=
  s.updCore 0 (fun c => { c with pint := { c.pint with broken := [{ bank := 47, sub := 3, row := none, column := column, val := 1 }] } })

theorem test_sentinel_sweep (h : coreShipped 0 = false) :
    let x : Suspect := { bank := 47, sub := 3, row := 0, stage := 1, column := 527, sweep := true, which := 1 }
    (∀ s ∈ [owned (with0 (runs {})), owned (with0 {}), with0 {}], let b := broke 527 s
      s.power.clockOn = true ∧ bit (s.core 0).pint.fenced 47 = false ∧ (s.core 0).pint.columnFaults' 47 = [] ∧
      (s.core 0).pint.spareFails 47 = (s.core 0).pint ∧ bit (b.core 0).pint.fenced 47 = false ∧ (b.core 0).pint.columnFaults' 47 = [x] ∧
      (b.core 0).pint.suspects.any (fun y => y.bank = 47) = false ∧ (s.core 0).ctl.drain ≠ .reset) ∧
    (owned (with0 (runs {}))).owner 0 = some 0 ∧ ((owned (with0 (runs {}))).core 0).ctl.st = .run ∧
    ((owned (with0 {})).core 0).ctl.st = .idle ∧ (with0 {}).owner 0 = none ∧
    ((broke 529 (with0 {})).core 0).pint.columnFaults' 47 = [] ∧ ((broke 529 (with0 {})).core 0).pint.spareFails 47 ≠ ((broke 529 (with0 {})).core 0).pint ∧
    coreShipped 0 = false :=
  ⟨by decide +kernel, by decide +kernel, by decide +kernel, by decide +kernel, by decide +kernel, by decide +kernel, by decide +kernel, h⟩

/-- Core 0 and core 1 of Pavilion 0, with a packet on the Hedgerow. -/
def onNet (p : Packet) (k : Core) : State := { ((on.setObj 0x3000 2 3).setPav 0 { st := .active }).setCore 0 k with net := [p] }

theorem usable_of {s : State} {n : Nat} (h : coreShipped n = false) (g : (decide (n < 144) && ((s.core n).fence.st ≠ 2 && (s.core n).ctl.st ≠ .fenced)) =
    true) : s.coreUsable n = true := by
  unfold State.coreUsable
  rw [h]
  simpa [Bool.and_assoc] using g

theorem refused_none {s : State} {p : Packet} (hu : s.coreUsable p.dst = true) (ho : s.owner p.dst = some p.pav)
    (hi : p.signal = true ∨ inPlot p.addr p.data.length = true ∧ (s.core p.dst).tagMisaligned p.addr p.data.length p.aow = false) :
    s.packetRefused p = 0 := by
  unfold State.packetRefused
  rw [hu, ho]
  rcases hi with hi | ⟨hi, hj⟩ <;> simp_all

/-- Pavilion 0 is not between steps 2 and 8 of a reset. -/
def noReset (s : State) : Prop := ∀ q, s.owner 0 = some q → (s.pav q).resetAt ≠ 3

theorem noReset_of {s : State} {p : Nat} (h : s.owner 0 = some p) (g : (s.pav p).resetAt ≠ 3) : noReset s := by
  intro q hq
  rw [h] at hq
  cases hq
  exact g

/-- Held packets that all wait for their slots stay, and so does the state. -/
theorem nextHeld_none {s : State} {n : Nat}
    (h : ∀ x ∈ oldestHeld (s.core n).pbuf, s.packetRefused x.pkt = 0 ∧ (s.core n).packetHeld x.pkt = true) : s.nextHeld n = none := by
  have g : ∀ P : HeldPacket → Bool, (oldestHeld (s.core n).pbuf).filter (fun x => decide (s.packetRefused x.pkt ≠ 0) ||
      !(s.core n).packetHeld x.pkt && P x) = [] := fun P => List.filter_eq_nil_iff.mpr fun x hx => by simp [(h x hx).1, (h x hx).2]
  simp only [State.nextHeld, g]

/-- One held packet that its slot takes, or that is refused, is the next to leave. -/
theorem nextHeld_one {s : State} {n : Nat} {x : HeldPacket} (h : (s.core n).pbuf = [x]) (g : (s.core n).packetHeld x.pkt = false) :
    s.nextHeld n = some x := by
  simp [State.nextHeld, oldestHeld, h, g]

theorem releaseAll_none {s : State} {k n : Nat} (h : s.nextHeld n = none) : State.releaseAll k n s = s := by
  cases k with
  | zero => rfl
  | succ k => simp [State.releaseAll, h]

theorem test_packet_arrives (h : coreShipped 0 = false) :
    let s := onNet packet {}
    packet.dst = 0 ∧ packet.src = 1 ∧ noReset s ∧ s.net.find? (fun x => x.dst = 0 && x.src = 1) = some packet ∧ s.packetRefused packet = 0 ∧
      (s.core 0).packetHeld packet = false ∧ (s.core 0).pbuf = [] ∧ packet.signal = false ∧ packet.aow = 0 ∧ s.power.clockOn = true :=
  ⟨rfl, rfl, noReset_of (p := 0) (by decide +kernel) (by decide +kernel), by decide +kernel,
    refused_none (usable_of h (by decide +kernel)) (by decide +kernel) (by decide +kernel), by decide +kernel, by decide +kernel, rfl, rfl,
    by decide +kernel⟩
theorem test_packet_signals (h : coreShipped 0 = false) :
    let p := { packet with signal := true, amount := 65535, data := [] }
    let s := onNet p {}
    noReset s ∧ s.net.find? (fun x => x.dst = 0 && x.src = 1) = some p ∧ s.packetRefused p = 0 ∧ p.signal = true ∧
      (s.core 0).pbuf = [] :=
  ⟨noReset_of (p := 0) (by decide +kernel) (by decide +kernel), by decide +kernel,
    refused_none (usable_of h (by decide +kernel)) (by decide +kernel) (by decide +kernel), by decide +kernel, by decide +kernel⟩

/-- A core whose slot 1 is TAGGED and FULL, with held packets. -/
def tagFull (l : List HeldPacket) : Core :=
  { wins := [(0, { base := 256, size := 256, tagged := true })], plot := { tags := [(1, true)] }, pbuf := l }
def heldPacket : HeldPacket := { pkt := { packet with id := 2 }, since := 0 }

theorem test_packet_held (h : coreShipped 0 = false) :
    (let s := onNet packet (tagFull [])
     noReset s ∧ s.net.find? (fun x => x.dst = 0 && x.src = 1) = some packet ∧ s.packetRefused packet = 0 ∧ (s.core 0).packetHeld packet = true ∧
       (s.core 0).pbuf = []) ∧
    let s := onNet packet (tagFull (List.replicate 16 heldPacket))
    s.net.find? (fun x => x.dst = 0 && x.src = 1) = some packet ∧ s.nextHeld 0 = none ∧ State.releaseAll 16 0 s = s ∧
      (s.core 0).pbuf.any (fun h => h.pkt.src = 1) = true ∧ 16 ≤ (s.core 0).pbuf.length := by
  have g : (onNet packet (tagFull (List.replicate 16 heldPacket))).nextHeld 0 = none := by
    refine nextHeld_none fun x hx => ?_
    have hy : x = heldPacket := by
      have : ∀ y ∈ (onNet packet (tagFull (List.replicate 16 heldPacket))).core 0 |>.pbuf, y = heldPacket := by decide +kernel
      exact this x (List.mem_of_mem_filter hx)
    subst hy
    exact ⟨refused_none (usable_of h (by decide +kernel)) (by decide +kernel) (by decide +kernel), by decide +kernel⟩
  exact ⟨⟨noReset_of (p := 0) (by decide +kernel) (by decide +kernel), by decide +kernel,
    refused_none (usable_of h (by decide +kernel)) (by decide +kernel) (by decide +kernel), by decide +kernel, by decide +kernel⟩,
    by decide +kernel, g, releaseAll_none g, by decide +kernel, by decide +kernel⟩
theorem test_packet_refused :
    let p := { packet with addr := 0x5FFF01 }
    let s := onNet p {}
    s.net.find? (fun x => x.dst = 0 && x.src = 1) = some p ∧ s.packetRefused p ≠ 0 ∧ (s.core 0).pbuf = [] ∧
      (let z := { onNet p { pbuf := [{ pkt := p, since := 0 }] } with net := [] }
       z.packetRefused p ≠ 0 ∧ z.nextHeld 0 = some { pkt := p, since := 0 }) := by
  refine ⟨by decide +kernel, ?_, by decide +kernel, ?_, nextHeld_one (by decide +kernel) (by decide +kernel)⟩ <;>
  · unfold State.packetRefused
    rw [if_pos (by rw [Bool.or_eq_true]; right; decide +kernel)]
    decide
/-- Packets of the gateway: of PF0, of a VF whose Pavilion has the core, and of one whose Pavilion has not. -/
theorem test_packet_gateway (h : coreShipped 0 = false) :
    (∀ p ∈ [0, 1, 16], let k := { packet with src := 144, pav := p }
      (onNet k {}).net.find? (fun x => x.dst = 0 && x.src = 144) = some k ∧ ((onNet k {}).core 0).pbuf = [] ∧ noReset (onNet k {}) ∧
        (onNet k {}).coreUsable 0 = true ∧ (onNet k {}).owner 0 = some 0) := by
  have g : ∀ p ∈ [0, 1, 16], let s := onNet { packet with src := 144, pav := p } {}
      s.net.find? (fun x => x.dst = 0 && x.src = 144) = some { packet with src := 144, pav := p } ∧ (s.core 0).pbuf = [] ∧
      s.owner 0 = some 0 ∧ (s.pav 0).resetAt ≠ 3 ∧ (decide (0 < 144) && ((s.core 0).fence.st ≠ 2 && (s.core 0).ctl.st ≠ .fenced)) = true := by
    decide +kernel
  intro p hp
  obtain ⟨g1, g2, g3, g4, g5⟩ := g p hp
  exact ⟨g1, g2, noReset_of g3 g4, usable_of h g5, g3⟩
theorem test_packet_released (h : coreShipped 0 = false) :
    (∀ p ∈ [packet, { packet with signal := true, amount := 65535, data := [] }],
      let s := { onNet p { pbuf := [{ pkt := p, since := 0 }] } with net := [] }
      noReset s ∧ s.nextHeld 0 = some { pkt := p, since := 0 } ∧ s.packetRefused p = 0 ∧ p.dst = 0 ∧ s.power.clockOn = true ∧ p.src ≠ 144 ∧
        p.aow = 0) ∧
    (onNet packet {}).nextHeld 0 = none := by
  refine ⟨fun p hp => ?_, by decide +kernel⟩
  rcases List.mem_cons.mp hp with rfl | hp
  · exact ⟨noReset_of (p := 0) (by decide +kernel) (by decide +kernel), nextHeld_one (by decide +kernel) (by decide +kernel),
      refused_none (usable_of h (by decide +kernel)) (by decide +kernel) (by decide +kernel), rfl, by decide +kernel, by decide, rfl⟩
  · rw [List.mem_singleton.mp hp]
    exact ⟨noReset_of (p := 0) (by decide +kernel) (by decide +kernel), nextHeld_one (by decide +kernel) (by decide +kernel),
      refused_none (usable_of h (by decide +kernel)) (by decide +kernel) (by decide +kernel), rfl, by decide +kernel, by decide, rfl⟩

/-- A FAULTED core's drain with one bank to classify. -/
def suspected (x : Suspect) : State := owned (with0 { ctl := { st := .run, drain := .fault }, pint := { suspects := [x], stepFailed := true } })

theorem test_classify :
    let x : Suspect := { bank := 47, sub := 3, row := 511, stage := 0, column := 0, sweep := false }
    let s := suspected x
    (s.core 0).pint.suspects = [x] ∧ x.bank = 47 ∧ x.stage = 0 ∧ (s.core 0).ctl.drain = .fault ∧ (s.core 0).drained = true ∧
      s.power.clockOn = true ∧ (s.core 0).pint.suspects.any (fun x => x.bank = 47 && x.stage = 0) = true ∧
      (s.core 0).pint.columnFaults' 47 = [] ∧ (s.core 0).pint.cellFault x = none ∧ (s.setObj 0x2100 2 0).obj 0x2100 2 = 0 ∧
      (s.setObj 0x2100 2 1).obj 0x2100 2 ≠ 0 ∧ (s.setObj 0x2100 2 1).obj 0x2100 2 ≤ Sparse.getD (s.core 0).pint.softBank x.bank 0 + 1 ∧
      (let b := s.updCore 0 (fun c => c.upset 47 (.stuck 3 (some 511) 5 0))
       (b.core 0).pint.columnFaults' 47 = [] ∧ (b.core 0).pint.cellFault x = some 5) ∧
      (((broke 527 s).core 0).pint.columnFaults' 47).any (fun y => y.sub = x.sub) = true := by
  decide +kernel
theorem test_repair (h : coreShipped 0 = false) :
    let x : Suspect := { bank := 47, sub := 3, row := 0, stage := 1, column := 527, sweep := true }
    (∀ k ∈ [1, 2], let x := { x with stage := k }
      ((suspected x).core 0).pint.suspects = [x] ∧ (x.stage = 1 ∨ x.stage = 2) ∧ ((suspected x).core 0).pint.fenced = 0 ∧
      ((suspected x).core 0).ctl.drain = .fault ∧ ((suspected x).core 0).drained = true ∧ ((suspected x).core 0).fence.st = 0 ∧
      (((suspected x).core 0).pint.spareFails 47).nextSpare (4 * 47 + 3) = some 0 ∧ ((suspected x).core 0).pint.stepFailed = true ∧
      (suspected x).owner 0 = some 0) ∧
      coreShipped 0 = false ∧ (({ ((suspected x).core 0).pint with badSpares := [(191, 15)] } : PlotInt).spareFails 47).nextSpare 191 = none :=
  ⟨by decide +kernel, h, by decide +kernel⟩
theorem test_scrub : ((with0 { pint := { scrubPending := true } }).core 0).pint.scrubPending = true ∧
    ((with0 { pint := { scrubPending := true } }).core 0).pint.suspects = [] := by decide +kernel

/-! ### Requests and reads of units -/

/-- Serves, Takes, Reads and Gives, evaluated. -/
def servesB (s : State) (who : Requester) : Bool :=
  s.live who && decide (2 ≤ s.boot.phase) && !s.fw.down && !s.boot.handover && decide (s.dict.queue = []) &&
    !s.vfResetting who.ix
def writesB (s : State) (who : Requester) (i sub : Nat) : Bool := match s.writeOk who i sub none with | .ok _ => true | .error _ => false
def takesB (s : State) (who : Requester) (i sub len v : Nat) : Bool :=
  servesB s who && (match s.writeOk who i sub none with
    | .ok o => !tyBytes o.ty && len == tySize o.ty && o.inRange (v % 256 ^ len)
    | .error _ => false)
def givesB (s : State) (who : Requester) (i sub : Nat) : Bool :=
  servesB s who && (match s.readOk who i sub 0 with | .ok _ => true | .error _ => false)

theorem serves_of {s : State} {who : Requester} (h : servesB s who = true) : Serves s who := by
  simp only [servesB, Bool.and_eq_true, decide_eq_true_eq, Bool.not_eq_true'] at h
  exact ⟨h.1.1.1.1.1, h.1.1.1.1.2, h.1.1.1.2, h.1.1.2, h.1.2, h.2⟩

theorem writes_of {s : State} {who : Requester} {i sub : Nat} (h : writesB s who i sub = true) : ∃ o, s.writeOk who i sub none = .ok o := by
  unfold writesB at h
  split at h
  · exact ⟨_, ‹_›⟩
  · cases h

theorem takes_of {s : State} {who : Requester} {i sub len v : Nat} (h : takesB s who i sub len v = true) : Takes s who i sub len v := by
  rw [takesB, Bool.and_eq_true] at h
  refine ⟨serves_of h.1, ?_⟩
  have g := h.2
  split at g
  · rename_i o ho
    simp only [Bool.and_eq_true, Bool.not_eq_true', beq_iff_eq] at g
    exact ⟨o, ho, g.1.1, g.1.2, g.2⟩
  · cases g

theorem gives_of {s : State} {who : Requester} {i sub : Nat} (h : givesB s who i sub = true) : Gives s who i sub := by
  rw [givesB, Bool.and_eq_true] at h
  refine ⟨serves_of h.1, ?_⟩
  have g := h.2
  split at g
  · exact ⟨_, ‹_›⟩
  · cases g

/-- What a unit's read answers, evaluated. -/
def unitIs (x : UnitR × State) (P : List PByte → Bool) : Bool := match x.1 with | .ok b => P b | _ => false
def unitErr (x : UnitR × State) : Bool := match x.1 with | .error _ => true | _ => false

theorem unit_ok {x : UnitR × State} {P : List PByte → Bool} (h : unitIs x P = true) : ∃ b t, x = (.ok b, t) ∧ P b = true := by
  obtain ⟨r, t⟩ := x
  cases r with
  | ok b => exact ⟨b, t, rfl, h⟩
  | wait => cases h
  | error c => cases h

theorem unit_fails {x : UnitR × State} (h : unitErr x = true) : ∃ c t, x = (.error c, t) := by
  obtain ⟨r, t⟩ := x
  cases r with
  | ok b => cases h
  | wait => cases h
  | error c => exact ⟨c, t, rfl⟩

/-- The same with its pages in the host window, which is open (10 R271). -/
def hosted (s : State) : State :=
  { ((mapped s).setObj 0x2210 3 (2 ^ 30)).setFn 1 { busMaster := true } with
    mem := [(5, 0x80), (7, 0xE0)], pcie := { vfEnable := true, linkUp := true } }

theorem unit_waits {x : UnitR × State} (h : (x.1 == .wait) = true) : ∃ t, x = (.wait, t) := by
  obtain ⟨r, t⟩ := x
  rw [show r = .wait from eq_of_beq h]
  exact ⟨t, rfl⟩

/-! ### Dice -/

/-- Pavilion 0, ACTIVE, with a Dice. -/
def diced (d : DiceSt) (s : State) : State := (s.setObj 0x3000 2 1).setPav 0 { st := .active, dice := d }

/-- A table entry with V = 1 on chip 0, core 0, capacity 2, inbox at 4096 and counter 63. -/
def entry0 : Nat := 2 ^ 63 + 2 * 2 ^ 28 + 16 * 2 ^ 13 + 63 * 2 ^ 7

theorem test_diceLoad_takes :
    (let s := diced {} on
     Takes s .pf0 0x2310 0xC 1 1 ∧ (s.pav 0).dice.loading = false ∧ (s.pav 0).dice.loaded = false) ∧
    (let s := diced { loaded := true } on
     Takes s .pf0 0x2310 0xC 1 1 ∧ (s.pav 0).dice.loaded = true) :=
  ⟨⟨takes_of (by decide +kernel), by decide +kernel⟩, takes_of (by decide +kernel), by decide +kernel⟩

/-- A load of `e` entries whose table starts at `a`. -/
def loading (a e : Nat) (s : State) : State := s.setPav 0 { st := .active, dice := { loading := true, loadE := e, loadSrc := a } }
def loads (a : Nat) : State := loading a 1 (mapped on)

/-- The capacities on this chip of the first `e` entries of a table. -/
def capsOf (s : State) (b : List PByte) (e : Nat) : Nat :=
  ((List.range e).map (fun i =>
    let e := leNat (rawBytes ((b.drop (8 * i)).take 8))
    if exV e && exChip e = s.chipId then exCap e else 0)).sum

theorem test_diceLoad_copies :
    (((loads 8).pav 0).dice.loading = true ∧ ((loads 8).pav 0).dice.loadE = 1 ∧
      ∃ b t, (loads 8).unitRead 0 8 (8 * 1) 1 = (.ok b, t) ∧
        (!entryFails ((loads 8).obj 0x2310 8) (leNat (rawBytes ((b.drop 0).take 8))) && decide (capsOf (loads 8) b 1 ≤ 65536)) = true) ∧
    (let s := { loads 8 with mem := [(7, 0xE0), (13, 144), (15, 0x80)] }
     ∃ b t, s.unitRead 0 8 (8 * 1) 1 = (.ok b, t) ∧ entryFails (s.obj 0x2310 8) (leNat (rawBytes ((b.drop 0).take 8))) = true) ∧
    (let s := { loading 8 17 ((mapped on).setObj 0x2540 1 0) with
       mem := Mem.write [(7, 0xE0)] 8 ((List.replicate 17 (leBytes 8 (2 ^ 63 + 4095 * 2 ^ 28))).flatten) }
     ∃ b t, s.unitRead 0 8 (8 * 17) 1 = (.ok b, t) ∧ decide (65536 < capsOf s b 17) = true) ∧
    (let s := loading 8 1 (hosted on)
     (s.pav 0).dice.loading = true ∧ ∃ t, s.unitRead 0 8 (8 * 1) 1 = (.wait, t)) ∧
    (let s := diced { loading := true, loadE := 1 } on
     (s.pav 0).dice.loading = true ∧ ∃ c t, s.unitRead 0 (s.pav 0).dice.loadSrc (8 * (s.pav 0).dice.loadE) 1 = (.error c, t)) :=
  ⟨⟨by decide +kernel, by decide +kernel, unit_ok (by decide +kernel)⟩, unit_ok (by decide +kernel), unit_ok (by decide +kernel),
    ⟨by decide +kernel, unit_waits (by decide +kernel)⟩, by decide +kernel, unit_fails (by decide +kernel)⟩

/-- A ROUTE of one token of rows of `rb` bytes. -/
def route (rb : Nat) : LongCmd := { longCmd 0x30 0 with x1 := BitVec.ofNat 128 (1 + rb * 2 ^ 16), a := 256, b := 512, c := 65536 }

def routing (e rb : Nat) : State := diced { eff := [(1, e), (6, 2), (8, 256)] } (with0 (runs { dice := { queue := [route rb] } }))

theorem test_route_starts :
    (∀ e ∈ [0, 1], let s := routing e 256
      (s.core 0).dice.queue = route 256 :: [] ∧ (s.core 0).dice.run = [] ∧ (s.core 0).engineGo = true ∧ s.owner 0 = some 0 ∧
        bits (route 256).y1 31 16 = s.diceNext 0 8 ∧
        (s.core 0).readBlocked (route 256).a (bits (route 256).y1 15 0 * (if (route 256).m 0 0 = 1 then 24 else 16)) = false ∧
        (s.core 0).readBlocked (route 256).b (bits (route 256).y1 15 0 * bits (route 256).y1 31 16) = false ∧
        s.diceNext 0 1 = e ∧ 2 ≤ s.diceNext 0 6 ∧ (s.pav 0).dice.rnd = none ∧ (s.pav 0).dice.waiting = [] ∧ (s.pav 0).dice.loaded = false) ∧
    (let s := diced { loaded := true, commitRound := 1 } ((((with0 (runs { dice := { queue := [route 256] } })).setObj 0x2310 1 16).setObj 0x2310 6 2).setObj 0x2310 8 256)
     bits (route 256).y1 31 16 = s.diceNext 0 8 ∧ s.diceNext 0 1 = 16 ∧ s.diceEff 0 1 = 0 ∧ 2 ≤ s.diceNext 0 6) ∧
    bits (route 512).y1 31 16 ≠ (routing 1 512).diceNext 0 8 ∧ ((routing 1 512).core 0).ctl.drain = .none := by decide +kernel

/-- A round of one choice, admitted and at expert 0, with its home. -/
def tag0 : Nat := 3 * 2 ^ 17 + 2 ^ 13
def choice0 (st : Nat) : Choice := { source := 1, pos := 0, c := 0, expert := some 0, probe := 0, state := st, late := false, noExpert := false }
def src0 : RSrc := { core := 0, cmd := 1, source := 1, k := 1, count := 1, rowBytes := 256, results := 65536, cnt := none, rows := [], left := 1 }
def tok0 : Tok := { source := 1, pos := 0, stream := 0, cands := [0], used := 1, noExpert := false }
def round0 (isOpen : Bool) (st : Nat) : DRound :=
  { num := 3, openAt := 0, isOpen := isOpen, phase := 0, frame := 0, hold := 0, srcs := [src0], toks := [tok0], choices := [choice0 st],
    awaiting := [0, 5], skips := [] }
def home0 : HRound :=
  { num := 3, phase := 0, markers := [0], first := none, reqs := [{ tag := tag0, expert := 0 }], admitted := [], rows := [], closed := false }
def msg (kind arg0 arg1 : Nat) (data : List PByte) : Msg :=
  { dst := 0, src := 0, dpav := 0, spav := 0, kind := kind, hops := 0, arg0 := arg0, arg1 := arg1, data := data, level := 0 }
def hears (m : Msg) (d : DiceSt) : State := { diced d on with link := { delivered := [m] } }

/-- The message that a command takes. -/
def takesMsg (s : State) (P : Msg → Bool) (m : Msg) : Prop := ∃ t, s.takeMsg P = some (m, t)

theorem takesMsg_of {s : State} {P : Msg → Bool} {m : Msg} (h : (s.takeMsg P).map Prod.fst = some m) : takesMsg s P m := by
  obtain ⟨⟨a, t⟩, ha, rfl⟩ := Option.map_eq_some_iff.mp h
  exact ⟨t, ha⟩

theorem test_round_closes :
    (let s := diced { rnd := some (round0 true 1), active := [(0, entry0)] } on
     (s.pav 0).dice.rnd = some (round0 true 1) ∧ (round0 true 1).isOpen = true ∧ s.diceHomes 0 ≠ [] ∧ steadyB s = true) ∧
    (let s := diced { rnd := some (round0 true 1) } on
     (s.pav 0).dice.rnd = some (round0 true 1) ∧ s.diceHomes 0 = [] ∧ (s.pav 0).dice.waiting = []) := by decide +kernel
theorem test_requests_arrive :
    (∀ x ∈ [(({ rnd := some (round0 false 1), homes := [home0] } : DiceSt), 3, 1), ({}, 1, 2), ({}, 9, 3)],
      let m := msg 1 256 x.2.1 (List.replicate 16 (1, false))
      (hears m x.1).reqKind 0 m = x.2.2 ∧
        takesMsg (hears m x.1) (fun m => m.kind = 1 && m.dpav = (0 : PavIx).val && (hears m x.1).reqKind (0 : PavIx) m ≠ 0) m) ∧
    ((hears (msg 1 256 3 []) { rnd := some (round0 false 1), homes := [home0] }).pav 0).dice.homes[0]? = some home0 := by
  refine ⟨?_, by decide +kernel⟩
  intro x hx
  simp only [List.mem_cons, List.not_mem_nil, or_false] at hx
  rcases hx with rfl | rfl | rfl <;> exact ⟨by decide +kernel, takesMsg_of (by decide +kernel)⟩
theorem test_outcome_arrives :
    let m := msg 2 0 3 ((leBytes 16 (tag0 + 2 ^ 64)).map (fun b => (b, false)))
    (∀ w ∈ [[0, 5], [0]], let r := { round0 false 1 with awaiting := w }
     let s := hears m { rnd := some r, active := [(0, entry0)], round := 3 }
     takesMsg s (fun m => m.kind = 2 && m.dpav = (0 : PavIx).val) m ∧ (s.pav 0).dice.rnd = some r ∧ m.arg1 = r.num ∧
      bits m.arg0 7 0 = r.phase ∧ m.src ∈ r.awaiting ∧ (5 ∈ w → 5 ≠ m.src) ∧
      (choice0 1).state = 1 ∧ exChip (s.expert 0 ((choice0 1).expert.getD 0)) = m.src ∧ s.diceHomes 0 ≠ [] ∧ (s.pav 0).dice.round = r.num ∧
      tag0 + 2 ^ 64 ∈ m.recs ∧
      m.recs.find? (fun y => tgSource y = (choice0 1).source && tgPos y = (choice0 1).pos && tgChoice y = (choice0 1).c) =
        some (tag0 + 2 ^ 64)) ∧
    (let n := msg 2 0 3 []
     let s := hears n { rnd := some { round0 false 1 with awaiting := [0] }, active := [(0, entry0)] }
     takesMsg s (fun m => m.kind = 2 && m.dpav = (0 : PavIx).val) n ∧ n.recs = []) ∧
    (takesMsg (hears m {}) (fun m => m.kind = 2 && m.dpav = (0 : PavIx).val) m ∧ ((hears m {}).pav 0).dice.rnd = none) := by
  refine ⟨?_, ⟨takesMsg_of (by decide +kernel), by decide +kernel⟩, takesMsg_of (by decide +kernel), by decide +kernel⟩
  intro w hw
  simp only [List.mem_cons, List.not_mem_nil, or_false] at hw
  rcases hw with rfl | rfl <;> exact ⟨takesMsg_of (by decide +kernel), by decide +kernel⟩
theorem test_phase_closes :
    (∀ h ∈ [home0, { home0 with markers := [], first := some 0 }],
     let s := diced { rnd := some (round0 false 1), homes := [h], active := [(0, entry0)], eff := [(5, 1), (3, 0)] } on
     (s.pav 0).dice.homes = [h] ∧ h.closed = false ∧ (s.diceEff 0 5 ≤ h.markers.length ∨ h.first ≠ none) ∧
      (s.pav 0).dice.rnd = some (round0 false 1) ∧ (round0 false 1).isOpen = false ∧ (round0 false 1).phase ≤ s.diceEff 0 3 ∧
      s.diceEff 0 3 ≤ h.phase ∧ (([] : List HReq).filter (fun a => a.expert = 0)).length ≤ exCap (s.expert 0 0) ∧
      h.phase < ({ s with pavs := [(0, { s.pav 0 with dice := { (s.pav 0).dice with eff := [(3, 1)] } })] } : State).diceEff 0 3) := by
  decide +kernel
theorem test_result_arrives :
    let m := msg 4 tag0 0 (List.replicate 256 (1, false))
    let s := hears m { rnd := some (round0 false 2) }
    takesMsg s (fun m => m.kind = 4 && m.dpav = (0 : PavIx).val) m ∧ (s.pav 0).dice.rnd = some (round0 false 2) ∧
      (s.pav 0).dice.choiceOf m.arg0 = some (round0 false 2, choice0 2) ∧
      (round0 false 2).srcs.find? (fun x => x.source = (choice0 2).source) = some src0 ∧
      (round0 false 2).toks.find? (fun t => t.source = (choice0 2).source && t.pos = (choice0 2).pos) = some tok0 ∧
      (s.pav 0).dice.choiceOf (msg 4 0 0 []).arg0 = none :=
  ⟨takesMsg_of (by decide +kernel), by decide +kernel⟩
theorem test_source_expires :
    let s := { diced { rnd := some (round0 false 2) } on with time := { now := 250000 } }
    (s.pav 0).dice.rounds = [round0 false 2] ∧
    (∃ c ∈ (round0 false 2).choices, c.state = 2) ∧ (round0 false 2).frame + (round0 false 2).hold + 1 ≤ s.frame ∧
      (∀ c ∈ (round0 false 2).choices, c.state = 2 → ((round0 false 2).srcs.find? (fun x => x.source = c.source)).isSome = true ∧
        ((round0 false 2).toks.find? (fun t => t.source = c.source && t.pos = c.pos)).isSome = true) := by decide +kernel
theorem test_row_arrives :
    let a : HReq := { tag := tag0, expert := 0 }
    let h := { home0 with admitted := [a] }
    let d : Delivery := { round := 3, expert := 0, entry := entry0, rowBytes := 256, hold := 0, rows := [{ tag := tag0, row := [] }] }
    let s := hears (msg 3 tag0 0 []) { homes := [h], toDeliver := [d] }
    takesMsg s (fun m => m.kind = 3 && m.dpav = (0 : PavIx).val) (msg 3 tag0 0 []) ∧ (s.pav 0).dice.homes = [h] ∧ h.num = tgRound tag0 ∧
      a ∈ h.admitted ∧ sameTag a.tag tag0 = true ∧ (s.pav 0).dice.toDeliver[0]? = some d ∧ d.expert = (msg 3 tag0 0 []).arg1 :=
  ⟨takesMsg_of (by decide +kernel), by decide +kernel⟩

/-- A round's rows for expert 0, and its inbox. -/
def rows0 : Delivery :=
  { round := 3, expert := 0, entry := entry0, rowBytes := 256, hold := 0, rows := [{ tag := tag0, row := List.replicate 256 (9, false) }] }
def inbox0 : Inbox :=
  { expert := 0, round := 3, tags := [tag0], core := 0, cnt := 63, addr := 4096, rowBytes := 256, target := 0, until_ := 1, poison := [] }

theorem homeUp_of {s : State} {p n : Nat} (h : coreShipped n = false) (g : (decide (n < 144) && ((s.core n).fence.st ≠ 2 && (s.core n).ctl.st ≠ .fenced)) =
    true) (ho : s.owner n = some p) : s.homeUp p n = true := by
  simp [State.homeUp, usable_of h g, ho]

theorem homeUp_none {s : State} {p n : Nat} (ho : s.owner n = none) : s.homeUp p n = false := by simp [State.homeUp, ho]

/-- The chip with ID 0, whose messages for itself go home. -/
def home (s : State) : State := { s.setObj 0x2540 1 0 with link := { active := some 0xFE } }

theorem test_inbox_delivered (h : coreShipped 0 = false) :
    (let s := diced { toDeliver := [rows0] } (home on)
     (s.pav 0).dice.toDeliver = rows0 :: [] ∧ (s.pav 0).dice.toDeliver.find? (fun d => d.expert = 0) = some rows0 ∧ rows0.expert = 0 ∧
      (s.pav 0).dice.inboxes = [] ∧ s.link.delivered = [] ∧ exCore rows0.entry = 0 ∧ s.homeUp 0 0 = true ∧ rows0.rowBytes % 64 = 0 ∧
      (∀ r ∈ rows0.rows.filter (fun r => !r.row.isEmpty), r.row.length = rows0.rowBytes) ∧
      (rows0.rows.filter (fun r => !r.row.isEmpty)).length ≤ exCap rows0.entry ∧ (s.core 0).pint.broken = []) ∧
    (let s := (home on).setPav 0 { st := .active, dice := { toDeliver := [rows0] } }
     s.homeUp 0 (exCore rows0.entry) = false ∧ (∀ r ∈ rows0.rows, s.routeByte (tgChip r.tag) = 0xFE) ∧ (s.pav 0).st = .active ∧
      (s.pav 0).resetAt = 0) :=
  ⟨⟨by decide +kernel, by decide +kernel, by decide +kernel, by decide +kernel, by decide +kernel, by decide +kernel,
    homeUp_of h (by decide +kernel) (by decide +kernel), by decide +kernel⟩, homeUp_none (by decide +kernel), by decide +kernel⟩
theorem test_inbox_released (h : coreShipped 0 = false) :
    (∀ t ∈ [0, 1], let b := { inbox0 with target := t }
     let s := diced { inboxes := [b] } (home on)
     (s.pav 0).dice.inboxes = b :: [] ∧ (s.pav 0).dice.inboxes.find? (fun b => b.expert = 0) = some b ∧ b.expert = 0 ∧
      (∀ t ∈ b.tags, s.routeByte (tgChip t) = 0xFE) ∧ (s.pav 0).st = .active ∧ (s.pav 0).resetAt = 0 ∧ s.homeUp 0 b.core = true ∧
      cntReached ((s.core b.core).cnt b.cnt) (BitVec.ofNat 32 b.target) = decide (t = 0)) ∧
    (let s := (home on).setPav 0 { st := .active, dice := { inboxes := [inbox0] } }
     s.homeUp 0 inbox0.core = false ∧ (s.pav 0).dice.inboxes = inbox0 :: [] ∧ (∀ t ∈ inbox0.tags, s.routeByte (tgChip t) = 0xFE)) := by
  refine ⟨?_, homeUp_none (by decide +kernel), by decide +kernel⟩
  intro t ht
  simp only [List.mem_cons, List.not_mem_nil, or_false] at ht
  rcases ht with rfl | rfl <;> exact ⟨by decide +kernel, by decide +kernel, by decide +kernel, by decide +kernel, by decide +kernel,
    by decide +kernel, homeUp_of h (by decide +kernel) (by decide +kernel), by decide +kernel⟩

/-! ### Bandstand -/

/-- A legal stream entry of class `c` with ID 5 (12 Table 12-1). -/
def bsEntry (c : Nat) : Nat := 5 + c * 2 ^ 38 + 2 ^ 98 + 10 * 2 ^ 99 + 8 * 2 ^ 104 + 2 ^ 128

/-- Pavilion 0 with the slice of ID 5 alone. -/
def sliced (s : State) : State := ((owned s).setObj 0x2410 1 5).setObj 0x2410 2 1

/-- The same with stream 5 in the table. -/
def streamed (e : Nat) : State := { sliced on with streams := [(5, e)] }

theorem test_bsAdmit_taken :
    (Serves (sliced on) .pf0 ∧ (∃ o, (sliced on).writeOk .pf0 0x2410 0xF none = .ok o)) ∧ entryBad (bsEntry 1) = false ∧ bsEntry 1 < 2 ^ 256 ∧
      (sliced on).inSlice 0 (bits (bsEntry 1) 11 0) = true ∧ seState ((sliced on).stream (bits (bsEntry 1) 11 0)) = 0 ∧ seClass (bsEntry 1) ≠ 0 ∧
      (seClass (bsEntry 0) = 0 ∧ ({ ((sliced on).setObj 0x3180 0xF 1).setObj 0x3180 0x10 1 with time := { st := 2 } } : State).ctFits 0 = true) :=
  ⟨⟨serves_of (by decide +kernel), writes_of (by decide +kernel)⟩, by decide +kernel⟩
theorem test_bsAdmit_refused : entryBad (bsEntry 3) = true ∧
    (entryBad (bsEntry 1) = false ∧ (owned on).inSlice 0 5 = false) ∧
    ((sliced on).inSlice 0 5 = true ∧ seState ((streamed (2 ^ 29)).stream 5) ≠ 0 ∧ (streamed (2 ^ 29)).inSlice 0 5 = true) ∧
    (entryBad (bsEntry 0) = false ∧ seClass (bsEntry 0) = 0 ∧ (sliced on).ctFits 0 = false) := by decide +kernel
theorem test_bsRetire_taken : Takes (streamed (2 ^ 29)) .pf0 0x2410 0x10 2 5 ∧ (streamed (2 ^ 29)).inSlice 0 5 = true ∧
    seState ((streamed (2 ^ 29)).stream 5) ≠ 0 := ⟨takes_of (by decide +kernel), by decide +kernel⟩
theorem test_bsStatus_read : Gives (owned on) .pf0 0x2410 0x12 := gives_of (by decide +kernel)
theorem test_bsSlot_off : (∀ p, p < 16 → on.obj (0x2410 + p) 0xC ≠ 1 ∧ (on.pav p).bs.due = none) ∧
    (let s := { on with cyc := { slotDone := some 0 } }
     s.power.clockOn = true ∧ s.cyc.slotDone = some 0 ∧ absSlot s.time.now ≤ 0 ∧ steadyB s = true) := by decide +kernel
theorem test_bsRecord_legal :
    let r := 5 + 128 * 2 ^ 40
    let s := streamed (2 ^ 29 + 2 ^ 98 + 65407 * 2 ^ 48)
    bits r 63 48 = 0 ∧ bits r 39 12 = 0 ∧ bits r 47 40 ≠ 0 ∧ bits r 47 40 ≤ 128 ∧ s.inSlice 0 (bits r 11 0) = true ∧
      seState (s.stream (bits r 11 0)) ≠ 0 ∧ seHome (s.stream (bits r 11 0)) = true ∧ seEnd (s.stream (bits r 11 0)) = false ∧
      sePending (s.stream (bits r 11 0)) + bits r 47 40 ≤ 65535 := by decide +kernel
theorem test_bsRecord_dropped : bits 5 47 40 = 0 ∧ 128 < bits (5 + 129 * 2 ^ 40) 47 40 ∧ (owned on).inSlice 0 5 = false ∧
    seState ((streamed 0).stream 5) = 0 ∧ seHome ((streamed (2 ^ 29)).stream 5) = false ∧
    seEnd ((streamed (2 ^ 29 + 2 ^ 97 + 2 ^ 98)).stream 5) = true := by decide +kernel

/-- A ring whose tail reads `t`, with the head at `h`. -/
def ringed (h t : Nat) (init : Bool) : State :=
  { (mapped on).setPav 0 { st := .active, bs := { head := h, headInit := init, eff := [(5, 0), (6, 4)] } } with
    mem := Mem.write [(7, 0xE0)] 128 (leBytes 4 t) }

/-- What the read of the ring's tail answers: `P` of the tail. -/
def tailIs (s : State) (P : Nat → Bool) : Bool := unitIs (s.unitRead 0 (s.bsEff 0 5 + 8 * 2 ^ s.bsEff 0 6) 4 0) (fun b => P (leNat (rawBytes b)))

theorem test_bsRing_reads :
    tailIs (ringed 0 3 true) (· == 3) = true ∧ ((ringed 0 3 true).pav 0).bs.headInit = true ∧
    (∀ x ∈ [(0, 16), (5, 4), (0, 17)], let s := ringed x.1 x.2 false
      tailIs s (· == x.2) = true ∧ (s.pav 0).bs.head = x.1 ∧ (s.pav 0).bs.headInit = false ∧
        ((s.unitRead 0 128 4 0).2.bsRecords 0 0 16 (x.2 + 2 ^ 32 - min (x.2 - x.1) 16) (min (x.2 - x.1) 16)).1 ≠ .wait) ∧
    unitErr ((diced {} on).unitRead 0 ((diced {} on).bsEff 0 5 + 8 * 2 ^ (diced {} on).bsEff 0 6) 4 0) = true := by decide +kernel
/-- A ring in the host window: the host has answered the tail, 3, and no record yet. -/
theorem test_bsRing_waits :
    let s := { (hosted on).setPav 0 { st := .active, bs := { eff := [(5, 0), (6, 4)] } } with
      arb := { fetch := [{ id := 1, pav := 0, unit := 0, pa := hostBase + 128, len := 4, got := some (some (clean (leBytes 4 3))) }] } }
    tailIs s (· == 3) = true ∧ (s.pav 0).bs.headInit = false ∧
      ((s.unitRead 0 128 4 0).2.bsRecords 0 0 16 (3 + 2 ^ 32 - min 3 16) (min 3 16)).1 = .wait := by decide +kernel

/-- A Bandstand that is enabled, with every slot a deadline, and `b`, at the start of slot 1. -/
def batching (b : BsSt) : State :=
  { (((sliced on).setObj 0x2410 0xC 1).setObj 0x2410 4 (2 ^ 64 - 1)).setPav 0 { st := .active, bs := { b with eff := b.eff ++ [(4, 2 ^ 64 - 1), (7, 0), (9, 1)] } } with
    streams := [(5, bsEntry 0)], time := { now := absStart 1 } }
def batch0 : Batch := { num := 0, rows := [], fill := false, flags := 0, time := 0 }
def bsRow0 : BsRow := { stream := 5, defer := 0, at_ := 0 }

theorem test_batch_deadline :
    (∀ b ∈ [({ queue := [bsRow0], due := some 1 } : BsSt), { due := some 1 }, { queue := [bsRow0], due := some 1, eff := [(3, 1)] },
        { waiting := [batch0], written := 1, due := some 1 }, {}],
      (batching b).obj 0x2410 0xC ≠ 0 ∧ (batching b).bsNext 0 = some 1 ∧ (batching b).power.clockOn = true ∧
        (batching b).turn { at_ := absStart 1, rank := 4, pav := (0 : PavIx).val } = true) ∧
    (batching { queue := [bsRow0] }).takeable 0 (some 1) ≠ [] ∧ (batching {}).takeable 0 (some 1) = [] ∧
    (batching { queue := [bsRow0] }).bsFull 0 (some 1) = false ∧ (batching { queue := [bsRow0], eff := [(3, 1)] }).bsFull 0 (some 1) = true ∧
    steadyB (batching {}) = true := by decide +kernel
theorem test_batch_stuck : (batching { queue := [bsRow0], due := some 1 }).bsStuck 0 = false ∧
    (batching { waiting := [batch0], written := 1, due := some 1 }).bsStuck 0 = true := by
  constructor
  · exact decide_eq_false (Nat.not_lt_zero _)
  · have h : (batching { waiting := [batch0], written := 1, due := some 1 }).bsRoom 0 = 0 := by
      simp only [State.bsRoom]
      split
      · decide +kernel
      · rfl
    rw [State.bsStuck, h]
    decide +kernel
theorem test_batch_delivered (h : coreShipped 0 = false) : ((batching { waiting := [batch0] }).pav 0).bs.waiting = batch0 :: [] ∧
    (batching { waiting := [batch0] }).bsRoom 0 ≠ 0 := by
  have hu : (batching { waiting := [batch0] }).coreUsable 0 = true := usable_of h (by decide +kernel)
  have he : (batching { waiting := [batch0] }).bsEff 0 7 = 0 ∧ (batching { waiting := [batch0] }).owner 0 = some 0 := by decide +kernel
  refine ⟨by decide +kernel, ?_⟩
  simp only [State.bsRoom, he.1, hu, he.2]
  decide +kernel

/-! ### Sundial -/

/-- A chip whose port 0 is `p`. -/
def ported (p : Port) : State := on.setPort 0 p

/-- A time flit of epoch `e`. -/
def timeFlit (e : Nat) : Flit := { ty := ftTime, payload := 77 + e * 2 ^ 160 + 3 * 2 ^ 288 }

theorem test_timeWord_sent : ((ported { st := 4 }).port 0).st = 4 ∧ (ported { st := 4 }).blp 0 = true ∧
    ((ported { st := 4 }).port 0).peerHold = false ∧ (ported { st := 4 }).chipState ≠ 5 := by decide +kernel
theorem test_timeWord_received :
    (let s := ported { st := 4 }
     (s.port 0).st = 4 ∧ s.blp 0 = true ∧ (timeFlit 9).wf = true ∧ (timeFlit 9).ty = ftTime ∧ s.time.epoch = none ∧
       bits (timeFlit 9).payload 223 160 ≠ 0 ∧ ∀ r, r ≠ 0 → s.liveTime r = false) ∧
    (let s := { ported { st := 4 } with time := { epoch := some { id := 8, tai := 0 } } }
     s.time.epoch = some { id := 8, tai := 0 } ∧ bits (timeFlit 9).payload 223 160 ≠ 0 ∧ bits (timeFlit 9).payload 223 160 ≠ 8 ∧
       bits (timeFlit 8).payload 223 160 = 8 ∧ bits (timeFlit 0).payload 223 160 = 0 ∧ (timeFlit 0).wf = true ∧
       s.time.isSource = false) := by
  refine ⟨⟨by decide +kernel, by decide +kernel, by decide +kernel, by decide +kernel, by decide +kernel, by decide +kernel, ?_⟩, by decide +kernel⟩
  intro r hr
  have hp : (ported { st := 4 }).port r = {} := by
    simp [ported, State.port, State.setPort, on, Sparse.getD, Sparse.put, Sparse.find, Ne.symm hr]
  unfold State.liveTime
  rw [hp]
  simp
theorem test_timeLive_ends : ((ported { st := 4, tm := { last := some 5 } }).port 0).tm.last = some 5 ∧
    (ported { st := 4, tm := { last := some 5 } }).boot.pwrgood = true ∧
    (ported { st := 4, tm := { last := some 5 } }).time.isSource = false := by decide +kernel

/-- A chip with a Sundial of its own, whose management addresses are set. -/
def timed (t : Sundial) : State := { (on.setObj 0x1200 2 1).setObj 0x1103 1 1 with time := t }

theorem test_source_lost :
    (timed { lossSince := some 5 }).time.lossSince = some 5 ∧ (timed { lossSince := some 5 }).time.isSource = false ∧
    (let s := { (timed { lossSince := some 5, epoch := some { id := 8, tai := 0 } }).setPort 0 { st := 4, tm := { last := some 250000, epoch := 8, hops := 0xFF } } with
       cyc := { ns := 250005 } }
     s.time.epoch.isSome = true ∧ 5 + 250000 ≤ s.cyc.ns ∧ s.liveTime 0 = true ∧
       ∀ q, q < 64 → s.liveTime q = true → (s.port q).tm.hops = 0xFF) ∧
    ∀ q, q < 64 → (timed { lossSince := some 5 }).liveTime q = false := by decide +kernel
theorem test_source_elected :
    (let s := timed { electing := true, epoch := some { id := 8, tai := 0 } }
     s.time.isSource = false ∧ s.time.electing = true ∧ (s.setObj 0x1101 1 5).obj 0x1101 1 ≠ 0 ∧
       (∀ o ∈ [({ chip := 0x7FFF, prio := 5 } : Candidate), { chip := 0, prio := 4 }], o.prio < (s.setObj 0x1101 1 5).obj 0x1101 1 ∨
         (o.prio = (s.setObj 0x1101 1 5).obj 0x1101 1 ∧ s.chipId ≤ o.chip)) ∧
       (∃ o ∈ [({ chip := 0, prio := 5 } : Candidate)], (s.setObj 0x1101 1 5).obj 0x1101 1 < o.prio ∨
         (o.prio = (s.setObj 0x1101 1 5).obj 0x1101 1 ∧ o.chip < s.chipId)) ∧ (s.setObj 0x1101 1 0).obj 0x1101 1 = 0) ∧
    ((timed {}).time.epoch = none ∧ (timed {}).livePorts = [] ∧ (timed {}).boot.phase = 8) := by decide +kernel
theorem test_holdover_ends : (timed { st := 1, holdSince := some 3 }).time.st = 1 ∧ (timed { st := 1, holdSince := some 3 }).time.holdSince = some 3 := by
  decide +kernel
theorem test_frame_boundary :
    ((ported { st := 2, frameUncorr := 1 }).port 0).frameUncorr ≠ 0 ∧ 2 ≤ ((ported { st := 2, frameUncorr := 1 }).port 0).st ∧
    (on.boot.pwrgood = true ∧ on.time.offset = none ∧ on.time.isSource = false ∧ on.time.trimFrac = 0) ∧
    (∀ r ∈ (timed {}).ports, r.2.frameUncorr = 0) ∧ (timed { offset := some (-1001) }).time.offset = some (-1001) ∧
    (let s := timed { offset := some (-1000), inBound := 7, st := 0, epoch := some { id := 8, tai := 0 }, upstream := some 0, offsetAt := 0 }
     (∀ r ∈ s.ports, r.2.frameUncorr = 0) ∧ s.time.isSource = false ∧ s.time.offset = some (-1000) ∧ 7 ≤ s.time.inBound ∧ s.time.st ≠ 2 ∧
       s.time.epoch.isSome = true ∧ s.time.upstream.isSome = true) ∧
    ({ timed { offset := some 8, offsetAt := 0 } with cyc := { ns := 0 } } : State).residual 8 ≤ 16000 ∧ steadyB on = true ∧
    ((ported { st := 4, frameUncorr := 1 }).port 0).st ≤ 4 := by decide +kernel
theorem test_ptp_sync :
    let s := timed { epoch := some { id := 8, tai := 0 }, st := 2 }
    (∀ r ∈ [1, 128], let m : PtpSync := { udp4 := true, peerDelay := false, domain := s.obj 0x1103 2, rate := r, offset := 1001, tai := 0 }
      m.udp4 = true ∧ m.peerDelay = false ∧ m.domain = s.obj 0x1103 2 ∧ 1 ≤ m.rate ∧ m.rate ≤ 128) ∧
    s.obj 0x1103 1 = 1 ∧ s.mgmtNet = true ∧ s.time.isSource = false ∧ s.time.upstream = none ∧ s.time.epoch.isSome = true ∧ s.time.st = 2 ∧
      s.time.st ≠ 1 ∧ s.obj 0x1103 2 ≠ 255 ∧
      (timed { ptpLast := some 3, st := 2, ref := 2 }).time.ptpLast = some 3 ∧ (timed { ptpLast := some 3, st := 2, ref := 2 }).time.st = 2 ∧
      (timed { ptpLast := some 3, st := 2, ref := 2 }).time.ref = 2 := by decide +kernel
theorem test_reform : Takes on .pf0 0x1106 1 1 1 ∧ on.anyPav = false ∧ Takes (owned on) .pf0 0x1106 1 1 1 ∧ (owned on).anyPav = true :=
  ⟨takes_of (by decide +kernel), by decide +kernel, takes_of (by decide +kernel), by decide +kernel⟩
theorem test_ownEpoch : on.time.epoch = none ∧ on.boot.phase = 8 ∧ (on.setObj 0x1101 1 255).obj 0x1101 1 ≠ 0 ∧ ∀ r ∈ on.ports, r.2.st ≠ 4 := by
  decide +kernel
theorem test_pps : (timed { ppsOut := true }).time.ppsOut = true ∧ (on.setObj 0x1104 1 2).obj 0x1104 1 = 2 ∧
    (timed { isSource := true }).time.isSource = true ∧ Gives on .pf0 0x1100 7 := ⟨rfl, by decide +kernel, rfl, gives_of (by decide +kernel)⟩

/-! ### Links -/

/-- A whole message for chip `d` of kind 5 and Pavilion 0 in one flit. -/
def dflit (d : Nat) (tail : Bool) : DFlit :=
  { vc := 2, head := true, tail := tail, poison := false, payload := leBytes 32 (d + 5 * 2 ^ 52) ++ List.replicate 208 0 }
def flit (ty : Nat) (payload : Nat) : Flit := { ty := ty, payload := payload }
def tx0 : TxMsg :=
  { vc := 2, pav := 0, inPort := none, flits := [dflit 3 true], whole := true, started := false, hdr := msg 5 0 0 [], core := 0, cmd := 0, frame := 0 }
def rflit0 : RFlit := { seq := 7, flit := dflit 3 true, hdr := msg 5 0 0 [] }

theorem test_flit_wf : ({
    ty := 5, vc := 7, head := true, tail := true, poison := true, credV := true, credVc := 7, cred := 511, ackV := true,
    ack := 4095, seq := 4095, payload := 2 ^ 1920 - 1 } : Flit).wf = true := by decide +kernel
set_option maxRecDepth 100000 in
theorem test_flit_bad : ((ported { st := 2 }).port 0).takes = true ∧ Flit.decode (0 : BitVec 2048) = none := by decide +kernel
theorem test_flit_inOrder :
    (let s := ported { st := 4, ll := { rxSeq := 4095, granted := [(2, 1)] } }
     let f : Flit := { flit ftData 0 with seq := 4095, vc := 2 }
     (s.port 0).st = 4 ∧ f.wf = true ∧ f.ty = ftData ∧ (f.seq + 4096 - (s.port 0).ll.rxSeq) % 4096 = 0 ∧
       Sparse.getD (s.port 0).ll.granted f.vc (s.vcCredits f.vc) ≠ 0 ∧ (Sparse.getD (s.port 0).rx f.vc {}).route = none) ∧
    (let s := ported { st := 4, ll := { rxSeq := 0 } }
     ∀ k ∈ [511, 512, 3583, 3584], (k + 4096 - (s.port 0).ll.rxSeq) % 4096 ≠ 0 ∧ (s.port 0).ll.dropping = false) := by decide +kernel
theorem test_flits_answered :
    (let s := ported { st := 4, ll := { retry := [rflit0], credits := [(0, 1)] } }
     (s.port 0).takes = true ∧ ({ flit ftIdle 0 with ackV := true, ack := 7, credV := true } : Flit).wf = true ∧
       (s.port 0).ll.retry = [] ++ rflit0 :: [] ∧ rflit0.seq = 7 ∧ (s.port 0).ll.credits ≠ []) ∧
    (flit ftNak 0).wf = true ∧ (flit ftHold 5).wf = true ∧ (flit ftInit 5).wf = true ∧ ((ported { st := 3 }).port 0).takes = true ∧
    ((ported { st := 3 }).port 0).ll.credits = [] := by decide +kernel
theorem test_slot_sends :
    (∀ l ∈ [({ nakDue := true } : PortLl), { replay := [rflit0] }, { credits := [(2, 1)] }, {}],
      let s := ported { st := 4, ll := l, tx := [tx0] }
      (s.port 0).st = 4 ∧ (s.port 0).peerHold = false ∧ s.chipState ≠ 5 ∧ s.blp 0 = true ∧ s.cyc.ns < (s.port 0).tm.lastSent + 16000 ∧
        (s.port 0).ll.nakCount < 7 ∧ (s.port 0).ll.retry.length < 512) ∧
    (ported { st := 4, ll := { credits := [(2, 1)] }, tx := [tx0] }).nextTx 0 = some 0 ∧
    (ported { st := 4, tx := [tx0] }).nextTx 0 = none := by decide +kernel
theorem test_slot_trains :
    (let s := { ported { st := 2 } with boot := { phase := 5, pwrgood := true } }
     (s.port 0).st = 2 ∧ s.inService = false ∧ s.blp 0 = true) ∧
    (let s := ported { st := 3, ll := { initSent := 3, initGot := true } }
     (s.port 0).st = 3 ∧ s.inService = true ∧ (s.port 0).noInitBefore ≤ s.cyc.ns) := by decide +kernel
theorem test_training :
    (((ported { st := 1 }).port 0).st = 1 ∧ ((ported { st := 1 }).port 0).retryAt = none ∧ ((ported { st := 1 }).port 0).wasUp = false) ∧
    ((ported { st := 1, wasUp := true, fails := 1000 }).port 0).wasUp = true ∧
    (ported { st := 1, wasUp := true, fails := 1000 }).obj 0x5000 6 ≤ ((ported { st := 1, wasUp := true, fails := 1000 }).port 0).fails + 1 ∧
    ((ported { st := 5 }).port 0).st = 5 ∧ ((ported { st := 1, retryAt := some 9 }).port 0).retryAt = some 9 ∧
    (on.link.group < 8 ∧ 5 ≤ on.boot.phase ∧ on.boot.standby = false) := by decide +kernel
theorem test_port_objects : Takes (ported { st := 4 }) .pf0 0x2500 0xD 1 1 ∧ ((ported { st := 4 }).port 0).takes = true ∧
    Takes (ported { st := 4 }) .pf0 0x2500 1 1 0 ∧ Takes on .pf0 0x2500 1 1 1 ∧ (on.port 0).st = 0 ∧
    (∀ n ∈ [0, 1, 5], takesB (ported { st := n }) .pf0 0x2500 0xD 1 1 = true) :=
  ⟨takes_of (by decide +kernel), by decide +kernel, takes_of (by decide +kernel), takes_of (by decide +kernel), by decide +kernel⟩

/-- Chip 0, whose port 0 holds `d` in channel 2, routes `r`, bundle 0 through port 1, which is UP. -/
def heads (d : DFlit) (r : Nat) : State :=
  { (((owned on).setObj 0x2540 1 0).setPort 0 { st := 4, rx := [(2, { flits := [d] })] }).setPort 1 { st := 4 } with
    link := { active := some r, bundles := [(0, 2)] } }

/-- What routing reads of a head flit of channel 2. -/
def headOf (d : DFlit) : Msg := { Msg.ofBytes (clean d.payload) with level := vcLevel 2 }

theorem test_head_arrives :
    (∀ t ∈ [true, false], let s := heads (dflit 0 t) 0xFE
      (Sparse.getD (s.port 0).rx 2 {}).route = none ∧ (Sparse.getD (s.port 0).rx 2 {}).flits = [dflit 0 t] ∧ (dflit 0 t).head = true ∧
        s.hop (headOf (dflit 0 t)) = .here ∧ s.earlyFull (headOf (dflit 0 t)) = false) ∧
    (let m := { Msg.ofBytes ((dflit 0 true).payload.map (fun b => (b, false))) with level := vcLevel 2 }
     1 ≤ m.kind ∧ m.kind ≤ 6 ∧ ((heads (dflit 0 true) 0xFE).pav m.dpav).st = .active ∧ ((heads (dflit 0 true) 0xFE).pav m.dpav).resetAt = 0) ∧
    (let s := heads (dflit 3 true) 0
     s.hop (headOf (dflit 3 true)) = .port 1 ∧
       s.flowHeld (headOf (dflit 3 true)) (2 * (2 / 2) + s.dateline (some (0, 2 % 2)) 1) 1 = false ∧
       ∀ t ∈ (s.port 1).tx, t.inPort ≠ some (8 * 0 + 2)) ∧
    (heads (dflit 3 true) (16 * 2 ^ 24)).hop (headOf (dflit 3 true)) = .fail 2 ∧
    (heads { dflit 3 true with head := false } 0).port 0 = { st := 4, rx := [(2, { flits := [{ dflit 3 true with head := false }] })] } := by
  decide +kernel
/-- One byte of a collective's message waits for its instance; 1 MiB more do not fit beside it (14 R393). -/
theorem test_head_early :
    let d : DFlit := { vc := 2, head := true, tail := false, poison := false,
                       payload := leBytes 32 (2 ^ 16 + 5 * 2 ^ 52 + 2 ^ 20 * 2 ^ 64 + 255 * 2 ^ 128) ++ List.replicate 208 0 }
    let s := (heads d 0xFE).setPav 0 { st := .active, rot := { plans := [(255, 2 ^ 16 + 2 ^ 24 + 2 ^ 31 + 1000 * 2 ^ 32 + 2 ^ 64 +
      (1 + 2 ^ 16 + 2 ^ 32) * 2 ^ 256)] } }
    let t := { s with link := { s.link with delivered := [{ headOf d with len := some 1 }] } }
    t.hop (headOf d) = .here ∧ t.earlyFull (headOf d) = true ∧ s.earlyFull (headOf d) = false := by decide +kernel
theorem test_notice :
    let h := { msg 3 tag0 0 [] with src := 0 }
    let m := { msg 8 0 0 (clean (leBytes 32 (h.kind * 2 ^ 52 + tag0 * 2 ^ 128))) with level := 3 }
    let s := { diced { rnd := some (round0 false 2) } (on.setObj 0x2540 1 0) with link := { delivered := [m] } }
    takesMsg s (fun m => m.kind = 8) m ∧ Msg.ofHeader (leNat (rawBytes m.data)) [] = { h with level := 3 } ∧ h.kind = 3 ∧
      tgChip h.arg0 = s.chipId ∧ (s.pav h.spav).dice.rnd = some (round0 false 2) ∧
      (s.pav h.spav).dice.choiceOf h.arg0 = some (round0 false 2, choice0 2) ∧
      (round0 false 2).srcs.find? (fun x => x.source = (choice0 2).source) = some src0 ∧
      (round0 false 2).toks.find? (fun t => t.source = (choice0 2).source && t.pos = (choice0 2).pos) = some tok0 ∧
      (∀ k ∈ [0, 7, 8, 15], (Msg.ofHeader (leNat (rawBytes (clean (leBytes 32 (k * 2 ^ 52))))) []).kind = k) :=
  ⟨takesMsg_of (by decide +kernel), by decide +kernel⟩
theorem test_inject_waits :
    let i : Inject := { msg := msg 5 0 0 [], core := 0, cmd := 1, frame := 0 }
    let s := { on with link := { inject := [i] }, time := { now := 250000 * 70000 } }
    i ∈ s.link.inject ∧ i.msg.kind ≠ 8 ∧ i.frame + s.obj 0x2540 6 ≤ s.frame ∧ i.cmd ≠ 0 := by decide +kernel
theorem test_routeCommit : Takes on .pf0 0x2540 3 1 1 := takes_of (by decide +kernel)

/-- A chip whose port 56 is an Ethernet port. -/
def eth (p : Port) : State := (on.setObj 0x2550 1 1).setPort 56 p

theorem test_eth_timers : ((eth { st := 4, ethBuf := [0] }).port (56 + 0)).ethBuf ≠ [] ∧ (eth { st := 4 }).blp (56 + 0) = false ∧
    ((eth { st := 4 }).port (56 + 0)).st = 4 ∧ ((eth { st := 4 }).port (56 + 0)).ethBuf = [] ∧
    ((eth { st := 4 }).port (56 + 0)).takes = true ∧ (eth { st := 4 }).ethOpen 0 [] = none := by decide +kernel
set_option maxRecDepth 100000 in
theorem test_eth_opens :
    let f : Flit := { ty := ftTime, payload := 5 }
    let s := (((eth { st := 4 }).setObj 0x2550 3 7).setObj 0x2550 2 7)
    s.ethOpen 0 (((s.ethFrame 0 [f.encode]).dropLast).dropLast.dropLast.dropLast) = some [f.encode] ∧ Flit.decode f.encode = some f := by
  decide +kernel

/-! ### Rotunda -/

/-- Plan of an all-reduce in FP32 over cores 0 of this chip and chip 1, in one stage of two (14 Table 14-1). -/
def plan0 : Nat := 2 ^ 16 + 2 ^ 24 + 2 ^ 31 + 1000 * 2 ^ 32 + 2 ^ 64 + (1 + 2 ^ 16 + 2 ^ 32) * 2 ^ 256

/-- Pavilion 0 with a Rotunda. -/
def rotated (r : RotSt) (s : State) : State := (s.setObj 0x3000 2 1).setPav 0 { st := .active, rot := r }

/-- A load of the 64 bytes at 64, which hold `r`. -/
def planLoads (r : Nat) (x : RotSt) : State :=
  { (mapped on).setPav 0 { st := .active, rot := { x with loading := some (255, 64) } } with mem := Mem.write [(7, 0xE0)] 64 (leBytes 64 r) }

def inst0 : Inst := { plan := 255, num := 0, parts := [{ core := 0, cmd := 1, src := 0, dst := 4096, record := 65536, len := 512, launch := 0, written := false }] }

theorem unusable_of {s : State} {n : Nat} (h : (s.core n).fence.st = 2) : s.coreUsable n = false := by simp [State.coreUsable, h]

/-- The same plan over cores 0 and 1 of this chip alone. -/
def plan1 : Nat := 2 ^ 16 + 2 ^ 24 + 2 ^ 31 + 1000 * 2 ^ 32 + 3 * 2 ^ 64

theorem test_plan_loads (h : coreShipped 0 = false) :
    (Takes (owned on) .pf0 0x2610 3 1 1) ∧
    (((planLoads plan0 {}).pav 0).rot.loading = some (255, 64) ∧
      (∃ b t, (planLoads plan0 {}).unitRead 0 64 64 2 = (.ok b, t) ∧
        (decide (leNat (rawBytes b) = plan0) && !planBad (leNat (rawBytes b))) = true) ∧
      (∀ n ∈ plCores plan0, (planLoads plan0 {}).coreUsable n = true ∧ bit ((planLoads plan0 {}).pavCores 0) n = true) ∧ plan0 < 2 ^ 512 ∧
      plMask plan0 < 2 ^ 144 ∧ (planLoads plan0 {}).inst 0 255 = none ∧ ((planLoads plan0 { insts := [inst0] }).inst 0 255).isSome = true ∧
      Sparse.find ((planLoads plan0 { staged := [(254, 0)], insts := [{ inst0 with plan := 253 }] }).pav 0).rot.staged 253 = none ∧
      ((planLoads plan0 { insts := [{ inst0 with plan := 253 }] }).inst 0 253).isSome = true) ∧
    (∃ b t, (planLoads 0 {}).unitRead 0 64 64 2 = (.ok b, t) ∧ planBad (leNat (rawBytes b)) = true) ∧
    (∃ b t, (planLoads plan1 {}).unitRead 0 64 64 2 = (.ok b, t) ∧
      (decide (1 ∈ plCores (leNat (rawBytes b))) && !bit ((planLoads plan1 {}).pavCores 0) 1) = true) ∧
    (∃ t, ((hosted on).setPav 0 { st := .active, rot := { loading := some (255, 64) } }).unitRead 0 64 64 2 = (.wait, t)) ∧
    ∃ c t, (rotated { loading := some (255, 64) } on).unitRead 0 64 64 2 = (.error c, t) := by
  refine ⟨takes_of (by decide +kernel), ⟨by decide +kernel, unit_ok (by decide +kernel), ?_, by decide +kernel⟩, unit_ok (by decide +kernel),
    unit_ok (by decide +kernel), unit_waits (by decide +kernel), unit_fails (by decide +kernel)⟩
  rw [show plCores plan0 = [0] by decide +kernel]
  intro n hn
  rw [List.mem_singleton.mp hn]
  exact ⟨usable_of h (by decide +kernel), by decide +kernel⟩
theorem test_plan_staged : Sparse.find ((rotated { staged := [(255, plan0)] } on).pav 0).rot.staged 255 = some plan0 ∧
    (rotated { staged := [(255, plan0)] } on).inst 0 255 = none ∧
    (∀ x ∈ ((rotated { staged := [(255, plan0)], insts := [inst0] } on).pav 0).rot.staged,
      ((rotated { staged := [(255, plan0)], insts := [inst0] } on).inst 0 x.1).isSome = true) ∧
    Sparse.find ((rotated { staged := [(255, plan0), (9, plan0)], insts := [{ inst0 with plan := 9 }] } on).pav 0).rot.staged 9 = some plan0 ∧
    ((rotated { staged := [(255, plan0), (9, plan0)], insts := [{ inst0 with plan := 9 }] } on).inst 0 9).isSome = true := by decide +kernel

/-- A COLLECT of plan 255 with 512 bytes. -/
def collect : LongCmd := { longCmd 0x38 255 with x1 := BitVec.ofNat 128 (512 * 2 ^ 64), a := 0, b := 4096, c := 65536 }
def collecting (r : RotSt) : State := rotated r (with0 (runs { rot := { queue := [collect] } }))

theorem test_collect_starts :
    (∀ r ∈ [({} : RotSt), { plans := [(255, plan1)] }, { plans := [(255, plan1)], insts := [{ inst0 with parts := [] }] }], let s := collecting r
      (s.core 0).rot.queue = collect :: [] ∧ (s.core 0).rot.run = [] ∧ (s.core 0).engineGo = true ∧ s.owner 0 = some 0 ∧
        (s.core 0).readBlocked (s.collectSrc 0 collect).1 (s.collectSrc 0 collect).2 = false ∧ s.power.clockOn = true ∧
        (s.core 0).wins = []) ∧
    bit (plMask ((collecting {}).plan 0 (collect.m 15 0))) 0 = false ∧
    bit (plMask ((collecting { plans := [(255, plan1)] }).plan 0 (collect.m 15 0))) 0 = true ∧
    1 ∈ plCores ((collecting { plans := [(255, plan1)] }).plan 0 (collect.m 15 0)) ∧
    (collecting { plans := [(255, plan1)] }).inst 0 (collect.m 15 0) = none ∧
    (collecting { plans := [(255, plan1)], insts := [{ inst0 with parts := [] }] }).inst 0 (collect.m 15 0) = some { inst0 with parts := [] } ∧
    ({ inst0 with parts := [] } : Inst).fail = none ∧ (∀ y ∈ ({ inst0 with parts := [] } : Inst).parts, y.core ≠ 1) ∧
    (let s := (collecting { plans := [(255, plan1)] }).updCore 0 (fun c => { c with wins := win0 })
     (s.core 0).readBlocked (s.collectSrc 0 collect).1 (s.collectSrc 0 collect).2 = true ∧ (s.core 0).engineGo = true) := by decide +kernel
theorem test_collect_cores (h : coreShipped 0 = false) (g : coreShipped 1 = false) :
    (∀ c ∈ plCores ((collecting { plans := [(255, plan1)] }).plan 0 (collect.m 15 0)), (collecting { plans := [(255, plan1)] }).coreUsable c = true) ∧
    ((collecting { plans := [(255, plan1)] }).setCore 1 { fence := { st := 2 } }).coreUsable 1 = false ∧
    ({ inst0 with refused := true } : Inst).refused = true := by
  refine ⟨?_, unusable_of (by decide +kernel), rfl⟩
  rw [show plCores ((collecting { plans := [(255, plan1)] }).plan 0 (collect.m 15 0)) = [0, 1] by decide +kernel]
  intro c hc
  rcases List.mem_cons.mp hc with rfl | hc
  · exact usable_of h (by decide +kernel)
  · rw [List.mem_singleton.mp hc]
    exact usable_of g (by decide +kernel)
/-- The last core of an instance starts, before its LAUNCH. -/
theorem test_collect_ready :
    let l := { collect with x1 := BitVec.ofNat 128 (512 * 2 ^ 64 + 5000) }
    let z : Part := { core := 1, cmd := 1, src := 0, dst := 4096, record := 65536, len := 512, launch := 5000, written := false }
    let x := { inst0 with parts := [z] }
    let s := rotated { plans := [(255, plan1)], insts := [x] } (with0 (runs { rot := { queue := [l] } }))
    (s.core 0).rot.queue = l :: [] ∧ (s.core 0).engineGo = true ∧ s.inst 0 (l.m 15 0) = some x ∧ bits l.y1 63 0 = 5000 ∧ x.fail = none ∧
      (∀ m ∈ plCores (s.plan 0 (l.m 15 0)), m = 0 ∨ ∃ z ∈ x.parts, z.core = m) ∧ x.launched = false ∧ s.time.now < 5000 ∧
      (s.core 0).readBlocked (s.collectSrc 0 l).1 (s.collectSrc 0 l).2 = false := by decide +kernel
theorem test_instance_ends :
    (∀ x ∈ [inst0, { inst0 with readyAt := some 0, launched := true }, { inst0 with launched := true, complete := true }],
      let s := rotated { plans := [(255, plan0)], insts := [x] } on
      s.inst 0 255 = some x ∧ x.parts = inst0.parts ∧ x.fail = none ∧ (∀ c ∈ plCores (s.plan 0 255), ∃ z ∈ x.parts, z.core = c) ∧
        ∀ z ∈ x.parts, (s.core z.core).wins = [] ∧ (s.core z.core).runOf .rot z.cmd = none) ∧
    ({ inst0 with readyAt := some 0, launched := true } : Inst).base.isSome = true ∧
    (let s := rotated { plans := [(255, plan0)], insts := [inst0] } on
     s.rotActive < 32 ∧ inst0.due = none ∧ s.launchFails 0 inst0 = 0 ∧
       s.launchFails 0 { inst0 with parts := inst0.parts.map (fun y => { y with len := 256 }) } ≠ 0) ∧
    (∀ t ∈ [0, 700], let x := { inst0 with due := some t, parts := inst0.parts.map (fun y => { y with launch := t }) }
     let s := rotated { plans := [(255, plan0)], insts := [x] } on
     s.inst 0 255 = some x ∧ s.rotActive < 32 ∧ s.turn { at_ := t, rank := 5, pav := (0 : PavIx).val, core := x.lead } = true ∧ steadyB s = true ∧
       (t = 0 → t ≤ s.time.now)) := by decide +kernel
/-- Results under way: DST waits to be written, or has been. -/
theorem test_instance_puts :
    let x := { inst0 with readyAt := some 0, launched := true, complete := true, putting := true }
    (∀ d ∈ [[DstPiece.plot 0 4096 512 0 none], []],
      let s := rotated { plans := [(255, plan0)], insts := [x] } (with0 (runs { rot := { run := [{ cmd := collect, dsts := d }] } }))
      s.inst 0 255 = some x ∧ x.base.isSome = true ∧ ∀ z ∈ x.parts, s.dstDone z = d.isEmpty) := by decide +kernel
/-- The deadline of an instance one of whose cores has not started. -/
theorem test_deadline_waits :
    let x := { inst0 with parts := inst0.parts.map (fun y => { y with launch := 5 }) }
    let s := rotated { plans := [(255, plan1)], insts := [x] } on
    s.inst 0 255 = some x ∧ x.fail = none ∧ 1 ∈ plCores (s.plan 0 255) ∧ (∀ z ∈ x.parts, z.core ≠ 1) ∧ x.base.isSome = true ∧
      x.complete = false := by decide +kernel
theorem test_result_written :
    let y : Part := { core := 0, cmd := 1, src := 0, dst := 4096, record := 65536, len := 512, launch := 0, written := false }
    let x := { inst0 with launched := true, complete := true, len := 512, vec := List.replicate 512 (0, false) }
    let s := rotated { plans := [(255, plan0)], insts := [x] } (with0 (runs { rot := { run := [{ cmd := collect }] } }))
    s.inst 0 255 = some x ∧ x.parts = [y] ∧ x.fail = none ∧ x.complete = true ∧ (s.core y.core).rot.run = [{ cmd := collect }] ∧
      collect.id = y.cmd ∧ (s.core y.core).wins = [] ∧ (x.result (s.plan 0 255) y).1 = 0 ∧ (x.result (s.plan 0 255) y).2 ≠ [] ∧
      (∀ i ∈ linesOf (y.dst + 0) (x.result (s.plan 0 255) y).2.length, i ∉ linesOf y.record 16) ∧ x.putting = false := by decide +kernel

/-- A message of plan 255 and instance `num` from chip `src`, with data. -/
def rotMsg (kind src num lenB : Nat) (d : List PByte) : Msg :=
  { msg kind (255 + 7 * 2 ^ 24 * (kind - 5) + num * 2 ^ 32) (lenB * 2 ^ 32) d with src := src }
def exchanging (m : Msg) (x : List Inst) : State :=
  { rotated { plans := [(255, plan0)], insts := x } on with link := { delivered := [m] } }

theorem test_collective_dropped :
    (∀ k ∈ [5, 6], ∀ y ∈ [rotMsg k 2 0 512 [], rotMsg k 1 (2 ^ 32 - 1) 512 []],
      ((exchanging y []).takeMsg ((exchanging y []).rotNext (0 : PavIx) k)).map Prod.fst = some y) ∧
    (∀ k ∈ [5, 6], (exchanging (rotMsg k 2 0 512 []) []).rotFrom 0 (rotMsg k 2 0 512 []) = false ∧
      (exchanging (rotMsg k 1 (2 ^ 32 - 1) 512 []) []).rotFrom 0 (rotMsg k 1 (2 ^ 32 - 1) 512 []) = true ∧
      (exchanging (rotMsg k 1 (2 ^ 32 - 1) 512 []) []).rotAge 0 (rotMsg k 1 (2 ^ 32 - 1) 512 []) = 1) := by
  decide +kernel
theorem test_collective_data :
    let d : List PByte := List.replicate 4 (0, false)
    let m := rotMsg 5 1 0 512 d
    let x := { inst0 with launched := true, len := 512, vec := List.replicate 512 (0, false) }
    let s := exchanging m [x]
    takesMsg s (s.rotNext (0 : PavIx) 5) m ∧ s.rotFrom 0 m = true ∧ s.rotAge 0 m = 0 ∧ s.inst 0 m.rPlan = some x ∧ x.fail = none ∧
      x.launched = true ∧ x.complete = false ∧
      plOp (s.plan 0 m.rPlan) ≠ 3 ∧ (exchanges (s.plan 0 m.rPlan))[x.ex]? = some (m.rStage, false) ∧ bit m.arg0 16 = false ∧
      bits m.arg1 31 0 = 0 ∧ stageRegion (s.plan 0 m.rPlan) x.vec.length m.rStage = (0, 512) ∧ bits m.arg1 63 32 = x.len ∧
      0 + m.data.length ≤ 0 + 512 ∧ m.data ≠ [] ∧ m.data.length % rotWidth (s.plan 0 m.rPlan) = 0 ∧
      (let e := plStage (s.plan 0 m.rPlan) m.rStage
       0 + m.data.length ≤ 0 + ((0 - 0) / (512 / sgSize e) + 1) * (512 / sgSize e) ∧
         (0 - 0) / (512 / sgSize e) ≠ (sgPos e + sgSize e - 1) % sgSize e ∧ x.got + m.data.length < 512 - 512 / sgSize e ∧
         512 - 512 / sgSize e ≤ 252 + m.data.length) ∧
      bits (rotMsg 5 1 0 256 d).arg1 63 32 ≠ x.len ∧ (∀ c ∈ plCores (s.plan 0 m.rPlan), ∃ z ∈ x.parts, z.core = c) :=
  ⟨takesMsg_of (by decide +kernel), by decide +kernel⟩
/-- Data of a BROADCAST whose root is at position 0, this chip at position 1, before its COLLECT has started. -/
theorem test_collective_cast :
    let m := rotMsg 5 1 0 512 (List.replicate 512 (3, false))
    let s := { rotated { plans := [(255, plan0 + 3 + 2 ^ (256 + 8))] } on with link := { delivered := [m] } }
    takesMsg s (s.rotNext (0 : PavIx) 5) m ∧ s.rotFrom 0 m = true ∧ s.rotAge 0 m = 0 ∧ plOp (s.plan 0 m.rPlan) = 3 ∧
      m.rStage = castStage (s.plan 0 m.rPlan) ∧ s.inst 0 m.rPlan = none ∧ bits m.arg1 63 32 = 512 ∧
      bits m.arg1 31 0 + m.data.length ≤ (zeroRow (bits m.arg1 63 32)).length ∧ m.data ≠ [] :=
  ⟨takesMsg_of (by decide +kernel), by decide +kernel⟩
theorem test_collective_abort :
    let m := rotMsg 6 1 0 3 []
    (∀ x ∈ [[], [inst0], [{ inst0 with parts := [] }], [{ inst0 with fail := some { code := 2, origin := 0, remote := false } }]],
      let s := exchanging m x
      (s.takeMsg (s.rotNext (0 : PavIx) 6)).map Prod.fst = some m ∧ s.rotFrom 0 m = true ∧ s.rotAge 0 m = 0 ∧ s.inst 0 m.rPlan = x.head?) ∧
    plCores ((exchanging m []).plan 0 m.rPlan) = [0] := by decide +kernel

/-! ### Debug -/

theorem test_stalemate_arrives :
    (∀ op ∈ [1, 2], let m := { msg 7 (op + 5 * 2 ^ 32) 0 [] with level := 3 }
      let s := { on with link := { delivered := [m], sysIn := [0], stIds := [6] } }
      (s.takeStale op).map (fun x => (x.1, x.2.1)) = some (m, 0) ∧ m.arg0 / 2 ^ 32 % 2 ^ 32 ∉ s.link.stIds ∧
        m.arg1 = 0 ∧ m.arg0 / 2 ^ 32 % 2 ^ 32 ∈ [5]) ∧
    (let m := { msg 7 (1 + 5 * 2 ^ 32) 4 (clean (leBytes 16 1)) with level := 3 }
     let s := { owned (with0 (runs {})) with link := { delivered := [m], sysIn := [0], stIds := [6] }, time := { now := 5 } }
     (s.takeStale 1).map (fun x => (x.1, x.2.1)) = some (m, 0) ∧ m.arg1 ≠ 0 ∧ m.arg1 < s.time.now ∧ bit m.stalePavs 0 = true ∧ 0 ∈ s.coresOf 0 ∧
       (s.core 0).ctl.st = .run ∧ (s.core 0).ctl.drain = .none ∧ (s.core 0).fence.run = .none) := by decide +kernel
theorem test_stalemate_times :
    (let s := (((owned (with0 (runs {}))).setObj 0x6020 1 7).setObj 0x6020 2 1).setObj 0x6020 3 9
     s.obj 0x6020 1 ≠ 0 ∧ s.turn { at_ := s.obj 0x6020 1, rank := 1 } = true ∧ steadyB s = true ∧ 0 ∈ s.staleCores ∧
       (s.core 0).ctl.drain = .none ∧ 1 ∉ s.staleCores ∧ (s.core 1).dbg.haltAt = none ∧ s.obj 0x6020 3 ≠ 0 ∧ s.power.clockOn = true) ∧
    (let s := (with0 (runs { dbg := { bps := [(0, { armed := true, kind := 2, mtch := 5 })] } })).setObj 0x6020 1 7
     s.turn { at_ := s.obj 0x6020 1, rank := 1 } = false) ∧
    (let s := with0 { ctl := { st := .halted }, dbg := { reason := 1 } }
     (s.core 0).ctl.st = .halted ∧ (s.core 0).dbg.reason % 256 = 1 ∧ (s.core 1).ctl.st ≠ .halted) ∧
    takesB on .pf0 0x6020 4 1 1 = true ∧ (ported { st := 4 }).portUp 0 = true ∧
    (let s := (owned on).setObj 0x6030 1 7
     s.obj (0x6030 + 0) 1 ≠ 0 ∧ s.turn { at_ := s.obj (0x6030 + 0) 1, rank := 2, pav := (0 : PavIx).val } = true ∧ 0 ∈ s.coresOf 0 ∧
       1 ∉ s.coresOf 0) := by decide +kernel
theorem test_resume_waitcnt :
    let s := { with0 { ctl := { st := .halted }, sa := { present := true, wait := .cnt 1 5 3 4 } } with time := { now := 250000 * 9 } }
    Takes s .pf0 0x6010 5 1 1 ∧ (s.core 0).ctl.st = .halted ∧ (s.core 0).sa.wait = .cnt 1 5 3 4 ∧ s.frame = 9 ∧
      ((s.resumeCore 0 false).core 0).sa.wait = .cnt 1 5 3 12 := by
  exact ⟨takes_of (by decide +kernel), by decide +kernel, by decide +kernel, by decide +kernel, by decide +kernel⟩
theorem test_dbg_objects :
    (owned (with0 (runs {}))).dbgCore .pf0 = .ok 0 ∧ Takes (owned (with0 (runs {}))) .pf0 0x6010 4 1 1 ∧
    (((owned (with0 (runs {}))).core 0).ctl.st = .run ∧ ((owned (with0 (runs {}))).core 0).ctl.drain = .none ∧
      ((owned (with0 (runs {}))).core 0).fence.run = .none) ∧ (on.core 0).ctl.st ≠ .run ∧ (on.core 0).ctl.st ≠ .halted ∧
    (∀ v ∈ [1, 2], Takes (with0 { ctl := { st := .halted } }) .pf0 0x6010 5 1 v) ∧
    ((with0 { ctl := { st := .halted } }).core 0).ctl.st = .halted ∧
    ((with0 { ctl := { st := .halted } }).core 0).bpMask (fun _ b => b.kind = 3 &&
      cntReached (((with0 { ctl := { st := .halted } }).core 0).cnt b.cnt) (b.mtch.setWidth 32)) = 0 := by
  refine ⟨by rfl, takes_of (by decide +kernel), by decide +kernel, by decide +kernel, by decide +kernel, ?_, by decide +kernel, by decide +kernel⟩
  intro v hv
  rcases List.mem_cons.mp hv with rfl | hv
  · exact takes_of (by decide +kernel)
  · rw [List.mem_singleton.mp hv]
    exact takes_of (by decide +kernel)

/-! ### PCIe -/

/-- The chip at milestone `n`. -/
def atPhase (n : Nat) : State := { boot := { pwrgood := true, phase := n } }

/-- VF1 exists and Pavilion 0 owns core 0 and the first 2 MiB. -/
def vfs (s : State) : State := { s with pcie := { vfEnable := true } }

theorem test_pcie_causes :
    (let s := vfs on
     s.fnExists 1 = true ∧ bit (s.fn 1).pending 0 = false ∧ bit (s.fn 1).mask 0 = false ∧ bits (s.fn 1).vector (8 * 0 + 7) (8 * 0) = 0 ∧
       bit (s.fn 1).mask 7 = true ∧ bit (s.fn 1).pending 7 = false ∧ s.msixOpen 1 0 = false) ∧
    (let s := (vfs on).setFn 1 { msix := true, busMaster := true, mask := 1, pending := 1, pba := 1, msixTable := [(3, 0)] }
     s.msixOpen 1 0 = true ∧ bit (s.fn 1).pending 0 = true ∧ bit (s.fn 1).mask 0 = true ∧ bit (0 : Word).toNat 0 = false ∧
       bits (s.fn 1).vector (8 * 0 + 7) (8 * 0) = 0 ∧ bit (s.fn 1).pba 0 = true ∧ (s.fn 1).busMaster = true ∧ (s.fn 1).fnMask = false ∧
       bit ((s.fn 1).tableWord (4 * 0 + 3)) 0 = false) := by decide +kernel
theorem test_doorbell :
    let s := vfs (owned on)
    s.fnExists (0 + 1) = true ∧ bits (16 * 2 ^ 16) 7 0 = 0 ∧ doorbellReserved (16 * 2 ^ 16) = false ∧ (s.posted (0 + 1)).owner 0 = some 0 ∧
      (s.posted (0 + 1)).power.clockOn = true := by decide +kernel
/-- Accesses of BAR0: the mailbox request without GO, the last words of INT_VECTOR and of the MSI-X table. -/
theorem test_bar0 : (vfs on).fnExists 16 = true ∧ 0x2080 % 4 = 0 ∧ bit (0x7FFFFFFF : DWord).toNat 31 = false ∧
    0x209C = 0x2080 + 4 * 7 ∧ 0x33FC = 0x3000 + 4 * 255 := by decide +kernel
theorem test_bar2 :
    let s := vfs (mapped on)
    s.fnExists 1 = true ∧ s.boot.ready = true ∧ s.org.far = [] ∧ (s.bar2Addr 1 0 4).isSome = true ∧ (s.bar2Addr 1 (2 ^ 21 - 4) 4).isSome = true ∧
      (s.bar2Addr 1 (2 ^ 21 - 4) 5).isNone = true ∧ (s.bar4Addr 1 (2 ^ 34) 4).isNone = true ∧ (atPhase 7).boot.ready = false ∧
      (atPhase 7).fnExists 0 = true := by decide +kernel
theorem test_config :
    (let s := { on with boot := { on.boot with perstN := true } }
     s.boot.perstN = true ∧ 2 ≤ s.boot.phase ∧ s.pcie.crsUntil ≤ s.cyc.ns ∧ s.fnExists 1 = false ∧ s.fnExists 0 = true) ∧
    (let s := { on with boot := { on.boot with perstN := true }, pcie := { crsUntil := 1 } }
     s.boot.perstN = true ∧ s.cyc.ns < s.pcie.crsUntil) ∧ (vfs on).pcie.vfEnable = true ∧ ((vfs (owned on)).pav 0).st = .active ∧ on.boot.pwrgood = true ∧
    on.boot.perstN = false := by decide +kernel
theorem test_bar4 (h : coreShipped 0 = false) : (vfs (owned on)).bar4Addr 1 0 4 = some (0, 0) := by
  have hu : (vfs (owned on)).coreUsable 0 = true := usable_of h (by decide +kernel)
  have ho : fnPav 1 = some 0 ∧ (vfs (owned on)).owner 0 = some 0 := by decide +kernel
  simp [State.bar4Addr, hu, plotSize, ho.1, ho.2]

/-! ### Requests to the dictionary -/

/-- The facts of Reads and ReadsWide, evaluated, and the checks of a read and a write that fail. -/
def errOf {A : Type} (x : Except Nat A) (e : Nat) : Bool := match x with | .ok _ => false | .error c => c == e
def okIs {A : Type} (x : Except Nat A) (P : A → Bool) : Bool := match x with | .ok v => P v | .error _ => false
def readsB (wide : Bool) (s : State) (who : Requester) (i sub v : Nat) : Bool :=
  servesB s who && okIs (s.readOk who i sub 0) (fun o => !tyBytes o.ty && decide (tyWide o.ty = wide)) && okIs (s.value who i sub) (· == v)

theorem errOf_iff {A : Type} {x : Except Nat A} {e : Nat} (h : errOf x e = true) : x = .error e := by
  unfold errOf at h
  split at h
  · cases h
  · rw [beq_iff_eq.mp h]

theorem okIs_of {A : Type} {x : Except Nat A} {P : A → Bool} (h : okIs x P = true) : ∃ v, x = .ok v ∧ P v = true := by
  unfold okIs at h
  split at h
  · exact ⟨_, rfl, h⟩
  · cases h

theorem value_of {s : State} {who : Requester} {i sub v : Nat} (h : okIs (s.value who i sub) (· == v) = true) : s.value who i sub = .ok v := by
  obtain ⟨x, hx, he⟩ := okIs_of h
  rw [hx, beq_iff_eq.mp he]

theorem reads_of {s : State} {who : Requester} {i sub v : Nat} (h : readsB false s who i sub v = true) : Reads s who i sub v := by
  rw [readsB, Bool.and_eq_true, Bool.and_eq_true] at h
  refine ⟨serves_of h.1.1, ?_, value_of h.2⟩
  obtain ⟨o, ho, hp⟩ := okIs_of h.1.2
  simp only [Bool.and_eq_true, Bool.not_eq_true', decide_eq_true_eq] at hp
  exact ⟨o, ho, hp.1, hp.2⟩

theorem readsWide_of {s : State} {who : Requester} {i sub v : Nat} (h : readsB true s who i sub v = true) : ReadsWide s who i sub v := by
  rw [readsB, Bool.and_eq_true, Bool.and_eq_true] at h
  refine ⟨serves_of h.1.1, ?_, value_of h.2⟩
  obtain ⟨o, ho, hp⟩ := okIs_of h.1.2
  simp only [Bool.and_eq_true, decide_eq_true_eq] at hp
  exact ⟨o, ho, hp.2⟩

/-- Objects of Dice that no rule but their range concerns: 16, 64 and 32 bits. -/
theorem plain_dice (who : Requester) (sub v : Nat) (h : sub ∈ [2, 4, 5]) : Plain who 0x2310 sub v := by
  intro t
  rcases List.mem_cons.mp h with rfl | h
  · rfl
  rcases List.mem_cons.mp h with rfl | h
  · rfl
  rw [List.mem_singleton.mp h]
  rfl

theorem test_mailbox_requests :
    (on = on.posted 0 ∧ bit (on.req (mbxWho 0).ix).mreq 31 = false ∧ (on.req (mbxWho 0).ix).staging = none) ∧
    (bit (0x81231005 : Word).toNat 30 = false ∧ bits (0x81231005 : Word).toNat 27 24 = 1 ∧ bits (0x81231005 : Word).toNat 23 8 = 0x2310 ∧
      Reads on (mbxWho 0) 0x2310 5 1) ∧
    (bits (0x8100FF01 : Word).toNat 27 24 = 1 ∧ Serves on (mbxWho 0) ∧ tyBytes ((objInfo 0xFF 1).getD default).ty = false ∧
      on.readOk (mbxWho 0) 0xFF 1 0 = .error stNoObject) ∧
    (bits (0x82231005 : Word).toNat 27 24 = 2 ∧ bits (0x82231005 : Word).toNat 23 8 = 0x2310 ∧ Takes on (mbxWho 0) 0x2310 5 2 7 ∧
      Plain (mbxWho 0) 0x2310 5 7) ∧
    (∀ o ∈ [1, 2], let r : Word := BitVec.ofNat 32 (0x80231005 + o * 2 ^ 24)
      let s := on.updReq (mbxWho 0).ix (fun q => { q with mreq := 2 ^ 31 })
      (s.posted 0).live (mbxWho 0) = true ∧ bit ((s.posted 0).req (mbxWho 0).ix).mreq 31 = true ∧ bits r.toNat 27 24 = o) :=
  ⟨⟨rfl, by decide +kernel⟩, ⟨by decide +kernel, by decide +kernel, by decide +kernel, reads_of (by decide +kernel)⟩,
    ⟨by decide +kernel, serves_of (by decide +kernel), by decide +kernel, errOf_iff (by decide +kernel)⟩,
    ⟨by decide +kernel, by decide +kernel, takes_of (by decide +kernel), plain_dice _ _ _ (by decide +kernel)⟩, by decide +kernel⟩
/-- The chip whose I3C target has the dynamic address 8. -/
def addressed (s : State) : State := { s with dict := { s.dict with i3cAddr := some 8 } }

theorem test_i3c_addresses : (0x5A : BitVec 7).toNat = on.i3cTarget ∧ (8 : BitVec 7).toNat = (addressed on).i3cTarget ∧
    (0x5A : BitVec 7).toNat ≠ (addressed on).i3cTarget ∧ (9 : BitVec 7).toNat ≠ on.i3cTarget ∧ (9 : BitVec 7) ≠ 0x5A ∧
    (0x5A : BitVec 7).toNat = State.reset.i3cTarget ∧ 0x2310 < 65536 ∧ 5 < 256 := by decide +kernel
theorem test_i3c_requests :
    (on.req 17).running = false ∧ (on.req 17).staging = none ∧ Reads on .i3c 0x2310 5 1 ∧ Takes on .i3c 0x2310 5 2 7 ∧ Plain .i3c 0x2310 5 7 ∧
    on.boot.phase ≠ 0 ∧ State.reset.boot.phase = 0 ∧ ((on.updReq 17 (fun q => { q with reply := some (0, 1) })).req 17).reply = some (0, 1) ∧
    ((on.updReq 17 (fun q => { q with running := true })).req 17).running = true :=
  ⟨by decide +kernel, by decide +kernel, reads_of (by decide +kernel), takes_of (by decide +kernel), plain_dice _ _ _ (by decide +kernel),
    by decide +kernel⟩
theorem test_object_access :
    (Serves on .pf0 ∧ on.writeOk .pf0 0x2310 0xD none = .error stAccess ∧
      (∃ o, on.writeOk .pf0 0x2310 4 none = .ok o ∧ (!tyBytes o.ty && decide (3 ≠ tySize o.ty)) = true) ∧
      ∃ o, on.writeOk .pf0 0x2310 4 none = .ok o ∧ (!tyBytes o.ty && decide (4 = tySize o.ty) && !o.inRange (999 % 256 ^ 4)) = true) ∧
    (Takes on .pf0 0x2310 4 4 1000 ∧ Plain .pf0 0x2310 4 1000) ∧
    (ReadsWide on .pf0 0x2310 2 0 ∧
      ((on.updReq Requester.pf0.ix (fun q => { q with latch := some (okey 0x2310 2, 3) })).req Requester.pf0.ix).latch = some (okey 0x2310 2, 3) ∧
      (on.req Requester.pf0.ix).latch = none) ∧
    (∃ o, on.writeOk .pf0 0x2310 2 none = .ok o ∧ tyWide o.ty = true) ∧
    (let s := on.updReq Requester.pf0.ix (fun q => { q with staging := some (okey 0x2310 2, 1) })
     Takes s .pf0 0x2310 2 8 (5 + 1 * 2 ^ 32) ∧ Plain .pf0 0x2310 2 (5 + 1 * 2 ^ 32) ∧
       (s.req Requester.pf0.ix).staging = some (okey 0x2310 2, 1)) ∧
    (∀ h, ((on.updReq Requester.pf0.ix (fun q => { q with staging := some (okey 0x2310 1, 1) })).req Requester.pf0.ix).staging ≠
      some (okey 0x2310 2, h)) ∧ (∀ k, Requester.pf0 ≠ .mop k) ∧
    (Takes on .pf0 0x2310 2 8 (5 + 0 * 2 ^ 32) ∧ Plain .pf0 0x2310 2 (5 + 0 * 2 ^ 32) ∧ (on.req Requester.pf0.ix).staging = none ∧
      on.value .pf0 0x2310 2 = .ok 0) :=
  ⟨⟨serves_of (by decide +kernel), errOf_iff (by decide +kernel), okIs_of (by decide +kernel), okIs_of (by decide +kernel)⟩,
    ⟨takes_of (by decide +kernel), plain_dice _ _ _ (by decide +kernel)⟩,
    ⟨readsWide_of (by decide +kernel), by decide +kernel, by decide +kernel⟩, okIs_of (by decide +kernel),
    ⟨takes_of (by decide +kernel), plain_dice _ _ _ (by decide +kernel), by decide +kernel⟩,
    fun h e => absurd (congrArg (Option.map Prod.fst) e) (by simp only [Option.map_some]; decide +kernel), fun k => (by nofun),
    ⟨takes_of (by decide +kernel), plain_dice _ _ _ (by decide +kernel), by decide +kernel, value_of (by decide +kernel)⟩⟩

/-- A chip with a management address and session 0 open in role `r`. -/
def session (r : Nat) (s : State) : State := (s.setObj 0x1200 2 1).setSess 0 { isOpen := true, role := r }

/-- A MOP record (03 Table 3-8) with the payload `l`. -/
def mopRec (op i sub ty arg : Nat) (l : List Byte) : List Byte :=
  beBytes 16 (1 * 2 ^ 120 + op * 2 ^ 112 + 9 * 2 ^ 96 + i * 2 ^ 80 + sub * 2 ^ 72 + ty * 2 ^ 64 + l.length * 2 ^ 32 + arg) ++ l

/-- A trust anchor: the shortest DER structure, then `n` zero bytes. -/
def anchor (n : Nat) : List Byte := [0x30, 1, 7] ++ List.replicate n 0

/-- The chip with a management address and both anchors `l`. -/
def anchored (l : List Byte) : State :=
  { (((on.setObj 0x1200 2 1).setObj 0x1201 1 (leNat l)).setObj 0x1201 2 (leNat l)) with
    blobLen := [(okey 0x1201 1, l.length), (okey 0x1201 2, l.length)] }

theorem test_mop_sessions :
    (∀ n ∈ [0, 3, 4], ∀ r ∈ [0, 1], let s := anchored (anchor n)
     s.mgmtUp = true ∧ s.mgmtNet = true ∧ (s.sess 0).isOpen = false ∧
       anchorOk (leBytes (s.len 0x1201 (2 - r)) (s.obj 0x1201 (2 - r))) = decide (n < 4)) ∧
    (let s := (session 1 on).setSess 2 { isOpen := true }
     s.mgmtUp = true ∧ s.mgmtNet = true ∧ (s.sess 1).isOpen = false ∧ ∀ j, j < 1 → (s.sess j).isOpen = true) ∧
    (let s := (List.range 8).foldl (fun s k => s.setSess k { isOpen := true }) (on.setObj 0x1200 2 1)
     s.mgmtUp = true ∧ s.mgmtNet = true ∧ ∀ j, j < 8 → (s.sess j).isOpen = true) ∧
    ((session 1 on).sess 0).isOpen = true := by decide +kernel
theorem test_mop_requests :
    let s := session 1 on
    Serves s (.mop 0) ∧
    (∀ p ∈ [(1, 5, 0, 0, []), (2, 5, 3, 0, [0, 7]), (3, 5, 0, 1, []), (4, 5, 0, 1, [0, 0, 0, 7]), (5, 5, 0, 4, []), (5, 5, 0, 4000000, []),
        (5, 5, 0, 0, [0, 0, 0, 1]), (4, 4, 0, 1, [0, 0, 3, 231]), (4, 1, 0, 4, List.replicate 1024 (0 : Byte))],
      let l := p.2.2.2.2
      let r := mopRec p.1 0x2310 p.2.1 p.2.2.1 p.2.2.2.1 l
      let h := mopHdr r
      r.length = 16 + l.length ∧ r.drop 16 = l ∧ bits h 127 120 = 1 ∧ bits h 47 32 = l.length ∧ l.length ≤ 1024 ∧ mopIndex h = 0x2310 ∧
        mopSub h = p.2.1 ∧ mopOp h = p.1 ∧ mopType h = p.2.2.1 ∧ mopArg h = p.2.2.2.1) ∧
    (∃ o, s.readOk (.mop 0) 0x2310 5 0 = .ok o ∧ (!tyBytes o.ty) = true) ∧ s.value (.mop 0) 0x2310 5 = .ok 1 ∧
    (∃ o, s.writeOk (.mop 0) 0x2310 5 (some 3) = .ok o ∧
      (!tyBytes o.ty && decide (beBytes (tySize o.ty) 7 = [0, 7]) && decide (7 < 256 ^ tySize o.ty) && o.inRange 7) = true) ∧
    Plain (.mop 0) 0x2310 5 7 ∧
    (∃ rows, s.blockRows (.mop 0) false 0x2310 5 0 1 = .ok rows ∧ (decide ((rows.map (fun r => padded r.2)).sum ≤ 1024) &&
      okIs (s.blockValues (.mop 0) 0x2310 rows) (fun b => b == [0, 0, 0, 1])) = true) ∧
    s.blockRows (.mop 0) true 0x2310 5 1 1 = .error stType ∧ stType ≠ stBusy ∧
    (∃ rows, s.blockRows (.mop 0) true 0x2310 5 0 1 = .ok rows ∧ (match rows with
      | [r] => decide (r.1 = 5) && decide (beBytes (padded r.2) 7 = [0, 0, 0, 7]) && decide (7 < 256 ^ tySize r.2.ty) && r.2.inRange 7 && !tyBytes r.2.ty
      | _ => false) = true) ∧
    (∃ rows, s.blockRows (.mop 0) true 0x2310 4 0 1 = .ok rows ∧ (decide (4 = (rows.map (fun r => padded r.2)).sum) &&
      errOf ((s.touch (.mop 0)).writeRows (.mop 0) 0x2310 (blockVals rows [0, 0, 3, 231])) stRange) = true) ∧ stRange ≠ stBusy ∧
    (∃ rows, s.blockRows (.mop 0) true 0x2310 5 0 1 = .ok rows ∧ (decide (4 = (rows.map (fun r => padded r.2)).sum) &&
      okIs ((s.touch (.mop 0)).writeRows (.mop 0) 0x2310 (blockVals rows [0, 0, 0, 7])) (fun _ => true)) = true) ∧
    s.subsOf 0 < 32 ∧ s.dict.subs.length < 128 ∧
    (let u : Sub := { id := 1, sess := 0, index := 0x2310, sub := 5, count := 0, block := false, period := 4 }
     u ∈ ({ s.dict with subs := [u] } : Dict).subs ∧ u.sess = (0 : Fin 8).val ∧ beBytes 4 u.id = [0, 0, 0, 1] ∧ u.id < 65536) :=
  ⟨serves_of (by decide +kernel), by decide +kernel, okIs_of (by decide +kernel), value_of (by decide +kernel), okIs_of (by decide +kernel),
    plain_dice _ _ _ (by decide +kernel), okIs_of (by decide +kernel), errOf_iff (by decide +kernel), by decide +kernel, okIs_of (by decide +kernel),
    okIs_of (by decide +kernel), by decide +kernel, okIs_of (by decide +kernel), by decide +kernel⟩
/-- The same session with subscription `u`, at the start of frame 4. -/
def pushing (u : Sub) : State :=
  { session 0 on with dict := { (session 0 on).dict with subs := [u] }, time := { now := 1000000 } }

theorem test_mop_pushes :
    let u : Sub := { id := 128, sess := 0, index := 0x2310, sub := 5, count := 0, block := false, period := 4 }
    (let s := pushing u
     s.dict.subs = [u] ∧ u.sess = (0 : Fin 8).val ∧ u.id ≤ 128 ∧ 4 = s.pushOf u ∧ s.nextPush = some 4 ∧
       s.turn { at_ := 250000 * 4, rank := 8 } = true ∧ u.block = false ∧ s.mgmtUp = true ∧ s.mgmtNet = true ∧ 250000 * 4 ≤ s.time.now ∧
       (okIs (s.readOk (.mop 0) u.index u.sub 0) (fun o => !tyBytes o.ty) && okIs (s.value (.mop 0) u.index u.sub) (fun _ => true)) = true) ∧
    (let s := (pushing u).setObj 0x6020 1 999999
     s.nextPush = some 4 ∧ s.turn { at_ := 250000 * 4, rank := 8 } = false) := by
  decide +kernel
/-- A write of SERVICE_AUTH with its own type: the type is 10 below. -/
theorem test_service_auth :
    (∀ p ∈ [(0, [1]), (1, [1]), (0, List.replicate 1024 (0 : Byte))],
      let r := mopRec 2 0x1202 1 10 p.1 p.2
      let h := mopHdr r
      r.length = 16 + p.2.length ∧ r.drop 16 = p.2 ∧ bits h 127 120 = 1 ∧ bits h 47 32 = p.2.length ∧ p.2.length ≤ 1024 ∧ mopIsAuth h = true ∧
        mopType h = 10 ∧ mopArg h = p.1 ∧ mopType h = ((objInfo 0x1202 1).getD default).ty) ∧
    (∀ r ∈ [0, 1, 2], servesB (session r on) (.mop 0) = true ∧ ((session r on).sess 0).role = r) ∧
    okIs ((session 1 on).writeOk (.mop 0) 0x1202 1 (some 10)) (fun o => decide (1024 ≤ o.size)) = true ∧
    errOf ((session 0 on).writeOk (.mop 0) 0x1202 1 (some 10)) stDenied = true ∧ stDenied ≠ stBusy := by decide +kernel
theorem test_tokens : on.tokenOk { signed := true, serial := Config.fuses.serial, lastHours := 0 } = true ∧
    on.tokenOk { signed := false, serial := Config.fuses.serial, lastHours := 0 } = false := by
  simp [State.tokenOk, on]

/-- The same chip held in STANDBY. -/
def inStandby (s : State) : State := { s with boot := { s.boot with phase := 2, ready := false, standby := true } }

theorem test_unit_objects :
    Takes on .pf0 (0x2000 + 0) 0x22 1 1 ∧ Takes on .pf0 (0x2210 + 0) 1 8 0xFFFFFFE00000 ∧ Takes on .pf0 (0x2210 + 0) 1 8 1 ∧
    Takes (inStandby on) .pf0 0x1200 1 8 5 ∧ (∀ sub ∈ [2, 3, 4], takesB (inStandby on) .pf0 0x1200 sub 4 5 = true) ∧ Takes on .pf0 (0x3185 + 8 * 0) 9 1 1 :=
  ⟨takes_of (by decide +kernel), takes_of (by decide +kernel), takes_of (by decide +kernel), takes_of (by decide +kernel), by decide +kernel,
    takes_of (by decide +kernel)⟩

/-! ### Pavilions -/

/-- Pavilion 0 whose fields are `v`, with core 0. -/
def paved (v : Pav) (s : State) : State := (s.setObj 0x3000 2 1).setPav 0 v

theorem test_pav_requests :
    (let s := mapped on
     takesB s .pf0 0x3000 3 1 1 = true ∧ s.boot.ready = true ∧ (s.pav 1).st = .free ∧ (s.setPav 0 {}).pavWhole 0 = true ∧
       takesB (s.setPav 0 {}) .pf0 0x3000 3 1 1 = true ∧ ((s.setPav 0 {}).pav 0).st = .free ∧ (s.pav 0).st ≠ .free ∧
       (s.setPav 0 {}).boot.ready = true) ∧
    (let s := on
     takesB s .pf0 0x3000 3 1 1 = true ∧ s.boot.ready = true ∧ (s.pav 0).st = .free ∧ s.pavWhole 0 = false) ∧
    (∀ st ∈ [PState.active, .free, .resetting, .destroying], ((paved { st := st } on).pav 0).st = st ∧
      takesB (paved { st := st } on) .pf0 0x3000 4 1 1 = true ∧ takesB (paved { st := st } on) .pf0 0x3000 4 1 0 = true ∧
      takesB (paved { st := st } on) .pf0 0x3000 5 1 1 = true) ∧
    (let s := paved { st := .active } on
     takesB s .pf0 0x3000 6 1 0 = true ∧ (s.pav 0).st ≠ .free ∧ 0 ∈ s.coresOf 0 ∧ (s.pav 0).resetAt = 0 ∧ (s.core 0).fence.coreReset = false ∧
       (s.core 0).fence.run = .none ∧ takesB s .pf0 0x3000 6 1 143 = true ∧ 143 ∉ s.coresOf 0) := by decide +kernel
theorem test_pav_resets :
    (let s := paved { st := .resetting, resetAt := 2 } on
     (s.pav 0).resetAt = 2 ∧ (∀ n ∈ s.coresOf 0, (s.core n).pint.suspects = [])) ∧
    (∀ st ∈ [PState.resetting, .destroying], ∀ v ∈ [0, 1], let s := paved { st := st, resetAt := 3, destroyV := v } on
      (s.pav 0).resetAt = 3 ∧ (s.pav 0).st = st ∧ (s.pav 0).destroyV = v) ∧
    (let s := (paved { st := .active } on).setCore 0 { fence := { coreReset := true } }
     (s.core 0).fence.coreReset = true ∧ (s.core 0).pint.suspects = [] ∧ s.owner 0 = some 0) := by decide +kernel
theorem test_pavCores_taken (h : coreShipped 0 = false) :
    (Serves on .pf0 ∧ (∃ o, on.writeOk .pf0 0x3000 2 none = .ok o) ∧ (1 : Nat) < 2 ^ 144 ∧ on.pavCores 0 < 2 ^ 144) ∧
    ∀ n, n < 144 → bit 1 n = true → bit (on.pavCores 0) n = false → on.coreUsable n = true ∧ on.owner n = none := by
  refine ⟨⟨serves_of (by decide +kernel), writes_of (by decide +kernel), by decide +kernel, by decide +kernel⟩, ?_⟩
  intro n hn hb _
  have : ∀ n, n < 144 → bit 1 n = true → n = 0 := by decide +kernel
  rw [this n hn hb]
  exact ⟨usable_of h (by decide +kernel), by decide +kernel⟩
theorem test_pavCores_refused :
    (let s := paved { st := .active } (with0 (runs {}))
     servesB s .pf0 = true ∧ writesB s .pf0 0x3000 2 = true ∧ (∀ n, n < 144 → bit 0 n = true → bit (s.pavCores 0) n = true) ∧
       bit 0 0 = false ∧ bit (s.pavCores 0) 0 = true ∧ (s.core 0).ctl.st = .run) ∧
    (let s := owned on
     servesB s .pf0 = true ∧ writesB s .pf0 (0x3000 + 16 * 1) 2 = true ∧
       (∀ n, n < 144 → bit 1 n = false → bit (s.pavCores 1) n = false) ∧ bit 1 0 = true ∧ bit (s.pavCores 1) 0 = false ∧ s.owner 0 ≠ none) := by
  decide +kernel
theorem test_pavRange :
    Takes on .pf0 0x3001 1 8 (2 ^ 21) ∧ ((2 ^ 21, 0) = (if 0 < 8 then (2 ^ 21, (on.pavRange 0 0).2) else ((on.pavRange 0 0).1, 2 ^ 21))) ∧
    Takes on .pf0 0x3001 16 8 (287999787008) ∧ ((0, 287999787008) = (if 15 < 8 then (287999787008, (on.pavRange 0 7).2) else ((on.pavRange 0 7).1, 287999787008))) ∧
    287999787008 % 2097152 = 0 ∧ populated 0 287999787008 = true ∧ populated 0 (288001884160) = false ∧
    (∀ q : PavIx, q ≠ 0 → ∀ r, r < 8 → (on.pavRange q r).2 = 0) :=
  ⟨takes_of (by decide +kernel), by decide +kernel, takes_of (by decide +kernel), by decide +kernel⟩

/-! ### Power -/

/-- The chip at the start of slot 1 of frame 1, 4 ms after milestone 8, with power `p` and sensors `e`. -/
def powered (p : Power) (e : Energy) : State :=
  { on.setObj 0x4010 1 36 with cyc := { ns := 4000000 }, time := { now := 250000 + 2048 }, power := p, energy := e }

theorem test_power_slots :
    (let s := powered { clockOn := true, splitSlot := some 0 } {}
     s.boot.pwrgood = true ∧ s.fw.down = false ∧ s.capStarting = false ∧ s.power.splitSlot = some 0 ∧ 0 < absSlot s.time.now ∧
       s.energy.emergency = false ∧ s.obj 0x4010 1 % 64 = 0 + 4 * 1 + 16 * 2 ∧ s.energy.limit = false ∧ s.power.capTherm = false ∧
       s.power.capEff ≤ 256 * s.obj 0x4010 2) ∧
    (let s := powered { splitSlot := some 0, capRamp := true, capEff := 256 * 1400 + 1 } {}
     s.power.capTherm = false ∧ s.power.capRamp = true ∧ 256 * s.obj 0x4010 2 < s.power.capEff) ∧
    (powered { splitSlot := some 0 } { limit := true }).energy.limit = true ∧
    (let s := { powered { splitSlot := some 0 } {} with fw := { down := true } }
     s.boot.pwrgood = true ∧ s.fw.down = true ∧ s.power.splitSlot = some 0 ∧ 0 < absSlot s.time.now) ∧
    (let s := powered { splitSlot := some 200, mpSlot := some 200 } {}
     s.power.splitSlot = some 200 ∧ s.power.mpSlot = some 200 ∧ absSlot s.time.now ≤ 200) ∧ Steady (powered { splitSlot := some 200, mpSlot := some 200 } {}) :=
  ⟨by decide +kernel, by decide +kernel, by decide +kernel, by decide +kernel, by decide +kernel, steady_of (by decide +kernel)⟩
/-- A slot after one in which no ramp bound holds, after one within 5 W of 100 W, and in FAULT. -/
theorem test_millpond_slots :
    (let s := powered { mpSlot := some 0, env := none } {}
     s.boot.pwrgood = true ∧ s.power.mpSlot = some 0 ∧ 0 < absSlot s.time.now ∧ s.rampBounds (absSlot s.time.now - 0) = none) ∧
    (let s := powered { mpSlot := some 0, env := some (25600, 26000) } {}
     s.chipState ≠ 5 ∧ s.rampBounds (absSlot s.time.now - 0) = some (25600 - (absSlot s.time.now - 0) * s.mpRamp, 26000 + (absSlot s.time.now - 0) * s.mpRamp) ∧
       s.power.shareBreach = false ∧ s.power.mayBreach = false) ∧
    (let s := { powered { mpSlot := some 0 } {} with boot := { on.boot with causes := { mgmt := true } } }
     s.chipState = 5) := by decide +kernel
theorem test_power_step :
    givesB on .pf0 0x4020 0xB = true ∧ on.obj 0x4020 7 = 0 ∧
    (let s := on.setObj 0x4020 7 1
     s.obj 0x4020 7 ≠ 0 ∧ s.turn { at_ := s.power.stepAt, rank := 3 } = true ∧ s.power.stepAt ≤ s.time.now) ∧
    (let s := { (on.setObj 0x4020 7 1).setObj 0x6020 1 1 with power := { stepAt := 2 }, time := { now := 3 } }
     s.obj 0x4020 7 ≠ 0 ∧ s.turn { at_ := s.power.stepAt, rank := 3 } = false) := by decide +kernel

/-- COMPUTE gives up what thermal limiting takes of the cap: 1140 W are left of PWR_CAP, and 189410 of 1/256 W of PWR_CAP_EFF, which has fallen
by MP_RAMP; a level-0 demand of LINKS above its allotment admits a breach, a higher level's does not (17 R462, R464, R484). -/
theorem test_cap_thermal :
    let s := powered { clockOn := true, splitSlot := some 0, capEff := 256 * 1000 } { limit := true }
    let d : PowerDemand := { base := 256 * 60, links := { l0 := 256 * 300 }, mem := { l0 := 256 * 300 }, comp := [256 * 800] }
    (match exec (.pwrSlotSplit d) s with
      | .next t => t.power.allot = [(1, 256 * 60), (2, 256 * 300), (3, 256 * 300), (4, 87010)] && !t.power.mayBreach && !t.power.shareBreach &&
          t.power.draw.comp = [87010]
      | _ => false) = true ∧
    (match exec (.pwrSlotSplit { d with links := { l0 := 256 * 300, l2 := 256 * 2700 }, mem := { l0 := 256 * 100 } }) s with
      | .next t => !t.power.mayBreach && !t.power.shareBreach && levelTotal t.power.draw.links = Sparse.getD t.power.allot 2 0
      | _ => false) = true ∧
    (match exec (.pwrSlotSplit { d with links := { l0 := 256 * 3000 } }) s with
      | .next t => t.power.mayBreach && t.power.draw.links.l0 = 256 * 3000
      | _ => false) = true := by decide +kernel

/-- The chip with rail `k` as `r` and the active point `v`. -/
def railed (k : Nat) (r : Rail) (v : Nat) : State := { on with power := { clockOn := true, vf := v, rails := [(k, r)] } }

theorem test_point_write :
    (∀ v ∈ [2, 4], let s := railed 0 { target := on.vReq 3, done := true } v
      takesB s .pf0 0x4030 2 1 3 = true ∧ s.boot.ready = true ∧ 3 = min 3 (15 - s.power.thermDown) ∧ s.power.vf = v ∧ 3 ≤ s.power.vfCeil ∧
        (s.rail 0).done = true) ∧
    ((railed 0 { target := on.vReq 3, done := true } 2).rail 0).target = (railed 0 { target := on.vReq 3, done := true } 2).vReq 3 ∧
    ((railed 0 { target := on.vReq 3 + 1 } 2).rail 0).target ≠ (railed 0 { target := on.vReq 3 + 1 } 2).vReq 3 :=
  ⟨by decide +kernel, rfl, Nat.succ_ne_self _⟩
theorem test_rail_moves :
    (∀ k ∈ [0, 1, 2], let r : Rail := { target := 805, readback := 800, slewing := true }
      let s := { railed k r 4 with cyc := { ns := 100001000 } }
      Sparse.find s.power.rails k = some r ∧ r.done = false ∧ r.target ≤ 800 + 5 ∧ 800 ≤ r.target + 5 ∧ r.target + 5 < 811 ∧ r.slewing = true ∧
        r.since + cdiv ((max r.target r.readback - min r.target r.readback) * 1000) (s.railSlew k) + 10000 ≤ s.cyc.ns ∧
        r.since + cdiv ((max r.target r.readback - min r.target r.readback) * 1000) (s.railSlew k) + 100000 ≤ s.cyc.ns) ∧
    (∀ k ∈ [0, 1, 2], let r : Rail := { target := 805, readback := 800 }
      Sparse.find (railed k r 4).power.rails k = some r ∧ r.done = false ∧ r.target ≤ 800 + 5 ∧ 810 ≤ r.target + 5 ∧ r.slewing = false) ∧
    (let s := railed 0 {} 4
     s.vReq 15 ≤ s.vReq 15 ∧ (∀ q, 15 < q → q < 16 → s.vReq 15 < s.vReq q) ∧ ∀ q, q < 16 → 0 < s.vReq q) := by
  refine ⟨by decide +kernel, by decide +kernel, Nat.le_refl _, fun q h1 h2 => by omega, fun q _ => ?_⟩
  have h : (railed 0 {} 4).vfOffset = 0 := by decide +kernel
  unfold State.vReq
  rw [h]
  simp only [railed]
  omega
theorem test_droop_guard : on.boot.pwrgood = true ∧
    (let s := { on with cyc := { cycles := 1048576 } }
     s.power.clockOn = true ∧ s.boot.clkStart + 1048576 ≤ s.cyc.cycles) ∧ on.cyc.cycles < on.boot.clkStart + 1048576 := by decide +kernel

theorem test_thermal :
    (on.boot.pwrgood = true ∧ on.boot.phase ≠ 0 ∧ on.boot.upAt ≤ on.cyc.ns ∧ on.fw.down = false ∧ on.energy.emergency = false ∧ on.power.thermDown = 0 ∧
      on.boot.thermtripLow = false) ∧
    (let s := { railed 0 {} 4 with energy := { emergency := true }, cyc := { ns := 100000 } }.setObj 0x4030 2 9
     s.energy.emergency = true ∧ s.power.vf ≠ 0 ∧ s.power.vf ≤ 15 ∧ s.boot.ready = true ∧ s.power.vf ≤ s.obj 0x4030 2 ∧
       s.energy.thermStep + 100000 ≤ s.cyc.ns) ∧
    (let s := { on with power := { thermDown := 15 }, cyc := { ns := 1000000 } }
     s.energy.emergency = false ∧ s.power.thermDown ≠ 0 ∧ s.power.thermDown ≤ 15 ∧ s.energy.thermStep + 1000000 ≤ s.cyc.ns) ∧
    (Instr.thermtrip 63 115000).wf = true := by decide +kernel
theorem test_calibration :
    (∀ b ∈ [true, false], let s := { on with energy := { calRunning := b } }
      takesB s .pf0 0x4050 1 1 1 = true ∧ takesB (session 2 s) (.mop 0) 0x4050 2 1 1 = true ∧ s.energy.calRunning = b ∧ s.calIdle = true) ∧
    (powered { ballast := 1 } {}).calIdle = false ∧ takesB (powered { ballast := 1 } {}) .pf0 0x4050 1 1 1 = true ∧
    (∀ f ∈ [true, false], ∀ b ∈ [true, false], let s := { on with energy := { calRunning := true, calForced := f, calBroken := b } }
      s.energy.calRunning = true ∧ s.energy.calEnd ≤ s.time.now ∧ s.energy.calForced = f ∧ s.energy.calBroken = b) := by decide +kernel

/-! ### Fences and Checkmate -/

/-- The chip with core 0 in state `c` and fence `f`. -/
def guarded (c : CState) (f : FenceSt) : State := with0 { ctl := { st := c }, fence := f }

theorem test_fence_request :
    (∀ v ∈ [0, 143, 0x100, 0x13F, 144, 0xFF, 0x140, 0xFFFE], takesB on .pf0 0x5000 4 2 v = true) ∧
    (∀ c ∈ [CState.run, .halted], (((guarded c {}).core 0).fence.st = 0 ∧ ((guarded c {}).core 0).ctl.st = c ∧
      takesB (guarded c {}) .pf0 0x5000 4 2 0 = true)) ∧
    ((on.core 0).fence.st = 0 ∧ (on.core 0).ctl.st ≠ .run ∧ (on.core 0).ctl.st ≠ .halted) ∧
    ((guarded .fenced { st := 2 }).core 0).fence.st ≠ 0 ∧
    (∀ q ∈ [0, 63], ((on.setPort q { wasUp := true }).port q).fenced = false ∧ ((on.setPort q { wasUp := true }).port q).wasUp = true ∧
      (on.port q).wasUp = false) := by decide +kernel
theorem test_fence_clear :
    (∀ v ∈ [0, 143, 0x100, 0x13F, 144, 0xFF, 0x140, 0xFFFE, 0xFFFF], takesB on .pf0 0x5000 5 2 v = true) ∧ on.owner 0 = none ∧
    (owned on).owner 0 ≠ none ∧ takesB (owned on) .pf0 0x5000 5 2 0 = true ∧ ((on.setPort 63 { fenced := true }).port 63).fenced = true ∧
    (∀ n, n < 144 → ((guarded .fenced { st := 2 }).core n).fence.st = 2 → (guarded .fenced { st := 2 }).owner n = none) ∧
    ((guarded .fenced { st := 2 }).core 0).fence.st = 2 := by decide +kernel
theorem test_fence_store : on.integ.storePending = false ∧ ({ on with integ := { storePending := true } } : State).integ.storePending = true ∧
    (Sparse.find (with0 {}).cores 0).isSome = true := by decide +kernel
theorem test_checkmate_candidate (h : coreShipped 0 = false) (g : coreShipped 143 = true) :
    let s := { on.setObj 0x5010 1 1 with cyc := { ns := 250000 * 144 + 1000000000 }, time := { now := 250000 }, integ := { cmNext := 143 } }
    s.obj 0x5010 1 ≠ 0 ∧ s.boot.ready = true ∧ s.fw.down = false ∧ s.integ.cmLast + 250000 * s.obj 0x5010 2 ≤ s.cyc.ns ∧
      s.time.now = absStart (absSlot s.time.now) ∧ 0 = (s.integ.cmNext + 1) % 144 ∧ s.cmCandidate 0 = true ∧
      ∀ j, j < 1 → s.cmCandidate ((s.integ.cmNext + j) % 144) = false := by
  refine ⟨by decide +kernel, by decide +kernel, by decide +kernel, by decide +kernel, by decide +kernel, by decide +kernel, ?_, ?_⟩
  · unfold State.cmCandidate
    rw [usable_of h (by decide +kernel)]
    decide +kernel
  · intro j hj
    obtain rfl : j = 0 := by omega
    simp [State.cmCandidate, State.coreUsable, g]
theorem test_checkmate_none :
    (∀ n, n < 144 → ((owned on).setObj 0x3000 2 (2 ^ 144 - 1)).cmCandidate n = false) ∧ on.obj 0x5010 2 ≤ 4000000000 := by
  refine ⟨fun n hn => ?_, by decide +kernel⟩
  have : ∀ n, n < 144 → (((owned on).setObj 0x3000 2 (2 ^ 144 - 1)).owner n).isNone = false := by decide +kernel
  unfold State.cmCandidate
  rw [this n hn]
  simp
theorem test_checkmate_lease :
    (let s := paved { st := .active } on
     takesB s .pf0 0x5020 1 1 0 = true ∧ 0 ∈ s.coresOf 0 ∧ (s.core 0).ctl.st = .idle ∧ (s.core 0).ctl.drain = .none ∧
       (s.core 0).fence.coreReset = false ∧ (s.pav 0).leaseStatus ≠ 1 ∧ takesB s .pf0 0x5020 1 1 143 = true ∧ 143 ∉ s.coresOf 0) ∧
    (paved { st := .active } (guarded .run {})).coresOf 0 = [0] ∧ ((paved { st := .active } (guarded .run {})).core 0).ctl.st ≠ .idle ∧
    ((paved { leaseStatus := 1 } on).pav 0).leaseStatus = 1 := by decide +kernel
theorem test_checkmate_end :
    (on.core 0).fence.run = .none ∧
    (∀ r ∈ [CmRun.machenil, .clear, .lease], ((guarded .idle { run := r }).core 0).fence.run = r ∧ r ≠ .none ∧
      ((guarded .idle { run := r }).core 0).ctl.st = .idle) ∧
    (owned (guarded .run { run := .lease })).owner 0 = some 0 := by decide +kernel

theorem test_checkmate_signatures :
    cmFirstFail ((List.range 9).map (fun i => Config.checkmateSignature (i + 1))) = none ∧
    cmFirstFail [Config.checkmateSignature 1 + 1] = some (1, Config.checkmateSignature 1 + 1) := by
  simp [cmFirstFail, List.range, List.range.loop]

/-! ### Boot and resets -/

/-- Signatures that pass, and an image of no body under key 0 whose rollback level no counter exceeds. -/
def goodSlot : SlotCheck := { digest := true, signature := true }
def imageHeader : Nat := 0x4D434E4C + 64 * 2 ^ 40 + 0x08A1 * 2 ^ 48
def image : Slot := { data := Mem.write [] 0 (leBytes 256 imageHeader), len := 256, written := true }

/-- The chip at milestone `n` whose slots are erased but for slot `k`, which holds that image. -/
def imaged (n k : Nat) (b : Boot) : State :=
  { boot := { b with pwrgood := true, phase := n }, fw := { slots := Sparse.put [(0, { written := true }), (1, { written := true })] k image } }

theorem imagePasses_of {s : State} {k : Nat} (h : Config.fuses.revoked = 0)
    (hs : (decide (s.slotHeader k = imageHeader) && s.headerOk k && decide (s.fw.revoked = 0)) = true) : s.imageFails k goodSlot = none := by
  simp only [Bool.and_eq_true, decide_eq_true_eq] at hs
  have hr : s.fwRollback ≤ 64 := Nat.min_le_left _ _
  have hb : bits imageHeader 47 40 = 64 := by decide +kernel
  have hk : bit s.keysRevoked (bits imageHeader 39 32) = false := by
    simp only [State.keysRevoked, h, hs.2]
    decide +kernel
  simp only [State.imageFails, hs.1.1, hs.1.2, hk, hb, goodSlot]
  rw [if_neg (by decide), if_neg (by decide), if_neg (by decide), if_neg (by omega)]

theorem imageFails_of {s : State} {k : Nat} {c : SlotCheck} (h : s.headerOk k = false) : s.imageFails k c ≠ none := by
  simp [State.imageFails, h]

/-- Milestone 1 with the manifest's image, with the other, with none, and after a recheck of an image that the programmer writes. -/
theorem test_boot_starts (h : Config.fuses.revoked = 0) :
    (State.reset.boot.pwrgood = false ∧ (imaged 0 0 {}).boot.pwrgood = true ∧ (imaged 0 0 {}).boot.phase = 0 ∧ 0 = (imaged 0 0 {}).fw.manifest ∧
      0 = (imaged 0 1 {}).fw.manifest ∧ (imaged 0 0 {}).boot.romFail = false ∧ (imaged 0 2 { romFail := true }).boot.romFail = true) ∧
    (imaged 0 0 {}).imageFails 0 goodSlot = none ∧ (imaged 0 1 {}).imageFails 0 goodSlot ≠ none ∧ (imaged 0 1 {}).imageFails 1 goodSlot = none ∧
    (let s := imaged 0 2 {}
     s.imageFails 0 default ≠ none ∧ s.imageFails 1 default ≠ none) ∧
    (let s := imaged 0 2 { romFail := true }
     ((s.elapse 1000000000).program 0 [some (leBytes 256 imageHeader)]).imageFails 0 goodSlot = none ∧
     ((s.elapse 1000000000).program 0 [none, some (leBytes 256 imageHeader)]).imageFails 0 goodSlot ≠ none ∧
     ((s.elapse 1000000000).program 0 [none, some (leBytes 256 imageHeader)]).imageFails 1 goodSlot = none ∧
     ((s.elapse 1000000000).program 0 []).imageFails 1 goodSlot ≠ none) :=
  ⟨by decide +kernel, imagePasses_of h (by decide +kernel), imageFails_of (by decide +kernel), imagePasses_of h (by decide +kernel),
    ⟨imageFails_of (by decide +kernel), imageFails_of (by decide +kernel)⟩,
    ⟨imagePasses_of h (by decide +kernel), imageFails_of (by decide +kernel), imagePasses_of h (by decide +kernel), imageFails_of (by decide +kernel)⟩⟩
/-- The same slots while FW_VERIFY runs on slot 1. -/
def verifying (k : Nat) : State := { imaged 8 k {} with fw := { (imaged 8 k {}).fw with status := 3 } }

theorem test_image_checked (h : Config.fuses.revoked = 0) :
    ((verifying 1).fw.status = 3 ∧ (verifying 1).fw.down = false ∧ 1 = 1 - (verifying 1).boot.image ∧ ((verifying 1).slot 1).written = true) ∧
    (verifying 1).imageFails 1 goodSlot = none ∧ (verifying 0).imageFails 1 goodSlot ≠ none :=
  ⟨by decide +kernel, imagePasses_of h (by decide +kernel), imageFails_of (by decide +kernel)⟩
theorem test_milestones :
    (∀ d ∈ [true, false], let s := { atPhase 1 with power := { rails := [(0, { done := d })] } }
      s.boot.pwrgood = true ∧ s.boot.phase = 1 ∧ s.faulted = false ∧ (s.rail 0).done = d ∧ s.dict.queue = []) ∧
    ((atPhase 1).setObj 0x1010 2 1).obj 0x1010 2 = 1 ∧
    (∀ n ∈ [2, 3, 4, 7], (atPhase n).boot.standby = false ∧ (atPhase n).faulted = false ∧ (atPhase n).boot.phase = n ∧ (atPhase n).boot.fail = 0) ∧
    (∀ n, n < 144 → ((atPhase 4).core n).pint.suspects = []) ∧ takesB (inStandby on) .pf0 0x1010 3 1 1 = true ∧ (inStandby on).boot.standby = true ∧
    takesB on .pf0 0x1010 3 1 1 = true ∧ on.boot.standby = false := by decide +kernel
theorem test_resets :
    (on.boot.pwrgood = true ∧ persistentKey (okey 0x1010 2) = true ∧ persistentKey (okey 0x1010 3) = false) ∧
    takesB on .pf0 0x1010 4 1 1 = true ∧ on.boot.ready = true ∧ takesB (atPhase 7) .pf0 0x1010 4 1 1 = true ∧ (atPhase 7).boot.ready = false ∧
    ((owned on).pav 0).st ≠ .free := by decide +kernel

/-! ### Management events and firmware -/

theorem test_management :
    (∀ b ∈ [true, false], ({ on with fw := { down := b } } : State).fw.down = b ∧ ({ on with fw := { down := b } } : State).dict.queue = [] ∧
      on.boot.phase ≠ 0) ∧ State.reset.boot.phase = 0 ∧
    (let s := { on with fw := { restarts := [0, 0] } }
     s.fw.down = false ∧ (s.cyc.ns :: s.fw.restarts.filter (fun t => decide (s.cyc.ns < t + 10000000000))).length = 3) ∧
    (let s := { on with energy := { missed := [(256 * 2 + 15, 4)], flagged := [256 * 1 + 0] } }
     s.boot.phase ≠ 0 ∧ 15 < sensorCount 2 ∧ 256 * 2 + 15 ∉ s.energy.flagged ∧ 4 ≤ Sparse.getD s.energy.missed (256 * 2 + 15) 0 ∧
       sensorCount 2 ≤ 16 ∧ 256 * 1 + 0 ∈ s.energy.flagged ∧ 2 < sensorCount 3 ∧ 256 * 3 + 2 ∉ s.energy.flagged) ∧
    takesB on .pf0 0x5030 8 1 1 = true ∧ on.fnExists 0 = true ∧ 2 ≤ on.boot.phase ∧ on.fw.down = false ∧ on.measurement 0 = none ∧
    (on.measurement 4).isSome = true ∧ on.heldReqs (26 + 0) = [] ∧ on.boot.handover = false ∧
    ({ on with fw := { down := true } } : State).heldReqs (26 + 0) = [] ∧
    ({ on with dict := { queue := [{ req := .doe 0 0x81 0, at_ := 0 }] } } : State).heldReqs (26 + 0) ≠ [] := by decide +kernel

/-- The chip whose keys in the mask `r` firmware has revoked. -/
def revoking (r : Nat) : State := { on with fw := { revoked := r } }

theorem test_keys (h : Config.fuses.revoked = 0) :
    (∀ v ∈ [0, 3], takesB (session 2 on) (.mop 0) 0x7002 1 1 v = true) ∧ bit (revoking 1).keysRevoked 0 = true ∧ bit (revoking 1).keysRevoked 3 = false ∧
    bit (revoking 7).keysRevoked 3 = false ∧ (∀ k, k < 4 → k ≠ 3 → bit (revoking 7).keysRevoked k = true) ∧
    3 ≠ ((revoking 1).slot (revoking 1).boot.image).key ∧ 2 < 4 ∧ bit (revoking 1).keysRevoked 2 = false := by
  refine ⟨by decide +kernel, ?_⟩
  simp only [State.keysRevoked, h]
  decide +kernel

/-- The chip with firmware update state `f`. -/
def updating (f : FwSt) : State := { on with fw := f }

theorem test_firmware :
    (∀ c ∈ [1, 4, 5, 6, 7], ∀ o ∈ [none, some 17], takesB (updating { owner := o }) .pf0 0x7001 c 1 1 = true) ∧ (17 : Nat) ≠ Requester.pf0.ix ∧
    (updating { owner := some Requester.pf0.ix }).fw.owner = some Requester.pf0.ix ∧
    (∀ n ∈ [0, 1, 2, 4, 5], (updating { status := n }).fw.status = n) ∧ (updating { status := 4 }).boot.fail = 0 ∧
    (updating { status := 4 }).boot.image < 2 ∧ (atPhase 7).boot.causes.mgmt = false ∧ (atPhase 7).boot.ready = false ∧ (updating {}).boot.ready = true ∧
    ({ on with boot := { on.boot with fail := 1 } } : State).boot.fail ≠ 0 ∧
    (updating { activated := some 0 }).fw.activated = some (updating { activated := some 0 }).boot.image ∧
    ((updating {}).slot (updating {}).boot.image).rollback ≤ 64 ∧ (updating {}).fw.activated ≠ some (updating {}).boot.image := by decide +kernel
theorem test_firmware_data :
    (let s := updating { owner := some Requester.pf0.ix, status := 2, next := 5 }
     servesB s .pf0 = true ∧ writesB s .pf0 0x7001 3 = true ∧ 5 + [1, 2].length ≤ 65536 ∧ s.obj 0x7001 2 + 5 + [1, 2].length ≤ 25165824 ∧
       s.fw.rateUntil ≤ s.cyc.ns ∧ s.obj 0x7001 2 + 5 = s.fw.next ∧ s.obj 0x7001 2 + 4 ≠ s.fw.next ∧
       Mem.wf (s.slot (1 - s.boot.image)).data = true) ∧
    (∀ f ∈ [({ owner := some Requester.pf0.ix, status := 1 } : FwSt), { status := 2 }], servesB (updating f) .pf0 = true ∧
      writesB (updating f) .pf0 0x7001 3 = true ∧ (updating f).fw.down = false) ∧
    ({ on with boot := { on.boot with handover := true } } : State).dict.queue = [] := by decide +kernel

/-! ### Plot and Bandstand addresses -/

theorem test_addresses : (0x005FFFFF : Nat) < 0x00600000 ∧ (4095 : Nat) < 4096 ∧ (2 ^ 24 - 1 : Nat) < 2 ^ 24 ∧ (255 : Nat) < 256 ∧
    2 ^ bits (2 ^ 99) 103 99 ≤ 2 ∧ 2 ^ bits (2 ^ 99) 103 99 = 2 := by decide +kernel
theorem test_memory : Mem.wf (mapped on).mem = true ∧ (mapped on).mem ≠ [] := by decide +kernel

/-! ### The worked examples of the spec -/

/-- 09, a broken sense wire: the line at 0x12B80, and the slot of row 6 of bank 17. -/
theorem test_plot_line : plotLoc 0x12B80 = (17, 2, 6) ∧ 48 * 6 + (17 + 48 - 6) % 48 = 299 ∧ 299 * 256 + 128 = 0x12B80 := by decide +kernel

/-- Core 0 with these bytes at Plot address 0. -/
def loaded (b : List Byte) : State := with0 (runs { plot := { bytes := Mem.write [] 0 b } })

/-- 05, a weight tile and a matrix product; 08, softmax: the words of LOADW, MATMUL and REDUCE. -/
theorem test_loadw_word :
    let s := loaded [0x40, 0, 0x20, 0xFE, 0x3F, 0, 0, 0, 0, 0, 0, 0, 0, 0, 4, 0]
    let d := decOf s .access
    offersB s .access = true ∧ d.op = 0x40 ∧ d.m 7 4 = 2 ∧ d.m 14 9 = 63 ∧ d.m 21 15 = 127 ∧ d.a = 0x8000 ∧ extOf s .access = 0 := by decide +kernel
theorem test_matmul_word :
    let s := loaded [0x41, 1, 0x20, 0x54, 0, 0, 2, 0, 0, 0, 0, 0, 0, 0, 9, 0, 0x60]
    let d := decOf s .access
    offersB s .access = true ∧ d.op = 0x41 ∧ d.m 7 4 = 2 ∧ d.m 11 10 = 1 ∧ d.m 12 12 = 1 ∧ d.m 14 14 = 1 ∧ d.c = 0x100 ∧ d.a = 0x12000 ∧
      d.x1 = 0x60 ∧ extOf s .access = 1 := by decide +kernel
theorem test_reduce_word :
    let s := loaded [0x51, 1, 0xA8, 8, 0, 0, 0, 6, 0, 0, 0, 0, 0, 0, 0x10, 0, 0xE8, 3, 0, 0, 4]
    let d := decOf s .access
    offersB s .access = true ∧ d.op = 0x51 ∧ d.mode = 0x8A8 ∧ d.a = 0x20000 ∧ d.c = 0x30000 ∧ d.x1 = 4 * 2 ^ 32 + 1000 := by decide +kernel

/-- 07, one FP32 product in each pass count (Table 7-6), in units of 2^-25 by the mantissa fields it gives. -/
def tile0 : Tile := { k := 1, n := 1, fmt := 1, sign := false, elems := [0x3EAAAAAB], scales := [] }
def pass (n : Nat) : Nat := (({} : Core).feedCol 1 false n false tile0 { codes := [0x40490FDB], scales := [] } 0 0 0).1.cis 0 0
theorem test_fp32_passes : pass 1 = 0x3F800000 + (34990080 - 2 ^ 25) / 4 ∧ pass 2 = 0x3F800000 + (35000876 - 2 ^ 25) / 4 ∧
    pass 3 = 0x3F860ACE := by decide +kernel
theorem test_fp32_split : partHi 0x40490FDB = bf16.decode 0x4049 ∧ partLo 0x40490FDB = bf16.decode 0x3A7E ∧
    partHi 0x3EAAAAAB = bf16.decode 0x3EAA ∧ partLo 0x3EAAAAAB = bf16.decode 0x3AAB := by decide +kernel

/-- 07 R215: a saturated INT32 word takes the next row sum from where it stands. -/
theorem test_int32_clamps :
    let t : Tile := { k := 64, n := 1, fmt := 11, sign := false, elems := List.replicate 64 255, scales := [] }
    let c := (({} : Core).setCis 0 0 2147480000).feedCol 11 false 1 true t { codes := List.replicate 64 255, scales := [] } 0 0 0
    c.1.cis 0 0 = 2147483647 ∧ c.2 = 1 ∧
      toSigned 32 ((c.1.feedCol 11 true 1 true t { codes := List.replicate 64 128, scales := [] } 0 0 0).1.cis 0 0) = 2147483647 - 64 * 128 * 255 ∧
      bit c.1.par.satFlags 0 = true := by decide +kernel

/-- 03, a cap write: the header and payload of the request, its response, and the later write of SRC_PRIORITY. -/
theorem test_cap_write :
    (match exec (.mopWrite 0 (beBytes 16 0x01020017401002040000000400000000 ++ [0, 0, 4, 0x4C])) (session 1 on) with
      | .next t => decide (t.obj 0x4010 2 = 1100) && decide (t.out = [.mop 0 0x82 0x17 0x4010 2 4 0 0 []])
      | _ => false) = true ∧
    (match exec (.mopWrite 0 (mopRec 2 0x1101 1 2 0 [5])) (session 1 on) with
      | .next t => decide (t.obj 0x1101 1 = 128) && decide (t.out = [.mop 0 0x82 9 0x1101 1 2 2 0 []])
      | _ => false) = true := by decide +kernel

/-- 03, two halves across a carry: a high half with an empty latch. -/
theorem test_lone_high :
    (match exec (.highHalfRead (.vf 4) 0x1100 1) { on with pcie := { vfEnable := true }, time := { now := 0x3000026AC } } with
      | .next t => decide (t.out = [.resp (.vf 4) 0x8000 3])
      | _ => false) = true := by decide +kernel

/-- 10, moving a page: the entries of VA 0x206000000 under PT_ROOT 0x8000000. -/
theorem test_page_walk :
    let s := { (((on.setObj 0x3001 1 0x8000000).setObj 0x3001 9 (2 ^ 21)).setObj 0x2210 1 0x8000000) with
      mem := Mem.write (Mem.write [] 0x8000040 (leBytes 8 0x8000000008010000)) 0x8010018 (leBytes 8 0xB000001234400000),
      mmeta := { pip := [(64, 1)] } }
    (match (s.walk 0 0x200600000 none).1 with
      | .leaf e => decide (e.pa = 0x1234400000) && decide (e.va = 0x200600000) && decide (e.size = 2 ^ 21) && e.w && e.oc
      | .fail _ => false) = true := by decide +kernel

/-- 11, one choice that moves on: candidates 196, 255, 58 and 117 of the token whose hash is 0x3B7109D2C4A291E5. -/
theorem test_candidates : hashCands 0 256 0x2086B4F8106CC771 4 = [196, 255, 58, 117] := by decide +kernel

/-- 12, a fill close: the addresses of the row of stream 0x61C at position 5000000. -/
theorem test_kv_place :
    let e := 0x100000000000 * 2 ^ 208 + 0x400000000000 * 2 ^ 160 + 1280 * 2 ^ 128 + 7 * 2 ^ 108 + 12 * 2 ^ 104 + 16 * 2 ^ 99
    kvPlace e 5000000 = { hot := 0x100178400000, evict := true, ring := 4, cold := 0x402F18400000 } := by decide +kernel

/-- A step runs the command at the front of the queue; an idle block lets 1 ns pass (log 9). -/
theorem test_step :
    (match step { State.reset with pending := [.pwrgoodRise, .disec] } with
      | .next t => t.boot.pwrgood && decide (t.pending = [.disec])
      | _ => false) = true ∧
    (match step on with
      | .next t => decide (t.cyc.ns = on.cyc.ns + 1) && decide (t.pending = [])
      | _ => false) = true := by decide +kernel
end Sys2Proof.Tests
end

section
/-! PROOF. Flits read back as they were encoded (13 R352, R353, Table 13-2), by the fields of their numbers. -/

namespace Sys2Proof.Machine

/-! ### Fields of a number -/

theorem add_mul_div_two_pow {a k : Nat} (b : Nat) (h : a < 2 ^ k) : (a + b * 2 ^ k) / 2 ^ k = b := by
  rw [Nat.add_mul_div_right _ _ (Nat.two_pow_pos k), Nat.div_eq_of_lt h, Nat.zero_add]

/-- A field below bit `k` does not see what stands from bit `k` up. -/
theorem bits_add_mul_of_lt (a b : Nat) {k hi lo : Nat} (h : hi < k) : bits (a + b * 2 ^ k) hi lo = bits a hi lo := by
  unfold bits
  by_cases hlo : lo ≤ hi
  · have hw : 2 ^ lo * 2 ^ (hi + 1 - lo) = 2 ^ (hi + 1) := by rw [← pow_add]; congr 1; omega
    have hk : b * 2 ^ k = 2 ^ (hi + 1) * (b * 2 ^ (k - (hi + 1))) := by
      rw [Nat.mul_left_comm, ← pow_add]; congr 2; omega
    rw [← Nat.mod_mul_right_div_self, ← Nat.mod_mul_right_div_self, hw, hk, Nat.add_mul_mod_self_left]
  · rw [show hi + 1 - lo = 0 by omega, pow_zero, Nat.mod_one, Nat.mod_one]

/-- The field that begins where the lower part ends. -/
theorem bits_add_mul_self {a lo : Nat} (b hi : Nat) (h : a < 2 ^ lo) : bits (a + b * 2 ^ lo) hi lo = b % 2 ^ (hi + 1 - lo) := by
  unfold bits
  rw [add_mul_div_two_pow b h]

theorem bit_eq_bits (v i : Nat) : bit v i = (bits v i i == 1) := by
  unfold bit bits
  rw [Nat.add_sub_cancel_left, pow_one]

theorem b2n_le_one (b : Bool) : b2n b ≤ 1 := by cases b <;> decide

theorem b2n_beq_one (b : Bool) : (b2n b == 1) = b := by cases b <;> rfl

/-- A field put above `k` bits gives a number of `k` bits and the field's. -/
theorem add_mul_lt_two_pow {a b k w n : Nat} (ha : a < 2 ^ k) (hb : b < 2 ^ w) (hn : w + k = n) : a + b * 2 ^ k < 2 ^ n := by
  calc a + b * 2 ^ k < 2 ^ k + b * 2 ^ k := by omega
    _ = (b + 1) * 2 ^ k := by ring
    _ ≤ 2 ^ w * 2 ^ k := Nat.mul_le_mul_right _ hb
    _ = 2 ^ n := by rw [← pow_add, hn]

theorem ofNat_toNat_of_lt {n w : Nat} (h : n < 2 ^ w) : (BitVec.ofNat w n).toNat = n := Nat.mod_eq_of_lt h

/-! ### A flit reads back as it was encoded (13 R352, R353, Table 13-2) -/

theorem crcBit_lt {poly c : Nat} (b : Bool) (hp : poly < 2 ^ 32) (hc : c < 2 ^ 32) : crcBit poly c b < 2 ^ 32 := by
  unfold crcBit
  split
  · exact Nat.xor_lt_two_pow (by omega) hp
  · omega

theorem crcByte_lt {poly c : Nat} (b : Byte) (hp : poly < 2 ^ 32) (hc : c < 2 ^ 32) : crcByte poly c b < 2 ^ 32 :=
  List.foldlRecOn (motive := fun c => c < 2 ^ 32) _ _ hc (fun _ h _ _ => crcBit_lt _ hp h)

theorem crc32_lt (l : List Byte) : crc32 l < 2 ^ 32 :=
  Nat.xor_lt_two_pow
    (List.foldlRecOn (motive := fun c => c < 2 ^ 32) _ _ (by decide) (fun _ h _ _ => crcByte_lt _ (by decide) h)) (by decide)

/-- The header of a flit, bytes 0 to 11 (13 Table 13-2). -/
def Flit.headerNum (f : Flit) : Nat :=
  f.ty + f.vc * 2 ^ 10 + b2n f.head * 2 ^ 13 + b2n f.tail * 2 ^ 14 + b2n f.poison * 2 ^ 15 + b2n f.credV * 2 ^ 26 + f.credVc * 2 ^ 27
    + f.cred * 2 ^ 30 + b2n f.ackV * 2 ^ 39 + f.ack * 2 ^ 40 + f.seq * 2 ^ 52

theorem Flit.body_eq (f : Flit) : f.body = f.headerNum + f.payload * 2 ^ 96 := rfl

theorem Flit.bits_body (f : Flit) {hi lo : Nat} (h : hi < 96) : bits f.body hi lo = bits f.headerNum hi lo :=
  bits_add_mul_of_lt _ _ h

theorem Flit.wf_iff (f : Flit) : f.wf = true ↔ f.ty ≤ 5 ∧ f.vc < 8 ∧ f.credVc < 8 ∧ f.cred < 512 ∧ f.ack < 4096 ∧ f.seq < 4096 ∧
    f.payload < 2 ^ 1920 := by
  simp only [Flit.wf, Bool.and_eq_true, decide_eq_true_eq, and_assoc]

section
variable {f : Flit} (h : f.wf = true)
include h

/-- The fields of the header stand apart, and the reserved bits are 0. -/
theorem Flit.headerNum_fields : f.headerNum < 2 ^ 96 ∧ bits f.headerNum 7 0 = f.ty ∧ bits f.headerNum 9 8 = 0 ∧
    bits f.headerNum 12 10 = f.vc ∧ bits f.headerNum 13 13 = b2n f.head ∧ bits f.headerNum 14 14 = b2n f.tail ∧
    bits f.headerNum 15 15 = b2n f.poison ∧ bits f.headerNum 25 16 = 0 ∧ bits f.headerNum 26 26 = b2n f.credV ∧
    bits f.headerNum 29 27 = f.credVc ∧ bits f.headerNum 38 30 = f.cred ∧ bits f.headerNum 39 39 = b2n f.ackV ∧
    bits f.headerNum 51 40 = f.ack ∧ bits f.headerNum 63 52 = f.seq ∧ bits f.headerNum 95 64 = 0 := by
  obtain ⟨hty, hvc, hcv, hcr, hack, hseq, -⟩ := (Flit.wf_iff f).1 h
  have := b2n_le_one f.head
  have := b2n_le_one f.tail
  have := b2n_le_one f.poison
  have := b2n_le_one f.credV
  have := b2n_le_one f.ackV
  simp only [bits, Flit.headerNum]
  refine ⟨?_, ?_, ?_, ?_, ?_, ?_, ?_, ?_, ?_, ?_, ?_, ?_, ?_, ?_, ?_⟩ <;> omega

theorem Flit.body_lt : f.body < 2 ^ 2016 := by
  obtain ⟨-, -, -, -, -, -, hpay⟩ := (Flit.wf_iff f).1 h
  obtain ⟨hheader, -⟩ := Flit.headerNum_fields h
  exact add_mul_lt_two_pow hheader hpay (by decide)

theorem Flit.num_lt : f.num < 2 ^ 2048 := add_mul_lt_two_pow (Flit.body_lt h) (crc32_lt _) (by decide)

theorem Flit.encode_toNat : f.encode.toNat = f.num := ofNat_toNat_of_lt (Flit.num_lt h)

theorem Flit.num_mod : f.num % 2 ^ 2016 = f.body := by
  unfold Flit.num
  rw [Nat.add_mul_mod_self_right, Nat.mod_eq_of_lt (Flit.body_lt h)]

theorem Flit.num_div : f.num / 2 ^ 2016 = crc32 (leBytes 252 f.body) := by
  unfold Flit.num
  exact add_mul_div_two_pow _ (Flit.body_lt h)

theorem Flit.body_div : f.body / 2 ^ 96 = f.payload := by
  obtain ⟨hheader, -⟩ := Flit.headerNum_fields h
  exact add_mul_div_two_pow _ hheader

theorem Flit.ofBody_body : Flit.ofBody f.body = f := by
  obtain ⟨-, hty, -, hvc, hhead, htail, hpoison, -, hcv, hcvc, hcred, hav, hack, hseq, -⟩ := Flit.headerNum_fields h
  simp only [Flit.ofBody, bit_eq_bits, Flit.body_div h]
  simp [Flit.bits_body, hty, hvc, hhead, htail, hpoison, hcv, hcvc, hcred, hav, hack, hseq, b2n_beq_one]

theorem Flit.not_flitBad_num : flitBad f.num = false := by
  obtain ⟨-, hty, h9, -, -, -, -, h25, -, -, -, -, -, -, h95⟩ := Flit.headerNum_fields h
  have := ((Flit.wf_iff f).1 h).1
  simp only [flitBad, Flit.num_mod h, Flit.num_div h]
  simp [Flit.bits_body, hty, h9, h25, h95, this]

/-- A legal flit reads back as it was encoded (13 R352, R353, Table 13-2). -/
theorem Flit.decode_encode : Flit.decode f.encode = some f := by
  unfold Flit.decode
  rw [Flit.encode_toNat h, Flit.not_flitBad_num h, Flit.num_mod h, Flit.ofBody_body h]
  rfl

end
end Sys2Proof.Machine
end

section
/-! PROOF. The view that the rules of time words have of the state, and what leaves it: messages, the log, interrupts and the header of a flit. -/

namespace Sys2Proof.Machine

/-! ### What the time words read -/

/-- What the rules of time words read of a state: the common time, the time since PWRGOOD, the objects, the cores, and of each port its state
and its time words (02 R36 to R41). -/
structure TimeView where
  time : Sundial
  cyc : Cycles
  objs : Sparse Nat
  cores : Sparse Core
  port : Nat → Nat × PortTime

def State.timeView (s : State) : TimeView :=
  { time := s.time, cyc := s.cyc, objs := s.objs, cores := s.cores, port := fun q => ((s.port q).st, (s.port q).tm) }

theorem State.timeView_inj {s t : State} : t.timeView = s.timeView ↔ t.time = s.time ∧ t.cyc = s.cyc ∧ t.objs = s.objs ∧
    t.cores = s.cores ∧ ∀ q, (t.port q).st = (s.port q).st ∧ (t.port q).tm = (s.port q).tm := by
  simp [State.timeView, funext_iff]

theorem State.timeView_setPort (s : State) (q : Nat) {p : Port} (hst : p.st = (s.port q).st) (htm : p.tm = (s.port q).tm) :
    (s.setPort q p).timeView = s.timeView := by
  refine State.timeView_inj.2 ⟨rfl, rfl, rfl, rfl, fun r => ?_⟩
  rw [State.port_setPort]
  split
  · next h => subst h; exact ⟨hst, htm⟩
  · exact ⟨rfl, rfl⟩

@[simp] theorem State.timeView_tallyAdd (s : State) (i j n : Nat) : (s.tallyAdd i j n).timeView = s.timeView := by
  unfold State.tallyAdd
  dsimp only
  split <;> rfl

@[simp] theorem State.timeView_raise (s : State) (f i : Nat) : (s.raise f i).timeView = s.timeView := by
  unfold State.raise State.sendIrq State.sendMsix
  dsimp only
  split
  · rfl
  · split
    · rfl
    · split
      · rfl
      · split <;> rfl

@[simp] theorem State.timeView_logRec (s : State) (code unit sev : Nat) (pav : Option Nat) (detail : Nat) :
    (s.logRec code unit sev pav detail).timeView = s.timeView := by
  unfold State.logRec State.logRecS
  dsimp only
  rw [apply_ite State.timeView, State.timeView_raise, ite_self]
  rfl

@[simp] theorem State.timeView_updLl (s : State) (q : Nat) (g : PortLl → PortLl) : (s.updLl q g).timeView = s.timeView :=
  s.timeView_setPort q rfl rfl

/-! ### Messages do not touch the time words (13 R361 to R366) -/

theorem State.timeView_takeHere {s t : State} {m : Msg} (h : s.takeHere m = .ok t) : t.timeView = s.timeView := by
  unfold State.takeHere at h
  split at h
  · cases h; simp
  · split at h
    · split at h
      · cases h; simp
      · cases h
    · cases h; rfl

theorem State.timeView_place {s t : State} {i : Inject} (h : s.place i = .ok t) : t.timeView = s.timeView := by
  unfold State.place at h
  split at h
  · exact State.timeView_takeHere h
  · cases h
  · dsimp only at h
    split at h
    · cases h; rfl
    · cases h; exact s.timeView_setPort _ rfl rfl

@[simp] theorem State.timeView_sendNotice (s : State) (m : Msg) (r c : Nat) : (s.sendNotice m r c).timeView = s.timeView := by
  unfold State.sendNotice
  dsimp only
  split
  · next h =>
    split at h
    · exact State.timeView_takeHere h
    · exact State.timeView_place h
  · simp

@[simp] theorem State.timeView_dropMsg (s : State) (m : Msg) (r : Nat) : (s.dropMsg m r).timeView = s.timeView := by
  unfold State.dropMsg
  dsimp only
  split
  · simp
  · split
    · split <;> simp
    · simp

@[simp] theorem State.timeView_pumpInject (s : State) : s.pumpInject.timeView = s.timeView := by
  refine List.foldlRecOn (motive := fun t : State => t.timeView = s.timeView) _ _ rfl (fun t ht i _ => ?_)
  split
  · next h => exact (State.timeView_place h).trans ht
  · rw [State.timeView_dropMsg, ht]

/-! ### A good TIME flit reaches its port's time rules (13 R353, R354) -/

@[simp] theorem State.timeView_fecSeen (s : State) (q : Nat) (fec : Option Nat) : (s.fecSeen q fec).timeView = s.timeView := by
  unfold State.fecSeen
  split
  · exact s.timeView_setPort q rfl rfl
  · rfl
  · exact s.timeView_setPort q rfl rfl

@[simp] theorem State.timeView_rxHeader (s : State) (q : Nat) (f : Flit) : (s.rxHeader q f).timeView = s.timeView := by
  unfold State.rxHeader
  dsimp only
  rw [apply_ite State.timeView, State.timeView_pumpInject, ite_self, State.timeView_updLl]

/-- A port that carries flits directly is known from its number and the objects. -/
theorem State.blp_congr {s t : State} (h : t.objs = s.objs) (q : Nat) : t.blp q = s.blp q := by
  unfold State.blp
  rw [State.obj_congr h]

/-- A good TIME flit on an UP port that carries flits directly: its word is taken in a state in which nothing that time words read has
changed (13 R353, R354). -/
theorem State.exec_timeFlitReceived {s : State} {q : PortIx} {f : Flit} (k : Nat) (hst : (s.port q).st = 4) (hblp : s.blp q = true)
    (hwf : f.wf = true) (hty : f.ty = ftTime) (hclk : s.power.clockOn = true) :
    ∃ t : State, t.timeView = s.timeView ∧ exec (.timeFlitReceived q f.encode (some k)) s = .next (t.timeWord q f.payload) := by
  have hview : ((s.fecSeen q (some k)).rxHeader q f).timeView = s.timeView := by simp
  refine ⟨_, hview, ?_⟩
  obtain ⟨-, -, hobjs, -, hport⟩ := State.timeView_inj.1 hview
  have htakes : (s.port q).takes = true := by simp [Port.takes, hst]
  calc exec (.timeFlitReceived q f.encode (some k)) s = s.clocked (fun s => s.rxFlit q ftTime f.encode (some k)) := rfl
    _ = .next (s.rxFlit q ftTime f.encode (some k)) := State.clocked_on _ hclk
    _ = .next ((s.fecSeen q (some k)).rxGood q f) := by simp [State.rxFlit, htakes, Flit.decode_encode hwf, hty]
    _ = _ := by simp [State.rxGood, hty, ftTime, ftData, (hport q).1, hst, State.blp_congr hobjs, hblp]

end Sys2Proof.Machine
end

section
/-! PROOF. The states of Sundial and the choice of the upstream port (02 R40, R41, Table 2-2). -/

namespace Sys2Proof.Machine

/-! ### Sundial states and the choice of the upstream port leave the count (02 R40, R41, Table 2-2) -/

/-- From `s` to `t` no time passes and no word is taken: all that the rules of time words read stands, the common time apart. -/
structure SameWords (s t : State) : Prop where
  cyc : t.cyc = s.cyc
  objs : t.objs = s.objs
  cores : t.cores = s.cores
  st : ∀ q, (t.port q).st = (s.port q).st
  tm : ∀ q, (t.port q).tm = (s.port q).tm

theorem SameWords.refl (s : State) : SameWords s s := ⟨rfl, rfl, rfl, fun _ => rfl, fun _ => rfl⟩

theorem SameWords.trans {s t u : State} (h : SameWords s t) (g : SameWords t u) : SameWords s u :=
  ⟨g.cyc.trans h.cyc, g.objs.trans h.objs, g.cores.trans h.cores, fun q => (g.st q).trans (h.st q), fun q => (g.tm q).trans (h.tm q)⟩

theorem SameWords.of_view {s t : State} (h : t.timeView = s.timeView) : SameWords s t := by
  obtain ⟨-, hcyc, hobjs, hcores, hport⟩ := State.timeView_inj.1 h
  exact ⟨hcyc, hobjs, hcores, fun q => (hport q).1, fun q => (hport q).2⟩

theorem SameWords.of_time (s : State) (t : Sundial) : SameWords s { s with time := t } := ⟨rfl, rfl, rfl, fun _ => rfl, fun _ => rfl⟩

theorem State.time_of_view {s t : State} (h : t.timeView = s.timeView) : t.time = s.time := (State.timeView_inj.1 h).1

theorem State.timeView_foldl {α : Type} (f : State → α → State) (h : ∀ s a, (f s a).timeView = s.timeView) (xs : List α) (s : State) :
    (xs.foldl f s).timeView = s.timeView := by
  induction xs generalizing s with
  | nil => rfl
  | cons a xs ih => rw [List.foldl_cons, ih, h]

/-- The state of Sundial changes, and the interrupts of 15 Table 15-5 touch nothing that time words read. -/
theorem State.timeView_setSundial (s : State) (st : Nat) :
    (s.setSundial st).timeView = ({ s with time := { s.time with st := st } } : State).timeView := by
  unfold State.setSundial
  split
  · next h => subst h; rfl
  · dsimp only
    rw [State.timeView_foldl, State.timeView_raise]
    intro t p
    unfold State.raiseVf
    rw [apply_ite State.timeView, State.timeView_raise, ite_self]

/-- Entering a state changes of the time SUNDIAL_STATE, and it may end the PPS output (02 R46). -/
theorem State.enter_spec (s : State) (st : Nat) :
    SameWords s (s.enter st) ∧ ∃ b, (s.enter st).time = { s.time with st := st, ppsOut := b } := by
  have h := s.timeView_setSundial st
  have hw : SameWords s (s.setSundial st) := (SameWords.of_time ..).trans (.of_view h)
  have ht : (s.setSundial st).time = { s.time with st := st } := State.time_of_view h
  unfold State.enter State.ppsGate
  split
  · exact ⟨hw.trans (.of_time ..), false, by rw [ht]⟩
  · exact ⟨hw, s.time.ppsOut, ht⟩

/-- The chip keeps its count, its epoch and its part in the time tree too. -/
structure SameCount (s t : State) : Prop extends SameWords s t where
  now : t.time.now = s.time.now
  epoch : t.time.epoch = s.time.epoch
  isSource : t.time.isSource = s.time.isSource

theorem SameCount.refl (s : State) : SameCount s s := ⟨.refl s, rfl, rfl, rfl⟩

theorem SameCount.trans {s t u : State} (h : SameCount s t) (g : SameCount t u) : SameCount s u :=
  ⟨h.toSameWords.trans g.toSameWords, g.now.trans h.now, g.epoch.trans h.epoch, g.isSource.trans h.isSource⟩

theorem SameCount.of_time {s : State} {t : Sundial} (hnow : t.now = s.time.now) (hepoch : t.epoch = s.time.epoch)
    (hsrc : t.isSource = s.time.isSource) : SameCount s { s with time := t } := ⟨.of_time .., hnow, hepoch, hsrc⟩

theorem SameCount.enter (s : State) (st : Nat) : SameCount s (s.enter st) := by
  obtain ⟨hw, b, ht⟩ := s.enter_spec st
  exact ⟨hw, by rw [ht], by rw [ht], by rw [ht]⟩

theorem State.enter_upstream (s : State) (st : Nat) : (s.enter st).time.upstream = s.time.upstream := by
  obtain ⟨-, b, ht⟩ := s.enter_spec st
  rw [ht]

theorem State.enter_offset (s : State) (st : Nat) : (s.enter st).time.offset = s.time.offset := by
  obtain ⟨-, b, ht⟩ := s.enter_spec st
  rw [ht]

/-- HOLDOVER and FREE are entered with the count, the epoch and the upstream port as they stand (02 Table 2-2). -/
theorem State.toHoldover_spec (s : State) : SameCount s s.toHoldover ∧ s.toHoldover.time.upstream = s.time.upstream := by
  unfold State.toHoldover
  rw [State.enter_upstream]
  refine ⟨SameCount.trans (.of_time ?_ ?_ ?_) (.enter _ 1), ?_⟩ <;> rfl

theorem State.toFree_spec (s : State) :
    SameCount s s.toFree ∧ s.toFree.time.offset = s.time.offset ∧ s.toFree.time.upstream = s.time.upstream := by
  unfold State.toFree
  rw [State.enter_offset, State.enter_upstream]
  refine ⟨SameCount.trans (.of_time ?_ ?_ ?_) (.enter _ 0), ?_, ?_⟩ <;> rfl

/-- A port's place in the live set is read from its state and words, the objects, the time since PWRGOOD and the epoch (02 R40). -/
theorem State.liveTime_congr {s t : State} {q : Nat} (hst : (t.port q).st = (s.port q).st) (htm : (t.port q).tm = (s.port q).tm)
    (hobjs : t.objs = s.objs) (hcyc : t.cyc = s.cyc) (hepoch : t.time.epoch = s.time.epoch) : t.liveTime q = s.liveTime q := by
  simp only [State.liveTime, hst, htm, hcyc, hepoch, State.blp_congr hobjs]

theorem SameCount.liveTime {s t : State} (h : SameCount s t) (q : Nat) : t.liveTime q = s.liveTime q :=
  State.liveTime_congr (h.st q) (h.tm q) h.objs h.cyc h.epoch

theorem State.portDelay_congr {s t : State} {q : Nat} (h : (t.port q).tm.delays = (s.port q).tm.delays) : t.portDelay q = s.portDelay q := by
  unfold State.portDelay
  rw [h]

theorem State.lowestHops_mem {s : State} {l : List Nat} {q : Nat} (h : s.lowestHops l = some q) : q ∈ l := by
  cases l with
  | nil => cases h
  | cons a l =>
    cases h
    refine List.foldlRecOn (motive := fun x => x ∈ a :: l) _ _ List.mem_cons_self (fun x hx b hb => ?_)
    split
    · exact List.mem_cons_of_mem a hb
    · exact hx

theorem State.mem_livePorts {s : State} {q : Nat} : q ∈ s.livePorts ↔ q < 64 ∧ s.liveTime q = true := by
  simp [State.livePorts]

/-- The port that a choice of the upstream names: of the live ports that offer a path the one of the lowest HOPS, unless the path is deeper
than 24 hops (02 R40, R41). -/
def State.pathPort (s : State) : Option Nat :=
  let best := s.lowestHops (s.livePorts.filter (fun q => decide ((s.port q).tm.hops < 0xFF)))
  let deep : Bool := match best with | some q => decide (24 < (s.port q).tm.hops + 1) | none => false
  if deep then none else best

theorem State.pathPort_live {s : State} {q : Nat} (h : s.pathPort = some q) : s.liveTime q = true :=
  (State.mem_livePorts.1 (List.mem_filter.1 (State.lowestHops_mem (Option.ite_none_left_eq_some.1 h).2)).1).2

/-- What a choice of the upstream port does: nothing on the source; else the upstream is the port of the path, and the count, the epoch and
the part of the chip stay. -/
theorem State.reselect_spec (s : State) :
    SameCount s s.reselect ∧ (s.time.isSource = false → s.reselect.time.upstream = s.pathPort) := by
  unfold State.reselect
  split
  · next h => exact ⟨.refl s, fun h' => by rw [h] at h'; cases h'⟩
  · dsimp only
    split
    · exact ⟨.of_time rfl rfl rfl, fun _ => rfl⟩
    · split
      · rw [(State.toHoldover_spec _).2]
        refine ⟨SameCount.trans (.of_time ?_ ?_ ?_) (State.toHoldover_spec _).1, fun _ => ?_⟩ <;> rfl
      · split
        · exact ⟨.of_time rfl rfl rfl, fun _ => rfl⟩
        · exact ⟨.of_time rfl rfl rfl, fun _ => rfl⟩

theorem State.reselect_sameCount (s : State) : SameCount s s.reselect := s.reselect_spec.1

/-- The upstream port that a choice leaves is live (02 R40). -/
theorem State.reselect_upstream_live {s : State} {q : Nat} (hsrc : s.time.isSource = false) (h : s.reselect.time.upstream = some q) :
    s.reselect.liveTime q = true := by
  rw [s.reselect_spec.2 hsrc] at h
  rw [s.reselect_sameCount.liveTime]
  exact State.pathPort_live h

/-- A measured offset is noted, and one out of bound makes the chip FREE (02 Table 2-2). -/
theorem State.measured_spec (s : State) (o : Int) :
    SameCount s (s.measured o) ∧ (s.measured o).time.offset = some o ∧ (s.measured o).time.upstream = s.time.upstream := by
  have hnote : SameCount s { s with time := { s.time with offset := some o, offsetAt := s.cyc.ns } } := .of_time rfl rfl rfl
  obtain ⟨hfree, hoff, hup⟩ := State.toFree_spec { s with time := { s.time with offset := some o, offsetAt := s.cyc.ns } }
  unfold State.measured
  dsimp only
  split
  · exact ⟨hnote.trans hfree, hoff, hup⟩
  · split
    · exact ⟨hnote.trans hfree, hoff, hup⟩
    · exact ⟨hnote, rfl, rfl⟩

end Sys2Proof.Machine
end

section
/-! PROOF. A received time word, as its port takes it and as the chip uses it (02 R36 to R41, R50; 19 R530). -/

namespace Sys2Proof.Machine

/-! ### A word is taken (02 R36 to R41) -/

theorem Sparse.find_map {α β : Type} (g : α → β) (m : Sparse α) (k : Nat) :
    Sparse.find (m.map (fun r => (r.1, g r.2))) k = (Sparse.find m k).map g := by
  induction m with
  | nil => rfl
  | cons r m ih =>
    simp only [List.map_cons, Sparse.find, ih]
    split <;> rfl

theorem Sparse.getD_map {α β : Type} (g : α → β) (m : Sparse α) (k : Nat) (d : α) :
    Sparse.getD (m.map (fun r => (r.1, g r.2))) k (g d) = g (Sparse.getD m k d) := by
  unfold Sparse.getD
  rw [Sparse.find_map, Option.getD_map]

/-- A count that is set forgets when its words left, on every port (19 R530). -/
theorem State.port_setCount (s : State) (v : Nat) (e : Epoch) (q : Nat) :
    (s.setCount v e).port q = { s.port q with tm := { (s.port q).tm with txAt := [] } } :=
  Sparse.getD_map (fun p : Port => ({ p with tm := { p.tm with txAt := [] } } : Port)) s.ports q {}

/-- The state in which port `q` has taken a word that is not of another epoch: the record of the port, and the delay it measures (02 R39). -/
def State.tookWord (s : State) (q pay : Nat) : State :=
  let s := if s.livePorts.isEmpty then { s with time := { s.time with lossSince := none } } else s
  let s := s.updPort q (fun p => { p with tm := p.tm.take pay s.cyc.ns s.time.now })
  if s.liveTime q then s.measureDelay q pay else s

/-- A measured delay changes nothing but the delays and the sent words of its port. -/
theorem State.measureDelay_spec (s : State) (q pay : Nat) :
    s.measureDelay q pay = s ∨
      ∃ x d, s.measureDelay q pay = s.setPort q { s.port q with tm := { (s.port q).tm with txAt := x, delays := d } } := by
  unfold State.measureDelay
  dsimp only
  split
  · exact .inl rfl
  · exact .inr ⟨_, _, rfl⟩

/-- What a port that takes a word keeps of it; the rest of the chip stands, but for the time since which the source looks lost. -/
structure TookWord (s t : State) (q pay : Nat) : Prop where
  now : t.time.now = s.time.now
  epoch : t.time.epoch = s.time.epoch
  isSource : t.time.isSource = s.time.isSource
  cyc : t.cyc = s.cyc
  objs : t.objs = s.objs
  other : ∀ r, r ≠ q → t.port r = s.port r
  st : (t.port q).st = (s.port q).st
  tm : ∃ x d, (t.port q).tm = { (s.port q).tm.take pay s.cyc.ns s.time.now with txAt := x, delays := d }

theorem State.tookWord_spec (s : State) (q pay : Nat) : TookWord s (s.tookWord q pay) q pay := by
  have hloss : ∃ l, (if s.livePorts.isEmpty then { s with time := { s.time with lossSince := none } } else s : State) =
      { s with time := { s.time with lossSince := l } } := by
    split
    · exact ⟨none, rfl⟩
    · exact ⟨s.time.lossSince, rfl⟩
  obtain ⟨l, hl⟩ := hloss
  unfold State.tookWord
  simp only [hl]
  generalize ht : ({ s with time := { s.time with lossSince := l } } : State).updPort q
    (fun p => { p with tm := p.tm.take pay s.cyc.ns s.time.now }) = t
  have hport : ∀ r, t.port r = if r = q then { s.port q with tm := (s.port q).tm.take pay s.cyc.ns s.time.now } else s.port r := by
    subst ht; exact fun r => State.port_setPort ..
  have htook : TookWord s t q pay := by
    subst ht
    exact ⟨rfl, rfl, rfl, rfl, rfl, fun r hr => by rw [hport, if_neg hr], by rw [hport, if_pos rfl],
      (s.port q).tm.txAt, (s.port q).tm.delays, by rw [hport, if_pos rfl]; rfl⟩
  split
  · rcases t.measureDelay_spec q pay with h | ⟨x, d, h⟩
    · rw [h]; exact htook
    · rw [h]
      obtain ⟨x', d', htm⟩ := htook.tm
      exact { htook with
        other := fun r hr => by rw [State.port_setPort, if_neg hr]; exact htook.other r hr
        st := by rw [State.port_setPort_self]; exact htook.st
        tm := ⟨x, d, by rw [State.port_setPort_self, htm]⟩ }
  · exact htook

/-- A word carries another epoch than the chip holds (02 R37). -/
def State.otherEpoch (s : State) (pay : Nat) : Bool :=
  match s.time.epoch with
  | some e => bits pay 223 160 ≠ 0 && bits pay 223 160 ≠ e.id
  | none => false

/-- Port `q` is marked as one that carries another epoch (02 R37). -/
def State.markMismatch (s : State) (q : Nat) : State := s.updPort q (fun p => { p with tm := { p.tm with mismatch := true } })

/-- What the chip does with a word its port has taken: without an epoch it may adopt the word's, else it chooses its upstream port again and,
on that port, measures its offset (02 R36, R40, R50; 19 R530). -/
def State.useWord (s : State) (q pay : Nat) : State :=
  let far := bits pay 63 0 + s.portDelay q
  match s.time.epoch with
  | none =>
    if bits pay 223 160 ≠ 0 && s.lowestHops s.livePorts = some q then
      (s.setCount far { id := bits pay 223 160, tai := bits pay 287 224 }).reselect
    else s
  | some _ =>
    let s := s.reselect
    if s.time.upstream = some q && !s.time.isSource then s.measured ((s.time.now : Int) - far) else s

theorem State.timeWord_eq (s : State) (q pay : Nat) : s.timeWord q pay =
    if s.otherEpoch pay then
      if (s.port q).tm.mismatch then s.markMismatch q else (s.markMismatch q).logRec 0x0034 q 0 none (bits pay 223 160)
    else (s.tookWord q pay).useWord q pay := (rfl)

theorem State.useWord_noEpoch {s : State} {q pay : Nat} (he : s.time.epoch = none) : s.useWord q pay =
    if bits pay 223 160 ≠ 0 && s.lowestHops s.livePorts = some q then
      (s.setCount (bits pay 63 0 + s.portDelay q) { id := bits pay 223 160, tai := bits pay 287 224 }).reselect
    else s := by
  simp only [State.useWord, he]

theorem State.useWord_ownEpoch {s : State} {q pay : Nat} {e : Epoch} (he : s.time.epoch = some e) : s.useWord q pay =
    if s.reselect.time.upstream = some q && !s.reselect.time.isSource then
      s.reselect.measured ((s.reselect.time.now : Int) - ((bits pay 63 0 + s.portDelay q : Nat) : Int))
    else s.reselect := by
  simp only [State.useWord, he]

/-- A word of another epoch leaves the time as it is, and of its port's words everything but the mark (02 R37). -/
theorem State.timeWord_otherEpoch {s : State} {q pay : Nat} (h : s.otherEpoch pay = true) :
    (s.timeWord q pay).time = s.time ∧ ((s.timeWord q pay).port q).tm = { (s.port q).tm with mismatch := true } := by
  have hmark : ((s.markMismatch q).port q).tm = { (s.port q).tm with mismatch := true } := by
    rw [State.markMismatch, State.updPort_eq, State.port_setPort_self]
  rw [State.timeWord_eq, if_pos h]
  split
  · exact ⟨rfl, hmark⟩
  · have hlog := (s.markMismatch q).timeView_logRec 0x0034 q 0 none (bits pay 223 160)
    exact ⟨(State.time_of_view hlog).trans (rfl : (s.markMismatch q).time = s.time), ((SameWords.of_view hlog).tm q).trans hmark⟩

/-- Of the words of port `q`: the last came `ns` after PWRGOOD and carried `pay` (02 R39, R40). -/
structure PortTime.Heard (t : PortTime) (pay ns : Nat) : Prop where
  mismatch : t.mismatch = false
  last : t.last = some ns
  epoch : t.epoch = bits pay 223 160
  src : t.src = bits pay 302 288
  hops : t.hops = bits pay 319 312

theorem TookWord.heard {s t : State} {q pay : Nat} (h : TookWord s t q pay) : (t.port q).tm.Heard pay s.cyc.ns := by
  obtain ⟨x, d, htm⟩ := h.tm
  rw [htm]
  exact ⟨rfl, rfl, rfl, rfl, rfl⟩

/-- A chip with an epoch that takes a word keeps count and epoch; on the upstream port the word gives the offset (02 R40, R50). -/
theorem State.useWord_ownEpoch_spec {s : State} {q : Nat} (pay : Nat) {e : Epoch} (he : s.time.epoch = some e) :
    SameCount s (s.useWord q pay) ∧ ((s.useWord q pay).time.isSource = false → (s.useWord q pay).time.upstream = some q →
      (s.useWord q pay).time.offset =
        some ((s.time.now : Int) - ((bits pay 63 0 + (s.useWord q pay).portDelay q : Nat) : Int))) := by
  have hre := s.reselect_sameCount
  rw [State.useWord_ownEpoch he]
  split
  · obtain ⟨hme, hoff, -⟩ := s.reselect.measured_spec ((s.reselect.time.now : Int) - ((bits pay 63 0 + s.portDelay q : Nat) : Int))
    refine ⟨hre.trans hme, fun _ _ => ?_⟩
    rw [hoff, State.portDelay_congr (congrArg PortTime.delays ((hre.trans hme).tm q)), hre.now]
  · next hup =>
    refine ⟨hre, fun hsrc hq => absurd ?_ hup⟩
    simp [hsrc, hq]

/-- A chip without an epoch that takes a word adopts the word's epoch and count, where the word has an epoch and its port is the nearest of the
live ones to the source; else it stays without (02 R36; 19 R530). -/
theorem State.useWord_noEpoch_spec {s : State} {q : Nat} (pay : Nat) (he : s.time.epoch = none) :
    (s.useWord q pay = s ∧ ¬(bits pay 223 160 ≠ 0 ∧ s.lowestHops s.livePorts = some q)) ∨
    ((s.useWord q pay).time.epoch = some { id := bits pay 223 160, tai := bits pay 287 224 } ∧
      (s.useWord q pay).time.now = bits pay 63 0 + (s.useWord q pay).portDelay q ∧ bits pay 223 160 ≠ 0 ∧
      ∃ x, ((s.useWord q pay).port q).tm = { (s.port q).tm with txAt := x }) := by
  rw [State.useWord_noEpoch he]
  split
  · next h =>
    generalize ht : s.setCount (bits pay 63 0 + s.portDelay q) { id := bits pay 223 160, tai := bits pay 287 224 } = t
    have hre := t.reselect_sameCount
    have htm : (t.reselect.port q).tm = { (s.port q).tm with txAt := [] } := by rw [hre.tm, ← ht, State.port_setCount]
    simp only [Bool.and_eq_true, decide_eq_true_eq] at h
    refine .inr ⟨?_, ?_, h.1, [], htm⟩
    · rw [hre.epoch, ← ht]; rfl
    · rw [hre.now, State.portDelay_congr (s := s) (by rw [htm]), ← ht]; rfl
  · next h =>
    exact .inl ⟨rfl, by simpa using h⟩

end Sys2Proof.Machine
end

section
/-! PROOF. What a received word does by its epoch, and what the passing of time does to a port without words. -/

namespace Sys2Proof.Machine
open Sys2Proof.Safety

/-! ### What a received word does, by the epoch it carries -/

theorem State.otherEpoch_noEpoch {s : State} (pay : Nat) (he : s.time.epoch = none) : s.otherEpoch pay = false := by
  simp only [State.otherEpoch, he]

theorem State.otherEpoch_epoch {s : State} (pay : Nat) {e : Epoch} (he : s.time.epoch = some e) :
    s.otherEpoch pay = true ↔ bits pay 223 160 ≠ 0 ∧ bits pay 223 160 ≠ e.id := by
  simp [State.otherEpoch, he]

/-- A word without an epoch is never one of another. -/
theorem State.otherEpoch_zero (s : State) {pay : Nat} (h : bits pay 223 160 = 0) : s.otherEpoch pay = false := by
  unfold State.otherEpoch
  split <;> simp [h]

/-- A word that is not set aside is kept by its port, whatever the chip does with it (02 R39, R40). -/
theorem State.timeWord_heard {s : State} {q pay : Nat} (h : s.otherEpoch pay = false) :
    ((s.timeWord q pay).port q).tm.Heard pay s.cyc.ns := by
  have htook := s.tookWord_spec q pay
  have hheard := htook.heard
  rw [State.timeWord_eq, h, if_neg Bool.false_ne_true]
  cases he : s.time.epoch with
  | some e => rw [((State.useWord_ownEpoch_spec pay (htook.epoch.trans he)).1).tm]; exact hheard
  | none =>
    rcases State.useWord_noEpoch_spec pay (htook.epoch.trans he) with ⟨hsame, -⟩ | ⟨-, -, -, x, htm⟩
    · rw [hsame]; exact hheard
    · rw [htm]; exact ⟨hheard.mismatch, hheard.last, hheard.epoch, hheard.src, hheard.hops⟩

/-- A chip with an epoch that takes a word keeps its count and its epoch; on the upstream port the word gives the offset (02 R40, R50). -/
theorem State.timeWord_ownEpoch {s : State} {q pay : Nat} {e : Epoch} (he : s.time.epoch = some e) (h : s.otherEpoch pay = false) :
    (s.timeWord q pay).time.epoch = some e ∧ (s.timeWord q pay).time.now = s.time.now ∧
    ((s.timeWord q pay).time.isSource = false → (s.timeWord q pay).time.upstream = some q →
      (s.timeWord q pay).time.offset =
        some ((s.time.now : Int) - ((bits pay 63 0 + (s.timeWord q pay).portDelay q : Nat) : Int))) := by
  have htook := s.tookWord_spec q pay
  obtain ⟨hsame, hoff⟩ := State.useWord_ownEpoch_spec (q := q) pay (htook.epoch.trans he)
  rw [State.timeWord_eq, h, if_neg Bool.false_ne_true, ← htook.now]
  exact ⟨hsame.epoch.trans (htook.epoch.trans he), hsame.now, hoff⟩

/-- A chip without an epoch that takes a word stays without, or adopts the word's epoch and count; it does not stay without where the word has
an epoch and its port is the nearest of the live ones to the source (02 R36; 19 R530). -/
theorem State.timeWord_noEpoch {s : State} {q pay : Nat} (he : s.time.epoch = none) :
    ((s.timeWord q pay).time.epoch = none ∧ (s.timeWord q pay).time.now = s.time.now ∧
      ¬(bits pay 223 160 ≠ 0 ∧ (s.tookWord q pay).lowestHops (s.tookWord q pay).livePorts = some q)) ∨
    ((s.timeWord q pay).time.epoch = some { id := bits pay 223 160, tai := bits pay 287 224 } ∧
      (s.timeWord q pay).time.now = bits pay 63 0 + (s.timeWord q pay).portDelay q ∧ bits pay 223 160 ≠ 0) := by
  have htook := s.tookWord_spec q pay
  rw [State.timeWord_eq, State.otherEpoch_noEpoch pay he, if_neg Bool.false_ne_true]
  rcases State.useWord_noEpoch_spec pay (htook.epoch.trans he) with ⟨hsame, hnot⟩ | ⟨hepoch, hnow, h0, -⟩
  · rw [hsame]; exact .inl ⟨htook.epoch.trans he, htook.now, hnot⟩
  · exact .inr ⟨hepoch, hnow, h0⟩

/-- The one live port is the nearest to the source. -/
theorem State.lowestHops_sole {s : State} {q : Nat} (hq : q < 64) (hlive : s.liveTime q = true)
    (hothers : ∀ r, r ≠ q → s.liveTime r = false) : s.lowestHops s.livePorts = some q := by
  have hmem : q ∈ s.livePorts := State.mem_livePorts.2 ⟨hq, hlive⟩
  cases hbest : s.lowestHops s.livePorts with
  | none =>
    cases hl : s.livePorts with
    | nil => rw [hl] at hmem; cases hmem
    | cons a l => rw [hl] at hbest; cases hbest
  | some r =>
    by_contra hne
    have hr := (State.mem_livePorts.1 (State.lowestHops_mem hbest)).2
    rw [hothers r (fun h => hne (congrArg some h))] at hr
    cases hr

/-- A chip without an epoch adopts that of a word with one, where no other port is live (02 R36; 19 R530). -/
theorem State.timeWord_adopts {s : State} {q pay : Nat} (hq : q < 64) (hst : (s.port q).st = 4) (hblp : s.blp q = true)
    (he : s.time.epoch = none) (h0 : bits pay 223 160 ≠ 0) (hothers : ∀ r, r ≠ q → s.liveTime r = false) :
    (s.timeWord q pay).time.epoch = some { id := bits pay 223 160, tai := bits pay 287 224 } ∧
    (s.timeWord q pay).time.now = bits pay 63 0 + (s.timeWord q pay).portDelay q := by
  have htook := s.tookWord_spec q pay
  have hlive : (s.tookWord q pay).liveTime q = true := by
    simp [State.liveTime, htook.st, hst, State.blp_congr htook.objs, hblp, htook.heard.last, htook.heard.epoch, htook.cyc, htook.epoch,
      he, h0]
  have hother : ∀ r, r ≠ q → (s.tookWord q pay).liveTime r = false := fun r hr =>
    (State.liveTime_congr (by rw [htook.other r hr]) (by rw [htook.other r hr]) htook.objs htook.cyc htook.epoch).trans (hothers r hr)
  rcases State.timeWord_noEpoch (q := q) (pay := pay) he with ⟨-, -, hnot⟩ | ⟨hepoch, hnow, -⟩
  · exact absurd ⟨h0, State.lowestHops_sole hq hlive hother⟩ hnot
  · exact ⟨hepoch, hnow⟩

/-! ### Time passes (log 9) -/

/-- From `s` to `t` only Tally counters may change. -/
def TallyOnly (s t : State) : Prop := ∃ y, t = { s with tally := y }

theorem TallyOnly.refl (s : State) : TallyOnly s s := ⟨s.tally, rfl⟩

theorem TallyOnly.trans {s t u : State} (h : TallyOnly s t) (g : TallyOnly t u) : TallyOnly s u := by
  obtain ⟨y, rfl⟩ := h
  obtain ⟨z, rfl⟩ := g
  exact ⟨z, rfl⟩

theorem TallyOnly.ite {s t u : State} {c : Prop} [Decidable c] (h : TallyOnly s t) (g : TallyOnly s u) :
    TallyOnly s (if c then t else u) := by
  split
  · exact h
  · exact g

theorem TallyOnly.foldl {α : Type} (f : State → α → State) (h : ∀ s a, TallyOnly s (f s a)) (xs : List α) (s : State) :
    TallyOnly s (xs.foldl f s) := by
  induction xs generalizing s with
  | nil => exact .refl s
  | cons a xs ih => exact (h s a).trans (ih _)

theorem State.tallyAdd_tallyOnly (s : State) (i j n : Nat) : TallyOnly s (s.tallyAdd i j n) := .ite ⟨_, rfl⟩ ⟨_, rfl⟩

theorem State.countCore_tallyOnly (s : State) (n : Nat) (c : Core) (cy : Nat) : TallyOnly s (s.countCore n c cy) := by
  have hbusy : TallyOnly s (((List.range 5).zip c.engs).foldl
      (fun s (i, e) => if e.run.isEmpty then s else s.tallyAdd (i + 2) n cy) s) :=
    .foldl _ (fun s p => .ite (.refl s) (s.tallyAdd_tallyOnly ..)) _ s
  have hstall := hbusy.trans (.ite (c := b2n c.sa.sbStalled + b2n c.sx.sbStalled = 0) (.refl _)
    (State.tallyAdd_tallyOnly _ 0x11 n ((b2n c.sa.sbStalled + b2n c.sx.sbStalled) * cy)))
  exact hstall.trans (.ite (.refl _) (State.tallyAdd_tallyOnly ..))

/-- As time passes, the count, the clocks, the Tally counters and the buckets of the Pavilions go on; PWRGOOD given, the time since it by as much
as passes. -/
theorem State.elapse_spec (s : State) (dt : Nat) : ∃ n x c y p,
    s.elapse dt = { s with time := { s.time with now := n, trimFrac := x }, cyc := c, tally := y, pavs := p } ∧
    (s.boot.pwrgood = true → c.ns = s.cyc.ns + dt) := by
  unfold State.elapse
  split
  · next h =>
    refine ⟨_, _, _, _, _, rfl, fun hp => ?_⟩
    simp only [hp, Bool.not_true, Bool.or_false, decide_eq_true_eq] at h
    rw [h, Nat.add_zero]
  · have hrun : ∃ n x, (if bit s.boot.clk 1 then s.time else s.time.run s.cyc.ns dt) = { s.time with now := n, trimFrac := x } := by
      split
      · exact ⟨_, _, rfl⟩
      · exact ⟨_, _, rfl⟩
    obtain ⟨n, x, hrun⟩ := hrun
    dsimp only
    rw [hrun]
    obtain ⟨y, hy⟩ := TallyOnly.foldl (fun t (r : Nat × Core) => t.countCore r.1 r.2 (s.cyclesIn dt).1)
      (fun t r => t.countCore_tallyOnly ..) s.cores
      { s with time := { s.time with now := n, trimFrac := x },
               cyc := { s.cyc with ns := s.cyc.ns + dt, cycles := s.cyc.cycles + (s.cyclesIn dt).1, frac := (s.cyclesIn dt).2 } }
    rw [hy]
    exact ⟨n, x, _, y, _, rfl, fun _ => rfl⟩

/-! ### A port leaves the time tree (02 R40) -/

/-- A port whose last word came 64 µs ago is not live (02 R40). -/
theorem State.not_liveTime_of_expired {s : State} {q t : Nat} (hlast : (s.port q).tm.last = some t) (h : t + 64000 ≤ s.cyc.ns) :
    s.liveTime q = false := by
  have hlate : ¬s.cyc.ns < t + 64000 := by omega
  simp [State.liveTime, hlast, hlate]

/-- 64 µs after its last word a port is not live, and the upstream is another or none (02 R40). -/
theorem State.exec_portTimeLiveExpiry {s : State} {q : PortIx} {t : Nat} (hlast : (s.port q).tm.last = some t) :
    ∃ s', exec (.portTimeLiveExpiry q) s = .next s' ∧ s'.cores = s.cores ∧ (s.boot.pwrgood = true → s'.liveTime q = false) ∧
      (s.boot.pwrgood = true → s.time.isSource = false → s'.time.upstream ≠ some q.val) := by
  have hexec : exec (.portTimeLiveExpiry q) s = .next (s.elapseNs (t + 64000)).reselect := by
    change execPortTimeLiveExpiry q s = _
    simp only [execPortTimeLiveExpiry, hlast]
  obtain ⟨n, x, c, y, p, hs, hns⟩ := s.elapse_spec (t + 64000 - s.cyc.ns)
  have hre := (s.elapseNs (t + 64000)).reselect_sameCount
  have hdead : s.boot.pwrgood = true → (s.elapseNs (t + 64000)).reselect.liveTime q = false := by
    intro hp
    have hc := hns hp
    rw [hre.liveTime]
    refine State.not_liveTime_of_expired (t := t) ?_ ?_
    · rw [State.elapseNs, hs]; exact hlast
    · rw [State.elapseNs, hs]; dsimp only; omega
  refine ⟨_, hexec, ?_, hdead, fun hp hsrc hup => ?_⟩
  · rw [hre.cores, State.elapseNs, hs]
  · have hlive := State.reselect_upstream_live (by rw [State.elapseNs, hs]; exact hsrc) hup
    rw [hdead hp] at hlive
    cases hlive

end Sys2Proof.Machine
end

section
/-! PROOF. A time word as it is sent (02 R36, R39; 13 R354). -/

namespace Sys2Proof.Machine
open Sys2Proof.Safety

/-! ### A word is sent (02 R36, R39; 13 R354, Table 13-3) -/

/-- The header of a flit adds acknowledgement and credits to it (13 R353). -/
theorem PortLl.header_ty (l : PortLl) (f : Flit) : (l.header f).ty = f.ty := by
  unfold PortLl.header
  dsimp only
  split <;> rfl

theorem PortLl.header_payload (l : PortLl) (f : Flit) : (l.header f).payload = f.payload := by
  unfold PortLl.header
  dsimp only
  split <;> rfl

/-- A flit leaves a port that carries flits directly as the blocks of its lanes, and changes of the chip the rest of its port only, its time words
apart (13 R351). -/
theorem State.sendFlit_direct {s : State} {q : Nat} (f : Flit) (h : s.blp q = true) : ∃ m,
    s.sendFlit q f =
      { s with ports := m, out := s.out ++ [.flit q (fecBlocks (s.port q).blocks ((s.port q).ll.header f).encode)] } ∧
    (Sparse.getD m q {} : Port).tm = (s.port q).tm ∧ ∀ r, r ≠ q → Sparse.getD m r {} = s.port r := by
  obtain ⟨l, hl⟩ : ∃ l, s.returned q = s.setPort q { s.port q with ll := l } := ⟨_, rfl⟩
  refine ⟨Sparse.put (Sparse.put s.ports q { s.port q with ll := l }) q
    { s.port q with ll := l, blocks := ((s.port q).blocks + 8) % 65535 }, ?_, ?_, fun r hr => ?_⟩
  · have hblp : (s.setPort q { s.port q with ll := l }).blp q = true := h
    have hport : ((s.setPort q { s.port q with ll := l }).emit
        (.flit q (fecBlocks (s.port q).blocks ((s.port q).ll.header f).encode))).port q = { s.port q with ll := l } :=
      State.port_setPort_self ..
    simp only [State.sendFlit, hl, if_pos hblp, State.port_setPort_self, State.updPort_eq, hport]
    rfl
  · rw [Sparse.getD_put_self]
  · rw [Sparse.getD_put_ne _ _ _ _ hr, Sparse.getD_put_ne _ _ _ _ hr]
    rfl

/-- The fields of a time word that say the count, the epoch and the hops of the chip (13 Table 13-3). -/
theorem State.timePayload_fields (s : State) (q : Nat) : bits (s.timePayload q) 63 0 = s.time.now % 2 ^ 64 ∧
    bits (s.timePayload q) 223 160 = (s.time.epoch.getD { id := 0, tai := 0 }).id % 2 ^ 64 ∧
    bits (s.timePayload q) 319 312 = s.hopsOut % 256 := by
  have hmod (v w : Nat) : v % 2 ^ w < 2 ^ w := Nat.mod_lt v (Nat.two_pow_pos w)
  have hself (v w : Nat) : v % 2 ^ w % 2 ^ w = v % 2 ^ w := Nat.mod_mod ..
  have h128 := add_mul_lt_two_pow (hmod s.time.now 64) (hmod (s.port q).tm.echoRx 64) (n := 128) rfl
  have h144 := add_mul_lt_two_pow h128 (hmod ((s.port q).tm.txSeq + 1) 16) (n := 144) rfl
  have h160 := add_mul_lt_two_pow h144 (hmod (s.port q).tm.echoSeq 16) (n := 160) rfl
  have h224 := add_mul_lt_two_pow h160 (hmod (s.time.epoch.getD { id := 0, tai := 0 }).id 64) (n := 224) rfl
  have h288 := add_mul_lt_two_pow h224 (hmod (s.time.epoch.getD { id := 0, tai := 0 }).tai 64) (n := 288) rfl
  have h304 := add_mul_lt_two_pow h288 ((hmod s.time.srcChip 15).trans (by decide : 2 ^ 15 < 2 ^ 16)) (n := 304) rfl
  have h312 := add_mul_lt_two_pow h304 (hmod s.time.srcPrio 8) (n := 312) rfl
  refine ⟨?_, ?_, ?_⟩
  · simp (disch := decide) only [State.timePayload, bits_add_mul_of_lt]
    simp [bits]
  · simp (disch := decide) only [State.timePayload, bits_add_mul_of_lt]
    exact (bits_add_mul_self _ _ h160).trans (hself ..)
  · simp (disch := decide) only [State.timePayload, bits_add_mul_of_lt]
    exact (bits_add_mul_self _ _ h312).trans (hself s.hopsOut 8)

/-- A time word leaves a port that carries flits directly: it is a TIME flit, its number and its moment are kept, and nothing else of the chip's
time changes (13 R354). -/
theorem State.sendTime_direct {s : State} {q : Nat} (h : s.blp q = true) : ∃ m,
    s.sendTime q =
      { s with ports := m,
               out := s.out ++ [.flit q (fecBlocks (s.port q).blocks
                 ((s.port q).ll.header { ty := ftTime, payload := s.timePayload q }).encode)] } ∧
    (Sparse.getD m q {} : Port).tm.txSeq = ((s.port q).tm.txSeq + 1) % 2 ^ 16 ∧
    (Sparse.getD m q {} : Port).tm.lastSent = s.cyc.ns ∧ ∀ r, r ≠ q → Sparse.getD m r {} = s.port r := by
  obtain ⟨m, hsend, htm, hother⟩ := State.sendFlit_direct { ty := ftTime, payload := s.timePayload q } h
  unfold State.sendTime
  dsimp only
  rw [hsend]
  refine ⟨_, rfl, ?_, ?_, fun r hr => ?_⟩
  · rw [Sparse.getD_put_self, ← htm]; rfl
  · rw [Sparse.getD_put_self]
  · rw [Sparse.getD_put_ne _ _ _ _ hr, hother r hr]

/-- 16 µs after the last a time word goes out, with the count of its moment, the epoch and the hops of the chip (02 R36, R39; 13 R354). -/
theorem State.exec_timeWordDue {s : State} {q : PortIx} (hst : (s.port q).st = 4) (hblp : s.blp q = true) (hhold : (s.port q).peerHold = false)
    (hchip : s.chipState ≠ 5) (hclk : s.power.clockOn = true) :
    ∃ (s' : State) (f : Flit), exec (.timeWordDue q) s = .next s' ∧ Only [.time, .cyc, .pavs, .tally, .ports, .out] s s' ∧ OtherPorts q s s' ∧
      s'.out = s.out ++ [.flit q (fecBlocks (s.port q).blocks f.encode)] ∧ f.ty = ftTime ∧ bits f.payload 63 0 = s'.time.now % 2 ^ 64 ∧
      bits f.payload 223 160 = (s.time.epoch.getD { id := 0, tai := 0 }).id % 2 ^ 64 ∧ bits f.payload 319 312 = s.hopsOut % 256 ∧
      (s'.port q).tm.txSeq = ((s.port q).tm.txSeq + 1) % 2 ^ 16 ∧ (s'.port q).tm.lastSent = s'.cyc.ns := by
  have hexec : exec (.timeWordDue q) s = .next ((s.elapseNs ((s.port q).tm.lastSent + 16000)).sendTime q) := by
    refine (State.clocked_on _ hclk).trans ?_
    simp [hst, hblp, hhold, hchip]
  obtain ⟨n, x, c, y, p, hlater, -⟩ := s.elapse_spec ((s.port q).tm.lastSent + 16000 - s.cyc.ns)
  rw [State.elapseNs, hlater] at hexec
  obtain ⟨m, hsend, hseq, hns, hother⟩ := State.sendTime_direct (q := q)
    (s := { s with time := { s.time with now := n, trimFrac := x }, cyc := c, tally := y, pavs := p }) hblp
  rw [hsend] at hexec
  obtain ⟨hnow, hid, hhops⟩ := State.timePayload_fields
    { s with time := { s.time with now := n, trimFrac := x }, cyc := c, tally := y, pavs := p } q
  exact ⟨_, _, hexec, only_iff_mask.2 rfl, hother, rfl, PortLl.header_ty .., by rw [PortLl.header_payload, hnow],
    by rw [PortLl.header_payload, hid], by rw [PortLl.header_payload, hhops]; rfl, hseq, hns⟩

end Sys2Proof.Machine
end

section
/-! PROOF. Time words sent and received, and a port that leaves the time tree. -/

namespace Sys2Proof.Machine
open Sys2Proof.Safety

/-- To settle what a good TIME flit on an UP port that carries flits directly does, it is enough to say what its word does in every state in
which the time words read the same. -/
theorem State.exec_timeFlitReceived_of_timeWord {s : State} {q : PortIx} {f : Flit} (k : Nat) (hst : (s.port q).st = 4) (hblp : s.blp q = true)
    (hwf : f.wf = true) (hty : f.ty = ftTime) (hclk : s.power.clockOn = true) {P : State → Prop}
    (h : ∀ t : State, t.time = s.time → SameWords s t → P (t.timeWord q f.payload)) :
    ∃ s', exec (.timeFlitReceived q f.encode (some k)) s = .next s' ∧ P s' := by
  obtain ⟨t, hview, hexec⟩ := State.exec_timeFlitReceived k hst hblp hwf hty hclk
  exact ⟨_, hexec, h t (State.time_of_view hview) (.of_view hview)⟩

/-- Settles O27: each clause is what the word does in the state in which its flit's header has been taken (`exec_timeFlitReceived_of_timeWord`), by
the epoch the chip holds and the epoch the word carries. -/
theorem sundialWords : Obligations.SundialWords := by
  unfold Obligations.SundialWords
  refine ⟨fun s q => State.exec_timeWordDue, fun s q f k hst hblp hwf hty => ?_, fun s q t => State.exec_portTimeLiveExpiry⟩
  refine ⟨fun he h0 hothers hclk => State.exec_timeFlitReceived_of_timeWord k hst hblp hwf hty hclk fun t ht hw => ?adopts,
    fun e he h0 hne hclk => State.exec_timeFlitReceived_of_timeWord k hst hblp hwf hty hclk fun t ht hw => ?otherEpoch,
    fun e he hid hclk => State.exec_timeFlitReceived_of_timeWord k hst hblp hwf hty hclk fun t ht hw => ?ownEpoch,
    fun h0 hclk => State.exec_timeFlitReceived_of_timeWord k hst hblp hwf hty hclk fun t ht hw => ?noEpochCarried,
    fun he h0 hclk => State.exec_timeFlitReceived_of_timeWord k hst hblp hwf hty hclk fun t ht hw => ?noEpochHeld⟩
  case adopts =>
    refine State.timeWord_adopts q.isLt ((hw.st q).trans hst) ((State.blp_congr hw.objs q).trans hblp) (ht ▸ he) h0 (fun r hr => ?_)
    rw [State.liveTime_congr (hw.st r) (hw.tm r) hw.objs hw.cyc (congrArg Sundial.epoch ht)]
    exact hothers r hr
  case otherEpoch =>
    obtain ⟨htime, htm⟩ := State.timeWord_otherEpoch (q := q) ((State.otherEpoch_epoch f.payload (ht ▸ he)).2 ⟨h0, hne⟩)
    rw [htime, ht, ← hw.tm]
    exact ⟨he, rfl, htm, rfl⟩
  case ownEpoch =>
    have hsame : t.otherEpoch f.payload = false := by
      rw [← Bool.not_eq_true, State.otherEpoch_epoch f.payload (ht ▸ he)]
      exact fun h => h.2 hid
    have hheard := State.timeWord_heard (q := q) hsame
    obtain ⟨hepoch, hnow, hoff⟩ := State.timeWord_ownEpoch (q := q) (ht ▸ he) hsame
    rw [ht] at hnow hoff
    exact ⟨hepoch, hnow, hheard.hops, hheard.src, hw.cyc ▸ hheard.last, hoff⟩
  case noEpochCarried =>
    have hsame := t.otherEpoch_zero h0
    have hheard := State.timeWord_heard (q := q) hsame
    suffices h : (t.timeWord q f.payload).time.epoch = t.time.epoch ∧ (t.timeWord q f.payload).time.now = t.time.now by
      rw [ht] at h
      exact ⟨h.1, h.2, hheard.mismatch, hw.cyc ▸ hheard.last⟩
    cases he : t.time.epoch with
    | some e =>
      obtain ⟨hepoch, hnow, -⟩ := State.timeWord_ownEpoch (q := q) he hsame
      exact ⟨hepoch, hnow⟩
    | none =>
      rcases State.timeWord_noEpoch (q := q) (pay := f.payload) he with ⟨hepoch, hnow, -⟩ | ⟨-, -, hne⟩
      · exact ⟨hepoch, hnow⟩
      · exact absurd h0 hne
  case noEpochHeld =>
    have hnone : t.time.epoch = none := ht ▸ he
    have hheard := State.timeWord_heard (q := q) (State.otherEpoch_noEpoch f.payload hnone)
    refine ⟨hw.cyc ▸ hheard.last, hheard.epoch, ?_⟩
    rcases State.timeWord_noEpoch (q := q) (pay := f.payload) hnone with ⟨hepoch, hnow, -⟩ | ⟨hepoch, hnow, -⟩
    · exact .inl ⟨hepoch, ht ▸ hnow⟩
    · exact .inr ⟨hepoch, hnow⟩

end Sys2Proof.Machine
end

section
/-! PROOF. Reserved bits of PORT_LANE_MAP refute the statements on writes to plain objects (03 R70; 13 Table 13-10). -/

namespace Sys2Proof.Machine
open Sys2Proof.Safety

/-! ### A write to PORT_LANE_MAP with a reserved bit set

PORT_LANE_MAP lists bits 2:0. A checked write to it is stored and has no other effect, so it is plain; its reserved bits are ignored and read
as 0 (03 R70). A statement by which a plain write reads back as written is refuted by the value 8. -/

/-- No unit's rules change a write to PORT_LANE_MAP of port 0. -/
theorem plain_portLaneMap (who : Requester) (v : Nat) : Plain who 0x2500 8 v := fun _ => rfl

/-- A chip in STANDBY, where RWS objects are written (19 R539), with management addresses and an OPERATOR in MOP session 0. -/
def standbyChip : State :=
  { boot := { pwrgood := true, phase := 2, standby := true, lastState := 1 }
    objs := [(okey 0x1200 2, 1)]
    dict := { sessions := [(0, { isOpen := true, role := 1 })] } }

theorem serves_standbyChip {who : Requester} (hlive : standbyChip.live who = true) (hpath : standbyChip.vfResetting who.ix = false) :
    Serves standbyChip who :=
  { live := hlive, phase := by decide, up := rfl, still := rfl, first := rfl, path := hpath }

/-- The row of PORT_LANE_MAP in the object index (13 Table 13-10). -/
def laneMapRow : ObjInfo := ob tU8 .rws

/-- The PF0 mailbox may write 8 to PORT_LANE_MAP: a U8 whose range is all of its type. -/
theorem takes_portLaneMap : Takes standbyChip .pf0 0x2500 8 1 8 :=
  { serves := serves_standbyChip rfl rfl
    check := ⟨laneMapRow, rfl, rfl, rfl, rfl⟩ }

/-- The outcome is a next state in which PORT_LANE_MAP of port 0 holds `v`. -/
def laneMapHolds (v : Nat) : Host.Outcome State Fault Refusal → Bool
  | .next s => s.obj 0x2500 8 == v
  | _ => false

/-- Where PORT_LANE_MAP comes to hold 0, a written 8 does not read back. -/
theorem not_reads_back_of_laneMapHolds {c : Instr} {s s' : State} (hexec : exec c s = .next s') (hrun : laneMapHolds 0 (exec c s) = true) :
    s'.obj 0x2500 8 ≠ 8 := by
  rw [hexec] at hrun
  have hzero : s'.obj 0x2500 8 = 0 := beq_iff_eq.1 hrun
  omega

/-- OBJECT_WRITE of 8, in which only a reserved bit is set, leaves PORT_LANE_MAP 0. -/
theorem objectWrite_portLaneMap : laneMapHolds 0 (exec (.objectWrite .pf0 0x2500 8 0 1 8) standbyChip) = true := by decide +kernel

/-- A mailbox WRITE of 8 leaves PORT_LANE_MAP 0. -/
theorem mbxWrite_portLaneMap : laneMapHolds 0 (exec (.mbxWrite 0 0x82250008 0 8) standbyChip) = true := by decide +kernel

/-- The header of a MOP WRITE of one byte to PORT_LANE_MAP of port 0, type U8 (03 Table 3-7). -/
def laneMapHeader : Nat := 0x01020000250008020000000100000000

/-- A MOP WRITE of 8 leaves PORT_LANE_MAP 0. -/
theorem mopWrite_portLaneMap : laneMapHolds 0 (exec (.mopWrite 0 (beBytes 16 laneMapHeader ++ [8])) standbyChip) = true := by decide +kernel

/-- Refutes O41: a mailbox write of 8 to PORT_LANE_MAP, a plain object of 8 bits that lists three, passes every check, and the object then
holds 0 and not 8, as reserved bits are ignored (03 R70). -/
theorem not_mailboxAndI3c : ¬ Obligations.MailboxAndI3c := by
  unfold Obligations.MailboxAndI3c
  rintro ⟨hmailbox, -⟩
  obtain ⟨-, -, hwrite⟩ := hmailbox standbyChip standbyChip 0 0x82250008 0 8 0x2500 8 rfl rfl (by decide) (by decide) (by decide)
  obtain ⟨s', hexec, -, hheld, -⟩ := hwrite 1 (by decide) takes_portLaneMap (by decide) (by decide) (plain_portLaneMap _ _) nofun
  exact not_reads_back_of_laneMapHolds hexec mbxWrite_portLaneMap hheld

/-- Refutes O42: OBJECT_WRITE of 8 to PORT_LANE_MAP, a plain object of 8 bits that lists three, passes every check, and the object then holds
0 and not 8, as reserved bits are ignored (03 R70). -/
theorem not_objectAccess : ¬ Obligations.ObjectAccess := by
  unfold Obligations.ObjectAccess
  rintro ⟨hwrites, -⟩
  obtain ⟨-, -, -, hplain⟩ := hwrites standbyChip .pf0 0x2500 8 0 1 8 takes_portLaneMap.serves
  obtain ⟨s', hexec, -, -, hheld, -⟩ := hplain takes_portLaneMap (by decide) (plain_portLaneMap _ _) (by decide)
  exact not_reads_back_of_laneMapHolds hexec objectWrite_portLaneMap hheld

/-- Refutes O43: a MOP WRITE of 8 to PORT_LANE_MAP, a plain object of 8 bits that lists three, passes every check, and the object then holds
0 and not 8, as reserved bits are ignored (03 R70). -/
theorem not_mopSessions : ¬ Obligations.MopSessions := by
  unfold Obligations.MopSessions
  rintro ⟨-, -, hrecords, -⟩
  obtain ⟨-, hwrite, -⟩ := hrecords standbyChip 0 (beBytes 16 laneMapHeader ++ [8]) [8] laneMapHeader 0x2500 8 (serves_standbyChip rfl rfl)
    (by decide) (by decide) (by decide) (by decide) (by decide) (by decide) (by decide) (by decide) (by decide)
  obtain ⟨s', hexec, -, hheld, -⟩ := hwrite laneMapRow 8 (by decide) rfl rfl (by decide) (by decide) (by decide) (plain_portLaneMap _ _)
  exact not_reads_back_of_laneMapHolds hexec mopWrite_portLaneMap hheld

end Sys2Proof.Machine
end

section
/-! PROOF. Scalar registers, SETR, SALU, NOP, BRANCH and LOOP (04 R100, R104, R124; 05 Table 5-3, R141, R160). -/

namespace Sys2Proof.Machine
open Sys2Proof.Safety

/-! ### Scalar registers and their operations (04 R100, R104; 05 R141) -/

/-- A written register reads as written, s0 takes no value, and the others keep theirs (04 R100, R104). -/
theorem Core.sreg_setSreg (c : Core) (t : Strm) (r q : Nat) (v : Word) :
    (c.setSreg t r v).sreg t q = if r = q ∧ r ≠ 0 then v else c.sreg t q := by
  by_cases hr : r = 0
  · simp [Core.setSreg, hr]
  by_cases hq : q = 0
  · simp [Core.sreg, hq, hr]
  by_cases hsplit : (c.ctl.split && decide (t = .exec)) = true
  · simp [Core.setSreg, Core.sreg, hr, hq, hsplit, Sparse.getD_put, eq_comm (a := q)]
  · simp [Core.setSreg, Core.sreg, hr, hq, hsplit, Sparse.getD_put, eq_comm (a := q)]

theorem saluResult_min (x y : Word) : (saluResult 9 x y).toNat = min x.toNat y.toNat := by
  simp only [saluResult]
  split <;> omega

theorem saluResult_max (x y : Word) : (saluResult 10 x y).toNat = max x.toNat y.toNat := by
  simp only [saluResult]
  split <;> omega

end Sys2Proof.Machine

namespace Sys2Proof.Safety
open Sys2Proof.Machine

/-! ### Frames -/

theorem Only.refl (l : List Fld) (s : State) : Only l s s := only_iff_mask.2 rfl

theorem Only.trans {l : List Fld} {s t u : State} (h : Only l s t) (g : Only l t u) : Only l s u :=
  only_iff_mask.2 ((only_iff_mask.1 g).trans (only_iff_mask.1 h))

/-- A frame that names more fields says less. -/
theorem Only.mono {l l' : List Fld} {s t : State} (h : Only l s t) (hl : ∀ f ∈ l, f ∈ l') : Only l' s t where
  boot := h.boot.imp_left (hl _)
  time := h.time.imp_left (hl _)
  cyc := h.cyc.imp_left (hl _)
  objs := h.objs.imp_left (hl _)
  blobLen := h.blobLen.imp_left (hl _)
  reqs := h.reqs.imp_left (hl _)
  dict := h.dict.imp_left (hl _)
  cores := h.cores.imp_left (hl _)
  pavs := h.pavs.imp_left (hl _)
  streams := h.streams.imp_left (hl _)
  fns := h.fns.imp_left (hl _)
  pcie := h.pcie.imp_left (hl _)
  mem := h.mem.imp_left (hl _)
  mmeta := h.mmeta.imp_left (hl _)
  org := h.org.imp_left (hl _)
  arb := h.arb.imp_left (hl _)
  net := h.net.imp_left (hl _)
  ports := h.ports.imp_left (hl _)
  link := h.link.imp_left (hl _)
  power := h.power.imp_left (hl _)
  energy := h.energy.imp_left (hl _)
  integ := h.integ.imp_left (hl _)
  log := h.log.imp_left (hl _)
  fw := h.fw.imp_left (hl _)
  tally := h.tally.imp_left (hl _)
  out := h.out.imp_left (hl _)
  free := h.free.imp_left (hl _)
  pending := h.pending.imp_left (hl _)

/-! ### Transfers of control (04 R124, R131) -/

/-- Discarding the fetched words of a stream changes nothing but its held lines (04 R124). -/
theorem Quiet.discard (s : State) (n : Nat) (t : Strm) (a : Nat) : Quiet s (s.discard n t a) n := by
  have h := Quiet.setStrm s n t { (s.core n).strm t with line := none, ahead := none } (by
    unfold seen StreamSt.unstall; cases ((s.core n).strm t).wait <;> rfl)
  unfold State.discard
  dsimp only
  split
  · exact h
  · exact h.trans (Quiet.tallyAdd ..)

/-- A transfer of control moves the stream to its target, and nothing else (04 R124, R131). -/
theorem Ran.jump {s s1 : State} {n : Nat} {t : Strm} {k : Core} {v : StreamSt} (h : Ran s s1 n t k v) (a target : Nat) :
    Ran s (s1.jump n t a target) n t k { v with pc := target } :=
  (h.quiet (Quiet.discard s1 n t a)).updStrm (fun x => { x with pc := target }) (fun x => by
    cases x with | mk a b y c d e f g h => cases y <;> rfl)

theorem Ran.flags {s s1 : State} {n : Nat} {t : Strm} {k : Core} {v : StreamSt} (h : Ran s s1 n t k v) :
    ((s1.core n).strm t).flags = v.flags := by
  rw [← seen_flags, h.own, seen_flags]

/-- A control command that its stream offers leaves what its own effect makes of the issued word (05 R138). -/
theorem Offers.ran_control {s : State} {n : Nat} {t : Strm} {d : Dec} {ext op : Nat} (h : Offers s n t d ext) (hop : d.op = op)
    (ho : op < 0x20) (hk : (controlCheck d).ill = false) (hb : (controlCheck d).bnd = false) (f : State → Dec → State → State)
    {k : Core} {v : StreamSt}
    (hf : ∀ s1, Ran s s1 n t (s.core n) (passed ((s.core n).strm t) d ext) → Ran s (f (s.fetched n t) d s1) n t k v) :
    ∃ s', (Host.Outcome.next (s.issue n t op (fun s d ext => s.control n t d ext (f s d))) : Host.Outcome State Fault Refusal) = .next s' ∧
      Ran s s' n t k v := by
  obtain ⟨s1, hran, -, heq⟩ := State.issue_control h hop (hop ▸ ho) hk hb f
  exact ⟨_, congrArg _ heq, (hf s1 hran).quiet (Quiet.wordDone ..)⟩

/-- A control command whose operands do not pass is a fault at issue (05 R138 check 3). -/
theorem Offers.control_fault {s : State} {n : Nat} {t : Strm} {d : Dec} {ext op : Nat} (h : Offers s n t d ext) (hop : d.op = op)
    (ho : op < 0x20) (f : State → Dec → State → State) :
    ((controlCheck d).ill = true →
      s.issue n t op (fun s d ext => s.control n t d ext (f s d)) = (s.fetched n t).coreFault n t d.addr illegalOp) ∧
    ((controlCheck d).ill = false → (controlCheck d).bnd = true →
      s.issue n t op (fun s d ext => s.control n t d ext (f s d)) = (s.fetched n t).coreFault n t d.addr plotBounds) := by
  have hlt : d.op < 0x20 := hop ▸ ho
  rw [State.issue_offers h hop]
  simp +contextual [State.control, State.issueControl, State.operandCheck, hlt]

/-- A command that writes a scalar register: its value may be read from the core, but not from its streams. -/
theorem Ran.setSreg {s s1 : State} {n : Nat} {t : Strm} {k : Core} {v : StreamSt} (h : Ran s s1 n t k v) (r : Nat) (w : Core → Word)
    (hw : ∀ c, w (still c) = w c) : Ran s (s1.updCore n (fun c => c.setSreg t r (w c))) n t (k.setSreg t r (w k)) v :=
  h.upd (fun c => c.setSreg t r (w c)) (fun c => by rw [hw]; exact Core.still_setSreg t r _ c)
    (fun c => ⟨c.strm_setSreg t .access r _, c.strm_setSreg t .exec r _⟩)

/-! ### SETR, SALU, NOP, BRANCH and LOOP (05 Table 5-3, R141) -/

section
variable {s : State} {n : CoreIx} {t : Strm} {d : Dec} {ext : Nat} (h : Offers s n t d ext)
include h

theorem Offers.setr (hop : d.op = 0x11) : ∃ s', exec (.setr n t) s = .next s' ∧
    Ran s s' n t ((s.core n).setSreg t (d.m 4 0) (BitVec.ofNat 32 d.x1)) (passed ((s.core n).strm t) d ext) :=
  h.ran_control hop (by decide) (by simp [controlCheck, hop]) (by simp [controlCheck, hop]) _
    fun _ hran => hran.setSreg _ (fun _ => BitVec.ofNat 32 d.x1) (fun _ => rfl)

theorem Offers.salu (hop : d.op = 0x12) : ∃ s', exec (.salu n t) s = .next s' ∧
    Ran s s' n t ((s.core n).setSreg t (d.m 8 4) (saluResult (d.m 3 0) ((s.core n).sreg t (d.m 13 9)) (BitVec.ofNat 32 d.a)))
      (passed ((s.core n).strm t) d ext) :=
  h.ran_control hop (by decide) (by simp [controlCheck, hop]) (by simp [controlCheck, hop]) _
    fun _ hran => hran.setSreg _ (fun c => saluResult (d.m 3 0) (c.sreg t (d.m 13 9)) (BitVec.ofNat 32 d.a)) (fun _ => rfl)

theorem Offers.nop (hop : d.op = 0x13) : ∃ s', exec (.nop n t) s = .next s' ∧ Ran s s' n t (s.core n) (passed ((s.core n).strm t) d ext) :=
  h.ran_control hop (by decide) (by simp [controlCheck, hop]) (by simp [controlCheck, hop]) _ fun _ hran => hran

/-- A BRANCH reads its condition and registers as they stand at its issue. -/
theorem Offers.branch (hop : d.op = 0x02) (hal : d.a % 16 = 0) (hin : inPlot d.a 16 = true) : ∃ s', exec (.branch n t) s = .next s' ∧
    Ran s s' n t (s.core n)
      (if branchTaken ((s.core n).strm t).flags (d.m 3 0) ((s.core n).sreg t (d.m 8 4)) ((s.core n).sreg t (d.m 13 9)) then
        { passed ((s.core n).strm t) d ext with pc := d.a } else passed ((s.core n).strm t) d ext) := by
  refine h.ran_control hop (by decide) (by simp [controlCheck, hop, hal]) (by simp [controlCheck, hop, hin]) _ fun s1 hran => ?_
  simp only [hran.flags, hran.sreg]
  change Ran s (if branchTaken ((s.core n).strm t).flags _ _ _ = true then _ else _) n t _ _
  split
  · exact hran.jump d.addr d.a
  · exact hran

/-- A LOOP whose register has reached 0 goes on at the next word, else it goes to OPA. -/
theorem Offers.loop (hop : d.op = 0x03) (hal : d.a % 16 = 0) : ∃ s', exec (.loop n t) s = .next s' ∧
    Ran s s' n t ((s.core n).setSreg t (d.m 4 0) ((s.core n).sreg t (d.m 4 0) - 1))
      (if (s.core n).sreg t (d.m 4 0) = 1 then passed ((s.core n).strm t) d ext else { passed ((s.core n).strm t) d ext with pc := d.a }) := by
  refine h.ran_control hop (by decide) (by simp [controlCheck, hop, hal]) (by simp [controlCheck, hop]) _ fun s1 hran => ?_
  have hdec := hran.setSreg (d.m 4 0) (fun _ => (s.core n).sreg t (d.m 4 0) - 1) (fun _ => rfl)
  simp only [hran.sreg, sub_eq_zero]
  split
  · exact hdec
  · exact hdec.jump d.addr d.a

/-- A target that is not a multiple of 16 is ILLEGAL_OP at issue (04 Table 4-2; log 14). -/
theorem Offers.misaligned_target (hop : d.op = 0x02 ∨ d.op = 0x03) (hal : d.a % 16 ≠ 0) :
    exec (if d.op = 0x02 then .branch n t else .loop n t) s = .next ((s.fetched n t).coreFault n t d.addr illegalOp) := by
  rcases hop with hop | hop
  · rw [if_pos hop]
    exact congrArg _ ((h.control_fault hop (by decide) _).1 (by simp [controlCheck, hop, hal]))
  · rw [if_neg (by omega)]
    exact congrArg _ ((h.control_fault hop (by decide) _).1 (by simp [controlCheck, hop, hal]))

/-- A BRANCH target outside the Plot is PLOT_BOUNDS at issue (05 R136, R160). -/
theorem Offers.branch_bounds (hop : d.op = 0x02) (hal : d.a % 16 = 0) (hout : inPlot d.a 16 = false) :
    exec (.branch n t) s = .next ((s.fetched n t).coreFault n t d.addr plotBounds) :=
  congrArg _ ((h.control_fault hop (by decide) _).2 (by simp [controlCheck, hop, hal]) (by simp [controlCheck, hop, hout]))

end
end Sys2Proof.Safety

namespace Sys2Proof.Machine
open Sys2Proof.Safety

/-- Settles O2, by the effect of each command on its issued word (05 R138). -/
theorem scalarAndBranchCommands : Obligations.ScalarAndBranchCommands := by
  unfold Obligations.ScalarAndBranchCommands
  refine ⟨⟨fun _ _ _ _ _ h => ⟨h.setr, h.salu, h.nop⟩, Core.sreg_setSreg, fun x y => ?_⟩,
    fun _ _ _ _ _ h => ⟨h.branch, h.loop, h.misaligned_target, h.branch_bounds⟩⟩
  exact ⟨rfl, rfl, rfl, rfl, rfl, saluResult_min x y, saluResult_max x y⟩

end Sys2Proof.Machine
end

section
/-! PROOF. REGION and QCONF: what stands in their way, and their effect (04 R106, R110, R112). -/

namespace Sys2Proof.Machine
open Sys2Proof.Safety

/-! ### Windows and their tags (04 R110, R112) -/

/-- Slot tags after each slot of a list has been set FULL or EMPTY. -/
def tagsSet (full : Bool) (l : List Nat) (m : Sparse Bool) : Sparse Bool :=
  l.foldl (fun m sl => if full then Sparse.put m sl true else Sparse.del m sl) m

theorem Core.foldl_setTag_eq (full : Bool) (l : List Nat) (c : Core) :
    l.foldl (fun c sl => c.setTag sl full) c = { c with plot := { c.plot with tags := tagsSet full l c.plot.tags } } := by
  induction l generalizing c with
  | nil => rfl
  | cons x xs ih => exact ih (c.setTag x full)

theorem getD_tagsSet (full : Bool) (l : List Nat) (m : Sparse Bool) (slot : Nat) :
    Sparse.getD (tagsSet full l m) slot false = if slot ∈ l then full else Sparse.getD m slot false := by
  induction l generalizing m with
  | nil => simp [tagsSet]
  | cons x xs ih =>
    have hx : Sparse.getD (if full then Sparse.put m x true else Sparse.del m x) slot false =
        if slot = x then full else Sparse.getD m slot false := by
      cases full
      · simp only [Bool.false_eq_true, if_false, Sparse.getD, Sparse.find_del]
        split <;> rfl
      · simp only [if_true, Sparse.getD_put]
    refine (ih _).trans ?_
    by_cases hxs : slot ∈ xs <;> simp [hx, hxs]

/-- REGION changes the windows and the tags of its core, and nothing else (04 R110, R112). -/
theorem Core.region_eq (c : Core) (w : Nat) (en full tg : Bool) (b z : Nat) : c.region w en full tg b z =
    { c with
      wins := if en then Sparse.put c.wins w { base := b, size := z, tagged := tg } else Sparse.del c.wins w
      plot := { c.plot with tags := if en && tg then tagsSet full (slotsOf b z) c.plot.tags else c.plot.tags } } := by
  unfold Core.region
  cases en
  · rfl
  · cases tg
    · rfl
    · exact Core.foldl_setTag_eq full (slotsOf b z) _

/-- A window set to TAGGED has all its tags at the initial value, and no other slot's tag changes (04 R112). -/
theorem Core.tag_region (c : Core) (w : Nat) (full tg : Bool) (b z slot : Nat) :
    (c.region w true full tg b z).tag slot = if tg && decide (slot ∈ slotsOf b z) then full else c.tag slot := by
  rw [Core.region_eq]
  cases tg
  · rfl
  · simp [Core.tag, getD_tagsSet]

/-! ### What REGION and QCONF wait for -/

/-- The first check of REGION: a window that it enables is aligned and lies in the Plot (05 R136). -/
theorem controlCheck_region {d : Dec} (hop : d.op = 0x0B)
    (hwin : d.m 5 5 = 1 → d.a % 256 = 0 ∧ d.b ≠ 0 ∧ d.b % 256 = 0 ∧ inPlot d.a d.b = true) :
    (controlCheck d).ill = false ∧ (controlCheck d).bnd = false := by
  have hbit : d.m 5 5 < 2 := Nat.mod_lt _ (by decide)
  rcases Nat.lt_succ_iff_lt_or_eq.1 hbit with h0 | h1
  · have h0 : d.m 5 5 = 0 := by omega
    simp [controlCheck, hop, h0]
  · obtain ⟨ha, hb, hbm, hin⟩ := hwin h1
    have hsize : d.b ≤ plotSize := by
      simp only [inPlot, Bool.and_eq_true, decide_eq_true_eq] at hin
      omega
    simp [controlCheck, hop, h1, ha, hb, hbm, hin, hsize]

theorem Core.regionBusy_still (c : Core) (w : Nat) (en : Bool) (b z : Nat) : (still c).regionBusy w en b z = c.regionBusy w en b z := rfl

end Sys2Proof.Machine

namespace Sys2Proof.Safety
open Sys2Proof.Machine

theorem Ran.region {s s1 : State} {n : Nat} {t : Strm} {k : Core} {v : StreamSt} (h : Ran s s1 n t k v) (w : Nat) (en full tg : Bool) (b z : Nat) :
    Ran s (s1.updCore n (fun c => c.region w en full tg b z)) n t (k.region w en full tg b z) v :=
  h.upd (fun c => c.region w en full tg b z) (fun c => by rw [Core.region_eq, Core.region_eq]; rfl)
    (fun c => by rw [Core.region_eq]; exact ⟨rfl, rfl⟩)

theorem Ran.qconf {s s1 : State} {n : Nat} {t : Strm} {k : Core} {v : StreamSt} (h : Ran s s1 n t k v) (q b z : Nat) :
    Ran s (s1.updCore n (fun c => c.qconf q b z)) n t (k.qconf q b z) v :=
  h.upd (fun c => c.qconf q b z) (fun _ => rfl) (fun _ => ⟨rfl, rfl⟩)

/-- What stands in a REGION's way is no matter of the streams. -/
theorem Ran.regionBusy {s s1 : State} {n : Nat} {t : Strm} {k : Core} {v : StreamSt} (h : Ran s s1 n t k v) (w : Nat) (en : Bool) (b z : Nat) :
    (s1.core n).regionBusy w en b z = k.regionBusy w en b z := by
  rw [← Core.regionBusy_still, h.rest, Core.regionBusy_still]

/-- What a stream waits for, but for a stall, is what `seen` shows of it. -/
theorem seen_wait_iff (v : StreamSt) {w : Wait} (hnone : w ≠ .none) (hstall : ∀ k, w ≠ .stall k) : (seen v).wait = w ↔ v.wait = w := by
  unfold seen StreamSt.unstall
  cases hv : v.wait
  case stall k => simp [Ne.symm hnone, Ne.symm (hstall k)]
  all_goals simp [hv]

theorem wait_iff_of_seen {u v : StreamSt} (h : seen u = seen v) {w : Wait} (hnone : w ≠ .none) (hstall : ∀ k, w ≠ .stall k) :
    u.wait = w ↔ v.wait = w := by
  rw [← seen_wait_iff u hnone hstall, h, seen_wait_iff v hnone hstall]

theorem popBlocked_iff (c : Core) (q : Nat) : c.popBlocked q = true ↔ ∃ u a b, (c.strm u).wait = .qpop q a b := by
  have hpop : ∀ v : StreamSt, (match v.wait with | .qpop k _ _ => decide (k = q) | _ => false) = true ↔ ∃ a b, v.wait = .qpop q a b := by
    intro v
    cases v.wait <;> simp
  constructor
  · intro h
    obtain ⟨v, hv, hq⟩ := List.any_eq_true.1 h
    obtain ⟨a, b, hw⟩ := (hpop v).1 hq
    rcases List.mem_pair.1 hv with rfl | rfl
    · exact ⟨.access, a, b, hw⟩
    · exact ⟨.exec, a, b, hw⟩
  · rintro ⟨u, a, b, hw⟩
    refine List.any_eq_true.2 ⟨c.strm u, ?_, (hpop _).2 ⟨a, b, hw⟩⟩
    cases u <;> simp [Core.strm]

/-- A QPOP blocks a queue before and after another word of its core issues: it stands in the other stream. -/
theorem Ran.popBlocked {s s1 : State} {n : Nat} {t : Strm} {v : StreamSt} (h : Ran s s1 n t (s.core n) v)
    (hs : ((s.core n).strm t).wait = .none) (hv : v.wait = .none) (q : Nat) : (s1.core n).popBlocked q = (s.core n).popBlocked q := by
  have hwait : ∀ u a b, ((s1.core n).strm u).wait = .qpop q a b ↔ ((s.core n).strm u).wait = .qpop q a b := by
    intro u a b
    by_cases hu : u = t
    · subst hu
      rw [wait_iff_of_seen h.own (by simp) (by simp), hs, hv]
    · have ho : u = other t := by
        cases u <;> cases t <;> simp_all [other]
      rw [ho]
      exact wait_iff_of_seen h.other (by simp) (by simp)
  rw [Bool.eq_iff_iff, popBlocked_iff, popBlocked_iff]
  simp only [hwait]

theorem Offers.wait_none {s : State} {n : Nat} {t : Strm} {d : Dec} {ext : Nat} (h : Offers s n t d ext) : ((s.core n).strm t).wait = .none := by
  have hcan := h.can
  simp only [Core.canIssue, Bool.and_eq_true, decide_eq_true_eq] at hcan
  exact hcan.2

/-! ### REGION and QCONF at issue, and when what they waited for has ended -/

section
variable {s : State} {n : CoreIx} {t : Strm} {d : Dec} {ext : Nat} (h : Offers s n t d ext)
include h

theorem Offers.region (hop : d.op = 0x0B) (hwin : d.m 5 5 = 1 → d.a % 256 = 0 ∧ d.b ≠ 0 ∧ d.b % 256 = 0 ∧ inPlot d.a d.b = true) :
    ∃ s', exec (.region n t) s = .next s' ∧
      (if (s.core n).regionBusy (d.m 2 0) (d.m 5 5 = 1) d.a d.b then
        Ran s s' n t (s.core n) { passed ((s.core n).strm t) d ext with
          wait := .region (d.m 2 0) (d.m 5 5 = 1) (d.m 4 4 = 1) (d.m 3 3 = 1) d.a d.b }
      else
        Ran s s' n t ((s.core n).region (d.m 2 0) (d.m 5 5 = 1) (d.m 4 4 = 1) (d.m 3 3 = 1) d.a d.b) (passed ((s.core n).strm t) d ext)) := by
  obtain ⟨hill, hbnd⟩ := controlCheck_region hop hwin
  split
  all_goals
    rename_i hbusy
    refine h.ran_control hop (by decide) hill hbnd _ fun s1 hran => ?_
    simp only [hran.regionBusy, hbusy]
  · exact hran.setWait _
  · exact hran.region ..

theorem Offers.qconf (hop : d.op = 0x0C) (hal : d.a % 256 = 0) (hin : inPlot d.a (16 * (d.m 10 3 + 1)) = true) :
    ∃ s', exec (.qconf n t) s = .next s' ∧
      (if (s.core n).popBlocked (d.m 2 0) then
        Ran s s' n t (s.core n) { passed ((s.core n).strm t) d ext with wait := .qconf (d.m 2 0) d.a (d.m 10 3 + 1) }
      else
        Ran s s' n t { s.core n with
            qs := Sparse.put (s.core n).qs (d.m 2 0) { base := d.a, depth := d.m 10 3 + 1, head := 0, count := 0 } }
          (passed ((s.core n).strm t) d ext)) := by
  split
  all_goals
    rename_i hpop
    refine h.ran_control hop (by decide) (by simp [controlCheck, hop, hal]) (by simp [controlCheck, hop, hin]) _ fun s1 hran => ?_
    simp only [hran.popBlocked h.wait_none rfl, hpop]
  · exact hran.setWait _
  · exact hran.qconf ..

end

section
variable {s : State} {n : CoreIx} {t : Strm} (hlive : (s.core n).live t = true) (hclk : s.power.clockOn = true)
include hlive hclk

/-- REGION_EFFECT: a REGION that waited takes effect when nothing stands in its way (04 R110). -/
theorem exec_regionEffect {w b z : Nat} {en full tg : Bool} (hwait : ((s.core n).strm t).wait = .region w en full tg b z)
    (hfree : (s.core n).regionBusy w en b z = false) : ∃ s', exec (.regionEffect n t) s = .next s' ∧
      Ran s s' n t ((s.core n).region w en full tg b z) { (s.core n).strm t with wait := .none } := by
  refine ⟨_, (State.clocked_on _ hclk : execRegionEffect n t s = _), ?_⟩
  simp only [hwait, hlive, hfree, Bool.not_false, Bool.and_self, if_true]
  exact ((Ran.start s n t).region ..).endWait

/-- QCONF_EFFECT: a QCONF that waited takes effect when no QPOP is blocked on its queue (04 R106). -/
theorem exec_qconfEffect {q b z : Nat} (hwait : ((s.core n).strm t).wait = .qconf q b z) (hfree : (s.core n).popBlocked q = false) :
    ∃ s', exec (.qconfEffect n t) s = .next s' ∧
      Ran s s' n t { s.core n with qs := Sparse.put (s.core n).qs q { base := b, depth := z, head := 0, count := 0 } }
        { (s.core n).strm t with wait := .none } := by
  refine ⟨_, (State.clocked_on _ hclk : execQconfEffect n t s = _), ?_⟩
  simp only [hwait, hlive, hfree, Bool.not_false, Bool.and_self, if_true]
  exact ((Ran.start s n t).qconf ..).endWait

end
end Sys2Proof.Safety

namespace Sys2Proof.Machine
open Sys2Proof.Safety

/-- Settles O5, by what REGION and QCONF do at issue and at their effect, and what a REGION makes of windows and tags. -/
theorem regionsAndQueueSetup : Obligations.RegionsAndQueueSetup := by
  unfold Obligations.RegionsAndQueueSetup
  refine ⟨fun _ _ _ _ _ h => ⟨h.region, h.qconf⟩, fun _ _ _ _ _ _ _ _ _ hwait hlive hfree hclk => exec_regionEffect hlive hclk hwait hfree,
    fun _ _ _ _ _ _ hwait hlive hfree hclk => exec_qconfEffect hlive hclk hwait hfree, fun c w b z slot full tg => ?_⟩
  refine ⟨?_, c.tag_region w full tg b z slot, ?_, ?_, fun v => ?_⟩
  · simp [Core.region_eq, Sparse.find_put]
  · simp [Core.region_eq]
  · simp [Core.region_eq]
  · simp [Core.region_eq, Sparse.find_del]

end Sys2Proof.Machine
end

section
/-! PROOF. FORK and JOIN: a core divides and unites (04 R105). -/

namespace Sys2Proof.Machine
open Sys2Proof.Safety

/-! ### A stream stays live while its word issues -/

/-- Whether a stream is live is read from CORE_STATE, the drain, the single step and the stream's own marks. -/
theorem Core.live_setStrm (c : Core) (t u : Strm) {v : StreamSt} (hp : v.present = (c.strm t).present) (hs : v.singled = (c.strm t).singled) :
    (c.setStrm t v).live u = c.live u := by
  have h : ((c.setStrm t v).strm u).present = (c.strm u).present ∧ ((c.setStrm t v).strm u).singled = (c.strm u).singled := by
    cases t with
    | access => cases u with
      | access => exact ⟨hp, hs⟩
      | exec => exact ⟨rfl, rfl⟩
    | exec => cases u with
      | access => exact ⟨rfl, rfl⟩
      | exec => exact ⟨hp, hs⟩
  obtain ⟨hpresent, hsingled⟩ := h
  unfold Core.live
  rw [hpresent, hsingled]
  cases t <;> rfl

theorem State.core_tallyAdd (s : State) (id i k m : Nat) : (s.tallyAdd id i k).core m = s.core m := by
  unfold State.tallyAdd
  dsimp only
  split <;> rfl

theorem State.live_fetched (s : State) (n : Nat) (t u : Strm) : ((s.fetched n t).core n).live u = (s.core n).live u := by
  obtain ⟨l, k, h⟩ := Core.fetch_snd (s.core n) t
  unfold State.fetched
  rw [State.core_setCore_self, h]
  exact Core.live_setStrm _ t u rfl rfl

theorem State.live_trace (s : State) (n : Nat) (t u : Strm) (d : Dec) (k : Nat) : ((s.trace n t d k).core n).live u = (s.core n).live u := by
  unfold State.trace
  dsimp only
  split
  · rw [State.core_setCore_self]
    cases u <;> rfl
  · rfl

theorem State.live_issued (s : State) (n : Nat) (t u : Strm) (d : Dec) (ext : Nat) :
    ((s.issued n t d ext).core n).live u = (s.core n).live u := by
  unfold State.issued
  rw [State.core_tallyAdd, State.updCore_eq, State.core_setCore_self]
  refine (Core.live_setStrm _ t u ?_ ?_).trans (State.live_trace ..) <;> rfl

theorem State.live_setWait (s : State) (n : Nat) (t u : Strm) (w : Wait) : ((s.setWait n t w).core n).live u = (s.core n).live u := by
  unfold State.setWait
  rw [State.updCore_eq, State.core_setCore_self]
  exact Core.live_setStrm _ t u rfl rfl

theorem State.live_discard (s : State) (n : Nat) (t u : Strm) (a : Nat) : ((s.discard n t a).core n).live u = (s.core n).live u := by
  unfold State.discard
  dsimp only
  split
  all_goals
    simp only [State.core_tallyAdd, State.updCore_eq, State.core_setCore_self]
    exact Core.live_setStrm _ t u rfl rfl

end Sys2Proof.Machine

namespace Sys2Proof.Safety
open Sys2Proof.Machine

theorem Offers.live {s : State} {n : Nat} {t : Strm} {d : Dec} {ext : Nat} (h : Offers s n t d ext) : (s.core n).live t = true := by
  have hcan := h.can
  simp only [Core.canIssue, Bool.and_eq_true] at hcan
  exact hcan.1

/-- What a control command that its stream offers does, up to its own effect `run`: it acts in a state in which its word has issued and in which
the streams of its core are as live as before (05 R138). -/
theorem Offers.issueControl {s : State} {n : Nat} {t : Strm} {d : Dec} {ext op : Nat} (h : Offers s n t d ext) (hop : d.op = op)
    (ho : op < 0x20) (hk : (controlCheck d).ill = false) (hb : (controlCheck d).bnd = false) (run : Dec → State → State) :
    ∃ s1, Ran s s1 n t (s.core n) (passed ((s.core n).strm t) d ext) ∧ (∀ u, (s1.core n).live u = (s.core n).live u) ∧
      s.issue n t op (fun s d ext => s.issueControl n t d ext (run d)) = run d s1 := by
  have hlt : d.op < 0x20 := hop ▸ ho
  have hfetch := Quiet.fetched s n t
  have hissued := (s.fetched n t).issued_ran n t d ext
  refine ⟨(s.fetched n t).issued n t d ext, ⟨⟨(hfetch.ran hissued).others, hissued.rest.trans hfetch.rest, hissued.own.trans ?_,
    (hfetch.ran hissued).other⟩, (hfetch.ran hissued).only⟩, fun u => by rw [State.live_issued, State.live_fetched], ?_⟩
  · unfold State.fetched
    obtain ⟨l, k, hf⟩ := Core.fetch_snd (s.core n) t
    rw [State.core_setCore_self, Core.strm_setStrm, hf]
    rfl
  · rw [State.issue_offers h hop]
    simp [State.issueControl, State.operandCheck, hlt, hk, hb]

/-- What is read of a core but its streams, its debug state and its drain is the same where the still core is. -/
theorem eq_of_still {α : Type} {c k : Core} (h : still c = still k) (f : Core → α) (hf : ∀ c, f (still c) = f c) : f c = f k := by
  rw [← hf, h, hf]

/-- From `s` to `s'` no core but `n` and no unit but the Tally has changed, and core `n` is `k` with both its streams. -/
structure Leaves (s s' : State) (n : Nat) (k : Core) : Prop where
  only : Only [.cores, .tally] s s'
  others : OtherCores n s s'
  rest : still (s'.core n) = still k
  sa : seen (s'.core n).sa = seen k.sa
  sx : seen (s'.core n).sx = seen k.sx

theorem Leaves.quiet {s s1 s2 : State} {n : Nat} {k : Core} (h : Leaves s s1 n k) (q : Quiet s1 s2 n) : Leaves s s2 n k :=
  { only := h.only.trans q.only
    others := fun m hm => (q.others m hm).trans (h.others m hm)
    rest := q.rest.trans h.rest
    sa := (q.strm .access).trans h.sa
    sx := (q.strm .exec).trans h.sx }

theorem Leaves.setCore (s : State) (n : Nat) (k : Core) : Leaves s (s.setCore n k) n k :=
  { only := only_iff_mask.2 (mask_cores s (by decide) _)
    others := fun m hm => by simp [State.core_setCore, hm]
    rest := by rw [State.core_setCore_self]
    sa := by rw [State.core_setCore_self]
    sx := by rw [State.core_setCore_self] }

/-- A core is put in place of what a command left. -/
theorem Ran.leaves {s s1 s2 : State} {n : Nat} {t : Strm} {k k2 : Core} {v : StreamSt} (h : Ran s s1 n t k v) (g : Leaves s1 s2 n k2) :
    Leaves s s2 n k2 :=
  { g with
    only := h.only.trans g.only
    others := fun m hm => (g.others m hm).trans (h.others m hm) }

/-! ### FORK and JOIN (04 R105) -/

theorem seen_waits_none (v : StreamSt) : seen { v with wait := .none } = { seen v with wait := .none } := by
  unfold seen StreamSt.unstall
  cases v.wait <;> rfl

/-- The access stream as it goes on where stream `t` has come last to its JOIN, with the command `d` and `ext` extension words. -/
def afterJoin (t : Strm) (sa : StreamSt) (d : Dec) (ext : Nat) : StreamSt :=
  match t with
  | .access => passed sa d ext
  | .exec => { sa with wait := .none }

/-- A core that has divided, its execute stream at `a` (04 R105). -/
def forked (a : Nat) (c : Core) : Core := { c with ctl := { c.ctl with split := true }, sx := { present := true, pc := a } }

/-- A core whose streams have met at JOIN. -/
def joined (c : Core) : Core := { c with ctl := { c.ctl with split := false }, sa := { c.sa with wait := .none }, sx := {} }

theorem tryJoin_meets {s : State} {n : Nat} (ha : (s.core n).sa.wait = .join) (hx : (s.core n).sx.wait = .join)
    (hlive : ∃ u, (s.core n).live u = true) : Leaves s (s.tryJoin n) n (joined (s.core n)) := by
  have hl : ((s.core n).live .access || (s.core n).live .exec) = true := by
    obtain ⟨u, hu⟩ := hlive
    cases u <;> simp [hu]
  unfold State.tryJoin
  simp only [ha, hx, hl, decide_true, Bool.and_self, if_true]
  exact (Leaves.setCore s n (joined (s.core n))).quiet (Quiet.wordDone ..)

theorem tryJoin_alone {s : State} {n : Nat} {u : Strm} (h : ((s.core n).strm u).wait ≠ .join) : s.tryJoin n = s := by
  unfold State.tryJoin
  cases u <;> simp_all [Core.strm]

section
variable {s : State} {n : CoreIx} {t : Strm} {d : Dec} {ext : Nat}

theorem Offers.fork (h : Offers s n .access d ext) (hop : d.op = 0x0F) (hal : d.a % 16 = 0) :
    ∃ s', exec (.fork n .access) s = .next s' ∧ Only [.cores, .tally] s s' ∧ OtherCores n s s' ∧
      still (s'.core n) = still { s.core n with ctl := { (s.core n).ctl with split := true } } ∧
      seen (s'.core n).sa = seen (passed (s.core n).sa d ext) ∧ seen (s'.core n).sx = seen { present := true, pc := d.a } := by
  obtain ⟨s1, hran, -, heq⟩ := h.issueControl hop (by decide) (by simp [controlCheck, hop, hal]) (by simp [controlCheck, hop])
    (fun d s => (s.updCore n (forked d.a)).wordDone n .access)
  have hl := hran.leaves ((Leaves.setCore s1 n (forked d.a (s1.core n))).quiet (Quiet.wordDone _ n .access))
  have hrest := hl.rest.trans (congrArg (fun k : Core => { k with ctl := { k.ctl with split := true } }) hran.rest)
  exact ⟨_, congrArg Host.Outcome.next heq, hl.only, hl.others, hrest, hl.sa.trans hran.own, hl.sx⟩

/-- A JOIN whose other stream has not come to its own waits. -/
theorem Offers.join_waits (h : Offers s n t d ext) (hop : d.op = 0x10) (hother : ((s.core n).strm (other t)).wait ≠ .join) :
    ∃ s', exec (.join n t) s = .next s' ∧ Ran s s' n t (s.core n) { passed ((s.core n).strm t) d ext with wait := .join } := by
  refine h.ran_control hop (by decide) (by simp [controlCheck, hop]) (by simp [controlCheck, hop]) _ fun s1 hran => ?_
  have hjoin := hran.setWait .join
  have hstays : (((s1.setWait n t .join).core n).strm (other t)).wait ≠ .join :=
    (wait_iff_of_seen hjoin.other (by simp) (by simp)).not.2 hother
  rwa [tryJoin_alone hstays]

/-- A JOIN whose other stream stands at its own unites the core. -/
theorem Offers.join_meets (h : Offers s n t d ext) (hop : d.op = 0x10) (hother : ((s.core n).strm (other t)).wait = .join) :
    ∃ s', exec (.join n t) s = .next s' ∧ Only [.cores, .tally] s s' ∧ OtherCores n s s' ∧
      still (s'.core n) = still { s.core n with ctl := { (s.core n).ctl with split := false } } ∧
      seen (s'.core n).sa = seen (afterJoin t (s.core n).sa d ext) ∧ seen (s'.core n).sx = seen {} := by
  obtain ⟨s1, hran, hlive, heq⟩ := h.issueControl hop (by decide) (by simp [controlCheck, hop]) (by simp [controlCheck, hop])
    (fun _ s => ((s.setWait n t .join).tryJoin n).wordDone n t)
  have hjoin := hran.setWait .join
  have hown : (((s1.setWait n t .join).core n).strm t).wait = .join := (wait_iff_of_seen hjoin.own (by simp) (by simp)).2 rfl
  have hcame : (((s1.setWait n t .join).core n).strm (other t)).wait = .join :=
    (wait_iff_of_seen hjoin.other (by simp) (by simp)).2 hother
  have hboth : ∀ u, (((s1.setWait n t .join).core n).strm u).wait = .join := by
    intro u
    cases t <;> cases u <;> assumption
  have hl := hjoin.leaves ((tryJoin_meets (hboth .access) (hboth .exec)
    ⟨t, by rw [State.live_setWait, hlive, h.live]⟩).quiet (Quiet.wordDone _ n t))
  refine ⟨_, congrArg Host.Outcome.next heq, hl.only, hl.others,
    hl.rest.trans (congrArg (fun k : Core => { k with ctl := { k.ctl with split := false } }) hjoin.rest), hl.sa.trans ?_, hl.sx⟩
  rw [show (joined ((s1.setWait n t .join).core n)).sa = { ((s1.setWait n t .join).core n).sa with wait := .none } from rfl, seen_waits_none]
  cases t with
  | access => exact (congrArg (fun v : StreamSt => { v with wait := .none }) hjoin.own).trans (seen_waits_none _).symm
  | exec => exact (congrArg (fun v : StreamSt => { v with wait := .none }) hjoin.other).trans (seen_waits_none _).symm

theorem exec_joinMeet (ha : (s.core n).sa.wait = .join) (hx : (s.core n).sx.wait = .join) (hlive : (s.core n).live .access = true)
    (hclk : s.power.clockOn = true) : ∃ s', exec (.joinMeet n) s = .next s' ∧ Only [.cores, .tally] s s' ∧ OtherCores n s s' ∧
      still (s'.core n) = still { s.core n with ctl := { (s.core n).ctl with split := false } } ∧
      seen (s'.core n).sa = seen { (s.core n).sa with wait := .none } ∧ seen (s'.core n).sx = seen {} := by
  have hl := tryJoin_meets ha hx ⟨.access, hlive⟩
  exact ⟨_, (State.clocked_on _ hclk : execJoinMeet n s = _), hl.only, hl.others, hl.rest, hl.sa, hl.sx⟩

end
end Sys2Proof.Safety

namespace Sys2Proof.Machine
open Sys2Proof.Safety

/-- Settles O7, by what a core is after it has divided and after its streams have met. -/
theorem forkAndJoin : Obligations.ForkAndJoin := by
  unfold Obligations.ForkAndJoin
  refine ⟨fun _ _ _ _ h => h.fork, fun _ _ _ _ _ h => h.join_waits, fun _ _ t _ _ h hop hother => ?_, fun _ _ => exec_joinMeet⟩
  cases t <;> exact h.join_meets hop hother

end Sys2Proof.Machine
end

section
/-! PROOF. Interrupts of a function, and the starts and ends of lists (04 R101, R102; 05 R144; 15 R418 to R420). -/

namespace Sys2Proof.Machine
open Sys2Proof.Safety

/-! ### Interrupts (15 R420) -/

theorem bit_setBit_self (v i : Nat) : bit (setBit v i true) i = true := by
  unfold setBit
  split
  · assumption
  · rename_i h
    have hpos : 0 < 2 ^ i := Nat.two_pow_pos i
    have hclear : v / 2 ^ i % 2 = 0 := by
      simp only [bit, beq_iff_eq] at h
      omega
    simp only [if_true, bit, Nat.add_div_right _ hpos, beq_iff_eq]
    omega

/-- What an interrupt leaves: the registers of its function and the outbox have changed, its cause is pending, and no function's list map or refusal
register is touched (15 R420). -/
structure Raised (s s' : State) (f i : Nat) : Prop where
  only : Only [.fns, .out] s s'
  pending : bit (s'.fn f).pending i = true
  listMap : ∀ g, (s'.fn g).listMap = (s.fn g).listMap
  dbRefusal : ∀ g, (s'.fn g).dbRefusal = (s.fn g).dbRefusal

theorem Raised.setFn {s : State} {f i : Nat} {v : Fn} (hp : bit v.pending i = true) (hl : v.listMap = (s.fn f).listMap)
    (hd : v.dbRefusal = (s.fn f).dbRefusal) : Raised s (s.setFn f v) f i where
  only := only_iff_mask.2 (mask_fns s (by decide) _)
  pending := by rwa [State.fn_setFn_self]
  listMap g := by rw [State.fn_setFn]; split <;> simp_all
  dbRefusal g := by rw [State.fn_setFn]; split <;> simp_all

theorem Raised.sendIrq {s s1 : State} {f i : Nat} (h : Raised s s1 f i) (j : Nat) : Raised s (s1.sendIrq f j) f i := by
  unfold State.sendIrq
  dsimp only
  split
  · exact h
  · split
    · exact { h with only := h.only.trans (only_iff_mask.2 (mask_out s1 (by decide) _)) }
    · have g := Raised.setFn (s := s1) (f := f) (i := i) (v := { s1.fn f with pba := setBit (s1.fn f).pba (bits (s1.fn f).vector (8 * j + 7) (8 * j)) true })
        h.pending rfl rfl
      exact { only := h.only.trans g.only, pending := g.pending
              listMap := fun x => (g.listMap x).trans (h.listMap x), dbRefusal := fun x => (g.dbRefusal x).trans (h.dbRefusal x) }

theorem State.raise_raised (s : State) (f i : Nat) : Raised s (s.raise f i) f i := by
  unfold State.raise
  dsimp only
  split
  · rename_i h
    exact { only := .refl _ s, pending := h, listMap := fun _ => rfl, dbRefusal := fun _ => rfl }
  · have h : Raised s (s.setFn f { s.fn f with pending := setBit (s.fn f).pending i true }) f i :=
      Raised.setFn (bit_setBit_self ..) rfl rfl
    split
    · exact h
    · exact h.sendIrq i

/-- An interrupt changes no core. -/
theorem State.core_raise (s : State) (f i m : Nat) : (s.raise f i).core m = s.core m := by
  have hc := (s.raise_raised f i).only.cores
  exact State.core_congr (by simpa using hc) m

/-- A sound core is not fenced when its CORE_STATE leaves RUN (18 R509). -/
theorem State.settle_sound {s : State} {n : Nat} (hst : (s.core n).fence.st = 0) (hf : (s.core n).pint.fenced = 0) : s.settle n = s := by
  unfold State.settle
  simp [hst, hf]

/-! ### The start of a list (04 R101) -/

theorem State.startCore_leaves (s : State) (n : Nat) (split : Bool) (a b : Nat) :
    Leaves s (s.startCore n split a b) n ((s.core n).startList split a b) :=
  (Leaves.setCore s n ((s.core n).startList split a b)).quiet (Quiet.checkCntBps ..)

end Sys2Proof.Machine

namespace Sys2Proof.Safety
open Sys2Proof.Machine

theorem seen_present (v : StreamSt) : (seen v).present = v.present := by unfold seen StreamSt.unstall; split <;> rfl

section
variable {s s' : State} {n : Nat} {k : Core} (h : Leaves s s' n k)
include h

/-! What a core is that has been left as `k`, field by field. -/

theorem Leaves.st : (s'.core n).ctl.st = k.ctl.st := eq_of_still h.rest (·.ctl.st) fun _ => rfl
theorem Leaves.split : (s'.core n).ctl.split = k.ctl.split := eq_of_still h.rest (·.ctl.split) fun _ => rfl
theorem Leaves.stepState : (s'.core n).ctl.stepState = k.ctl.stepState := eq_of_still h.rest (·.ctl.stepState) fun _ => rfl
theorem Leaves.sregs : (s'.core n).ctl.sregs = k.ctl.sregs := eq_of_still h.rest (·.ctl.sregs) fun _ => rfl
theorem Leaves.cnts : (s'.core n).cnts = k.cnts := eq_of_still h.rest (·.cnts) fun _ => rfl
theorem Leaves.plot : (s'.core n).plot = k.plot := eq_of_still h.rest (·.plot) fun _ => rfl
theorem Leaves.map : (s'.core n).map = k.map := eq_of_still h.rest (·.map) fun _ => rfl
theorem Leaves.sa_present : (s'.core n).sa.present = k.sa.present := by rw [← seen_present, h.sa, seen_present]
theorem Leaves.sa_pc : (s'.core n).sa.pc = k.sa.pc := by rw [← seen_pc, h.sa, seen_pc]
theorem Leaves.sa_flags : (s'.core n).sa.flags = k.sa.flags := by rw [← seen_flags, h.sa, seen_flags]
theorem Leaves.sx_present : (s'.core n).sx.present = k.sx.present := by rw [← seen_present, h.sx, seen_present]
theorem Leaves.sx_pc : (s'.core n).sx.pc = k.sx.pc := by rw [← seen_pc, h.sx, seen_pc]
theorem Leaves.fns : s'.fns = s.fns := by simpa using h.only.fns

end
end Sys2Proof.Safety

namespace Sys2Proof.Machine
open Sys2Proof.Safety

/-! ### Start requests (04 R101; 15 R418, R419) -/

section
variable {s : State} {n : CoreIx} {split : Bool} {a b p : Nat}

/-- A start request that every check of 15 R418 lets pass. -/
theorem State.startReason_zero (howner : s.owner n = some p) (ha : a % 16 = 0) (hb : b % 16 = 0) (hap : a < plotSize) (hbp : b < plotSize)
    (hun : split = false → b = 0) (hpav : (s.pav p).st = .active) (hfence : (s.core n).fence.st ≠ 2) (hreset : (s.core n).fence.coreReset = false)
    (hd : (s.core n).ctl.drain ≠ .reset) (hdf : (s.core n).ctl.drain ≠ .fault) (hship : coreShipped n = false)
    (hst : (s.core n).ctl.st = .idle ∨ (s.core n).ctl.st = .faulted) : s.startReason p n false split a b = 0 := by
  unfold State.startReason
  rcases hst with hst | hst <;>
    simpa [ha, hb, Nat.not_le.2 hap, Nat.not_le.2 hbp, howner, hpav, hfence, hreset, hd, hdf, hship, hst] using hun

theorem State.startReason_misaligned (ha : a % 16 ≠ 0) : s.startReason p n false split a b = 1 := by
  simp [State.startReason, ha]

/-- A core that runs a list refuses another (15 R418). -/
theorem State.startReason_running (howner : s.owner n = some p) (ha : a % 16 = 0) (hap : a < plotSize) (hpav : (s.pav p).st = .active)
    (hfence : (s.core n).fence.st = 0) (hreset : (s.core n).fence.coreReset = false) (hship : coreShipped n = false)
    (hd : (s.core n).ctl.drain ≠ .reset) (hst : (s.core n).ctl.st = .run) : s.startReason p n false split a 0 = 5 := by
  have hzero : ¬plotSize ≤ 0 := by decide
  unfold State.startReason
  simp [ha, Nat.not_le.2 hap, hzero, howner, hpav, hfence, hreset, hd, hship, hst]

theorem State.startReason_lt (s : State) (p n : Nat) (reserved split : Bool) (a b : Nat) : s.startReason p n reserved split a b < 256 := by
  unfold State.startReason
  dsimp only
  repeat' split
  all_goals decide

theorem exec_startRequest (howner : s.owner n = some p) (hclk : s.power.clockOn = true) :
    exec (.startRequest n split a b) s = .next (s.startRequest p n false split a b) :=
  (State.clocked_on _ hclk : execStartRequest n split a b s = _).trans (by simp only [howner])

/-- The registers of a refusal: the core, the reason, one more in the count up to 65,535 (15 R419). -/
theorem bits_dbRefusal {k r m : Nat} (hk : k < 144) (hr : r < 256) :
    bits (k % 256 + r * 256 + min 0xFFFF (m + 1) * 65536) 7 0 = k ∧ bits (k % 256 + r * 256 + min 0xFFFF (m + 1) * 65536) 15 8 = r ∧
      bits (k % 256 + r * 256 + min 0xFFFF (m + 1) * 65536) 31 16 = min 0xFFFF (m + 1) := by
  have hm : min 0xFFFF (m + 1) < 65536 := by omega
  generalize min 0xFFFF (m + 1) = c at hm
  simp only [bits]
  refine ⟨?_, ?_, ?_⟩ <;> omega

theorem State.refuseStart_spec (s : State) (p : Nat) {k r : Nat} (hk : k < 144) (hr : r < 256) :
    Only [.fns, .out] s (s.refuseStart p k r) ∧ bits ((s.refuseStart p k r).fn (p + 1)).dbRefusal 7 0 = k ∧
      bits ((s.refuseStart p k r).fn (p + 1)).dbRefusal 15 8 = r ∧
      bits ((s.refuseStart p k r).fn (p + 1)).dbRefusal 31 16 = min 0xFFFF (bits (s.fn (p + 1)).dbRefusal 31 16 + 1) ∧
      bit ((s.refuseStart p k r).fn (p + 1)).pending 1 = true := by
  unfold State.refuseStart State.raiseVf
  generalize hs1 : s.updFn (p + 1) _ = s1
  have h := s1.raise_raised (p + 1) 1
  have hreg : (s1.fn (p + 1)).dbRefusal = k % 256 + r * 256 + min 0xFFFF (bits (s.fn (p + 1)).dbRefusal 31 16 + 1) * 65536 := by
    rw [← hs1, State.updFn_eq, State.fn_setFn_self]
  have honly : Only [.fns, .out] s s1 := by
    rw [← hs1]
    exact only_iff_mask.2 (mask_fns s (by decide) _)
  obtain ⟨hcore, hreason, hcount⟩ := bits_dbRefusal (m := bits (s.fn (p + 1)).dbRefusal 31 16) hk hr
  simp only [h.dbRefusal, hreg]
  exact ⟨honly.trans h.only, hcore, hreason, hcount, h.pending⟩

end

/-- Settles O9: an accepted request leaves the core at the start of its list, a refused one its reason (04 R101; 15 R418, R419). -/
theorem startRequests : Obligations.StartRequests := by
  unfold Obligations.StartRequests
  intro s n split a b p howner
  refine ⟨?accepted, ?refused, State.startReason_misaligned, ?running⟩
  case accepted =>
    intro ha hb hap hbp hun hpav hfence hreset hd hdf hship hst hclk
    have hzero := State.startReason_zero howner ha hb hap hbp hun hpav hfence hreset hd hdf hship hst
    have h := s.startCore_leaves n split a b
    have hstart : s.startRequest p n false split a b = s.startCore n split a b := by simp [State.startRequest, hzero]
    exact ⟨_, (exec_startRequest howner hclk).trans (congrArg _ hstart), h.only, h.others, h.st, h.split, h.stepState, h.sa_present, h.sa_pc,
      h.sx_present, h.sx_pc, h.sa_flags, congrArg MapSt.memFault h.map, h.sregs, h.cnts, h.plot⟩
  case refused =>
    intro r hr hreason hclk
    have hrefuse : s.startRequest p n false split a b = s.refuseStart p n r := by simp [State.startRequest, hreason, hr]
    exact ⟨_, (exec_startRequest howner hclk).trans (congrArg _ hrefuse),
      s.refuseStart_spec p n.isLt (hreason ▸ s.startReason_lt p n false split a b)⟩
  case running =>
    rintro ha rfl hap hpav hfence hreset hship hd hst
    exact State.startReason_running howner ha hap hpav hfence hreset hship hd hst

/-! ### The end of a list (04 R102; 05 R144) -/

/-- LIST_DONE marks the core in the map of its Pavilion's function and its cause there, and changes no core (15 Table 15-5). -/
theorem State.listDone_spec (s : State) (n : Nat) : Only [.fns, .out] s (s.listDone n) ∧
    ∀ p, s.owner n = some p → bit ((s.listDone n).fn (p + 1)).listMap n = true ∧ bit ((s.listDone n).fn (p + 1)).pending 0 = true := by
  unfold State.listDone State.raiseVf
  cases hp : s.owner n with
  | none => exact ⟨.refl _ s, nofun⟩
  | some q =>
    dsimp only
    generalize hs1 : s.updFn (q + 1) _ = s1
    have h := s1.raise_raised (q + 1) 0
    have honly : Only [.fns, .out] s s1 := by
      rw [← hs1]
      exact only_iff_mask.2 (mask_fns s (by decide) _)
    refine ⟨honly.trans h.only, ?_⟩
    rintro p ⟨⟩
    refine ⟨?_, h.pending⟩
    rw [h.listMap, ← hs1, State.updFn_eq, State.fn_setFn_self]
    exact bit_setBit_self ..

/-- What the end of a list with these operands leaves: the core at the start of the chained list, or IDLE; where it notifies, the bit of LIST_DONE_MAP
and the cause of its Pavilion's function. -/
structure ListEnded (s s' : State) (n : Nat) (chain chainSplit notify : Bool) (a b : Nat) : Prop where
  only : Only [.cores, .tally, .fns, .out] s s'
  others : OtherCores n s s'
  plot : (s'.core n).plot = (s.core n).plot
  cnts : (s'.core n).cnts = (s.core n).cnts
  sregs : (s'.core n).ctl.sregs = (s.core n).ctl.sregs
  idle : chain = false → (s'.core n).ctl.st = .idle ∧ (s'.core n).sa.present = false
  starts : chain = true → (s'.core n).ctl.st = .run ∧ (s'.core n).sa.present = true ∧ (s'.core n).sa.pc = a ∧
    (s'.core n).ctl.split = chainSplit ∧ (s'.core n).ctl.stepState = 0 ∧ (chainSplit = true → (s'.core n).sx.pc = b)
  notified : ∀ p, notify = true → s.owner n = some p → bit (s'.fn (p + 1)).listMap n = true ∧ bit (s'.fn (p + 1)).pending 0 = true
  unnotified : notify = false → s'.fns = s.fns

/-- The state in which a core's list has ended and has been notified, before a chained list starts. -/
def State.listOver (s : State) (n : Nat) (notify : Bool) : State :=
  if notify then (s.updCore n (·.goIdle)).listDone n else s.updCore n (·.goIdle)

theorem State.listOver_spec (s : State) (n : Nat) (notify : Bool) :
    Only [.cores, .fns, .out] s (s.listOver n notify) ∧ (∀ m, (s.listOver n notify).core m = if m = n then (s.core n).goIdle else s.core m) ∧
      (∀ p, notify = true → s.owner n = some p →
        bit ((s.listOver n notify).fn (p + 1)).listMap n = true ∧ bit ((s.listOver n notify).fn (p + 1)).pending 0 = true) ∧
      (notify = false → (s.listOver n notify).fns = s.fns) := by
  have hidle : Only [.cores, .fns, .out] s (s.updCore n (·.goIdle)) := only_iff_mask.2 (mask_cores s (by decide) _)
  unfold State.listOver
  cases notify with
  | false => exact ⟨hidle, s.core_setCore n _, nofun, fun _ => rfl⟩
  | true =>
    obtain ⟨honly, hmarks⟩ := (s.updCore n (·.goIdle)).listDone_spec n
    have hcores : ((s.updCore n (·.goIdle)).listDone n).cores = (s.updCore n (·.goIdle)).cores := by simpa using honly.cores
    exact ⟨hidle.trans (honly.mono (by decide)), fun m => (State.core_congr hcores m).trans (s.core_setCore n _ m), fun p _ hp => hmarks p hp, nofun⟩

/-- A list that ends without a chain leaves its core IDLE; a chained one starts on the idle core. -/
theorem State.listEnd_spec {s : State} {n : Nat} (chain chainSplit notify : Bool) (a b : Nat) (hst : (s.core n).fence.st = 0)
    (hf : (s.core n).pint.fenced = 0) : ListEnded s (s.listEnd n chain chainSplit notify a b) n chain chainSplit notify a b := by
  obtain ⟨honly, hcore, hnotified, hquiet⟩ := s.listOver_spec n notify
  have hself := hcore n
  rw [if_pos rfl] at hself
  cases chain with
  | false =>
    have hend : s.listEnd n false chainSplit notify a b = s.listOver n notify := by
      have hsettle : (s.updCore n (·.goIdle)).settle n = s.updCore n (·.goIdle) :=
        State.settle_sound (by simpa [Core.goIdle] using hst) (by simpa [Core.goIdle] using hf)
      simp only [State.listEnd, State.listOver, hsettle, Bool.false_eq_true, if_false]
    rw [hend]
    exact {
      only := honly.mono (by decide)
      others := fun m hm => (hcore m).trans (if_neg hm)
      plot := by rw [hself]; rfl
      cnts := by rw [hself]; rfl
      sregs := by rw [hself]; rfl
      idle := fun _ => by rw [hself]; exact ⟨rfl, rfl⟩
      starts := nofun
      notified := hnotified
      unnotified := hquiet }
  | true =>
    have hstart := (s.listOver n notify).startCore_leaves n chainSplit a (if chainSplit then b else 0)
    rw [hself] at hstart
    have h : Leaves (s.listOver n notify) (s.listEnd n true chainSplit notify a b) n
        ((s.core n).goIdle.startList chainSplit a (if chainSplit then b else 0)) := by
      simp only [State.listEnd, if_true]
      split
      · exact hstart.quiet (Quiet.halt ..)
      · exact hstart
    exact {
      only := (honly.mono (by decide)).trans (h.only.mono (by decide))
      others := fun m hm => (h.others m hm).trans ((hcore m).trans (if_neg hm))
      plot := h.plot
      cnts := h.cnts
      sregs := h.sregs
      idle := nofun
      starts := fun _ => ⟨h.st, h.sa_present, h.sa_pc, h.split, h.stepState, fun hsplit => h.sx_pc.trans (if_pos hsplit)⟩
      notified := by rw [show State.fn _ = State.fn (s.listOver n notify) from funext (State.fn_congr h.fns)]; exact hnotified
      unnotified := fun hn => h.fns.trans (hquiet hn) }

/-! ### END at issue, and when its stream's commands have completed (05 R144, Table 5-3) -/

/-- A stream whose list has ended waits for the other (04 R102). -/
def StreamSt.isEnded (v : StreamSt) : Prop := ∃ a b c d e, v.wait = .ended a b c d e

section
variable {s : State} {n : Nat} {t : Strm} {ch cs no : Bool} {a b : Nat} (hwait : ((s.core n).strm t).wait = .endw ch cs no a b)
  (hlive : (s.core n).live t = true) (hnone : (s.core n).flightsOf t = []) (hother : ¬((s.core n).strm (other t)).isEnded)
include hwait hlive hnone hother

/-- Without the other stream at its end, the end of a divided core's stream is marked, and that of an undivided core is its list's. -/
theorem State.tryEnd_eq : s.tryEnd n t =
    if (s.core n).ctl.split then (s.setWait n t (.ended ch cs no a b)).wordDone n t else s.listEnd n ch cs no a b := by
  unfold State.tryEnd
  simp only [hwait, hlive, hnone, List.isEmpty_nil, Bool.and_self, if_true]
  cases t
  all_goals
    dsimp only
    split
    · rename_i h
      exact absurd ⟨_, _, _, _, _, h⟩ hother
    · rfl

end

theorem State.owner_congr {s t : State} (h : t.objs = s.objs) (n : Nat) : t.owner n = s.owner n := by
  unfold State.owner State.pavCores
  simp only [State.obj_congr h]

end Sys2Proof.Machine

namespace Sys2Proof.Safety
open Sys2Proof.Machine

theorem isEnded_iff_of_seen {u v : StreamSt} (h : seen u = seen v) : u.isEnded ↔ v.isEnded := by
  have hw : ∀ a b c d e, u.wait = .ended a b c d e ↔ v.wait = .ended a b c d e := fun _ _ _ _ _ => wait_iff_of_seen h (by simp) (by simp)
  unfold StreamSt.isEnded
  simp only [hw]

/-- An end that follows steps of the core's own leaves what it would leave without them. -/
theorem Ran.listEnded {s s1 s2 : State} {n : Nat} {t : Strm} {v : StreamSt} {ch cs no : Bool} {a b : Nat} (h : Ran s s1 n t (s.core n) v)
    (g : ListEnded s1 s2 n ch cs no a b) : ListEnded s s2 n ch cs no a b :=
  { g with
    only := (h.only.mono (by decide)).trans g.only
    others := fun m hm => (g.others m hm).trans (h.others m hm)
    plot := g.plot.trans (eq_of_still h.rest (·.plot) fun _ => rfl)
    cnts := g.cnts.trans (eq_of_still h.rest (·.cnts) fun _ => rfl)
    sregs := g.sregs.trans (eq_of_still h.rest (·.ctl.sregs) fun _ => rfl)
    notified := fun p hno hp => g.notified p hno ((State.owner_congr (by simpa using h.only.objs) n).trans hp)
    unnotified := fun hno => (g.unnotified hno).trans (by simpa using h.only.fns) }

/-- The operands of an END pass: an address that CHAIN or SPLIT uses is aligned and lies in the Plot (05 R136, R160; log 14). -/
theorem controlCheck_end {d : Dec} (hop : d.op = 0x01) (ha : d.m 0 0 = 1 → d.a % 16 = 0 ∧ inPlot d.a 16 = true)
    (hb : d.m 1 0 = 3 → d.b % 16 = 0 ∧ inPlot d.b 16 = true) : (controlCheck d).ill = false ∧ (controlCheck d).bnd = false := by
  simp only [controlCheck, hop, Bool.or_eq_false_iff, Bool.and_eq_false_imp, decide_eq_true_eq]
  refine ⟨⟨fun h => ?_, fun h => ?_⟩, fun h => ?_, fun h => ?_⟩
  · simp [(ha h).1]
  · simp [(hb h).1]
  · simp [(ha h).2]
  · simp [(hb h).2]

/-- Its operands, as END leaves them to its stream (05 Table 5-3). -/
def endWait (d : Dec) : Wait := .endw (d.m 0 0 = 1) (d.m 0 0 = 1 && d.m 1 1 = 1) (d.m 2 2 = 1) d.a d.b

section
variable {s : State} {n : CoreIx} {t : Strm} {d : Dec} {ext : Nat} (h : Offers s n t d ext) (hop : d.op = 0x01)
  (ha : d.m 0 0 = 1 → d.a % 16 = 0 ∧ inPlot d.a 16 = true) (hb : d.m 1 0 = 3 → d.b % 16 = 0 ∧ inPlot d.b 16 = true)
include h hop ha hb

/-- An END issues, its stream's fetched words are discarded and its operands kept; then it completes, or waits for its stream's commands. -/
theorem Offers.endCmd : ∃ s1, Ran s s1 n t (s.core n) { passed ((s.core n).strm t) d ext with wait := endWait d } ∧
    ((s1.core n).strm t).wait = endWait d ∧ (s1.core n).live t = true ∧
    exec (.endCmd n t) s = .next (if ((s.core n).flightsOf t).isEmpty then s1.tryEnd n t else s1.wordDone n t) := by
  obtain ⟨hill, hbnd⟩ := controlCheck_end hop ha hb
  obtain ⟨s1, hran, hlive, heq⟩ := h.issueControl hop (by decide) hill hbnd fun d s =>
    let s := (s.discard n t d.addr).setWait n t (endWait d)
    if ((s.core n).flightsOf t).isEmpty then s.tryEnd n t else s.wordDone n t
  have hend := (hran.quiet (Quiet.discard s1 n t d.addr)).setWait (endWait d)
  refine ⟨_, hend, ?_, ?_, ?_⟩
  · exact (wait_iff_of_seen hend.own (by simp [endWait]) (by simp [endWait])).2 rfl
  · rw [State.live_setWait, State.live_discard, hlive, h.live]
  · rw [← eq_of_still hend.rest (·.flightsOf t) fun _ => rfl]
    exact congrArg Host.Outcome.next heq

/-- An END with commands of its stream in flight waits for them. -/
theorem Offers.end_waits (hbusy : (s.core n).flightsOf t ≠ []) : ∃ s', exec (.endCmd n t) s = .next s' ∧
    Ran s s' n t (s.core n) { passed ((s.core n).strm t) d ext with wait := endWait d } := by
  obtain ⟨s1, hran, -, -, hexec⟩ := h.endCmd hop ha hb
  rw [if_neg (by simpa using hbusy)] at hexec
  exact ⟨_, hexec, hran.quiet (Quiet.wordDone ..)⟩

/-- The END of a sound undivided core with nothing in flight ends its list. -/
theorem Offers.end_ends (hnone : (s.core n).flightsOf t = []) (hsplit : (s.core n).ctl.split = false) (hst : (s.core n).fence.st = 0)
    (hf : (s.core n).pint.fenced = 0) (hother : ¬((s.core n).strm (other t)).isEnded) : ∃ s', exec (.endCmd n t) s = .next s' ∧
    ListEnded s s' n (d.m 0 0 = 1) (d.m 0 0 = 1 && d.m 1 1 = 1) (d.m 2 2 = 1) d.a d.b := by
  obtain ⟨s1, hran, hwait, hlive, hexec⟩ := h.endCmd hop ha hb
  have hnone1 : (s1.core n).flightsOf t = [] := (eq_of_still hran.rest (·.flightsOf t) fun _ => rfl).trans hnone
  have hsplit1 : (s1.core n).ctl.split = false := (eq_of_still hran.rest (·.ctl.split) fun _ => rfl).trans hsplit
  rw [if_pos (by simp [hnone]), State.tryEnd_eq hwait hlive hnone1 ((isEnded_iff_of_seen hran.other).not.2 hother), hsplit1] at hexec
  refine ⟨_, hexec, hran.listEnded (State.listEnd_spec _ _ _ _ _ ?_ ?_)⟩
  · exact (eq_of_still hran.rest (·.fence.st) fun _ => rfl).trans hst
  · exact (eq_of_still hran.rest (·.pint.fenced) fun _ => rfl).trans hf

end

section
variable {s : State} {n : CoreIx} {t : Strm} {ch cs no : Bool} {a b : Nat} (hwait : ((s.core n).strm t).wait = .endw ch cs no a b)
  (hlive : (s.core n).live t = true) (hnone : (s.core n).flightsOf t = []) (hother : ¬((s.core n).strm (other t)).isEnded)
  (hclk : s.power.clockOn = true)
include hwait hlive hnone hother hclk

theorem exec_endComplete : exec (.endComplete n t) s = .next
    (if (s.core n).ctl.split then (s.setWait n t (.ended ch cs no a b)).wordDone n t else s.listEnd n ch cs no a b) := by
  rw [← State.tryEnd_eq hwait hlive hnone hother]
  exact (State.clocked_on _ hclk : execEndComplete n t s = _)

/-- In SPLIT the first stream to end waits for the other. -/
theorem endComplete_first (hsplit : (s.core n).ctl.split = true) : ∃ s', exec (.endComplete n t) s = .next s' ∧
    Ran s s' n t (s.core n) { (s.core n).strm t with wait := .ended ch cs no a b } := by
  rw [exec_endComplete hwait hlive hnone hother hclk, if_pos hsplit]
  exact ⟨_, rfl, ((Ran.start s n t).setWait _).quiet (Quiet.wordDone ..)⟩

theorem endComplete_ends (hsplit : (s.core n).ctl.split = false) (hst : (s.core n).fence.st = 0) (hf : (s.core n).pint.fenced = 0) :
    ∃ s', exec (.endComplete n t) s = .next s' ∧ ListEnded s s' n ch cs no a b := by
  rw [exec_endComplete hwait hlive hnone hother hclk, if_neg (by simp [hsplit])]
  exact ⟨_, rfl, State.listEnd_spec ch cs no a b hst hf⟩

end
end Sys2Proof.Safety

namespace Sys2Proof.Machine
open Sys2Proof.Safety

/-- Settles O8, by what the end of a list leaves, at issue and when its stream's commands have completed. -/
theorem listEnds : Obligations.ListEnds := by
  unfold Obligations.ListEnds
  refine ⟨fun s n t d ext h hop ha hb => ⟨h.end_waits hop ha hb, ?issue⟩, fun s n t ch cs no a b hwait hlive hnone => ⟨?first, ?complete⟩⟩
  case issue =>
    rintro hnone hsplit rfl hst hf hother
    obtain ⟨s', hexec, hend⟩ := h.end_ends hop ha hb hnone hsplit hst hf (fun ⟨a, b, c, d, e, h⟩ => hother a b c d e h)
    refine ⟨s', hexec, hend.only, hend.others, hend.plot, hend.cnts, hend.sregs, fun hch => hend.idle (by simp [hch]), fun hch => ?_,
      fun p hno hp => hend.notified p (decide_eq_true hno) hp, fun hno => hend.unnotified (by simp [hno])⟩
    obtain ⟨hrun, hpres, hpc, hsp, hstep, hsx⟩ := hend.starts (decide_eq_true hch)
    exact ⟨hrun, hpres, hpc, hsp.trans (by simp [hch]), hstep, fun hcs => hsx (by simp [hch, hcs])⟩
  case first =>
    intro hsplit hother hclk
    exact endComplete_first hwait hlive hnone (fun ⟨a, b, c, d, e, h⟩ => hother a b c d e h) hclk hsplit
  case complete =>
    intro hsplit hother hst hf hclk
    obtain ⟨s', hexec, hend⟩ := endComplete_ends hwait hlive hnone (fun ⟨a, b, c, d, e, h⟩ => hother a b c d e h) hclk hsplit hst hf
    refine ⟨s', hexec, hend.only, hend.others, hend.idle, fun hch => ?_, hend.notified⟩
    obtain ⟨hrun, -, hpc, hsp, -⟩ := hend.starts hch
    exact ⟨hrun, hpc, hsp⟩

end Sys2Proof.Machine
end

section
/-! PROOF. Faults of a core: the records of a core, a program fault, and the drain that ends in FAULTED (04 R120; 09 R258). -/

namespace Sys2Proof.Machine
open Sys2Proof.Safety

/-! ### Records and interrupts of a core (15 R420; 18 R515) -/

theorem State.logRecS_only (s : State) (code unit sev : Nat) (pav : Option Nat) (detail : Nat) (stepped : Bool) :
    Only [.log, .fns, .out] s (s.logRecS code unit sev pav detail stepped) := by
  unfold State.logRecS
  dsimp only
  generalize hs1 : ({ s with log := _ } : State) = s1
  have hlog : Only [.log, .fns, .out] s s1 := by
    rw [← hs1]
    exact only_iff_mask.2 (mask_log s (by decide) _)
  split
  · exact hlog.trans ((s1.raise_raised 0 6).only.mono (by decide))
  · exact hlog

/-- A record of a core changes nothing of the core but the frame of its last record. -/
theorem State.logCoreS_spec (s : State) (code n sev detail : Nat) (stepped : Bool) :
    Only [.cores, .log, .fns, .out] s (s.logCoreS code n sev detail stepped) ∧ OtherCores n s (s.logCoreS code n sev detail stepped) ∧
      ∃ frames, (s.logCoreS code n sev detail stepped).core n = { s.core n with ctl := { (s.core n).ctl with recFrame := frames } } := by
  unfold State.logCoreS
  dsimp only
  split
  · exact ⟨only_iff_mask.2 (mask_log s (by decide) _), fun _ _ => rfl, (s.core n).ctl.recFrame, rfl⟩
  · generalize hs1 : s.setCore n _ = s1
    have hset : Only [.cores, .log, .fns, .out] s s1 := by
      rw [← hs1]
      exact only_iff_mask.2 (mask_cores s (by decide) _)
    have hrec := s1.logRecS_only code n sev (s.owner n) detail stepped
    have hcore := State.core_congr (t := s1.logRecS code n sev (s.owner n) detail stepped) (by simpa using hrec.cores)
    refine ⟨hset.trans (hrec.mono (by decide)), fun m hm => ?_, ?_⟩
    · rw [hcore, ← hs1, State.core_setCore, if_neg hm]
    · refine ⟨Sparse.put (s.core n).ctl.recFrame code s.frame, ?_⟩
      rw [hcore, ← hs1, State.core_setCore_self]

/-- An interrupt of a core is one of its Pavilion's function (15 R406). -/
theorem State.raiseCore_spec (s : State) (n i : Nat) : Only [.fns, .out] s (s.raiseCore n i) ∧
    ∀ p, s.owner n = some p → bit ((s.raiseCore n i).fn (p + 1)).pending i = true := by
  unfold State.raiseCore State.raiseVf
  cases hp : s.owner n with
  | none => exact ⟨.refl _ s, nofun⟩
  | some q =>
    have h := s.raise_raised (q + 1) i
    refine ⟨h.only, ?_⟩
    rintro p ⟨⟩
    exact h.pending

/-! ### A program fault (04 R120) -/

/-- A program fault stops its core, with its code and address recorded, and raises CORE_FAULT. -/
structure Faulted (s s' : State) (n : Nat) (t : Strm) (addr code : Nat) : Prop where
  only : Only [.cores, .log, .fns, .out] s s'
  others : OtherCores n s s'
  core : ∃ frames, s'.core n = { (s.core n).stopFault with
    ctl := { (s.core n).stopFault.ctl with fault := code + 256 * b2n (t = .exec), faultAddr := addr, recFrame := frames } }
  raised : ∀ p, s.owner n = some p → bit (s'.fn (p + 1)).pending 2 = true

theorem State.coreFault_faulted {s : State} {n : Nat} (t : Strm) (addr code : Nat) (hf : (s.core n).ctl.drain ≠ .fault)
    (hr : (s.core n).ctl.drain ≠ .reset) : Faulted s (s.coreFault n t addr code) n t addr code := by
  unfold State.coreFault State.logCore
  simp only [hf, hr, decide_false, Bool.or_self, Bool.false_eq_true, if_false]
  generalize hs1 : s.setCore n _ = s1
  generalize hs2 : s1.logCoreS _ _ _ _ _ = s2
  obtain ⟨hlog, hlogOthers, frames, hlogCore⟩ := hs2 ▸ s1.logCoreS_spec _ _ _ _ _
  obtain ⟨hraise, hcause⟩ := s2.raiseCore_spec n 2
  have hset : Only [.cores, .log, .fns, .out] s s1 := by
    rw [← hs1]
    exact only_iff_mask.2 (mask_cores s (by decide) _)
  have hcore := State.core_congr (t := s2.raiseCore n 2) (by simpa using hraise.cores)
  exact {
    only := (hset.trans hlog).trans (hraise.mono (by decide))
    others := fun m hm => by rw [hcore, hlogOthers m hm, ← hs1, State.core_setCore, if_neg hm]
    core := ⟨frames, by rw [hcore, hlogCore, ← hs1, State.core_setCore_self]⟩
    raised := fun p hp => hcause p ((State.owner_congr (by simpa using (hset.trans hlog).objs) n).trans hp) }

/-! ### The drain of a fault (04 R120; 09 R258) -/

/-- Of the commands in flight a core keeps those that have started when it drops its queues. -/
theorem Core.flights_dropQueues (c : Core) : c.dropQueues.flights = c.started := rfl

/-- A REGION that waited takes effect when its core has stopped (04 R129): it changes the core's windows, tags and streams alone. -/
theorem Core.lateRegion_keeps (t : Strm) (c : Core) : (c.lateRegion t).ctl = c.ctl ∧ (c.lateRegion t).pint = c.pint ∧
    (c.lateRegion t).fence = c.fence ∧ (c.lateRegion t).flights = c.flights := by
  unfold Core.lateRegion
  split
  · dsimp only
    rw [Core.region_eq]
    cases t <;> exact ⟨rfl, rfl, rfl, rfl⟩
  · exact ⟨rfl, rfl, rfl, rfl⟩

/-- A drained core of `s` that has become FAULTED in `s'`: STEP_FAILED is raised for a Plot error, and nothing else (09 R258). -/
structure BecameFaulted (s s' : State) (n : Nat) : Prop where
  only : Only [.cores, .fns, .out] s s'
  others : OtherCores n s s'
  ctl : (s'.core n).ctl = { (s.core n).ctl with st := .faulted, drain := .none }
  flights : (s'.core n).flights = (s.core n).flights
  raised : ∀ p, (s.core n).pint.stepFailed = true → s.owner n = some p → bit (s'.fn (p + 1)).pending 3 = true
  silent : (s.core n).pint.stepFailed = false → s'.fns = s.fns

theorem State.becomeFaulted_spec {s : State} {n : Nat} (hfenced : (s.core n).pint.fenced = 0) (hst : (s.core n).fence.st = 0) :
    BecameFaulted s (s.becomeFaulted n) n := by
  obtain ⟨hctl, hpint, hfence, hflights⟩ := Core.lateRegion_keeps .exec ((s.core n).lateRegion .access)
  obtain ⟨hctl', hpint', hfence', hflights'⟩ := Core.lateRegion_keeps .access (s.core n)
  rw [hctl'] at hctl
  rw [hpint'] at hpint
  rw [hfence'] at hfence
  rw [hflights'] at hflights
  unfold State.becomeFaulted
  generalize ((s.core n).lateRegion .access).lateRegion .exec = c at hctl hpint hfence hflights
  dsimp only
  generalize hk : ({ c with ctl := _, pint := _, dbg := _ } : Core) = k
  have hset : Only [.cores, .fns, .out] s (s.setCore n k) := only_iff_mask.2 (mask_cores s (by decide) _)
  have hkctl : k.ctl = { (s.core n).ctl with st := .faulted, drain := .none } := by rw [← hk, ← hctl]
  have hkflights : k.flights = (s.core n).flights := by rw [← hflights, ← hk]; rfl
  have hsettle : ∀ s1 : State, s1.cores = (s.setCore n k).cores → s1.settle n = s1 ∧ OtherCores n s s1 ∧ s1.core n = k := by
    intro s1 hcores
    have hcore := State.core_congr hcores
    have hself := (hcore n).trans (s.core_setCore_self n k)
    refine ⟨State.settle_sound ?_ ?_, fun m hm => (hcore m).trans ((s.core_setCore n k m).trans (if_neg hm)), hself⟩
    · rw [hself, ← hk]; exact hfence ▸ hst
    · rw [hself, ← hk]; exact hpint ▸ hfenced
  rw [hpint]
  cases hfail : (s.core n).pint.stepFailed with
  | true =>
    obtain ⟨hraise, hcause⟩ := (s.setCore n k).raiseCore_spec n 3
    obtain ⟨hsame, hothers, hself⟩ := hsettle ((s.setCore n k).raiseCore n 3) (by simpa using hraise.cores)
    rw [if_pos rfl, hsame]
    exact { only := hset.trans (hraise.mono (by decide)), others := hothers, ctl := hself.symm ▸ hkctl, flights := hself.symm ▸ hkflights
            raised := fun p _ hp => hcause p hp, silent := fun h => absurd (hfail.symm.trans h) (by decide) }
  | false =>
    obtain ⟨hsame, hothers, hself⟩ := hsettle (s.setCore n k) rfl
    rw [if_neg (by decide), hsame]
    exact { only := hset, others := hothers, ctl := hself.symm ▸ hkctl, flights := hself.symm ▸ hkflights
            raised := fun p h => absurd (hfail.symm.trans h) (by decide), silent := fun _ => rfl }

/-- CORE_DRAIN_COMPLETE of a core whose started commands have completed. -/
theorem exec_coreDrainComplete {s : State} {n : CoreIx} (hdrain : (s.core n).ctl.drain = .fault) (hdone : (s.core n).drained = true)
    (hclk : s.power.clockOn = true) : exec (.coreDrainComplete n) s = .next
      (if (s.core n).pint.suspects.isEmpty then (s.setCore n (s.core n).dropQueues).becomeFaulted n else s.setCore n (s.core n).dropQueues) := by
  refine (State.clocked_on _ hclk : execCoreDrainComplete n s = _).trans ?_
  simp only [hdrain, hdone, decide_true, Bool.and_self, if_true]

/-- Settles O11, by what a program fault and the end of the drain leave of the core, the log and the interrupts. -/
theorem coreFaults : Obligations.CoreFaults := by
  unfold Obligations.CoreFaults
  refine ⟨fun s n hdrain hdone hfenced hst => ⟨?clean, ?suspect⟩, fun s n addr code t hf hr => ?fault⟩
  case clean =>
    intro hsus hclk
    have hnone : (s.core n).dropQueues.flights = [] := List.isEmpty_iff.1 hdone
    have h : BecameFaulted (s.setCore n (s.core n).dropQueues) _ n := State.becomeFaulted_spec
      (by rw [State.core_setCore_self]; exact hfenced) (by rw [State.core_setCore_self]; exact hst)
    rw [exec_coreDrainComplete hdrain hdone hclk, hsus, if_pos List.isEmpty_nil]
    have hothers : OtherCores n s (s.setCore n (s.core n).dropQueues) := fun m hm => (s.core_setCore n _ m).trans (if_neg hm)
    have hctl := h.ctl
    have hflights := h.flights
    have hraised := h.raised
    have hsilent := h.silent
    rw [State.core_setCore_self] at hctl hflights hraised hsilent
    exact ⟨_, rfl, (only_iff_mask.2 (mask_cores s (by decide) _)).trans h.only, fun m hm => (h.others m hm).trans (hothers m hm),
      congrArg (·.st) hctl, congrArg (·.drain) hctl, hflights.trans hnone, congrArg (·.fault) hctl, congrArg (·.sregs) hctl, hraised, hsilent⟩
  case suspect =>
    intro hsus hclk
    rw [exec_coreDrainComplete hdrain hdone hclk, if_neg (by simpa using hsus)]
    refine ⟨_, rfl, only_iff_mask.2 (mask_cores s (by decide) _), fun m hm => (s.core_setCore n _ m).trans (if_neg hm), ?_, ?_⟩
    · rw [State.core_setCore_self]
      exact List.isEmpty_iff.1 hdone
    · rw [State.core_setCore_self]
      rfl
  case fault =>
    obtain ⟨honly, hothers, ⟨frames, hcore⟩, hraised⟩ := State.coreFault_faulted t addr code hf hr
    exact ⟨honly, hothers, congrArg (·.ctl.fault) hcore, congrArg (·.ctl.faultAddr) hcore, congrArg (·.ctl.drain) hcore,
      fun hstep => (congrArg (·.ctl.stepState) hcore).trans (if_pos hstep), congrArg (·.plot) hcore, hraised⟩

end Sys2Proof.Machine
end

section
/-! PROOF. The issue of long commands (04 R99; 05 R139): the descriptor copy of a Plot whose cells are stuck, which no code detects. -/

namespace Sys2Proof.Machine
open Sys2Proof.Safety

/-- A cell of the Plot's second line that is stuck at 1 (09 R257). -/
def stuckCell (column : Nat) : Broken := { bank := 0, sub := 1, row := some 0, column := column, val := 1 }

/-- A core whose Plot holds OPREFETCH of the descriptor at 64. All bytes of that descriptor are 0, and four of its cells are stuck at 1:
their bits are a multiple of the polynomial of the line's CRC, so the line reads as good. -/
def stuckCore : Core :=
  { ctl := { st := .run }, sa := { present := true }, plot := { bytes := [(0, 0x24), (13, 2)] }
    pint := { broken := [64, 65, 78, 80].map stuckCell } }

def stuckChip : State := { power := { clockOn := true }, cores := [(0, stuckCore)] }

/-- The word of `stuckCore`: OPREFETCH with the descriptor at 64. -/
def stuckWord : Dec := { op := 0x24, addr := 0, w := 0x24 + 2 ^ 105, a := 64 }

/-- The descriptor at 64 as a read finds it. -/
def stuckDesc : Nat := 2 ^ 64 + 2 ^ 65 + 2 ^ 78 + 2 ^ 80

theorem offers_stuckChip : Offers stuckChip 0 .access stuckWord 0 where
  clock := rfl
  can := by decide
  word := by decide +kernel
  bp := .inr (by decide)
  legal := by decide +kernel

theorem accepts_stuckChip : Accepts (stuckChip.fetched 0 .access) 0 stuckWord { stuckWord with d1 := stuckDesc } .mover where
  eng := by decide
  desc := by decide +kernel
  copy := by decide +kernel
  legal := by decide +kernel
  tags := by decide +kernel
  room := by decide +kernel

/-- The first descriptor copies in a mover's queue. -/
def queuedDescs (q : EngSt) : List Nat := q.queue.map (·.desc1)

/-- The outcome is a next state in which the mover of core 0 has queued commands with the first descriptor copies `ds`. -/
def queuesDescs (ds : List Nat) : Host.Outcome State Fault Refusal → Bool
  | .next s => queuedDescs (s.core 0).mover == ds
  | _ => false

/-- The issue takes its copy of the descriptor from the bytes stored in the Plot, which are 0. -/
theorem oprefetch_stuckChip : queuesDescs [0] (exec (.oprefetch 0 .access) stuckChip) = true := by decide +kernel

/-- Refutes O12: four stuck cells whose bits form a codeword of the line's CRC change a descriptor that reads as good. The copy that the
statement names is what a read of the Plot finds (`descCopy`), while the issue copies the stored bytes (05 R139). -/
theorem not_longCommandsIssue : ¬ Obligations.LongCommandsIssue := by
  unfold Obligations.LongCommandsIssue
  intro h
  obtain ⟨hissue, -⟩ := h
  obtain ⟨htakes, -, -⟩ := hissue stuckChip 0 .access stuckWord _ 0 .mover (.oprefetch 0 .access) offers_stuckChip (by decide)
  obtain ⟨s', l, hexec, -, hcarries, hcore⟩ := htakes accepts_stuckChip
  have hmover : (s'.core 0).mover = { queue := [l], run := [] } := congrArg Core.mover hcore.rest
  have hrun := oprefetch_stuckChip
  rw [hexec] at hrun
  have hqueued : [l.desc1] = [0] := (congrArg queuedDescs hmover).symm.trans (beq_iff_eq.1 hrun)
  have hcopy : l.desc1 = stuckDesc := hcarries.descs.1
  exact absurd (hcopy.symm.trans (List.head_eq_of_cons_eq hqueued)) (by decide)

end Sys2Proof.Machine
end

section
/-! PROOF. Tagged accesses that go on (04 R112; 22 R591): a mover with two started commands of one number. -/

namespace Sys2Proof.Machine

/-- A SIGNAL that adds `amount` to a counter. -/
def signalOf (amount : Nat) : LongCmd :=
  { id := 1, op := 0x23, strm := .access, addr := 0, w0 := 0, x1 := 0, x2 := 0, a := amount, b := 0, c := 0, desc1 := 0, desc2 := 0, rngs := [] }

/-- A chip whose core 0 has started two SIGNAL commands of one number, the first of which waited for a tag. -/
def twinChip : State :=
  { power := { clockOn := true }
    cores := [(0, { mover := { run := [{ cmd := signalOf 0, held := true }, { cmd := signalOf 1 }] } })] }

/-- The outcome is a next state in which the mover of core 0 has started commands with the operands `as`. -/
def startedOperands (as : List Nat) : Host.Outcome State Fault Refusal → Bool
  | .next s => ((s.core 0).mover.run.map (·.cmd)).map (·.a) == as
  | _ => false

/-- Where the first command goes on, both come to be that command: a command is known to the mover by its number. -/
theorem tagAccessResume_twinChip : startedOperands [0, 0] (exec (.tagAccessResume 0 .mover) twinChip) = true := by decide +kernel

/-- Refutes O13: in its second clause the started commands keep their words whatever the state. Issue numbers
each command afresh, but the clause speaks of every state: where two started commands carry one number, the one that goes on replaces the
other. -/
theorem not_engineStartsAndWaits : ¬ Obligations.EngineStartsAndWaits := by
  unfold Obligations.EngineStartsAndWaits
  intro h
  obtain ⟨-, hresume, -⟩ := h
  obtain ⟨s', hexec, -, hcmds⟩ := hresume twinChip 0 .mover { cmd := signalOf 0, held := true } rfl rfl
  have hkept : (s'.core 0).mover.run.map (·.cmd) = [signalOf 0, signalOf 1] := hcmds
  have hrun := tagAccessResume_twinChip
  rw [hexec] at hrun
  have hoperands : [0, 1] = [0, 0] := (congrArg (List.map LongCmd.a) hkept).symm.trans (beq_iff_eq.1 hrun)
  exact absurd hoperands (by decide)

end Sys2Proof.Machine
end

section
/-! PROOF. STEP of an undivided core (04 R119; 05 R142): the OOB flag that a command of the former execute stream has left. -/

namespace Sys2Proof.Machine
open Sys2Proof.Safety

/-- A GATHER that the execute stream issued before its JOIN, with nothing left to do and an index out of range (05 R150). -/
def outOfRangeGather : Running :=
  { cmd := { id := 1, op := 0x21, strm := .exec, addr := 0, w0 := 0, x1 := 0, x2 := 0, a := 0, b := 0, c := 0, desc1 := 0, desc2 := 0, rngs := [] }
    oob := true }

/-- A chip whose core 0 has united at a JOIN with that GATHER in flight; its one stream stands at STEP 0. -/
def unitedChip : State :=
  { power := { clockOn := true }
    cores := [(0, { ctl := { st := .run }, sa := { present := true }, plot := { bytes := [(0, 0x07)] }, mover := { run := [outOfRangeGather] } })] }

/-- The chip once the GATHER has completed: the flag OOB of the stream that issued it is set. -/
def oobChip : State := unitedChip.moverComplete 0

theorem exec_longCommandComplete_unitedChip : exec (.longCommandComplete 0 .mover) unitedChip = .next oobChip := rfl

/-- The word at which the stream of `oobChip` stands: STEP 0. -/
def stepWord : Dec := { op := 0x07, addr := 0, w := 0x07 }

theorem offers_oobChip : Offers oobChip 0 .access stepWord 0 where
  clock := rfl
  can := by decide
  word := by decide +kernel
  bp := .inr (by decide)
  legal := by decide +kernel

/-- The outcome is a next state in which the flag OOB of core 0's execute stream is clear. -/
def clearsExecOob : Host.Outcome State Fault Refusal → Bool
  | .next s => !(s.core 0).sx.flags.oob
  | _ => false

/-- Where a step opens, the flag OOB of both streams is cleared (05 R142). -/
theorem step_oobChip : clearsExecOob (exec (.step 0 .access) oobChip) = true := by decide +kernel

/-- Refutes O4: its first clause leaves the other stream as it stood, but a STEP of an undivided core clears the flag OOB of both. The execute
stream has that flag set where a GATHER that it issued before its JOIN completes after it (04 R105; 05 R142). -/
theorem not_stepAndFenceCommands : ¬ Obligations.StepAndFenceCommands := by
  unfold Obligations.StepAndFenceCommands
  intro h
  obtain ⟨⟨hstep, -⟩, -⟩ := h
  obtain ⟨hopens, -⟩ := hstep oobChip 0 stepWord 0 offers_oobChip rfl rfl
  obtain ⟨s', hexec, hran⟩ := hopens (by decide)
  have hkept : (s'.core 0).sx.flags = (oobChip.core 0).sx.flags :=
    (seen_flags _).symm.trans ((congrArg StreamSt.flags hran.other).trans (seen_flags _))
  have hset : (oobChip.core 0).sx.flags.oob = true := by decide
  have hclear := step_oobChip
  rw [hexec] at hclear
  simp [clearsExecOob, hkept, hset] at hclear

end Sys2Proof.Machine
end

section
/-! PROOF. What the completion of a long command leaves: its engine without it, and the disposition (05 R140; 16 R447). -/

namespace Sys2Proof.Machine
open Sys2Proof.Safety

/-- A change of Tally counters alone. -/
theorem TallyOnly.only {s t : State} (h : TallyOnly s t) : Only [.tally] s t := by
  obtain ⟨y, rfl⟩ := h
  exact only_iff_mask.2 (mask_tally s (by decide) y)

theorem TallyOnly.cores {s t : State} (h : TallyOnly s t) : t.cores = s.cores := by
  obtain ⟨y, rfl⟩ := h
  rfl

theorem State.tallyPav_tallyOnly (s : State) (i : Nat) (p : Option Nat) (k : Nat) : TallyOnly s (s.tallyPav i p k) := by
  cases p with
  | some p => exact s.tallyAdd_tallyOnly i p k
  | none => exact ⟨_, rfl⟩

section
variable (c : Core) (e : Eng) (v : EngSt)
@[simp] theorem Core.eng_setEng : (c.setEng e v).eng e = v := by cases e <;> rfl
@[simp] theorem Core.plot_setEng : (c.setEng e v).plot = c.plot := by cases e <;> rfl
@[simp] theorem Core.disp_setEng : (c.setEng e v).disp = c.disp := by cases e <;> rfl
@[simp] theorem Core.strm_setEng (t : Strm) : (c.setEng e v).strm t = c.strm t := by cases e <;> cases t <;> rfl
end

/-- The disposition register of a core once a command has completed: its opcode, and whether it was deferred or refused (16 R447). -/
def Running.disposition (r : Running) : Nat :=
  r.cmd.op + (if r.refused then 2 ^ 31 else if r.defer = 0 then 0 else min r.defer 0x3FFFFF * 256 + 2 ^ 30)

/-- The run of an engine without the command that has completed. -/
def EngSt.without (v : EngSt) (r : Running) : EngSt := { v with run := v.run.filter (fun x => x.cmd.id ≠ r.cmd.id) }

/-- `s'` is `s` once the started command `r` has left engine `e` of core `n` and its disposition is written. -/
structure Retired (s s' : State) (n : Nat) (e : Eng) (r : Running) : Prop where
  only : Only [.cores, .tally] s s'
  others : OtherCores n s s'
  core : ∃ d : Disp, d.last = r.disposition ∧ s'.core n = { (s.core n).setEng e (((s.core n).eng e).without r) with disp := d }

/-- The disposition of a command that completes, and the Tally counter of its kind (16 R447). -/
theorem State.dispose_spec (s : State) (n : Nat) (r : Running) : Only [.cores, .tally] s (s.dispose n r) ∧ OtherCores n s (s.dispose n r) ∧
    ∃ d : Disp, d.last = r.disposition ∧ (s.dispose n r).core n = { s.core n with disp := d } := by
  unfold State.dispose
  generalize hkind : (if r.refused then 2 else if r.defer ≠ 0 then 1 else 0) = kind
  have hlast : r.cmd.op + (if kind = 1 then min r.defer 0x3FFFFF * 256 else 0) + kind * 2 ^ 30 = r.disposition := by
    subst hkind
    unfold Running.disposition
    cases r.refused with
    | true => simp
    | false => by_cases h0 : r.defer = 0 <;> simp [h0, Nat.add_assoc]
  simp only [State.updCore_eq]
  generalize hk : ({ s.core n with disp := _ } : Core) = k
  have hset := Leaves.setCore s n k
  have htally := (s.setCore n k).tallyPav_tallyOnly (0x21 + kind) ((s.setCore n k).owner n) 1
  have hsame := State.core_congr htally.cores
  exact ⟨hset.only.trans (htally.only.mono (by decide)), fun m hm => (hsame m).trans (hset.others m hm), _, hlast,
    ((hsame n).trans (s.core_setCore_self n k)).trans hk.symm⟩

theorem State.retire_retired (s : State) (n : Nat) (e : Eng) (r : Running) : Retired s (s.retire n e r) n e r := by
  have hset := Leaves.setCore s n ((s.core n).setEng e (((s.core n).eng e).without r))
  obtain ⟨honly, hothers, d, hlast, hcore⟩ := (s.setCore n ((s.core n).setEng e (((s.core n).eng e).without r))).dispose_spec n r
  rw [State.core_setCore_self] at hcore
  exact { only := hset.only.trans honly, others := fun m hm => (hothers m hm).trans (hset.others m hm), core := ⟨d, hlast, hcore⟩ }

section
variable {s s' : State} {n : Nat} {e : Eng} {r : Running} (h : Retired s s' n e r)
include h

theorem Retired.eng : (s'.core n).eng e = ((s.core n).eng e).without r := by
  obtain ⟨d, -, hcore⟩ := h.core
  rw [hcore, ← Core.eng_setEng (s.core n) e (((s.core n).eng e).without r)]
  cases e <;> rfl

theorem Retired.last : (s'.core n).disp.last = r.disposition := by
  obtain ⟨d, hd, hcore⟩ := h.core
  rw [hcore]
  exact hd

theorem Retired.plot : (s'.core n).plot = (s.core n).plot := by
  obtain ⟨d, -, hcore⟩ := h.core
  rw [hcore, ← Core.plot_setEng (s.core n) e (((s.core n).eng e).without r)]

theorem Retired.strm (t : Strm) : (s'.core n).strm t = (s.core n).strm t := by
  obtain ⟨d, -, hcore⟩ := h.core
  rw [hcore, ← Core.strm_setEng (s.core n) e (((s.core n).eng e).without r)]
  cases t <;> rfl

end

/-! ### Trellis, Dice port and Rotunda port (08; 11 R317; 14 R399) -/

section
variable {s : State} {n : Nat} {r : Running} {rs : List Running}

theorem State.trellisComplete_eq (hrun : (s.core n).tre.run = r :: rs) (hfin : r.finished = true) :
    s.trellisComplete n = s.retire n .trellis r := by
  unfold State.trellisComplete
  simp [hrun, hfin]

theorem State.portComplete_eq {e : Eng} (hrun : ((s.core n).eng e).run = r :: rs) (hclosing : r.closing = true) (hfin : r.finished = true) :
    s.portComplete n e = s.retire n e r := by
  unfold State.portComplete
  simp [hrun, hclosing, hfin]

end

end Sys2Proof.Machine
end

section
/-! PROOF. Completion of a mover command: what it leaves as it goes, and the SNAP that writes its record first (05 R140, R142; 21 R581). -/

namespace Sys2Proof.Machine
open Sys2Proof.Safety

/-! ### A command that goes (05 R142; 21 R581) -/

/-- The flag OOB of the stream that issued the command, as its completion leaves it (05 R142). -/
def State.noteOob (s : State) (n : Nat) (r : Running) : State :=
  if r.oob then s.setFlags n r.cmd.strm (fun f => { f with oob := true }) else s

/-- One more Snapshot of Pavilion `p` (21 R581). -/
def State.countSnap (s : State) (p : Nat) : State :=
  (s.updPav p (fun v => { v with snapCount := (v.snapCount + 1) % 2 ^ 32 })).tallyAdd 0x2D p 1

section
variable {s : State} {n : Nat} {r : Running} {rs : List Running}

theorem State.noteOob_spec (s : State) (n : Nat) (r : Running) : Only [.cores, .tally] s (s.noteOob n r) ∧ OtherCores n s (s.noteOob n r) ∧
    (∀ e, ((s.noteOob n r).core n).eng e = (s.core n).eng e) ∧ ((s.noteOob n r).core n).plot = (s.core n).plot ∧
    (((s.noteOob n r).core n).strm r.cmd.strm).flags.oob = (r.oob || ((s.core n).strm r.cmd.strm).flags.oob) := by
  unfold State.noteOob
  cases r.oob with
  | false => exact ⟨.refl _ s, fun _ _ => rfl, fun _ => rfl, rfl, rfl⟩
  | true =>
    have hset := Leaves.setCore s n ((s.core n).setStrm r.cmd.strm
      { (s.core n).strm r.cmd.strm with flags := { ((s.core n).strm r.cmd.strm).flags with oob := true } })
    simp only [if_true, State.setFlags, State.updCore_eq, State.core_setCore_self, Core.strm_setStrm, Bool.true_or, and_true]
    refine ⟨hset.only, hset.others, fun e => ?_, ?_⟩
    · cases r.cmd.strm <;> cases e <;> rfl
    · cases r.cmd.strm <;> rfl

theorem State.countSnap_spec (s : State) (p : Nat) : Only [.pavs, .tally] s (s.countSnap p) ∧ OtherPavs p s (s.countSnap p) ∧
    ((s.countSnap p).pav p).snapCount = ((s.pav p).snapCount + 1) % 2 ^ 32 := by
  unfold State.countSnap
  obtain ⟨y, hy⟩ := (s.updPav p (fun v => { v with snapCount := (v.snapCount + 1) % 2 ^ 32 })).tallyAdd_tallyOnly 0x2D p 1
  rw [hy]
  refine ⟨only_iff_mask.2 ((mask_tally _ (by decide) y).trans (mask_pavs s (by decide) _)), fun q hq => ?_, ?_⟩
  · exact (s.pav_setPav p _ q).trans (if_neg hq)
  · exact congrArg Pav.snapCount (s.pav_setPav_self p _)

theorem State.moverComplete_plain (hrun : (s.core n).mover.run = r :: rs) (hfin : r.finished = true) (hsnap : r.snap = false) :
    s.moverComplete n = (s.noteOob n r).retire n .mover r := by
  unfold State.moverComplete State.noteOob
  simp [hrun, hfin, hsnap]

theorem State.moverComplete_snap (hrun : (s.core n).mover.run = r :: rs) (hfin : r.finished = true) (hsnap : r.snap = true)
    (hclosing : r.closing = true) :
    s.moverComplete n = ((s.noteOob n r).countSnap ((s.owner n).getD 0)).retire n .mover r := by
  unfold State.moverComplete State.noteOob State.countSnap
  simp [hrun, hfin, hsnap, hclosing]

/-- A finished command that is no SNAP, or whose record is written, goes with its flag and its disposition. -/
structure MoverGone (s s' : State) (n : Nat) (r : Running) : Prop where
  others : OtherCores n s s'
  mover : (s'.core n).mover = (s.core n).mover.without r
  last : (s'.core n).disp.last = r.disposition
  plot : (s'.core n).plot = (s.core n).plot
  oob : ((s'.core n).strm r.cmd.strm).flags.oob = (r.oob || ((s.core n).strm r.cmd.strm).flags.oob)

/-- What comes between the flag and the removal changes no core. -/
theorem State.noteOob_gone {s1 : State} (hcores : s1.cores = (s.noteOob n r).cores) : MoverGone s (s1.retire n .mover r) n r := by
  obtain ⟨-, hothers, heng, hplot, hoob⟩ := s.noteOob_spec n r
  have hsame := State.core_congr hcores
  have h := s1.retire_retired n .mover r
  exact {
    others := fun m hm => (h.others m hm).trans ((hsame m).trans (hothers m hm))
    mover := h.eng.trans (by rw [hsame, heng]; rfl)
    last := h.last
    plot := h.plot.trans (by rw [hsame, hplot])
    oob := by rw [h.strm, hsame, hoob] }

theorem State.moverComplete_gone (hrun : (s.core n).mover.run = r :: rs) (hfin : r.finished = true) (hgo : r.snap = false ∨ r.closing = true) :
    MoverGone s (s.moverComplete n) n r := by
  cases hsnap : r.snap with
  | false =>
    rw [State.moverComplete_plain hrun hfin hsnap]
    exact State.noteOob_gone rfl
  | true =>
    rw [State.moverComplete_snap hrun hfin hsnap (hgo.resolve_left (by simp [hsnap]))]
    obtain ⟨honly, -⟩ := (s.noteOob n r).countSnap_spec ((s.owner n).getD 0)
    exact State.noteOob_gone (by simpa using honly.cores)

theorem State.moverComplete_only (hrun : (s.core n).mover.run = r :: rs) (hfin : r.finished = true) (hsnap : r.snap = false) :
    Only [.cores, .tally] s (s.moverComplete n) := by
  rw [State.moverComplete_plain hrun hfin hsnap]
  exact (s.noteOob_spec n r).1.trans (State.retire_retired ..).only

/-- A SNAP whose record is written is counted for the Pavilion of its core (21 R581). -/
theorem State.moverComplete_counts {p : Nat} (hrun : (s.core n).mover.run = r :: rs) (hfin : r.finished = true) (hsnap : r.snap = true)
    (hclosing : r.closing = true) (howner : s.owner n = some p) : Only [.cores, .tally, .pavs] s (s.moverComplete n) ∧
      OtherPavs p s (s.moverComplete n) ∧ ((s.moverComplete n).pav p).snapCount = ((s.pav p).snapCount + 1) % 2 ^ 32 := by
  rw [State.moverComplete_snap hrun hfin hsnap hclosing, howner, Option.getD_some]
  obtain ⟨hnote, -⟩ := s.noteOob_spec n r
  obtain ⟨honly, hothers, hcount⟩ := (s.noteOob n r).countSnap_spec p
  have hgone := ((s.noteOob n r).countSnap p).retire_retired n .mover r
  have hbefore := State.pav_congr (s := s) (t := s.noteOob n r) (by simpa using hnote.pavs)
  have hafter := State.pav_congr (t := ((s.noteOob n r).countSnap p).retire n .mover r) (by simpa using hgone.only.pavs)
  refine ⟨((hnote.mono (by decide)).trans (honly.mono (by decide))).trans (hgone.only.mono (by decide)), fun q hq => ?_, ?_⟩
  · rw [hafter, hothers q hq, hbefore]
  · rw [hafter, hcount, hbefore]

end

/-! ### A SNAP that writes its record (21 R581) -/

/-- A started command goes on: it stays the command it is, reads nothing more, and destination pieces leave from the front (05 R150). -/
structure Advances (a b : Running) : Prop where
  cmd : b.cmd = a.cmd
  closing : b.closing = a.closing
  srcs : b.srcs = a.srcs
  dsts : b.dsts <:+ a.dsts

theorem Advances.refl (a : Running) : Advances a a := ⟨rfl, rfl, rfl, List.suffix_refl _⟩

theorem Advances.trans {a b c : Running} (h : Advances a b) (g : Advances b c) : Advances a c :=
  ⟨g.cmd.trans h.cmd, g.closing.trans h.closing, g.srcs.trans h.srcs, g.dsts.trans h.dsts⟩

theorem forall₂_advances_trans {l m k : List Running} (h : List.Forall₂ Advances l m) (g : List.Forall₂ Advances m k) :
    List.Forall₂ Advances l k := by
  induction h generalizing k with
  | nil => exact g
  | cons hab _ ih =>
    cases g with
    | cons hbc g => exact .cons (hab.trans hbc) (ih g)

/-- The command of a number is known by it before and after. -/
theorem find?_of_advances {l m : List Running} {id : Nat} {b : Running} (h : List.Forall₂ Advances l m)
    (hb : m.find? (fun r => r.cmd.id = id) = some b) : ∃ a, l.find? (fun r => r.cmd.id = id) = some a ∧ Advances a b := by
  induction h with
  | nil => simp at hb
  | @cons x y xs ys hxy _ ih =>
    rw [List.find?_cons] at hb ⊢
    rw [hxy.cmd] at hb
    by_cases hid : x.cmd.id = id
    · simp only [hid, decide_true] at hb ⊢
      exact ⟨x, rfl, Option.some.inj hb ▸ hxy⟩
    · simp only [hid, decide_false] at hb ⊢
      exact ih hb

/-- From `s` to `s'` of the cores only `n` changes, not its disposition, and the commands of its mover go on. -/
structure MoverAdvances (s s' : State) (n : Nat) : Prop where
  others : OtherCores n s s'
  disp : (s'.core n).disp = (s.core n).disp
  run : List.Forall₂ Advances (s.core n).mover.run (s'.core n).mover.run

theorem MoverAdvances.trans {s t u : State} {n : Nat} (h : MoverAdvances s t n) (g : MoverAdvances t u n) : MoverAdvances s u n where
  others m hm := (g.others m hm).trans (h.others m hm)
  disp := g.disp.trans h.disp
  run := forall₂_advances_trans h.run g.run

theorem MoverAdvances.of_core {s s' : State} {n : Nat} (ho : OtherCores n s s') (hd : (s'.core n).disp = (s.core n).disp)
    (hm : (s'.core n).mover = (s.core n).mover) : MoverAdvances s s' n where
  others := ho
  disp := hd
  run := by
    rw [hm]
    exact List.forall₂_same.2 fun x _ => .refl x

theorem MoverAdvances.of_cores {s s' : State} (n : Nat) (h : s'.cores = s.cores) : MoverAdvances s s' n :=
  .of_core (fun m _ => State.core_congr h m) (by rw [State.core_congr h]) (by rw [State.core_congr h])

theorem MoverAdvances.setCore {s : State} {n : Nat} {c : Core} (hd : c.disp = (s.core n).disp) (hm : c.mover = (s.core n).mover) :
    MoverAdvances s (s.setCore n c) n :=
  .of_core (Leaves.setCore s n c).others (by rw [State.core_setCore_self, hd]) (by rw [State.core_setCore_self, hm])

theorem MoverAdvances.updRun (s : State) (n id : Nat) {f : Running → Running} (hf : ∀ x, Advances x (f x)) :
    MoverAdvances s (s.updRun n .mover id f) n where
  others m hm := (s.core_setCore n _ m).trans (if_neg hm)
  disp := by rw [State.updRun, State.updCore_eq, State.core_setCore_self, Core.disp_setEng]
  run := by
    rw [State.updRun, State.updCore_eq, State.core_setCore_self]
    refine List.forall₂_map_right_iff.2 (List.forall₂_same.2 fun x _ => ?_)
    split
    · exact hf x
    · exact .refl x

/-! The parts of a write of the mover (10 R276, R283; 16 R434). -/

theorem State.translate_tallyOnly (s : State) (n va : Nat) (write : Bool) : TallyOnly s (s.translate n va write).2 := by
  unfold State.translate
  split
  · exact .refl s
  · exact .ite (.refl s) (s.tallyPav_tallyOnly ..)

theorem State.cores_request (s : State) (n res tier cost : Nat) (q : Req) : (s.request n res tier cost q).2.cores = s.cores := by
  have hclass : ∀ p, (s.classOf p 0 tier (some n)).2.cores = s.cores := by
    intro p
    unfold State.classOf
    dsimp only
    split
    · rfl
    · rfl
    · exact (s.tallyAdd_tallyOnly ..).cores
  exact hclass _

theorem MoverAdvances.startWalk (s : State) (n id va : Nat) : MoverAdvances s (s.startWalk n id va) n := by
  refine (MoverAdvances.updRun s n id (f := fun r => { r with walkWait := true }) fun x => ⟨rfl, rfl, rfl, List.suffix_refl _⟩).trans
    (.setCore ?_ ?_)
  all_goals
    dsimp only
    split
    all_goals rfl

/-- A record of the core and its interrupt. -/
theorem MoverAdvances.report (s : State) (n code sev detail i : Nat) :
    MoverAdvances s ((s.logCore code n sev detail).raiseCore n i) n := by
  obtain ⟨-, hothers, frames, hcore⟩ := s.logCoreS_spec code n sev detail false
  have hlog : MoverAdvances s (s.logCore code n sev detail) n := .of_core hothers ((congrArg Core.disp hcore).trans rfl)
    ((congrArg Core.mover hcore).trans rfl)
  obtain ⟨hraise, -⟩ := (s.logCore code n sev detail).raiseCore_spec n i
  exact hlog.trans (.of_cores n (by simpa using hraise.cores))

theorem MoverAdvances.memFault (s : State) (n cause : Nat) (write : Bool) (va : Nat) : MoverAdvances s (s.memFault n cause write va) n := by
  unfold State.memFault
  dsimp only
  split
  · exact .of_cores n rfl
  · refine (MoverAdvances.setCore ?_ ?_).trans (.report ..)
    all_goals
      split
      all_goals rfl

/-- A destination piece in memory (05 R150). -/
def DstPiece.IsMem : DstPiece → Prop
  | .mem .. => True
  | _ => False

/-- A piece that goes to memory leaves the command, or waits. -/
theorem MoverAdvances.pumpDst {s : State} {n : Nat} {r : Running} (h : ∀ x ∈ r.dsts, x.IsMem) : MoverAdvances s (s.pumpDst n r).2 n := by
  have hdone : ∀ (s1 : State) (k wr : Nat) (p : Bool), MoverAdvances s s1 n → MoverAdvances s (s1.updRun n .mover r.cmd.id (fun r =>
      { r with dsts := r.dsts.tail, buf := dropBytes r.buf k, wr := r.wr + wr, poisonSeen := r.poisonSeen || p })) n := fun s1 k wr p h1 =>
    h1.trans (.updRun s1 n _ fun x => ⟨rfl, rfl, rfl, List.tail_suffix _⟩)
  unfold State.pumpDst
  cases hd : r.dsts with
  | nil => exact .of_cores n rfl
  | cons x xs =>
    have hx : x.IsMem := h x (by rw [hd]; exact List.mem_cons_self)
    cases x with
    | plot => exact False.elim hx
    | drop => exact False.elim hx
    | mem va k org =>
      have htr := s.translate_tallyOnly n va true
      dsimp only
      split
      · exact .of_cores n rfl
      · generalize hres : s.translate n va true = res at htr ⊢
        obtain ⟨t, s1⟩ := res
        have h1 : MoverAdvances s s1 n := .of_cores n htr.cores
        cases t with
        | miss => exact h1.trans (.startWalk ..)
        | fault c => exact hdone _ _ _ _ (h1.trans (.memFault ..))
        | ok pa oc =>
          dsimp only
          split
          · exact hdone _ _ _ _ (h1.trans (.memFault ..))
          · exact hdone _ _ _ _ (h1.trans (.of_cores n (State.cores_request ..)))

/-- A command that has only bytes for memory left goes on without a change of any other core. -/
theorem MoverAdvances.pumpLoop {n id : Nat} (fuel : Nat) {s : State}
    (h : ∀ r, (s.core n).runOf .mover id = some r → r.srcs = [] ∧ ∀ x ∈ r.dsts, x.IsMem) : MoverAdvances s (State.pumpLoop fuel n id s) n := by
  induction fuel generalizing s with
  | zero => exact .of_cores n rfl
  | succ fuel ih =>
    unfold State.pumpLoop
    cases hr : (s.core n).runOf .mover id with
    | none => exact .of_cores n rfl
    | some r =>
      obtain ⟨hsrcs, hdsts⟩ := h r hr
      have hsrc : s.pumpSrc n r = (false, s) := by
        unfold State.pumpSrc
        rw [hsrcs]
      have hdst := MoverAdvances.pumpDst (s := s) (n := n) hdsts
      dsimp only
      split
      · exact .of_cores n rfl
      · rw [hsrc]
        simp only [hr, Bool.false_or]
        split
        · refine hdst.trans (ih fun b hb => ?_)
          obtain ⟨a, ha, hab⟩ := find?_of_advances hdst.run hb
          obtain ⟨hasrcs, hadsts⟩ := h a ha
          exact ⟨hab.srcs.trans hasrcs, fun x hx => hadsts x (hab.dsts.subset hx)⟩
        · exact hdst

theorem Core.runOf_head {c : Core} {e : Eng} {r : Running} {rs : List Running} (h : (c.eng e).run = r :: rs) : c.runOf e r.cmd.id = some r := by
  unfold Core.runOf
  simp [h]

theorem MoverAdvances.pump {s : State} {n : Nat} {r : Running} {rs : List Running} (hrun : (s.core n).mover.run = r :: rs)
    (hsrcs : r.srcs = []) (hdsts : ∀ x ∈ r.dsts, x.IsMem) : MoverAdvances s (s.pump n) n := by
  unfold State.pump
  rw [hrun]
  refine MoverAdvances.pumpLoop _ fun x hx => ?_
  rw [Core.runOf_head (e := .mover) hrun, Option.some.injEq] at hx
  exact hx ▸ ⟨hsrcs, hdsts⟩

theorem Running.srcs_of_finished {r : Running} (h : r.finished = true) : r.srcs = [] := by
  simp only [Running.finished, Bool.and_eq_true, and_assoc] at h
  exact List.isEmpty_iff.1 h.1

/-- A SNAP with the bytes `d` of its record left to write at `a`. -/
def Running.recording (r : Running) (d : List PByte) (a : Nat) : Running :=
  { r with closing := true, buf := [{ rid := none, len := 32, data := d }], dsts := [.mem a 32 false] }

section
variable {s : State} {n : Nat} {r : Running} {rs : List Running} (hrun : (s.core n).mover.run = r :: rs)
include hrun

theorem State.moverComplete_recording (hfin : r.finished = true) (hsnap : r.snap = true) (hclosing : r.closing = false) :
    s.moverComplete n = (s.updRun n .mover r.cmd.id
      (fun x => x.recording (clean (s.snapRecord n r)) (s.snapSlot ((s.owner n).getD 0)))).pump n := by
  unfold State.moverComplete
  simp [hrun, hfin, hsnap, hclosing, Running.recording]

/-- A change of the command at the head of the mover's run. -/
theorem State.updRun_head (f : Running → Running) : OtherCores n s (s.updRun n .mover r.cmd.id f) ∧
    ((s.updRun n .mover r.cmd.id f).core n).disp = (s.core n).disp ∧
    ∃ xs, ((s.updRun n .mover r.cmd.id f).core n).mover.run = f r :: xs := by
  unfold State.updRun
  rw [State.updCore_eq, State.core_setCore_self]
  refine ⟨(Leaves.setCore s n _).others, rfl, rs.map (fun x => if x.cmd.id = r.cmd.id then f x else x), ?_⟩
  simp only [Core.setEng, Core.eng, hrun, List.map_cons, if_true]

/-- The record of a SNAP goes to memory, and the command waits for it (21 R581). -/
theorem State.moverComplete_records (hfin : r.finished = true) (hsnap : r.snap = true) (hclosing : r.closing = false) :
    ∃ r', OtherCores n s (s.moverComplete n) ∧ ((s.moverComplete n).core n).mover.run.head? = some r' ∧ r'.cmd = r.cmd ∧
      r'.closing = true ∧ ((s.moverComplete n).core n).disp = (s.core n).disp := by
  rw [State.moverComplete_recording hrun hfin hsnap hclosing]
  obtain ⟨hothers, hdisp, xs, hhead⟩ := State.updRun_head hrun
    (fun x => x.recording (clean (s.snapRecord n r)) (s.snapSlot ((s.owner n).getD 0)))
  have hpump := MoverAdvances.pump hhead (Running.srcs_of_finished (r := r) hfin) (by simp [Running.recording, DstPiece.IsMem])
  have hrun' := hpump.run
  rw [hhead] at hrun'
  obtain ⟨r', xs', hr', -, hlist⟩ := List.forall₂_cons_left_iff.1 hrun'
  exact ⟨r', fun m hm => (hpump.others m hm).trans (hothers m hm), by rw [hlist]; rfl, hr'.cmd, hr'.closing, hpump.disp.trans hdisp⟩

end

end Sys2Proof.Machine
end

section
/-! PROOF. Completion of a Parterre command: its tile or its count of clamped words, and what a long command leaves (05 R140; 06 R174; 07 R210). -/

namespace Sys2Proof.Machine
open Sys2Proof.Safety

/-- As cycles pass, the count, the clocks, the Tally counters and the buckets of the Pavilions go on (log 9). -/
theorem State.elapseCycles_only (s : State) (k : Nat) : Only [.time, .cyc, .pavs, .tally] s (s.elapseCycles k) := by
  unfold State.elapseCycles
  split
  · obtain ⟨t, x, c, y, p, hs, -⟩ := s.elapse_spec (cdiv (k * 1000) (vfMHz s.power.vf))
    rw [hs]
    refine only_iff_mask.2 ?_
    simp [mask]
  · exact .refl _ s

/-- What a Parterre command leaves in its engine: a LOADW its tile, an integer command its count of clamped words (06 R174; 07 R210). -/
def Core.parOutcome (c : Core) (r : Running) : Core :=
  if r.cmd.op = 0x40 then
    c.setBed r.cmd.bed { c.bed r.cmd.bed with standby := some (tileOf r.cmd (rawBytes (readyBytes r.buf))) }
  else if fmtInt r.cmd.fmtA then { c with par := { c.par with satCount := Sparse.put c.par.satCount r.cmd.bed (min r.sat 0xFFFFFFFF) } }
  else c

section
variable (c : Core) (r : Running)

theorem Core.parOutcome_keeps : (c.parOutcome r).par.eng = c.par.eng ∧ (c.parOutcome r).par.cistern = c.par.cistern ∧
    (c.parOutcome r).plot = c.plot := by
  unfold Core.parOutcome
  split
  · exact ⟨rfl, rfl, rfl⟩
  · split <;> exact ⟨rfl, rfl, rfl⟩

/-- A LOADW leaves its tile in the standby place of its bed (06 R174). -/
theorem Core.bed_parOutcome (hop : r.cmd.op = 0x40) : (c.parOutcome r).bed r.cmd.bed =
    { c.bed r.cmd.bed with standby := some (tileOf r.cmd (rawBytes (readyBytes r.buf))) } := by
  unfold Core.parOutcome
  rw [if_pos hop]
  exact Sparse.getD_put_self ..

/-- An integer MATMUL or CONV leaves its count of clamped words (07 R210). -/
theorem Core.satCount_parOutcome (hop : r.cmd.op ≠ 0x40) (hint : fmtInt r.cmd.fmtA = true) :
    Sparse.find (c.parOutcome r).par.satCount r.cmd.bed = some (min r.sat 0xFFFFFFFF) := by
  unfold Core.parOutcome
  rw [if_neg hop, if_pos hint]
  exact (Sparse.find_put ..).trans (if_pos rfl)

end

/-- The state with the outcome of a Parterre command; clamped words count in the Tally too (07 R210). -/
def State.parOutcome (s : State) (n : Nat) (r : Running) : State :=
  if r.cmd.op = 0x40 then s.setCore n ((s.core n).parOutcome r)
  else if fmtInt r.cmd.fmtA then (s.setCore n ((s.core n).parOutcome r)).tallyAdd 0x16 n r.sat
  else s

theorem State.parOutcome_spec (s : State) (n : Nat) (r : Running) : Only [.cores, .tally] s (s.parOutcome n r) ∧
    OtherCores n s (s.parOutcome n r) ∧ (s.parOutcome n r).core n = (s.core n).parOutcome r := by
  have hset := Leaves.setCore s n ((s.core n).parOutcome r)
  have hself := s.core_setCore_self n ((s.core n).parOutcome r)
  unfold State.parOutcome
  split
  · exact ⟨hset.only, hset.others, hself⟩
  · next hop =>
    split
    · have htally := (s.setCore n ((s.core n).parOutcome r)).tallyAdd_tallyOnly 0x16 n r.sat
      have hcore := State.core_congr htally.cores
      exact ⟨hset.only.trans (htally.only.mono (by decide)), fun m hm => (hcore m).trans (hset.others m hm), (hcore n).trans hself⟩
    · next hint => exact ⟨.refl _ s, fun _ _ => rfl, by rw [Core.parOutcome, if_neg hop, if_neg hint]⟩

/-- The Parterre command that is next goes once its last write is visible, with its outcome in the engine. -/
theorem State.parterreComplete_eq {s : State} {n : Nat} {r : Running} (hnext : (s.core n).parNext = some r) :
    s.parterreComplete n = ((s.elapseCycles (r.doneAt - s.cyc.cycles)).parOutcome n r).retire n .parterre r := by
  unfold State.parterreComplete State.parOutcome Core.parOutcome
  simp only [hnext, State.updCore_eq]
  congr 1
  split
  · rfl
  · split <;> rfl

/-- What is left where the Parterre command that is next has gone. -/
structure ParGone (s s' : State) (n : Nat) (r : Running) : Prop where
  only : Only [.time, .cyc, .pavs, .cores, .tally] s s'
  others : OtherCores n s s'
  eng : (s'.core n).par.eng = (s.core n).par.eng.without r
  cistern : (s'.core n).par.cistern = (s.core n).par.cistern
  plot : (s'.core n).plot = (s.core n).plot
  last : (s'.core n).disp.last = r.disposition
  bed : r.cmd.op = 0x40 → (s'.core n).bed r.cmd.bed =
    { (s.core n).bed r.cmd.bed with standby := some (tileOf r.cmd (rawBytes (readyBytes r.buf))) }
  sat : r.cmd.op ≠ 0x40 → fmtInt r.cmd.fmtA = true → Sparse.find (s'.core n).par.satCount r.cmd.bed = some (min r.sat 0xFFFFFFFF)

theorem State.parterreComplete_gone {s : State} {n : Nat} {r : Running} (hnext : (s.core n).parNext = some r) :
    ParGone s (s.parterreComplete n) n r := by
  rw [State.parterreComplete_eq hnext]
  have htime := s.elapseCycles_only (r.doneAt - s.cyc.cycles)
  generalize s.elapseCycles (r.doneAt - s.cyc.cycles) = s0 at htime ⊢
  have hsame := State.core_congr (s := s) (t := s0) (by simpa using htime.cores)
  obtain ⟨honly, hothers, hcore⟩ := s0.parOutcome_spec n r
  have h := (s0.parOutcome n r).retire_retired n .parterre r
  obtain ⟨d, -, hleft⟩ := h.core
  rw [hcore, hsame] at hleft
  obtain ⟨heng, hcistern, hplot⟩ := (s.core n).parOutcome_keeps r
  exact {
    only := ((htime.mono (by decide)).trans (honly.mono (by decide))).trans (h.only.mono (by decide))
    others := fun m hm => (h.others m hm).trans ((hothers m hm).trans (hsame m))
    eng := by rw [hleft, ← heng]; rfl
    cistern := by rw [hleft, ← hcistern]; rfl
    plot := by rw [hleft, ← hplot]; rfl
    last := h.last
    bed := fun hop => by rw [hleft, ← Core.bed_parOutcome _ r hop]; rfl
    sat := fun hop hint => by rw [hleft, ← Core.satCount_parOutcome (s.core n) r hop hint]; rfl }

/-! ### LONG_COMMAND_COMPLETE -/

/-- The state after the completion of a command of engine `e`. -/
def State.longComplete (s : State) (n : Nat) : Eng → State
  | .mover => s.moverComplete n
  | .parterre => s.parterreComplete n
  | .trellis => s.trellisComplete n
  | .dice => s.portComplete n .dice
  | .rot => s.portComplete n .rot

theorem exec_longCommandComplete {s : State} (n : CoreIx) (e : Eng) (hclk : s.power.clockOn = true) :
    exec (.longCommandComplete n e) s = .next (s.longComplete n e) := by
  have h : execLongCommandComplete n e s = .next _ := State.clocked_on _ hclk
  refine Eq.trans h (congrArg _ ?_)
  cases e <;> rfl

/-- The command at the head of a Trellis or a port goes: what an engine that runs one command at a time leaves. -/
theorem exec_longCommandComplete_head {s : State} {n : CoreIx} {e : Eng} {r : Running} {rs : List Running} (hclk : s.power.clockOn = true)
    (hrun : ((s.core n).eng e).run = r :: rs) (hgoes : s.longComplete n e = s.retire n e r) :
    ∃ s', exec (.longCommandComplete n e) s = .next s' ∧ Only [.cores, .tally] s s' ∧ OtherCores n s s' ∧
      (s'.core n).eng e = { (s.core n).eng e with run := (r :: rs).filter (fun x => x.cmd.id ≠ r.cmd.id) } ∧
      (s'.core n).disp.last = r.disposition ∧ (s'.core n).plot = (s.core n).plot := by
  have h := s.retire_retired n e r
  exact ⟨_, (exec_longCommandComplete n e hclk).trans (congrArg _ hgoes), h.only, h.others, hrun ▸ h.eng, h.last, h.plot⟩

/-- Settles O14, by what each engine leaves when its command completes. -/
theorem longCommandsComplete : Obligations.LongCommandsComplete := by
  unfold Obligations.LongCommandsComplete
  intro s n r rs dsp hclk hdsp
  subst hdsp
  have hmover := exec_longCommandComplete n .mover hclk
  refine ⟨fun hrun hfin => ⟨fun hsnap => ?plain, fun p hsnap hclosing howner => ?counted, fun hgo => ?gone, fun hsnap hclosing => ?record⟩,
    fun hrun hfin => ?trellis, fun hnext => ?parterre, fun hrun hclosing hfin => ?dice, fun hrun hclosing hfin => ?rot⟩
  case plain => exact ⟨_, hmover, State.moverComplete_only hrun hfin hsnap⟩
  case counted => exact ⟨_, hmover, State.moverComplete_counts hrun hfin hsnap hclosing howner⟩
  case gone =>
    have h := State.moverComplete_gone hrun hfin hgo
    exact ⟨_, hmover, h.others, hrun ▸ h.mover, h.last, h.plot, h.oob⟩
  case record =>
    obtain ⟨r', h⟩ := State.moverComplete_records hrun hfin hsnap hclosing
    exact ⟨_, r', hmover, h⟩
  case trellis => exact exec_longCommandComplete_head (e := .trellis) hclk hrun (State.trellisComplete_eq hrun hfin)
  case parterre =>
    have h := State.parterreComplete_gone hnext
    exact ⟨_, exec_longCommandComplete n .parterre hclk, h.only, h.others, h.eng, h.cistern, h.plot, h.last,
      fun hop => ⟨(congrArg Bed.standby (h.bed hop)).trans rfl, (congrArg Bed.active (h.bed hop)).trans rfl⟩, h.sat⟩
  case dice => exact exec_longCommandComplete_head (e := .dice) hclk hrun (State.portComplete_eq (e := .dice) hrun hclosing hfin)
  case rot => exact exec_longCommandComplete_head (e := .rot) hclk hrun (State.portComplete_eq (e := .rot) hrun hclosing hfin)

end Sys2Proof.Machine
end

section
/-! PROOF. Reserved bits of MGMT_MAC refute the statement on writes of the management addresses (03 R70; 24 R626, Table 24-7). -/

namespace Sys2Proof.Machine
open Sys2Proof.Safety

/-! ### A write to MGMT_MAC with a reserved bit set

MGMT_MAC is a U64 that lists bits 47:0. Its reserved bits pass the checks of a write, are ignored and read as 0 (03 R70), so a value with bit 48
set does not read back as written. -/

/-- The row of MGMT_MAC in the object index (24 Table 24-7). -/
def mgmtMacRow : ObjInfo := ob tU64 .rws

/-- The PF0 mailbox may write 2^48 to MGMT_MAC: a U64 whose range is all of its type. -/
theorem takes_mgmtMac : Takes standbyChip .pf0 0x1200 1 8 (2 ^ 48) :=
  { serves := serves_standbyChip rfl rfl
    check := ⟨mgmtMacRow, rfl, rfl, rfl, rfl⟩ }

/-- The outcome is a next state in which MGMT_MAC holds `v`. -/
def mgmtMacHolds (v : Nat) : Host.Outcome State Fault Refusal → Bool
  | .next s => s.obj 0x1200 1 == v
  | _ => false

/-- MGMT_TRANSPORT_WRITE of 2^48, in which only a reserved bit is set, leaves MGMT_MAC 0. -/
theorem mgmtTransportWrite_mgmtMac : mgmtMacHolds 0 (exec (.mgmtTransportWrite .pf0 1 (2 ^ 48)) standbyChip) = true := by decide +kernel

/-- Refutes O44: a write of 2^48 to MGMT_MAC, an object of 64 bits that lists 48, passes every check, and the object then holds 0 and not 2^48,
as reserved bits are ignored (03 R70). -/
theorem not_unitObjects : ¬ Obligations.UnitObjects := by
  unfold Obligations.UnitObjects
  rintro ⟨-, -, htransport, -⟩
  obtain ⟨s', hexec, -, -, hheld, -⟩ := htransport standbyChip .pf0 1 (2 ^ 48) (by decide) (by decide) takes_mgmtMac (by decide)
  have hrun := mgmtTransportWrite_mgmtMac
  rw [hexec] at hrun
  have hzero : s'.obj 0x1200 1 = 0 := beq_iff_eq.1 hrun
  omega

end Sys2Proof.Machine
end

section
/-! PROOF. The Plot's address map (09 R240). -/

namespace Sys2Proof.Machine

/-- A byte of the line that bank, sub-array and row name lies where they say (09 R240). -/
theorem plotLoc_lineAddr {b j r y : Nat} (hb : b < 48) (hj : j < 4) (hy : y < 64) : plotLoc (lineAddr b j r + y) = (b, j, r) := by
  have hslot : (lineAddr b j r + y) / 256 = 48 * r + (b + 48 - r % 48) % 48 := by unfold lineAddr; omega
  have hsub : (lineAddr b j r + y) % 256 / 64 = j := by unfold lineAddr; omega
  have hrow : (48 * r + (b + 48 - r % 48) % 48) / 48 = r := by omega
  have hbank : (48 * r + (b + 48 - r % 48) % 48 + r) % 48 = b := by omega
  simp only [plotLoc, hslot, hsub, hrow, hbank]

/-- The line of an address, read back from its bank, sub-array and row. -/
theorem lineAddr_plotLoc (A : Nat) : lineAddr (plotLoc A).1 (plotLoc A).2.1 (plotLoc A).2.2 = A - A % 64 := by
  unfold plotLoc lineAddr
  dsimp only
  omega

/-- A line of a row of the Plot lies in the Plot. -/
theorem lineAddr_lt {b j r y : Nat} (hr : r < 512) (hj : j < 4) (hy : y < 64) : lineAddr b j r + y < 0x00600000 := by
  unfold lineAddr
  omega

/-- Settles O59: the map and its inverse, by division with remainder. -/
theorem plotMap : Obligations.PlotMap := by
  unfold Obligations.PlotMap
  intro A hA
  refine ⟨rfl, rfl, rfl, ?row, ?bank, ?sub, ?slot, fun B _ hloc hbyte => ?injective, fun r b j y hr hb hj hy =>
    ⟨lineAddr b j r + y, lineAddr_lt hr hj hy, plotLoc_lineAddr hb hj hy, ?byte⟩⟩
  case row | bank | sub | slot =>
    unfold plotLoc
    dsimp only
    omega
  case injective =>
    have hA' := lineAddr_plotLoc A
    have hB' := lineAddr_plotLoc B
    rw [hloc] at hB'
    have hle := Nat.mod_le A 64
    have hle' := Nat.mod_le B 64
    omega
  case byte =>
    unfold lineAddr
    omega

end Sys2Proof.Machine
end

section
/-! PROOF. A step that changes one core alone, and what the fencing of a bank or of its core leaves (09 R260; 18 R509). -/

namespace Sys2Proof.Machine
open Sys2Proof.Safety

/-! ### Bits -/

theorem bit_eq_testBit (v i : Nat) : bit v i = v.testBit i := by
  rw [Nat.testBit_eq_decide_div_mod_eq]
  rfl

/-- The bits below a bit that is 0 are all that stands below the next. -/
theorem mod_two_pow_succ_lt {v i : Nat} (h : bit v i = false) : v % 2 ^ (i + 1) < 2 ^ i := by
  have hclear : ¬ v / 2 ^ i % 2 = 1 := by simpa [bit] using h
  have hmod : v % 2 ^ (i + 1) = v % 2 ^ i + 2 ^ i * (v / 2 ^ i % 2) := by rw [pow_succ, Nat.mod_mul]
  rw [hmod, show v / 2 ^ i % 2 = 0 by omega]
  exact Nat.mod_lt v (Nat.two_pow_pos i)

/-- The power of two of a bit that is 0 adds that bit alone. -/
theorem testBit_add_two_pow {v i j : Nat} (h : bit v i = false) (hij : j ≠ i) : (v + 2 ^ i).testBit j = v.testBit j := by
  have hlow := mod_two_pow_succ_lt h
  have hpow : 2 ^ (i + 1) = 2 ^ i + 2 ^ i := by rw [pow_succ, Nat.mul_two]
  have hsplit := Nat.div_add_mod v (2 ^ (i + 1))
  generalize v / 2 ^ (i + 1) = high, v % 2 ^ (i + 1) = low at hlow hsplit
  have hsum : v + 2 ^ i = 2 ^ (i + 1) * high + (2 ^ i + low) := by omega
  rw [hsum, ← hsplit, Nat.testBit_two_pow_mul_add _ (by omega), Nat.testBit_two_pow_mul_add _ (by omega)]
  split
  · exact Nat.testBit_two_pow_add_gt (by omega) low
  · rfl

/-- Setting a bit clears no other. -/
theorem bit_setBit_of_bit {v i j : Nat} (h : bit v j = true) : bit (setBit v i true) j = true := by
  by_cases hij : j = i
  · exact hij ▸ bit_setBit_self v i
  · unfold setBit
    split
    · exact h
    · next hclear => rwa [if_pos rfl, bit_eq_testBit, testBit_add_two_pow (by simpa using hclear) hij, ← bit_eq_testBit]

theorem setBit_ne_zero (v i : Nat) : setBit v i true ≠ 0 := by
  intro h
  have hset := bit_setBit_self v i
  rw [h] at hset
  simp [bit] at hset

/-! ### One core changes -/

/-- Of the cores and the objects, the step from `s` to `t` changes core `n` alone, to `c`. -/
structure Turns (s t : State) (n : Nat) (c : Core) : Prop where
  others : OtherCores n s t
  core : t.core n = c
  objs : t.objs = s.objs

theorem Turns.refl (s : State) (n : Nat) : Turns s s n (s.core n) := ⟨fun _ _ => rfl, rfl, rfl⟩

theorem Turns.trans {s t u : State} {n : Nat} {c d : Core} (h : Turns s t n c) (g : Turns t u n d) : Turns s u n d :=
  ⟨fun m hm => (g.others m hm).trans (h.others m hm), g.core, g.objs.trans h.objs⟩

theorem Turns.setCore (s : State) (n : Nat) (c : Core) : Turns s (s.setCore n c) n c :=
  ⟨(Leaves.setCore s n c).others, s.core_setCore_self n c, rfl⟩

theorem State.setCore_only (s : State) (n : Nat) (c : Core) : Only [.cores] s (s.setCore n c) := only_iff_mask.2 (mask_cores s (by decide) _)

/-- What changes neither cores nor objects may follow. -/
theorem Turns.of_view {s t u : State} {n : Nat} {c : Core} (h : Turns s t n c) (hview : u.timeView = t.timeView) : Turns s u n c := by
  obtain ⟨-, -, hobjs, hcores, -⟩ := State.timeView_inj.1 hview
  exact ⟨fun m hm => (State.core_congr hcores m).trans (h.others m hm), (State.core_congr hcores n).trans h.core, hobjs.trans h.objs⟩

theorem Turns.of_only {s t u : State} {n : Nat} {c : Core} (h : Turns s t n c) (honly : Only [.fns, .out] t u) : Turns s u n c := by
  have hcores := State.core_congr (s := t) (t := u) (by simpa using honly.cores)
  have hobjs : u.objs = t.objs := by simpa using honly.objs
  exact ⟨fun m hm => (hcores m).trans (h.others m hm), (hcores n).trans h.core, hobjs.trans h.objs⟩

/-! ### Fences (09 R260; 18 R509) -/

@[simp] theorem State.timeView_syncChip (s : State) : s.syncChip.timeView = s.timeView := by
  unfold State.syncChip
  dsimp only
  split
  · rfl
  · split
    · exact State.timeView_raise ..
    · rfl

/-- A note in the record of fences, which is yet to be stored (18 R513). -/
theorem State.timeView_integ (s : State) (v : Integ) : ({ s with integ := v } : State).timeView = s.timeView := rfl

/-- A core with a bank fenced (09 R260). -/
def Core.fenceBank (c : Core) (bank : Nat) : Core := { c with pint := { c.pint with fenced := setBit c.pint.fenced bank true } }

theorem Core.fenceBank_of_fenced {c : Core} {bank : Nat} (h : bit c.pint.fenced bank = true) : c.fenceBank bank = c := by
  unfold Core.fenceBank setBit
  rw [if_pos h]

theorem State.fenceBank_turns (s : State) (n bank reason : Nat) : Turns s (s.fenceBank n bank reason) n ((s.core n).fenceBank bank) := by
  unfold State.fenceBank
  split
  · next h =>
    rw [Core.fenceBank_of_fenced h]
    exact .refl s n
  · exact (Turns.setCore s n _).of_view ((State.timeView_syncChip _).trans (State.timeView_logRec ..))

/-- A fenced core (18 R509). -/
def Core.fenced (c : Core) : Core :=
  { c with fence := { c.fence with st := 2, run := .none }, ctl := { c.ctl with st := .fenced, drain := .none } }

theorem State.fenceCore_turns {s : State} {n : Nat} (reason : Nat) (hst : (s.core n).fence.st ≠ 2) (hship : coreShipped n = false) :
    Turns s (s.fenceCore n reason) n (s.core n).fenced := by
  unfold State.fenceCore
  simp only [hst, hship, decide_false, Bool.or_self, Bool.false_eq_true, if_false]
  exact (Turns.setCore s n _).of_view
    ((State.timeView_syncChip _).trans ((State.timeView_raise ..).trans (State.timeView_logRec ..)))

/-- A core stays, or is fenced. -/
def Core.FencedOr (c d : Core) : Prop := d = c ∨ d = c.fenced

theorem State.fenceCore_fencedOr (s : State) (n reason : Nat) : ∃ d, Turns s (s.fenceCore n reason) n d ∧ (s.core n).FencedOr d := by
  by_cases h : ((s.core n).fence.st = 2 || coreShipped n) = true
  · refine ⟨_, ?_, .inl rfl⟩
    unfold State.fenceCore
    rw [if_pos h]
    exact .refl s n
  · simp only [Bool.or_eq_true, decide_eq_true_eq, not_or, Bool.not_eq_true] at h
    exact ⟨_, State.fenceCore_turns reason h.1 h.2, .inr rfl⟩

/-- A core that has left RUN and HALTED settles: it stays, or is fenced (18 R509). -/
theorem State.settle_fencedOr (s : State) (n : Nat) : ∃ d, Turns s (s.settle n) n d ∧ (s.core n).FencedOr d := by
  unfold State.settle
  dsimp only
  split
  · exact ⟨_, .refl s n, .inl rfl⟩
  · split
    · exact s.fenceCore_fencedOr n 1
    · split
      · exact s.fenceCore_fencedOr n _
      · exact ⟨_, .refl s n, .inl rfl⟩

/-! ### A core becomes FAULTED (04 R120; 09 R258) -/

/-- A REGION that waited changes no byte of the Plot (04 R129). -/
theorem Core.lateRegion_bytes (t : Strm) (c : Core) : (c.lateRegion t).plot.bytes = c.plot.bytes := by
  unfold Core.lateRegion
  split
  · dsimp only
    rw [Core.region_eq]
    cases t <;> rfl
  · rfl

/-- A core that has become FAULTED: its late REGIONs have taken effect, and STEP_FAILED is no longer due. -/
def Core.faulted (c : Core) : Core :=
  let d := (c.lateRegion .access).lateRegion .exec
  { d with ctl := { d.ctl with st := .faulted, drain := .none }, pint := { d.pint with stepFailed := false }, dbg := { d.dbg with single := false } }

theorem Core.faulted_keeps (c : Core) : c.faulted.ctl.st = .faulted ∧ c.faulted.pint = { c.pint with stepFailed := false } ∧
    c.faulted.fence = c.fence ∧ c.faulted.plot.bytes = c.plot.bytes := by
  obtain ⟨-, hpint, hfence, -⟩ := Core.lateRegion_keeps .exec (c.lateRegion .access)
  obtain ⟨-, hpint', hfence', -⟩ := Core.lateRegion_keeps .access c
  have hbytes := (Core.lateRegion_bytes .exec (c.lateRegion .access)).trans (Core.lateRegion_bytes .access c)
  refine ⟨rfl, ?_, hfence.trans hfence', hbytes⟩
  rw [← hpint', ← hpint]
  rfl

/-- A core becomes FAULTED, signals a failed step, and then settles (09 R258; 18 R509). -/
theorem State.becomeFaulted_settles (s : State) (n : Nat) : ∃ t, s.becomeFaulted n = t.settle n ∧ Turns s t n (s.core n).faulted ∧
    ∀ p, (s.core n).pint.stepFailed = true → s.owner n = some p → bit (t.fn (p + 1)).pending 3 = true := by
  obtain ⟨-, hpint, -⟩ := Core.lateRegion_keeps .exec ((s.core n).lateRegion .access)
  obtain ⟨-, hpint', -⟩ := Core.lateRegion_keeps .access (s.core n)
  have hset := Turns.setCore s n (s.core n).faulted
  obtain ⟨hraise, hcause⟩ := (s.setCore n (s.core n).faulted).raiseCore_spec n 3
  refine ⟨if (s.core n).pint.stepFailed then (s.setCore n (s.core n).faulted).raiseCore n 3 else s.setCore n (s.core n).faulted, ?_, ?_, ?_⟩
  · rw [← hpint', ← hpint]
    rfl
  · split
    · exact hset.of_only hraise
    · exact hset
  · intro p hfail howner
    rw [if_pos hfail]
    exact hcause p ((State.owner_congr rfl n).trans howner)

end Sys2Proof.Machine
end

section
/-! PROOF. Repair of the classified faults of a core, and the scrub that waited for it (09 R258 to R262). -/

namespace Sys2Proof.Machine
open Sys2Proof.Safety

/-! ### Zeroed lines (09 R258, R259) -/

/-- The line at address `a` zero, with its matching code. -/
def Core.zeroLine (c : Core) (a : Nat) : Core :=
  { c with plot := { c.plot with bytes := Mem.zero c.plot.bytes a 64, chk := Sparse.del c.plot.chk (a / 64) } }

theorem Core.foldl_zeroLine_eq (l : List Nat) (c : Core) : l.foldl Core.zeroLine c = { c with plot := (l.foldl Core.zeroLine c).plot } := by
  induction l generalizing c with
  | nil => rfl
  | cons a l ih =>
    rw [List.foldl_cons, ih]
    rfl

theorem Core.byte_foldl_zeroLine (l : List Nat) (c : Core) {a b : Nat} (ha : a ∈ l) (hle : a ≤ b) (hlt : b < a + 64) :
    Mem.byte (l.foldl Core.zeroLine c).plot.bytes b = 0 := by
  have hzero : ∀ d : Core, a ∈ l ∨ Mem.byte d.plot.bytes b = 0 → Mem.byte (l.foldl Core.zeroLine d).plot.bytes b = 0 := by
    clear ha
    induction l with
    | nil => exact fun d h => h.resolve_left (List.not_mem_nil)
    | cons x l ih =>
      intro d h
      rw [List.foldl_cons]
      refine ih _ ?_
      by_cases hx : x ≤ b ∧ b < x + 64
      · exact .inr ((Mem.byte_zero x 64 b).trans (if_pos hx))
      · refine h.imp (fun hmem => ?_) fun hbyte => (Mem.byte_zero x 64 b).trans ((if_neg hx).trans hbyte)
        exact (List.mem_cons.1 hmem).resolve_left fun hax => hx (hax ▸ ⟨hle, hlt⟩)
  exact hzero c (.inl ha)

/-- The addresses of the 512 lines of a sub-array (09 R240). Irreducible, so that no proof unfolds the list. -/
@[irreducible] def subLines (bank sub : Nat) : List Nat := (List.range 512).map (lineAddr bank sub)

theorem mem_subLines (bank sub : Nat) {r : Nat} (hr : r < 512) : lineAddr bank sub r ∈ subLines bank sub := by
  unfold subLines
  exact List.mem_map_of_mem (List.mem_range.2 hr)

theorem Core.zeroSub_eq (c : Core) (bank sub : Nat) :
    c.zeroSub bank sub = { c with plot := ((subLines bank sub).foldl Core.zeroLine c).plot } := by
  rw [← Core.foldl_zeroLine_eq]
  unfold subLines
  rw [List.foldl_map]
  rfl

/-! ### One repair (09 R259, R260) -/

/-- A core whose usable spares are known: those of a bank that fail its sentinels no longer count (09 R259, R261). -/
def Core.spareFails (c : Core) (bank : Nat) : Core := { c with pint := c.pint.spareFails bank }

theorem Core.bit_fenced_spareFails {c : Core} (h : c.pint.fenced = 0) (bank : Nat) : bit (c.spareFails bank).pint.fenced bank = false := by
  have hsame : (c.spareFails bank).pint.fenced = 0 := h
  simp [hsame, bit]

/-- The column of a fault steered to spare `i`, its sub-array zero (09 R259). -/
def Core.steer (c : Core) (x : Suspect) (i : Nat) : Core :=
  { c with
    plot := ((subLines x.bank x.sub).foldl Core.zeroLine c).plot
    pint := { c.pint with
      spares := Sparse.put c.pint.spares (4 * x.bank + x.sub) (setBit (Sparse.getD c.pint.spares (4 * x.bank + x.sub) 0) i true)
      repairs := c.pint.repairs ++ [{ bank := x.bank, sub := x.sub, column := x.column, spare := i }] } }

theorem Core.byte_steer (c : Core) (x : Suspect) (i : Nat) {r k : Nat} (hr : r < 512) (hk : k < 64) :
    Mem.byte (c.steer x i).plot.bytes (lineAddr x.bank x.sub r + k) = 0 :=
  Core.byte_foldl_zeroLine _ c (mem_subLines _ _ hr) (by omega) (by omega)

section
variable {s : State} {n : Nat} {x : Suspect}

theorem State.repairColumn_skips (h : bit (s.core n).pint.fenced x.bank = true ∨ x.stage = 3) : s.repairColumn n x = s := by
  unfold State.repairColumn
  exact if_pos (by simpa using h)

variable (hfenced : bit (s.core n).pint.fenced x.bank = false) (hstage : x.stage ≠ 3)
include hfenced hstage

/-- Without a usable spare the bank is fenced (09 R260). -/
theorem State.repairColumn_fences (hnone : (s.core n).pint.nextSpare (4 * x.bank + x.sub) = none) :
    Turns s (s.repairColumn n x) n ((s.core n).fenceBank x.bank) := by
  unfold State.repairColumn
  simp only [hfenced, hstage, decide_false, Bool.or_self, Bool.false_eq_true, if_false, hnone]
  exact s.fenceBank_turns n x.bank 0

/-- With one the column is steered to the lowest (09 R259). -/
theorem State.repairColumn_steers {i : Nat} (hspare : (s.core n).pint.nextSpare (4 * x.bank + x.sub) = some i) :
    Turns s (s.repairColumn n x) n ((s.core n).steer x i) := by
  unfold State.repairColumn
  simp only [hfenced, hstage, decide_false, Bool.or_self, Bool.false_eq_true, if_false, hspare, State.updCore_eq]
  generalize hlog : (s.setCore n ((s.core n).zeroSub x.bank x.sub)).logRec _ _ _ _ _ = t
  have hzero := (Turns.setCore s n ((s.core n).zeroSub x.bank x.sub)).of_view (u := t) (hlog ▸ State.timeView_logRec ..)
  have hcore := hzero.core
  rw [hcore, Core.zeroSub_eq]
  exact (hzero.trans (Turns.setCore t n _)).of_view (State.timeView_integ ..)

end

/-! ### Every repair of a core (09 R258 to R261) -/

/-- The fault of `x` has been dealt with: its column is steered, or its bank fenced. -/
def PlotInt.Mended (p : PlotInt) (x : Suspect) : Prop :=
  bit p.fenced x.bank = true ∨ ∃ y ∈ p.repairs, y.bank = x.bank ∧ y.sub = x.sub ∧ y.column = x.column

/-- Repairs take `c` to `d`: steered columns and fenced banks stay so, and control core, fence state and faults are the same. -/
structure Core.Mends (c d : Core) : Prop where
  ctl : d.ctl = c.ctl
  fence : d.fence = c.fence
  fenced : ∀ b, bit c.pint.fenced b = true → bit d.pint.fenced b = true
  repairs : c.pint.repairs ⊆ d.pint.repairs

theorem Core.Mends.refl (c : Core) : c.Mends c := ⟨rfl, rfl, fun _ h => h, fun _ h => h⟩

theorem Core.Mends.trans {c d e : Core} (h : c.Mends d) (g : d.Mends e) : c.Mends e :=
  ⟨g.ctl.trans h.ctl, g.fence.trans h.fence, fun b hb => g.fenced b (h.fenced b hb), fun _ hx => g.repairs (h.repairs hx)⟩

theorem Core.Mends.mended {c d : Core} (h : c.Mends d) {x : Suspect} (hx : c.pint.Mended x) : d.pint.Mended x :=
  hx.imp (h.fenced x.bank) fun ⟨y, hy, hcolumn⟩ => ⟨y, h.repairs hy, hcolumn⟩

theorem Core.mends_spareFails (c : Core) (bank : Nat) : c.Mends (c.spareFails bank) := ⟨rfl, rfl, fun _ h => h, fun _ h => h⟩

theorem Core.mends_fenceBank (c : Core) (bank : Nat) : c.Mends (c.fenceBank bank) :=
  ⟨rfl, rfl, fun _ h => bit_setBit_of_bit h, fun _ h => h⟩

theorem Core.mends_steer (c : Core) (x : Suspect) (i : Nat) : c.Mends (c.steer x i) :=
  ⟨rfl, rfl, fun _ h => h, List.subset_append_left ..⟩

/-- One fault, with the spares that pass both sentinels. -/
def State.repairStep (s : State) (n : Nat) (x : Suspect) : State := (s.updCore n (·.spareFails x.bank)).repairColumn n x

theorem State.repairStep_mends (s : State) (n : Nat) (x : Suspect) :
    ∃ d, Turns s (s.repairStep n x) n d ∧ (s.core n).Mends d ∧ (x.stage ≠ 3 → d.pint.Mended x) := by
  unfold State.repairStep
  have hspares := Turns.setCore s n ((s.core n).spareFails x.bank)
  have hmends := (s.core n).mends_spareFails x.bank
  rw [State.updCore_eq]
  generalize s.setCore n ((s.core n).spareFails x.bank) = t at hspares ⊢
  generalize (s.core n).spareFails x.bank = c at hspares hmends
  obtain rfl := hspares.core
  by_cases hskip : bit (t.core n).pint.fenced x.bank = true ∨ x.stage = 3
  · rw [State.repairColumn_skips hskip]
    exact ⟨_, hspares, hmends, fun hstage => .inl (hskip.resolve_right hstage)⟩
  rw [not_or, Bool.not_eq_true] at hskip
  obtain ⟨hfenced, hstage⟩ := hskip
  cases hnext : (t.core n).pint.nextSpare (4 * x.bank + x.sub) with
  | none => exact ⟨_, hspares.trans (State.repairColumn_fences hfenced hstage hnext), hmends.trans (Core.mends_fenceBank ..),
      fun _ => .inl (bit_setBit_self ..)⟩
  | some i => exact ⟨_, hspares.trans (State.repairColumn_steers hfenced hstage hnext), hmends.trans (Core.mends_steer ..),
      fun _ => .inr ⟨_, List.mem_append_right _ (List.mem_singleton_self _), rfl, rfl, rfl⟩⟩

theorem State.foldl_repairStep_mends (n : Nat) (l : List Suspect) (s : State) :
    ∃ d, Turns s (l.foldl (·.repairStep n ·) s) n d ∧ (s.core n).Mends d ∧ ∀ x ∈ l, x.stage ≠ 3 → d.pint.Mended x := by
  induction l generalizing s with
  | nil => exact ⟨_, .refl s n, .refl _, nofun⟩
  | cons x l ih =>
    obtain ⟨c, hturn, hmends, hmended⟩ := s.repairStep_mends n x
    obtain ⟨d, hturns, hmends', hmended'⟩ := ih (s.repairStep n x)
    rw [hturn.core] at hmends'
    refine ⟨d, hturn.trans hturns, hmends.trans hmends', fun y hy hstage => ?_⟩
    rcases List.mem_cons.1 hy with rfl | hy
    · exact hmends'.mended (hmended hstage)
    · exact hmended' y hy hstage

/-! ### Each column once -/

/-- `y` is a column fault in the same column as `x`. -/
def Suspect.Covers (y x : Suspect) : Prop := y.bank = x.bank ∧ y.sub = x.sub ∧ y.column = x.column ∧ y.stage ≠ 3

theorem PlotInt.Mended.of_covers {p : PlotInt} {x y : Suspect} (h : p.Mended y) (hcov : y.Covers x) : p.Mended x := by
  obtain ⟨hbank, hsub, hcolumn, -⟩ := hcov
  unfold PlotInt.Mended at h ⊢
  rwa [hbank, hsub, hcolumn] at h

/-- A fault is added to a list unless one of its column stands there. -/
def addOnce (a : List Suspect) (x : Suspect) : List Suspect :=
  if a.any (fun y => y.bank = x.bank && y.sub = x.sub && y.column = x.column && y.stage ≠ 3 && x.stage ≠ 3) then a else a ++ [x]

theorem onceEach_eq (l : List Suspect) : onceEach l = l.foldl addOnce [] := rfl

theorem subset_addOnce (a : List Suspect) (x : Suspect) : a ⊆ addOnce a x := by
  unfold addOnce
  split
  · exact List.Subset.refl a
  · exact List.subset_append_left ..

theorem exists_covers_addOnce (a : List Suspect) {x : Suspect} (hstage : x.stage ≠ 3) : ∃ y ∈ addOnce a x, y.Covers x := by
  unfold addOnce
  split
  · next h =>
    obtain ⟨y, hy, hcov⟩ := List.any_eq_true.1 h
    simp only [Bool.and_eq_true, decide_eq_true_eq, and_assoc] at hcov
    obtain ⟨hbank, hsub, hcolumn, hstage, -⟩ := hcov
    exact ⟨y, hy, hbank, hsub, hcolumn, hstage⟩
  · exact ⟨x, List.mem_append_right _ (List.mem_singleton_self x), rfl, rfl, rfl, hstage⟩

/-- Every column fault of a list is covered by one that is kept. -/
theorem exists_covers_onceEach {l : List Suspect} {x : Suspect} (hx : x ∈ l) (hstage : x.stage ≠ 3) : ∃ y ∈ onceEach l, y.Covers x := by
  have hfold : ∀ a : List Suspect, (∃ y ∈ a, y.Covers x) ∨ x ∈ l → ∃ y ∈ l.foldl addOnce a, y.Covers x := by
    clear hx
    induction l with
    | nil => exact fun a h => h.resolve_right List.not_mem_nil
    | cons z l ih =>
      refine fun a h => ih (addOnce a z) ?_
      rcases h with ⟨y, hy, hcov⟩ | h
      · exact .inl ⟨y, subset_addOnce a z hy, hcov⟩
      · rcases List.mem_cons.1 h with rfl | h
        · exact .inl (exists_covers_addOnce a hstage)
        · exact .inr h
  rw [onceEach_eq]
  exact hfold [] (.inr hx)

/-! ### PLOT_REPAIR_COMPLETE (09 R258 to R261) -/

/-- A core with no fault left to deal with. -/
def Core.unsuspect (c : Core) : Core := { c with pint := { c.pint with suspects := [] } }

/-- The state with the faults of core `n` repaired or their banks fenced. -/
def State.repaired (s : State) (n : Nat) : State :=
  ((onceEach (s.core n).pint.suspects).foldl (·.repairStep n ·) s).updCore n (·.unsuspect)

/-- The core whose faults have been dealt with becomes FAULTED or settles (09 R258). -/
def State.resume (s : State) (n : Nat) : State :=
  let k := s.core n
  if k.ctl.drain = .fault then (s.setCore n k.dropQueues).becomeFaulted n
  else if k.pint.stepFailed && k.ctl.drain = .none then
    ((s.setCore n { k with pint := { k.pint with stepFailed := false } }).raiseCore n 3).settle n
  else s.settle n

theorem exec_plotRepairComplete {s : State} {n : CoreIx} (hsome : (s.core n).pint.suspects ≠ [])
    (hall : ∀ x ∈ (s.core n).pint.suspects, x.stage ≠ 0) (hdone : (s.core n).ctl.drain = .none ∨ (s.core n).drained = true)
    (hclk : s.power.clockOn = true) : exec (.plotRepairComplete n) s = .next ((s.repaired n).resume n) := by
  refine (State.clocked_on _ hclk : execPlotRepairComplete n s = _).trans (congrArg _ (if_neg ?_))
  rcases hdone with hdone | hdone <;> simpa [hsome, hdone] using hall

theorem State.repaired_mends (s : State) (n : Nat) : ∃ d, Turns s (s.repaired n) n d.unsuspect ∧ (s.core n).Mends d ∧
    ∀ x ∈ (s.core n).pint.suspects, x.stage ≠ 3 → d.pint.Mended x := by
  obtain ⟨d, hturn, hmends, hmended⟩ := State.foldl_repairStep_mends n (onceEach (s.core n).pint.suspects) s
  refine ⟨d, ?_, hmends, fun x hx hstage => ?_⟩
  · obtain rfl := hturn.core
    exact hturn.trans (Turns.setCore _ n _)
  · obtain ⟨y, hy, hcov⟩ := exists_covers_onceEach hx hstage
    exact (hmended y hy hcov.2.2.2).of_covers hcov

/-- At the end of a fault drain the core becomes FAULTED, signals a failed step, and settles. -/
theorem State.resume_faulted {s : State} {n : Nat} (hdrain : (s.core n).ctl.drain = .fault) :
    ∃ t, s.resume n = t.settle n ∧ Turns s t n (s.core n).dropQueues.faulted ∧
      ∀ p, (s.core n).pint.stepFailed = true → s.owner n = some p → bit (t.fn (p + 1)).pending 3 = true := by
  have hset := Turns.setCore s n (s.core n).dropQueues
  obtain ⟨t, hsettle, hturn, hcause⟩ := (s.setCore n (s.core n).dropQueues).becomeFaulted_settles n
  rw [hset.core] at hturn hcause
  refine ⟨t, ?_, hset.trans hturn, fun p hfail howner => hcause p hfail ((State.owner_congr rfl n).trans howner)⟩
  unfold State.resume
  rw [if_pos hdrain, hsettle]

theorem Core.FencedOr.keeps {c d : Core} (h : c.FencedOr d) : d.pint = c.pint ∧ (d.ctl.st = c.ctl.st ∨ d.ctl.st = .fenced) := by
  rcases h with rfl | rfl
  · exact ⟨rfl, .inl rfl⟩
  · exact ⟨rfl, .inr rfl⟩

/-- However the core goes on, the repairs, the fenced banks and the faults to deal with stand. -/
theorem State.resume_spec (s : State) (n : Nat) : ∃ d b, Turns s (s.resume n) n d ∧ d.pint = { (s.core n).pint with stepFailed := b } ∧
    ((s.core n).ctl.drain = .fault → d.ctl.st = .faulted ∨ d.ctl.st = .fenced) := by
  by_cases hdrain : (s.core n).ctl.drain = .fault
  · obtain ⟨t, hsettle, hturn, -⟩ := State.resume_faulted hdrain
    obtain ⟨d, hsettled, hd⟩ := t.settle_fencedOr n
    obtain ⟨hst, hpint, -⟩ := (s.core n).dropQueues.faulted_keeps
    rw [hturn.core] at hd
    obtain ⟨hdpint, hdst⟩ := hd.keeps
    rw [hst] at hdst
    exact ⟨d, false, hsettle ▸ hturn.trans hsettled, hdpint.trans hpint, fun _ => hdst⟩
  unfold State.resume
  simp only [hdrain, if_false, false_implies, and_true]
  split
  · obtain ⟨hraise, -⟩ := (s.setCore n { s.core n with pint := { (s.core n).pint with stepFailed := false } }).raiseCore_spec n 3
    have hturn := (Turns.setCore s n _).of_only hraise
    obtain ⟨d, hsettled, hd⟩ := State.settle_fencedOr (State.raiseCore _ n 3) n
    rw [hturn.core] at hd
    exact ⟨d, false, hturn.trans hsettled, hd.keeps.1⟩
  · obtain ⟨d, hsettled, hd⟩ := s.settle_fencedOr n
    exact ⟨d, (s.core n).pint.stepFailed, hsettled, hd.keeps.1⟩

/-- The repair of a core's faults leaves none, each column steered or its bank fenced. -/
theorem plotRepairComplete_mends {s : State} {n : CoreIx} (hsome : (s.core n).pint.suspects ≠ [])
    (hall : ∀ x ∈ (s.core n).pint.suspects, x.stage ≠ 0) (hdone : (s.core n).ctl.drain = .none ∨ (s.core n).drained = true)
    (hclk : s.power.clockOn = true) : ∃ s', exec (.plotRepairComplete n) s = .next s' ∧ OtherCores n s s' ∧
      (s'.core n).pint.suspects = [] ∧ (∀ x ∈ (s.core n).pint.suspects, x.stage ≠ 3 → (s'.core n).pint.Mended x) ∧
      ((s.core n).ctl.drain = .fault → (s'.core n).ctl.st = .faulted ∨ (s'.core n).ctl.st = .fenced) := by
  obtain ⟨c, hturn, hmends, hmended⟩ := s.repaired_mends n
  obtain ⟨d, b, hresumed, hpint, hst⟩ := (s.repaired n).resume_spec n
  rw [hturn.core] at hpint hst
  refine ⟨_, exec_plotRepairComplete hsome hall hdone hclk, (hturn.trans hresumed).others, ?_⟩
  rw [hresumed.core, hpint]
  exact ⟨rfl, hmended, fun hdrain => hst (hmends.ctl ▸ hdrain)⟩

/-! ### The repair of a single fault (09 R259, R260) -/

theorem State.settle_fences {s : State} {n : Nat} (hst : (s.core n).ctl.st = .faulted) (hfenced : (s.core n).pint.fenced ≠ 0)
    (hnone : (s.core n).pint.suspects = []) : s.settle n = s.fenceCore n 1 := by
  unfold State.settle
  simp [hst, hfenced, hnone]

section
variable {s : State} {n : CoreIx} {x : Suspect} (hsus : (s.core n).pint.suspects = [x])
include hsus

/-- A single fault is one repair. -/
theorem State.repaired_single {d : Core} (hrepair : Turns (s.setCore n ((s.core n).spareFails x.bank))
    ((s.setCore n ((s.core n).spareFails x.bank)).repairColumn n x) n d) : Turns s (s.repaired n) n d.unsuspect := by
  obtain rfl := hrepair.core
  unfold State.repaired
  rw [hsus]
  exact ((Turns.setCore ..).trans hrepair).trans (Turns.setCore ..)

variable (hstage : x.stage = 1 ∨ x.stage = 2) (hdrain : (s.core n).ctl.drain = .fault) (hdone : (s.core n).drained = true)
  (hclk : s.power.clockOn = true)
include hstage hdrain hdone hclk

/-- What the repair `d` of a single fault leads to: the core becomes FAULTED with its step signalled, and settles. -/
theorem exec_plotRepairComplete_single {d : Core} (hmends : ((s.core n).spareFails x.bank).Mends d)
    (hrepair : ∀ t : State, t.core n = (s.core n).spareFails x.bank → Turns t (t.repairColumn n x) n d) :
    ∃ t k, exec (.plotRepairComplete n) s = .next (t.settle n) ∧ Turns s t n k ∧ k.ctl.st = .faulted ∧
      k.pint = { d.pint with suspects := [], stepFailed := false } ∧ k.fence = (s.core n).fence ∧ k.plot.bytes = d.plot.bytes ∧
      ∀ p, d.pint.stepFailed = true → s.owner n = some p → bit (t.fn (p + 1)).pending 3 = true := by
  have hturn := State.repaired_single hsus (hrepair _ (State.core_setCore_self ..))
  have hd : ((s.repaired n).core n).ctl.drain = .fault := by
    rw [hturn.core]
    exact (congrArg (·.drain) hmends.ctl).trans hdrain
  obtain ⟨t, hresume, hfaulted, hcause⟩ := State.resume_faulted hd
  rw [hturn.core] at hfaulted hcause
  obtain ⟨hst, hpint, hfence, hbytes⟩ := d.unsuspect.dropQueues.faulted_keeps
  refine ⟨t, _, ?_, hturn.trans hfaulted, hst, hpint, hfence.trans hmends.fence, hbytes,
    fun p hfail howner => hcause p hfail ((State.owner_congr hturn.objs n).trans howner)⟩
  rw [← hresume]
  refine exec_plotRepairComplete ?_ ?_ (.inr hdone) hclk
  · simp [hsus]
  · simp only [hsus, List.mem_singleton, forall_eq]
    omega

variable (hfenced : (s.core n).pint.fenced = 0) (hst : (s.core n).fence.st = 0)
include hfenced hst

/-- A usable spare takes over the column, and the core is FAULTED. -/
theorem plotRepairComplete_steers {i : Nat} (hspare : ((s.core n).pint.spareFails x.bank).nextSpare (4 * x.bank + x.sub) = some i) :
    ∃ s', exec (.plotRepairComplete n) s = .next s' ∧ OtherCores n s s' ∧ (s'.core n).ctl.st = .faulted ∧ (s'.core n).pint.suspects = [] ∧
      (s'.core n).pint.repairs = (s.core n).pint.repairs ++ [{ bank := x.bank, sub := x.sub, column := x.column, spare := i }] ∧
      (∀ r k, r < 512 → k < 64 → Mem.byte (s'.core n).plot.bytes (lineAddr x.bank x.sub r + k) = 0) ∧
      ∀ p, (s.core n).pint.stepFailed = true → s.owner n = some p → bit (s'.fn (p + 1)).pending 3 = true := by
  obtain ⟨t, k, hexec, hturn, hfst, hpint, hfence, hbytes, hcause⟩ := exec_plotRepairComplete_single hsus hstage hdrain hdone hclk
    (Core.mends_steer _ x i)
    fun t ht => ht ▸ State.repairColumn_steers (ht ▸ Core.bit_fenced_spareFails hfenced x.bank) (by omega) (ht ▸ hspare)
  obtain rfl := hturn.core
  have hnone : (t.core n).pint.fenced = 0 := by
    rw [hpint]
    exact hfenced
  rw [State.settle_sound (hfence ▸ hst) hnone] at hexec
  refine ⟨t, hexec, hturn.others, hfst, by rw [hpint], by rw [hpint]; rfl, fun r k hr hk => ?_, hcause⟩
  rw [hbytes]
  exact Core.byte_steer _ x i hr hk

/-- Without one its bank is fenced, and with it the core. -/
theorem plotRepairComplete_fences (hship : coreShipped n = false)
    (hnone : ((s.core n).pint.spareFails x.bank).nextSpare (4 * x.bank + x.sub) = none) :
    ∃ s', exec (.plotRepairComplete n) s = .next s' ∧ OtherCores n s s' ∧ bit (s'.core n).pint.fenced x.bank = true ∧
      (s'.core n).ctl.st = .fenced ∧ (s'.core n).fence.st = 2 ∧ (s'.core n).plot.bytes = (s.core n).plot.bytes := by
  obtain ⟨t, k, hexec, hturn, hfst, hpint, hfence, hbytes, -⟩ := exec_plotRepairComplete_single hsus hstage hdrain hdone hclk
    (Core.mends_fenceBank _ x.bank)
    fun t ht => ht ▸ State.repairColumn_fences (ht ▸ Core.bit_fenced_spareFails hfenced x.bank) (by omega) (ht ▸ hnone)
  obtain rfl := hturn.core
  have hbank : (t.core n).pint.fenced = setBit (s.core n).pint.fenced x.bank true := by
    rw [hpint]
    rfl
  have hsettle := State.settle_fences hfst (by rw [hbank]; exact setBit_ne_zero _ _) (by rw [hpint])
  have hcore := State.fenceCore_turns (s := t) (n := n) 1 (by rw [hfence, hst]; decide) hship
  refine ⟨_, hexec.trans (congrArg _ hsettle), (hturn.trans hcore).others, ?_⟩
  rw [hcore.core]
  exact ⟨(congrArg (bit · x.bank) hbank).trans (bit_setBit_self ..), rfl, rfl, hbytes⟩

end

/-! ### PLOT_SCRUB_DONE (09 R262, R268) -/

/-- A scrub that waited takes effect once no fault is left to deal with. -/
theorem exec_plotScrubDone {s : State} {n : CoreIx} (hpending : (s.core n).pint.scrubPending = true) (hsus : (s.core n).pint.suspects = [])
    (hclk : s.power.clockOn = true) : exec (.plotScrubDone n) s = .next (s.setCore n (s.core n).scrub) := by
  refine (State.clocked_on _ hclk : execPlotScrubDone n s = _).trans (congrArg _ (if_pos ?_))
  simp [hpending, hsus]

end Sys2Proof.Machine
end

section
/-! PROOF. Classification of the bank of a detection (09 R257, R258), and the statement on the repairs of a Plot. -/

namespace Sys2Proof.Machine
open Sys2Proof.Safety

/-! ### The sweep of the bank (09 R257, R258) -/

/-- The detections of a bank that are yet to be classified. -/
def PlotInt.unclassified (p : PlotInt) (bank : Nat) : List Suspect := p.suspects.filter (fun x => x.bank = bank && x.stage = 0)

/-- Of these, the lines to be tested: their sub-array shows no column fault. -/
def PlotInt.toTest (p : PlotInt) (bank : Nat) : List Suspect :=
  (p.unclassified bank).filter (fun x => !(p.columnFaults' bank).any (fun f => f.sub = x.sub))

/-- What the sweep of a bank leaves: the column faults it has found in place of its detections. -/
def PlotInt.swept (p : PlotInt) (bank : Nat) : PlotInt :=
  let fs := p.columnFaults' bank
  { p.spareFails bank with
    suspects := p.suspects.filter (fun x => !(x.bank = bank && x.stage = 0)) ++ fs
    columnFaults := (p.columnFaults + fs.length) % 2 ^ 32
    last := fs.foldl (fun v f => relabel v bank f.sub none 1 f.column) p.last }

/-- A core with a bank swept. -/
def Core.swept (c : Core) (bank : Nat) : Core := { c with pint := c.pint.swept bank }

/-- The state with the bank swept and its other lines tested. -/
def State.classify (s : State) (n bank : Nat) : State :=
  ((s.core n).pint.toTest bank).foldl (·.testLine n ·) (s.setCore n ((s.core n).swept bank))

theorem exec_plotClassify {s : State} {n : CoreIx} {bank : Fin 48} (hmine : (s.core n).pint.unclassified bank ≠ [])
    (hdone : (s.core n).ctl.drain = .none ∨ (s.core n).drained = true) (hclk : s.power.clockOn = true) :
    exec (.plotClassify n bank) s = .next (s.classify n bank) := by
  refine (State.clocked_on _ hclk : execPlotClassify n bank s = _).trans (congrArg _ (if_neg ?_))
  change ¬(((s.core n).pint.unclassified bank).isEmpty || _) = true
  rcases hdone with hdone | hdone <;> simpa [hdone] using hmine

theorem PlotInt.stage_of_mem_columnFaults' {p : PlotInt} {bank : Nat} {x : Suspect} (hx : x ∈ p.columnFaults' bank) : x.stage = 1 := by
  unfold PlotInt.columnFaults' at hx
  rw [List.mem_eraseDups, List.mem_filterMap] at hx
  obtain ⟨y, -, hy⟩ := hx
  obtain ⟨k, -, rfl⟩ := Option.map_eq_some_iff.1 hy
  rfl

/-! ### The test of a line (09 R258) -/

/-- What the test of a line finds: a cell fault, to be steered like a column, or a soft error. -/
def PlotInt.tested (p : PlotInt) (x : Suspect) : Suspect :=
  match p.cellFault x with
  | some k => { x with stage := 2, column := k }
  | none => { x with stage := 3 }

/-! A test reads only what is broken and what is steered. -/

theorem PlotInt.cellFault_congr {p q : PlotInt} (hbroken : q.broken = p.broken) (hrepairs : q.repairs = p.repairs) (x : Suspect) :
    q.cellFault x = p.cellFault x := by
  unfold PlotInt.cellFault PlotInt.brokenAt PlotInt.serves PlotInt.spareOf
  rw [hbroken, hrepairs]

theorem PlotInt.tested_congr {p q : PlotInt} (hbroken : q.broken = p.broken) (hrepairs : q.repairs = p.repairs) : q.tested = p.tested := by
  funext x
  unfold PlotInt.tested
  rw [PlotInt.cellFault_congr hbroken hrepairs]

theorem PlotInt.cellFault_swept (p : PlotInt) (bank : Nat) (x : Suspect) : (p.swept bank).cellFault x = p.cellFault x :=
  PlotInt.cellFault_congr rfl rfl x

theorem PlotInt.tested_swept (p : PlotInt) (bank : Nat) : (p.swept bank).tested = p.tested := PlotInt.tested_congr rfl rfl

/-- Tests take core `c` to `d`, with the faults `xs` found: the control core is the same, and so is what is broken and steered. -/
structure Core.Tests (c d : Core) (xs : List Suspect) : Prop where
  ctl : d.ctl = c.ctl
  suspects : d.pint.suspects = c.pint.suspects ++ xs
  broken : d.pint.broken = c.pint.broken
  repairs : d.pint.repairs = c.pint.repairs

theorem Core.Tests.tested {c d : Core} {xs : List Suspect} (h : c.Tests d xs) : d.pint.tested = c.pint.tested :=
  PlotInt.tested_congr h.broken h.repairs

theorem Core.Tests.trans {c d e : Core} {xs ys : List Suspect} (h : c.Tests d xs) (g : d.Tests e ys) : c.Tests e (xs ++ ys) where
  ctl := g.ctl.trans h.ctl
  suspects := by rw [g.suspects, h.suspects, List.append_assoc]
  broken := g.broken.trans h.broken
  repairs := g.repairs.trans h.repairs

/-- A core with one more fault to deal with. -/
def Core.addSuspect (c : Core) (x : Suspect) : Core := { c with pint := { c.pint with suspects := c.pint.suspects ++ [x] } }

/-- A core with a soft error found in a line: the line is zeroed, and the error counted for the core and its bank (09 R258, R260). -/
def Core.softFault (c : Core) (x : Suspect) : Core :=
  { c.zeroLine (lineAddr x.bank x.sub x.row) with
    pint := { c.pint with
      suspects := c.pint.suspects ++ [{ x with stage := 3 }]
      softFaults := (c.pint.softFaults + 1) % 2 ^ 32
      softBank := Sparse.put c.pint.softBank x.bank (Sparse.getD c.pint.softBank x.bank 0 + 1)
      last := relabel c.pint.last x.bank x.sub (some x.row) 3 0x3FF } }

/-- A core with a cell fault found in a line. -/
def Core.cellFault (c : Core) (x : Suspect) (column : Nat) : Core :=
  { c with pint := { c.pint with
      suspects := c.pint.suspects ++ [{ x with stage := 2, column := column }]
      columnFaults := (c.pint.columnFaults + 1) % 2 ^ 32
      last := relabel c.pint.last x.bank x.sub (some x.row) 2 column } }

/-- A cell fault is counted as a column fault, and the Plot stands (09 R258). -/
theorem Core.cellFault_spec (c : Core) (x : Suspect) (k : Nat) :
    (c.cellFault x k).pint.suspects = c.pint.suspects ++ [{ x with stage := 2, column := k }] ∧
    (c.cellFault x k).plot = c.plot ∧ (c.cellFault x k).pint.columnFaults = (c.pint.columnFaults + 1) % 2 ^ 32 := ⟨rfl, rfl, rfl⟩

/-- A soft error is counted; its line is zero and good, and every other byte stands (09 R258). -/
theorem Core.softFault_spec (c : Core) (x : Suspect) : (c.softFault x).pint.suspects = c.pint.suspects ++ [{ x with stage := 3 }] ∧
    (c.softFault x).pint.softFaults = (c.pint.softFaults + 1) % 2 ^ 32 ∧
    Sparse.find (c.softFault x).plot.chk (lineAddr x.bank x.sub x.row / 64) = none ∧
    ∀ a, Mem.byte (c.softFault x).plot.bytes a =
      if lineAddr x.bank x.sub x.row ≤ a ∧ a < lineAddr x.bank x.sub x.row + 64 then 0 else Mem.byte c.plot.bytes a :=
  ⟨rfl, rfl, (Sparse.find_del ..).trans (if_pos rfl), Mem.byte_zero _ 64⟩

section
variable {s : State} {n : Nat} {x : Suspect}

theorem State.testLine_cell {k : Nat} (hcell : (s.core n).pint.cellFault x = some k) :
    s.testLine n x = s.setCore n ((s.core n).cellFault x k) := by
  unfold State.testLine
  simp only [hcell]
  rfl

/-- A count of `m` soft errors has reached the limit (09 R260). -/
def State.softLimit (s : State) (m : Nat) : Bool := s.obj 0x2100 2 ≠ 0 && decide (s.obj 0x2100 2 ≤ m)

/-- A soft error is counted, and at the limit its bank is fenced. -/
theorem State.testLine_soft (hcell : (s.core n).pint.cellFault x = none) : ∃ t, Only [.cores] s t ∧
    Turns s t n ((s.core n).softFault x) ∧
    s.testLine n x = if s.softLimit (Sparse.getD (s.core n).pint.softBank x.bank 0 + 1) then t.fenceBank n x.bank 1 else t := by
  have hadded := Turns.setCore s n ((s.core n).addSuspect { x with stage := 3 })
  have honly := s.setCore_only n ((s.core n).addSuspect { x with stage := 3 })
  have htest : s.testLine n x = (s.setCore n ((s.core n).addSuspect { x with stage := 3 })).softFault n x := by
    unfold State.testLine
    simp only [hcell]
    rfl
  have hlimit : (s.setCore n ((s.core n).addSuspect { x with stage := 3 })).softLimit = s.softLimit := rfl
  rw [htest, ← hlimit]
  generalize s.setCore n ((s.core n).addSuspect { x with stage := 3 }) = t at hadded honly ⊢
  refine ⟨t.setCore n ((s.core n).softFault x), honly.trans (State.setCore_only ..), hadded.trans (Turns.setCore ..), ?_⟩
  have hcount : Sparse.getD ((t.setCore n ((s.core n).softFault x)).core n).pint.softBank x.bank 0 =
      Sparse.getD (s.core n).pint.softBank x.bank 0 + 1 := by
    rw [State.core_setCore_self]
    exact Sparse.getD_put_self ..
  rw [← hcount]
  unfold State.softFault
  simp only [State.updCore_eq, hadded.core]
  rfl

end

theorem PlotInt.stage_tested (p : PlotInt) (x : Suspect) : (p.tested x).stage ≠ 0 := by
  unfold PlotInt.tested
  split <;> simp

theorem Core.tests_softFault {c : Core} {x : Suspect} (hcell : c.pint.cellFault x = none) : c.Tests (c.softFault x) [c.pint.tested x] := by
  refine ⟨rfl, ?_, rfl, rfl⟩
  unfold PlotInt.tested
  rw [hcell]
  rfl

theorem Core.tests_cellFault {c : Core} {x : Suspect} {k : Nat} (hcell : c.pint.cellFault x = some k) :
    c.Tests (c.cellFault x k) [c.pint.tested x] := by
  refine ⟨rfl, ?_, rfl, rfl⟩
  unfold PlotInt.tested
  rw [hcell]
  rfl

/-- The fence of a bank is no test's finding. -/
theorem Core.Tests.fenceBank {c d : Core} {xs : List Suspect} (h : c.Tests d xs) (bank : Nat) : c.Tests (d.fenceBank bank) xs :=
  ⟨h.ctl, h.suspects, h.broken, h.repairs⟩

theorem State.testLine_tests (s : State) (n : Nat) (x : Suspect) :
    ∃ d, Turns s (s.testLine n x) n d ∧ (s.core n).Tests d [(s.core n).pint.tested x] := by
  cases hcell : (s.core n).pint.cellFault x with
  | some k => exact ⟨_, State.testLine_cell hcell ▸ Turns.setCore .., Core.tests_cellFault hcell⟩
  | none =>
    obtain ⟨t, -, hturn, htest⟩ := State.testLine_soft hcell
    rw [htest]
    have hd := Core.tests_softFault hcell
    rw [← hturn.core] at hd
    split
    · exact ⟨_, hturn.trans (t.fenceBank_turns n x.bank 1), hd.fenceBank x.bank⟩
    · exact ⟨_, hturn, hturn.core ▸ hd⟩

theorem State.foldl_testLine_tests (n : Nat) (l : List Suspect) (s : State) :
    ∃ d, Turns s (l.foldl (·.testLine n ·) s) n d ∧ (s.core n).Tests d (l.map (s.core n).pint.tested) := by
  induction l generalizing s with
  | nil => exact ⟨_, .refl s n, rfl, (List.append_nil _).symm, rfl, rfl⟩
  | cons x l ih =>
    obtain ⟨c, hturn, htests⟩ := s.testLine_tests n x
    obtain ⟨d, hturns, htests'⟩ := ih (s.testLine n x)
    rw [hturn.core] at htests'
    rw [htests.tested] at htests'
    exact ⟨d, hturn.trans hturns, htests.trans htests'⟩

/-! ### PLOT_CLASSIFY (09 R257, R258) -/

/-- The faults that stand once a bank is classified: those of other banks and those classified before, the bank's column faults, and what the
tests have found. -/
def PlotInt.classified (p : PlotInt) (bank : Nat) : List Suspect :=
  p.suspects.filter (fun x => !(x.bank = bank && x.stage = 0)) ++ p.columnFaults' bank ++ (p.toTest bank).map p.tested

theorem State.classify_spec (s : State) (n bank : Nat) : ∃ d, Turns s (s.classify n bank) n d ∧ d.ctl = (s.core n).ctl ∧
    d.pint.suspects = (s.core n).pint.classified bank := by
  have hswept := Turns.setCore s n ((s.core n).swept bank)
  obtain ⟨d, hturn, htests⟩ := State.foldl_testLine_tests n ((s.core n).pint.toTest bank)
    (s.setCore n ((s.core n).swept bank))
  rw [hswept.core] at htests
  refine ⟨d, hswept.trans hturn, htests.ctl, htests.suspects.trans ?_⟩
  unfold Core.swept
  dsimp only
  rw [PlotInt.tested_swept]
  rfl

section
variable {p : PlotInt} {bank : Nat} {x : Suspect}

theorem PlotInt.mem_unclassified : x ∈ p.unclassified bank ↔ x ∈ p.suspects ∧ x.bank = bank ∧ x.stage = 0 := by
  simp [PlotInt.unclassified]

theorem PlotInt.mem_toTest : x ∈ p.toTest bank ↔ x ∈ p.unclassified bank ∧ ∀ y ∈ p.columnFaults' bank, y.sub ≠ x.sub := by
  simp [PlotInt.toTest]

theorem PlotInt.mem_classified : x ∈ p.classified bank ↔
    (x ∈ p.suspects ∧ (x.bank ≠ bank ∨ x.stage ≠ 0)) ∨ x ∈ p.columnFaults' bank ∨ ∃ y ∈ p.toTest bank, p.tested y = x := by
  simp [PlotInt.classified]

/-- No detection of the bank is left to be classified. -/
theorem PlotInt.stage_of_mem_classified (hx : x ∈ p.classified bank) (hbank : x.bank = bank) : x.stage ≠ 0 := by
  rcases PlotInt.mem_classified.1 hx with ⟨-, hother⟩ | hcolumn | ⟨y, -, rfl⟩
  · exact hother.resolve_left fun hne => hne hbank
  · rw [PlotInt.stage_of_mem_columnFaults' hcolumn]
    decide
  · exact p.stage_tested y

/-- A detection of the bank that is tested stands as what its test has found. -/
theorem PlotInt.tested_mem_classified (hx : x ∈ p.suspects) (hbank : x.bank = bank) (hstage : x.stage = 0)
    (hnone : ∀ y ∈ p.columnFaults' bank, y.sub ≠ x.sub) : p.tested x ∈ p.classified bank :=
  PlotInt.mem_classified.2 (.inr (.inr ⟨x, PlotInt.mem_toTest.2 ⟨PlotInt.mem_unclassified.2 ⟨hx, hbank, hstage⟩, hnone⟩, rfl⟩))

end

/-! ### The classification of a single detection -/

section
variable {s : State} {n : CoreIx} {bank : Fin 48} {x : Suspect} (hsus : (s.core n).pint.suspects = [x]) (hbank : x.bank = bank.val)
  (hstage : x.stage = 0)
include hsus hbank hstage

theorem PlotInt.unclassified_single : (s.core n).pint.unclassified bank = [x] := by
  simp [PlotInt.unclassified, hsus, hbank, hstage]

theorem PlotInt.suspects_swept_single : ((s.core n).pint.swept bank).suspects = (s.core n).pint.columnFaults' bank := by
  simp [PlotInt.swept, hsus, hbank, hstage]

/-- In a sub-array with a column fault no line is tested. -/
theorem State.classify_column (hcolumn : ((s.core n).pint.columnFaults' bank).any (fun y => y.sub = x.sub) = true) :
    s.classify n bank = s.setCore n ((s.core n).swept bank) := by
  have hnone : (s.core n).pint.toTest bank = [] := by
    unfold PlotInt.toTest
    rw [PlotInt.unclassified_single hsus hbank hstage]
    simp only [List.filter_cons, hcolumn, Bool.not_true, Bool.false_eq_true, if_false, List.filter_nil]
  unfold State.classify
  rw [hnone]
  rfl

variable (hnone : (s.core n).pint.columnFaults' bank = [])
include hnone

/-- In a bank without one the line is tested. -/
theorem State.classify_line :
    s.classify n bank = (s.setCore n ((s.core n).swept bank)).testLine n x := by
  have hone : (s.core n).pint.toTest bank = [x] := by
    unfold PlotInt.toTest
    rw [PlotInt.unclassified_single hsus hbank hstage, hnone]
    rfl
  unfold State.classify
  rw [hone]
  rfl

/-- A cell fault is one to be steered. -/
theorem State.classify_cell {k : Nat} (hcell : (s.core n).pint.cellFault x = some k) : Only [.cores] s (s.classify n bank) ∧
    Turns s (s.classify n bank) n (((s.core n).swept bank).cellFault x k) := by
  have hswept := Turns.setCore s n ((s.core n).swept bank)
  have hcell' : ((s.setCore n ((s.core n).swept bank)).core n).pint.cellFault x = some k := by
    rw [hswept.core]
    exact (PlotInt.cellFault_swept ..).trans hcell
  rw [State.classify_line hsus hbank hstage hnone, State.testLine_cell hcell', hswept.core]
  exact ⟨(State.setCore_only ..).trans (State.setCore_only ..), hswept.trans (Turns.setCore ..)⟩

/-- A soft error is counted, and at the limit its bank is fenced. -/
theorem State.classify_soft (hcell : (s.core n).pint.cellFault x = none) : ∃ t, Only [.cores] s t ∧
    Turns s t n (((s.core n).swept bank).softFault x) ∧
    s.classify n bank = if s.softLimit (Sparse.getD (s.core n).pint.softBank x.bank 0 + 1) then t.fenceBank n x.bank 1 else t := by
  have hswept := Turns.setCore s n ((s.core n).swept bank)
  have hcell' : ((s.setCore n ((s.core n).swept bank)).core n).pint.cellFault x = none := by
    rw [hswept.core]
    exact (PlotInt.cellFault_swept ..).trans hcell
  obtain ⟨t, hcores, hturn, htest⟩ := State.testLine_soft hcell'
  rw [hswept.core] at hturn htest
  rw [State.classify_line hsus hbank hstage hnone]
  exact ⟨t, (State.setCore_only ..).trans hcores, hswept.trans hturn, htest⟩

end

section
variable {s : State} {n : CoreIx} {bank : Fin 48} {x : Suspect} (hsus : (s.core n).pint.suspects = [x]) (hbank : x.bank = bank.val)
  (hstage : x.stage = 0) (hdone : (s.core n).drained = true) (hclk : s.power.clockOn = true)
include hsus hbank hstage hdone hclk

theorem exec_plotClassify_single : exec (.plotClassify n bank) s = .next (s.classify n bank) := by
  have hmine : (s.core n).pint.unclassified bank ≠ [] := by
    rw [PlotInt.unclassified_single hsus hbank hstage]
    exact List.cons_ne_nil _ _
  exact exec_plotClassify hmine (.inr hdone) hclk

/-- A sub-array with a column fault: its detection gives way to the column faults of the bank. -/
theorem plotClassify_column (hcolumn : ((s.core n).pint.columnFaults' bank).any (fun y => y.sub = x.sub) = true) :
    ∃ s', exec (.plotClassify n bank) s = .next s' ∧ Only [.cores] s s' ∧ OtherCores n s s' ∧
      (s'.core n).pint.suspects = (s.core n).pint.columnFaults' bank ∧ (s'.core n).plot = (s.core n).plot ∧
      (s'.core n).pint.columnFaults = ((s.core n).pint.columnFaults + ((s.core n).pint.columnFaults' bank).length) % 2 ^ 32 := by
  have hexec := exec_plotClassify_single hsus hbank hstage hdone hclk
  rw [State.classify_column hsus hbank hstage hcolumn] at hexec
  have hswept := Turns.setCore s n ((s.core n).swept bank)
  refine ⟨_, hexec, State.setCore_only .., hswept.others, ?_⟩
  rw [hswept.core]
  exact ⟨PlotInt.suspects_swept_single hsus hbank hstage, rfl, rfl⟩

variable (hnone : (s.core n).pint.columnFaults' bank = [])
include hnone

theorem plotClassify_cell {k : Nat} (hcell : (s.core n).pint.cellFault x = some k) :
    ∃ s', exec (.plotClassify n bank) s = .next s' ∧ Only [.cores] s s' ∧ OtherCores n s s' ∧
      (s'.core n).pint.suspects = [{ x with stage := 2, column := k }] ∧ (s'.core n).plot = (s.core n).plot ∧
      (s'.core n).pint.columnFaults = ((s.core n).pint.columnFaults + 1) % 2 ^ 32 := by
  obtain ⟨honly, hturn⟩ := State.classify_cell hsus hbank hstage hnone hcell
  obtain ⟨hsuspects, hplot, hcount⟩ := Core.cellFault_spec ((s.core n).swept bank) x k
  have hswept : ((s.core n).swept bank).pint.suspects = [] := (PlotInt.suspects_swept_single hsus hbank hstage).trans hnone
  have hfaults : ((s.core n).swept bank).pint.columnFaults = (s.core n).pint.columnFaults % 2 ^ 32 :=
    congrArg (fun fs => ((s.core n).pint.columnFaults + List.length fs) % 2 ^ 32) hnone
  refine ⟨_, exec_plotClassify_single hsus hbank hstage hdone hclk, honly, hturn.others, ?_⟩
  rw [hturn.core, hsuspects, hplot, hcount, hswept, hfaults]
  exact ⟨rfl, rfl, Nat.mod_add_mod ..⟩

variable (hcell : (s.core n).pint.cellFault x = none)
include hcell

/-- Without a limit a soft error is counted, and its line zeroed. -/
theorem plotClassify_soft (hlimit : s.obj 0x2100 2 = 0) :
    ∃ s', exec (.plotClassify n bank) s = .next s' ∧ Only [.cores] s s' ∧ OtherCores n s s' ∧
      (s'.core n).pint.suspects = [{ x with stage := 3 }] ∧ (s'.core n).pint.softFaults = ((s.core n).pint.softFaults + 1) % 2 ^ 32 ∧
      Sparse.find (s'.core n).plot.chk (lineAddr x.bank x.sub x.row / 64) = none ∧
      ∀ a, Mem.byte (s'.core n).plot.bytes a =
        if lineAddr x.bank x.sub x.row ≤ a ∧ a < lineAddr x.bank x.sub x.row + 64 then 0 else Mem.byte (s.core n).plot.bytes a := by
  obtain ⟨t, honly, hturn, hclassify⟩ := State.classify_soft hsus hbank hstage hnone hcell
  rw [if_neg (by simp [State.softLimit, hlimit])] at hclassify
  obtain ⟨hsuspects, hcount, hplot⟩ := Core.softFault_spec ((s.core n).swept bank) x
  have hswept : ((s.core n).swept bank).pint.suspects = [] := (PlotInt.suspects_swept_single hsus hbank hstage).trans hnone
  refine ⟨t, (exec_plotClassify_single hsus hbank hstage hdone hclk).trans (congrArg _ hclassify), honly, hturn.others, ?_⟩
  rw [hturn.core, hsuspects, hcount, hswept]
  exact ⟨rfl, rfl, hplot⟩

/-- A soft error that reaches the limit of its bank fences it. -/
theorem plotClassify_limit (hlimit : s.obj 0x2100 2 ≠ 0) (hle : s.obj 0x2100 2 ≤ Sparse.getD (s.core n).pint.softBank x.bank 0 + 1) :
    ∃ s', exec (.plotClassify n bank) s = .next s' ∧ OtherCores n s s' ∧ bit (s'.core n).pint.fenced bank = true := by
  obtain ⟨t, -, hturn, hclassify⟩ := State.classify_soft hsus hbank hstage hnone hcell
  rw [if_pos (by simp [State.softLimit, hlimit, hle]), hbank] at hclassify
  have hfence := t.fenceBank_turns n bank 1
  refine ⟨_, (exec_plotClassify_single hsus hbank hstage hdone hclk).trans (congrArg _ hclassify), (hturn.trans hfence).others, ?_⟩
  rw [hfence.core]
  exact bit_setBit_self ..

end

/-! ### The statement -/

/-- Settles O20: by what the sweep and the tests of a bank find, and by what each repair leaves of its core. -/
theorem plotRepairs : Obligations.PlotRepairs := by
  unfold Obligations.PlotRepairs
  refine ⟨fun s n bank hany hdone hclk => ?classify, fun s n hsome hall hdone hclk => plotRepairComplete_mends hsome hall hdone hclk,
    fun s n bank x hsus hbank hstage hdrain hdone => ?single, fun s n x hsus hstage hfenced hdrain hdone hst hship =>
      ⟨fun i hspare hclk => plotRepairComplete_steers hsus hstage hdrain hdone hclk hfenced hst hspare,
        fun hnone hclk => plotRepairComplete_fences hsus hstage hdrain hdone hclk hfenced hst hship hnone⟩,
    fun s n hpending hsus hclk => ?scrub⟩
  case classify =>
    have hmine : (s.core n).pint.unclassified bank ≠ [] := by
      obtain ⟨x, hx, hmine⟩ := List.any_eq_true.1 hany
      rw [Bool.and_eq_true, decide_eq_true_eq, decide_eq_true_eq] at hmine
      exact List.ne_nil_of_mem (PlotInt.mem_unclassified.2 ⟨hx, hmine⟩)
    obtain ⟨d, hturn, hctl, hsuspects⟩ := s.classify_spec n bank
    refine ⟨_, exec_plotClassify hmine hdone hclk, hturn.others, ?_⟩
    rw [hturn.core, hsuspects]
    exact ⟨hctl, fun x => PlotInt.stage_of_mem_classified, fun x hx hother => PlotInt.mem_classified.2 (.inl ⟨hx, hother⟩),
      fun x hx => PlotInt.mem_classified.2 (.inr (.inl hx)), fun x => PlotInt.tested_mem_classified⟩
  case single =>
    refine ⟨fun hnone hcell hlimit hclk => plotClassify_soft hsus hbank hstage hdone hclk hnone hcell hlimit,
      fun hnone hcell hlimit hle hclk => plotClassify_limit hsus hbank hstage hdone hclk hnone hcell hlimit hle,
      fun k hnone hcell hclk => plotClassify_cell hsus hbank hstage hdone hclk hnone hcell, ?_⟩
    rintro _ rfl hcolumn hclk
    exact plotClassify_column hsus hbank hstage hdone hclk hcolumn
  case scrub =>
    have hscrub := Turns.setCore s n (s.core n).scrub
    refine ⟨_, exec_plotScrubDone hpending hsus hclk, State.setCore_only .., hscrub.others, ?_⟩
    rw [hscrub.core]
    exact ⟨rfl, rfl, rfl, rfl, rfl⟩

end Sys2Proof.Machine
end

section
/-! PROOF. What the ends of reads and walks look at, and that records, the tiers, the Orangery and the page walk leave it (10 R276, R285 to R293). -/

namespace Sys2Proof.Machine
open Sys2Proof.Safety

/-! ### What the ends of reads look at -/

/-- The cores, and the read requests that memory and the host have yet to answer (10 R271, R273). -/
structure ReadView where
  cores : Sparse Core
  reads : List Req
  host : List Req

def State.readView (s : State) : ReadView := { cores := s.cores, reads := s.arb.reads, host := s.arb.host }

theorem State.readView_inj {s t : State} : t.readView = s.readView ↔
    t.cores = s.cores ∧ t.arb.reads = s.arb.reads ∧ t.arb.host = s.arb.host := by
  simp [State.readView]

theorem State.core_of_readView {s t : State} (h : t.readView = s.readView) (n : Nat) : t.core n = s.core n :=
  State.core_congr (State.readView_inj.1 h).1 n

/-- A step that names neither the cores nor the arbiters among what it changes leaves the view. -/
theorem readView_of_only {l : List Fld} {s t : State} (h : Only l s t) (hcores : Fld.cores ∉ l) (harb : Fld.arb ∉ l) :
    t.readView = s.readView := by
  have ha := h.arb.resolve_left harb
  exact State.readView_inj.2 ⟨h.cores.resolve_left hcores, by rw [ha], by rw [ha]⟩

theorem State.readView_foldl {α : Type} (f : State → α → State) (h : ∀ s a, (f s a).readView = s.readView) (xs : List α) (s : State) :
    (xs.foldl f s).readView = s.readView :=
  List.foldlRecOn (motive := fun t : State => t.readView = s.readView) _ _ rfl fun t ht a _ => (h t a).trans ht

theorem State.readView_foldl_snd {α β : Type} (f : β × State → α → β × State) (h : ∀ x a, (f x a).2.readView = x.2.readView) (xs : List α)
    (x : β × State) : (xs.foldl f x).2.readView = x.2.readView :=
  List.foldlRecOn (motive := fun y : β × State => y.2.readView = x.2.readView) _ _ rfl fun y hy a _ => (h y a).trans hy

theorem State.readView_ite {s t u : State} {c : Prop} [Decidable c] (h : t.readView = s.readView) (g : u.readView = s.readView) :
    (if c then t else u).readView = s.readView := by
  split
  · exact h
  · exact g

/-- The state of a pair that is taken apart. -/
theorem State.readView_of_pair {α : Type} {x : α × State} {a : α} {s s1 : State} (h : x = (a, s1)) (hx : x.2.readView = s.readView) :
    s1.readView = s.readView := by
  rwa [h] at hx

/-! Records, counters, interrupts and buckets. -/

section
variable (s : State)

@[simp] theorem State.readView_setPav (p : Nat) (v : Pav) : (s.setPav p v).readView = s.readView := rfl
theorem State.readView_updPav (p : Nat) (f : Pav → Pav) : (s.updPav p f).readView = s.readView := rfl
@[simp] theorem State.readView_setStream (i e : Nat) : (s.setStream i e).readView = s.readView := rfl
@[simp] theorem State.readView_unitEnd (p u : Nat) : (s.unitEnd p u).readView = s.readView := rfl
@[simp] theorem State.readView_mark (p k cls c : Nat) : (s.mark p k cls c).2.readView = s.readView := rfl
@[simp] theorem State.readView_touchNear (l : OLine) : (s.touchNear l).readView = s.readView := rfl

@[simp] theorem State.readView_tallyAdd (i j k : Nat) : (s.tallyAdd i j k).readView = s.readView :=
  readView_of_only (s.tallyAdd_tallyOnly i j k).only (by decide) (by decide)

@[simp] theorem State.readView_logRec (code unit sev : Nat) (pav : Option Nat) (detail : Nat) :
    (s.logRec code unit sev pav detail).readView = s.readView :=
  readView_of_only (s.logRecS_only code unit sev pav detail false) (by decide) (by decide)

@[simp] theorem State.readView_raiseVf (p i : Nat) : (s.raiseVf p i).readView = s.readView :=
  readView_of_only (s.raise_raised (p + 1) i).only (by decide) (by decide)

@[simp] theorem State.readView_classOf (p e t : Nat) (core : Option Nat) : (s.classOf p e t core).2.readView = s.readView := by
  unfold State.classOf
  dsimp only
  split
  · rfl
  · rfl
  · exact s.readView_tallyAdd ..

/-! Memory and the Orangery (10 R285 to R293; 18 R497 to R502). -/

@[simp] theorem State.readView_memUpset (u : MemUpset) : (s.memUpset u).readView = s.readView := by
  cases u <;> (unfold State.memUpset; dsimp only; split <;> rfl)

@[simp] theorem State.readView_burstCheck (b : Nat) : (s.burstCheck b).readView = s.readView := by
  unfold State.burstCheck
  dsimp only
  split <;> simp

@[simp] theorem State.readView_pipCheck (blk finder : Nat) : (s.pipCheck blk finder).2.readView = s.readView := by
  unfold State.pipCheck
  dsimp only
  split
  · exact s.readView_tallyAdd ..
  · exact (State.readView_logRec ..).trans ((State.readView_tallyAdd ..).trans rfl)
  · rfl

@[simp] theorem State.readView_burstWrite (pa : Nat) (d : List PByte) (b : Nat) : (s.burstWrite pa d b).readView = s.readView := by
  unfold State.burstWrite
  dsimp only
  split
  · rfl
  · exact s.readView_burstCheck b

@[simp] theorem State.readView_memPut (pa : Nat) (d : List PByte) : (s.memPut pa d).readView = s.readView :=
  State.readView_foldl _ (fun s b => s.readView_burstWrite pa d b) _ s

@[simp] theorem State.readView_writeBack (l : OLine) : (s.writeBack l).readView = s.readView :=
  State.readView_foldl _ (fun s _ => s.readView_memPut ..) _ s

@[simp] theorem State.readView_dropDetected (l : OLine) (far : Bool) : (s.dropDetected l far).2.readView = s.readView := by
  unfold State.dropDetected
  extract_lets s1 org
  have h1 : s1.readView = s.readView := State.readView_ite (s.readView_tallyAdd ..) ((State.readView_logRec ..).trans (s.readView_writeBack l))
  clear_value s1
  exact h1

@[simp] theorem State.readView_memRead (pa len : Nat) : (s.memRead pa len).2.readView = s.readView := by
  have hdrop : ∀ (ls : List OLine) (t : State), (ls.foldl (fun s l => (s.dropDetected l true).2) t).readView = t.readView :=
    State.readView_foldl _ fun s l => s.readView_dropDetected l true
  have hburst : ∀ (bs : List Nat) (t : State),
      (bs.foldl (fun s b => if s.mmeta.mark.contains b || !s.fromTier pa len b then s else s.burstCheck b) t).readView = t.readView :=
    State.readView_foldl _ fun s b => by split <;> simp
  unfold State.memRead
  dsimp only
  split <;> simp only [State.readView_pipCheck, hdrop, hburst]

@[simp] theorem State.readView_farOut (l : OLine) : (s.farOut l).readView = s.readView := by
  unfold State.farOut
  split
  · exact s.readView_dropDetected l true
  · exact s.readView_writeBack l

@[simp] theorem State.readView_allocNear (p la : Nat) (d : List PByte) : (s.allocNear p la d).readView = s.readView := by
  unfold State.allocNear
  dsimp only
  split <;> rfl

@[simp] theorem State.readView_allocFar (p la mask dirty : Nat) (d : List PByte) : (s.allocFar p la mask dirty d).2.readView = s.readView := by
  unfold State.allocFar
  dsimp only
  split
  · rfl
  · next v _ =>
    cases v with
    | none => rfl
    | some x => exact s.readView_farOut x

@[simp] theorem State.readView_orgFill (p la : Nat) (near far : Bool) : (s.orgFill p la near far).2.readView = s.readView := by
  unfold State.orgFill
  extract_lets lost near far
  split
  next d s1 h =>
  have h1 := State.readView_of_pair h (s.readView_memRead (128 * la) 128)
  extract_lets org s2
  have h2 : s2.readView = s.readView := by
    refine State.readView_ite ?_ h1
    split
    · exact h1
    · exact State.readView_ite h1 ((State.readView_allocFar ..).trans h1)
  exact State.readView_ite ((State.readView_allocNear ..).trans h2) h2

@[simp] theorem State.readView_orgRead (p pa len : Nat) : (s.orgRead p pa len).2.readView = s.readView := by
  unfold State.orgRead
  dsimp only
  repeat' split
  all_goals simp

@[simp] theorem State.readView_orgFlush (p la : Nat) : (s.orgFlush p la).readView = s.readView := by
  unfold State.orgFlush
  split
  · split
    · exact s.readView_dropDetected _ true
    · exact s.readView_writeBack _
  · rfl

@[simp] theorem State.readView_orgInv (p la : Nat) (near far : Bool) : (s.orgInv p la near far).readView = s.readView := by
  have hflush := s.readView_orgFlush p la
  cases near <;> cases far <;> exact hflush

@[simp] theorem State.readView_rangeLine (n : Nat) (l : LongCmd) (pa : Nat) : (s.rangeLine n l pa).readView = s.readView := by
  unfold State.rangeLine
  dsimp only
  repeat' split
  all_goals simp

/-! Translation (10 R274 to R284). -/

@[simp] theorem State.readView_walkRead (p pa : Nat) (core : Option Nat) : (s.walkRead p pa core).2.readView = s.readView := by
  unfold State.walkRead
  split
  · cases core <;> simp
  · rfl

theorem State.readView_of_walkRead {s s1 : State} {p pa : Nat} {core : Option Nat} {r : Option (Nat × Bool)}
    (h : s.walkRead p pa core = (r, s1)) : s1.readView = s.readView :=
  State.readView_of_pair h (s.readView_walkRead p pa core)

theorem leafCheck_ne_zero {e low c : Nat} (h : leafCheck e low = some c) : c ≠ 0 := by
  unfold leafCheck at h
  split at h
  · cases h; decide
  · split at h
    · cases h; decide
    · cases h

/-- A walk reads the tables and leaves cores and requests; where it fails it names a cause (10 R276, Table 10-6). -/
theorem State.walk_spec (s : State) (p va : Nat) (core : Option Nat) :
    (s.walk p va core).2.readView = s.readView ∧ (s.walk p va core).1 ≠ .fail 0 := by
  unfold State.walk
  dsimp only
  split
  · next s1 h1 =>
    exact ⟨State.readView_of_walkRead h1, by simp⟩
  · next s1 h1 =>
    exact ⟨State.readView_of_walkRead h1, by simp⟩
  · next e s1 h1 =>
    have hv1 := State.readView_of_walkRead h1
    split
    · exact ⟨hv1, by simp⟩
    · split
      · split
        · next c hc => exact ⟨hv1, by simpa using leafCheck_ne_zero hc⟩
        · exact ⟨hv1, by simp⟩
      · split
        · exact ⟨hv1, by simp⟩
        · split
          · next s2 h2 => exact ⟨(State.readView_of_walkRead h2).trans hv1, by simp⟩
          · next s2 h2 => exact ⟨(State.readView_of_walkRead h2).trans hv1, by simp⟩
          · next l s2 h2 =>
            have hv2 := (State.readView_of_walkRead h2).trans hv1
            split
            · exact ⟨hv2, by simp⟩
            · split
              · next c hc => exact ⟨hv2, by simpa using leafCheck_ne_zero hc⟩
              · exact ⟨hv2, by simp⟩

theorem State.readView_of_walk {s s1 : State} {p va : Nat} {core : Option Nat} {r : WalkR} (h : s.walk p va core = (r, s1)) :
    s1.readView = s.readView :=
  State.readView_of_pair h (s.walk_spec p va core).1

theorem State.cause_ne_zero_of_walk {s s1 : State} {p va c : Nat} {core : Option Nat} (h : s.walk p va core = (.fail c, s1)) : c ≠ 0 := by
  rintro rfl
  exact (s.walk_spec p va core).2 (congrArg Prod.fst h)

@[simp] theorem State.readView_unitMark (p unit r pa len : Nat) : (s.unitMark p unit r pa len).readView = s.readView := by
  unfold State.unitMark
  dsimp only
  split <;> simp

@[simp] theorem State.readView_unitHost (p unit pa len : Nat) : (s.unitHost p unit pa len).2.readView = s.readView := by
  unfold State.unitHost
  extract_lets s1
  have h1 : s1.readView = s.readView := s.readView_unitMark p unit 5 pa len
  clear_value s1
  split
  · rfl
  · split
    · rfl
    · exact h1

@[simp] theorem State.readView_unitPhys (p unit pa len : Nat) (oc : Bool) : (s.unitPhys p unit pa len oc).2.readView = s.readView := by
  unfold State.unitPhys
  dsimp only
  split
  · exact s.readView_unitHost ..
  · split
    · refine State.readView_foldl_snd _ (fun x a => ?_) _ _
      dsimp only
      split <;> simp
    · simp

@[simp] theorem State.readView_unitAddr (p va len : Nat) (write : Bool) : (s.unitAddr p va len write).2.readView = s.readView := by
  unfold State.unitAddr
  split
  · next h => exact State.readView_of_walk h
  · next h => split <;> exact State.readView_of_walk h

@[simp] theorem State.readView_unitRead (p va len unit : Nat) : (s.unitRead p va len unit).2.readView = s.readView := by
  unfold State.unitRead
  refine State.readView_foldl_snd _ (fun x a => ?_) _ _
  have haddr := x.2.readView_unitAddr p a.1 a.2 false
  split
  · rfl
  · split
    · next h => exact State.readView_of_pair h haddr
    · next h => exact (State.readView_unitPhys ..).trans (State.readView_of_pair h haddr)

end

end Sys2Proof.Machine
end

section
/-! PROOF. The ring of a Bandstand and the requests of a mover leave the cores and the reads under way (12 R334 to R340; 16 R434). -/

namespace Sys2Proof.Machine
open Sys2Proof.Safety

/-! ### The ring of a Bandstand (12 R334 to R340) -/

section
variable (s : State)

@[simp] theorem State.readView_bsRecords (p base size head n : Nat) : (s.bsRecords p base size head n).2.readView = s.readView := by
  unfold State.bsRecords
  refine State.readView_foldl_snd _ (fun x j => ?_) _ _
  split
  · rfl
  · exact x.2.readView_unitRead ..

theorem State.readView_bsRecord (p r : Nat) : (s.bsRecord p r).readView = s.readView := by
  unfold State.bsRecord
  refine State.readView_ite ?_ (State.readView_ite ?_ ?_)
  · exact s.readView_tallyAdd ..
  · exact (State.readView_tallyAdd ..).trans (State.readView_setStream ..)
  · exact (State.readView_updPav _ p _).trans (State.readView_setStream ..)

theorem State.readView_bsRingFault (p : Nat) : (s.bsRingFault p).readView = s.readView :=
  (State.readView_raiseVf _ p 4).trans (State.readView_updPav ..)

theorem State.readView_of_unitRead {s s1 : State} {p va len unit : Nat} {r : UnitR} (h : s.unitRead p va len unit = (r, s1)) :
    s1.readView = s.readView :=
  State.readView_of_pair h (s.readView_unitRead p va len unit)

theorem State.readView_of_bsRecords {s s1 : State} {p base size head n : Nat} {r : UnitR} (h : s.bsRecords p base size head n = (r, s1)) :
    s1.readView = s.readView :=
  State.readView_of_pair h (s.readView_bsRecords p base size head n)

theorem State.readView_bsRing (p : Nat) : (s.bsRing p).readView = s.readView := by
  have hrecords : ∀ (l : List Nat) (t : State), (l.foldl (fun s r => s.bsRecord p r) t).readView = t.readView :=
    State.readView_foldl _ fun t r => t.readView_bsRecord p r
  unfold State.bsRing
  extract_lets base size wait done overrun
  have hwait : ∀ t : State, (wait t).readView = t.readView := fun t => t.readView_updPav p _
  have hdone : ∀ t : State, (done t).readView = t.readView := fun t => (State.readView_updPav _ p _).trans (t.readView_unitEnd p 0)
  have hoverrun : ∀ t : State, (overrun t).readView = t.readView := fun t => t.readView_updPav p _
  clear_value wait done overrun
  split
  · next h => exact (hwait _).trans (State.readView_of_unitRead h)
  · next h => exact (State.readView_bsRingFault ..).trans ((hdone _).trans (State.readView_of_unitRead h))
  · next t s1 h =>
    have h1 := State.readView_of_unitRead h
    extract_lets tail setHead b d n
    have hhead : ∀ t : State, (setHead t).readView = t.readView := fun t => t.readView_updPav p _
    clear_value setHead
    refine State.readView_ite ((hhead _).trans ((hdone _).trans h1)) (State.readView_ite ((hoverrun _).trans ((hdone _).trans h1)) ?_)
    split
    · next h2 => exact (hwait _).trans ((State.readView_of_bsRecords h2).trans h1)
    · next r s2 _ h2 =>
      have h2 := (hdone s2).trans ((State.readView_of_bsRecords h2).trans h1)
      extract_lets s3 s4
      have h4 : s4.readView = s.readView :=
        State.readView_ite ((hoverrun _).trans ((State.readView_tallyAdd ..).trans h2)) h2
      refine (hhead _).trans ?_
      split
      · exact (hrecords _ _).trans h4
      · exact (State.readView_bsRingFault ..).trans h4

theorem State.readView_takeRow (p : Nat) (r : BsRow) : (s.takeRow p r).2.readView = s.readView := by
  unfold State.takeRow
  extract_lets e pos out e1 left ended s1 s2 e2
  have h2 : s2.readView = s.readView := (State.readView_updPav _ p _).trans (s.readView_setStream ..)
  split
  · exact State.readView_ite h2 ((State.readView_tallyAdd ..).trans h2)
  · exact State.readView_setStream ..

theorem State.readView_bsClose (p n : Nat) (skip : Option Nat) (fill stepped : Bool) :
    (s.bsClose p n skip fill stepped).readView = s.readView := by
  unfold State.bsClose
  extract_lets rows burst b s1
  have h1 : s1.readView = s.readView := s.readView_updPav p _
  split
  next outs s2 h2 =>
  have h2 : s2.readView = s1.readView := by
    refine (congrArg (fun x => x.2.readView) h2).symm.trans (State.readView_foldl_snd _ (fun x r => ?_) rows _)
    exact x.2.readView_takeRow p r
  exact (State.readView_updPav _ p _).trans (h2.trans h1)

theorem State.readView_bsFill (fuel p : Nat) (skip : Option Nat) (stepped : Bool) (s : State) :
    (State.bsFill fuel p skip stepped s).readView = s.readView := by
  induction fuel generalizing s with
  | zero => rfl
  | succ fuel ih =>
    unfold State.bsFill
    exact State.readView_ite ((ih _).trans (s.readView_bsClose ..)) rfl

theorem State.readView_bsResume (p : Nat) : (s.bsResume p).readView = s.readView := by
  unfold State.bsResume State.bsWork
  refine State.readView_ite ?_ rfl
  exact State.readView_ite (s.readView_bsRing p) ((State.readView_bsFill ..).trans (s.readView_bsRing p))

theorem State.readView_binRow (p cls at_ : Nat) : (s.binRow p cls at_).readView = s.readView := by
  unfold State.binRow
  extract_lets v lat k s1
  refine State.readView_ite (s.readView_setPav p _) ?_
  refine (State.readView_foldl _ (fun t i => ?_) _ _).trans (s.readView_setPav p _)
  extract_lets cfg s2
  refine State.readView_ite ?_ rfl
  exact State.readView_ite ((State.readView_raiseVf ..).trans (t.readView_updPav p _)) (t.readView_updPav p _)

theorem State.readView_bsRelease (k p : Nat) (s : State) : (State.bsRelease k p s).readView = s.readView := by
  induction k generalizing s with
  | zero => rfl
  | succ k ih =>
    unfold State.bsRelease
    split
    · rfl
    · exact (ih _).trans ((State.readView_foldl _ (fun t (r : BsOut) => t.readView_binRow p r.cls r.at_) _ _).trans (s.readView_updPav p _))

/-! Requests of the mover (10 R278; 16 R434). -/

theorem State.readView_translate (n va : Nat) (write : Bool) : (s.translate n va write).2.readView = s.readView :=
  readView_of_only (s.translate_tallyOnly n va write).only (by decide) (by decide)

theorem State.readView_of_translate {s s1 : State} {n va : Nat} {write : Bool} {r : TransR} (h : s.translate n va write = (r, s1)) :
    s1.readView = s.readView :=
  State.readView_of_pair h (s.readView_translate n va write)

theorem State.readView_request (n res tier cost : Nat) (q : Req) : (s.request n res tier cost q).2.readView = s.readView :=
  s.readView_classOf ((s.owner n).getD 0) 0 tier (some n)

end

end Sys2Proof.Machine
end

section
/-! PROOF. The map buffer of a core and its first memory fault while the core's commands go on (10 R276, R277, R283). -/

namespace Sys2Proof.Machine
open Sys2Proof.Safety

/-! ### The map buffer of a core while its commands go on -/

/-- From `s` to `t` only core `n` may have changed; its map buffer holds what it held, its first memory fault stays the first, and the reads
under way are those that were (10 R277, R283). -/
structure MapStays (s t : State) (n : Nat) : Prop where
  others : OtherCores n s t
  entries : (t.core n).map.entries = (s.core n).map.entries
  fault : (s.core n).map.memFault ≠ 0 → (t.core n).map.memFault = (s.core n).map.memFault
  reads : t.arb.reads = s.arb.reads
  host : t.arb.host = s.arb.host

theorem MapStays.of_readView {s t : State} (n : Nat) (h : t.readView = s.readView) : MapStays s t n where
  others m _ := State.core_of_readView h m
  entries := by rw [State.core_of_readView h]
  fault _ := by rw [State.core_of_readView h]
  reads := (State.readView_inj.1 h).2.1
  host := (State.readView_inj.1 h).2.2

theorem MapStays.refl (s : State) (n : Nat) : MapStays s s n := .of_readView n rfl

theorem MapStays.trans {s t u : State} {n : Nat} (h : MapStays s t n) (g : MapStays t u n) : MapStays s u n where
  others m hm := (g.others m hm).trans (h.others m hm)
  entries := g.entries.trans h.entries
  fault hf := (g.fault (by rwa [h.fault hf])).trans (h.fault hf)
  reads := g.reads.trans h.reads
  host := g.host.trans h.host

theorem MapStays.view {s t u : State} {n : Nat} (h : MapStays s t n) (g : u.readView = t.readView) : MapStays s u n :=
  h.trans (.of_readView n g)

theorem MapStays.ite {s t u : State} {n : Nat} {c : Prop} [Decidable c] (h : MapStays s t n) (g : MapStays s u n) :
    MapStays s (if c then t else u) n := by
  split
  · exact h
  · exact g

theorem MapStays.foldl {α : Type} {n : Nat} (f : State → α → State) (h : ∀ s a, MapStays s (f s a) n) (xs : List α) (s : State) :
    MapStays s (xs.foldl f s) n :=
  List.foldlRecOn (motive := fun t : State => MapStays s t n) _ _ (.refl s n) fun t ht a _ => ht.trans (h t a)

/-- The core may be replaced by one with the same entries and, if it had one, the same first memory fault. -/
theorem MapStays.setCore {s : State} {n : Nat} {c : Core} (hentries : c.map.entries = (s.core n).map.entries)
    (hfault : (s.core n).map.memFault ≠ 0 → c.map.memFault = (s.core n).map.memFault) : MapStays s (s.setCore n c) n where
  others := (Leaves.setCore s n c).others
  entries := by rw [State.core_setCore_self, hentries]
  fault hf := by rw [State.core_setCore_self, hfault hf]
  reads := rfl
  host := rfl

theorem MapStays.setCore_map {s : State} {n : Nat} {c : Core} (h : c.map = (s.core n).map) : MapStays s (s.setCore n c) n :=
  .setCore (by rw [h]) fun _ => by rw [h]

theorem MapStays.of_quiet {s t : State} {n : Nat} (h : Quiet s t n) : MapStays s t n where
  others := h.others
  entries := eq_of_still h.rest (·.map.entries) fun _ => rfl
  fault _ := eq_of_still h.rest (·.map.memFault) fun _ => rfl
  reads := congrArg Arb.reads (h.only.arb.resolve_left (by decide))
  host := congrArg Arb.host (h.only.arb.resolve_left (by decide))

@[simp] theorem Core.map_setEng (c : Core) (e : Eng) (v : EngSt) : (c.setEng e v).map = c.map := by cases e <;> rfl

theorem MapStays.updRun (s : State) (n : Nat) (e : Eng) (id : Nat) (f : Running → Running) : MapStays s (s.updRun n e id f) n :=
  .setCore_map (Core.map_setEng ..)

theorem MapStays.updCmd (s : State) (n id : Nat) (f : Running → Running) : MapStays s (s.updCmd n id f) n :=
  .foldl _ (fun t e => .updRun t n e id f) _ s

/-! Records and faults of the core (04 R120; 09 R254; 10 R283). -/

theorem MapStays.logCore (s : State) (code n sev detail : Nat) : MapStays s (s.logCore code n sev detail) n := by
  obtain ⟨honly, hothers, frames, hcore⟩ := s.logCoreS_spec code n sev detail false
  have harb := honly.arb.resolve_left (by decide)
  exact {
    others := hothers
    entries := (congrArg (·.map.entries) hcore).trans rfl
    fault := fun _ => (congrArg (·.map.memFault) hcore).trans rfl
    reads := congrArg Arb.reads harb
    host := congrArg Arb.host harb }

theorem State.readView_raiseCore (s : State) (n i : Nat) : (s.raiseCore n i).readView = s.readView :=
  readView_of_only (s.raiseCore_spec n i).1 (by decide) (by decide)

/-- A core with a memory fault recorded in its registers (10 R283, Table 10-6). -/
def Core.recordFault (c : Core) (w : Nat) : Core :=
  let c := { c with map := if c.map.memFault = 0 then { c.map with memFault := w, memFaults := 1 }
    else { c.map with memFaults := (c.map.memFaults + 1) % 2 ^ 32 } }
  if c.ctl.st = .run || c.ctl.st = .halted then c.stopFault else c

theorem Core.map_recordFault (c : Core) (w : Nat) : (c.recordFault w).map =
    if c.map.memFault = 0 then { c.map with memFault := w, memFaults := 1 } else { c.map with memFaults := (c.map.memFaults + 1) % 2 ^ 32 } := by
  unfold Core.recordFault
  dsimp only
  split <;> rfl

theorem State.memFault_eq {s : State} {n : Nat} (cause : Nat) (write : Bool) (va : Nat) (hdrain : (s.core n).ctl.drain ≠ .reset) :
    ∃ detail, s.memFault n cause write va =
      ((s.setCore n ((s.core n).recordFault (va % 2 ^ 48 + b2n write * 2 ^ 55 + cause * 2 ^ 56))).logCore 0x0002 n 2 detail).raiseCore n 4 := by
  unfold State.memFault
  rw [if_neg hdrain]
  exact ⟨_, rfl⟩

theorem MapStays.memFault (s : State) (n cause : Nat) (write : Bool) (va : Nat) : MapStays s (s.memFault n cause write va) n := by
  by_cases hdrain : (s.core n).ctl.drain = .reset
  · unfold State.memFault
    rw [if_pos hdrain]
    exact .refl s n
  · obtain ⟨detail, heq⟩ := State.memFault_eq cause write va hdrain
    rw [heq]
    refine ((MapStays.setCore ?_ fun hf => ?_).trans (.logCore ..)).view (State.readView_raiseCore ..)
    · rw [Core.map_recordFault]
      split <;> rfl
    · rw [Core.map_recordFault, if_neg hf]

/-- The first memory fault of a core is recorded with its cause, direction and address (10 R283). -/
theorem State.memFault_first {s : State} {n cause : Nat} {write : Bool} {va : Nat} (hdrain : (s.core n).ctl.drain ≠ .reset)
    (hnone : (s.core n).map.memFault = 0) (hcause : cause ≠ 0) :
    ((s.memFault n cause write va).core n).map.memFault = va % 2 ^ 48 + b2n write * 2 ^ 55 + cause * 2 ^ 56 := by
  obtain ⟨detail, heq⟩ := State.memFault_eq cause write va hdrain
  have hw : ((s.setCore n ((s.core n).recordFault (va % 2 ^ 48 + b2n write * 2 ^ 55 + cause * 2 ^ 56))).core n).map.memFault =
      va % 2 ^ 48 + b2n write * 2 ^ 55 + cause * 2 ^ 56 := by
    rw [State.core_setCore_self, Core.map_recordFault, if_pos hnone]
  rw [heq, State.core_of_readView (State.readView_raiseCore ..), (MapStays.logCore ..).fault (by rw [hw]; omega), hw]

/-! The Plot (04 R112, R115; 09 R241 to R254). -/

theorem Core.map_foldl {α : Type} (f : Core → α → Core) (h : ∀ c a, (f c a).map = c.map) (xs : List α) (c : Core) :
    (xs.foldl f c).map = c.map :=
  List.foldlRecOn (motive := fun d : Core => d.map = c.map) _ _ rfl fun d hd a _ => (h d a).trans hd

theorem Core.map_readHalf (c : Core) (line : Nat) : (c.readHalf line).map = c.map := by
  unfold Core.readHalf
  split <;> rfl

theorem Core.map_setCond (c : Core) (line : Nat) (poison : Bool) : (c.setCond line poison).map = c.map := rfl

theorem Core.map_plotPut (c : Core) (a : Nat) (d : List PByte) : (c.plotPut a d).map = c.map := by
  unfold Core.plotPut
  extract_lets ls conds c1 c2
  have h1 : c1.map = c.map := Core.map_foldl _ (fun c l => by split; exacts [c.map_readHalf l, rfl]) _ _
  exact (Core.map_foldl _ (fun c (x : Nat × _) => c.map_setCond x.1 _) _ _).trans h1

theorem MapStays.plotStop (s : State) (n : Nat) : MapStays s (s.plotStop n) n := by
  unfold State.plotStop
  exact .ite (.refl s n) (.setCore_map rfl)

theorem MapStays.plotDetect (s : State) (n addr kind : Nat) : MapStays s (s.plotDetect n addr kind) n := by
  unfold State.plotDetect
  split
  next b j r _ =>
  extract_lets c step pint poisoned fenced last susp s1 integ s2
  have hpoisoned : MapStays s poisoned n := .setCore_map rfl
  have h1 : MapStays s s1 n := .setCore_map rfl
  have h2 : MapStays s s2 n := h1.view rfl
  exact .ite ((hpoisoned.view (State.readView_tallyAdd ..)).trans (.plotStop ..))
    (((h2.view (State.readView_tallyAdd ..)).trans (.logCore ..)).trans (.plotStop ..))

theorem MapStays.plotRead (s : State) (n a len : Nat) : MapStays s (s.plotRead n a len).2 n :=
  .foldl _ (fun t _ => .ite (.refl t n) (.plotDetect ..)) _ s

theorem MapStays.plotPut (s : State) (n a : Nat) (d : List PByte) : MapStays s (s.plotPut n a d) n :=
  (MapStays.setCore_map (Core.map_plotPut ..)).trans (.foldl _ (fun t _ => .ite (.plotDetect ..) (.refl t n)) _ _)

theorem MapStays.plotWrite (s : State) (n a : Nat) (d : List PByte) (aow : Nat) : MapStays s (s.plotWrite n a d aow) n := by
  unfold State.plotWrite
  refine .ite (.plotPut ..) ?_
  extract_lets c ls s1 c1 c2
  split
  next w sat _ =>
  extract_lets conds c3 s2
  have h1 : MapStays s s1 n := .foldl _ (fun t _ => .ite (.plotDetect ..) (.refl t n)) _ _
  have h2 : c2.map = c1.map := Core.map_foldl _ (fun c l => c.map_readHalf l) _ _
  have h3 : MapStays s1 s2 n := .setCore_map ((Core.map_foldl _ (fun c (x : Nat × _) => c.map_setCond x.1 _) _ _).trans h2)
  exact .ite (h1.trans h3) ((h1.trans h3).view (State.readView_tallyAdd ..))

theorem MapStays.fillTags (s : State) (n a len : Nat) : MapStays s (s.fillTags n a len) n :=
  .setCore_map (Core.map_foldl _ (fun c sl => by split <;> rfl) _ _)

theorem MapStays.consumeTags (s : State) (n a len : Nat) : MapStays s (s.consumeTags n a len) n :=
  .setCore_map (Core.map_foldl _ (fun c sl => by split <;> rfl) _ _)

theorem MapStays.cntAdd (s : State) (n k amount : Nat) : MapStays s (s.cntAdd n k amount) n := by
  unfold State.cntAdd
  extract_lets s1 s2
  have h1 : MapStays s s1 n := .setCore_map rfl
  refine MapStays.trans (t := s2) ?_ (.of_quiet (Quiet.checkCntBps ..))
  unfold s2
  split
  · exact .ite (h1.view ((State.readView_bsRelease ..).trans (State.readView_updPav ..))) h1
  · exact h1

theorem MapStays.arrive (s : State) (n a : Nat) (d : List PByte) (aow : Nat) (cnt : Option Nat) : MapStays s (s.arrive n a d aow cnt) n := by
  have h := (MapStays.plotWrite s n a d aow).trans (.fillTags _ n a d.length)
  cases cnt with
  | some k => exact h.trans (.cntAdd ..)
  | none => exact h

/-! ### The mover (10 R276, R283, R284) -/

theorem MapStays.startWalk (s : State) (n id va : Nat) : MapStays s (s.startWalk n id va) n := by
  refine (MapStays.updRun s n .mover id _).trans (.setCore ?_ fun _ => ?_)
  all_goals
    dsimp only
    split <;> rfl

theorem MapStays.pumpSrc (s : State) (n : Nat) (r : Running) : MapStays s (s.pumpSrc n r).2 n := by
  unfold State.pumpSrc
  extract_lets id next
  have hnext : ∀ {t : State} (ch : Chunk) (k : Nat), MapStays s t n → MapStays s (next t ch k) n := fun ch k h => h.trans (.updRun ..)
  clear_value next
  split
  case h_1 => exact .refl s n
  case h_2 => exact hnext _ _ (.refl s n)
  case h_3 a k consume _ _ =>
    split
    · exact .refl s n
    · split
      · exact .updRun ..
      · have hread := MapStays.plotRead s n a k
        exact hnext _ _ (.ite (hread.trans (.consumeTags ..)) hread)
  case h_4 va k org _ _ =>
    split
    · exact .refl s n
    · split
      · next s1 h => exact (MapStays.of_readView n (State.readView_of_translate h)).trans (.startWalk ..)
      · next c s1 h =>
        have h1 := MapStays.of_readView n (State.readView_of_translate h)
        split
        · exact (h1.view (State.readView_tallyAdd ..)).trans (.updRun ..)
        · exact hnext _ _ (h1.trans (.memFault ..))
      · next pa oc s1 h =>
        have h1 := MapStays.of_readView n (State.readView_of_translate h)
        extract_lets p s2 g tier use
        split
        · have h2 : MapStays s s2 n := .ite (h1.view (State.readView_rangeLine ..)) (h1.view (State.readView_tallyAdd ..))
          exact h2.trans (.updRun ..)
        · split
          · exact hnext _ _ (h1.trans (.memFault ..))
          · exact hnext _ _ (h1.view (State.readView_request ..))

theorem MapStays.pumpDst (s : State) (n : Nat) (r : Running) : MapStays s (s.pumpDst n r).2 n := by
  unfold State.pumpDst
  extract_lets id done ready
  have hdone : ∀ {t : State} (k wr : Nat) (p : Bool), MapStays s t n → MapStays s (done t k wr p) n := fun k wr p h => h.trans (.updRun ..)
  clear_value done
  split
  case h_1 => exact .refl s n
  case h_2 =>
    split
    · exact .refl s n
    · exact hdone _ _ _ (.refl s n)
  case h_3 core a k aow cnt _ _ =>
    split
    · exact .refl s n
    · extract_lets d p
      split
      · split
        · exact .refl s n
        · split
          · exact .updRun ..
          · exact hdone _ _ _ (.arrive ..)
      · exact hdone _ _ _ (.of_readView n (State.readView_request ..))
  case h_4 va k org _ _ =>
    split
    · exact .refl s n
    · split
      · next s1 h => exact (MapStays.of_readView n (State.readView_of_translate h)).trans (.startWalk ..)
      · next c s1 h => exact hdone _ _ _ ((MapStays.of_readView n (State.readView_of_translate h)).trans (.memFault ..))
      · next pa oc s1 h =>
        have h1 := MapStays.of_readView n (State.readView_of_translate h)
        extract_lets p g d tier use
        split
        · exact hdone _ _ _ (h1.trans (.memFault ..))
        · exact hdone _ _ _ (h1.view (State.readView_request ..))

theorem MapStays.pumpLoop (fuel n id : Nat) (s : State) : MapStays s (State.pumpLoop fuel n id s) n := by
  induction fuel generalizing s with
  | zero => exact .refl s n
  | succ fuel ih =>
    unfold State.pumpLoop
    split
    · exact .refl s n
    · next r _ =>
      split
      · exact .refl s n
      · have hsrc := MapStays.pumpSrc s n r
        split
        next a s1 h1 =>
        rw [h1] at hsrc
        split
        · exact hsrc
        · next r1 _ =>
          have hdst := MapStays.pumpDst s1 n r1
          split
          next b s2 h2 =>
          rw [h2] at hdst
          exact .ite ((hsrc.trans hdst).trans (ih s2)) (hsrc.trans hdst)

theorem MapStays.pump (s : State) (n : Nat) : MapStays s (s.pump n) n := by
  unfold State.pump
  split
  · exact .pumpLoop ..
  · exact .refl s n

/-- Data that reaches its command leaves the map buffer of the core and the reads under way (10 R273). -/
theorem MapStays.deliver (s : State) (q : Req) (d : List PByte) : MapStays s (s.deliver q d) q.core :=
  (MapStays.updCmd s q.core q.cmd _).trans (.pump ..)

/-- The access that waited for a failed walk goes without its data or its write (10 R283, R289). -/
theorem MapStays.walkFail (s : State) (n va cause : Nat) : MapStays s (s.walkFail n va cause) n := by
  unfold State.walkFail
  split
  · exact .refl s n
  · next r rs _ =>
    extract_lets id here k k'
    have hread := (MapStays.memFault s n cause false va).trans (.updRun _ n .mover id (fun r =>
      { r with srcs := r.srcs.tail, buf := r.buf ++ [{ rid := none, len := k, data := poisonZeros k }], walkWait := false }))
    have hskip := (MapStays.of_readView n (s.readView_tallyAdd 0x1E n 1)).trans
      (.updRun _ n .mover id (fun r => { r with srcs := r.srcs.tail, walkWait := false }))
    exact .ite (.refl s n) (.ite (.ite hskip hread) ((MapStays.memFault ..).trans (.updRun ..)))

end Sys2Proof.Machine
end

section
/-! PROOF. The ends of reads of memory and of the host (10 R271, R273). -/

namespace Sys2Proof.Machine
open Sys2Proof.Safety

/-- The state in which the read `rid` of memory is no longer under way. -/
def State.readAnswered (s : State) (rid : Nat) : State :=
  { s with arb := { s.arb with reads := s.arb.reads.filter (fun x => x.id ≠ rid) } }

/-- The bytes of a read as the Orangery or the tier holds them, and the state that the read leaves (10 R273). -/
def State.readFor (s : State) (q : Req) : List PByte × State :=
  if q.org then s.orgRead q.pav q.pa q.len else s.memRead q.pa q.len

theorem State.readView_readFor (s : State) (q : Req) : (s.readFor q).2.readView = s.readView := by
  unfold State.readFor
  split
  · exact s.readView_orgRead ..
  · exact s.readView_memRead ..

section
variable {s : State} {rid : Nat} {q : Req} (upsets : List MemUpset) (hq : s.arb.reads.find? (fun x => x.id = rid) = some q)
  (hclk : s.power.clockOn = true)
include hq hclk

theorem exec_memoryReadResponse : exec (.memoryReadResponse rid upsets) s =
    .next (((upsets.foldl State.memUpset (s.readAnswered rid)).readFor q).2.deliver q
      ((upsets.foldl State.memUpset (s.readAnswered rid)).readFor q).1) := by
  have h : execMemoryReadResponse rid upsets s = .next _ := State.clocked_on _ hclk
  simp only [hq] at h
  exact h

theorem memoryReadResponse_ends : ∃ s', exec (.memoryReadResponse rid upsets) s = .next s' ∧
    s'.arb.reads = s.arb.reads.filter (fun x => x.id ≠ rid) ∧ s'.arb.host = s.arb.host := by
  refine ⟨_, exec_memoryReadResponse upsets hq hclk, ?_⟩
  have hups : (upsets.foldl State.memUpset (s.readAnswered rid)).readView = (s.readAnswered rid).readView :=
    State.readView_foldl _ (fun t u => t.readView_memUpset u) upsets _
  have hstay := ((MapStays.of_readView q.core hups).view (State.readView_readFor _ q)).trans
    (.deliver _ q ((upsets.foldl State.memUpset (s.readAnswered rid)).readFor q).1)
  exact ⟨hstay.reads, hstay.host⟩

end

/-- The end of a read of a chip unit leaves cores and read requests of cores. -/
theorem State.readView_fetchEnd (s : State) (rid : Nat) (d : Option (List PByte)) : (s.fetchEnd rid d).readView = s.readView := by
  unfold State.fetchEnd
  split
  · rfl
  · exact State.readView_ite ((State.readView_bsResume ..).trans rfl) rfl

/-- The state in which the host-window read `rid` is no longer under way. -/
def State.hostAnswered (s : State) (rid : Nat) : State :=
  { s with arb := { s.arb with host := s.arb.host.filter (fun x => x.id ≠ rid) } }

section
variable {s : State} {rid : Nat} {q : Req} (hq : s.arb.host.find? (fun x => x.id = rid) = some q)
include hq

theorem State.hostEnd_some (d : List PByte) : s.hostEnd rid (some d) =
    (s.hostAnswered rid).deliver q ((d ++ clean (List.replicate q.len 0)).take q.len) := by
  unfold State.hostEnd
  rw [hq]
  rfl

theorem State.hostEnd_none : s.hostEnd rid none = ((s.hostAnswered rid).memFault q.core 6 false q.va).deliver q (poisonZeros q.len) := by
  unfold State.hostEnd
  rw [hq]
  rfl

theorem MapStays.hostEnd (d : Option (List PByte)) : MapStays (s.hostAnswered rid) (s.hostEnd rid d) q.core := by
  cases d with
  | some d =>
    rw [State.hostEnd_some hq]
    exact .deliver ..
  | none =>
    rw [State.hostEnd_none hq]
    exact (MapStays.memFault ..).trans (.deliver ..)

theorem State.hostDone_ends (d : Option (List PByte)) : (s.hostDone rid d).arb.host = s.arb.host.filter (fun x => x.id ≠ rid) ∧
    (s.hostDone rid d).arb.reads = s.arb.reads := by
  have h := (MapStays.hostEnd hq d).view (State.readView_fetchEnd _ rid d)
  exact ⟨h.host, h.reads⟩

/-- A host answer that does not come is the command's memory fault of cause HOST (10 R271, Table 10-6). -/
theorem State.hostDone_faults (hnone : (s.core q.core).map.memFault = 0) (hdrain : (s.core q.core).ctl.drain ≠ .reset) :
    ((s.hostDone rid none).core q.core).map.memFault = q.va % 2 ^ 48 + 6 * 2 ^ 56 := by
  have hfirst : (((s.hostAnswered rid).memFault q.core 6 false q.va).core q.core).map.memFault = q.va % 2 ^ 48 + b2n false * 2 ^ 55 + 6 * 2 ^ 56 :=
    State.memFault_first (s := s.hostAnswered rid) hdrain hnone (by decide)
  have hstay := (MapStays.deliver ((s.hostAnswered rid).memFault q.core 6 false q.va) q (poisonZeros q.len)).view
    (State.readView_fetchEnd _ rid none)
  rw [← State.hostEnd_none hq] at hstay
  exact (hstay.fault (by rw [hfirst]; omega)).trans (hfirst.trans (by simp [b2n]))

end

end Sys2Proof.Machine
end

section
/-! PROOF. Page walks that end, the aging of the map buffers, and the statement on them (02 R52; 10 R276 to R279). -/

namespace Sys2Proof.Machine
open Sys2Proof.Safety

/-! ### Entries of a map buffer (10 R277) -/

theorem Sparse.mem_of_find {α : Type} {m : Sparse α} {k : Nat} {v : α} (h : Sparse.find m k = some v) : (k, v) ∈ m := by
  induction m with
  | nil => cases h
  | cons r m ih =>
    unfold Sparse.find at h
    split at h
    · next hk =>
      cases h
      cases hk
      exact List.mem_cons_self
    · exact List.mem_cons_of_mem _ (ih h)

theorem Sparse.mem_put_self {α : Type} (m : Sparse α) (k : Nat) (v : α) : (k, v) ∈ Sparse.put m k v :=
  Sparse.mem_of_find ((Sparse.find_put ..).trans (if_pos rfl))

/-- A filled map buffer has the entry, and no walk is under way (10 R276, R277). -/
theorem MapSt.fill_spec (m : MapSt) (e : MapEntry) : (∃ k, (k, e) ∈ (m.fill e).entries) ∧ (m.fill e).walk = none ∧
    (m.fill e).memFault = m.memFault := by
  unfold MapSt.fill
  split <;> exact ⟨⟨_, Sparse.mem_put_self ..⟩, rfl, rfl⟩

/-! ### Page walks that end (10 R276, R283) -/

/-- A core whose walk has found the leaf `e`: it is in the map buffer, and no command waits for a walk any more. -/
def Core.walked (c : Core) (e : MapEntry) : Core :=
  { c with map := c.map.fill e, mover := { c.mover with run := c.mover.run.map (fun r => { r with walkWait := false }) } }

/-- A core whose walk is over. -/
def Core.walkEnded (c : Core) : Core := { c with map := { c.map with walk := none } }

def State.walked (s : State) (n : Nat) (e : MapEntry) : State :=
  (s.updCore n (fun k => { k with map := k.map.fill e })).updCore n
    (fun k => { k with mover := { k.mover with run := k.mover.run.map (fun r => { r with walkWait := false }) } })

theorem State.walked_spec (s : State) (n : Nat) (e : MapEntry) : OtherCores n s (s.walked n e) ∧
    (s.walked n e).core n = (s.core n).walked e := by
  unfold State.walked
  simp only [State.updCore_eq, State.core_setCore_self]
  exact ⟨fun m hm => ((Leaves.setCore _ n _).others m hm).trans ((Leaves.setCore s n _).others m hm), rfl⟩

theorem State.pump_idle {s : State} {n : Nat} (h : (s.core n).mover.run = []) : s.pump n = s := by
  unfold State.pump
  rw [h]

section
variable {s s1 : State} {n : CoreIx} {va : Nat} (hva : (s.core n).map.walk = some va) (hclk : s.power.clockOn = true)
include hva hclk

theorem exec_pageWalkComplete_leaf {e : MapEntry} (h : s.walk ((s.owner n).getD 0) va (some n) = (.leaf e, s1)) :
    exec (.pageWalkComplete n) s = .next ((s1.walked n e).pump n) := by
  have hexec : execPageWalkComplete n s = .next _ := State.clocked_on _ hclk
  simp only [hva, h] at hexec
  exact hexec

theorem exec_pageWalkComplete_fail {c : Nat} (h : s.walk ((s.owner n).getD 0) va (some n) = (.fail c, s1)) :
    exec (.pageWalkComplete n) s = .next (((s1.setCore n (s1.core n).walkEnded).walkFail n va c).pump n) := by
  have hexec : execPageWalkComplete n s = .next _ := State.clocked_on _ hclk
  simp only [hva, h] at hexec
  exact hexec

end

section
variable {s s1 : State} {n : CoreIx} {va : Nat} (hva : (s.core n).map.walk = some va) (hclk : s.power.clockOn = true)
include hva hclk

/-- A walk that finds a leaf fills the map buffer (10 R276, R277). -/
theorem pageWalkComplete_fills {e : MapEntry} (h : s.walk ((s.owner n).getD 0) va (some n) = (.leaf e, s1)) :
    ∃ s', exec (.pageWalkComplete n) s = .next s' ∧ ∃ k, (k, e) ∈ (s'.core n).map.entries := by
  refine ⟨_, exec_pageWalkComplete_leaf hva hclk h, ?_⟩
  rw [(MapStays.pump ..).entries, (s1.walked_spec n e).2]
  exact (MapSt.fill_spec ..).1

theorem pageWalkComplete_keeps_entries {c : Nat} (h : s.walk ((s.owner n).getD 0) va (some n) = (.fail c, s1)) :
    ∃ s', exec (.pageWalkComplete n) s = .next s' ∧ (s'.core n).map.entries = (s.core n).map.entries := by
  refine ⟨_, exec_pageWalkComplete_fail hva hclk h, ?_⟩
  rw [(MapStays.pump ..).entries, (MapStays.walkFail ..).entries, State.core_setCore_self, State.core_of_readView (State.readView_of_walk h)]
  rfl

/-- With nothing in the mover, a walk that finds a leaf changes its core's map buffer alone. -/
theorem pageWalkComplete_fills_idle {e : MapEntry} (hidle : (s.core n).mover.run = [])
    (h : s.walk ((s.owner n).getD 0) va (some n) = (.leaf e, s1)) : ∃ s', exec (.pageWalkComplete n) s = .next s' ∧
      OtherCores n s s' ∧ (s'.core n).map.walk = none ∧ (∃ k, (k, e) ∈ (s'.core n).map.entries) ∧
      (s'.core n).map.memFault = (s.core n).map.memFault := by
  have hsame := State.core_of_readView (State.readView_of_walk h)
  obtain ⟨hothers, hcore⟩ := s1.walked_spec n e
  rw [hsame] at hcore
  have hpump : (s1.walked n e).pump n = s1.walked n e := State.pump_idle (by rw [hcore, Core.walked, hidle]; rfl)
  obtain ⟨hfilled, hwalk, hfault⟩ := (s.core n).map.fill_spec e
  refine ⟨_, hpump ▸ exec_pageWalkComplete_leaf hva hclk h, fun m hm => (hothers m hm).trans (hsame m), ?_⟩
  rw [hcore]
  exact ⟨hwalk, hfilled, hfault⟩

/-- With nothing in the mover, a walk that fails leaves its core as it was, without the walk. -/
theorem pageWalkComplete_fails_idle {c : Nat} (hidle : (s.core n).mover.run = [])
    (h : s.walk ((s.owner n).getD 0) va (some n) = (.fail c, s1)) : ∃ s', exec (.pageWalkComplete n) s = .next s' ∧
      OtherCores n s s' ∧ (s'.core n).map = { (s.core n).map with walk := none } := by
  have hsame := State.core_of_readView (State.readView_of_walk h)
  have hexec := exec_pageWalkComplete_fail hva hclk h
  have hcore := s1.core_setCore_self n (s1.core n).walkEnded
  generalize hs2 : s1.setCore n (s1.core n).walkEnded = s2 at hexec hcore
  have hrun : (s2.core n).mover.run = [] := by
    rw [hcore, hsame]
    exact hidle
  have hfail : s2.walkFail n va c = s2 := by
    unfold State.walkFail
    rw [hrun]
  rw [hfail, State.pump_idle hrun] at hexec
  refine ⟨s2, hexec, fun m hm => ?_, ?_⟩
  · rw [← hs2, (Leaves.setCore s1 n _).others m hm, hsame]
  · rw [hcore, hsame]
    rfl

/-- The access at the head of the mover that waits for a failed walk is a memory fault (10 R283). -/
theorem pageWalkComplete_faults {k c : Nat} {r : Running} {org : Bool} {rest : List SrcPiece}
    (hrun : (s.core n).mover.run = [r]) (hwait : r.walkWait = true) (hsrcs : r.srcs = .mem va k org :: rest) (hrange : isRange r.cmd.op = false)
    (hnone : (s.core n).map.memFault = 0) (hdrain : (s.core n).ctl.drain ≠ .reset)
    (h : s.walk ((s.owner n).getD 0) va (some n) = (.fail c, s1)) : ∃ s', exec (.pageWalkComplete n) s = .next s' ∧ OtherCores n s s' ∧
      (s'.core n).map.memFault = va % 2 ^ 48 + c * 2 ^ 56 ∧ (s'.core n).map.entries = (s.core n).map.entries := by
  have hsame := State.core_of_readView (State.readView_of_walk h)
  have hset := (Leaves.setCore s1 n (s1.core n).walkEnded).others
  have hcore : (s1.setCore n (s1.core n).walkEnded).core n = (s.core n).walkEnded := by rw [State.core_setCore_self, hsame]
  have hexec := exec_pageWalkComplete_fail hva hclk h
  generalize s1.setCore n (s1.core n).walkEnded = s2 at hexec hset hcore
  have hfail : ∃ f, s2.walkFail n va c = (s2.memFault n c false va).updRun n .mover r.cmd.id f := by
    have hrun2 : (s2.core n).mover.run = [r] := by rw [hcore]; exact hrun
    unfold State.walkFail
    simp only [hrun2, hwait, hsrcs, hrange, Bool.not_true, Bool.false_eq_true, if_false, decide_true, if_true]
    exact ⟨_, rfl⟩
  obtain ⟨f, hfail⟩ := hfail
  have hcause := State.cause_ne_zero_of_walk h
  have hfirst : ((s2.memFault n c false va).core n).map.memFault = va % 2 ^ 48 + b2n false * 2 ^ 55 + c * 2 ^ 56 :=
    State.memFault_first (by rw [hcore]; exact hdrain) (by rw [hcore]; exact hnone) hcause
  have hstay : MapStays (s2.memFault n c false va) ((s2.walkFail n va c).pump n) n := hfail ▸ (MapStays.updRun ..).trans (.pump ..)
  have hall := (MapStays.memFault s2 n c false va).trans hstay
  refine ⟨_, hexec, fun m hm => ?_, ?_, ?_⟩
  · rw [hall.others m hm, hset m hm, hsame]
  · rw [hstay.fault (by rw [hfirst]; omega), hfirst]
    simp [b2n]
  · rw [hall.entries, hcore]
    rfl

end

/-! ### Aging of the map buffers (02 R52; 10 R279) -/

theorem State.elapse_only (s : State) (dt : Nat) : Only [.time, .cyc, .pavs, .tally] s (s.elapse dt) := by
  obtain ⟨t, x, c, y, p, hs, -⟩ := s.elapse_spec dt
  rw [hs]
  refine only_iff_mask.2 ?_
  simp [mask]

theorem State.elapseTo_only (s : State) (t : Nat) : Only [.time, .cyc, .pavs, .tally] s (s.elapseTo t) :=
  List.foldlRecOn (motive := fun u : State => Only [.time, .cyc, .pavs, .tally] s u) _ _ (.refl _ s)
    fun u hu _ _ => hu.trans (u.elapse_only (u.nsTo t))

/-- The count as time passes (02 R33; 19 R526; 23 R609). -/
theorem State.time_elapse (s : State) (dt : Nat) : (s.elapse dt).time =
    if dt = 0 || !s.boot.pwrgood then s.time else if bit s.boot.clk 1 then s.time else s.time.run s.cyc.ns dt := by
  unfold State.elapse
  split
  · rfl
  · obtain ⟨y, hy⟩ := TallyOnly.foldl (fun t (r : Nat × Core) => t.countCore r.1 r.2 (s.cyclesIn dt).1)
      (fun t r => t.countCore_tallyOnly ..) s.cores
      { s with time := if bit s.boot.clk 1 then s.time else s.time.run s.cyc.ns dt,
               cyc := { s.cyc with ns := s.cyc.ns + dt, cycles := s.cyc.cycles + (s.cyclesIn dt).1, frac := (s.cyclesIn dt).2 } }
    dsimp only
    rw [hy]

theorem State.now_le_elapse (s : State) (dt : Nat) : s.time.now ≤ (s.elapse dt).time.now := by
  rw [State.time_elapse]
  split
  · exact Nat.le_refl _
  · split
    · exact Nat.le_refl _
    · exact Nat.le_add_right ..

/-- A steady count counts every nanosecond (02 R33). -/
theorem State.now_elapse_steady {s : State} (h : Steady s) (dt : Nat) : (s.elapse dt).time.now = s.time.now + dt := by
  obtain ⟨hpower, hclock, hoffset, hrate, hfrac⟩ := h
  rw [State.time_elapse]
  by_cases hdt : dt = 0
  · simp [hdt]
  · simp [hdt, hpower, hclock, Sundial.run, Sundial.slewed, Sundial.ahead, hoffset, hrate, hfrac]

theorem State.nsTo_steady {s : State} (h : Steady s) (t : Nat) : s.nsTo t = t - s.time.now := by
  unfold State.nsTo
  simp [h.rate, Sundial.ahead, h.offset]

theorem State.le_elapseTo_steady {s : State} (h : Steady s) (t : Nat) : t ≤ (s.elapseTo t).time.now := by
  have hfirst : t ≤ (s.elapse (s.nsTo t)).time.now := by
    rw [State.now_elapse_steady h, State.nsTo_steady h]
    omega
  have hsplit : s.elapseTo t = ((List.range 7).map Nat.succ).foldl (fun s _ => s.elapse (s.nsTo t)) (s.elapse (s.nsTo t)) := by
    unfold State.elapseTo
    rw [List.range_succ_eq_map, List.foldl_cons]
  rw [hsplit]
  exact List.foldlRecOn (motive := fun u : State => t ≤ u.time.now) _ _ hfirst fun u hu _ _ => hu.trans (u.now_le_elapse _)

/-- Every map buffer without the entries walked two frames ago or earlier (10 R279). -/
def State.aged (s : State) : State :=
  { s with cores := s.cores.map (fun r => (r.1, { r.2 with map := r.2.map.drop (fun e => decide (s.frame < e.frame + 2)) })) }

theorem State.aged_only (s : State) : Only [.cores] s s.aged := only_iff_mask.2 (mask_cores s (by decide) _)

theorem State.frame_aged (s : State) : s.aged.frame = s.frame := rfl

theorem State.core_aged (s : State) (n : Nat) :
    s.aged.core n = { s.core n with map := (s.core n).map.drop (fun e => decide (s.frame < e.frame + 2)) } :=
  Sparse.getD_map (fun c : Core => ({ c with map := c.map.drop (fun e => decide (s.frame < e.frame + 2)) } : Core)) s.cores n {}

theorem State.mem_entries_aged (s : State) (n k : Nat) (e : MapEntry) :
    (k, e) ∈ (s.aged.core n).map.entries ↔ (k, e) ∈ (s.core n).map.entries ∧ s.frame < e.frame + 2 := by
  rw [State.core_aged]
  simp [MapSt.drop]

theorem exec_mapBufferAging {s : State} {t : Nat} (hclk : s.power.clockOn = true) (hat : s.agingAt = some t)
    (hturn : s.turn { at_ := t, rank := 7 } = true) : exec .mapBufferAging s = .next (s.elapseTo t).aged := by
  have hexec : execMapBufferAging s = .next _ := State.clocked_on _ hclk
  simp only [hat, hturn, Bool.not_true, Bool.false_eq_true, if_false] at hexec
  exact hexec

theorem exec_mapBufferAging_none {s : State} (h : s.agingAt = none) : exec .mapBufferAging s = .next s := by
  have hexec : exec .mapBufferAging s = execMapBufferAging s := rfl
  rw [hexec]
  unfold execMapBufferAging State.clocked
  simp [h]

theorem mapBufferAging_drops {s : State} {t : Nat} (hclk : s.power.clockOn = true) (hat : s.agingAt = some t)
    (hturn : s.turn { at_ := t, rank := 7 } = true) : ∃ s', exec .mapBufferAging s = .next s' ∧
      Only [.time, .cyc, .pavs, .cores, .tally] s s' ∧ (Steady s → t ≤ s'.time.now) ∧
      ∀ n k e, (k, e) ∈ (s'.core n).map.entries ↔ (k, e) ∈ (s.core n).map.entries ∧ s'.frame < e.frame + 2 := by
  have htime := s.elapseTo_only t
  have hcores := State.core_congr (s := s) (t := s.elapseTo t) (by simpa using htime.cores)
  have hexec := exec_mapBufferAging hclk hat hturn
  have hnow := fun hsteady : Steady s => State.le_elapseTo_steady hsteady t
  generalize s.elapseTo t = s1 at htime hcores hexec hnow
  refine ⟨_, hexec, (htime.mono (by decide)).trans (s1.aged_only.mono (by decide)), hnow, fun n k e => ?_⟩
  rw [State.mem_entries_aged, State.frame_aged, hcores]

theorem State.agingAt_le {s : State} {t n k : Nat} {e : MapEntry} (hat : s.agingAt = some t) (he : (k, e) ∈ (s.core n).map.entries) :
    t ≤ 250000 * (e.frame + 2) := by
  have hcore : (n, s.core n) ∈ s.cores := by
    unfold State.core Sparse.getD at he ⊢
    cases hfind : Sparse.find s.cores n with
    | none =>
      rw [hfind] at he
      cases he
    | some c => exact Sparse.mem_of_find hfind
  have hframe : e.frame ∈ s.cores.flatMap (fun r => r.2.map.entries.map (fun e => e.2.frame)) :=
    List.mem_flatMap.2 ⟨_, hcore, List.mem_map.2 ⟨_, he, rfl⟩⟩
  unfold State.agingAt at hat
  split at hat
  · cases hat
  · next f l hl =>
    rw [hl] at hframe
    have hle : l.foldl min f ≤ e.frame := (List.min?_eq_some_iff.1 List.min?_cons').2 _ hframe
    cases hat
    omega

/-- Settles O17, by what the ends of reads and walks leave of a core's map buffer and of the reads under way, and by the entries that an aging
keeps. -/
theorem memoryEvents : Obligations.MemoryEvents := by
  unfold Obligations.MemoryEvents
  refine ⟨fun s rid upsets q hq hclk => memoryReadResponse_ends upsets hq hclk, fun s rid ok ep data q hq => ⟨?answer, ?timeout, ?hostFault⟩,
    fun s n va hva hclk => ⟨fun e s1 h => pageWalkComplete_fills hva hclk h, fun c s1 h => pageWalkComplete_keeps_entries hva hclk h⟩,
    fun s n va hva hidle => ⟨fun e s1 h hclk => pageWalkComplete_fills_idle hva hclk hidle h,
      fun c s1 h hclk => pageWalkComplete_fails_idle hva hclk hidle h⟩,
    fun s n va k c r org rest s1 hva hrun hwait hsrcs hrange hnone hdrain h hclk =>
      pageWalkComplete_faults hva hclk hrun hwait hsrcs hrange hnone hdrain h,
    fun s t hclk hat hturn => mapBufferAging_drops hclk hat hturn, fun s t n k e hat he => State.agingAt_le hat he,
    fun s h => exec_mapBufferAging_none h⟩
  case answer => exact ⟨_, rfl, State.hostDone_ends hq _⟩
  case timeout => exact ⟨_, rfl, State.hostDone_ends hq none⟩
  case hostFault =>
    intro hnone hdrain
    exact ⟨_, rfl, (State.hostDone_ends hq none).1, State.hostDone_faults hq hnone hdrain⟩

end Sys2Proof.Machine
end

section
/-! PROOF. The last answer of a Dice round (11 R308, R315): a port with more ROUTEs than the round counter has numbers. -/

namespace Sys2Proof.Machine

/-- A ROUTE of no tokens. -/
def emptyRoute : LongCmd :=
  { id := 1, op := 0x30, strm := .access, addr := 0, w0 := 0, x1 := 0, x2 := 0, a := 0, b := 0, c := 0, desc1 := 0, desc2 := 0, rngs := [] }

/-- Round 3 in its last phase, which waits for the answer of chip 0 alone. -/
def lastRound : DRound :=
  { num := 3, openAt := 0, isOpen := false, phase := 0, frame := 0, hold := 0, srcs := [], toks := [], choices := [], awaiting := [0], skips := [] }

def lastAnswer : Msg := { dst := 0, src := 0, dpav := 0, spav := 0, kind := 2, hops := 0, arg0 := 0, arg1 := 3, data := [], level := 3 }

/-- The Dice in that phase. A load without entries is due at round 4, and 255 entries at the port name a started ROUTE, the last entry none: each
round of the new table takes one ROUTE (DICE_CORES is 1) and ends at once for want of a home chip. -/
def crowdedDice : DiceSt :=
  { active := [(0, 2 ^ 63)], eff := [(3, 0)], loaded := true, commitRound := 4, round := 3, rnd := some lastRound,
    waiting := List.replicate 255 { core := 0, cmd := 1 } ++ [{ core := 1, cmd := 1 }] }

def crowdedChip : State :=
  { power := { clockOn := true }, objs := [(okey 0x2310 3, 0)], cores := [(0, { dice := { run := [{ cmd := emptyRoute }] } })]
    pavs := [(0, { st := .active, dice := crowdedDice })], link := { delivered := [lastAnswer] } }

/-- Number and phase of the round in progress in Pavilion 0. -/
def State.roundPhase (s : State) : Option (Nat × Nat) := (s.pav 0).dice.rnd.map (fun r => (r.num, r.phase))

/-- The outcome is a next state with this number and phase of the round in progress. -/
def reachesRound (x : Option (Nat × Nat)) : Host.Outcome State Fault Refusal → Bool
  | .next s => s.roundPhase == x
  | _ => false

/-- After 255 rounds that end at once, a round with the number of the one that was answered stands open in phase 0. -/
theorem diceOutcomeReceived_crowdedChip : reachesRound (some (3, 0)) (exec (.diceOutcomeReceived 0) crowdedChip) = true := by decide +kernel

/-- Refutes O22: in its last clause a round that has been answered whole and has the number of the round in progress afterwards must be one phase
further. Where the port holds ROUTEs for 256 rounds of an empty table, the counter of 8 bits comes round to the same number within the one
command, and the round in progress is a new one. -/
theorem not_diceRounds : ¬ Obligations.DiceRounds := by
  unfold Obligations.DiceRounds
  rintro ⟨-, -, -, houtcome⟩
  obtain ⟨-, hanswer⟩ := houtcome crowdedChip { crowdedChip with link := { delivered := [] } } 0 lastAnswer rfl rfl
  obtain ⟨-, hwhole⟩ := hanswer lastRound _ _ rfl rfl (by decide) (by decide) (fun _ => Iff.rfl) (fun _ _ => Iff.rfl)
  obtain ⟨s', hexec, hphase⟩ := hwhole (by decide) (fun c hc => absurd hc List.not_mem_nil) (by decide) rfl (by decide)
  have hrun := diceOutcomeReceived_crowdedChip
  rw [hexec] at hrun
  obtain ⟨r, hrnd, hr⟩ := Option.map_eq_some_iff.1 (beq_iff_eq.1 hrun)
  obtain ⟨hnum, hphase0⟩ := Prod.mk.inj hr
  exact absurd (hphase0.symm.trans (hphase r hrnd hnum)) (by decide)

end Sys2Proof.Machine
end

section
/-! PROOF. A checked write of a number is answered at once with the status of its effect (03 R69 to R74, R90). -/

namespace Sys2Proof.Machine
open Sys2Proof.Safety

theorem State.touch_only (s : State) (who : Requester) : Only [.dict] s (s.touch who) := by
  cases who with
  | mop k => exact only_iff_mask.2 (mask_dict s (by decide) _)
  | _ => exact only_iff_mask.2 rfl

/-- The arrival of a session's record changes no requester's role. -/
theorem State.role_touch (s : State) (who : Requester) : (s.touch who).role who = s.role who := by
  cases who with
  | mop k => simp only [State.touch, State.role, State.sess_setSess_self]
  | _ => rfl

theorem State.writeOk_touch (s : State) (who : Requester) (i sub : Nat) : (s.touch who).writeOk who i sub none = s.writeOk who i sub none := by
  have hcheck : ∀ r : Role, (s.touch who).reach r i sub = s.reach r i sub ∧ (s.touch who).writeCheck r i sub = s.writeCheck r i sub := by
    intro r
    cases who <;> exact ⟨rfl, rfl⟩
  unfold State.writeOk
  rw [s.role_touch, (hcheck _).1, (hcheck _).2]

theorem State.reach_of_writeOk {s : State} {who : Requester} {i sub : Nat} {o : ObjInfo} (h : s.writeOk who i sub none = .ok o) :
    s.reach (s.role who) i sub = some o := by
  unfold State.writeOk at h
  split at h
  · cases h
  · next o' ho =>
    rw [if_neg (by simp)] at h
    split at h
    · cases h
    · cases h; exact ho

theorem State.closeOwn_of_ne {s : State} {who : Requester} {i sub st : Nat} (h : i ≠ 0x1200) : s.closeOwn who i sub st = s := by
  unfold State.closeOwn
  split
  · simp [h]
  · rfl

/-- A write that is taken is answered with the status of its effect, which it has on the state in which its record has arrived. -/
theorem State.putRow_takes {s : State} {who : Requester} {i sub len v : Nat} (h : Takes s who i sub len v)
    (hkeep : objKeep i sub (v % 256 ^ len) = v % 256 ^ len) (hown : i ≠ 0x1200) :
    s.putRow who i sub len v = .next (((s.touch who).applyWrite who i sub (v % 256 ^ len)).2.respond who
      ((s.touch who).applyWrite who i sub (v % 256 ^ len)).1 0) := by
  obtain ⟨⟨hlive, hphase, hup, hstill, hfirst, hpath⟩, o, hok, hbytes, hlen, hrange⟩ := h
  obtain ⟨t, ht⟩ : ∃ t, t = s.touch who := ⟨_, rfl⟩
  have hsame : t.boot = s.boot ∧ t.fw = s.fw ∧ t.dict.queue = s.dict.queue ∧ t.vfResetting who.ix = s.vfResetting who.ix := by
    subst ht
    cases who <;> exact ⟨rfl, rfl, rfl, rfl⟩
  obtain ⟨hboot, hfw, hqueue, hreset⟩ := hsame
  have hheld : t.heldReqs who.ix = [] := by simp [State.heldReqs, hqueue, hfirst]
  have hwrite : t.writeOk who i sub none = .ok o := by rw [ht, s.writeOk_touch, hok]
  have hi3c : t.noI3c who i sub = false := by simp [State.noI3c, State.reach_of_writeOk hwrite, hbytes]
  have hput : t.put who i sub none 0 len v = ((t.applyWrite who i sub (v % 256 ^ len)).1, 0, (t.applyWrite who i sub (v % 256 ^ len)).2) := by
    simp [State.put, hwrite, State.writeValue, hbytes, ← hlen, hkeep, hrange]
  rw [← ht]
  calc s.putRow who i sub len v = .next (t.offer (.put who i sub 0 len v)) := by
        simp only [State.putRow, State.ask, hlive, ← ht, hheld, Bool.not_true, Bool.false_eq_true, if_false]
    _ = .next (t.runReq (.put who i sub 0 len v)) := by
        have h0 : s.boot.phase ≠ 0 := by omega
        have h1 : s.boot.phase ≠ 1 := by omega
        simp [State.offer, DReq.who, hreset, hpath, State.offerAt, hboot, hfw, hup, hstill, h0, h1]
    _ = _ := by
        simp only [State.runReq, hi3c, hput, Bool.false_eq_true, if_false, State.closeOwn_of_ne hown]

end Sys2Proof.Machine
end

section
/-! PROOF. What reads of the tiers and of the Orangery, and the reads of a Pavilion's unit, may change (10 R276, R285 to R293; 16 R436). -/

namespace Sys2Proof.Machine
open Sys2Proof.Safety

/-! ### Reads of the tiers and of the Orangery (10 R285 to R293; 18 R497 to R502) -/

/-- What such reads may change: the tiers, the Orangery, the log, the Tally counters and the interrupts. -/
def tierFlds : List Fld := [.mem, .mmeta, .org, .log, .tally, .fns, .out]

def TierOnly (s t : State) : Prop := Only tierFlds s t

theorem TierOnly.refl (s : State) : TierOnly s s := Only.refl _ s

theorem TierOnly.trans {s t u : State} (h : TierOnly s t) (g : TierOnly t u) : TierOnly s u := Only.trans h g

theorem TierOnly.of_only {l : List Fld} {s t : State} (h : Only l s t) (hl : ∀ f ∈ l, f ∈ tierFlds) : TierOnly s t := h.mono hl

theorem TierOnly.ite {s t u : State} {c : Prop} [Decidable c] (h : TierOnly s t) (g : TierOnly s u) : TierOnly s (if c then t else u) := by
  split
  · exact h
  · exact g

theorem TierOnly.foldl {α : Type} (f : State → α → State) (h : ∀ s a, TierOnly s (f s a)) (xs : List α) (s : State) :
    TierOnly s (xs.foldl f s) :=
  List.foldlRecOn (motive := fun t : State => TierOnly s t) _ _ (.refl s) fun t ht a _ => ht.trans (h t a)

section
variable (s : State)

theorem State.tierOnly_mmeta (v : MemMeta) : TierOnly s { s with mmeta := v } := only_iff_mask.2 (mask_mmeta s (by decide) v)
theorem State.tierOnly_org (v : Orangery) : TierOnly s { s with org := v } := only_iff_mask.2 (mask_org s (by decide) v)
theorem State.tierOnly_mem (m : Mem) (v : MemMeta) : TierOnly s { s with mem := m, mmeta := v } :=
  only_iff_mask.2 ((mask_mem { s with mmeta := v } (by decide) m).trans (mask_mmeta s (by decide) v))

theorem State.tallyAdd_tierOnly (i j k : Nat) : TierOnly s (s.tallyAdd i j k) := .of_only (s.tallyAdd_tallyOnly i j k).only (by decide)

theorem State.logRec_tierOnly (code unit sev : Nat) (pav : Option Nat) (detail : Nat) : TierOnly s (s.logRec code unit sev pav detail) :=
  .of_only (s.logRecS_only code unit sev pav detail false) (by decide)

theorem State.burstCheck_tierOnly (b : Nat) : TierOnly s (s.burstCheck b) := by
  unfold State.burstCheck
  dsimp only
  split
  · exact s.tallyAdd_tierOnly ..
  · exact (s.tallyAdd_tierOnly ..).trans (State.logRec_tierOnly ..)
  · exact .refl s

theorem State.pipCheck_tierOnly (blk finder : Nat) : TierOnly s (s.pipCheck blk finder).2 := by
  unfold State.pipCheck
  split <;> dsimp only
  · exact s.tallyAdd_tierOnly ..
  · exact ((s.tierOnly_mmeta _).trans (State.tallyAdd_tierOnly ..)).trans (State.logRec_tierOnly ..)
  · exact .refl s

theorem State.burstWrite_tierOnly (pa : Nat) (d : List PByte) (b : Nat) : TierOnly s (s.burstWrite pa d b) := by
  unfold State.burstWrite
  dsimp only
  split
  · exact s.tierOnly_mmeta _
  · exact (s.burstCheck_tierOnly b).trans (State.tierOnly_mmeta ..)

theorem State.memPut_tierOnly (pa : Nat) (d : List PByte) : TierOnly s (s.memPut pa d) := by
  have hbursts := TierOnly.foldl (fun s b => s.burstWrite pa d b) (fun s b => s.burstWrite_tierOnly pa d b) (burstsOf pa d.length) s
  exact hbursts.trans (State.tierOnly_mem ..)

theorem State.writeBack_tierOnly (l : OLine) : TierOnly s (s.writeBack l) := .foldl _ (fun s _ => s.memPut_tierOnly ..) _ s

theorem State.dropDetected_tierOnly (l : OLine) (far : Bool) : TierOnly s (s.dropDetected l far).2 := by
  unfold State.dropDetected
  extract_lets s1 org
  have h1 : TierOnly s s1 := .ite (s.tallyAdd_tierOnly ..) ((s.writeBack_tierOnly l).trans (State.logRec_tierOnly ..))
  exact h1.trans (s1.tierOnly_org _)

theorem State.memRead_tierOnly (pa len : Nat) : TierOnly s (s.memRead pa len).2 := by
  have hdrop : ∀ (ls : List OLine) (t : State), TierOnly t (ls.foldl (fun s l => (s.dropDetected l true).2) t) :=
    TierOnly.foldl _ fun s l => s.dropDetected_tierOnly l true
  have hburst : ∀ (bs : List Nat) (t : State),
      TierOnly t (bs.foldl (fun s b => if s.mmeta.mark.contains b || !s.fromTier pa len b then s else s.burstCheck b) t) :=
    TierOnly.foldl _ fun s b => .ite (.refl s) (s.burstCheck_tierOnly b)
  unfold State.memRead
  dsimp only
  split
  · exact (((hdrop ..).trans (hburst ..)).trans (State.pipCheck_tierOnly ..)).trans (hdrop ..)
  · exact ((hdrop ..).trans (hburst ..)).trans (hdrop ..)

theorem State.farOut_tierOnly (l : OLine) : TierOnly s (s.farOut l) :=
  .ite (s.dropDetected_tierOnly l true) ((s.writeBack_tierOnly l).trans (State.tierOnly_org ..))

theorem State.allocNear_tierOnly (p la : Nat) (d : List PByte) : TierOnly s (s.allocNear p la d) := by
  unfold State.allocNear
  dsimp only
  split
  · exact .refl s
  · exact s.tierOnly_org _

theorem State.allocFar_tierOnly (p la mask dirty : Nat) (d : List PByte) : TierOnly s (s.allocFar p la mask dirty d).2 := by
  unfold State.allocFar
  dsimp only
  split
  · exact .refl s
  · next v _ =>
    cases v with
    | none => exact s.tierOnly_org _
    | some x => exact (s.farOut_tierOnly x).trans (State.tierOnly_org ..)

theorem State.orgFill_tierOnly (p la : Nat) (near far : Bool) : TierOnly s (s.orgFill p la near far).2 := by
  have hread := s.memRead_tierOnly (128 * la) 128
  unfold State.orgFill
  extract_lets lost near far
  split
  next d s1 h =>
  rw [h] at hread
  extract_lets org s2
  have h2 : TierOnly s s2 := by
    refine .ite ?_ hread
    split
    · exact hread.trans (s1.tierOnly_org _)
    · exact .ite hread (hread.trans (s1.allocFar_tierOnly ..))
  exact .ite (h2.trans (s2.allocNear_tierOnly ..)) h2

theorem State.orgRead_tierOnly (p pa len : Nat) : TierOnly s (s.orgRead p pa len).2 := by
  have hagain (l : OLine) (far : Bool) : TierOnly s ((s.dropDetected l far).2.orgFill p (pa / 128) true true).2 :=
    (s.dropDetected_tierOnly l far).trans (State.orgFill_tierOnly ..)
  unfold State.orgRead
  dsimp only
  split
  · next l _ =>
    split
    · exact hagain l false
    · exact s.tierOnly_org _
  · split
    · next l _ =>
      split
      · split
        · exact hagain l true
        · exact s.dropDetected_tierOnly l true
      · exact s.orgFill_tierOnly ..
    · exact s.orgFill_tierOnly ..

/-! ### Reads of a chip unit for its Pavilion (10 R271 to R276, R284; 16 R443) -/

theorem State.walkRead_tierOnly (p pa : Nat) : TierOnly s (s.walkRead p pa none).2 := by
  unfold State.walkRead
  split
  · exact s.memRead_tierOnly ..
  · exact .refl s

end

/-- The state of a pair that is taken apart. -/
theorem TierOnly.of_pair {α : Type} {x : α × State} {a : α} {s s1 : State} (h : x = (a, s1)) (hx : TierOnly s x.2) : TierOnly s s1 := by
  rwa [h] at hx

theorem State.walk_tierOnly (s : State) (p va : Nat) : TierOnly s (s.walk p va none).2 := by
  unfold State.walk
  dsimp only
  split
  · next h1 => exact .of_pair h1 (s.walkRead_tierOnly ..)
  · next h1 => exact .of_pair h1 (s.walkRead_tierOnly ..)
  · next e s1 h1 =>
    have hfirst := TierOnly.of_pair h1 (s.walkRead_tierOnly ..)
    split
    · exact hfirst
    · split
      · split <;> exact hfirst
      · split
        · exact hfirst
        · split
          · next h2 => exact hfirst.trans (.of_pair h2 (s1.walkRead_tierOnly ..))
          · next h2 => exact hfirst.trans (.of_pair h2 (s1.walkRead_tierOnly ..))
          · next h2 =>
            have hsecond := hfirst.trans (.of_pair h2 (s1.walkRead_tierOnly ..))
            split
            · exact hsecond
            · split <;> exact hsecond

theorem State.unitAddr_tierOnly (s : State) (p va len : Nat) (write : Bool) : TierOnly s (s.unitAddr p va len write).2 := by
  unfold State.unitAddr
  split
  · next h => exact .of_pair h (s.walk_tierOnly p va)
  · next h => split <;> exact .of_pair h (s.walk_tierOnly p va)

/-- What the reads of a unit for Pavilion p leave of a state: the cores, the objects, the other Pavilions, and the Pavilion's Dice. -/
structure UnitReads (p : Nat) (s t : State) : Prop where
  cores : t.cores = s.cores
  objs : t.objs = s.objs
  others : OtherPavs p s t
  dice : (t.pav p).dice = (s.pav p).dice

theorem UnitReads.refl (p : Nat) (s : State) : UnitReads p s s := ⟨rfl, rfl, fun _ _ => rfl, rfl⟩

theorem UnitReads.trans {p : Nat} {s t u : State} (h : UnitReads p s t) (g : UnitReads p t u) : UnitReads p s u :=
  ⟨g.cores.trans h.cores, g.objs.trans h.objs, fun q hq => (g.others q hq).trans (h.others q hq), g.dice.trans h.dice⟩

theorem TierOnly.unitReads {s t : State} (h : TierOnly s t) (p : Nat) : UnitReads p s t := by
  have hpav := State.pav_congr (h.pavs.resolve_left (by decide))
  exact ⟨h.cores.resolve_left (by decide), h.objs.resolve_left (by decide), fun q _ => hpav q, congrArg Pav.dice (hpav p)⟩

theorem Pav.dice_mark (v : Pav) (k cls c : Nat) : (v.mark k cls c).2.dice = v.dice := by
  unfold Pav.mark
  dsimp only
  split
  · rfl
  · split <;> rfl

theorem State.mark_unitReads (s : State) (p k cls c : Nat) : UnitReads p s (s.mark p k cls c).2 where
  cores := rfl
  objs := rfl
  others q hq := (s.pav_setPav p _ q).trans (if_neg hq)
  dice := (congrArg Pav.dice (s.pav_setPav_self p _)).trans (Pav.dice_mark ..)

theorem State.unitMark_unitReads (s : State) (p r pa len : Nat) : UnitReads p s (s.unitMark p 1 r pa len) := s.mark_unitReads ..

theorem State.unitHost_unitReads (s : State) (p pa len : Nat) : UnitReads p s (s.unitHost p 1 pa len).2 := by
  unfold State.unitHost
  split
  · exact .refl p s
  · split
    · exact .refl p s
    · have h := s.unitMark_unitReads p 5 pa len
      exact ⟨h.cores, h.objs, h.others, h.dice⟩

theorem State.unitPhys_unitReads (s : State) (p pa len : Nat) (oc : Bool) : UnitReads p s (s.unitPhys p 1 pa len oc).2 := by
  unfold State.unitPhys
  split
  · exact s.unitHost_unitReads ..
  · dsimp only
    split
    · refine List.foldlRecOn (motive := fun x : List PByte × State => UnitReads p s x.2) _ _ (.refl p s) fun x hx a _ => ?_
      have hmark := hx.trans (x.2.unitMark_unitReads p 2 a.1 a.2)
      dsimp only
      split
      · exact hmark.trans ((State.orgRead_tierOnly ..).unitReads p)
      · exact (hmark.trans (State.unitMark_unitReads ..)).trans ((State.orgRead_tierOnly ..).unitReads p)
    · exact (s.unitMark_unitReads ..).trans ((State.memRead_tierOnly ..).unitReads p)

theorem State.unitRead_unitReads (s : State) (p va len : Nat) : UnitReads p s (s.unitRead p va len 1).2 := by
  refine List.foldlRecOn (motive := fun x : UnitR × State => UnitReads p s x.2) _ _ (.refl p s) fun x hx a _ => ?_
  have haddr := x.2.unitAddr_tierOnly p a.1 a.2 false
  dsimp only
  split
  · exact hx
  · split
    · next h => exact hx.trans ((TierOnly.of_pair h haddr).unitReads p)
    · next h => exact (hx.trans ((TierOnly.of_pair h haddr).unitReads p)).trans (State.unitPhys_unitReads ..)

theorem UnitReads.of_read {s t : State} {p va len : Nat} {r : UnitR} (h : s.unitRead p va len 1 = (r, t)) : UnitReads p s t := by
  have hread := s.unitRead_unitReads p va len
  rwa [h] at hread

end Sys2Proof.Machine
end

section
/-! PROOF. DICE_LOAD and the end of its copy (10 R271; 11 R303 to R306). -/

namespace Sys2Proof.Machine
open Sys2Proof.Safety

/-! ### A change of a Pavilion's Dice -/

section
variable (s : State) (p : Nat) (f : DiceSt → DiceSt)

@[simp] theorem State.dice_updDice : ((s.updDice p f).pav p).dice = f (s.pav p).dice := congrArg Pav.dice (s.pav_setPav_self p _)

theorem State.updDice_otherPavs : OtherPavs p s (s.updDice p f) := fun q hq => (s.pav_setPav p _ q).trans (if_neg hq)

theorem State.updDice_only : Only [.pavs] s (s.updDice p f) := only_iff_mask.2 (mask_pavs s (by decide) _)

end

/-! ### DICE_LOAD (11 R304, R305) -/

theorem State.applyWrite_diceLoad (s : State) (who : Requester) (p : PavIx) (v : Nat) :
    s.applyWrite who (0x2310 + p) 0xC v = s.diceLoad p v := by
  fin_cases p <;> rfl

theorem exec_diceLoad {s : State} {who : Requester} {p : PavIx} (h : Takes s who (0x2310 + p) 0xC 1 1) :
    exec (.diceLoad who p 1) s = .next (((s.touch who).diceLoad p 1).2.respond who ((s.touch who).diceLoad p 1).1 0) := by
  have hkeep : objKeep (0x2310 + p) 0xC (1 % 256 ^ 1) = 1 % 256 ^ 1 := by
    fin_cases p <;> rfl
  rw [← State.applyWrite_diceLoad]
  exact State.putRow_takes h hkeep (by omega)

/-- The Dice as it takes a load (11 R304). -/
def State.diceLoading (s : State) (p : Nat) (d : DiceSt) : DiceSt :=
  { d with loading := true, failed := false, late := false, commitRound := s.obj (diceIx p) 0xB, loadE := s.obj (diceIx p) 1,
           loadSrc := s.obj (diceIx p) 0xA }

section
variable {s : State} {who : Requester} {p : PavIx} (h : Takes s who (0x2310 + p) 0xC 1 1)
include h

theorem diceLoad_starts (hloading : (s.pav p).dice.loading = false) (hloaded : (s.pav p).dice.loaded = false) :
    ∃ s', exec (.diceLoad who p 1) s = .next s' ∧ Only [.pavs, .dict, .out] s s' ∧ OtherPavs p s s' ∧ Answered s s' who 0 0 ∧
      (s'.pav p).dice = s.diceLoading p (s.pav p).dice := by
  have htouch := s.touch_only who
  have hpav : ∀ q, (s.touch who).pav q = s.pav q := State.pav_congr (htouch.pavs.resolve_left (by decide))
  have hobj : ∀ i j, (s.touch who).obj i j = s.obj i j := State.obj_congr (htouch.objs.resolve_left (by decide))
  have hout : (s.touch who).out = s.out := htouch.out.resolve_left (by decide)
  have hload : (s.touch who).diceLoad p 1 = (stOk, (s.touch who).updDice p (s.diceLoading p)) := by
    simp only [State.diceLoad, hpav, hloading, hloaded, hobj, Bool.or_self, Bool.false_eq_true, if_false]
    rfl
  rw [exec_diceLoad h, hload]
  refine ⟨_, rfl, ?_, fun q hq => ?_, ?_, ?_⟩
  · exact ((htouch.mono (by decide)).trans ((State.updDice_only ..).mono (by decide))).trans (only_iff_mask.2 (mask_out _ (by decide) _))
  · exact (State.updDice_otherPavs _ _ _ q hq).trans (hpav q)
  · exact congrArg (· ++ [_]) hout
  · exact (State.dice_updDice ..).trans (congrArg _ (congrArg Pav.dice (hpav p)))

theorem diceLoad_pending (hbusy : (s.pav p).dice.loading = true ∨ (s.pav p).dice.loaded = true) :
    ∃ s', exec (.diceLoad who p 1) s = .next s' ∧ Only [.dict, .out] s s' ∧ Answered s s' who 0x104 0 := by
  have htouch := s.touch_only who
  have hpav : (s.touch who).pav p = s.pav p := State.pav_congr (htouch.pavs.resolve_left (by decide)) p
  have hload : (s.touch who).diceLoad p 1 = (dicePending, s.touch who) := by
    rcases hbusy with hb | hb <;> simp [State.diceLoad, hpav, hb]
  rw [exec_diceLoad h, hload]
  exact ⟨_, rfl, (htouch.mono (by decide)).trans (only_iff_mask.2 (mask_out _ (by decide) _)),
    congrArg (· ++ [_]) (htouch.out.resolve_left (by decide))⟩

end

/-! ### The end of the copy (11 R303, R304, R306) -/

/-- Entry i of a table of 8-byte entries. -/
def tableEntry (b : List PByte) (i : Nat) : Nat := leNat (rawBytes ((b.drop (8 * i)).take 8))

/-- The capacities on this chip of the first n entries of a table (11 R303). -/
def State.tableCaps (s : State) (b : List PByte) (n : Nat) : Nat :=
  ((List.range n).map (fun i => if exV (tableEntry b i) && exChip (tableEntry b i) = s.chipId then exCap (tableEntry b i) else 0)).sum

/-- The table that a load has read fails it (11 R303). -/
def State.tableFails (s : State) (p : Nat) (b : List PByte) : Bool :=
  (List.range (s.pav p).dice.loadE).any (fun i => entryFails (s.obj (diceIx p) 8) (tableEntry b i)) ||
    decide (65536 < s.tableCaps b (s.pav p).dice.loadE)

/-- The bank that the first n entries of a table fill. -/
def standbyOf (b : List PByte) (n : Nat) : Sparse Nat := ((List.range n).map (fun i => (i, tableEntry b i))).filter (fun e => e.2 ≠ 0)

/-- A load without its copy: failed, or with its bank full. -/
def DiceSt.loadFailed (d : DiceSt) : DiceSt := { d with loading := false, failed := true }
def DiceSt.loadDone (d : DiceSt) (bank : Sparse Nat) : DiceSt := { d with loading := false, loaded := true, standby := bank }

theorem State.tableFails_iff (s : State) (p : Nat) (b : List PByte) : s.tableFails p b = true ↔
    (∃ i, i < (s.pav p).dice.loadE ∧ entryFails (s.obj (diceIx p) 8) (tableEntry b i) = true) ∨
      65536 < s.tableCaps b (s.pav p).dice.loadE := by
  simp [State.tableFails]

/-- A key of a table without its entries of 0 reads as before. -/
theorem Sparse.getD_filter_ne_zero (g : Nat → Nat) (l : List Nat) (i : Nat) :
    Sparse.getD ((l.map (fun i => (i, g i))).filter (fun e => e.2 ≠ 0)) i 0 = if i ∈ l then g i else 0 := by
  induction l with
  | nil => rfl
  | cons j l ih =>
    rw [List.map_cons, List.filter_cons]
    by_cases hj : j = i
    · subst hj
      by_cases hg : g j = 0
      · simpa [hg] using ih
      · simp [hg, Sparse.getD, Sparse.find]
    · have hmem : i ∈ j :: l ↔ i ∈ l := by simp [Ne.symm hj]
      simp only [hmem, ← ih]
      split
      · simp [Sparse.getD, Sparse.find, hj]
      · rfl

theorem getD_standbyOf {n i : Nat} (b : List PByte) (h : i < n) : Sparse.getD (standbyOf b n) i 0 = tableEntry b i := by
  rw [standbyOf, Sparse.getD_filter_ne_zero, if_pos (List.mem_range.2 h)]

section
variable {s t : State} {p : PavIx} (hclk : s.power.clockOn = true) (hloading : (s.pav p).dice.loading = true)
include hclk hloading

theorem exec_diceLoadCopyDone_wait (hread : s.unitRead p (s.pav p).dice.loadSrc (8 * (s.pav p).dice.loadE) 1 = (.wait, t)) :
    exec (.diceLoadCopyDone p) s = .next t := by
  calc exec (.diceLoadCopyDone p) s = execDiceLoadCopyDone p s := rfl
    _ = .next t := by simp [execDiceLoadCopyDone, State.clocked_on _ hclk, hloading, hread]

theorem exec_diceLoadCopyDone_error {c : Nat} (hread : s.unitRead p (s.pav p).dice.loadSrc (8 * (s.pav p).dice.loadE) 1 = (.error c, t)) :
    exec (.diceLoadCopyDone p) s = .next ((t.unitEnd p 1).updDice p DiceSt.loadFailed) := by
  calc exec (.diceLoadCopyDone p) s = execDiceLoadCopyDone p s := rfl
    _ = _ := by
      simp only [execDiceLoadCopyDone, State.clocked_on _ hclk, hloading, hread, Bool.not_true, Bool.false_eq_true, if_false]
      rfl

theorem exec_diceLoadCopyDone_ok {b : List PByte}
    (hread : s.unitRead p (s.pav p).dice.loadSrc (8 * (s.pav p).dice.loadE) 1 = (.ok b, t)) :
    exec (.diceLoadCopyDone p) s = .next (if s.tableFails p b then (t.unitEnd p 1).updDice p DiceSt.loadFailed
      else (t.unitEnd p 1).updDice p (·.loadDone (standbyOf b (s.pav p).dice.loadE))) := by
  have hobj : ∀ i j, (t.unitEnd p 1).obj i j = s.obj i j := State.obj_congr (UnitReads.of_read hread).objs
  calc exec (.diceLoadCopyDone p) s = execDiceLoadCopyDone p s := rfl
    _ = _ := by
      simp only [execDiceLoadCopyDone, State.clocked_on _ hclk, hloading, hread, Bool.not_true, Bool.false_eq_true, if_false, hobj,
        State.chipId, List.any_map, List.map_map]
      rfl

end

/-- What the reads of a unit leave once they are over and the Dice has been changed by `f`. -/
theorem UnitReads.ended {p : Nat} {s t : State} (h : UnitReads p s t) (f : DiceSt → DiceSt) :
    ((t.unitEnd p 1).updDice p f).cores = s.cores ∧ OtherPavs p s ((t.unitEnd p 1).updDice p f) ∧
      (((t.unitEnd p 1).updDice p f).pav p).dice = f (s.pav p).dice :=
  ⟨h.cores, fun q hq => (State.updDice_otherPavs _ _ _ q hq).trans (h.others q hq), (State.dice_updDice ..).trans (congrArg f h.dice)⟩

section
variable {s t : State} {p : PavIx} {b : List PByte} (hclk : s.power.clockOn = true) (hloading : (s.pav p).dice.loading = true)
  (hread : s.unitRead p (s.pav p).dice.loadSrc (8 * (s.pav p).dice.loadE) 1 = (.ok b, t))
include hclk hloading hread

theorem diceLoadCopyDone_fills (hfits : s.tableFails p b = false) : ∃ s', exec (.diceLoadCopyDone p) s = .next s' ∧ s'.cores = s.cores ∧
    OtherPavs p s s' ∧ (s'.pav p).dice = (s.pav p).dice.loadDone (standbyOf b (s.pav p).dice.loadE) := by
  rw [exec_diceLoadCopyDone_ok hclk hloading hread, if_neg (by simp [hfits])]
  exact ⟨_, rfl, (UnitReads.of_read hread).ended _⟩

theorem diceLoadCopyDone_fails (hfails : s.tableFails p b = true) : ∃ s', exec (.diceLoadCopyDone p) s = .next s' ∧
    (s'.pav p).dice = (s.pav p).dice.loadFailed := by
  rw [exec_diceLoadCopyDone_ok hclk hloading hread, if_pos hfails]
  exact ⟨_, rfl, ((UnitReads.of_read hread).ended _).2.2⟩

end

/-- Settles O21, by the answer of a checked write and by what the reads of a unit leave of the objects and of the Dice. -/
theorem diceTable : Obligations.DiceTable := by
  unfold Obligations.DiceTable
  refine ⟨fun s who p h => ⟨diceLoad_starts h, diceLoad_pending h⟩, fun s p hloading => ⟨?fills, ?waits, ?error, ?fails⟩⟩
  case fills =>
    intro b t hread hlegal hcaps hclk
    have hfits : s.tableFails p b = false := by
      rw [← Bool.not_eq_true, State.tableFails_iff]
      rintro (⟨i, hi, hbad⟩ | hover)
      · exact Bool.noConfusion ((hlegal i hi).symm.trans hbad)
      · exact absurd hcaps (Nat.not_le.2 hover)
    obtain ⟨s', hexec, hcores, hothers, hdice⟩ := diceLoadCopyDone_fills hclk hloading hread hfits
    refine ⟨s', hexec, hcores, hothers, ?_⟩
    rw [hdice]
    exact ⟨rfl, rfl, rfl, fun i hi => getD_standbyOf b hi⟩
  case waits =>
    intro t hread hclk
    exact ⟨exec_diceLoadCopyDone_wait hclk hloading hread, (UnitReads.of_read hread).dice⟩
  case error =>
    intro c t hread hclk
    exact ⟨_, exec_diceLoadCopyDone_error hclk hloading hread, (UnitReads.of_read hread).ended _⟩
  case fails =>
    intro b t hread hbad hclk
    exact diceLoadCopyDone_fails hclk hloading hread ((s.tableFails_iff p b).2 hbad)

end Sys2Proof.Machine
end

section
/-! PROOF. The close of a phase that closes the round too (11 R308, R314): a ROUTE of a core of another Pavilion. -/

namespace Sys2Proof.Machine

/-- A ROUTE of one token of no bytes, which counts its writes in counter 1 of core 0. -/
def strayRoute : RSrc :=
  { core := 0, cmd := 1, source := 0, k := 1, count := 1, rowBytes := 0, results := 0, cnt := some 1, rows := [], left := 1 }

/-- An open round with that ROUTE alone, whose one choice is refused. -/
def strayRound : DRound :=
  { num := 3, openAt := 0, isOpen := true, phase := 0, frame := 0, hold := 0, srcs := [strayRoute]
    toks := [{ source := 0, pos := 0, stream := 0, cands := [], used := 0, noExpert := true }]
    choices := [{ source := 0, pos := 0, c := 0, expert := none, probe := 0, state := 3, late := false, noExpert := true }]
    awaiting := [], skips := [] }

/-- The round at its home, with the marker of this chip. -/
def strayHome : HRound :=
  { num := 3, phase := 0, markers := [0], first := none, reqs := [], admitted := [], rows := [], closed := false }

/-- A chip whose core 0 is Pavilion 1's and takes that Pavilion's batches, counter 1 counting their releases (12 R339), while its ROUTE takes part
in the round of Pavilion 0. -/
def strayChip : State :=
  { power := { clockOn := true }, objs := [(okey 0x3010 2, 1)], cores := [(0, { dice := { run := [{ cmd := emptyRoute }] } })]
    pavs := [(0, { st := .active, dice := { rnd := some strayRound, homes := [strayHome] } }), (1, { bs := { eff := [(7, 0), (0xB, 1)] } })] }

/-- The outcome is a next state in which Pavilion 1 has counted `k` releases of its batches. -/
def releasesBatches (k : Nat) : Host.Outcome State Fault Refusal → Bool
  | .next s => (s.pav 1).bs.released == k
  | _ => false

/-- The round is full (DICE_CORES is 1) and closes with the phase: the record of its refused choice counts in core 0. -/
theorem dicePhaseClose_strayChip : releasesBatches 1 (exec (.dicePhaseClose 0) strayChip) = true := by decide +kernel

/-- Refutes O23: in its third clause the close of a phase that has all its markers changes no other Pavilion. The same command closes an open round
that is full, and writes the results of its refused choices: where a ROUTE of the round is of a core that another Pavilion owns, its arrival counter
may be the one that releases that Pavilion's batches. -/
theorem not_diceAdmissionAndResults : ¬ Obligations.DiceAdmissionAndResults := by
  unfold Obligations.DiceAdmissionAndResults
  rintro ⟨⟨-, -, hclose⟩, -⟩
  obtain ⟨s', l, adm, hexec, hothers, -⟩ := hclose strayChip 0 strayHome rfl rfl (.inl (by decide)) rfl
  have hkept : s'.pav 1 = strayChip.pav 1 := hothers (by decide) 1 (by decide)
  have hrun := dicePhaseClose_strayChip
  rw [hexec] at hrun
  have hreleased : (strayChip.pav 1).bs.released = 1 := hkept ▸ beq_iff_eq.1 hrun
  exact absurd hreleased (by decide)

end Sys2Proof.Machine
end

section
/-! PROOF. Hot and evicted KV addresses as the fields of a batch row carry them (12 R341, Table 12-2). -/

namespace Sys2Proof.Machine

/-! ### The place of a position (12 R341) -/

/-- The place of a position that the hot window holds. -/
def hotPlace (e p : Nat) : KvPlace :=
  { hot := (bits e 255 208 + p % 2 ^ bits e 103 99 * (256 * bits e 143 128)) % 2 ^ 48, evict := false, ring := 0, cold := 0 }

theorem kvPlace_of_lt {e p : Nat} (h : p < 2 ^ bits e 103 99) : kvPlace e p = hotPlace e p := if_pos h

theorem kvPlace_of_le {e p h k r b : Nat} (hh : h = 2 ^ bits e 103 99) (hk : k = 256 * bits e 143 128) (hr : r = bits e 113 108 + 1)
    (hb : b = 2 ^ bits e 107 104) (hle : h ≤ p) : kvPlace e p =
      { hotPlace e p with evict := true, ring := (p - h) / b % r
                          cold := (bits e 207 160 + ((p - h) / (b * r) * b + (p - h) % b) * k) % 2 ^ 48 } := by
  subst hh hk hr hb
  exact if_neg (Nat.not_lt.2 hle)

theorem kvPlace_hot (e p : Nat) : (kvPlace e p).hot = (hotPlace e p).hot := by
  rcases Nat.lt_or_ge p (2 ^ bits e 103 99) with hlt | hle
  · rw [kvPlace_of_lt hlt]
  · rw [kvPlace_of_le rfl rfl rfl rfl hle]

/-- Each part of a place fits its field (12 Table 12-2). -/
theorem kvPlace_lt (e p : Nat) : (kvPlace e p).ring < 2 ^ 6 ∧ (kvPlace e p).hot < 2 ^ 48 ∧ (kvPlace e p).cold < 2 ^ 48 := by
  have hpow : 0 < 2 ^ 48 := Nat.two_pow_pos 48
  rcases Nat.lt_or_ge p (2 ^ bits e 103 99) with hlt | hle
  · rw [kvPlace_of_lt hlt]
    exact ⟨Nat.two_pow_pos 6, Nat.mod_lt _ hpow, hpow⟩
  · rw [kvPlace_of_le rfl rfl rfl rfl hle]
    have hsize : bits e 113 108 < 2 ^ 6 := Nat.mod_lt _ (Nat.two_pow_pos 6)
    exact ⟨(Nat.mod_lt _ (Nat.succ_pos _)).trans_le hsize, Nat.mod_lt _ hpow, Nat.mod_lt _ hpow⟩

/-! ### The fields of a batch row (12 Table 12-2) -/

/-- The place stands in its own fields of the row, above stream, class, DEFER and position. -/
theorem bsRowBits_place {id p d : Nat} (e : Nat) (hid : id < 4096) (hp : p < 2 ^ 24) (hd : d < 256) :
    bits (bsRowBits id e p d) 153 153 = b2n (kvPlace e p).evict ∧ bits (bsRowBits id e p d) 159 154 = (kvPlace e p).ring ∧
      bits (bsRowBits id e p d) 207 160 = (kvPlace e p).hot ∧ bits (bsRowBits id e p d) 255 208 = (kvPlace e p).cold := by
  obtain ⟨hring, hhot, hcold⟩ := kvPlace_lt e p
  have hclass : seClass e < 4 := Nat.mod_lt _ (by decide)
  have hlast := b2n_le_one (p = 16777215)
  have hevict := b2n_le_one (kvPlace e p).evict
  simp only [bits, bsRowBits]
  refine ⟨?_, ?_, ?_, ?_⟩ <;> omega

/-- Settles O60: the row carries the place of its position (`bsRowBits_place`), and the place is the one of R341. -/
theorem kvPlacement : Obligations.KvPlacement := by
  unfold Obligations.KvPlacement
  intro id e p d h k r b hid hp hd hh hk hr hb
  obtain ⟨hevict, hring, hhot, hcold⟩ := bsRowBits_place e hid hp hd
  rw [bit_eq_bits, hevict, hring, hhot, hcold, b2n_beq_one]
  refine ⟨?hot, fun hle => ?evicted, fun hlt => ?held⟩
  case hot =>
    subst hh hk
    exact kvPlace_hot e p
  case evicted =>
    rw [kvPlace_of_le hh hk hr hb hle]
    exact ⟨rfl, rfl, rfl⟩
  case held =>
    rw [kvPlace_of_lt (hh ▸ hlt)]
    exact ⟨rfl, rfl, rfl⟩

end Sys2Proof.Machine
end

section
/-! PROOF. BS_ADMIT over I3C, which carries no BLOB, refutes the statement on streams (03 R86; 12 R331). -/

namespace Sys2Proof.Machine
open Sys2Proof.Safety

/-! ### A stream admitted over I3C

The I3C target has the role of an OPERATOR (03 Table 3-4), whose writes of BS_ADMIT pass the checks of role, access and chip state. BS_ADMIT is
a BLOB, and a request for one over I3C fails with OP (03 R86). -/

/-- BS_ADMIT is a BLOB in every Pavilion, and the I3C target does not carry it. -/
theorem State.noI3c_bsAdmit (s : State) (p : PavIx) : s.noI3c .i3c (0x2410 + p) 0xF = true := by
  have hrow : objInfo (0x2410 + p) 0xF = some (obB tBlob .cmd 32 false .rw) := by fin_cases p <;> rfl
  have hreach : s.reach (s.role .i3c) (0x2410 + p) 0xF = some (obB tBlob .cmd 32 false .rw) := by
    unfold State.role
    dsimp only
    split <;> simp [State.reach, hrow]
  unfold State.noI3c
  rw [hreach]
  rfl

/-- Any entry sent to BS_ADMIT over I3C is answered OP, and nothing else changes. -/
theorem exec_bsAdmit_i3c {s : State} (h : Serves s .i3c) (p : PavIx) (e : Nat) :
    exec (.bsAdmit .i3c p e) s = .next (s.respond .i3c stOp 0) := by
  obtain ⟨hlive, hphase, hup, hstill, hfirst, hpath⟩ := h
  have hheld : s.heldReqs Requester.i3c.ix = [] := by simp [State.heldReqs, hfirst]
  have h0 : s.boot.phase ≠ 0 := by omega
  have h1 : s.boot.phase ≠ 1 := by omega
  calc exec (.bsAdmit .i3c p e) s = .next (s.ask .i3c (.put .i3c (0x2410 + p) 0xF 0 32 e)) := rfl
    _ = .next (s.offer (.put .i3c (0x2410 + p) 0xF 0 32 e)) := by
        simp only [State.ask, hlive, State.touch, hheld, Bool.not_true, Bool.false_eq_true, if_false]
    _ = .next (s.runReq (.put .i3c (0x2410 + p) 0xF 0 32 e)) := by
        simp [State.offer, DReq.who, hpath, State.offerAt, hup, hstill, h0, h1]
    _ = .next (s.respond .i3c stOp 0) := by
        simp only [State.runReq, s.noI3c_bsAdmit p, if_true]
        rfl

/-- A chip past milestone 2 whose Pavilion 0 has the slice of stream 5 alone. -/
def oneStreamChip : State :=
  { boot := { pwrgood := true, phase := 2 }, objs := [(okey 0x2410 1, 5), (okey 0x2410 2, 1)] }

theorem serves_oneStreamChip : Serves oneStreamChip .i3c :=
  { live := rfl, phase := by decide, up := rfl, still := rfl, first := rfl, path := rfl }

/-- A BURST stream with ID 5, HOME, a hot window of 1,024 positions, blocks of 256 and one unit of KV bytes per position (12 Table 12-1). -/
def legalEntry : Nat := 5 + 2 ^ 38 + 2 ^ 98 + 10 * 2 ^ 99 + 8 * 2 ^ 104 + 2 ^ 128

/-- Refutes O25: its first clause has a legal entry answered OK whoever writes it, where the write passes the checks of role, access and chip
state. The I3C target passes them as an OPERATOR, and its write is answered OP, BS_ADMIT being a BLOB (03 R86). -/
theorem not_bandstandStreams : ¬ Obligations.BandstandStreams := by
  unfold Obligations.BandstandStreams
  rintro ⟨hadmit, -⟩
  obtain ⟨htaken, -⟩ := hadmit oneStreamChip .i3c 0 legalEntry serves_oneStreamChip ⟨_, rfl⟩ (by decide)
  obtain ⟨s', hexec, -, hok, -⟩ := htaken (by decide) (by decide) (by decide) (fun hcontract => absurd hcontract (by decide))
  have hop : s' = oneStreamChip.respond .i3c stOp 0 := by
    rw [exec_bsAdmit_i3c serves_oneStreamChip] at hexec
    injection hexec with hs
    exact hs.symm
  rw [hop] at hok
  exact absurd (List.append_cancel_left hok) (by decide)

end Sys2Proof.Machine
end

section
/-! PROOF. What messages, records and interrupts leave of the ports and of the rest of the chip (13 R360 to R366; 15 R420). -/

namespace Sys2Proof.Machine
open Sys2Proof.Safety

/-! ### Records and interrupts -/

/-- `t` is `s` but for the fields that `l` names, and the outbox has only grown. -/
structure Tells (l : List Fld) (s t : State) : Prop where
  only : Only l s t
  out : s.out <+: t.out

theorem Tells.refl (l : List Fld) (s : State) : Tells l s s := ⟨.refl l s, List.prefix_rfl⟩

theorem Tells.trans {l : List Fld} {s t u : State} (h : Tells l s t) (g : Tells l t u) : Tells l s u :=
  ⟨h.only.trans g.only, h.out.trans g.out⟩

theorem Tells.mono {l l' : List Fld} {s t : State} (h : Tells l s t) (hl : ∀ f ∈ l, f ∈ l') : Tells l' s t := ⟨h.only.mono hl, h.out⟩

theorem Tells.ite {l : List Fld} {s t u : State} {c : Prop} [Decidable c] (h : Tells l s t) (g : Tells l s u) :
    Tells l s (if c then t else u) := by
  split
  · exact h
  · exact g

theorem Tells.foldl {l : List Fld} {α : Type} (f : State → α → State) (h : ∀ s a, Tells l s (f s a)) (xs : List α) (s : State) :
    Tells l s (xs.foldl f s) :=
  List.foldlRecOn (motive := fun t : State => Tells l s t) _ _ (.refl l s) fun t ht a _ => ht.trans (h t a)

theorem Tells.silent {l : List Fld} {s t : State} (h : Only l s t) (hout : t.out = s.out) : Tells l s t :=
  ⟨h, hout ▸ List.prefix_rfl⟩

theorem State.emit_tells (s : State) (o : Out) : Tells [.out] s (s.emit o) :=
  ⟨only_iff_mask.2 (mask_out s (by decide) _), List.prefix_append ..⟩

theorem State.setFn_tells (s : State) (f : Nat) (v : Fn) : Tells [.fns, .out] s (s.setFn f v) :=
  .silent (only_iff_mask.2 (mask_fns s (by decide) _)) rfl

theorem State.sendIrq_tells (s : State) (f i : Nat) : Tells [.fns, .out] s (s.sendIrq f i) := by
  unfold State.sendIrq
  exact .ite (.refl _ s) (.ite ((State.emit_tells ..).mono (by decide)) (State.setFn_tells ..))

theorem State.raise_tells (s : State) (f i : Nat) : Tells [.fns, .out] s (s.raise f i) := by
  unfold State.raise
  have h := s.setFn_tells f { s.fn f with pending := setBit (s.fn f).pending i true }
  exact .ite (.refl _ s) (.ite h (h.trans (State.sendIrq_tells ..)))

theorem State.logRec_tells (s : State) (code unit sev : Nat) (pav : Option Nat) (detail : Nat) :
    Tells [.log, .fns, .out] s (s.logRec code unit sev pav detail) := by
  unfold State.logRec State.logRecS
  dsimp only
  generalize hs1 : ({ s with log := _ } : State) = s1
  have hlog : Tells [.log, .fns, .out] s s1 := by
    rw [← hs1]
    exact .silent (only_iff_mask.2 (mask_log s (by decide) _)) rfl
  exact .ite (hlog.trans ((s1.raise_tells 0 6).mono (by decide))) hlog

theorem State.tallyAdd_tells (s : State) (i j n : Nat) : Tells [.tally] s (s.tallyAdd i j n) := by
  obtain ⟨y, hy⟩ := s.tallyAdd_tallyOnly i j n
  rw [hy]
  exact .silent (only_iff_mask.2 (mask_tally s (by decide) y)) rfl

/-- A step that names not the ports among what it changes leaves each port. -/
theorem State.port_of_only {l : List Fld} {s t : State} (h : Only l s t) (hports : Fld.ports ∉ l) (q : Nat) : t.port q = s.port q :=
  State.port_congr (h.ports.resolve_left hports) q

theorem State.obj_of_only {l : List Fld} {s t : State} (h : Only l s t) (hobjs : Fld.objs ∉ l) (i sub : Nat) : t.obj i sub = s.obj i sub :=
  State.obj_congr (h.objs.resolve_left hobjs) i sub

/-! ### The choice of the upstream port (02 R40, R41) -/

theorem State.setTime_tells (s : State) (t : Sundial) : Tells [.time, .fns, .out] s { s with time := t } :=
  .silent (only_iff_mask.2 (mask_time s (by decide) t)) rfl

theorem State.setSundial_tells (s : State) (st : Nat) : Tells [.time, .fns, .out] s (s.setSundial st) := by
  unfold State.setSundial
  refine .ite (.refl _ s) ?_
  refine ((s.setTime_tells { s.time with st := st }).trans ((State.raise_tells _ 0 3).mono (by decide))).trans (.foldl _ (fun t p => ?_) _ _)
  exact .ite ((t.raise_tells (p + 1) 10).mono (by decide)) (.refl _ t)

theorem State.enter_tells (s : State) (st : Nat) : Tells [.time, .fns, .out] s (s.enter st) := by
  have h := s.setSundial_tells st
  exact .ite (h.trans (State.setTime_tells ..)) h

theorem State.toHoldover_tells (s : State) : Tells [.time, .fns, .out] s s.toHoldover :=
  (State.setTime_tells ..).trans (State.enter_tells _ 1)

/-- A choice of the upstream port changes the time and what it tells, nothing else. -/
theorem State.reselect_tells (s : State) : Tells [.time, .fns, .out] s s.reselect := by
  unfold State.reselect
  refine .ite (.refl _ s) ?_
  dsimp only
  split
  · exact State.setTime_tells ..
  · exact .ite ((State.setTime_tells ..).trans (State.toHoldover_tells _)) (.ite (State.setTime_tells ..) (State.setTime_tells ..))

/-! ### Messages -/

/-- A port without its transmit queue. -/
def Port.sansTx (p : Port) : Port := { p with tx := [] }

/-- From `s` to `t` messages have been delivered here, queued at ports that are UP, held at injection or counted: `D` holds of the kind of each
message delivered, `J` of each new one at injection (13 R361 to R365). -/
structure Moved (D : Nat → Prop) (J : Inject → Prop) (s t : State) : Prop where
  tells : Tells [.ports, .link, .tally, .log, .fns, .out] s t
  ports : ∀ q, (t.port q).sansTx = (s.port q).sansTx
  down : ∀ q, s.portUp q = false → t.port q = s.port q
  delivered : ∃ l, t.link.delivered = s.link.delivered ++ l ∧ ∀ m ∈ l, D m.kind
  inject : ∀ i ∈ t.link.inject, i ∈ s.link.inject ∨ J i

section
variable {D : Nat → Prop} {J : Inject → Prop}

theorem Moved.refl (s : State) : Moved D J s s :=
  ⟨.refl _ s, fun _ => rfl, fun _ _ => rfl, ⟨[], (List.append_nil _).symm, nofun⟩, fun _ => .inl⟩

/-- A port that is UP for routing is known from what messages leave of it. -/
theorem Moved.portUp {s t : State} (h : Moved D J s t) (q : Nat) : t.portUp q = s.portUp q := by
  have hst := congrArg Port.st (h.ports q)
  have hhold := congrArg Port.peerHold (h.ports q)
  simp only [Port.sansTx] at hst hhold
  simp only [State.portUp, hst, hhold]

theorem Moved.trans {s t u : State} (h : Moved D J s t) (g : Moved D J t u) : Moved D J s u where
  tells := h.tells.trans g.tells
  ports q := (g.ports q).trans (h.ports q)
  down q hq := (g.down q ((h.portUp q).trans hq)).trans (h.down q hq)
  delivered := by
    obtain ⟨l, hl, hD⟩ := h.delivered
    obtain ⟨k, hk, hD'⟩ := g.delivered
    exact ⟨l ++ k, by rw [hk, hl, List.append_assoc], fun m hm => (List.mem_append.1 hm).elim (hD m) (hD' m)⟩
  inject i hi := (g.inject i hi).elim (h.inject i) .inr

theorem Moved.foldl {α : Type} (f : State → α → State) (h : ∀ s a, Moved D J s (f s a)) (xs : List α) (s : State) :
    Moved D J s (xs.foldl f s) :=
  List.foldlRecOn (motive := fun t : State => Moved D J s t) _ _ (.refl s) fun t ht a _ => ht.trans (h t a)

/-- Records, counters and interrupts move no message. -/
theorem Moved.of_tells {s t : State} (h : Tells [.tally, .log, .fns, .out] s t) : Moved D J s t where
  tells := h.mono (by decide)
  ports q := by rw [State.port_of_only h.only (by decide)]
  down q _ := State.port_of_only h.only (by decide) q
  delivered := ⟨[], by rw [h.only.link.resolve_left (by decide), List.append_nil], nofun⟩
  inject i hi := .inl (by rwa [h.only.link.resolve_left (by decide)] at hi)

theorem State.tallyAdd_moved (s : State) (i j n : Nat) : Moved D J s (s.tallyAdd i j n) := .of_tells ((s.tallyAdd_tells i j n).mono (by decide))

theorem State.takeHere_moved {s t : State} {m : Msg} (h : s.takeHere m = .ok t) (hD : D m.kind) : Moved D J s t := by
  unfold State.takeHere at h
  split at h
  · cases h
    exact (State.tallyAdd_moved ..).trans (.of_tells ((State.logRec_tells ..).mono (by decide)))
  · split at h
    · split at h
      · cases h
        exact (State.tallyAdd_moved ..).trans (State.tallyAdd_moved ..)
      · cases h
    · cases h
      refine ⟨.silent (only_iff_mask.2 (mask_link s (by decide) _)) rfl, fun _ => rfl, fun _ _ => rfl,
        ⟨[{ m with arr := s.cyc.cycles }], rfl, ?_⟩, fun _ => .inl⟩
      intro m' hm'
      rw [List.mem_singleton.1 hm']
      exact hD

/-- Routing names only ports that are UP (13 R362). -/
theorem State.portUp_of_hop {s : State} {m : Msg} {q : Nat} (h : s.hop m = .port q) : s.portUp q = true := by
  have hbundle : ∀ x ∈ (bitList (Sparse.getD s.link.bundles (s.routeByte m.dst) 0) 64).filter s.portUp, s.portUp x = true :=
    fun x hx => (List.mem_filter.1 hx).2
  unfold State.hop at h
  dsimp only at h
  split at h
  · cases h
  · split at h
    · cases h
    · split at h
      · cases h
      · next q0 qs hup =>
        split at h
        · cases h
        · cases h
          rw [hup] at hbundle
          refine hbundle _ ?_
          rw [List.getD_eq_getElem _ _ (Nat.mod_lt _ (List.length_pos_of_ne_nil (List.cons_ne_nil _ _)))]
          exact List.getElem_mem _

/-- A message put at the end of a queue of a port that is UP. -/
theorem Moved.queue {s : State} {q : Nat} (t : TxMsg) (hup : s.portUp q = true) :
    Moved D J s (s.updPort q (fun p => { p with tx := p.tx ++ [t] })) where
  tells := .silent (only_iff_mask.2 (mask_ports s (by decide) _)) rfl
  ports r := by
    rw [State.updPort_eq, State.port_setPort]
    split
    · next h => subst h; rfl
    · rfl
  down r hr := by
    rw [State.updPort_eq, State.port_setPort, if_neg]
    rintro rfl
    rw [hup] at hr
    cases hr
  delivered := ⟨[], (List.append_nil _).symm, nofun⟩
  inject _ := .inl

theorem State.place_moved {s t : State} {i : Inject} (h : s.place i = .ok t) (hD : D i.msg.kind) (hJ : J i) : Moved D J s t := by
  unfold State.place at h
  split at h
  · exact State.takeHere_moved h hD
  · cases h
  · next q hq =>
    dsimp only at h
    split at h
    · cases h
      refine ⟨.silent (only_iff_mask.2 (mask_link s (by decide) _)) rfl, fun _ => rfl, fun _ _ => rfl, ⟨[], (List.append_nil _).symm, nofun⟩,
        fun x hx => ?_⟩
      rcases List.mem_append.1 hx with hx | hx
      · exact .inl hx
      · rw [List.mem_singleton.1 hx]
        exact .inr hJ
    · cases h
      exact .queue _ (State.portUp_of_hop hq)

section
variable (hD : D 8) (hJ : ∀ i : Inject, i.msg.kind = 8 → J i)
include hD hJ

theorem State.sendNotice_moved (s : State) (m : Msg) (reason chip : Nat) : Moved D J s (s.sendNotice m reason chip) := by
  unfold State.sendNotice
  dsimp only
  split
  · next h =>
    split at h
    · exact State.takeHere_moved h hD
    · exact State.place_moved h hD (hJ _ rfl)
  · exact State.tallyAdd_moved ..

theorem State.dropMsg_moved (s : State) (m : Msg) (reason : Nat) : Moved D J s (s.dropMsg m reason) := by
  have hcount := s.tallyAdd_moved (D := D) (J := J) 0x38 0 1
  have hsend := fun (t : State) (chip : Nat) => State.sendNotice_moved hD hJ t m reason chip
  unfold State.dropMsg
  dsimp only
  split
  · exact hcount
  · split
    · split
      · exact hcount.trans (hsend ..)
      · exact (hcount.trans (hsend ..)).trans (hsend ..)
    · exact hcount.trans (hsend ..)

end

/-- Messages that waited for their flow are tried again: what is at injection afterwards waited there before, or is a NOTICE. -/
theorem State.pumpInject_moved (s : State) (hD : ∀ k, D k) (hheld : ∀ i ∈ s.link.inject, J i) (hJ : ∀ i : Inject, i.msg.kind = 8 → J i) :
    Moved D J { s with link := { s.link with inject := [] } } s.pumpInject := by
  refine List.foldlRecOn (motive := fun t : State => Moved D J { s with link := { s.link with inject := [] } } t) _ _ (.refl _) fun t ht i hi => ?_
  split
  · next h => exact ht.trans (State.place_moved h (hD _) (hheld i hi))
  · exact ht.trans (State.dropMsg_moved (hD 8) hJ ..)

end

/-- What messages do, whatever their kind. -/
abbrev Moves (s t : State) : Prop := Moved (fun _ => True) (fun _ => True) s t

theorem State.dropMsg_moves (s : State) (m : Msg) (reason : Nat) : Moves s (s.dropMsg m reason) :=
  State.dropMsg_moved trivial (fun _ _ => trivial) ..

theorem State.pumpInject_moves (s : State) : Moves s s.pumpInject := by
  have h := s.pumpInject_moved (D := fun _ => True) (J := fun _ => True) (fun _ => trivial) (fun _ _ => trivial) (fun _ _ => trivial)
  have hclear : Tells [.ports, .link, .tally, .log, .fns, .out] s { s with link := { s.link with inject := [] } } :=
    .silent (only_iff_mask.2 (mask_link s (by decide) _)) rfl
  exact ⟨hclear.trans h.tells, h.ports, h.down, h.delivered, fun _ _ => .inr trivial⟩

theorem Moves.foldl_dropMsg (s : State) (l : List Msg) (reason : Nat) : Moves s (l.foldl (fun s m => s.dropMsg m reason) s) :=
  .foldl _ (fun t m => t.dropMsg_moves m reason) l s

end Sys2Proof.Machine
end

section
/-! PROOF. What flits passing through a port leave of it, and what every received flit does before its own rules (13 R353, R355, R357, R362). -/

namespace Sys2Proof.Machine
open Sys2Proof.Safety

/-! ### Flits that pass through ports -/

/-- A port without its receive buffers, its transmit queue and the credits it is to return. -/
def Port.fixed (p : Port) : Port := { p with ll := { p.ll with owed := [] }, rx := [], tx := [] }

/-- From `s` to `t` flits have passed through ports: buffers, queues and credits to return may have changed, and what messages move. -/
structure Flows (s t : State) : Prop where
  tells : Tells [.ports, .link, .tally, .log, .fns, .out] s t
  ports : ∀ q, (t.port q).fixed = (s.port q).fixed

theorem Flows.refl (s : State) : Flows s s := ⟨.refl _ s, fun _ => rfl⟩

theorem Flows.trans {s t u : State} (h : Flows s t) (g : Flows t u) : Flows s u :=
  ⟨h.tells.trans g.tells, fun q => (g.ports q).trans (h.ports q)⟩

theorem Flows.foldl {α : Type} (f : State → α → State) (h : ∀ s a, Flows s (f s a)) (xs : List α) (s : State) : Flows s (xs.foldl f s) :=
  List.foldlRecOn (motive := fun t : State => Flows s t) _ _ (.refl s) fun t ht a _ => ht.trans (h t a)

theorem Flows.ite {s t u : State} {c : Prop} [Decidable c] (h : Flows s t) (g : Flows s u) : Flows s (if c then t else u) := by
  split
  · exact h
  · exact g

theorem Flows.st {s t : State} (h : Flows s t) (q : Nat) : (t.port q).st = (s.port q).st :=
  (congrArg Port.st (h.ports q) :)

/-- The link layer of a port but for the credits it is to return. -/
theorem Flows.ll {s t : State} (h : Flows s t) (q : Nat) : { (t.port q).ll with owed := [] } = { (s.port q).ll with owed := [] } :=
  (congrArg Port.ll (h.ports q) :)

theorem Moved.flows {D : Nat → Prop} {J : Inject → Prop} {s t : State} (h : Moved D J s t) : Flows s t where
  tells := h.tells
  ports q := (congrArg Port.fixed (h.ports q) :)

theorem Flows.updPort (s : State) (q : Nat) {g : Port → Port} (hg : (g (s.port q)).fixed = (s.port q).fixed) : Flows s (s.updPort q g) where
  tells := .silent (only_iff_mask.2 (mask_ports s (by decide) _)) rfl
  ports r := by
    rw [State.updPort_eq, State.port_setPort]
    split
    · next h => subst h; exact hg
    · rfl

theorem Flows.owe (s : State) (q vc n : Nat) : Flows s (s.owe q vc n) := by
  unfold State.owe State.updLl
  exact .updPort s q rfl

/-- The transmit queue of each port keeps the messages that the test names. -/
theorem State.port_keepTx (s : State) (keep : TxMsg → Bool) (q : Nat) :
    (s.keepTx keep).port q = { s.port q with tx := (s.port q).tx.filter keep } :=
  Sparse.getD_map (fun p : Port => ({ p with tx := p.tx.filter keep } : Port)) s.ports q {}

theorem Flows.keepTx (s : State) (keep : TxMsg → Bool) : Flows s (s.keepTx keep) where
  tells := .silent (only_iff_mask.2 (mask_ports s (by decide) _)) rfl
  ports q := by rw [State.port_keepTx]; rfl

theorem Flows.arrived (s : State) (q : Nat) (m : Msg) : Flows s (s.arrived q m) := by
  unfold State.arrived
  split
  · next t h =>
    have ht : Flows s t := (State.takeHere_moved (D := fun _ => True) (J := fun _ => True) h trivial).flows
    exact .ite (ht.trans ⟨.silent (only_iff_mask.2 (mask_link t (by decide) _)) rfl, fun _ => rfl⟩) ht
  · exact (s.dropMsg_moves ..).flows

theorem Flows.passFlit (s : State) (q vc : Nat) (d : DFlit) : Flows s (s.passFlit q vc d) := by
  unfold State.passFlit
  extract_lets v s1 got s2 d'
  have h1 : Flows s s1 := .ite (.updPort s q rfl) (.refl s)
  have h2 : Flows s s2 := h1.trans (.owe ..)
  clear_value s1 s2
  split
  · exact h1
  · exact h1.trans (.owe ..)
  · exact .ite (h2.trans (.arrived ..)) (h2.trans (.updPort _ q rfl))
  · next o _ => exact h1.trans (.updPort _ o rfl)

theorem Flows.drainRx (q vc : Nat) (l : List DFlit) (s : State) : Flows s (s.drainRx q vc l) := by
  induction l generalizing s with
  | nil => exact .updPort s q rfl
  | cons d ds ih =>
    unfold State.drainRx
    exact .ite ((Flows.passFlit s q vc d).trans (ih _)) (.updPort s q rfl)

/-- While a message has no route its flits stay in the buffer. -/
theorem State.drainRx_unrouted {s : State} {q vc : Nat} (h : (Sparse.getD (s.port q).rx vc {}).route = none) (l : List DFlit) :
    s.drainRx q vc l =
      s.updPort q (fun p => { p with rx := Sparse.put p.rx vc { Sparse.getD p.rx vc {} with flits := l } }) := by
  cases l with
  | nil => rfl
  | cons d ds => simp [State.drainRx, h]

/-! ### A received flit: FEC, then its header (13 R353, R355, R357) -/

/-- What the FEC found of a flit changes the counts of its port only. -/
structure FecSeen (s t : State) (q : Nat) (u : Option Nat) : Prop where
  only : Only [.ports] s t
  others : OtherPorts q s t
  st : (t.port q).st = (s.port q).st
  ll : (t.port q).ll = (s.port q).ll
  rx : (t.port q).rx = (s.port q).rx
  uncorr : u = none → (t.port q).fecUncorr = ((s.port q).fecUncorr + 1) % 2 ^ 64 ∧ (t.port q).fecCorr = (s.port q).fecCorr
  corr : ∀ k, u = some k → k ≠ 0 → (t.port q).fecCorr = ((s.port q).fecCorr + k) % 2 ^ 64 ∧ (t.port q).fecUncorr = (s.port q).fecUncorr

theorem State.setPort_only (s : State) (q : Nat) (p : Port) : Only [.ports] s (s.setPort q p) := only_iff_mask.2 (mask_ports s (by decide) _)

theorem State.setPort_others (s : State) (q : Nat) (p : Port) : OtherPorts q s (s.setPort q p) :=
  fun r hr => (s.port_setPort q p r).trans (if_neg hr)

theorem State.fecSeen_spec (s : State) (q : Nat) (u : Option Nat) : FecSeen s (s.fecSeen q u) q u := by
  unfold State.fecSeen
  split
  · exact ⟨s.setPort_only .., State.setPort_others s q _, by simp, by simp, by simp, fun _ => by simp, nofun⟩
  · exact ⟨.refl _ s, fun _ _ => rfl, rfl, rfl, rfl, nofun, fun k hk h0 => by cases hk; exact absurd rfl h0⟩
  · refine ⟨s.setPort_only .., State.setPort_others s q _, by simp, by simp, by simp, nofun, fun k hk _ => ?_⟩
    cases hk
    simp

/-- The link layer of a port once the acknowledgement and the credits of a header are taken (13 R353, R355, R357). -/
def PortLl.taken (l : PortLl) (f : Flit) : PortLl :=
  let l := if f.ackV then
      let r := ackTo l.retry f.ack
      { l with retry := r, replay := l.replay.filter (fun x => r.any (fun y => y.seq = x.seq)) } else l
  if f.credV && !l.credits.isEmpty then { l with credits := Sparse.put l.credits f.credVc (Sparse.getD l.credits f.credVc 0 + f.cred) } else l

theorem State.rxHeader_eq (s : State) (q : Nat) (f : Flit) : s.rxHeader q f =
    if ((s.updLl q (·.taken f)).port q).ll.retry.length < (s.port q).ll.retry.length then (s.updLl q (·.taken f)).pumpInject
    else s.updLl q (·.taken f) := rfl

section
variable (l : PortLl) (f : Flit)

/-- A header changes of the link layer the retry buffer, the replay and the credits. -/
theorem PortLl.taken_spec : ∃ retry replay credits, l.taken f = { l with retry := retry, replay := replay, credits := credits } := by
  unfold PortLl.taken
  dsimp only
  split <;> split <;> exact ⟨_, _, _, rfl⟩

theorem PortLl.taken_retry : (l.taken f).retry = if f.ackV then ackTo l.retry f.ack else l.retry := by
  unfold PortLl.taken
  dsimp only
  split <;> split <;> rfl

theorem PortLl.taken_credits : (l.taken f).credits =
    if f.credV && !l.credits.isEmpty then Sparse.put l.credits f.credVc (Sparse.getD l.credits f.credVc 0 + f.cred) else l.credits := by
  unfold PortLl.taken
  dsimp only
  rw [apply_ite PortLl.credits, apply_ite PortLl.credits]
  split <;> simp

end

/-- An acknowledgement empties the retry buffer up to the flit it names. -/
theorem ackTo_append {a b : List RFlit} {r : RFlit} {k : Nat} (hr : r.seq = k) (ha : ∀ x ∈ a, x.seq ≠ k) : ackTo (a ++ r :: b) k = b := by
  have hdrop : (a ++ r :: b).dropWhile (fun x => decide (x.seq ≠ k)) = r :: b := by
    rw [List.dropWhile_append_of_pos (by simpa using ha)]
    simp [hr]
  unfold ackTo
  rw [if_pos (by simp [hr]), hdrop]
  rfl

/-- A good flit has been taken at port `q` as far as its header goes. -/
structure HeaderTaken (s t : State) (q : Nat) (f : Flit) : Prop where
  objs : t.objs = s.objs
  st : (t.port q).st = (s.port q).st
  rx : (t.port q).rx = (s.port q).rx
  ll : (t.port q).ll = (s.port q).ll.taken f

theorem State.headerTaken (s : State) (q k : Nat) (f : Flit) : HeaderTaken s ((s.fecSeen q (some k)).rxHeader q f) q f := by
  have hfec := s.fecSeen_spec q (some k)
  generalize s.fecSeen q (some k) = s1 at hfec ⊢
  have hmoves : Moves (s1.updLl q (·.taken f)) (s1.rxHeader q f) := by
    rw [State.rxHeader_eq]
    split
    · exact State.pumpInject_moves _
    · exact .refl _
  have hport : (s1.updLl q (·.taken f)).port q = { s1.port q with ll := (s1.port q).ll.taken f } := State.port_setPort_self ..
  have hq := hmoves.ports q
  rw [hport] at hq
  exact {
    objs := (hmoves.tells.only.objs.resolve_left (by decide)).trans (hfec.only.objs.resolve_left (by decide))
    st := (congrArg Port.st hq).trans hfec.st
    rx := (congrArg Port.rx hq).trans hfec.rx
    ll := (congrArg Port.ll hq).trans (congrArg (PortLl.taken · f) hfec.ll) }

section
variable {s : State} {q : PortIx} {ty : Nat} (hclk : s.power.clockOn = true) (htakes : (s.port q).takes = true)
include hclk htakes

/-- A bad flit is counted, whatever it was sent as (13 R353). -/
theorem State.clocked_rxFlit_bad {x : BitVec 2048} {u : Option Nat} (h : u = none ∨ Flit.decode x = none) :
    s.clocked (fun s => s.rxFlit q ty x u) = .next ((s.fecSeen q u).rxBad q) := by
  rw [State.clocked_on _ hclk]
  have hread : (if u = none then none else Flit.decode x) = none := by
    rcases h with rfl | h
    · rfl
    · simp [h]
  simp only [State.rxFlit, htakes, hread, Bool.not_true, Bool.false_eq_true, if_false]

/-- A good flit of its type is taken as such. -/
theorem State.clocked_rxFlit_good {f : Flit} (k : Nat) (hwf : f.wf = true) (hty : f.ty = ty) :
    s.clocked (fun s => s.rxFlit q ty f.encode (some k)) = .next ((s.fecSeen q (some k)).rxGood q f) := by
  rw [State.clocked_on _ hclk]
  simp [State.rxFlit, htakes, Flit.decode_encode hwf, hty]

end

end Sys2Proof.Machine
end

section
/-! PROOF. Received flits: what a port does with each kind, good or bad (13 R353 to R358, R368, R370). -/

namespace Sys2Proof.Machine
open Sys2Proof.Safety

/-- Settles O29: the fields of a flit's number stand apart, and the check is the last of them (`Flit.decode_encode`). -/
theorem flitRoundTrip : Obligations.FlitRoundTrip := fun _ => Flit.decode_encode

/-! ### Bad flits (13 R353, R357) -/

/-- A Tally counter of one unit counts beside its chip total (21 R569). -/
theorem State.tally_tallyAdd_self (s : State) (id : Nat) {inst : Nat} (n : Nat) (h : inst ≠ 0xFFFF) :
    Sparse.getD (s.tallyAdd id inst n).tally (tkey id inst) 0 = (Sparse.getD s.tally (tkey id inst) 0 + n) % 2 ^ 48 := by
  unfold State.tallyAdd
  dsimp only
  split
  · rw [Sparse.getD_put_self]
  · rw [Sparse.getD_put_ne _ _ _ _ (by simpa [tkey] using h), Sparse.getD_put_self]

theorem State.port_rxBad (s : State) (q r : Nat) : (s.rxBad q).port r = if r = q then
      (if (s.port q).st = 4 then { s.port q with ll := { (s.port q).ll with nakDue := true, dropping := true } } else s.port q)
    else s.port r := by
  have htally : ∀ r, (s.tallyAdd 0x30 q 1).port r = s.port r := State.port_of_only (s.tallyAdd_tells ..).only (by decide)
  unfold State.rxBad
  rw [State.updPort_eq, State.port_setPort, htally, htally]

/-- A command by which a flit arrives at port `q`. -/
theorem exec_flitReceived {q : PortIx} {x : BitVec 2048} {u : Option Nat} {c : Instr}
    (hc : c ∈ [Instr.dataFlitReceived q x u, .nakReceived q x u, .idleFlitReceived q x u, .holdFlitReceived q x u, .initFlitReceived q x u,
      .timeFlitReceived q x u]) (s : State) : ∃ ty, exec c s = s.clocked (fun s => s.rxFlit q ty x u) := by
  simp only [List.mem_cons, List.not_mem_nil, or_false] at hc
  rcases hc with rfl | rfl | rfl | rfl | rfl | rfl <;> exact ⟨_, rfl⟩

section
variable {s : State} {q : PortIx}

theorem badFlit_counted {x : BitVec 2048} {u : Option Nat} {c : Instr} (htakes : (s.port q).takes = true)
    (h : u = none ∨ Flit.decode x = none) (hclk : s.power.clockOn = true)
    (hc : ∃ ty, exec c s = s.clocked (fun s => s.rxFlit q ty x u)) :
    ∃ s', exec c s = .next s' ∧ Only [.tally, .ports] s s' ∧ OtherPorts q s s' ∧
      Sparse.getD s'.tally (tkey 0x30 q) 0 = (Sparse.getD s.tally (tkey 0x30 q) 0 + 1) % 2 ^ 48 ∧
      (s'.port q).ll.nakDue = ((s.port q).ll.nakDue || decide ((s.port q).st = 4)) ∧ (s'.port q).rx = (s.port q).rx ∧
      (u = none → (s'.port q).fecUncorr = ((s.port q).fecUncorr + 1) % 2 ^ 64 ∧ (s'.port q).fecCorr = (s.port q).fecCorr) ∧
      (∀ k, u = some k → k ≠ 0 → (s'.port q).fecCorr = ((s.port q).fecCorr + k) % 2 ^ 64 ∧
        (s'.port q).fecUncorr = (s.port q).fecUncorr) := by
  obtain ⟨ty, hexec⟩ := hc
  rw [hexec, State.clocked_rxFlit_bad hclk htakes h]
  have hfec := s.fecSeen_spec q u
  generalize s.fecSeen q u = s1 at hfec ⊢
  have hport := s1.port_rxBad q
  have htally : (s1.rxBad q).tally = (s1.tallyAdd 0x30 q 1).tally := rfl
  refine ⟨_, rfl, ?_, fun r hr => ?_, ?_, ?_, ?_, fun hu => ?_, fun k hu hk => ?_⟩
  · exact (hfec.only.mono (by decide)).trans (((s1.tallyAdd_tells ..).only.mono (by decide)).trans ((State.setPort_only ..).mono (by decide)))
  · rw [hport, if_neg hr, hfec.others r hr]
  · have hq : q.val ≠ 0xFFFF := by omega
    rw [htally, s1.tally_tallyAdd_self 0x30 1 hq, hfec.only.tally.resolve_left (by decide)]
  · rw [hport, if_pos rfl, ← hfec.st, ← hfec.ll]
    split <;> simp [*]
  · rw [hport, if_pos rfl, ← hfec.rx]
    split <;> rfl
  · rw [hport, if_pos rfl, ← (hfec.uncorr hu).1, ← (hfec.uncorr hu).2]
    split <;> exact ⟨rfl, rfl⟩
  · rw [hport, if_pos rfl, ← (hfec.corr k hu hk).1, ← (hfec.corr k hu hk).2]
    split <;> exact ⟨rfl, rfl⟩

end

/-! ### DATA flits (13 R355, R357, R358) -/

/-- The link layer of a port that has accepted a DATA flit; `c` is VC_CREDITS of its channel. -/
def PortLl.accepted (l : PortLl) (vc c : Nat) : PortLl :=
  { l with rxSeq := (l.rxSeq + 1) % 4096, rxAny := true, dropping := false, nakCount := 0,
           granted := Sparse.put l.granted vc (Sparse.getD l.granted vc c - 1) }

/-- A HEAD flit ends a message that its sender cut off (log 30). -/
def State.endCutOff (s : State) (q : Nat) (f : Flit) : State :=
  if f.head && (Sparse.getD (s.port q).rx f.vc {}).route.isSome then
    (s.keepTx (fun t => !(t.inPort = some (8 * q + f.vc) && !t.whole))).updPort q (fun p =>
      { p with rx := Sparse.put p.rx f.vc { Sparse.getD p.rx f.vc {} with route := none, got := [] } })
  else s

theorem State.acceptData_eq (s : State) (q : Nat) (f : Flit) : s.acceptData q f =
    let t := (s.updLl q (fun l => l.accepted f.vc (s.vcCredits f.vc))).endCutOff q f
    t.drainRx q f.vc ((Sparse.getD (t.port q).rx f.vc {}).flits ++ [f.dflit]) := rfl

/-- Once its link layer has taken it, an accepted flit only passes through the port. -/
theorem State.acceptData_flows (s : State) (q : Nat) (f : Flit) :
    Flows (s.updLl q (fun l => l.accepted f.vc (s.vcCredits f.vc))) (s.acceptData q f) := by
  rw [State.acceptData_eq]
  refine Flows.trans (.ite ?_ (.refl _)) (.drainRx ..)
  exact (Flows.keepTx ..).trans (.updPort _ q rfl)

theorem State.port_updLl_self (s : State) (q : Nat) (g : PortLl → PortLl) : (s.updLl q g).port q = { s.port q with ll := g (s.port q).ll } :=
  State.port_setPort_self ..

/-- A flit of a channel without a route stays in its buffer (13 R355). -/
theorem State.acceptData_unrouted {s : State} {q : Nat} {f : Flit} (h : (Sparse.getD (s.port q).rx f.vc {}).route = none) :
    (Sparse.getD ((s.acceptData q f).port q).rx f.vc {}).flits = (Sparse.getD (s.port q).rx f.vc {}).flits ++ [f.dflit] := by
  have hport := s.port_updLl_self q (fun l => l.accepted f.vc (s.vcCredits f.vc))
  rw [State.acceptData_eq]
  generalize s.updLl q (fun l => l.accepted f.vc (s.vcCredits f.vc)) = s1 at hport
  have hrx : (s1.port q).rx = (s.port q).rx := by rw [hport]
  have hroute : (Sparse.getD (s1.port q).rx f.vc {}).route = none := by rw [hrx, h]
  have hsame : s1.endCutOff q f = s1 := by simp [State.endCutOff, hroute]
  dsimp only
  rw [hsame, State.drainRx_unrouted hroute, State.updPort_eq, State.port_setPort_self, Sparse.getD_put_self, hrx]

/-- The link layer of a port that retrains. -/
def PortLl.retrained (l : PortLl) : PortLl := { l with nakCount := 0, nakDue := false, dropping := false, initSent := 0, initGot := false }

/-- A trained port leaves for RETRAIN, its queues and buffers as they are; the choice of the upstream follows (13 R371). -/
theorem State.retrain_tells (s : State) (q : Nat) : Tells [.ports, .time, .fns, .out] s (s.retrain q) := by
  unfold State.retrain
  dsimp only
  refine .ite ?_ (.refl _ s)
  generalize hs1 : s.setPort q _ = s1
  have h1 : Tells [.ports, .time, .fns, .out] s s1 := by
    rw [← hs1]
    exact .silent ((State.setPort_only ..).mono (by decide)) rfl
  exact .ite (h1.trans ((State.reselect_tells s1).mono (by decide))) h1

theorem State.port_retrain (s : State) (q r : Nat) : (s.retrain q).port r = if r = q ∧ (s.port q).takes = true then
      { s.port q with st := 5, since := s.cyc.ns, frameUncorr := 0, ll := (s.port q).ll.retrained }
    else s.port r := by
  have hre (t : State) : t.reselect.port r = t.port r := State.port_of_only t.reselect_tells.only (by decide) r
  unfold State.retrain
  dsimp only
  rw [← Port.takes]
  by_cases htakes : (s.port q).takes = true
  · simp only [htakes, if_true, and_true]
    rw [apply_ite (State.port · r), hre, ite_self, State.port_setPort]
    rfl
  · simp [htakes]

/-- A protocol error is recorded, and the port retrains (13 R358). -/
theorem State.port_protocolError (s : State) (q seq r : Nat) : (s.protocolError q seq).port r = (s.retrain q).port r := by
  have hlog := State.logRec_tells s 0x0030 q 2 none seq
  have hport := State.port_of_only hlog.only (by decide)
  have hns : (s.logRec 0x0030 q 2 none seq).cyc = s.cyc := hlog.only.cyc.resolve_left (by decide)
  unfold State.protocolError
  rw [State.port_retrain, State.port_retrain, hport, hport, hns]

section
variable {s : State} {q : PortIx} {f : Flit} (k : Nat) (hst : (s.port q).st = 4) (hwf : f.wf = true) (hty : f.ty = ftData)
  (hclk : s.power.clockOn = true)
include hst hwf hty hclk

/-- A good DATA flit at a port that is UP: its rules apply once its header is taken. -/
theorem exec_dataFlitReceived : exec (.dataFlitReceived q f.encode (some k)) s =
    .next (((s.fecSeen q (some k)).rxHeader q f).rxData q f) := by
  have htakes : (s.port q).takes = true := by simp [Port.takes, hst]
  refine (State.clocked_rxFlit_good hclk htakes k hwf hty).trans ?_
  simp [State.rxGood, hty]

theorem dataFlit_inOrder (hd : (f.seq + 4096 - (s.port q).ll.rxSeq) % 4096 = 0)
    (hroom : Sparse.getD (s.port q).ll.granted f.vc (s.vcCredits f.vc) ≠ 0) :
    ∃ s', exec (.dataFlitReceived q f.encode (some k)) s = .next s' ∧ (s'.port q).ll.rxSeq = ((s.port q).ll.rxSeq + 1) % 4096 ∧
      (s'.port q).ll.rxAny = true ∧ (s'.port q).st = 4 ∧ (s'.port q).ll.nakDue = (s.port q).ll.nakDue ∧
      Sparse.getD (s'.port q).ll.granted f.vc (s.vcCredits f.vc) = Sparse.getD (s.port q).ll.granted f.vc (s.vcCredits f.vc) - 1 ∧
      ((Sparse.getD (s.port q).rx f.vc {}).route = none →
        (Sparse.getD (s'.port q).rx f.vc {}).flits = (Sparse.getD (s.port q).rx f.vc {}).flits ++ [f.dflit]) := by
  rw [exec_dataFlitReceived k hst hwf hty hclk]
  have htaken := s.headerTaken q k f
  generalize (s.fecSeen q (some k)).rxHeader q f = t at htaken
  obtain ⟨retry, replay, credits, hll⟩ := (s.port q).ll.taken_spec f
  have hll : (t.port q).ll = { (s.port q).ll with retry := retry, replay := replay, credits := credits } := htaken.ll.trans hll
  have hcredits : t.vcCredits f.vc = s.vcCredits f.vc := State.obj_congr htaken.objs ..
  have hdata : t.rxData q f = t.acceptData q f := by
    simp only [State.rxData, htaken.st, hst, hll, hd, hcredits, if_neg hroom]
    simp
  have hflows := t.acceptData_flows q f
  have hport := t.port_updLl_self q (fun l => l.accepted f.vc (t.vcCredits f.vc))
  have hafter := hflows.ll q
  rw [hport, hll, hcredits] at hafter
  have hst' := hflows.st q
  rw [hport] at hst'
  rw [hdata]
  refine ⟨_, rfl, (congrArg PortLl.rxSeq hafter :), (congrArg PortLl.rxAny hafter :), hst'.trans (htaken.st.trans hst),
    (congrArg PortLl.nakDue hafter :), ?_, fun hroute => ?_⟩
  · have hgranted := congrArg PortLl.granted hafter
    simp only [PortLl.accepted] at hgranted
    rw [hgranted, Sparse.getD_put_self]
  · rw [← htaken.rx] at hroute ⊢
    exact State.acceptData_unrouted hroute

theorem dataFlit_outOfOrder (hd : (f.seq + 4096 - (s.port q).ll.rxSeq) % 4096 ≠ 0) :
    ∃ s', exec (.dataFlitReceived q f.encode (some k)) s = .next s' ∧ (s'.port q).ll.rxSeq = (s.port q).ll.rxSeq ∧
      (s'.port q).rx = (s.port q).rx ∧
      ((f.seq + 4096 - (s.port q).ll.rxSeq) % 4096 < 512 → (s.port q).ll.dropping = false → (s'.port q).ll.nakDue = true) ∧
      ((s'.port q).st = if 512 ≤ (f.seq + 4096 - (s.port q).ll.rxSeq) % 4096 ∧ (f.seq + 4096 - (s.port q).ll.rxSeq) % 4096 < 3584
        then 5 else 4) := by
  rw [exec_dataFlitReceived k hst hwf hty hclk]
  have htaken := s.headerTaken q k f
  generalize (s.fecSeen q (some k)).rxHeader q f = t at htaken
  obtain ⟨retry, replay, credits, hll⟩ := (s.port q).ll.taken_spec f
  have hll : (t.port q).ll = { (s.port q).ll with retry := retry, replay := replay, credits := credits } := htaken.ll.trans hll
  have hst' : (t.port q).st = 4 := htaken.st.trans hst
  have hdata : t.rxData q f =
      if (f.seq + 4096 - (s.port q).ll.rxSeq) % 4096 < 512 then
        (if (s.port q).ll.dropping then t else t.updLl q (fun l => { l with nakDue := true, dropping := true }))
      else if 3584 ≤ (f.seq + 4096 - (s.port q).ll.rxSeq) % 4096 then t else t.protocolError q f.seq := by
    simp only [State.rxData, hst', hll, if_neg hd]
    simp
  rw [hdata]
  generalize (f.seq + 4096 - (s.port q).ll.rxSeq) % 4096 = d
  refine ⟨_, rfl, ?_⟩
  by_cases hlater : d < 512
  · have hnear : ¬(512 ≤ d ∧ d < 3584) := by omega
    rw [if_pos hlater, if_neg hnear]
    by_cases hdrop : (s.port q).ll.dropping = true
    · rw [if_pos hdrop, hll]
      exact ⟨rfl, htaken.rx, fun _ h => absurd (hdrop.symm.trans h) (by decide), hst'⟩
    · rw [if_neg hdrop, State.port_updLl_self, hll]
      exact ⟨rfl, htaken.rx, fun _ _ => rfl, hst'⟩
  · rw [if_neg hlater]
    by_cases hearlier : 3584 ≤ d
    · have hnear : ¬(512 ≤ d ∧ d < 3584) := by omega
      rw [if_pos hearlier, if_neg hnear, hll]
      exact ⟨rfl, htaken.rx, fun h => absurd h hlater, hst'⟩
    · have htakes : (t.port q).takes = true := by simp [Port.takes, hst']
      have hfar : 512 ≤ d ∧ d < 3584 := by omega
      rw [if_neg hearlier, if_pos hfar, State.port_protocolError, State.port_retrain, if_pos ⟨rfl, htakes⟩, hll]
      exact ⟨rfl, htaken.rx, fun h => absurd h hlater, rfl⟩

end

/-! ### Flits of the other types (13 R355, R357, R368, R370) -/

section
variable {s : State} {q : PortIx} {f : Flit} (k : Nat) (htakes : (s.port q).takes = true) (hwf : f.wf = true)
  (hclk : s.power.clockOn = true)
include htakes hwf hclk

theorem idleFlit_taken (hty : f.ty = ftIdle) :
    ∃ s', exec (.idleFlitReceived q f.encode (some k)) s = .next s' ∧ (s'.port q).rx = (s.port q).rx ∧
      (s'.port q).st = (s.port q).st ∧ (f.ackV = false → Only [.ports] s s' ∧ (s'.port q).ll.retry = (s.port q).ll.retry) ∧
      (∀ a r b, f.ackV = true → (s.port q).ll.retry = a ++ r :: b → r.seq = f.ack → (∀ x ∈ a, x.seq ≠ f.ack) →
        (s'.port q).ll.retry = b) ∧
      (f.credV = true → (s.port q).ll.credits ≠ [] →
        Sparse.getD (s'.port q).ll.credits f.credVc 0 = Sparse.getD (s.port q).ll.credits f.credVc 0 + f.cred) := by
  have hgood : (s.fecSeen q (some k)).rxGood q f = (s.fecSeen q (some k)).rxHeader q f := by
    simp [State.rxGood, hty, ftIdle, ftData, ftTime, ftHold, ftInit, ftNak]
  have htaken := s.headerTaken q k f
  have hretry := (s.port q).ll.taken_retry f
  refine ⟨_, (State.clocked_rxFlit_good hclk htakes k hwf hty).trans (congrArg _ hgood), htaken.rx, htaken.st, fun hack => ⟨?_, ?_⟩,
    fun a r b hack hab hr ha => ?_, fun hcred hne => ?_⟩
  · have hfec := s.fecSeen_spec q (some k)
    generalize s.fecSeen q (some k) = s1 at hfec ⊢
    have hlen : ¬((s1.updLl q (·.taken f)).port q).ll.retry.length < (s1.port q).ll.retry.length := by
      rw [State.port_updLl_self]
      simp [PortLl.taken_retry, hack]
    rw [State.rxHeader_eq, if_neg hlen]
    exact hfec.only.trans (State.setPort_only ..)
  · rw [htaken.ll, hretry, hack]
    rfl
  · rw [htaken.ll, hretry, hack, if_pos rfl, hab, ackTo_append hr ha]
  · rw [htaken.ll, PortLl.taken_credits, hcred, if_pos (by simpa using hne), Sparse.getD_put_self]

theorem nakFlit_replays (hty : f.ty = ftNak) :
    ∃ s', exec (.nakReceived q f.encode (some k)) s = .next s' ∧ (s'.port q).ll.replay = (s'.port q).ll.retry ∧
      (f.ackV = false → (s'.port q).ll.retry = (s.port q).ll.retry) := by
  have hgood : (s.fecSeen q (some k)).rxGood q f = ((s.fecSeen q (some k)).rxHeader q f).rxNak q := by
    simp [State.rxGood, hty, ftData, ftTime, ftHold, ftInit, ftNak]
  have htaken := s.headerTaken q k f
  have hport := ((s.fecSeen q (some k)).rxHeader q f).port_updLl_self q (fun l => { l with replay := l.retry })
  refine ⟨_, (State.clocked_rxFlit_good hclk htakes k hwf hty).trans (congrArg _ hgood), ?_, fun hack => ?_⟩
  · rw [State.rxNak, hport]
  · rw [State.rxNak, hport, htaken.ll, PortLl.taken_retry, hack]
    rfl

theorem holdFlit_noted (hty : f.ty = ftHold) :
    ∃ s', exec (.holdFlitReceived q f.encode (some k)) s = .next s' ∧ (s'.port q).peerHold = true ∧
      (s'.port q).holdEst = bits f.payload 31 0 ∧ (s'.port q).st = (s.port q).st := by
  have hgood : (s.fecSeen q (some k)).rxGood q f = ((s.fecSeen q (some k)).rxHeader q f).rxHold q f := by
    simp [State.rxGood, hty, ftData, ftTime, ftHold]
  have hport := ((s.fecSeen q (some k)).rxHeader q f).port_setPort_self q
    { ((s.fecSeen q (some k)).rxHeader q f).port q with holdEst := bits f.payload 31 0, peerHold := true }
  refine ⟨_, (State.clocked_rxFlit_good hclk htakes k hwf hty).trans (congrArg _ hgood), ?_⟩
  rw [State.rxHold, State.updPort_eq, hport]
  exact ⟨rfl, rfl, (s.headerTaken q k f).st⟩

end

/-! ### INIT flits (13 R355, R368, R380) -/

/-- The credits an INIT flit names. -/
def initCredits (pay : Nat) : Sparse Nat := (List.range 8).foldl (fun m v => Sparse.put m v (bits pay (8 * v + 7) (8 * v))) []

/-- Putting a value for each of the numbers below `n` leaves each of them with its own. -/
theorem getD_foldl_put (g : Nat → Nat) {n v : Nat} (hv : v < n) (m : Sparse Nat) :
    Sparse.getD ((List.range n).foldl (fun m v => Sparse.put m v (g v)) m) v 0 = g v := by
  induction n with
  | zero => omega
  | succ n ih =>
    rw [List.range_succ, List.foldl_append, List.foldl_cons, List.foldl_nil, Sparse.getD_put]
    split
    · next h => rw [h]
    · exact ih (by omega)

/-- A port in INIT that has received INIT comes UP once it has sent four (13 Table 13-7). -/
theorem State.tryUp_spec {s : State} {q : Nat} (hst : (s.port q).st = 3) (hgot : (s.port q).ll.initGot = true) :
    ((s.tryUp q).port q).st = (if 4 ≤ (s.port q).ll.initSent then 4 else 3) ∧ ((s.tryUp q).port q).ll = (s.port q).ll ∧
      ((s.tryUp q).port q).peer = (s.port q).peer ∧ ((s.tryUp q).port q).peerHold = (s.port q).peerHold := by
  unfold State.tryUp
  by_cases hsent : 4 ≤ (s.port q).ll.initSent
  · simp only [hst, hgot, hsent, decide_true, Bool.and_self, if_true]
    generalize hs1 : State.setPort s.draw.2 q _ = s1
    have hp := s1.pumpInject_moves.ports q
    have hport : s1.port q = _ := hs1 ▸ State.port_setPort_self ..
    rw [hport] at hp
    exact ⟨(congrArg Port.st hp :), (congrArg Port.ll hp :), (congrArg Port.peer hp :), (congrArg Port.peerHold hp :)⟩
  · simp [hst, hgot, hsent]

theorem initFlit_taken {s : State} {q : PortIx} {f : Flit} (k : Nat) (hwf : f.wf = true) (hclk : s.power.clockOn = true) (hty : f.ty = ftInit)
    (hst : (s.port q).st = 3) :
    ∃ s', exec (.initFlitReceived q f.encode (some k)) s = .next s' ∧
      (s'.port q).peer = some (bits f.payload 78 64, bits f.payload 85 80) ∧ (s'.port q).peerHold = false ∧ (s'.port q).ll.initGot = true ∧
      (s'.port q).st = (if 4 ≤ (s.port q).ll.initSent then 4 else 3) ∧
      ((s.port q).ll.credits = [] → ∀ v, v < 8 → Sparse.getD (s'.port q).ll.credits v 0 = bits f.payload (8 * v + 7) (8 * v)) := by
  have htakes : (s.port q).takes = true := by simp [Port.takes, hst]
  have hgood : (s.fecSeen q (some k)).rxGood q f = ((s.fecSeen q (some k)).rxHeader q f).rxInit q f := by
    simp [State.rxGood, hty, ftData, ftTime, ftHold, ftInit]
  have htaken := s.headerTaken q k f
  have hexec := (State.clocked_rxFlit_good hclk htakes k hwf hty).trans (congrArg _ hgood)
  generalize (s.fecSeen q (some k)).rxHeader q f = t at htaken hexec
  obtain ⟨retry, replay, credits, hll⟩ := (s.port q).ll.taken_spec f
  have hsent : (t.port q).ll.initSent = (s.port q).ll.initSent := by rw [htaken.ll, hll]
  have hst' : (t.port q).st = 3 := htaken.st.trans hst
  refine ⟨_, hexec, ?_⟩
  unfold State.rxInit
  dsimp only
  rw [if_neg (by simp [hst'])]
  generalize hs1 : t.setPort q _ = s1
  have hport : s1.port q = _ := hs1 ▸ State.port_setPort_self ..
  obtain ⟨hup, hupLl, hpeer, hhold⟩ := State.tryUp_spec (s := s1) (q := q) (by rw [hport]; exact hst') (by rw [hport])
  rw [hup, hupLl, hpeer, hhold, hport]
  refine ⟨rfl, rfl, rfl, ?_, fun hnone v hv => ?_⟩
  · dsimp only
    rw [apply_ite PortLl.initSent]
    simp [hsent]
  · have hempty : (t.port q).ll.credits = [] := by rw [htaken.ll, PortLl.taken_credits, hnone]; simp
    dsimp only
    rw [apply_ite PortLl.credits, hempty]
    exact getD_foldl_put (fun v => bits f.payload (8 * v + 7) (8 * v)) hv []

/-- Loss of block lock: a trained port retrains (13 R371). -/
theorem blockLockLoss_retrains {s : State} {q : PortIx} (hclk : s.power.clockOn = true) :
    ∃ s', exec (.blockLockLoss q) s = .next s' ∧ OtherPorts q s s' ∧
      (s'.port q).st = (if 2 ≤ (s.port q).st ∧ (s.port q).st ≤ 4 then 5 else (s.port q).st) ∧ (s'.port q).tx = (s.port q).tx ∧
      (s'.port q).rx = (s.port q).rx ∧ (s'.port q).ll.retry = (s.port q).ll.retry := by
  refine ⟨_, State.clocked_on (·.retrain q) hclk, fun r hr => ?_, ?_⟩
  · rw [State.port_retrain, if_neg (fun h => hr h.1)]
  · have htakes : (s.port q).takes = true ↔ 2 ≤ (s.port q).st ∧ (s.port q).st ≤ 4 := by simp [Port.takes]
    rw [State.port_retrain]
    by_cases h : (s.port q).takes = true
    · rw [if_pos ⟨rfl, h⟩, if_pos (htakes.1 h)]
      exact ⟨rfl, rfl, rfl, rfl⟩
    · rw [if_neg (fun hq => h hq.2), if_neg (fun hq => h (htakes.2 hq))]
      exact ⟨rfl, rfl, rfl, rfl⟩

/-- Settles O30, a lemma for each kind of flit: each acts in a state that `State.headerTaken` describes, and what then passes through the port
(`Flows`) leaves its link layer but for the credits to return. -/
theorem flitReception : Obligations.FlitReception := by
  unfold Obligations.FlitReception
  refine ⟨fun s q x u c htakes h hclk hc => badFlit_counted htakes h hclk (exec_flitReceived hc s), fun s q f k hst hwf hty => ⟨?_, ?_⟩,
    fun s q f k htakes hwf => ⟨?_, ?_, ?_, ?_⟩, fun s q hclk => blockLockLoss_retrains hclk⟩
  · exact fun hd hroom hclk => dataFlit_inOrder k hst hwf hty hclk hd hroom
  · exact fun hd hclk => dataFlit_outOfOrder k hst hwf hty hclk hd
  · exact fun hty hclk => idleFlit_taken k htakes hwf hclk hty
  · exact fun hty hclk => nakFlit_replays k htakes hwf hclk hty
  · exact fun hty hclk => holdFlit_noted k htakes hwf hclk hty
  · exact fun hty hst hclk => initFlit_taken k hwf hclk hty hst

end Sys2Proof.Machine
end

section
/-! PROOF. A DATA flit far outside the window in an Ethernet frame: its port retrains, and the chip loses its upstream (02 R40; 13 R358, R376). -/

namespace Sys2Proof.Machine

/-- A chip whose one UP port, Ethernet port 56, is its upstream, though no time word has kept it live. -/
def etherChip : State :=
  { power := { clockOn := true }, time := { upstream := some 56 }, objs := [(okey 0x2550 1, 1)], ports := [(56, { st := 4 })] }

/-- A DATA flit 1,000 ahead of the one expected. -/
def farFlit : Flit := { ty := ftData, seq := 1000 }

/-- The frame that carries it, without the FCS: 46 bytes of headers, then the flit. -/
def farFrame : List Byte := (etherChip.ethFrame 0 [farFlit.encode]).take 302

set_option maxRecDepth 100000 in
/-- The frame passes every check and opens as its flit (13 R376). -/
theorem ethOpen_farFrame : etherChip.ethOpen 0 farFrame = some [farFlit.encode] := by decide +kernel

/-- The outcome is a next state without an upstream port. -/
def losesUpstream : Host.Outcome State Fault Refusal → Bool
  | .next s => s.time.upstream == none
  | _ => false

set_option maxRecDepth 100000 in
theorem ethFrameReceived_farFrame : losesUpstream (exec (.ethFrameReceived 0 farFrame true (some 0)) etherChip) = true := by decide +kernel

/-- Refutes O34: in its third clause a frame that passes every check leaves the common time as it was. Its flit may be a DATA flit outside the
window, a protocol error on which the port retrains (13 R358); a port that leaves UP makes the chip choose its upstream anew (02 R40), and
where no live port offers a path none is left. -/
theorem not_ethernetPorts : ¬ Obligations.EthernetPorts := by
  unfold Obligations.EthernetPorts
  rintro ⟨-, -, hframe⟩
  obtain ⟨-, -, hopens, -⟩ := hframe etherChip 0 farFrame true 56 rfl rfl rfl
  obtain ⟨s', hexec, htime, -⟩ := hopens [farFlit.encode] 0 ethOpen_farFrame rfl
  have hrun := ethFrameReceived_farFrame
  rw [hexec] at hrun
  have hnone : s'.time.upstream = none := beq_iff_eq.1 hrun
  rw [htime] at hnone
  cases hnone

end Sys2Proof.Machine
end

section
/-! PROOF. Training, retraining, fencing and the fall of a port (13 R368, R369, R371; 18 R512). -/

namespace Sys2Proof.Machine
open Sys2Proof.Safety

/-! ### The fall of a port (13 R371) -/

/-- What the discards and the choice of the upstream at the fall or reset of a port may change. -/
def fallFlds : List Fld := [.ports, .link, .tally, .log, .fns, .out, .time]

theorem Flows.falls {s t : State} (h : Flows s t) : Tells fallFlds s t := h.tells.mono (by decide)

/-- Transit flits that are dropped leave the transmit queues alone. -/
theorem State.dropTransit_spec (s : State) (ts : List TxMsg) :
    Flows s (s.dropTransit ts) ∧ ∀ r, ((s.dropTransit ts).port r).tx = (s.port r).tx := by
  have htx : ∀ (s : State) (q : Nat) (g : Port → Port), (g (s.port q)).tx = (s.port q).tx →
      ∀ r, ((s.updPort q g).port r).tx = (s.port r).tx := by
    intro s q g hg r
    rw [State.updPort_eq, State.port_setPort]
    split
    · next h => subst h; exact hg
    · rfl
  refine List.foldlRecOn (motive := fun t : State => Flows s t ∧ ∀ r, (t.port r).tx = (s.port r).tx) _ _ ⟨.refl s, fun _ => rfl⟩
    fun t ht x _ => ?_
  obtain ⟨hflows, hsame⟩ := ht
  split
  · exact ⟨hflows, hsame⟩
  · next i _ =>
    have howe : ∀ r, ((t.owe (i / 8) (i % 8) x.flits.length).port r).tx = (s.port r).tx :=
      fun r => (htx t (i / 8) _ rfl r).trans (hsame r)
    dsimp only
    split
    · exact ⟨hflows.trans (.owe ..), howe⟩
    · exact ⟨(hflows.trans (.owe ..)).trans (.updPort _ _ rfl), fun r => (htx _ (i / 8) _ rfl r).trans (howe r)⟩

/-- A port as it falls to state `st`, before its flits and messages are discarded. -/
def Port.fallen (p : Port) (st ns : Nat) : Port :=
  { p with st := st, since := ns, retryAt := none, ll := {}, rx := [], tx := [], ethBuf := [], frameUncorr := 0, peerHold := false }

/-- A port that falls is empty: no message is queued there again, as it is not UP. Its buffers aside it stands as `Port.fallen` says. -/
theorem State.portFall_spec (s : State) (q : Nat) {st : Nat} (hst : st ≠ 4) : Tells fallFlds s (s.portFall q st) ∧
    ((s.portFall q st).port q).tx = [] ∧ ((s.portFall q st).port q).fixed = ((s.port q).fallen st s.cyc.ns).fixed := by
  unfold State.portFall State.cutTransit
  dsimp -zeta only
  extract_lets p was hit p1 gone s1 s2 s3 s4
  have hkeep := (Flows.keepTx s (fun t => !hit t)).falls
  have hns : (s.keepTx (fun t => !hit t)).cyc = s.cyc := hkeep.only.cyc.resolve_left (by decide)
  have hp1 : p1.fallen st s.cyc.ns = (s.port q).fallen st s.cyc.ns := by
    have h : p1 = _ := s.port_keepTx (fun t => !hit t) q
    rw [h]
    rfl
  have h1 : s1.port q = (s.port q).fallen st s.cyc.ns := by
    refine (State.port_setPort_self ..).trans ?_
    rw [← hp1, ← hns]
    rfl
  have hfall1 : Tells fallFlds s s1 := hkeep.trans (.silent ((State.setPort_only ..).mono (by decide)) rfl)
  clear_value s1
  obtain ⟨hdrop, htx⟩ : Flows s1 s2 ∧ ∀ r, (s2.port r).tx = (s1.port r).tx := s1.dropTransit_spec p1.tx
  clear_value s2
  have htx2 : (s2.port q).tx = [] := by rw [htx, h1]; rfl
  have hfixed2 : (s2.port q).fixed = ((s.port q).fallen st s.cyc.ns).fixed := by rw [hdrop.ports, h1]
  have hmsgs : Moves s2 s3 := Moves.foldl_dropMsg s2 gone 1
  clear_value s3
  have htold : Tells [.log, .fns, .out] s3 s4 := (State.logRec_tells ..).trans ((State.raise_tells ..).mono (by decide))
  have hport4 : s4.port q = s3.port q := State.port_of_only htold.only (by decide) q
  clear_value s4
  have hchoice : Tells fallFlds s4 (if was = 4 then s4.reselect else s4) := .ite (s4.reselect_tells.mono (by decide)) (.refl _ s4)
  have hport5 : (if was = 4 then s4.reselect else s4).port q = s4.port q := by
    rw [apply_ite (State.port · q), State.port_of_only s4.reselect_tells.only (by decide), ite_self]
  generalize (if was = 4 then s4.reselect else s4) = s5 at hchoice hport5
  have hdown2 : s2.portUp q = false := by
    have h : (s2.port q).st = st := (congrArg Port.st hfixed2 :)
    simp [State.portUp, h, hst]
  have hport3 : s3.port q = s2.port q := hmsgs.down q hdown2
  have hdown5 : s5.portUp q = false := by
    have h : s5.port q = s2.port q := by rw [hport5, hport4, hport3]
    unfold State.portUp at hdown2 ⊢
    rw [h, hdown2]
  have hlast : s5.pumpInject.port q = s2.port q := by
    rw [s5.pumpInject_moves.down q hdown5, hport5, hport4, hport3]
  rw [hlast]
  have hdropped := (hfall1.trans hdrop.falls).trans hmsgs.flows.falls
  exact ⟨((hdropped.trans (htold.mono (by decide))).trans hchoice).trans s5.pumpInject_moves.flows.falls, htx2, hfixed2⟩

/-! ### Steps of training -/

theorem State.groupsCheck_only (s : State) : Only [.boot] s s.groupsCheck := by
  unfold State.groupsCheck
  split
  · exact only_iff_mask.2 (mask_boot s (by decide) _)
  · exact .refl _ s

theorem State.port_groupsCheck (s : State) (r : Nat) : s.groupsCheck.port r = s.port r :=
  State.port_of_only s.groupsCheck_only (by decide) r

theorem State.port_train (s : State) (q r : Nat) : (s.train q).port r =
    if r = q then { s.port q with st := 1, since := s.cyc.ns, retryAt := none } else s.port r := s.port_setPort ..

section
variable {s : State} {q : PortIx} (hclk : s.power.clockOn = true)
include hclk

theorem portTrainingDone_trains (hst : (s.port q).st = 1) (hretry : (s.port q).retryAt = none) :
    ∃ s', exec (.portTrainingDone q) s = .next s' ∧ Only [.ports, .boot] s s' ∧ OtherPorts q s s' ∧ (s'.port q).ll = {} ∧
      (s'.port q).st = if s.inService = true ∧ s.obj (0x2500 + q) 1 = 1 then 3 else 2 := by
  have hexec : execPortTrainingDone q s = .next _ := State.clocked_on _ hclk
  simp only [hst, hretry, Option.isNone_none, decide_true, Bool.and_self, if_true] at hexec
  generalize hs1 : s.setPort q _ = s1 at hexec
  have hport : s1.port q = _ := hs1 ▸ State.port_setPort_self ..
  have honly : Only [.ports] s s1 := hs1 ▸ s.setPort_only ..
  have hothers : OtherPorts q s s1 := hs1 ▸ s.setPort_others q _
  have hservice : s1.inService = s.inService := hs1 ▸ rfl
  have hinit : s1.holdToInit q = if s.inService = true ∧ s.obj (0x2500 + q) 1 = 1 then s1.setPort q { s1.port q with st := 3, since := s1.cyc.ns }
      else s1 := by
    unfold State.holdToInit
    simp [hport, hservice, State.obj_of_only honly]
  refine ⟨_, hexec, ?_, fun r hr => ?_, ?_, ?_⟩
  · refine (Only.trans (honly.mono (by decide)) ?_).trans (s1.holdToInit q |>.groupsCheck_only.mono (by decide))
    rw [hinit]
    split
    · exact (State.setPort_only ..).mono (by decide)
    · exact .refl _ s1
  · rw [State.port_groupsCheck, hinit, apply_ite (State.port · r), State.setPort_others _ _ _ r hr, ite_self, hothers r hr]
  · rw [State.port_groupsCheck, hinit, apply_ite (State.port · q), State.port_setPort_self, hport]
    split <;> rfl
  · rw [State.port_groupsCheck, hinit, apply_ite (State.port · q), State.port_setPort_self, hport]
    split <;> rfl

theorem portTrainingDone_retrains (hst : (s.port q).st = 5) :
    ∃ s', exec (.portTrainingDone q) s = .next s' ∧ Only [.ports] s s' ∧ OtherPorts q s s' ∧ (s'.port q).st = 3 ∧
      (s'.port q).ll = (s.port q).ll := by
  have hexec : execPortTrainingDone q s = .next _ := State.clocked_on _ hclk
  simp only [hst, show ¬(5 = 1) by decide, decide_false, Bool.false_and, Bool.false_eq_true, if_false, if_true] at hexec
  refine ⟨_, hexec, s.setPort_only .., s.setPort_others q _, ?_⟩
  rw [State.port_setPort_self]
  exact ⟨rfl, rfl⟩

theorem portTrainingRetry_trains {t : Nat} (hretry : (s.port q).retryAt = some t) :
    ∃ s', exec (.portTrainingRetry q) s = .next s' ∧ Only [.time, .cyc, .pavs, .tally, .ports] s s' ∧ OtherPorts q s s' ∧
      (s'.port q).st = 1 ∧ (s'.port q).retryAt = none ∧ (s'.port q).since = s'.cyc.ns ∧ (s.boot.pwrgood = true → t ≤ s'.cyc.ns) := by
  have hexec : execPortTrainingRetry q s = .next _ := State.clocked_on _ hclk
  simp only [hretry] at hexec
  have honly := s.elapse_only (t - s.cyc.ns)
  obtain ⟨n, x, c, y, p, hlater, hns⟩ := s.elapse_spec (t - s.cyc.ns)
  have hport := State.port_of_only honly (by decide)
  refine ⟨_, hexec, ?_, fun r hr => ?_, ?_⟩
  · exact (honly.mono (by decide)).trans ((State.setPort_only ..).mono (by decide))
  · rw [State.port_train, if_neg hr]
    exact hport r
  · rw [State.port_train, if_pos rfl]
    refine ⟨rfl, rfl, rfl, fun hpower => ?_⟩
    have hc : (s.elapseNs t).cyc = c := by rw [State.elapseNs, hlater]
    have := hns hpower
    change t ≤ (s.elapseNs t).cyc.ns
    rw [hc]
    omega

theorem retrainHoldExpiry_empties (hst : (s.port q).st = 5) :
    ∃ s', exec (.retrainHoldExpiry q) s = .next s' ∧ (s'.port q).st = 1 ∧ (s'.port q).tx = [] ∧
      (s'.port q).ll.retry = [] ∧ (s'.port q).retryAt = none := by
  have hexec : execRetrainHoldExpiry q s = .next _ := State.clocked_on _ hclk
  simp only [hst, if_true] at hexec
  obtain ⟨-, htx, hfixed⟩ := State.portFall_spec (s.elapseNs ((s.port q).since + 1000000 * s.obj 0x2540 7)) q (st := 6) (by decide)
  refine ⟨_, hexec, ?_⟩
  rw [State.portDown, State.port_train, if_pos rfl]
  exact ⟨rfl, htx, (congrArg (·.ll.retry) hfixed :), rfl⟩

end

/-! ### Failed training and the fence of a port (18 R510, R512) -/

/-- A bit below one that is set stands as it stood. -/
theorem bit_setBit_of_lt (v : Nat) {i j : Nat} (h : j < i) : bit (setBit v i true) j = bit v j := by
  unfold setBit
  split
  · rfl
  · have hpow : 2 ^ i = 2 ^ j * (2 * 2 ^ (i - j - 1)) := by
      rw [← pow_succ', ← pow_add]
      congr 1
      omega
    rw [if_pos rfl, bit, bit, hpow, Nat.add_mul_div_left _ _ (Nat.two_pow_pos j), Nat.add_mul_mod_self_left]

/-- The message of a cause leaves the causes that are pending. -/
theorem State.pending_sendIrq (s : State) (f i : Nat) : ((s.sendIrq f i).fn f).pending = (s.fn f).pending := by
  unfold State.sendIrq
  dsimp only
  split
  · rfl
  · split
    · rfl
    · rw [State.fn_setFn_self]

/-- A later cause leaves an earlier one pending (15 R420). -/
theorem State.pending_raise {s : State} {f i j : Nat} (hj : j < i) (h : bit (s.fn f).pending j = true) :
    bit ((s.raise f i).fn f).pending j = true := by
  unfold State.raise
  dsimp only
  split
  · exact h
  · rw [apply_ite (fun t : State => (t.fn f).pending), State.pending_sendIrq, ite_self, State.fn_setFn_self, bit_setBit_of_lt _ hj, h]

/-- The signal of a change of CHIP_STATE (19 R528). -/
theorem State.syncChip_spec (s : State) : Tells [.boot, .fns, .out] s s.syncChip ∧
    (bit (s.fn 0).pending 1 = true → bit (s.syncChip.fn 0).pending 1 = true) := by
  unfold State.syncChip
  extract_lets st b t
  have hboot : Tells [.boot, .fns, .out] s t := .silent (only_iff_mask.2 (mask_boot s (by decide) _)) rfl
  refine ⟨.ite (.refl _ s) (.ite (hboot.trans ((t.raise_tells 0 7).mono (by decide))) hboot), fun h => ?_⟩
  have hkept : bit ((t.raise 0 7).fn 0).pending 1 = true := State.pending_raise (s := t) (by decide) h
  split
  · exact h
  · split
    · exact hkept
    · exact h

/-- A port that is not trained is fenced: it is disabled, and the fence is noted and raised (18 R510). -/
theorem State.fencePort_spec {s : State} {q : Nat} (reason : Nat) (hst : (s.port q).st = 1) : OtherPorts q s (s.fencePort q reason) ∧
    ((s.fencePort q reason).port q).st = 0 ∧ ((s.fencePort q reason).port q).fenced = true ∧
    bit (s.fencePort q reason).integ.fencePorts q = true ∧ bit ((s.fencePort q reason).fn 0).pending 1 = true := by
  unfold State.fencePort
  dsimp only
  simp only [hst, decide_true, Bool.or_true, Bool.true_or, if_true]
  generalize hs1 : s.updPort q _ = s1
  have hport1 : (s1.port q).st = 0 ∧ (s1.port q).fenced = true := by
    rw [← hs1, State.updPort_eq, State.port_setPort_self]
    exact ⟨rfl, rfl⟩
  have hothers1 : OtherPorts q s s1 := hs1 ▸ s.setPort_others q _
  generalize hs2 : ({ s1 with integ := _ } : State) = s2
  have hport2 : ∀ r, s2.port r = s1.port r := fun r => hs2 ▸ rfl
  have hbit : bit s2.integ.fencePorts q = true := hs2 ▸ bit_setBit_self _ q
  have hlog := State.logRec_tells s2 0x0052 q 3 none reason
  generalize s2.logRec 0x0052 q 3 none reason = s3 at hlog
  have hraise := (s3.raise_tells 0 1).only
  have hpending := (s3.raise_raised 0 1).pending
  generalize s3.raise 0 1 = s4 at hraise hpending
  obtain ⟨hsync, hkeep⟩ := s4.syncChip_spec
  have hport : ∀ r, s4.syncChip.port r = s1.port r := fun r => by
    rw [State.port_of_only hsync.only (by decide), State.port_of_only hraise (by decide), State.port_of_only hlog.only (by decide), hport2]
  have hinteg : s4.syncChip.integ = s2.integ := by
    rw [hsync.only.integ.resolve_left (by decide), hraise.integ.resolve_left (by decide), hlog.only.integ.resolve_left (by decide)]
  refine ⟨fun r hr => (hport r).trans (hothers1 r hr), ?_, ?_, hinteg ▸ hbit, hkeep hpending⟩
  · rw [hport, hport1.1]
  · rw [hport, hport1.2]

/-- The state in which a failed attempt has been counted and recorded (13 Table 13-7). -/
def State.trainingFailed (s : State) (q : Nat) : State :=
  let t := s.elapseNs ((s.port q).since + 60000000)
  (t.setPort q { s.port q with fails := (s.port q).fails + 1, retryAt := some (t.cyc.ns + 1000000000) }).logRec 0x0032 q 2 none ((s.port q).fails + 1)

theorem State.trainingFailed_spec (s : State) (q : Nat) : Tells [.time, .cyc, .pavs, .tally, .ports, .log, .fns, .out] s (s.trainingFailed q) ∧
    OtherPorts q s (s.trainingFailed q) ∧ (s.trainingFailed q).port q =
      { s.port q with fails := (s.port q).fails + 1, retryAt := some ((s.trainingFailed q).cyc.ns + 1000000000) } := by
  have honly : Only [.time, .cyc, .pavs, .tally] s (s.elapseNs ((s.port q).since + 60000000)) := s.elapse_only _
  unfold State.trainingFailed
  dsimp only
  generalize s.elapseNs ((s.port q).since + 60000000) = t at honly
  generalize hs1 : t.setPort q _ = s1
  have hport1 : s1.port q = _ := hs1 ▸ State.port_setPort_self ..
  have hothers1 : OtherPorts q t s1 := hs1 ▸ t.setPort_others q _
  have honly1 : Only [.ports] t s1 := hs1 ▸ t.setPort_only ..
  have hlog := s1.logRec_tells 0x0032 q 2 none ((s.port q).fails + 1)
  have hport := State.port_of_only hlog.only (by decide)
  have hcyc : (s1.logRec 0x0032 q 2 none ((s.port q).fails + 1)).cyc = t.cyc := by
    rw [hlog.only.cyc.resolve_left (by decide), honly1.cyc.resolve_left (by decide)]
  refine ⟨?_, fun r hr => ?_, ?_⟩
  · have hsilent : Tells [.time, .cyc, .pavs, .tally, .ports, .log, .fns, .out] s s1 := by
      refine .silent ((honly.mono (by decide)).trans (honly1.mono (by decide))) ?_
      rw [honly1.out.resolve_left (by decide), honly.out.resolve_left (by decide)]
    exact hsilent.trans (hlog.mono (by decide))
  · rw [hport, hothers1 r hr, State.port_of_only honly (by decide)]
  · rw [hport, hport1, hcyc]

section
variable {s : State} {q : PortIx} (hst : (s.port q).st = 1) (hretry : (s.port q).retryAt = none)
include hst hretry

theorem exec_portTrainingTimeout (hclk : s.power.clockOn = true) : exec (.portTrainingTimeout q) s =
    .next (if (s.port q).wasUp && decide (s.obj 0x5000 6 ≤ (s.port q).fails + 1) then (s.trainingFailed q).fencePort q 0
      else s.trainingFailed q).groupsCheck := by
  have hcond : (decide ((s.port q).st = 1) && (s.port q).retryAt.isNone) = true := by simp [hst, hretry]
  have hobj : (s.trainingFailed q).obj 0x5000 6 = s.obj 0x5000 6 := State.obj_of_only (s.trainingFailed_spec q).1.only (by decide) ..
  refine (State.clocked_on _ hclk).trans ?_
  dsimp only
  rw [if_pos hcond, ← hobj]
  rfl

theorem portTrainingTimeout_retries (h : (s.port q).wasUp = false ∨ (s.port q).fails + 1 < s.obj 0x5000 6) (hclk : s.power.clockOn = true) :
    ∃ s', exec (.portTrainingTimeout q) s = .next s' ∧ OtherPorts q s s' ∧ (s'.port q).st = 1 ∧
      (s'.port q).fails = (s.port q).fails + 1 ∧ (s'.port q).retryAt = some (s'.cyc.ns + 1000000000) ∧ s'.integ = s.integ := by
  have hnot : ¬((s.port q).wasUp && decide (s.obj 0x5000 6 ≤ (s.port q).fails + 1)) = true := by
    rcases h with h | h
    · simp [h]
    · simp [Nat.not_le.2 h]
  obtain ⟨htells, hothers, hport⟩ := s.trainingFailed_spec q
  have hcheck := (s.trainingFailed q).groupsCheck_only
  refine ⟨_, (exec_portTrainingTimeout hst hretry hclk).trans (by rw [if_neg hnot]), fun r hr => ?_, ?_⟩
  · rw [State.port_groupsCheck, hothers r hr]
  · rw [State.port_groupsCheck, hport, hcheck.cyc.resolve_left (by decide), hcheck.integ.resolve_left (by decide),
      htells.only.integ.resolve_left (by decide)]
    exact ⟨hst, rfl, rfl, rfl⟩

theorem portTrainingTimeout_fences (hup : (s.port q).wasUp = true) (hlimit : s.obj 0x5000 6 ≤ (s.port q).fails + 1)
    (hclk : s.power.clockOn = true) :
    ∃ s', exec (.portTrainingTimeout q) s = .next s' ∧ OtherPorts q s s' ∧ (s'.port q).st = 0 ∧ (s'.port q).fenced = true ∧
      bit s'.integ.fencePorts q = true ∧ bit (s'.fn 0).pending 1 = true := by
  have hfence : ((s.port q).wasUp && decide (s.obj 0x5000 6 ≤ (s.port q).fails + 1)) = true := by simp [hup, hlimit]
  obtain ⟨-, hothers, hport⟩ := s.trainingFailed_spec q
  obtain ⟨hothers', hst', hfenced, hbit, hpending⟩ := State.fencePort_spec (s := s.trainingFailed q) (q := q) 0 (by rw [hport]; exact hst)
  have hcheck := ((s.trainingFailed q).fencePort q 0).groupsCheck_only
  refine ⟨_, (exec_portTrainingTimeout hst hretry hclk).trans (by rw [if_pos hfence]), fun r hr => ?_, ?_⟩
  · rw [State.port_groupsCheck, hothers' r hr, hothers r hr]
  · rw [State.port_groupsCheck, hcheck.integ.resolve_left (by decide), State.fn_congr (hcheck.fns.resolve_left (by decide))]
    exact ⟨hst', hfenced, hbit, hpending⟩

end

end Sys2Proof.Machine
end

section
/-! PROOF. The groups of ports, PORT_RESET and PORT_ENABLE (13 R368, R369, R371). -/

namespace Sys2Proof.Machine
open Sys2Proof.Safety

/-! ### LINK_GROUP_TRAIN_START (13 R369) -/

/-- A port that begins training when its group starts. -/
def State.awaitsTraining (s : State) (q : Nat) : Prop := s.obj (0x2500 + q) 1 = 1 ∧ (s.port q).fenced = false ∧ (s.port q).st = 0

/-- The first n ports of a group have been started. -/
def State.trainFirst (s : State) (g n : Nat) : State :=
  (List.range n).foldl (fun s i =>
    let q := 8 * g + i
    if s.obj (0x2500 + q) 1 = 1 && !(s.port q).fenced && (s.port q).st = 0 then s.train q else s) s

theorem State.trainFirst_succ (s : State) (g n : Nat) : (s.trainFirst g n).awaitsTraining (8 * g + n) ∧
    s.trainFirst g (n + 1) = (s.trainFirst g n).train (8 * g + n) ∨
    ¬(s.trainFirst g n).awaitsTraining (8 * g + n) ∧ s.trainFirst g (n + 1) = s.trainFirst g n := by
  have hfold : s.trainFirst g (n + 1) = if (s.trainFirst g n).obj (0x2500 + (8 * g + n)) 1 = 1 &&
      !((s.trainFirst g n).port (8 * g + n)).fenced && ((s.trainFirst g n).port (8 * g + n)).st = 0 then
      (s.trainFirst g n).train (8 * g + n) else s.trainFirst g n := by
    unfold State.trainFirst
    rw [List.range_succ, List.foldl_append]
    rfl
  rw [hfold]
  unfold State.awaitsTraining
  split
  · next h => exact .inl ⟨by simpa [and_assoc] using h, rfl⟩
  · next h => exact .inr ⟨by simpa [and_assoc] using h, rfl⟩

/-- Of the first n ports of a group those that await training begin it, and no other port changes. -/
theorem State.trainFirst_spec (s : State) (g n : Nat) : Only [.ports] s (s.trainFirst g n) ∧
    (∀ i < n, s.awaitsTraining (8 * g + i) → ((s.trainFirst g n).port (8 * g + i)).st = 1) ∧
    (∀ q, ¬(8 * g ≤ q ∧ q < 8 * g + n ∧ s.awaitsTraining q) → (s.trainFirst g n).port q = s.port q) := by
  induction n with
  | zero => exact ⟨.refl _ s, nofun, fun _ _ => rfl⟩
  | succ n ih =>
    obtain ⟨honly, htrained, hsame⟩ := ih
    have hport : (s.trainFirst g n).port (8 * g + n) = s.port (8 * g + n) := hsame _ (by omega)
    have hawaits : (s.trainFirst g n).awaitsTraining (8 * g + n) ↔ s.awaitsTraining (8 * g + n) := by
      unfold State.awaitsTraining
      rw [hport, State.obj_of_only honly (by decide)]
    rcases s.trainFirst_succ g n with ⟨hyes, hnext⟩ | ⟨hno, hnext⟩
    · rw [hnext]
      refine ⟨honly.trans (State.setPort_only ..), fun i hi h => ?_, fun q hq => ?_⟩
      · rw [State.port_train]
        split
        · rfl
        · next hne => exact htrained i (by omega) h
      · have hne : q ≠ 8 * g + n := by
          rintro rfl
          exact hq ⟨by omega, by omega, hawaits.1 hyes⟩
        rw [State.port_train, if_neg hne]
        exact hsame q fun ⟨h0, h1, h2⟩ => hq ⟨h0, by omega, h2⟩
    · rw [hnext]
      refine ⟨honly, fun i hi h => ?_, fun q hq => hsame q fun ⟨h0, h1, h2⟩ => hq ⟨h0, by omega, h2⟩⟩
      have hne : i ≠ n := by
        rintro rfl
        exact hno (hawaits.2 h)
      exact htrained i (by omega) h

theorem linkGroupTrainStart_trains {s : State} (hgroup : s.link.group < 8) (hphase : 5 ≤ s.boot.phase) (hstandby : s.boot.standby = false)
    (hclk : s.power.clockOn = true) : ∃ s', exec .linkGroupTrainStart s = .next s' ∧
      s'.link.group = s.link.group + 1 ∧ s'.link.groupAt = s'.cyc.ns ∧
      ∀ q, q / 8 = s.link.group → ((s.obj (0x2500 + q) 1 = 1 ∧ (s.port q).fenced = false ∧ (s.port q).st = 0) → (s'.port q).st = 1) ∧
        (¬(s.obj (0x2500 + q) 1 = 1 ∧ (s.port q).fenced = false ∧ (s.port q).st = 0) → s'.port q = s.port q) := by
  have hexec : execLinkGroupTrainStart s = .next _ := State.clocked_on _ hclk
  have hrun : (decide (8 ≤ s.link.group) || decide (s.boot.phase < 5) || s.boot.standby) = false := by
    simp [hstandby, hgroup, hphase]
  simp only [hrun, Bool.false_eq_true, if_false] at hexec
  generalize hs1 : (if s.link.group = 0 then s.milestone 6 else if s.lastGroupLeft then s else _) = s1 at hexec
  have honly1 : Only [.boot, .time, .cyc, .pavs, .tally] s s1 := by
    rw [← hs1]
    split
    · exact only_iff_mask.2 (mask_boot s (by decide) _)
    · split
      · exact .refl _ s
      · exact (s.elapse_only _).mono (by decide)
  generalize hs2 : ({ s1 with link := _ } : State) = s2 at hexec
  have honly2 : Only [.boot, .time, .cyc, .pavs, .tally, .link] s s2 :=
    (honly1.mono (by decide)).trans (hs2 ▸ only_iff_mask.2 (mask_link s1 (by decide) _))
  have hlink2 : s2.link.group = s.link.group + 1 ∧ s2.link.groupAt = s2.cyc.ns := hs2 ▸ ⟨rfl, rfl⟩
  obtain ⟨honly3, htrained, hsame⟩ := s2.trainFirst_spec s.link.group 8
  have hcheck := (s2.trainGroup s.link.group).groupsCheck_only
  have hawaits : ∀ q, s2.awaitsTraining q ↔ s.awaitsTraining q := fun q => by
    unfold State.awaitsTraining
    rw [State.port_of_only honly2 (by decide), State.obj_of_only honly2 (by decide)]
  have hlast : (s2.trainGroup s.link.group).groupsCheck.link = s2.link ∧ (s2.trainGroup s.link.group).groupsCheck.cyc = s2.cyc :=
    ⟨(hcheck.link.resolve_left (by decide)).trans (honly3.link.resolve_left (by decide)),
      (hcheck.cyc.resolve_left (by decide)).trans (honly3.cyc.resolve_left (by decide))⟩
  refine ⟨_, hexec, ?_, ?_, fun q hq => ⟨fun h => ?_, fun h => ?_⟩⟩
  · rw [hlast.1, hlink2.1]
  · rw [hlast.1, hlast.2, hlink2.2]
  · rw [State.port_groupsCheck]
    have hix : 8 * s.link.group + q % 8 = q := by omega
    have := htrained (q % 8) (by omega) (by rw [hix]; exact (hawaits q).2 h)
    rwa [hix] at this
  · rw [State.port_groupsCheck]
    refine (hsame q fun ⟨_, _, hyes⟩ => h ((hawaits q).1 hyes)).trans ?_
    exact State.port_of_only honly2 (by decide) q

/-! ### PORT_RESET and PORT_ENABLE (13 R368, R371) -/

/-- A reset of a port that is trained or retrains leaves it in RETRAIN with nothing to repeat. -/
theorem State.portReset_spec {s : State} {q : Nat} (h : (s.port q).takes = true ∨ (s.port q).st = 5) :
    s.out <+: (s.portReset q).out ∧ ((s.portReset q).port q).st = 5 ∧ ((s.portReset q).port q).ll.retry = [] ∧
      ((s.portReset q).port q).ll.replay = [] := by
  have hrun : (!(s.port q).takes && decide ((s.port q).st ≠ 5)) = false := by
    rcases h with h | h <;> simp [h]
  unfold State.portReset
  rw [if_neg (by rw [hrun]; exact Bool.false_ne_true)]
  extract_lets hit through s1 p gone s2 s3 s4
  have hflows2 : Flows s s2 :=
    ((Flows.keepTx s (fun t => !hit t)).trans (State.dropTransit_spec _ through).1).trans
      (.foldl _ (fun t (r : Nat × RxVc) => .owe t q r.1 r.2.flits.length) _ _)
  clear_value s2
  have hport3 : (s3.port q).st = (s2.port q).st ∧ (s3.port q).ll.retry = [] ∧ (s3.port q).ll.replay = [] := by
    have : s3.port q = _ := State.port_setPort_self ..
    rw [this]
    exact ⟨rfl, rfl, rfl⟩
  have hout3 : s3.out = s2.out := rfl
  clear_value s3
  have hflows5 : Flows s3 (gone.foldl (fun s m => s.dropMsg m 1) s4) :=
    (State.dropTransit_spec s3 p.tx).1.trans (Moves.foldl_dropMsg s4 gone 1).flows
  generalize gone.foldl (fun s m => s.dropMsg m 1) s4 = s5 at hflows5
  have hst5 : (s5.port q).st = (s.port q).st := by rw [hflows5.st, hport3.1, hflows2.st]
  have hll5 : (s5.port q).ll.retry = [] ∧ (s5.port q).ll.replay = [] :=
    ⟨(congrArg (·.retry) (hflows5.ll q) :).trans hport3.2.1, (congrArg (·.replay) (hflows5.ll q) :).trans hport3.2.2⟩
  refine ⟨(hflows2.tells.out.trans (hout3 ▸ hflows5.tells.out)).trans (s5.retrain_tells q).out, ?_⟩
  rw [State.port_retrain]
  split
  · exact ⟨rfl, hll5⟩
  · next hno =>
    refine ⟨?_, hll5⟩
    rcases h with h | h
    · have htakes : (s5.port q).takes = true := by
        unfold Port.takes at h ⊢
        rwa [hst5]
      exact absurd ⟨rfl, htakes⟩ hno
    · rw [hst5, h]

theorem State.applyWrite_portReset (s : State) (who : Requester) (q : PortIx) : s.applyWrite who (0x2500 + q) 0xD 1 = (stOk, s.portReset q) := by
  fin_cases q <;> rfl

theorem State.applyWrite_portEnable (s : State) (who : Requester) (q : PortIx) (v : Nat) :
    s.applyWrite who (0x2500 + q) 1 v = (stOk, s.portEnable q v) := by
  fin_cases q <;> rfl

/-- A write answered at once, with what its effect has sent before. -/
theorem State.replied_respond {s t : State} {who : Requester} (status data : Nat) (h : s.out <+: t.out) :
    Replied s (t.respond who status data) who status data := by
  obtain ⟨l, hl⟩ := h
  exact ⟨l, congrArg (· ++ [_]) hl.symm⟩

section
variable {s : State} {who : Requester} {q : PortIx}

theorem exec_portReset (h : Takes s who (0x2500 + q) 0xD 1 1) :
    exec (.portReset who q 1) s = .next (((s.touch who).portReset q).respond who 0 0) := by
  have hkeep : objKeep (0x2500 + q) 0xD (1 % 256 ^ 1) = 1 % 256 ^ 1 := by
    fin_cases q <;> rfl
  have hput := State.putRow_takes h hkeep (by omega)
  rw [show 1 % 256 ^ 1 = 1 from rfl, State.applyWrite_portReset] at hput
  exact hput

theorem portReset_retrains (h : Takes s who (0x2500 + q) 0xD 1 1) (hst : (s.port q).takes = true ∨ (s.port q).st = 5) :
    ∃ s', exec (.portReset who q 1) s = .next s' ∧ Replied s s' who 0 0 ∧ (s'.port q).st = 5 ∧ (s'.port q).ll.retry = [] ∧
      (s'.port q).ll.replay = [] := by
  have htouch := s.touch_only who
  have hport := State.port_of_only htouch (by decide) q
  obtain ⟨hout, hspec⟩ := State.portReset_spec (s := s.touch who) (q := q) (by rwa [hport])
  rw [htouch.out.resolve_left (by decide)] at hout
  exact ⟨_, exec_portReset h, State.replied_respond 0 0 hout, hspec⟩

theorem portReset_untrained (h : Takes s who (0x2500 + q) 0xD 1 1) (hst : (s.port q).st ≤ 1) :
    ∃ s', exec (.portReset who q 1) s = .next s' ∧ Answered s s' who 0 0 ∧ Only [.dict, .out] s s' := by
  have htouch := s.touch_only who
  have hport := State.port_of_only htouch (by decide) q
  have hreset : (s.touch who).portReset q = s.touch who := by
    unfold State.portReset Port.takes
    rw [hport, if_pos]
    simp
    omega
  rw [exec_portReset h, hreset]
  exact ⟨_, rfl, congrArg (· ++ [_]) (htouch.out.resolve_left (by decide)),
    (htouch.mono (by decide)).trans (only_iff_mask.2 (mask_out _ (by decide) _))⟩

theorem exec_portEnableWrite {v : Nat} (h : Takes s who (0x2500 + q) 1 1 v) (hv : v ≤ 1) :
    exec (.portEnableWrite who q v) s = .next (((s.touch who).portEnable q v).respond who 0 0) := by
  have hlt : v % 256 ^ 1 = v := Nat.mod_eq_of_lt (by omega)
  have hkeep : objKeep (0x2500 + q) 1 (v % 256 ^ 1) = v % 256 ^ 1 := by
    fin_cases q <;> rfl
  have hput := State.putRow_takes h hkeep (by omega)
  rw [hlt, State.applyWrite_portEnable] at hput
  exact hput

/-- A value that is stored changes no port. -/
theorem State.port_touch_setObj (s : State) (who : Requester) (i sub v r : Nat) : ((s.touch who).setObj i sub v).port r = s.port r :=
  State.port_of_only (s.touch_only who) (by decide) r

/-- What an enable does to its port leaves the stored value, and what was sent stands. -/
theorem State.portEnable_spec (s : State) (q v : Nat) : Tells (.boot :: .objs :: fallFlds) s (s.portEnable q v) ∧
    (s.portEnable q v).obj (0x2500 + q) 1 = v := by
  unfold State.portEnable
  extract_lets t
  have hself : t.obj (0x2500 + q) 1 = v := State.obj_setObj_self ..
  have hstored : Tells (.boot :: .objs :: fallFlds) s t := .silent (only_iff_mask.2 (mask_objs s (by decide) _)) rfl
  clear_value t
  have hkept : ∀ u, Tells (.boot :: fallFlds) t u →
      Tells (.boot :: .objs :: fallFlds) s u ∧ u.obj (0x2500 + q) 1 = v := fun u hu =>
    ⟨hstored.trans (hu.mono (by decide)), (State.obj_of_only hu.only (by decide) ..).trans hself⟩
  have hsame := hkept t (.refl _ t)
  split
  · split
    · exact hsame
    · have hfall := (t.portFall_spec q (st := 0) (by decide)).1
      have hcheck : Tells [.boot] (t.portFall q 0) (t.portFall q 0).groupsCheck := by
        refine .silent (State.groupsCheck_only _) ?_
        exact (State.groupsCheck_only _).out.resolve_left (by decide)
      exact hkept _ ((hfall.mono (by decide)).trans (hcheck.mono (by decide)))
  · split
    · exact hkept _ (.silent ((State.setPort_only ..).mono (by decide)) rfl)
    · exact hsame

theorem portEnableWrite_stores {v : Nat} (h : Takes s who (0x2500 + q) 1 1 v) (hv : v ≤ 1) :
    ∃ s', exec (.portEnableWrite who q v) s = .next s' ∧ Replied s s' who 0 0 ∧ s'.obj (0x2500 + q) 1 = v := by
  obtain ⟨htells, hobj⟩ := (s.touch who).portEnable_spec q v
  have hout := htells.out
  rw [(s.touch_only who).out.resolve_left (by decide)] at hout
  exact ⟨_, exec_portEnableWrite h hv, State.replied_respond 0 0 hout, hobj⟩

theorem portEnableWrite_disables (h : Takes s who (0x2500 + q) 1 1 0) (hst : (s.port q).st ≠ 0) :
    ∃ s', exec (.portEnableWrite who q 0) s = .next s' ∧ Replied s s' who 0 0 ∧
      s'.obj (0x2500 + q) 1 = 0 ∧ (s'.port q).st = 0 ∧ (s'.port q).tx = [] ∧ (s'.port q).ll.retry = [] := by
  obtain ⟨s', hexec, hreplied, hobj⟩ := portEnableWrite_stores h (by decide)
  refine ⟨s', hexec, hreplied, hobj, ?_⟩
  rw [exec_portEnableWrite h (by decide)] at hexec
  cases hexec
  have hport := s.port_touch_setObj who (0x2500 + q) 1 0 q
  have hfall : (s.touch who).portEnable q 0 = (((s.touch who).setObj (0x2500 + q) 1 0).portFall q 0).groupsCheck := by
    unfold State.portEnable
    dsimp only
    rw [if_pos rfl, if_neg (by rwa [hport])]
  obtain ⟨-, htx, hfixed⟩ := ((s.touch who).setObj (0x2500 + q) 1 0).portFall_spec q (st := 0) (by decide)
  rw [hfall]
  change ((State.groupsCheck _).port q).st = 0 ∧ ((State.groupsCheck _).port q).tx = [] ∧ ((State.groupsCheck _).port q).ll.retry = []
  rw [State.port_groupsCheck]
  exact ⟨(congrArg Port.st hfixed :), htx, (congrArg (·.ll.retry) hfixed :)⟩

theorem portEnableWrite_enables (h : Takes s who (0x2500 + q) 1 1 1) (hst : (s.port q).st = 0) :
    ∃ s', exec (.portEnableWrite who q 1) s = .next s' ∧ Answered s s' who 0 0 ∧
      OtherPorts q s s' ∧ s'.obj (0x2500 + q) 1 = 1 ∧
      (s'.port q).st = if (s.port q).fenced = false ∧ q.val / 8 < s.link.group then 1 else 0 := by
  have hport := s.port_touch_setObj who (0x2500 + q) 1 1
  have hlink : (s.touch who).link = s.link := (s.touch_only who).link.resolve_left (by decide)
  have hout : ((s.touch who).setObj (0x2500 + q) 1 1).out = s.out := (s.touch_only who).out.resolve_left (by decide)
  obtain ⟨-, hobj⟩ := (s.touch who).portEnable_spec q 1
  have henable : (s.touch who).portEnable q 1 = if (s.port q).fenced = false ∧ q.val / 8 < s.link.group then
      ((s.touch who).setObj (0x2500 + q) 1 1).train q else (s.touch who).setObj (0x2500 + q) 1 1 := by
    unfold State.portEnable
    simp [hport, hst, hlink]
  refine ⟨_, exec_portEnableWrite h le_rfl, ?_, fun r hr => ?_, hobj, ?_⟩
  · refine congrArg (· ++ [_]) ?_
    rw [henable, apply_ite State.out]
    exact (ite_self _).trans hout
  · change ((s.touch who).portEnable q 1).port r = s.port r
    rw [henable, apply_ite (State.port · r), State.port_train, if_neg hr, ite_self, hport]
  · change (((s.touch who).portEnable q 1).port q).st = _
    rw [henable, apply_ite (State.port · q), State.port_train, if_pos rfl, apply_ite Port.st, hport, hst]

end

/-- Settles O32: every step of a port's state is followed to its end; what its messages do on the way stays within the transmit queues of ports
that are UP, so a port that has fallen stays empty. -/
theorem portStates : Obligations.PortStates :=
  ⟨fun _ _ hst hretry => ⟨fun hclk => portTrainingDone_trains hclk hst hretry,
      fun h hclk => portTrainingTimeout_retries hst hretry h hclk,
      fun hup hlimit hclk => portTrainingTimeout_fences hst hretry hup hlimit hclk⟩,
    fun _ _ hst => ⟨fun hclk => portTrainingDone_retrains hclk hst, fun hclk => retrainHoldExpiry_empties hclk hst⟩,
    fun _ _ _ hretry hclk => portTrainingRetry_trains hclk hretry,
    fun _ hgroup hphase hstandby hclk => linkGroupTrainStart_trains hgroup hphase hstandby hclk,
    fun _ _ _ h hst => portReset_retrains h hst,
    fun _ _ _ h hst => portReset_untrained h hst,
    fun _ _ _ => ⟨fun _ h hv => portEnableWrite_stores h hv, fun h hst => portEnableWrite_disables h hst,
      fun h hst => portEnableWrite_enables h hst⟩⟩

end Sys2Proof.Machine
end

section
/-! PROOF. Messages that wait at injection, and ROUTE_COMMIT (13 R363, R366; 16 R446). -/

namespace Sys2Proof.Machine
open Sys2Proof.Safety

/-! ### LINK_INJECT_TIMEOUT (13 R366) -/

/-- Time that has come is not waited for. -/
theorem State.nsTo_past {s : State} {t : Nat} (h : t ≤ s.time.now) : s.nsTo t = 0 := by
  simp [State.nsTo, Nat.sub_eq_zero_of_le h]

theorem State.elapseTo_past {s : State} {t : Nat} (h : t ≤ s.time.now) : s.elapseTo t = s :=
  List.foldlRecOn (motive := fun u : State => u = s) _ _ rfl fun u hu _ _ => by
    rw [hu, State.nsTo_past h]
    exact if_pos (by simp)

theorem State.now_le_elapseTo (s : State) (t : Nat) : s.time.now ≤ (s.elapseTo t).time.now :=
  List.foldlRecOn (motive := fun u : State => s.time.now ≤ u.time.now) _ _ le_rfl fun u hu _ _ => hu.trans (u.now_le_elapse _)

/-- A message of a transmit queue waits at injection until its first flit is sent. -/
def TxMsg.waits (t : TxMsg) : Bool := t.inPort.isNone && !t.started

/-- The frames in which the messages that wait at injection began to. -/
def State.waitFrames (s : State) : List Nat :=
  s.link.inject.map (·.frame) ++ (s.ports.flatMap (fun (r : Nat × Port) => (r.2.tx.filter TxMsg.waits).map (·.frame)))

/-- A message that began to wait in a frame has waited `lim` frames. -/
def State.late (s : State) (lim f : Nat) : Bool := decide (f + lim ≤ s.frame)

/-- The messages that have waited their limit. -/
def State.lateMsgs (s : State) (lim : Nat) : List Inject :=
  (s.link.inject.filter (fun i => s.late lim i.frame))
    ++ (s.ports.flatMap (fun (r : Nat × Port) => (r.2.tx.filter (fun t => t.waits && s.late lim t.frame)).map TxMsg.inject))

/-- The state in which they wait no longer. -/
def State.sansLate (s : State) (lim : Nat) : State :=
  ({ s with link := { s.link with inject := s.link.inject.filter (fun i => !s.late lim i.frame) } }).keepTx
    (fun t => !(t.waits && s.late lim t.frame))

/-- A message that has waited its limit is discarded and its command told. -/
def State.refuseInject (s : State) (i : Inject) : State := (s.dropMsg i.msg 5).injectRefused i.core i.cmd

/-- The state after every late message has been refused. -/
def State.injectRefusals (s : State) (lim : Nat) : State := (s.lateMsgs lim).foldl State.refuseInject (s.sansLate lim)

theorem exec_linkInjectTimeout {s : State} (hclk : s.power.clockOn = true) : exec .linkInjectTimeout s = .next (match s.waitFrames with
    | [] => s
    | f :: fs => ((s.elapseTo (250000 * (fs.foldl min f + s.obj 0x2540 6))).injectRefusals (s.obj 0x2540 6)).pumpInject) := by
  have hexec : execLinkInjectTimeout s = .next _ := State.clocked_on _ hclk
  exact hexec

theorem foldl_min_le (fs : List Nat) (f : Nat) : fs.foldl min f ≤ f ∧ ∀ x ∈ fs, fs.foldl min f ≤ x := by
  induction fs generalizing f with
  | nil => exact ⟨le_rfl, nofun⟩
  | cons y ys ih =>
    obtain ⟨hle, hall⟩ := ih (min f y)
    exact ⟨hle.trans (min_le_left ..), List.forall_mem_cons.2 ⟨hle.trans (min_le_right ..), hall⟩⟩

/-- Where a message waits at injection, time runs until the one that has waited longest has waited its limit. -/
theorem exec_linkInjectTimeout_of_mem {s : State} {i : Inject} (hi : i ∈ s.link.inject) (hclk : s.power.clockOn = true) : ∃ k ≤ i.frame,
    exec .linkInjectTimeout s =
      .next ((s.elapseTo (250000 * (k + s.obj 0x2540 6))).injectRefusals (s.obj 0x2540 6)).pumpInject := by
  have hmem : i.frame ∈ s.waitFrames := List.mem_append_left _ (List.mem_map_of_mem hi)
  rw [exec_linkInjectTimeout hclk]
  generalize s.waitFrames = w at hmem ⊢
  cases w with
  | nil => exact absurd hmem List.not_mem_nil
  | cons f fs =>
    obtain ⟨hle, hall⟩ := foldl_min_le fs f
    refine ⟨fs.foldl min f, ?_, rfl⟩
    rcases List.mem_cons.1 hmem with h | h
    · exact h ▸ hle
    · exact hall _ h

/-- What the refusals of messages may change. -/
def refusalFlds : List Fld := [.cores, .ports, .link, .tally, .log, .fns, .out]

theorem State.updCmd_only (s : State) (n id : Nat) (f : Running → Running) : Only [.cores] s (s.updCmd n id f) :=
  List.foldlRecOn (motive := fun t : State => Only [.cores] s t) _ _ (.refl _ s) fun t ht _ _ =>
    ht.trans (only_iff_mask.2 (mask_cores t (by decide) _))

theorem State.injectRefused_only (s : State) (core cmd : Nat) : Only [.cores] s (s.injectRefused core cmd) := by
  unfold State.injectRefused
  split
  · exact .refl _ s
  · exact s.updCmd_only ..

theorem State.refuseInject_only (s : State) (i : Inject) : Only refusalFlds s (s.refuseInject i) :=
  ((s.dropMsg_moves i.msg 5).tells.only.mono (by decide)).trans ((State.injectRefused_only ..).mono (by decide))

theorem State.injectRefusals_only (s : State) (lim : Nat) : Only refusalFlds s (s.injectRefusals lim) := by
  refine List.foldlRecOn (motive := fun t : State => Only refusalFlds s t) _ _ ?_ fun t ht i _ => ht.trans (t.refuseInject_only i)
  exact (only_iff_mask.2 (mask_link s (by decide) _)).trans ((Flows.keepTx _ _).tells.only.mono (by decide))

/-- A late message that is no NOTICE waits no longer once the late ones are refused and the others tried again. -/
theorem State.injectRefusals_late {s : State} {lim : Nat} {i : Inject} (hkind : i.msg.kind ≠ 8) (hlate : i.frame + lim ≤ s.frame) :
    i ∉ (s.injectRefusals lim).pumpInject.link.inject := by
  have hnotice : ∀ j : Inject, j.msg.kind = 8 → j ≠ i := fun j hj h => hkind (h ▸ hj)
  have hgone : ∀ j ∈ (s.injectRefusals lim).link.inject, j ≠ i := by
    refine List.foldlRecOn (motive := fun t : State => ∀ j ∈ t.link.inject, j ≠ i) _ _ ?_ fun t ht x _ j hj => ?_
    · rintro j hj rfl
      have hkept : (!s.late lim j.frame) = true := (List.mem_filter.1 hj).2
      simp [State.late, hlate] at hkept
    · have hlink : (t.refuseInject x).link = (t.dropMsg x.msg 5).link := (State.injectRefused_only ..).link.resolve_left (by decide)
      have hmoved : Moved (fun _ => True) (fun j : Inject => j.msg.kind = 8) t (t.dropMsg x.msg 5) :=
        State.dropMsg_moved trivial (fun _ h => h) ..
      rw [hlink] at hj
      exact (hmoved.inject j hj).elim (ht j) (hnotice j)
  intro hi
  rcases ((s.injectRefusals lim).pumpInject_moved (fun _ => trivial) hgone hnotice).inject i hi with h | h
  · exact absurd h List.not_mem_nil
  · exact h rfl

/-! ### The command of a refused message (16 R446) -/

/-- Every execution of command `id` on core n is marked as one whose message was refused. -/
def State.marksRefused (s : State) (n id : Nat) : Prop := ∀ e r, r ∈ ((s.core n).eng e).run → r.cmd.id = id → r.refused = true

theorem Core.eng_setEng_eq (c : Core) (e e' : Eng) (v : EngSt) : (c.setEng e v).eng e' = if e' = e then v else c.eng e' := by
  cases e <;> cases e' <;> rfl

/-- Marking the executions of a command in one engine leaves every mark, and marks those of that engine. -/
theorem State.updRun_refused (s : State) (n m : Nat) (e e' : Eng) (id : Nat) :
    ((s.updRun n e id (fun r => { r with refused := true })).core m).eng e' = if m = n ∧ e' = e then
      { (s.core m).eng e' with run := ((s.core m).eng e').run.map (fun r => if r.cmd.id = id then { r with refused := true } else r) }
    else (s.core m).eng e' := by
  unfold State.updRun State.updCore
  rw [State.core_setCore]
  by_cases hm : m = n
  · subst hm
    by_cases he : e' = e
    · subst he
      simp
    · rw [if_pos rfl, if_neg (fun h => he h.2), Core.eng_setEng_eq, if_neg he]
  · rw [if_neg hm, if_neg (fun h => hm h.1)]

theorem State.refused_of_updRun {s : State} {n m : Nat} {e e' : Eng} {id : Nat} {r : Running}
    (hr : r ∈ (((s.updRun n e id (fun r => { r with refused := true })).core m).eng e').run) :
    (m = n ∧ e' = e ∧ r.cmd.id = id ∧ r.refused = true) ∨ (r ∈ ((s.core m).eng e').run ∧ ¬(m = n ∧ e' = e ∧ r.cmd.id = id)) := by
  rw [State.updRun_refused] at hr
  split at hr
  · next h =>
    obtain ⟨x, hx, hxr⟩ := List.mem_map.1 hr
    split at hxr
    · next hid =>
      subst hxr
      exact .inl ⟨h.1, h.2, hid, rfl⟩
    · next hid =>
      subst hxr
      exact .inr ⟨hx, fun hall => hid hall.2.2⟩
  · next h => exact .inr ⟨hr, fun hall => h ⟨hall.1, hall.2.1⟩⟩

/-- The engines in which a command is sought. -/
def cmdEngs : List Eng := [.mover, .dice, .rot, .parterre, .trellis]

theorem State.refused_of_updCmd {n m id : Nat} {e : Eng} {r : Running} (es : List Eng) (s : State)
    (hr : r ∈ (((es.foldl (fun s e => s.updRun n e id (fun r => { r with refused := true })) s).core m).eng e).run) :
    r.refused = true ∨ (r ∈ ((s.core m).eng e).run ∧ ¬(m = n ∧ e ∈ es ∧ r.cmd.id = id)) := by
  induction es generalizing s with
  | nil => exact .inr ⟨hr, by simp⟩
  | cons e' es ih =>
    rcases ih _ hr with h | ⟨h, hrest⟩
    · exact .inl h
    · rcases State.refused_of_updRun h with ⟨-, -, -, href⟩ | ⟨hmem, hfirst⟩
      · exact .inl href
      · refine .inr ⟨hmem, fun ⟨hm, he, hid⟩ => ?_⟩
        rcases List.mem_cons.1 he with he | he
        · exact hfirst ⟨hm, he, hid⟩
        · exact hrest ⟨hm, he, hid⟩

/-- After a refusal every mark stands, and the command refused has its own. -/
theorem State.marksRefused_refuseInject (s : State) (i : Inject) {n id : Nat}
    (h : s.marksRefused n id ∨ (n = i.core ∧ id = i.cmd ∧ id ≠ 0)) : (s.refuseInject i).marksRefused n id := by
  have hcores : ∀ m, (s.dropMsg i.msg 5).core m = s.core m :=
    State.core_congr ((s.dropMsg_moves i.msg 5).tells.only.cores.resolve_left (by decide))
  intro e r hr hid
  unfold State.refuseInject State.injectRefused at hr
  split at hr
  · next hzero =>
    rw [hcores] at hr
    rcases h with h | ⟨-, hcmd, hne⟩
    · exact h e r hr hid
    · exact absurd (hcmd.trans hzero) hne
  · rcases State.refused_of_updCmd cmdEngs _ hr with href | ⟨hmem, hother⟩
    · exact href
    · rw [hcores] at hmem
      rcases h with h | ⟨hcore, hcmd, -⟩
      · exact h e r hmem hid
      · refine absurd ⟨hcore, ?_, hid.trans hcmd⟩ hother
        cases e <;> decide

theorem State.injectRefusals_marks {s : State} {lim : Nat} {i : Inject} (hi : i ∈ s.link.inject) (hlate : i.frame + lim ≤ s.frame)
    (hcmd : i.cmd ≠ 0) : (s.injectRefusals lim).pumpInject.marksRefused i.core i.cmd := by
  have hgone : i ∈ s.lateMsgs lim := List.mem_append_left _ (List.mem_filter.2 ⟨hi, by simpa [State.late] using hlate⟩)
  have hfold : ∀ (l : List Inject) (t : State), i ∈ l ∨ t.marksRefused i.core i.cmd →
      (l.foldl State.refuseInject t).marksRefused i.core i.cmd := by
    intro l
    induction l with
    | nil => exact fun t h => h.resolve_left List.not_mem_nil
    | cons x xs ih =>
      refine fun t h => ih _ ?_
      rcases h with h | h
      · rcases List.mem_cons.1 h with rfl | h
        · exact .inr (t.marksRefused_refuseInject i (.inr ⟨rfl, rfl, hcmd⟩))
        · exact .inl h
      · exact .inr (t.marksRefused_refuseInject x (.inl h))
  have hmarks : (s.injectRefusals lim).marksRefused i.core i.cmd := hfold _ _ (.inl hgone)
  intro e r hr hid
  rw [State.core_congr ((State.pumpInject_moves _).tells.only.cores.resolve_left (by decide))] at hr
  exact hmarks e r hr hid

section
variable {s : State} {i : Inject} (hi : i ∈ s.link.inject) (hclk : s.power.clockOn = true)
include hi hclk

theorem linkInjectTimeout_refuses : ∃ s', exec .linkInjectTimeout s = .next s' ∧ s.time.now ≤ s'.time.now ∧
    (i.msg.kind ≠ 8 → i.frame + s.obj 0x2540 6 ≤ s'.frame → i ∉ s'.link.inject) := by
  obtain ⟨k, -, hexec⟩ := exec_linkInjectTimeout_of_mem hi hclk
  have hnow := s.now_le_elapseTo (250000 * (k + s.obj 0x2540 6))
  generalize s.elapseTo _ = t at hexec hnow
  have htime : (t.injectRefusals (s.obj 0x2540 6)).pumpInject.time = t.time :=
    ((State.pumpInject_moves _).tells.only.time.resolve_left (by decide)).trans ((t.injectRefusals_only _).time.resolve_left (by decide))
  have hframe : (t.injectRefusals (s.obj 0x2540 6)).pumpInject.frame = t.frame := congrArg (fun x : Sundial => frameOf x.now) htime
  refine ⟨_, hexec, htime ▸ hnow, fun hkind hlate => ?_⟩
  rw [hframe] at hlate
  exact State.injectRefusals_late hkind hlate

theorem linkInjectTimeout_late (hkind : i.msg.kind ≠ 8) (hlate : i.frame + s.obj 0x2540 6 ≤ s.frame) :
    ∃ s', exec .linkInjectTimeout s = .next s' ∧ s'.time = s.time ∧ i ∉ s'.link.inject ∧
      ∀ e r, i.cmd ≠ 0 → r ∈ ((s'.core i.core).eng e).run → r.cmd.id = i.cmd → r.refused = true := by
  obtain ⟨k, hk, hexec⟩ := exec_linkInjectTimeout_of_mem hi hclk
  have hpast : 250000 * (k + s.obj 0x2540 6) ≤ s.time.now := by
    have hframe : k + s.obj 0x2540 6 ≤ s.time.now / 250000 := le_trans (by omega) hlate
    omega
  rw [State.elapseTo_past hpast] at hexec
  refine ⟨_, hexec, ?_, State.injectRefusals_late hkind hlate, fun e r hcmd hr hid => ?_⟩
  · exact ((State.pumpInject_moves _).tells.only.time.resolve_left (by decide)).trans
      ((s.injectRefusals_only _).time.resolve_left (by decide))
  · exact State.injectRefusals_marks hi hlate hcmd e r hr hid

end

/-! ### ROUTE_COMMIT (13 R363) -/

theorem State.bundles_routeCommit (s : State) {b : Nat} (hb : b < 16) :
    Sparse.getD s.routeCommit.link.bundles b 0 = s.obj 0x2541 (b + 1) := by
  unfold State.routeCommit
  exact getD_foldl_put (fun b => s.obj 0x2541 (b + 1)) hb []

theorem routeCommit_takesTable {s : State} {who : Requester} (h : Takes s who 0x2540 3 1 1) : ∃ s', exec (.routeCommit who 1) s = .next s' ∧
    Only [.link, .dict, .out] s s' ∧ Answered s s' who 0 0 ∧ s'.link.active = some (s.obj 0x2540 2) ∧
    (∀ b, b < 16 → Sparse.getD s'.link.bundles b 0 = s.obj 0x2541 (b + 1)) ∧ s'.link.delivered = s.link.delivered ∧
    s'.link.inject = s.link.inject := by
  have htouch := s.touch_only who
  have hobj : ∀ i j, (s.touch who).obj i j = s.obj i j := State.obj_of_only htouch (by decide)
  have hlink : (s.touch who).link = s.link := htouch.link.resolve_left (by decide)
  have hout : (s.touch who).out = s.out := htouch.out.resolve_left (by decide)
  have hexec : exec (.routeCommit who 1) s = .next ((s.touch who).routeCommit.respond who 0 0) := State.putRow_takes h rfl (by decide)
  generalize s.touch who = t at htouch hobj hlink hout hexec
  refine ⟨_, hexec, ?_, congrArg (· ++ [_]) hout, congrArg some (hobj ..), fun b hb => (t.bundles_routeCommit hb).trans (hobj ..), ?_, ?_⟩
  · exact ((htouch.mono (by decide)).trans (only_iff_mask.2 (mask_link _ (by decide) _))).trans (only_iff_mask.2 (mask_out _ (by decide) _))
  · exact (congrArg LinkSt.delivered hlink :)
  · exact (congrArg LinkSt.inject hlink :)

end Sys2Proof.Machine
end

section
/-! PROOF. The head of a received message is routed, and its flits go its way (13 R361 to R364; 14 R393). -/

namespace Sys2Proof.Machine
open Sys2Proof.Safety

/-! ### One virtual channel of a port's receive side -/

/-- The receive side of channel vc of port q. -/
def State.rxVc (s : State) (q vc : Nat) : RxVc := Sparse.getD (s.port q).rx vc {}

def State.setRx (s : State) (q vc : Nat) (v : RxVc) : State := s.updPort q (fun p => { p with rx := Sparse.put p.rx vc v })

/-- The channel while a message goes the way `r`, once that message has left it, and once its buffer is empty. -/
def RxVc.routed (v : RxVc) (r : Route) : RxVc := { v with route := some r, got := [] }
def RxVc.freed (v : RxVc) : RxVc := { v with route := none, got := [] }
def RxVc.drained (v : RxVc) : RxVc := { v with flits := [] }

/-- The credits that port q is to return for channel vc. -/
def State.owed (s : State) (q vc : Nat) : Nat := Sparse.getD (s.port q).ll.owed vc 0

/-- Nothing but port q changes. -/
structure AtPort (q : Nat) (s t : State) : Prop where
  only : Only [.ports] s t
  others : OtherPorts q s t

theorem AtPort.trans {q : Nat} {s t u : State} (h : AtPort q s t) (g : AtPort q t u) : AtPort q s u :=
  ⟨h.only.trans g.only, fun r hr => (g.others r hr).trans (h.others r hr)⟩

section
variable (s : State) (q vc : Nat)

theorem AtPort.updPort (g : Port → Port) : AtPort q s (s.updPort q g) := ⟨s.setPort_only .., s.setPort_others q _⟩

theorem AtPort.setRx (v : RxVc) : AtPort q s (s.setRx q vc v) := .updPort ..

theorem AtPort.owe (n : Nat) : AtPort q s (s.owe q vc n) := by
  unfold State.owe State.updLl
  exact .updPort ..

theorem Flows.setRx (v : RxVc) : Flows s (s.setRx q vc v) := .updPort s q rfl

theorem State.port_updPort_self (g : Port → Port) : (s.updPort q g).port q = g (s.port q) := s.port_setPort_self q _

@[simp] theorem State.rxVc_setRx (v : RxVc) : (s.setRx q vc v).rxVc q vc = v := by
  unfold State.rxVc State.setRx
  rw [State.port_updPort_self]
  exact Sparse.getD_put_self ..

@[simp] theorem State.rxVc_owe (n : Nat) : (s.owe q vc n).rxVc q vc = s.rxVc q vc := by
  unfold State.rxVc State.owe
  rw [State.port_updLl_self]

@[simp] theorem State.owed_setRx (v : RxVc) : (s.setRx q vc v).owed q vc = s.owed q vc := by
  unfold State.owed State.setRx
  rw [State.port_updPort_self]

@[simp] theorem State.owed_owe (n : Nat) : (s.owe q vc n).owed q vc = s.owed q vc + n := by
  unfold State.owed State.owe
  rw [State.port_updLl_self]
  exact Sparse.getD_put_self ..

@[simp] theorem State.tx_setRx (v : RxVc) (r : Nat) : ((s.setRx q vc v).port r).tx = (s.port r).tx := by
  unfold State.setRx
  rw [State.updPort_eq, State.port_setPort]
  split
  · next h => rw [h]
  · rfl

/-! ### A flit goes the way of its message (13 R362) -/

/-- The bytes of a flit, with its poison. -/
def DFlit.bytes (d : DFlit) : List PByte := d.payload.map (fun b => (b, d.poison))

/-- A HEAD flit carries one hop more when it is sent on (13 R362). -/
def DFlit.hopped (d : DFlit) : DFlit := if d.head then { d with payload := d.payload.set 7 (d.payload.getD 7 0 + 1) } else d

theorem DFlit.tail_hopped (d : DFlit) : d.hopped.tail = d.tail := by
  unfold DFlit.hopped
  split <;> rfl

/-- A transit message that is not whole takes flit `d` of input channel k. -/
def TxMsg.take (t : TxMsg) (k : Nat) (d : DFlit) : TxMsg :=
  if t.inPort = some k && !t.whole then { t with flits := t.flits ++ [{ d with vc := t.vc }], whole := d.tail } else t

/-- The channel is free for the next message once the TAIL has passed. -/
def State.tailPassed (d : DFlit) : State :=
  if d.tail then s.setRx q vc (s.rxVc q vc).freed else s

theorem State.passFlit_eq (d : DFlit) : s.passFlit q vc d = match (s.rxVc q vc).route with
    | none => s.tailPassed q vc d
    | some .discard => (s.tailPassed q vc d).owe q vc 1
    | some .here =>
      if d.tail then ((s.tailPassed q vc d).owe q vc 1).arrived q
        { Msg.ofBytes ((s.rxVc q vc).got ++ d.bytes) with level := vcLevel vc }
      else ((s.tailPassed q vc d).owe q vc 1).setRx q vc { s.rxVc q vc with got := (s.rxVc q vc).got ++ d.bytes }
    | some (.port o) => (s.tailPassed q vc d).updPort o (fun p => { p with tx := p.tx.map (·.take (8 * q + vc) d.hopped) }) := rfl

theorem State.drainRx_nil : s.drainRx q vc [] = s.setRx q vc (s.rxVc q vc).drained := rfl

theorem State.drainRx_cons (d : DFlit) (ds : List DFlit) : s.drainRx q vc (d :: ds) =
    if (s.rxVc q vc).route.isSome then (s.passFlit q vc d).drainRx q vc ds else s.setRx q vc { s.rxVc q vc with flits := d :: ds } := rfl

theorem State.drainRx_single {d : DFlit} (h : (s.rxVc q vc).route.isSome = true) :
    s.drainRx q vc [d] = (s.passFlit q vc d).setRx q vc ((s.passFlit q vc d).rxVc q vc).drained := by
  rw [State.drainRx_cons, if_pos h, State.drainRx_nil]

/-- What stays in the buffer are the last of its flits. -/
theorem State.flits_drainRx (l : List DFlit) : ∃ k, ((s.drainRx q vc l).rxVc q vc).flits = l.drop k := by
  induction l generalizing s with
  | nil => exact ⟨0, by rw [State.drainRx_nil, State.rxVc_setRx]; rfl⟩
  | cons d ds ih =>
    rw [State.drainRx_cons]
    split
    · obtain ⟨k, hk⟩ := ih (s.passFlit q vc d)
      exact ⟨k + 1, hk⟩
    · exact ⟨0, by rw [State.rxVc_setRx]; rfl⟩

end

/-! ### The head of a message (13 R361 to R364) -/

/-- The message whose HEAD flit is `d`, as routing sees it. -/
def DFlit.headMsg (d : DFlit) (vc : Nat) : Msg := { Msg.ofBytes (clean d.payload) with level := vcLevel vc }

/-- The flits of a channel go the way `r` of the message at its front. -/
def State.goHead (s : State) (q vc : Nat) (v : RxVc) (l : List DFlit) (r : Route) : State :=
  (s.setRx q vc (v.routed r)).drainRx q vc l

/-- The virtual channel of a transit message at output port o (13 R364). -/
def State.transitVc (s : State) (q : PortIx) (vc : Fin 8) (o : Nat) : Nat := 2 * (vc.val / 2) + s.dateline (some (q, vc.val % 2)) o

/-- A transit message as it is queued: no flit of it yet, and one hop more. -/
def State.transit (s : State) (q : PortIx) (vc : Fin 8) (m : Msg) (o : Nat) : TxMsg :=
  { vc := s.transitVc q vc o, pav := m.spav, inPort := some (8 * q.val + vc.val), flits := [], whole := false, started := false,
    hdr := { m with hops := m.hops + 1 }, core := 0, cmd := 0, frame := s.frame }

def State.queueTransit (s : State) (q : PortIx) (vc : Fin 8) (m : Msg) (o : Nat) : State :=
  s.updPort o (fun p => { p with tx := p.tx ++ [s.transit q vc m o] })

theorem Flows.queueTransit (s : State) (q : PortIx) (vc : Fin 8) (m : Msg) (o : Nat) : Flows s (s.queueTransit q vc m o) := .updPort s o rfl

/-- The head flit goes its way whatever that is, and what is left are flits after it. -/
theorem State.goHead_spec (s : State) (q vc : Nat) (v : RxVc) (d : DFlit) (ds : List DFlit) (r : Route) :
    Flows s (s.goHead q vc v (d :: ds) r) ∧ ∃ k, ((s.goHead q vc v (d :: ds) r).rxVc q vc).flits = ds.drop k := by
  refine ⟨(Flows.setRx ..).trans (.drainRx ..), ?_⟩
  unfold State.goHead
  rw [State.drainRx_cons, if_pos (by rw [State.rxVc_setRx]; rfl)]
  exact State.flits_drainRx ..

section
variable {s : State} {q : PortIx} {vc : Fin 8} {d : DFlit} {ds : List DFlit} (hroute : (Sparse.getD (s.port q).rx vc {}).route = none)
  (hflits : (Sparse.getD (s.port q).rx vc {}).flits = d :: ds)
include hroute hflits

theorem exec_messageHeadArrival (hclk : s.power.clockOn = true) : exec (.messageHeadArrival q vc) s = .next
    (if !d.head then s.goHead q vc (s.rxVc q vc) (d :: ds) .discard
    else match s.hop (d.headMsg vc) with
      | .here => if s.earlyFull (d.headMsg vc) then s else s.goHead q vc (s.rxVc q vc) (d :: ds) .here
      | .fail r => (s.dropMsg (d.headMsg vc) r).goHead q vc (s.rxVc q vc) (d :: ds) .discard
      | .port o => if s.flowHeld (d.headMsg vc) (s.transitVc q vc o) o then s
        else (s.queueTransit q vc (d.headMsg vc) o).goHead q vc (s.rxVc q vc) (d :: ds) (.port o)) := by
  have hexec : execMessageHeadArrival q vc s = .next _ := State.clocked_on _ hclk
  dsimp only at hexec
  unfold State.rxVc
  generalize Sparse.getD (s.port q).rx vc {} = v at hroute hflits hexec ⊢
  obtain ⟨flits, route, got⟩ := v
  cases hroute
  cases hflits
  exact hexec

theorem messageHead_goes (hway : d.head = false ∨ (∃ r, s.hop (d.headMsg vc) = .fail r) ∨
      (s.hop (d.headMsg vc) = .here ∧ s.earlyFull (d.headMsg vc) = false) ∨
      (∃ o, s.hop (d.headMsg vc) = .port o ∧ s.flowHeld (d.headMsg vc) (s.transitVc q vc o) o = false)) (hclk : s.power.clockOn = true) :
    ∃ s' k, exec (.messageHeadArrival q vc) s = .next s' ∧ (Sparse.getD (s'.port q).rx vc {}).flits = ds.drop k ∧
      s'.time = s.time ∧ s'.mem = s.mem := by
  obtain ⟨t, r, hexec, ht⟩ : ∃ t r, exec (.messageHeadArrival q vc) s = .next (t.goHead q vc (s.rxVc q vc) (d :: ds) r) ∧ Flows s t := by
    rw [exec_messageHeadArrival hroute hflits hclk]
    by_cases hhead : (!d.head) = true
    · exact ⟨s, .discard, by rw [if_pos hhead], .refl s⟩
    · rw [if_neg hhead]
      rcases hway with h | ⟨r, h⟩ | ⟨h, hroom⟩ | ⟨o, h, hfree⟩
      · exact absurd (by rw [h]; rfl) hhead
      · exact ⟨s.dropMsg (d.headMsg vc) r, .discard, by rw [h], (s.dropMsg_moves ..).flows⟩
      · exact ⟨s, .here, by simp only [h, hroom, Bool.false_eq_true, if_false], .refl s⟩
      · exact ⟨s.queueTransit q vc (d.headMsg vc) o, .port o, by simp only [h, hfree, Bool.false_eq_true, if_false], .queueTransit ..⟩
  obtain ⟨hgo, k, hk⟩ := t.goHead_spec q vc (s.rxVc q vc) d ds r
  have honly := (ht.trans hgo).tells.only
  exact ⟨_, k, hexec, hk, honly.time.resolve_left (by decide), honly.mem.resolve_left (by decide)⟩

end

/-! ### Messages of one flit -/

theorem State.dateline_le_one (s : State) (i d q : Nat) (hd : d ≤ 1) : s.dateline (some (i, d)) q ≤ 1 := by
  unfold State.dateline
  dsimp only
  split
  · exact le_rfl
  · split
    · exact Nat.zero_le 1
    · exact hd

/-- The one flit of a message goes its way and leaves the buffer. -/
theorem State.goHead_single (s : State) (q vc : Nat) (v : RxVc) (d : DFlit) (r : Route) :
    s.goHead q vc v [d] r = ((s.setRx q vc (v.routed r)).passFlit q vc d).setRx q vc
      (((s.setRx q vc (v.routed r)).passFlit q vc d).rxVc q vc).drained :=
  State.drainRx_single _ q vc (by rw [State.rxVc_setRx]; rfl)

/-- A message delivered to this chip. -/
def State.deliverHere (s : State) (m : Msg) : State :=
  { s with link := { s.link with delivered := s.link.delivered ++ [{ m with arr := s.cyc.cycles }] } }

/-- A message of an active Pavilion whose kind is one of 1 to 6 is delivered to it. -/
theorem State.arrived_delivered {s : State} {m : Msg} (q : Nat) (hlow : 1 ≤ m.kind) (hhigh : m.kind ≤ 6)
    (hactive : (s.pav m.dpav).st = .active) (hreset : (s.pav m.dpav).resetAt = 0) : s.arrived q m = s.deliverHere m := by
  have hkind : m.kind ≠ 0 ∧ ¬8 < m.kind ∧ m.kind ≠ 7 := ⟨by omega, by omega, by omega⟩
  have htake : s.takeHere m = .ok (s.deliverHere m) := by
    unfold State.takeHere
    simp [hkind, hactive, hreset, State.deliverHere]
  unfold State.arrived
  rw [htake]
  simp [hkind]

section
variable (s : State) (q vc : Nat) (v : RxVc) {d : DFlit}

/-- The channel of a message for this chip that goes on gathers its bytes. -/
theorem State.goHead_here (htail : d.tail = false) : s.goHead q vc v [d] .here =
    (((s.setRx q vc (v.routed .here)).owe q vc 1).setRx q vc { v with route := some .here, got := d.bytes }).setRx q vc
      { v with flits := [], route := some .here, got := d.bytes } := by
  rw [State.goHead_single, State.passFlit_eq]
  simp [State.tailPassed, htail, RxVc.routed, RxVc.drained]

/-- The state in which a message of one flit has left its channel, before it goes its way. -/
def State.headFreed (r : Route) : State := (s.setRx q vc (v.routed r)).setRx q vc v.freed

theorem State.tailPassed_routed (htail : d.tail = true) (r : Route) :
    (s.setRx q vc (v.routed r)).tailPassed q vc d = s.headFreed q vc v r := by
  rw [State.tailPassed, if_pos htail, State.rxVc_setRx]
  rfl

theorem State.goHead_here_whole (htail : d.tail = true) {m : Msg} (hm : m = { Msg.ofBytes d.bytes with level := vcLevel vc })
    (hlow : 1 ≤ m.kind) (hhigh : m.kind ≤ 6) (hactive : (s.pav m.dpav).st = .active) (hreset : (s.pav m.dpav).resetAt = 0) :
    s.goHead q vc v [d] .here = (((s.headFreed q vc v .here).owe q vc 1).deliverHere m).setRx q vc v.freed.drained := by
  have hpass : (s.setRx q vc (v.routed .here)).passFlit q vc d = ((s.headFreed q vc v .here).owe q vc 1).deliverHere m := by
    rw [← State.arrived_delivered (s := (s.headFreed q vc v .here).owe q vc 1) q hlow hhigh hactive hreset, State.passFlit_eq,
      State.rxVc_setRx, s.tailPassed_routed q vc v htail, hm]
    simp [RxVc.routed, htail]
  have hrx : (((s.headFreed q vc v .here).owe q vc 1).deliverHere m).rxVc q vc = v.freed :=
    (State.rxVc_owe ..).trans (State.rxVc_setRx ..)
  rw [State.goHead_single, hpass, hrx]

theorem State.goHead_discard (htail : d.tail = true) :
    s.goHead q vc v [d] .discard = ((s.headFreed q vc v .discard).owe q vc 1).setRx q vc v.freed.drained := by
  have hpass : (s.setRx q vc (v.routed .discard)).passFlit q vc d = (s.headFreed q vc v .discard).owe q vc 1 := by
    rw [State.passFlit_eq, State.rxVc_setRx, s.tailPassed_routed q vc v htail]
    rfl
  rw [State.goHead_single, hpass, State.rxVc_owe]
  exact congrArg (fun x : RxVc => State.setRx _ q vc x.drained) (State.rxVc_setRx ..)

/-- The flit of a transit message joins the message at its output port. -/
def State.flitQueued (d : DFlit) (o : Nat) : State :=
  (s.headFreed q vc v (.port o)).updPort o (fun p => { p with tx := p.tx.map (·.take (8 * q + vc) d.hopped) })

theorem State.goHead_port (htail : d.tail = true) (o : Nat) : s.goHead q vc v [d] (.port o) =
    (s.flitQueued q vc v d o).setRx q vc ((s.flitQueued q vc v d o).rxVc q vc).drained := by
  have hpass : (s.setRx q vc (v.routed (.port o))).passFlit q vc d = s.flitQueued q vc v d o := by
    rw [State.passFlit_eq, State.rxVc_setRx, s.tailPassed_routed q vc v htail]
    rfl
  rw [State.goHead_single, hpass]

end

section
variable {s : State} {q : PortIx} {vc : Fin 8} {d : DFlit} (hroute : (Sparse.getD (s.port q).rx vc {}).route = none)
  (hflits : (Sparse.getD (s.port q).rx vc {}).flits = [d]) (hhead : d.head = true)
include hroute hflits hhead

theorem messageHead_gathers (htail : d.tail = false) (hhere : s.hop (d.headMsg vc) = .here) (hroom : s.earlyFull (d.headMsg vc) = false)
    (hclk : s.power.clockOn = true) : ∃ s', exec (.messageHeadArrival q vc) s = .next s' ∧ Only [.ports] s s' ∧ OtherPorts q s s' ∧
      (Sparse.getD (s'.port q).rx vc {}).flits = [] ∧ (Sparse.getD (s'.port q).rx vc {}).route = some .here ∧
      (Sparse.getD (s'.port q).rx vc {}).got = d.payload.map (fun b => (b, d.poison)) ∧
      Sparse.getD (s'.port q).ll.owed vc 0 = Sparse.getD (s.port q).ll.owed vc 0 + 1 := by
  have hexec := exec_messageHeadArrival hroute hflits hclk
  simp only [hhead, hhere, hroom, Bool.not_true, Bool.false_eq_true, if_false] at hexec
  rw [State.goHead_here _ _ _ _ htail] at hexec
  obtain ⟨honly, hothers⟩ := (((AtPort.setRx s q vc ((s.rxVc q vc).routed .here)).trans (.owe _ q vc 1)).trans
    (.setRx _ q vc { s.rxVc q vc with route := some .here, got := d.bytes })).trans
    (.setRx _ q vc { s.rxVc q vc with flits := [], route := some .here, got := d.bytes })
  refine ⟨_, hexec, honly, hothers, ?_⟩
  change (State.rxVc _ q vc).flits = [] ∧ (State.rxVc _ q vc).route = _ ∧ (State.rxVc _ q vc).got = d.bytes ∧
    State.owed _ q vc = s.owed q vc + 1
  simp

theorem messageHead_waits (hhere : s.hop (d.headMsg vc) = .here) (hfull : s.earlyFull (d.headMsg vc) = true) :
    exec (.messageHeadArrival q vc) s = .next s := by
  by_cases hclk : s.power.clockOn = true
  · have hexec := exec_messageHeadArrival hroute hflits hclk
    simpa only [hhead, hhere, hfull, Bool.not_true, Bool.false_eq_true, if_false, if_true] using hexec
  · exact congrArg Host.Outcome.next (if_neg hclk)

theorem messageHead_delivers (htail : d.tail = true) (hhere : s.hop (d.headMsg vc) = .here) (hroom : s.earlyFull (d.headMsg vc) = false)
    {m : Msg} (hm : m = { Msg.ofBytes (d.payload.map (fun b => (b, d.poison))) with level := vcLevel vc }) (hlow : 1 ≤ m.kind)
    (hhigh : m.kind ≤ 6) (hactive : (s.pav m.dpav).st = .active) (hreset : (s.pav m.dpav).resetAt = 0) (hclk : s.power.clockOn = true) :
    ∃ s', exec (.messageHeadArrival q vc) s = .next s' ∧ Only [.ports, .link] s s' ∧ OtherPorts q s s' ∧
      s'.link.delivered = s.link.delivered ++ [{ m with arr := s.cyc.cycles }] ∧ (Sparse.getD (s'.port q).rx vc {}).route = none ∧
      Sparse.getD (s'.port q).ll.owed vc 0 = Sparse.getD (s.port q).ll.owed vc 0 + 1 := by
  have hexec := exec_messageHeadArrival hroute hflits hclk
  simp only [hhead, hhere, hroom, Bool.not_true, Bool.false_eq_true, if_false] at hexec
  rw [State.goHead_here_whole _ _ _ _ htail hm hlow hhigh hactive hreset] at hexec
  have howed : ((s.headFreed q vc (s.rxVc q vc) .here).owe q vc 1).owed q vc = s.owed q vc + 1 := by simp [State.headFreed]
  have hat : AtPort q s ((s.headFreed q vc (s.rxVc q vc) .here).owe q vc 1) := ((AtPort.setRx ..).trans (.setRx ..)).trans (.owe ..)
  have hlink : ((s.headFreed q vc (s.rxVc q vc) .here).owe q vc 1).link = s.link ∧
      ((s.headFreed q vc (s.rxVc q vc) .here).owe q vc 1).cyc = s.cyc := ⟨rfl, rfl⟩
  generalize (s.headFreed q vc (s.rxVc q vc) .here).owe q vc 1 = t at hexec howed hat hlink
  have hlast := AtPort.setRx (t.deliverHere m) q vc (s.rxVc q vc).freed.drained
  have hdelivered : Only [.ports, .link] t (t.deliverHere m) := only_iff_mask.2 (mask_link t (by decide) _)
  refine ⟨_, hexec, ((hat.only.mono (by decide)).trans hdelivered).trans (hlast.only.mono (by decide)),
    fun r hr => (hlast.others r hr).trans (hat.others r hr), ?_, ?_, ?_⟩
  · rw [← hlink.1, ← hlink.2]
    rfl
  · exact congrArg RxVc.route (State.rxVc_setRx ..)
  · exact (State.owed_setRx ..).trans howed

/-- A queued transit message takes the flit that completes it; the messages of other input channels stay as they are. -/
theorem messageHead_forwards {o : Nat} (htail : d.tail = true) (hport : s.hop (d.headMsg vc) = .port o)
    (hfree : s.flowHeld (d.headMsg vc) (s.transitVc q vc o) o = false) (hnone : ∀ t ∈ (s.port o).tx, t.inPort ≠ some (8 * q.val + vc.val))
    (hclk : s.power.clockOn = true) : ∃ s' t d', exec (.messageHeadArrival q vc) s = .next s' ∧ Only [.ports] s s' ∧
      (s'.port o).tx = (s.port o).tx ++ [t] ∧ t.whole = true ∧ t.inPort = some (8 * q.val + vc.val) ∧ t.flits = [d'] ∧ d'.vc = t.vc ∧
      t.vc / 2 = vc.val / 2 ∧ t.vc % 2 = s.dateline (some (q, vc.val % 2)) o ∧ d'.payload.eraseIdx 7 = d.payload.eraseIdx 7 ∧
      (8 ≤ d.payload.length → d'.payload[7]? = (d.payload[7]?).map (· + 1)) := by
  have hexec := exec_messageHeadArrival hroute hflits hclk
  simp only [hhead, hport, hfree, Bool.not_true, Bool.false_eq_true, if_false] at hexec
  generalize s.rxVc q vc = v at hexec
  rw [State.goHead_port _ _ _ _ htail] at hexec
  have honly1 : Only [.ports] s (s.queueTransit q vc (d.headMsg vc) o) := s.setPort_only ..
  have htx1 : ((s.queueTransit q vc (d.headMsg vc) o).port o).tx = (s.port o).tx ++ [s.transit q vc (d.headMsg vc) o] :=
    congrArg Port.tx (s.port_updPort_self o _)
  generalize s.queueTransit q vc (d.headMsg vc) o = s1 at hexec honly1 htx1
  have honly2 : Only [.ports] s1 (s1.flitQueued q vc v d o) := ((AtPort.setRx ..).trans (.setRx ..)).only.trans (AtPort.updPort ..).only
  have htx2 : ((s1.flitQueued q vc v d o).port o).tx = (s.port o).tx ++ [{ s.transit q vc (d.headMsg vc) o with
      flits := [{ d.hopped with vc := s.transitVc q vc o }], whole := true }] := by
    unfold State.flitQueued State.headFreed
    rw [State.port_updPort_self]
    dsimp only
    rw [State.tx_setRx, State.tx_setRx, htx1, List.map_append]
    congr 1
    · refine (List.map_congr_left fun t ht => ?_).trans (List.map_id _)
      simp [TxMsg.take, hnone t ht]
    · simp [TxMsg.take, State.transit, DFlit.tail_hopped, htail]
  have hdate := s.dateline_le_one q (vc.val % 2) o (by omega)
  refine ⟨_, _, { d.hopped with vc := s.transitVc q vc o }, hexec, (honly1.trans honly2).trans (AtPort.setRx ..).only,
    (State.tx_setRx ..).trans htx2, rfl, rfl, rfl, rfl, ?_, ?_, ?_, fun hlen => ?_⟩
  · change (2 * (vc.val / 2) + _) / 2 = _
    omega
  · change (2 * (vc.val / 2) + _) % 2 = _
    omega
  · rw [DFlit.hopped, if_pos hhead]
    exact List.eraseIdx_set_eq ..
  · rw [DFlit.hopped, if_pos hhead]
    simp [show 7 < d.payload.length by omega]

theorem messageHead_drops {r : Nat} (htail : d.tail = true) (hfail : s.hop (d.headMsg vc) = .fail r) (hclk : s.power.clockOn = true) :
    ∃ s', exec (.messageHeadArrival q vc) s = .next s' ∧ (Sparse.getD (s'.port q).rx vc {}).flits = [] ∧
      (Sparse.getD (s'.port q).rx vc {}).route = none ∧ ∃ l, s'.link.delivered = s.link.delivered ++ l ∧ ∀ m ∈ l, m.kind = 8 := by
  have hexec := exec_messageHeadArrival hroute hflits hclk
  simp only [hhead, hfail, Bool.not_true, Bool.false_eq_true, if_false] at hexec
  rw [State.goHead_discard _ _ _ _ htail] at hexec
  have hdrop : Moved (fun k => k = 8) (fun _ => True) s (s.dropMsg (d.headMsg vc) r) := State.dropMsg_moved (by rfl) (fun _ _ => trivial) ..
  have hrx := State.rxVc_setRx (((s.dropMsg (d.headMsg vc) r).headFreed q vc (s.rxVc q vc) .discard).owe q vc 1) q vc (s.rxVc q vc).freed.drained
  exact ⟨_, hexec, congrArg RxVc.flits hrx, congrArg RxVc.route hrx, hdrop.delivered⟩

end

end Sys2Proof.Machine
end

section
/-! PROOF. What writes into a Plot leave of the chip: the time, the boot, the links and the rounds of the Dice (04 R112, R115; 09 R248, R254;
12 R339). -/

namespace Sys2Proof.Safety
open Sys2Proof.Machine

theorem Only.ite {l : List Fld} {s t u : State} {c : Prop} [Decidable c] (h : Only l s t) (g : Only l s u) : Only l s (if c then t else u) := by
  split
  · exact h
  · exact g

theorem Only.foldl {l : List Fld} {α : Type} (f : State → α → State) (h : ∀ s a, Only l s (f s a)) (xs : List α) (s : State) :
    Only l s (xs.foldl f s) :=
  List.foldlRecOn (motive := fun t : State => Only l s t) _ _ (.refl l s) fun t ht a _ => ht.trans (h t a)

end Sys2Proof.Safety

namespace Sys2Proof.Machine
open Sys2Proof.Safety

/-- From `s` to `t` results have been written into Plots: cores, counts and records may have changed, and what a Pavilion counts of releases; its
Dice stands as it stood. -/
structure Wrote (s t : State) : Prop where
  only : Only [.cores, .tally, .log, .fns, .out, .integ, .pavs] s t
  dice : ∀ p, (t.pav p).dice = (s.pav p).dice

theorem Wrote.refl (s : State) : Wrote s s := ⟨.refl _ s, fun _ => rfl⟩

theorem Wrote.trans {s t u : State} (h : Wrote s t) (g : Wrote t u) : Wrote s u :=
  ⟨h.only.trans g.only, fun p => (g.dice p).trans (h.dice p)⟩

theorem Wrote.ite {s t u : State} {c : Prop} [Decidable c] (h : Wrote s t) (g : Wrote s u) : Wrote s (if c then t else u) := by
  split
  · exact h
  · exact g

theorem Wrote.foldl {α : Type} (f : State → α → State) (h : ∀ s a, Wrote s (f s a)) (xs : List α) (s : State) : Wrote s (xs.foldl f s) :=
  List.foldlRecOn (motive := fun t : State => Wrote s t) _ _ (.refl s) fun t ht a _ => ht.trans (h t a)

/-- A change that reaches no Pavilion. -/
theorem Wrote.of_only {s t : State} (h : Only [.cores, .tally, .log, .fns, .out, .integ] s t) : Wrote s t :=
  ⟨h.mono (by decide), fun p => congrArg Pav.dice (State.pav_congr (h.pavs.resolve_left (by decide)) p)⟩

section
variable (s : State) (n : Nat)

theorem Wrote.setCore (c : Core) : Wrote s (s.setCore n c) := .of_only (only_iff_mask.2 (mask_cores s (by decide) _))

theorem Wrote.updCore (f : Core → Core) : Wrote s (s.updCore n f) := .setCore ..

theorem Wrote.updRun (e : Eng) (id : Nat) (f : Running → Running) : Wrote s (s.updRun n e id f) := .setCore ..

theorem Wrote.tallyAdd (i j k : Nat) : Wrote s (s.tallyAdd i j k) := .of_only ((s.tallyAdd_tells i j k).only.mono (by decide))

theorem Wrote.setPav (p : Nat) {v : Pav} (h : v.dice = (s.pav p).dice) : Wrote s (s.setPav p v) where
  only := only_iff_mask.2 (mask_pavs s (by decide) _)
  dice q := by
    rw [State.pav_setPav]
    split
    · next hq => rw [h, hq]
    · rfl

theorem Wrote.updPav (p : Nat) {f : Pav → Pav} (h : ∀ v, (f v).dice = v.dice) : Wrote s (s.updPav p f) := .setPav s p (h _)

/-! ### Detections and the bytes of a Plot (09 R241 to R254) -/

theorem Wrote.plotStop : Wrote s (s.plotStop n) := .ite (.refl s) (.setCore ..)

theorem Wrote.plotDetect (addr kind : Nat) : Wrote s (s.plotDetect n addr kind) := by
  unfold State.plotDetect
  split
  next b j r _ =>
  extract_lets c step pint poisoned fenced last susp s1 integ s2
  have h1 : Wrote s s1 := .setCore ..
  have hpoisoned : Wrote s poisoned := .setCore ..
  have h2 : Wrote s1 s2 := .of_only (only_iff_mask.2 (mask_integ s1 (by decide) _))
  have hlog (t : State) : Wrote t (t.logCore 0x0010 n 2 last) := .of_only ((t.logCoreS_spec ..).1.mono (by decide))
  exact .ite ((hpoisoned.trans (.tallyAdd ..)).trans (.plotStop ..))
    ((((h1.trans h2).trans (.tallyAdd ..)).trans (hlog _)).trans (.plotStop ..))

theorem Wrote.plotRead (a len : Nat) : Wrote s (s.plotRead n a len).2 := .foldl _ (fun t _ => .ite (.refl t) (.plotDetect ..)) _ s

theorem Wrote.plotPut (a : Nat) (d : List PByte) : Wrote s (s.plotPut n a d) :=
  (Wrote.setCore ..).trans (.foldl _ (fun t _ => .ite (.plotDetect ..) (.refl t)) _ _)

theorem Wrote.plotWrite (a : Nat) (d : List PByte) (aow : Nat) : Wrote s (s.plotWrite n a d aow) := by
  unfold State.plotWrite
  refine .ite (.plotPut ..) ?_
  extract_lets c ls s1 c1 c2
  have h1 : Wrote s s1 := .foldl _ (fun t _ => .ite (.plotDetect ..) (.refl t)) _ _
  split
  exact .ite (h1.trans (.setCore ..)) ((h1.trans (.setCore ..)).trans (.tallyAdd ..))

theorem Wrote.fillTags (a len : Nat) : Wrote s (s.fillTags n a len) := .updCore ..

/-! ### Arrival counters and the releases they count (04 R115; 12 R339; 16 R448) -/

theorem Wrote.binRow (p cls at_ : Nat) : Wrote s (s.binRow p cls at_) := by
  unfold State.binRow
  extract_lets v ct lat k s1
  have h1 : Wrote s s1 := .setPav s p rfl
  refine .ite (.setPav s p rfl) (h1.trans (.foldl _ (fun t i => ?_) _ _))
  extract_lets cfg t1
  have h1 : Wrote t t1 := .updPav t p fun _ => rfl
  exact .ite (.ite (h1.trans (.of_only ((t1.raise_tells ..).only.mono (by decide)))) h1) (.refl t)

theorem Wrote.bsRelease (k p : Nat) (s : State) : Wrote s (State.bsRelease k p s) := by
  induction k generalizing s with
  | zero => exact .refl s
  | succ k ih =>
    unfold State.bsRelease
    split
    · exact .refl s
    · extract_lets s1
      have h1 : Wrote s s1 := .updPav s p fun _ => rfl
      exact (h1.trans (.foldl _ (fun t (r : BsOut) => .binRow t p r.cls r.at_) _ _)).trans (ih _)

theorem Wrote.cntAdd (k amount : Nat) : Wrote s (s.cntAdd n k amount) := by
  unfold State.cntAdd
  extract_lets s1 s2
  have h1 : Wrote s s1 := .updCore ..
  have h2 : Wrote s1 s2 := by
    unfold s2
    split
    · next p _ =>
      refine .ite (Wrote.trans ?_ (.bsRelease ..)) (.refl _)
      exact .updPav s1 p fun _ => rfl
    · exact .refl _
  exact (h1.trans h2).trans (.of_only ((Quiet.checkCntBps s2 n).only.mono (by decide)))

theorem Wrote.countArrival (cnt : Option Nat) (k : Nat) : Wrote s (match cnt with | some c => s.cntAdd n c k | none => s) := by
  split
  · exact .cntAdd ..
  · exact .refl s

theorem Wrote.arrive (a : Nat) (d : List PByte) (aow : Nat) (cnt : Option Nat) : Wrote s (s.arrive n a d aow cnt) :=
  ((Wrote.plotWrite s n a d aow).trans (.fillTags ..)).trans (.countArrival ..)

/-! ### Engines that write into their own Plot (04 R112; 22 R594) -/

theorem Wrote.arrivePart (e : Eng) (id a : Nat) (d : List PByte) (cnt : Option Nat) : Wrote s (s.arrivePart n e id a d cnt) := by
  unfold State.arrivePart
  extract_lets sl had now_ s1 s2 s3
  have h2 : Wrote s s2 := (Wrote.plotPut ..).trans (.updRun ..)
  have h3 : Wrote s2 s3 := .ite (.updCore ..) (.refl s2)
  exact (h2.trans h3).trans (.countArrival ..)

theorem Wrote.ownLoop (fuel : Nat) (e : Eng) (id : Nat) (s : State) : Wrote s (State.ownLoop fuel n e id s) := by
  induction fuel generalizing s with
  | zero => exact .refl s
  | succ fuel ih =>
    unfold State.ownLoop
    split
    · exact .refl s
    · split
      · extract_lets ready s1
        have hwrite : Wrote s s1 := .ite (.arrivePart ..) (.arrive ..)
        exact .ite (.refl s) (.ite (.updRun ..) ((hwrite.trans (.updRun ..)).trans (ih _)))
      · exact .refl s

theorem Wrote.pumpOwn (e : Eng) (id : Nat) : Wrote s (s.pumpOwn n e id) := by
  unfold State.pumpOwn
  split
  · exact .ownLoop ..
  · exact .refl s

end

end Sys2Proof.Machine
end

section
/-! PROOF. What a NOTICE settles: the choices of the Dice and the collectives of the Rotunda that its message stood for (11 R311 to R317;
13 R365; 14 R396). -/

namespace Sys2Proof.Machine
open Sys2Proof.Safety

/-- What settling a NOTICE may change: commands, records, Pavilions and messages. -/
def noticeFlds : List Fld := [.cores, .tally, .log, .fns, .out, .integ, .pavs, .link, .ports]

theorem Wrote.settles {s t : State} (h : Wrote s t) : Only noticeFlds s t := h.only.mono (by decide)

theorem Moved.settles {D : Nat → Prop} {J : Inject → Prop} {s t : State} (h : Moved D J s t) : Only noticeFlds s t :=
  h.tells.only.mono (by decide)

section
variable (s : State) (p : Nat)

theorem State.updPav_settles (f : Pav → Pav) : Only noticeFlds s (s.updPav p f) := only_iff_mask.2 (mask_pavs s (by decide) _)

theorem State.updDice_settles (f : DiceSt → DiceSt) : Only noticeFlds s (s.updDice p f) := s.updPav_settles p _

theorem State.updRot_settles (f : RotSt → RotSt) : Only noticeFlds s (s.updRot p f) := s.updPav_settles p _

theorem State.place_settles {s t : State} {i : Inject} (h : s.place i = .ok t) : Only noticeFlds s t :=
  (State.place_moved (D := fun _ => True) (J := fun _ => True) h trivial trivial).settles

/-- The level of a message of class `cls` and the state in which it is charged to its Pavilion (16 R436). -/
def State.charged (s : State) (m : Msg) (cls : Option Nat) : Nat × State :=
  match cls, s.hop m with
  | some k, .port q => s.mark m.spav (100 + q) k (msgFlits m.data.length)
  | some k, _ => (k, s)
  | none, _ => (3, s)

theorem State.charged_settles (m : Msg) (cls : Option Nat) : Only noticeFlds s (s.charged m cls).2 := by
  unfold State.charged
  split
  · exact only_iff_mask.2 (mask_pavs s (by decide) _)
  · exact .refl _ s
  · exact .refl _ s

theorem State.sendMsg_eq (m : Msg) (cls : Option Nat) (core cmd : Nat) : s.sendMsg m cls core cmd =
    match (s.charged m cls).2.place
      { msg := { m with level := (s.charged m cls).1 }, core := core, cmd := cmd, frame := (s.charged m cls).2.frame } with
    | .ok t => t
    | .error r => (s.charged m cls).2.dropMsg { m with level := (s.charged m cls).1 } r := rfl

theorem State.sendMsg_settles (m : Msg) (cls : Option Nat) (core cmd : Nat) : Only noticeFlds s (s.sendMsg m cls core cmd) := by
  rw [State.sendMsg_eq]
  have hcharged := s.charged_settles m cls
  split
  · next h => exact hcharged.trans (State.place_settles h)
  · exact hcharged.trans (State.dropMsg_moves ..).settles

/-! ### Rounds of the Dice (11 R305 to R317) -/

theorem Wrote.dicePut (src : RSrc) (pos c : Nat) (row : List PByte) (tag : Nat) (expert : Option Nat) :
    Wrote s (s.dicePut src pos c row tag expert) :=
  (Wrote.updRun ..).trans (.pumpOwn ..)

/-- The round `x` once the result of choice `ch` of round `r` is written. -/
def DRound.finished (x r : DRound) (ch : Choice) : DRound :=
  if x.num = r.num && x.openAt = r.openAt then
    { x with srcs := x.srcs.map (fun y => if y.source = ch.source then { y with left := y.left - 1 } else y),
             choices := x.choices.map (fun y => if y.source = ch.source && y.pos = ch.pos && y.c = ch.c then { y with state := 4 } else y) }
  else x

/-- A result is written into its core's Plot, and its rounds note it. -/
theorem State.diceFinish_spec {r : DRound} {ch : Choice} {src : RSrc} {t : Tok} (hsrc : r.srcs.find? (fun x => x.source = ch.source) = some src)
    (htok : r.toks.find? (fun t => t.source = ch.source && t.pos = ch.pos) = some t) (refused : Bool) (flags : Nat) (row : List PByte) :
    ∃ u, Wrote s u ∧ s.diceFinish p r ch refused flags row = u.updRounds p (·.finished r ch) := by
  unfold State.diceFinish
  rw [hsrc, htok]
  dsimp -zeta only
  extract_lets disp poison fl tag s1 s2
  have h1 : Wrote s s1 := .dicePut ..
  have h2 : Wrote s1 s2 := .ite (.updRun ..) (.refl s1)
  exact ⟨s2, h1.trans h2, rfl⟩

theorem State.diceFinish_settles (r : DRound) (ch : Choice) (refused : Bool) (flags : Nat) (row : List PByte) :
    Only noticeFlds s (s.diceFinish p r ch refused flags row) := by
  cases hsrc : r.srcs.find? (fun x => x.source = ch.source) with
  | none => simp only [State.diceFinish, hsrc]; exact .refl _ s
  | some src =>
    cases htok : r.toks.find? (fun t => t.source = ch.source && t.pos = ch.pos) with
    | none => simp only [State.diceFinish, hsrc, htok]; exact .refl _ s
    | some t =>
      obtain ⟨u, hu, heq⟩ := s.diceFinish_spec p hsrc htok refused flags row
      rw [heq]
      exact hu.settles.trans (u.updDice_settles p _)

theorem State.diceRefused_settles : Only noticeFlds s (s.diceRefused p) := by
  unfold State.diceRefused
  split
  · exact .refl _ s
  · refine .foldl _ (fun t ch => ?_) _ s
    split
    · exact t.diceFinish_settles ..
    · exact .refl _ t

theorem State.diceCommit_settles : Only noticeFlds s (s.diceCommit p) := by
  unfold State.diceCommit
  exact s.updDice_settles p _

theorem State.diceOpen_settles : Only noticeFlds s (s.diceOpen p) := by
  unfold State.diceOpen
  extract_lets d num due s1 eff r h
  have h1 : Only noticeFlds s s1 := .ite (s.diceCommit_settles p) (.ite (s.updDice_settles p _) (.refl _ s))
  exact h1.trans (s1.updDice_settles p _)

theorem State.diceJoin_settles (n start : Nat) (l : LongCmd) : Only noticeFlds s (s.diceJoin p n start l) := by
  unfold State.diceJoin
  split
  · exact .refl _ s
  · exact ((Wrote.plotRead ..).trans (.plotRead ..)).settles.trans (State.updDice_settles ..)

theorem State.diceSend_settles : Only noticeFlds s (s.diceSend p) := by
  unfold State.diceSend
  split
  · exact .refl _ s
  · exact (s.updDice_settles p _).trans (.foldl _ (fun t _ => t.sendMsg_settles ..) _ _)

theorem State.diceRoundEnd_settles : Only noticeFlds s (s.diceRoundEnd p) := by
  unfold State.diceRoundEnd
  dsimp only
  split
  · exact .refl _ s
  · exact .ite (s.updDice_settles p _) (.refl _ s)

theorem State.diceAdvance_settles (fuel : Nat) (s : State) : Only noticeFlds s (State.diceAdvance fuel p s) := by
  induction fuel generalizing s with
  | zero => exact .refl _ s
  | succ fuel ih =>
    unfold State.diceAdvance
    split
    · exact .refl _ s
    · extract_lets isOver sk s1 r1 r2 s2 s3
      have h1 : Only noticeFlds s s1 := s.updDice_settles p _
      have h2 : Only noticeFlds s1 s2 := (s1.updDice_settles p _).trans (State.diceRefused_settles ..)
      have h3 : Only noticeFlds s1 s3 := h2.trans (s2.diceSend_settles p)
      exact .ite (h1.trans (((s1.updDice_settles p _).trans (State.diceRefused_settles ..)).trans (State.diceRoundEnd_settles ..)))
        (.ite ((h1.trans h3).trans (ih s3)) (h1.trans h3))

theorem State.dicePhase0_settles : Only noticeFlds s (s.dicePhase0 p) := by
  unfold State.dicePhase0
  split
  · exact .refl _ s
  · extract_lets r1 r2 s1 s2
    have h2 : Only noticeFlds s s2 := ((s.updDice_settles p _).trans (State.diceRefused_settles ..)).trans (State.diceSend_settles ..)
    exact .ite (h2.trans (State.diceAdvance_settles ..)) h2

theorem State.diceFill_settles (fuel : Nat) (s : State) : Only noticeFlds s (State.diceFill fuel p s) := by
  induction fuel generalizing s with
  | zero => exact .refl _ s
  | succ fuel ih =>
    unfold State.diceFill
    split
    · exact .refl _ s
    · extract_lets s1
      have h1 : Only noticeFlds s s1 := s.dicePhase0_settles p
      refine .ite (.refl _ s) (.ite (.ite ((h1.trans (s1.diceOpen_settles p)).trans (ih _)) h1) ?_)
      split
      · exact .refl _ s
      · extract_lets s2
        have h2 : Only noticeFlds s s2 := s.updDice_settles p _
        split
        · exact (h2.trans (s2.diceJoin_settles p ..)).trans (ih _)
        · exact h2.trans (ih s2)

theorem State.diceKick_settles : Only noticeFlds s (s.diceKick p) := by
  unfold State.diceKick
  extract_lets d s1
  have h1 : Only noticeFlds s s1 := .ite (s.diceOpen_settles p) (.refl _ s)
  exact h1.trans (State.diceFill_settles ..)

theorem State.diceSendRow_settles (r : DRound) (c : Choice) : Only noticeFlds s (s.diceSendRow p r c) := by
  unfold State.diceSendRow
  split
  · exact s.sendMsg_settles ..
  · exact .refl _ s

theorem State.diceAnswered_settles (home : Nat) (f : Choice → Choice) : Only noticeFlds s (s.diceAnswered p home f) := by
  unfold State.diceAnswered
  split
  · exact .refl _ s
  · extract_lets asked cs r1 s1 rows s2
    have h1 : Only noticeFlds s s1 := s.updDice_settles p _
    have h2 : Only noticeFlds s1 s2 := .foldl _ (fun t c => t.diceSendRow_settles p r1 c) _ s1
    exact .ite (((h1.trans h2).trans (State.diceAdvance_settles ..)).trans (State.diceKick_settles ..)) (h1.trans h2)

theorem State.diceNotice_settles (home phase round : Nat) : Only noticeFlds s (s.diceNotice p home phase round) := by
  unfold State.diceNotice
  split
  · exact .refl _ s
  · exact .ite (s.diceAnswered_settles ..) (.refl _ s)

theorem State.diceLost_settles (tag : Nat) : Only noticeFlds s (s.diceLost p tag) := by
  unfold State.diceLost
  split
  · exact s.diceFinish_settles ..
  · exact .refl _ s

/-! ### Failures of collectives (14 R396, R399) -/

theorem Wrote.rotPut (n cmd : Nat) (cnt : Option Nat) (at_ : Nat) (d : List PByte) : Wrote s (s.rotPut n cmd cnt at_ d) :=
  (Wrote.updRun ..).trans (.pumpOwn ..)

theorem Wrote.rotRecordPut (n cmd : Nat) (cnt : Option Nat) (at_ : Nat) (rc : List Byte) : Wrote s (s.rotRecordPut n cmd cnt at_ rc) :=
  (Wrote.updRun ..).trans (.rotPut ..)

theorem State.planCommit_settles : Only noticeFlds s (s.planCommit p) := by
  refine .foldl _ (fun t r => ?_) _ s
  unfold State.planTake
  split
  · exact .refl _ t
  · exact .ite (.refl _ t) (t.updRot_settles p _)

theorem State.rotConclude_settles (k : Nat) : Only noticeFlds s (s.rotConclude p k) := by
  unfold State.rotConclude
  split
  · exact .refl _ s
  · exact .ite ((s.updRot_settles p _).trans (State.planCommit_settles ..)) (.refl _ s)

theorem State.rotFailRecords_settles (k : Nat) : Only noticeFlds s (s.rotFailRecords p k) := by
  unfold State.rotFailRecords
  split
  · exact .refl _ s
  · split
    · exact .refl _ s
    · extract_lets s1
      have h1 : Only noticeFlds s s1 := .foldl _ (fun t y => ((Wrote.updRun ..).trans (.rotRecordPut ..)).settles) _ s
      exact (h1.trans (s1.updRot_settles p _)).trans (State.rotConclude_settles ..)

theorem State.rotAbort_settles (k num code origin : Nat) : Only noticeFlds s (s.rotAbort p k num code origin) := by
  refine .foldl _ (fun t i => ?_) _ s
  exact .ite (.refl _ t) (.foldl _ (fun u x => (u.sendMsg_settles ..).trans (Wrote.tallyAdd ..).settles) _ t)

theorem State.rotFail_settles (k code origin : Nat) (remote : Bool) : Only noticeFlds s (s.rotFail p k code origin remote) := by
  unfold State.rotFail
  extract_lets x s1
  have h1 : Only noticeFlds s s1 := s.updRot_settles p _
  exact .ite (.refl _ s) ((h1.trans (s1.rotAbort_settles ..)).trans (State.rotFailRecords_settles ..))

/-! ### The NOTICE (13 R365) -/

theorem State.noticed_settles (m : Msg) (reason : Nat) : Only noticeFlds s (s.noticed m reason) := by
  unfold State.noticed
  dsimp only
  split
  · exact .ite (s.diceNotice_settles ..) (.refl _ s)
  · exact .ite (s.diceNotice_settles ..) (.refl _ s)
  · exact .ite (s.diceLost_settles ..) (.refl _ s)
  · exact .ite (s.diceLost_settles ..) (.refl _ s)
  · exact .ite (s.rotFail_settles ..) (.refl _ s)
  · exact .ite (s.rotFail_settles ..) (.refl _ s)
  · exact .refl _ s

/-- Only messages of kinds 1 to 6 stand for something a NOTICE settles. -/
theorem State.noticed_other {m : Msg} (reason : Nat) (h : m.kind = 7 ∨ 8 ≤ m.kind ∨ m.kind = 0) : s.noticed m reason = s := by
  unfold State.noticed
  dsimp only
  split
  case h_7 => rfl
  all_goals omega

end

theorem State.takeMsg_only {s t : State} {f : Msg → Bool} {m : Msg} (h : s.takeMsg f = some (m, t)) : Only [.link] s t := by
  unfold State.takeMsg at h
  split at h
  · cases h
  · obtain ⟨x, -, hx⟩ := Option.map_eq_some_iff.1 h
    cases hx
    exact only_iff_mask.2 (mask_link s (by decide) _)

section
variable {s t0 : State} {m : Msg} (htake : s.takeMsg (fun m => m.kind = 8) = some (m, t0))
include htake

theorem exec_noticeReceived (hclk : s.power.clockOn = true) : exec .noticeReceived s =
    .next (t0.noticed (Msg.ofHeader (leNat (rawBytes m.data)) []) (bits m.arg0 7 0)) := by
  have hexec : execNoticeReceived s = .next _ := State.clocked_on _ hclk
  simp only [htake] at hexec
  exact hexec

theorem noticeReceived_settles (hclk : s.power.clockOn = true) :
    ∃ s', exec .noticeReceived s = .next s' ∧ s'.time = s.time ∧ s'.boot = s.boot := by
  have honly := ((State.takeMsg_only htake).mono (by decide)).trans
    (t0.noticed_settles (Msg.ofHeader (leNat (rawBytes m.data)) []) (bits m.arg0 7 0))
  exact ⟨_, exec_noticeReceived htake hclk, honly.time.resolve_left (by decide), honly.boot.resolve_left (by decide)⟩

theorem noticeReceived_other {h : Msg} (hh : h = Msg.ofHeader (leNat (rawBytes m.data)) []) (hkind : h.kind = 7 ∨ 8 ≤ h.kind ∨ h.kind = 0)
    (hclk : s.power.clockOn = true) : ∃ s', exec .noticeReceived s = .next s' ∧ s' = t0 :=
  ⟨_, exec_noticeReceived htake hclk, t0.noticed_other _ (hh ▸ hkind)⟩

/-- The row of a choice of the round in progress is lost: its result is written as refused. -/
theorem noticeReceived_rowLost {h : Msg} {r : DRound} {c : Choice} {src : RSrc} {t : Tok} (hh : h = Msg.ofHeader (leNat (rawBytes m.data)) [])
    (hkind : h.kind = 3) (hown : tgChip h.arg0 = s.chipId) (hrnd : (s.pav h.spav).dice.rnd = some r)
    (hchoice : (s.pav h.spav).dice.choiceOf h.arg0 = some (r, c)) (hsrc : r.srcs.find? (fun x => x.source = c.source) = some src)
    (htok : r.toks.find? (fun t => t.source = c.source && t.pos = c.pos) = some t) (hclk : s.power.clockOn = true) :
    ∃ s' r', exec .noticeReceived s = .next s' ∧ s'.link.delivered = t0.link.delivered ∧ (s'.pav h.spav).dice.rnd = some r' ∧
      ∀ y ∈ r'.choices, y.source = c.source → y.pos = c.pos → y.c = c.c → y.state = 4 := by
  have honly := State.takeMsg_only htake
  have hpav : t0.pav h.spav = s.pav h.spav := State.pav_congr (honly.pavs.resolve_left (by decide)) _
  have hchip : t0.chipId = s.chipId := State.obj_of_only honly (by decide) ..
  obtain ⟨u, hu, hfinish⟩ := t0.diceFinish_spec h.spav hsrc htok true 16 []
  have hexec := exec_noticeReceived htake hclk
  rw [← hh] at hexec
  have hnoticed : t0.noticed h (bits m.arg0 7 0) = u.updRounds h.spav (·.finished r c) := by
    rw [← hfinish]
    simp [State.noticed, hkind, hchip, hown, State.diceLost, hpav, hchoice]
  have hdice : (u.pav h.spav).dice.rnd = some r := by rw [hu.dice, hpav, hrnd]
  refine ⟨_, r.finished r c, hexec.trans (congrArg _ hnoticed), ?_, ?_, fun y hy hs hp hc => ?_⟩
  · exact (congrArg LinkSt.delivered (hu.only.link.resolve_left (by decide)) :)
  · unfold State.updRounds
    rw [State.dice_updDice]
    dsimp only
    rw [hdice]
    rfl
  · simp only [DRound.finished, decide_true, Bool.and_self, if_true, List.mem_map] at hy
    obtain ⟨x, -, rfl⟩ := hy
    split
    · rfl
    · next hne =>
      rw [if_neg hne] at hs hp hc
      simp [hs, hp, hc] at hne

end

/-- Settles O33: a head flit goes its way and leaves the flits after it; a notice settles choices and collectives without the time or the boot;
a message that has waited its limit is taken out, and what comes back to injection are the others and NOTICEs. -/
theorem messages : Obligations.Messages :=
  ⟨fun _ _ _ _ _ hroute hflits hway hclk => messageHead_goes hroute hflits hway hclk,
    fun _ _ _ _ hroute hflits hhead => ⟨fun htail hhere hroom hclk => messageHead_gathers hroute hflits hhead htail hhere hroom hclk,
      fun hhere hfull => messageHead_waits hroute hflits hhead hhere hfull,
      fun htail hhere hroom _ hm hlow hhigh hactive hreset hclk =>
        messageHead_delivers hroute hflits hhead htail hhere hroom hm hlow hhigh hactive hreset hclk,
      fun _ htail hport hfree hnone hclk => messageHead_forwards hroute hflits hhead htail hport hfree hnone hclk,
      fun _ htail hfail hclk => messageHead_drops hroute hflits hhead htail hfail hclk⟩,
    fun _ _ _ _ htake hh => ⟨fun hclk => noticeReceived_settles htake hclk,
      fun _ _ _ _ hkind hown hrnd hchoice hsrc htok hclk => noticeReceived_rowLost htake hh hkind hown hrnd hchoice hsrc htok hclk,
      fun hkind hclk => noticeReceived_other htake hh hkind hclk⟩,
    fun _ _ hi hclk => linkInjectTimeout_refuses hi hclk,
    fun _ _ hi hkind hlate hclk => linkInjectTimeout_late hi hclk hkind hlate,
    fun _ _ h => routeCommit_takesTable h⟩

end Sys2Proof.Machine
end

section
/-! PROOF. What the table of a Rotunda holds of each plan as staged plans take effect and collectives come and go (14 R386, R399). -/

namespace Sys2Proof.Machine
open Sys2Proof.Safety

/-! ### One plan of a Rotunda (14 R386) -/

/-- What a Rotunda holds of one plan: the plan in effect, its count, and the plan staged to replace it. -/
structure PlanRow where
  plan : Option Nat
  count : Option Nat
  staged : Option Nat

/-- The row once a staged plan has taken effect, which it does while no collective is in progress (14 R386). -/
def PlanRow.settle (w : PlanRow) (idle : Bool) : PlanRow :=
  match w.staged, idle with
  | some r, true => { plan := some r, count := some 0, staged := none }
  | _, _ => w

theorem PlanRow.settle_busy (w : PlanRow) : w.settle false = w := by
  unfold PlanRow.settle
  split <;> simp_all

theorem PlanRow.settle_unstaged {w : PlanRow} (idle : Bool) (h : w.staged = none) : w.settle idle = w := by simp [PlanRow.settle, h]

theorem PlanRow.settle_staged {w : PlanRow} {r : Nat} (h : w.staged = some r) :
    w.settle true = { plan := some r, count := some 0, staged := none } := by
  simp [PlanRow.settle, h]

theorem PlanRow.settle_settle (w : PlanRow) (idle : Bool) : (w.settle idle).settle idle = w.settle idle := by
  cases idle with
  | false => rw [PlanRow.settle_busy]
  | true =>
    cases h : w.staged with
    | none => rw [PlanRow.settle_unstaged true h, PlanRow.settle_unstaged true h]
    | some r => rw [PlanRow.settle_staged h]; rfl

def RotSt.row (r : RotSt) (k : Nat) : PlanRow :=
  { plan := Sparse.find r.plans k, count := Sparse.find r.counts k, staged := Sparse.find r.staged k }

/-- The collective of a plan that a Rotunda has in progress. -/
def RotSt.inst (r : RotSt) (k : Nat) : Option Inst := r.insts.find? (fun x => x.plan = k)

theorem State.inst_eq (s : State) (p k : Nat) : s.inst p k = (s.pav p).rot.inst k := rfl

/-- The plan of a row as COLLECTs and messages find it: 0 where there is none or its V is 0 (14 R399). -/
def PlanRow.valid (w : PlanRow) : Nat := if plV (w.plan.getD 0) then w.plan.getD 0 else 0

/-! What reads a plan and its count reads its row. -/

theorem State.plan_eq_valid {s : State} {p k : Nat} {w : PlanRow} (h : (s.pav p).rot.row k = w) : s.plan p k = w.valid := by
  subst h
  rfl

theorem State.plan_of_row {s t : State} {p k : Nat} (h : (t.pav p).rot.row k = (s.pav p).rot.row k) : t.plan p k = s.plan p k :=
  State.plan_eq_valid h

theorem State.instCount_of_row {s : State} {p k : Nat} {w : PlanRow} (h : (s.pav p).rot.row k = w) : s.instCount p k = w.count.getD 0 := by
  subst h
  rfl

/-! ### Staged plans take effect (14 R386) -/

/-- The Rotunda once the plan staged as plan k has taken effect, if it can. -/
def RotSt.take (r : RotSt) (k : Nat) : RotSt :=
  match Sparse.find r.staged k with
  | none => r
  | some v =>
    if (r.inst k).isSome then r
    else { r with plans := Sparse.put r.plans k v, counts := Sparse.put r.counts k 0, staged := Sparse.del r.staged k }

/-- The Rotunda once every staged plan that can has taken effect. -/
def RotSt.commit (r : RotSt) : RotSt := r.staged.foldl (fun r x => r.take x.1) r

/-- What no plan that takes effect changes: the collectives, and how a load stands. -/
structure RotSt.Keeps (a b : RotSt) : Prop where
  insts : b.insts = a.insts
  loading : b.loading = a.loading
  loaded : b.loaded = a.loaded

theorem RotSt.take_keeps (r : RotSt) (k : Nat) : r.Keeps (r.take k) := by
  unfold RotSt.take
  split
  · exact ⟨rfl, rfl, rfl⟩
  · split <;> exact ⟨rfl, rfl, rfl⟩

theorem RotSt.row_take (r : RotSt) (j k : Nat) : (r.take j).row k = if k = j then (r.row k).settle (r.inst k).isNone else r.row k := by
  unfold RotSt.take
  split
  · next hnone =>
    split
    · next h => subst h; rw [PlanRow.settle_unstaged _ hnone]
    · rfl
  · next v hv =>
    by_cases hk : k = j
    · subst hk
      cases hinst : r.inst k with
      | none =>
        rw [if_pos rfl, Option.isNone_none, PlanRow.settle_staged (w := r.row k) hv]
        simp [RotSt.row, Sparse.find_put, Sparse.find_del]
      | some x => simp [PlanRow.settle_busy]
    · split <;> simp [hk, RotSt.row, Sparse.find_put, Sparse.find_del]

theorem RotSt.foldl_take_keeps (l : List (Nat × Nat)) (r : RotSt) : r.Keeps (l.foldl (fun r x => r.take x.1) r) :=
  List.foldlRecOn (motive := fun t : RotSt => r.Keeps t) _ _ ⟨rfl, rfl, rfl⟩ fun t ht x _ =>
    have hx := t.take_keeps x.1
    ⟨hx.insts.trans ht.insts, hx.loading.trans ht.loading, hx.loaded.trans ht.loaded⟩

theorem RotSt.row_foldl_take (l : List (Nat × Nat)) (r : RotSt) (k : Nat) : (l.foldl (fun r x => r.take x.1) r).row k =
    if k ∈ l.map (·.1) then (r.row k).settle (r.inst k).isNone else r.row k := by
  induction l generalizing r with
  | nil => rfl
  | cons x l ih =>
    have hinst : (r.take x.1).inst k = r.inst k := by rw [RotSt.inst, (r.take_keeps x.1).insts, RotSt.inst]
    simp only [List.foldl_cons, ih, hinst, RotSt.row_take, List.map_cons, List.mem_cons]
    by_cases hx : k = x.1
    · simp only [hx, if_true, true_or, PlanRow.settle_settle, ite_self]
    · simp only [hx, if_false, false_or]

theorem RotSt.commit_keeps (r : RotSt) : r.Keeps r.commit := RotSt.foldl_take_keeps ..

theorem RotSt.row_commit (r : RotSt) (k : Nat) : r.commit.row k = (r.row k).settle (r.inst k).isNone := by
  unfold RotSt.commit
  rw [RotSt.row_foldl_take]
  split
  · rfl
  · next hmem =>
    refine (PlanRow.settle_unstaged _ (Option.eq_none_iff_forall_ne_some.2 fun v hv => hmem ?_)).symm
    exact List.mem_map_of_mem (Sparse.mem_of_find (v := v) hv)

theorem RotSt.row_commit_stays {r : RotSt} {k : Nat} (h : Sparse.find r.staged k = none ∨ (r.inst k).isSome = true) :
    r.commit.row k = r.row k := by
  rw [RotSt.row_commit]
  rcases h with h | h
  · exact PlanRow.settle_unstaged _ h
  · rw [← Option.not_isSome, h]
    exact PlanRow.settle_busy _

theorem RotSt.row_commit_takes {r : RotSt} {k v : Nat} (h : Sparse.find r.staged k = some v) (hidle : r.inst k = none) :
    r.commit.row k = { plan := some v, count := some 0, staged := none } := by
  rw [RotSt.row_commit, hidle]
  exact PlanRow.settle_staged h

/-! ### A Rotunda in the chip -/

/-- From `s` to `t` the Rotunda of Pavilion p has become `r`, and nothing else has changed but that Pavilion. -/
structure RotBecomes (p : Nat) (s t : State) (r : RotSt) : Prop where
  only : Only [.pavs] s t
  others : OtherPavs p s t
  rot : (t.pav p).rot = r

theorem State.updRot_becomes (s : State) (p : Nat) (f : RotSt → RotSt) : RotBecomes p s (s.updRot p f) (f (s.pav p).rot) where
  only := only_iff_mask.2 (mask_pavs s (by decide) _)
  others q hq := (s.pav_setPav p _ q).trans (if_neg hq)
  rot := congrArg Pav.rot (s.pav_setPav_self p _)

theorem State.planTake_becomes (s : State) (p k : Nat) : RotBecomes p s (s.planTake p k) ((s.pav p).rot.take k) := by
  have hstays : RotBecomes p s s (s.pav p).rot := ⟨.refl _ s, fun _ _ => rfl, rfl⟩
  cases hstaged : Sparse.find (s.pav p).rot.staged k with
  | none => simpa only [State.planTake, RotSt.take, hstaged] using hstays
  | some v =>
    cases hinst : (s.pav p).rot.inst k with
    | some x => simpa [State.planTake, RotSt.take, hstaged, s.inst_eq p k, hinst] using hstays
    | none => simpa [State.planTake, RotSt.take, hstaged, s.inst_eq p k, hinst] using s.updRot_becomes p _

theorem State.foldl_planTake_becomes (p : Nat) (l : List (Nat × Nat)) (s : State) :
    RotBecomes p s (l.foldl (fun s x => s.planTake p x.1) s) (l.foldl (fun r x => r.take x.1) (s.pav p).rot) := by
  induction l generalizing s with
  | nil => exact ⟨.refl _ s, fun _ _ => rfl, rfl⟩
  | cons x l ih =>
    have hx := s.planTake_becomes p x.1
    have hl := ih (s.planTake p x.1)
    rw [hx.rot] at hl
    exact ⟨hx.only.trans hl.only, fun q hq => (hl.others q hq).trans (hx.others q hq), hl.rot⟩

theorem State.planCommit_becomes (s : State) (p : Nat) : RotBecomes p s (s.planCommit p) (s.pav p).rot.commit :=
  State.foldl_planTake_becomes ..

/-- While a collective of every staged plan is in progress, none takes effect. -/
theorem State.planCommit_busy {s : State} {p : Nat} (h : ∀ x ∈ (s.pav p).rot.staged, (s.inst p x.1).isSome = true) : s.planCommit p = s := by
  refine List.foldlRecOn (motive := fun t : State => t = s) _ _ rfl fun t ht x hx => ?_
  subst ht
  unfold State.planTake
  split
  · rfl
  · exact if_pos (h x hx)

end Sys2Proof.Machine
end

section
/-! PROOF. ROT_PLAN_LOAD, the end of its copy, and the plans that take effect later (10 R271; 14 R386). -/

namespace Sys2Proof.Machine
open Sys2Proof.Safety

/-! ### Reads of the Rotunda for a Pavilion (10 R271 to R276; 16 R443) -/

/-- What the reads of the Rotunda for Pavilion p leave: the cores, the objects, the other Pavilions, and the Pavilion's Rotunda. -/
structure PlanReads (p : Nat) (s t : State) : Prop where
  cores : t.cores = s.cores
  objs : t.objs = s.objs
  others : OtherPavs p s t
  rot : (t.pav p).rot = (s.pav p).rot

theorem PlanReads.refl (p : Nat) (s : State) : PlanReads p s s := ⟨rfl, rfl, fun _ _ => rfl, rfl⟩

theorem PlanReads.trans {p : Nat} {s t u : State} (h : PlanReads p s t) (g : PlanReads p t u) : PlanReads p s u :=
  ⟨g.cores.trans h.cores, g.objs.trans h.objs, fun q hq => (g.others q hq).trans (h.others q hq), g.rot.trans h.rot⟩

theorem TierOnly.planReads {s t : State} (h : TierOnly s t) (p : Nat) : PlanReads p s t := by
  have hpav := State.pav_congr (h.pavs.resolve_left (by decide))
  exact ⟨h.cores.resolve_left (by decide), h.objs.resolve_left (by decide), fun q _ => hpav q, congrArg Pav.rot (hpav p)⟩

theorem Pav.rot_mark (v : Pav) (k cls c : Nat) : (v.mark k cls c).2.rot = v.rot := by
  unfold Pav.mark
  dsimp only
  split
  · rfl
  · split <;> rfl

theorem State.unitMark_planReads (s : State) (p r pa len : Nat) : PlanReads p s (s.unitMark p 2 r pa len) where
  cores := rfl
  objs := rfl
  others q hq := (s.pav_setPav p _ q).trans (if_neg hq)
  rot := (congrArg Pav.rot (s.pav_setPav_self p _)).trans (Pav.rot_mark ..)

theorem State.unitHost_planReads (s : State) (p pa len : Nat) : PlanReads p s (s.unitHost p 2 pa len).2 := by
  unfold State.unitHost
  split
  · exact .refl p s
  · split
    · exact .refl p s
    · have h := s.unitMark_planReads p 5 pa len
      exact ⟨h.cores, h.objs, h.others, h.rot⟩

theorem State.unitPhys_planReads (s : State) (p pa len : Nat) (oc : Bool) : PlanReads p s (s.unitPhys p 2 pa len oc).2 := by
  unfold State.unitPhys
  split
  · exact s.unitHost_planReads ..
  · exact (s.unitMark_planReads ..).trans ((State.memRead_tierOnly ..).planReads p)

theorem State.unitRead_planReads (s : State) (p va len : Nat) : PlanReads p s (s.unitRead p va len 2).2 := by
  refine List.foldlRecOn (motive := fun x : UnitR × State => PlanReads p s x.2) _ _ (.refl p s) fun x hx a _ => ?_
  have haddr := x.2.unitAddr_tierOnly p a.1 a.2 false
  dsimp only
  split
  · exact hx
  · split
    · next h => exact hx.trans ((TierOnly.of_pair h haddr).planReads p)
    · next h => exact (hx.trans ((TierOnly.of_pair h haddr).planReads p)).trans (State.unitPhys_planReads ..)

theorem PlanReads.of_read {s t : State} {p va len : Nat} {r : UnitR} (h : s.unitRead p va len 2 = (r, t)) : PlanReads p s t := by
  have hread := s.unitRead_planReads p va len
  rwa [h] at hread

/-! ### ROT_PLAN_LOAD (14 R386) -/

/-- A Rotunda that starts a load of plan k from `va`; one whose load has failed; one whose load has staged `r` as plan k. -/
def RotSt.loads (r : RotSt) (k va : Nat) : RotSt := { r with loading := some (k, va), loaded := false, failed := false }
def RotSt.loadFailed (r : RotSt) : RotSt := { r with loading := none, failed := true }
def RotSt.stages (x : RotSt) (k r : Nat) : RotSt := { x with loading := none, loaded := true, staged := Sparse.put x.staged k r }

theorem State.applyWrite_planLoad (s : State) (who : Requester) (p : PavIx) (v : Nat) : s.applyWrite who (0x2610 + p) 3 v = s.planLoad p v := by
  fin_cases p <;> rfl

theorem rotPlanLoad_starts {s : State} {who : Requester} {p : PavIx} (h : Takes s who (0x2610 + p) 3 1 1) :
    ∃ s', exec (.rotPlanLoad who p 1) s = .next s' ∧ Only [.pavs, .dict, .out] s s' ∧ OtherPavs p s s' ∧ Answered s s' who 0 0 ∧
      (s'.pav p).rot = (s.pav p).rot.loads (s.obj (0x2610 + p) 1) (s.obj (0x2610 + p) 2) := by
  have htouch := s.touch_only who
  have hpav : ∀ q, (s.touch who).pav q = s.pav q := State.pav_congr (htouch.pavs.resolve_left (by decide))
  have hobj : ∀ i j, (s.touch who).obj i j = s.obj i j := State.obj_congr (htouch.objs.resolve_left (by decide))
  have hkeep : objKeep (0x2610 + p) 3 (1 % 256 ^ 1) = 1 % 256 ^ 1 := by
    fin_cases p <;> rfl
  have hexec := State.putRow_takes h hkeep (by omega)
  rw [State.applyWrite_planLoad] at hexec
  have hload := (s.touch who).updRot_becomes p (·.loads ((s.touch who).obj (0x2610 + p) 1) ((s.touch who).obj (0x2610 + p) 2))
  refine ⟨_, hexec, ?_, fun q hq => (hload.others q hq).trans (hpav q), ?_, ?_⟩
  · exact ((htouch.mono (by decide)).trans (hload.only.mono (by decide))).trans (only_iff_mask.2 (mask_out _ (by decide) _))
  · exact congrArg (· ++ [_]) (htouch.out.resolve_left (by decide))
  · exact hload.rot.trans (by rw [hobj, hobj, hpav])

/-! ### The end of the copy (14 R386) -/

/-- The plan `r` that a load for Pavilion p has read fails it (14 R386). -/
def State.planFails (s : State) (p r : Nat) : Bool :=
  planBad r || (plCores r).any (fun n => !s.coreUsable n || !bit (s.pavCores p) n) || decide (plMask r / 2 ^ 144 ≠ 0)

theorem State.planFails_of_bad {s : State} {p r : Nat}
    (h : planBad r = true ∨ ∃ n ∈ plCores r, s.coreUsable n = false ∨ bit (s.pavCores p) n = false) : s.planFails p r = true := by
  rcases h with h | ⟨n, hn, h⟩
  · simp [State.planFails, h]
  · have hany : (plCores r).any (fun n => !s.coreUsable n || !bit (s.pavCores p) n) = true := List.any_eq_true.2 ⟨n, hn, by simpa using h⟩
    simp [State.planFails, hany]

theorem State.planFails_of_legal {s : State} {p r : Nat} (hlegal : planBad r = false)
    (hcores : ∀ n ∈ plCores r, s.coreUsable n = true ∧ bit (s.pavCores p) n = true) (hmask : plMask r < 2 ^ 144) : s.planFails p r = false := by
  have hany : (plCores r).any (fun n => !s.coreUsable n || !bit (s.pavCores p) n) = false :=
    List.any_eq_false.2 fun n hn => by simp [hcores n hn]
  simpa [State.planFails, hlegal, hany] using hmask

section
variable {s t : State} {p : PavIx} {k va : Nat} (hclk : s.power.clockOn = true) (hloading : (s.pav p).rot.loading = some (k, va))
include hclk hloading

theorem exec_rotPlanLoadDone_wait (hread : s.unitRead p va 64 2 = (.wait, t)) : exec (.rotPlanLoadDone p) s = .next t := by
  calc exec (.rotPlanLoadDone p) s = execRotPlanLoadDone p s := rfl
    _ = .next t := by simp [execRotPlanLoadDone, State.clocked_on _ hclk, hloading, hread]

theorem exec_rotPlanLoadDone_error {c : Nat} (hread : s.unitRead p va 64 2 = (.error c, t)) :
    exec (.rotPlanLoadDone p) s = .next ((t.unitEnd p 2).updRot p RotSt.loadFailed) := by
  calc exec (.rotPlanLoadDone p) s = execRotPlanLoadDone p s := rfl
    _ = _ := by
      simp only [execRotPlanLoadDone, State.clocked_on _ hclk, hloading, hread]
      rfl

theorem exec_rotPlanLoadDone_ok {b : List PByte} (hread : s.unitRead p va 64 2 = (.ok b, t)) : exec (.rotPlanLoadDone p) s =
    .next (if s.planFails p (leNat (rawBytes b)) then (t.unitEnd p 2).updRot p RotSt.loadFailed
      else ((t.unitEnd p 2).updRot p (·.stages k (leNat (rawBytes b)))).planCommit p) := by
  have hreads := PlanReads.of_read hread
  have hcore : ∀ n, (t.unitEnd p 2).core n = s.core n := State.core_congr hreads.cores
  have hobj : ∀ i j, (t.unitEnd p 2).obj i j = s.obj i j := State.obj_congr hreads.objs
  calc exec (.rotPlanLoadDone p) s = execRotPlanLoadDone p s := rfl
    _ = _ := by
      simp only [execRotPlanLoadDone, State.clocked_on _ hclk, hloading, hread, State.coreUsable, State.pavCores, hcore, hobj]
      rfl

end

/-- What the end of a load leaves, once its Rotunda has been changed by `f`. -/
theorem PlanReads.ended {s t : State} {p : Nat} (h : PlanReads p s t) (f : RotSt → RotSt) :
    ((t.unitEnd p 2).updRot p f).cores = s.cores ∧ OtherPavs p s ((t.unitEnd p 2).updRot p f) ∧
      (((t.unitEnd p 2).updRot p f).pav p).rot = f (s.pav p).rot := by
  have hset := (t.unitEnd p 2).updRot_becomes p f
  exact ⟨h.cores, fun q hq => (hset.others q hq).trans (h.others q hq), hset.rot.trans (congrArg f h.rot)⟩

theorem RotSt.row_stages (x : RotSt) (k r j : Nat) : (x.stages k r).row j = if j = k then { x.row k with staged := some r } else x.row j := by
  unfold RotSt.row RotSt.stages
  simp only [Sparse.find_put]
  split
  · next h => subst h; rfl
  · rfl

/-! ### A staged plan (14 R386) -/

section
variable {s s' : State} {p k : Nat}

/-- A plan that has been staged takes effect at once, with its count at 0, where no collective of it is in progress. -/
theorem staged_takes {r : Nat} (hrot : (s'.pav p).rot = ((s.pav p).rot.stages k r).commit) (hidle : s.inst p k = none) :
    Sparse.find (s'.pav p).rot.plans k = some r ∧ s'.instCount p k = 0 ∧ Sparse.find (s'.pav p).rot.staged k = none := by
  have hrow : (s'.pav p).rot.row k = { plan := some r, count := some 0, staged := none } := by
    rw [hrot]
    exact RotSt.row_commit_takes (r := (s.pav p).rot.stages k r) ((Sparse.find_put ..).trans (if_pos rfl)) hidle
  exact ⟨congrArg PlanRow.plan hrow, State.instCount_of_row hrow, congrArg PlanRow.staged hrow⟩

/-- A plan that has been staged waits while a collective of it is in progress. -/
theorem staged_waits {r : Nat} (hrot : (s'.pav p).rot = ((s.pav p).rot.stages k r).commit) (hbusy : (s.inst p k).isSome = true) :
    Sparse.find (s'.pav p).rot.staged k = some r ∧ s'.plan p k = s.plan p k ∧ s'.instCount p k = s.instCount p k := by
  have hrow : (s'.pav p).rot.row k = { (s.pav p).rot.row k with staged := some r } := by
    rw [hrot, RotSt.row_commit_stays (r := (s.pav p).rot.stages k r) (.inr hbusy), RotSt.row_stages, if_pos rfl]
  exact ⟨congrArg PlanRow.staged hrow, State.plan_eq_valid hrow, State.instCount_of_row hrow⟩

end

theorem rotPlanLoadDone_stages {s t : State} {p : PavIx} {k va : Nat} {b : List PByte} (hclk : s.power.clockOn = true)
    (hloading : (s.pav p).rot.loading = some (k, va)) (hread : s.unitRead p va 64 2 = (.ok b, t))
    (hfits : s.planFails p (leNat (rawBytes b)) = false) : ∃ s', exec (.rotPlanLoadDone p) s = .next s' ∧ s'.cores = s.cores ∧
      OtherPavs p s s' ∧ (s'.pav p).rot = ((s.pav p).rot.stages k (leNat (rawBytes b))).commit := by
  obtain ⟨hcores, hothers, hrot⟩ := (PlanReads.of_read hread).ended (·.stages k (leNat (rawBytes b)))
  have hcommit := State.planCommit_becomes ((t.unitEnd p 2).updRot p (·.stages k (leNat (rawBytes b)))) p
  rw [hrot] at hcommit
  rw [exec_rotPlanLoadDone_ok hclk hloading hread, if_neg (by simp [hfits])]
  exact ⟨_, rfl, (hcommit.only.cores.resolve_left (by decide)).trans hcores, fun q hq => (hcommit.others q hq).trans (hothers q hq), hcommit.rot⟩

theorem rotPlanLoadDone_fails {s t : State} {p : PavIx} {k va : Nat} {b : List PByte} (hclk : s.power.clockOn = true)
    (hloading : (s.pav p).rot.loading = some (k, va)) (hread : s.unitRead p va 64 2 = (.ok b, t))
    (hfails : s.planFails p (leNat (rawBytes b)) = true) : ∃ s', exec (.rotPlanLoadDone p) s = .next s' ∧ s'.cores = s.cores ∧
      OtherPavs p s s' ∧ (s'.pav p).rot = (s.pav p).rot.loadFailed := by
  rw [exec_rotPlanLoadDone_ok hclk hloading hread, if_pos hfails]
  exact ⟨_, rfl, (PlanReads.of_read hread).ended _⟩

theorem rotPlanCommit_takes {s : State} {p : PavIx} {k r : Nat} (hstaged : Sparse.find (s.pav p).rot.staged k = some r)
    (hidle : s.inst p k = none) (hclk : s.power.clockOn = true) : ∃ s', exec (.rotPlanCommit p) s = .next s' ∧ Only [.pavs] s s' ∧
      OtherPavs p s s' ∧ (s'.pav p).rot.insts = (s.pav p).rot.insts ∧ Sparse.find (s'.pav p).rot.plans k = some r ∧ s'.instCount p k = 0 ∧
      Sparse.find (s'.pav p).rot.staged k = none ∧
      ∀ j, j ≠ k → Sparse.find (s.pav p).rot.staged j = none ∨ (s.inst p j).isSome = true → s'.plan p j = s.plan p j := by
  obtain ⟨honly, hothers, hrot⟩ := s.planCommit_becomes p
  have hrow : ((s.planCommit p).pav p).rot.row k = { plan := some r, count := some 0, staged := none } := by
    rw [hrot, RotSt.row_commit_takes hstaged hidle]
  refine ⟨_, (State.clocked_on _ hclk : execRotPlanCommit p s = _), honly, hothers, ?_, congrArg PlanRow.plan hrow,
    State.instCount_of_row hrow, congrArg PlanRow.staged hrow, fun j _ hstays => State.plan_of_row ?_⟩
  · rw [hrot, (RotSt.commit_keeps _).insts]
  · rw [hrot, RotSt.row_commit_stays hstays]

theorem rotPlanCommit_busy {s : State} {p : PavIx} (h : ∀ x ∈ (s.pav p).rot.staged, (s.inst p x.1).isSome = true) :
    exec (.rotPlanCommit p) s = .next s := by
  calc exec (.rotPlanCommit p) s = .next (if s.power.clockOn then s.planCommit p else s) := rfl
    _ = .next s := by rw [State.planCommit_busy h, ite_self]

/-- Settles O35, by what a staged plan leaves of each plan's row: a row whose staged plan can take effect takes it, any other stands. -/
theorem rotundaPlans : Obligations.RotundaPlans := by
  unfold Obligations.RotundaPlans
  refine ⟨fun _ _ _ h => rotPlanLoad_starts h, fun s p k va hloading hclk => ⟨?done, ?error, ?waits⟩,
    fun _ _ _ _ hstaged hidle hclk => rotPlanCommit_takes hstaged hidle hclk, fun _ _ h => rotPlanCommit_busy h⟩
  case waits => exact fun t hread => exec_rotPlanLoadDone_wait hclk hloading hread
  case error => exact fun c t hread => ⟨_, exec_rotPlanLoadDone_error hclk hloading hread, (PlanReads.of_read hread).ended _⟩
  case done =>
    rintro b t _ hread rfl
    refine ⟨fun hlegal hcores hmask => ?_, fun hbad => rotPlanLoadDone_fails hclk hloading hread (State.planFails_of_bad hbad)⟩
    obtain ⟨s', hexec, hsame, hothers, hrot⟩ := rotPlanLoadDone_stages hclk hloading hread (State.planFails_of_legal hlegal hcores hmask)
    have hkeeps := RotSt.commit_keeps ((s.pav p).rot.stages k (leNat (rawBytes b)))
    rw [← hrot] at hkeeps
    refine ⟨s', hexec, hsame, hothers, hkeeps.loaded, hkeeps.loading, hkeeps.insts, staged_takes hrot, staged_waits hrot, fun j hj hstays => ?_⟩
    have hstaged : Sparse.find ((s.pav p).rot.stages k (leNat (rawBytes b))).staged j = Sparse.find (s.pav p).rot.staged j :=
      (Sparse.find_put ..).trans (if_neg hj)
    have hrow : (s'.pav p).rot.row j = (s.pav p).rot.row j := by
      rw [hrot, RotSt.row_commit_stays (hstays.imp_left hstaged.trans), RotSt.row_stages, if_neg hj]
    exact ⟨State.plan_of_row hrow, State.instCount_of_row hrow, congrArg PlanRow.staged hrow⟩

end Sys2Proof.Machine
end

section
/-! PROOF. Messages sent and bytes written into Plots leave the plans and collectives of every Rotunda (13 R361 to R366; 14 R392, R396, R399). -/

namespace Sys2Proof.Machine
open Sys2Proof.Safety

/-- From `s` to `t` the plans and collectives of every Rotunda stand as they stood. -/
structure RotStays (s t : State) : Prop where
  rot : ∀ p, (t.pav p).rot = (s.pav p).rot

theorem RotStays.refl (s : State) : RotStays s s := ⟨fun _ => rfl⟩

theorem RotStays.trans {s t u : State} (h : RotStays s t) (g : RotStays t u) : RotStays s u := ⟨fun p => (g.rot p).trans (h.rot p)⟩

theorem RotStays.of_pavs {s t : State} (h : t.pavs = s.pavs) : RotStays s t := ⟨fun p => congrArg Pav.rot (State.pav_congr h p)⟩

theorem RotStays.of_only {l : List Fld} {s t : State} (h : Only l s t) (hl : Fld.pavs ∉ l) : RotStays s t :=
  .of_pavs (h.pavs.resolve_left hl)

theorem RotStays.ite {s t u : State} {c : Prop} [Decidable c] (h : RotStays s t) (g : RotStays s u) : RotStays s (if c then t else u) := by
  split
  · exact h
  · exact g

theorem RotStays.foldl {α : Type} (f : State → α → State) (h : ∀ s a, RotStays s (f s a)) (xs : List α) (s : State) :
    RotStays s (xs.foldl f s) :=
  List.foldlRecOn (motive := fun t : State => RotStays s t) _ _ (.refl s) fun t ht a _ => ht.trans (h t a)

/-! What reads a Rotunda reads it as it stood. -/

section
variable {s t : State} (h : RotStays s t) (p k : Nat)
include h

theorem RotStays.inst : t.inst p k = s.inst p k := by rw [State.inst_eq, State.inst_eq, h.rot p]

theorem RotStays.plan : t.plan p k = s.plan p k := State.plan_of_row (congrArg (·.row k) (h.rot p))

theorem RotStays.instCount : t.instCount p k = s.instCount p k := State.instCount_of_row (congrArg (·.row k) (h.rot p))

theorem RotStays.rotFrom (m : Msg) : t.rotFrom p m = s.rotFrom p m := by simp only [State.rotFrom, h.plan]

theorem RotStays.rotAge (m : Msg) : t.rotAge p m = s.rotAge p m := by simp only [State.rotAge, h.instCount]

end

/-! ### Bytes of a Plot (09 R241 to R254) -/

section
variable (s : State) (n : Nat)

@[simp] theorem State.pavs_tallyAdd (i j k : Nat) : (s.tallyAdd i j k).pavs = s.pavs :=
  (s.tallyAdd_tells i j k).only.pavs.resolve_left (by decide)

@[simp] theorem State.pavs_plotStop : (s.plotStop n).pavs = s.pavs := by
  unfold State.plotStop
  dsimp only
  split <;> rfl

@[simp] theorem State.pavs_plotDetect (addr kind : Nat) : (s.plotDetect n addr kind).pavs = s.pavs := by
  have hlog (t : State) (d : Nat) : (t.logCore 0x0010 n 2 d).pavs = t.pavs := (t.logCoreS_spec 0x0010 n 2 d false).1.pavs.resolve_left (by decide)
  unfold State.plotDetect
  split
  dsimp only
  split <;> simp [hlog]

theorem RotStays.plotPut (a : Nat) (d : List PByte) : RotStays s (s.plotPut n a d) :=
  .trans (t := s.setCore n ((s.core n).plotPut a d)) (.of_pavs rfl)
    (.foldl _ (fun t _ => .ite (.of_pavs (t.pavs_plotDetect ..)) (.refl t)) _ _)

theorem RotStays.plotWrite (a : Nat) (d : List PByte) (aow : Nat) : RotStays s (s.plotWrite n a d aow) := by
  unfold State.plotWrite
  refine .ite (.plotPut ..) ?_
  extract_lets c ls s1
  have h1 : RotStays s s1 := .foldl _ (fun t _ => .ite (.of_pavs (t.pavs_plotDetect ..)) (.refl t)) _ _
  split
  exact h1.trans (.ite (.of_pavs rfl) (.of_pavs (State.pavs_tallyAdd ..)))

/-! ### Arrival counters and the releases they count (04 R115; 12 R339; 16 R448) -/

theorem RotStays.setPav (p : Nat) {v : Pav} (h : v.rot = (s.pav p).rot) : RotStays s (s.setPav p v) := by
  refine ⟨fun q => ?_⟩
  rw [State.pav_setPav]
  split
  · next hq => rw [h, hq]
  · rfl

theorem RotStays.updPav (p : Nat) {f : Pav → Pav} (h : ∀ v, (f v).rot = v.rot) : RotStays s (s.updPav p f) := .setPav s p (h _)

theorem RotStays.binRow (p cls at_ : Nat) : RotStays s (s.binRow p cls at_) := by
  unfold State.binRow
  extract_lets v ct lat k s1
  have h1 : RotStays s s1 := .setPav s p rfl
  refine .ite (.setPav s p rfl) (h1.trans (.foldl _ (fun t i => ?_) _ _))
  extract_lets cfg t1
  have h1 : RotStays t t1 := .updPav t p fun _ => rfl
  exact .ite (.ite (h1.trans (.of_only (t1.raise_tells ..).only (by decide))) h1) (.refl t)

theorem RotStays.bsRelease (k p : Nat) (s : State) : RotStays s (State.bsRelease k p s) := by
  induction k generalizing s with
  | zero => exact .refl s
  | succ k ih =>
    unfold State.bsRelease
    split
    · exact .refl s
    · extract_lets s1
      have h1 : RotStays s s1 := .updPav s p fun _ => rfl
      exact (h1.trans (.foldl _ (fun t (r : BsOut) => .binRow t p r.cls r.at_) _ _)).trans (ih _)

theorem RotStays.cntAdd (k amount : Nat) : RotStays s (s.cntAdd n k amount) := by
  unfold State.cntAdd
  extract_lets s1 s2
  have h1 : RotStays s s1 := .of_pavs rfl
  have h2 : RotStays s1 s2 := by
    unfold s2
    split
    · next p _ =>
      refine .ite (RotStays.trans ?_ (.bsRelease ..)) (.refl _)
      exact .updPav s1 p fun _ => rfl
    · exact .refl _
  exact (h1.trans h2).trans (.of_only (Quiet.checkCntBps s2 n).only (by decide))

theorem RotStays.countArrival (cnt : Option Nat) (k : Nat) : RotStays s (match cnt with | some c => s.cntAdd n c k | none => s) := by
  split
  · exact .cntAdd ..
  · exact .refl s

/-! ### The Rotunda port writes into its own Plot (04 R112; 14 R399; 22 R594) -/

theorem RotStays.fillTags (a len : Nat) : RotStays s (s.fillTags n a len) := .of_pavs rfl

theorem RotStays.updRun (e : Eng) (id : Nat) (f : Running → Running) : RotStays s (s.updRun n e id f) := .of_pavs rfl

theorem RotStays.arrive (a : Nat) (d : List PByte) (aow : Nat) (cnt : Option Nat) : RotStays s (s.arrive n a d aow cnt) :=
  ((RotStays.plotWrite s n a d aow).trans (.fillTags ..)).trans (.countArrival ..)

theorem RotStays.arrivePart (e : Eng) (id a : Nat) (d : List PByte) (cnt : Option Nat) : RotStays s (s.arrivePart n e id a d cnt) := by
  unfold State.arrivePart
  extract_lets sl had now_ s1 s2 s3
  have h2 : RotStays s s2 := (RotStays.plotPut ..).trans (.updRun ..)
  have h3 : RotStays s2 s3 := .ite (.of_pavs rfl) (.refl s2)
  exact (h2.trans h3).trans (.countArrival ..)

theorem RotStays.ownLoop (fuel : Nat) (e : Eng) (id : Nat) (s : State) : RotStays s (State.ownLoop fuel n e id s) := by
  induction fuel generalizing s with
  | zero => exact .refl s
  | succ fuel ih =>
    unfold State.ownLoop
    split
    · exact .refl s
    · split
      · extract_lets ready s1
        have hwrite : RotStays s s1 := .ite (.arrivePart ..) (.arrive ..)
        exact .ite (.refl s) (.ite (.updRun ..) ((hwrite.trans (.updRun ..)).trans (ih _)))
      · exact .refl s

theorem RotStays.pumpOwn (e : Eng) (id : Nat) : RotStays s (s.pumpOwn n e id) := by
  unfold State.pumpOwn
  split
  · exact .ownLoop ..
  · exact .refl s

theorem RotStays.rotPut (cmd : Nat) (cnt : Option Nat) (at_ : Nat) (d : List PByte) : RotStays s (s.rotPut n cmd cnt at_ d) :=
  (RotStays.updRun ..).trans (.pumpOwn ..)

theorem RotStays.rotRecordPut (cmd : Nat) (cnt : Option Nat) (at_ : Nat) (rc : List Byte) : RotStays s (s.rotRecordPut n cmd cnt at_ rc) :=
  (RotStays.updRun ..).trans (.rotPut ..)

end

/-! ### Messages (13 R361 to R366; 14 R392, R396) -/

/-- What sending messages may change: the buckets of Pavilions, the ports and the messages under way, and what they tell. -/
def sendFlds : List Fld := [.pavs, .ports, .link, .tally, .log, .fns, .out]

/-- From `s` to `t` messages have been sent. -/
structure Sent (s t : State) : Prop where
  only : Only sendFlds s t
  rot : RotStays s t

theorem Sent.refl (s : State) : Sent s s := ⟨.refl _ s, .refl s⟩

theorem Sent.trans {s t u : State} (h : Sent s t) (g : Sent t u) : Sent s u := ⟨h.only.trans g.only, h.rot.trans g.rot⟩

theorem Sent.ite {s t u : State} {c : Prop} [Decidable c] (h : Sent s t) (g : Sent s u) : Sent s (if c then t else u) := by
  split
  · exact h
  · exact g

theorem Sent.foldl {α : Type} (f : State → α → State) (h : ∀ s a, Sent s (f s a)) (xs : List α) (s : State) : Sent s (xs.foldl f s) :=
  List.foldlRecOn (motive := fun t : State => Sent s t) _ _ (.refl s) fun t ht a _ => ht.trans (h t a)

theorem Sent.cores {s t : State} (h : Sent s t) : t.cores = s.cores := h.only.cores.resolve_left (by decide)

theorem Sent.settles {s t : State} (h : Sent s t) : Only noticeFlds s t := h.only.mono (by decide)

theorem Sent.of_moves {s t : State} (h : Moves s t) : Sent s t := ⟨h.tells.only.mono (by decide), .of_only h.tells.only (by decide)⟩

section
variable (s : State) (p : Nat)

theorem Sent.charged (m : Msg) (cls : Option Nat) : Sent s (s.charged m cls).2 := by
  unfold State.charged
  split
  · exact ⟨only_iff_mask.2 (mask_pavs s (by decide) _), .setPav s _ (Pav.rot_mark ..)⟩
  · exact .refl s
  · exact .refl s

theorem Sent.sendMsg (m : Msg) (cls : Option Nat) (core cmd : Nat) : Sent s (s.sendMsg m cls core cmd) := by
  rw [State.sendMsg_eq]
  have hcharged := Sent.charged s m cls
  split
  · next h => exact hcharged.trans (.of_moves (State.place_moved h trivial trivial))
  · exact hcharged.trans (.of_moves (State.dropMsg_moves ..))

theorem Sent.rotSend (x : Inst) (k : Nat) (gather : Bool) (off n : Nat) : Sent s (s.rotSend p x k gather off n) :=
  .foldl _ (fun t _ => .sendMsg t ..) _ s

theorem Sent.castSend (x : Inst) (off n : Nat) : Sent s (s.castSend p x off n) :=
  .foldl _ (fun t _ => .ite (.refl t) (.rotSend ..)) _ s

theorem Sent.rotAbort (k num code origin : Nat) : Sent s (s.rotAbort p k num code origin) :=
  .foldl _ (fun t _ => .ite (.refl t) (.foldl _ (fun u _ => (Sent.sendMsg u ..).trans (.of_moves (State.tallyAdd_moved ..))) _ t)) _ s

end

end Sys2Proof.Machine
end

section
/-! PROOF. How a collective fails, and how it concludes on the chip (14 R395, R396, R399). -/

namespace Sys2Proof.Machine
open Sys2Proof.Safety

/-! ### Collectives of a Rotunda -/

/-- A Rotunda with `x` as the collective of its plan. -/
def RotSt.putInst (r : RotSt) (x : Inst) : RotSt := { r with insts := r.insts.filter (fun y => y.plan ≠ x.plan) ++ [x] }

/-- A Rotunda whose collective of plan k has concluded (14 R399). -/
def RotSt.concludes (r : RotSt) (k : Nat) : RotSt :=
  { r with insts := r.insts.filter (fun y => y.plan ≠ k), counts := Sparse.put r.counts k ((Sparse.getD r.counts k 0 + 1) % 2 ^ 32) }

theorem RotSt.find_filter_ne (l : List Inst) (k : Nat) : (l.filter (fun y => y.plan ≠ k)).find? (fun x => x.plan = k) = none := by
  simp [List.find?_eq_none]

theorem RotSt.inst_putInst (r : RotSt) {x : Inst} {k : Nat} (h : x.plan = k) : (r.putInst x).inst k = some x := by
  subst h
  unfold RotSt.inst RotSt.putInst
  rw [List.find?_append, RotSt.find_filter_ne]
  simp

theorem RotSt.row_putInst (r : RotSt) (x : Inst) (k : Nat) : (r.putInst x).row k = r.row k := rfl

theorem RotSt.inst_concludes (r : RotSt) (k : Nat) : (r.concludes k).inst k = none := RotSt.find_filter_ne ..

theorem State.setInst_becomes (s : State) (p : Nat) (x : Inst) : RotBecomes p s (s.setInst p x) ((s.pav p).rot.putInst x) :=
  s.updRot_becomes p _

section
variable {s t : State} {p k : Nat} {x : Inst}

theorem State.plan_of_inst (h : s.inst p k = some x) : x.plan = k := by simpa using List.find?_some h

/-- What a chip finds of a plan whose Rotunda has only changed in its collectives. -/
theorem RotBecomes.inst {r : RotSt} (h : RotBecomes p s t (r.putInst x)) (hx : x.plan = k) : t.inst p k = some x := by
  rw [State.inst_eq, h.rot, RotSt.inst_putInst r hx]

/-- The collective of a plan in progress, or the one that its first message or COLLECT opens (14 R391, R396). -/
def State.instOrNew (s : State) (p k : Nat) : Inst := (s.inst p k).getD { plan := k, num := s.instCount p k, parts := [] }

theorem State.instOrNew_plan (s : State) (p k : Nat) : (s.instOrNew p k).plan = k := by
  unfold State.instOrNew
  cases h : s.inst p k with
  | none => rfl
  | some x => exact State.plan_of_inst h

theorem State.instOrNew_of_inst (h : s.inst p k = some x) : s.instOrNew p k = x := by rw [State.instOrNew, h, Option.getD_some]

theorem countAfter_of_row (h : (t.pav p).rot.row k = (s.pav p).rot.row k) : countAfter t p k = countAfter s p k := by
  have hstaged : Sparse.find (t.pav p).rot.staged k = Sparse.find (s.pav p).rot.staged k := congrArg PlanRow.staged h
  have hcount : t.instCount p k = s.instCount p k := State.instCount_of_row h
  rw [countAfter, hstaged, hcount, countAfter]

theorem RotStays.countAfter (h : RotStays s t) : countAfter t p k = countAfter s p k := countAfter_of_row (congrArg (·.row k) (h.rot p))

theorem RotStays.instOrNew (h : RotStays s t) : t.instOrNew p k = s.instOrNew p k := by
  rw [State.instOrNew, h.inst, h.instCount, State.instOrNew]

end

/-! ### Conclusion (14 R386, R399) -/

/-- A collective whose parts all have their records. -/
def Inst.recorded (x : Inst) : Inst := { x with parts := x.parts.map (fun y => { y with written := true }) }

/-- Every core that a plan names takes part in the collective. -/
def Inst.Covers (x : Inst) (r : Nat) : Prop := ∀ c ∈ plCores r, ∃ z ∈ x.parts, z.core = c

theorem Inst.not_covers {x : Inst} {r : Nat} (h : ∃ c ∈ plCores r, ∀ z ∈ x.parts, z.core ≠ c) : ¬ x.Covers r := by
  intro hall
  obtain ⟨c, hc, hmiss⟩ := h
  obtain ⟨z, hz, hcore⟩ := hall c hc
  exact hmiss z hz hcore

theorem Inst.recorded_covers {x : Inst} {r : Nat} :
    (plCores r).all (fun n => x.recorded.parts.any (fun y => y.core = n && y.written)) = true ↔ x.Covers r := by
  simp [Inst.recorded, Inst.Covers]

section
variable {s : State} {p k : Nat} {x : Inst} (hx : s.inst p k = some x.recorded)
include hx

/-- The number of a plan whose collective has concluded is one more, or 0 where a plan has taken effect. -/
theorem State.rotConclude_concludes (hall : x.Covers (s.plan p k)) :
    (s.rotConclude p k).inst p k = none ∧ (s.rotConclude p k).instCount p k = countAfter s p k := by
  have heq : s.rotConclude p k = (s.updRot p (·.concludes k)).planCommit p := by
    simp only [State.rotConclude, hx]
    exact if_pos (Inst.recorded_covers.2 hall)
  have hcommit := (s.updRot p (·.concludes k)).planCommit_becomes p
  have hidle := (s.pav p).rot.inst_concludes k
  rw [heq]
  rw [(s.updRot_becomes p _).rot] at hcommit
  constructor
  · rw [State.inst_eq, hcommit.rot, RotSt.inst, (RotSt.commit_keeps _).insts]
    exact hidle
  · rw [State.instCount_of_row (congrArg (·.row k) hcommit.rot), countAfter]
    cases hstaged : Sparse.find (s.pav p).rot.staged k with
    | some v =>
      rw [RotSt.row_commit_takes (r := (s.pav p).rot.concludes k) hstaged hidle]
      rfl
    | none =>
      rw [RotSt.row_commit_stays (r := (s.pav p).rot.concludes k) (.inl hstaged)]
      exact Sparse.getD_put_self ..

theorem State.rotConclude_waits (hmiss : ¬ x.Covers (s.plan p k)) : s.rotConclude p k = s := by
  simp only [State.rotConclude, hx]
  exact if_neg (mt Inst.recorded_covers.1 hmiss)

end

/-! ### Failure (14 R396) -/

/-- A collective that has failed with `f`, and whose launch is due no more. -/
def Inst.failed (x : Inst) (f : RFail) : Inst := { x with fail := some f, due := none }

theorem RotStays.rotDropDst (s : State) (y : Part) : RotStays s (s.rotDropDst y) := .updRun ..

theorem State.rotFailRecords_eq {s : State} {p k : Nat} {x : Inst} {f : RFail} (hx : s.inst p k = some x) (hf : x.fail = some f) :
    ∃ u : State, RotStays s u ∧ (x.parts = [] → u = s) ∧ s.rotFailRecords p k = (u.setInst p x.recorded).rotConclude p k := by
  unfold State.rotFailRecords
  rw [hx]
  dsimp -zeta only
  split
  · next hnone => cases hnone.symm.trans hf
  · next g _ =>
    extract_lets s1
    have h1 : RotStays s s1 := .foldl _ (fun t y => (RotStays.rotDropDst t y).trans (.rotRecordPut ..)) _ s
    refine ⟨s1, h1, fun hparts => ?_, rfl⟩
    unfold s1
    rw [hparts]
    rfl

section
variable {s : State} {p k : Nat} {f : RFail}

theorem State.rotFail_again (hfail : (s.instOrNew p k).fail.isSome = true) : s.rotFail p k f.code f.origin f.remote = s := if_pos hfail

section
variable (hfail : (s.instOrNew p k).fail = none)
include hfail

/-- A failure is told to the neighbours and written to the cores that have started; then the collective, which now has its records, may conclude.
Its Rotunda has changed in nothing else. -/
theorem State.rotFail_eq : ∃ u : State, s.rotFail p k f.code f.origin f.remote = u.rotConclude p k ∧
    u.inst p k = some ((s.instOrNew p k).failed f).recorded ∧ (∀ j, (u.pav p).rot.row j = (s.pav p).rot.row j) ∧
    ((s.instOrNew p k).parts = [] → u.cores = s.cores) := by
  have hgo : ¬ (s.instOrNew p k).fail.isSome = true := by simp [hfail]
  have hset := s.setInst_becomes p ((s.instOrNew p k).failed f)
  have hsent := Sent.rotAbort (s.setInst p ((s.instOrNew p k).failed f)) p k (s.instOrNew p k).num f.code f.origin
  have hinst := (hsent.rot.inst p k).trans (hset.inst (s.instOrNew_plan p k))
  obtain ⟨u, hstays, hparts, heq⟩ := State.rotFailRecords_eq hinst rfl
  have hrecorded := u.setInst_becomes p ((s.instOrNew p k).failed f).recorded
  refine ⟨_, (if_neg hgo).trans heq, hrecorded.inst (s.instOrNew_plan p k), fun j => ?_, fun hnone => ?_⟩
  · rw [hrecorded.rot, RotSt.row_putInst, hstays.rot, hsent.rot.rot, hset.rot, RotSt.row_putInst]
  · rw [hrecorded.only.cores.resolve_left (by decide), hparts hnone, hsent.cores]
    exact hset.only.cores.resolve_left (by decide)

/-- A collective that fails once every mask core has started concludes. -/
theorem State.rotFail_concludes (hall : (s.instOrNew p k).Covers (s.plan p k)) :
    (s.rotFail p k f.code f.origin f.remote).inst p k = none ∧
      (s.rotFail p k f.code f.origin f.remote).instCount p k = countAfter s p k := by
  obtain ⟨u, heq, hinst, hrow, -⟩ := State.rotFail_eq (f := f) hfail
  rw [heq, ← countAfter_of_row (hrow k)]
  exact State.rotConclude_concludes hinst (by rwa [State.plan_of_row (hrow k)])

/-- A collective that fails while a mask core has not started stands as failed. -/
theorem State.rotFail_waits (hmiss : ∃ c ∈ plCores (s.plan p k), ∀ z ∈ (s.instOrNew p k).parts, z.core ≠ c) :
    (s.rotFail p k f.code f.origin f.remote).inst p k = some ((s.instOrNew p k).failed f).recorded ∧
      (s.rotFail p k f.code f.origin f.remote).instCount p k = s.instCount p k ∧
      ((s.instOrNew p k).parts = [] → (s.rotFail p k f.code f.origin f.remote).cores = s.cores) := by
  obtain ⟨u, heq, hinst, hrow, hcores⟩ := State.rotFail_eq (f := f) hfail
  rw [heq, State.rotConclude_waits hinst (by rw [State.plan_of_row (hrow k)]; exact Inst.not_covers hmiss)]
  exact ⟨hinst, State.instCount_of_row (hrow k), hcores⟩

end

end

end Sys2Proof.Machine
end

section
/-! PROOF. ROTUNDA_DATA and ROTUNDA_CTRL messages: what is dropped, combined, copied or passed on, and what ends a collective (14 R388 to R397,
R403). -/

namespace Sys2Proof.Machine
open Sys2Proof.Safety

/-! ### What a Rotunda message may change -/

section
variable (s : State) (p : Nat) (x : Inst)

theorem State.setInst_settles : Only noticeFlds s (s.setInst p x) := s.updRot_settles p _

theorem State.rotEnter_settles : Only noticeFlds s (s.rotEnter p x) := by
  unfold State.rotEnter
  dsimp only
  split
  · exact s.setInst_settles ..
  · exact (s.setInst_settles p x).trans (Sent.rotSend ..).settles

theorem State.rotTake_settles (k : Nat) (g : Bool) (a : Nat) (d : List PByte) (sat : Bool) : Only noticeFlds s (s.rotTake p x k g a d sat) := by
  unfold State.rotTake
  extract_lets r e n
  split
  extract_lets sg j
  refine .ite (s.rotFail_settles ..) ?_
  split
  extract_lets sats y s1 s2
  have h1 : Only noticeFlds s s1 := s.setInst_settles p y
  have h2 : Only noticeFlds s1 s2 := .ite (Sent.rotSend ..).settles (.refl _ s1)
  exact .ite (h1.trans h2) ((h1.trans h2).trans (s2.rotEnter_settles ..))

theorem State.castTake_settles (k a len : Nat) (d : List PByte) : Only noticeFlds s (s.castTake p x k a len d) := by
  unfold State.castTake
  extract_lets r y z w
  exact .ite (s.rotFail_settles ..) ((s.setInst_settles p w).trans (Sent.castSend ..).settles)

end

section
variable {s t : State} {p : PavIx} {m : Msg} (htake : s.takeMsg (s.rotNext p 5) = some (m, t)) (hclk : s.power.clockOn = true)
include htake hclk

theorem rotundaData_settles : ∃ s', exec (.rotundaDataReceived p) s = .next s' ∧ Only noticeFlds t s' := by
  have hexec : execRotundaDataReceived p s = .next _ := State.clocked_on _ hclk
  simp only [htake] at hexec
  refine ⟨_, hexec, .ite (Wrote.tallyAdd ..).settles (.ite (Wrote.tallyAdd ..).settles (.ite (t.castTake_settles ..) ?_))⟩
  split
  · exact .refl _ t
  · exact .ite (.refl _ t) (.ite (t.rotFail_settles ..) (.ite (t.rotTake_settles ..) (t.rotFail_settles ..)))

/-- A message from no neighbour of its stage (14 R393). -/
theorem rotundaData_unsolicited (hfrom : t.rotFrom p m = false) : exec (.rotundaDataReceived p) s = .next (t.tallyAdd 0x3A 0 1) := by
  have hexec : execRotundaDataReceived p s = .next _ := State.clocked_on _ hclk
  simp only [htake, hfrom, Bool.not_false, if_true] at hexec
  exact hexec

/-- A message of a collective that has concluded (14 R393). -/
theorem rotundaData_stale (hfrom : t.rotFrom p m = true) (hage : t.rotAge p m = 1) :
    exec (.rotundaDataReceived p) s = .next (t.tallyAdd 0x28 p 1) := by
  have hexec : execRotundaDataReceived p s = .next _ := State.clocked_on _ hclk
  simp only [htake, hfrom, hage, Bool.not_true, Bool.false_eq_true, if_false, if_true] at hexec
  exact hexec

/-- Data of the collective in progress of a BROADCAST (14 R388, R397). -/
theorem rotundaData_cast (hfrom : t.rotFrom p m = true) (hage : t.rotAge p m = 0) (hop : plOp (t.plan p m.rPlan) = 3) :
    exec (.rotundaDataReceived p) s =
      .next (t.castTake p (t.instOrNew p m.rPlan) m.rStage (bits m.arg1 31 0) (bits m.arg1 63 32) m.data) := by
  have hexec : execRotundaDataReceived p s = .next _ := State.clocked_on _ hclk
  simp only [htake, hfrom, hage, hop, Bool.not_true, Bool.false_eq_true, if_false, if_true, Nat.zero_ne_one] at hexec
  exact hexec

section
variable {x : Inst} (hfrom : t.rotFrom p m = true) (hage : t.rotAge p m = 0) (hop : plOp (t.plan p m.rPlan) ≠ 3)
  (hinst : t.inst p m.rPlan = some x) (hfail : x.fail = none)
include hfrom hage hop hinst hfail

/-- Data that names another LENGTH than the collective (14 R393). -/
theorem rotundaData_mismatch (hlen : bits m.arg1 63 32 ≠ x.len) :
    exec (.rotundaDataReceived p) s = .next (t.rotFail p m.rPlan 5 t.chipId false) := by
  have hexec : execRotundaDataReceived p s = .next _ := State.clocked_on _ hclk
  change execRotundaDataReceived p s = _
  simpa [htake, hfrom, hage, hop, hinst, hfail, hlen, State.plan_of_inst hinst] using hexec

/-- Data of the exchange in progress (14 R389). -/
theorem rotundaData_exchange {g : Bool} (hlen : bits m.arg1 63 32 = x.len) (hcomplete : x.complete = false)
    (hex : (exchanges (t.plan p m.rPlan))[x.ex]? = some (m.rStage, g)) (hg : bit m.arg0 16 = g) :
    exec (.rotundaDataReceived p) s = .next (t.rotTake p x m.rStage g (bits m.arg1 31 0) m.data (bit m.arg0 17)) := by
  have hexec : execRotundaDataReceived p s = .next _ := State.clocked_on _ hclk
  change execRotundaDataReceived p s = _
  simpa [htake, hfrom, hage, hop, hinst, hfail, hlen, hcomplete, hg, hex, State.plan_of_inst hinst] using hexec

end
end

section
variable {s t : State} {p : PavIx} {m : Msg} (htake : s.takeMsg (s.rotNext p 6) = some (m, t)) (hclk : s.power.clockOn = true)
include htake hclk

theorem rotundaCtrl_settles : ∃ s', exec (.rotundaCtrlReceived p) s = .next s' ∧ Only noticeFlds t s' := by
  have hexec : execRotundaCtrlReceived p s = .next _ := State.clocked_on _ hclk
  simp only [htake] at hexec
  exact ⟨_, hexec, .ite (Wrote.tallyAdd ..).settles (.ite (Wrote.tallyAdd ..).settles (t.rotFail_settles ..))⟩

theorem rotundaCtrl_unsolicited (hfrom : t.rotFrom p m = false) : exec (.rotundaCtrlReceived p) s = .next (t.tallyAdd 0x3A 0 1) := by
  have hexec : execRotundaCtrlReceived p s = .next _ := State.clocked_on _ hclk
  simp only [htake, hfrom, Bool.not_false, if_true] at hexec
  exact hexec

theorem rotundaCtrl_stale (hfrom : t.rotFrom p m = true) (hage : t.rotAge p m = 1) :
    exec (.rotundaCtrlReceived p) s = .next (t.tallyAdd 0x28 p 1) := by
  have hexec : execRotundaCtrlReceived p s = .next _ := State.clocked_on _ hclk
  simp only [htake, hfrom, hage, Bool.not_true, Bool.false_eq_true, if_false, if_true] at hexec
  exact hexec

/-- An ABORT of the collective in progress (14 R396). -/
theorem rotundaCtrl_abort (hfrom : t.rotFrom p m = true) (hage : t.rotAge p m = 0) :
    exec (.rotundaCtrlReceived p) s = .next (t.rotFail p m.rPlan (bits m.arg0 31 24) (bits m.arg1 14 0) true) := by
  have hexec : execRotundaCtrlReceived p s = .next _ := State.clocked_on _ hclk
  simp only [htake, hfrom, hage, Bool.not_true, Bool.false_eq_true, if_false, Nat.zero_ne_one] at hexec
  exact hexec

end

/-! ### Data of an exchange (14 R389) -/

/-- A collective whose exchange is over. -/
def Inst.exchanged (x : Inst) : Inst := { x with ex := x.ex + 1, got := 0 }

/-- The bytes that an exchange of plan `r` puts into the chip vector `v` for the data `d` at offset `a`: copied as it gathers, else combined. -/
def exchangeBytes (r : Nat) (g : Bool) (v : List PByte) (a : Nat) (d : List PByte) : List PByte :=
  (if g then (d, []) else rotZip r (rotWidth r) (d.length / rotWidth r) d ((v.drop a).take d.length)).1

theorem exchangeBytes_eq (r : Nat) (g : Bool) (v : List PByte) (a : Nat) (d : List PByte) : exchangeBytes r g v a d =
    if g then d else (rotZip r (rotWidth r) (d.length / rotWidth r) d ((v.drop a).take d.length)).1 := by
  cases g <;> rfl

/-- A collective that has taken the data `d` of its exchange, which left the clamped units `sats`. -/
def Inst.taken (x : Inst) (r : Nat) (g : Bool) (a : Nat) (d : List PByte) (sats : List Nat) : Inst :=
  { x with vec := patch x.vec a (exchangeBytes r g x.vec a d), sats := sats, got := x.got + d.length }

/-- The segment that a position sends first in an exchange, and never receives (14 R389). -/
def firstSegment (e : Nat) (g : Bool) : Nat := if g then sgPos e else (sgPos e + sgSize e - 1) % sgSize e

section
variable {s : State} {p k lo n sg a : Nat} {x : Inst} {g sat : Bool} {d : List PByte}

/-- The collective that enters an exchange has every byte where none is left. -/
theorem State.inst_rotEnter (hcomplete : x.complete = false) : (s.rotEnter p x).inst p x.plan =
    some { x with complete := decide ((exchanges (s.plan p x.plan)).length ≤ x.ex) } := by
  unfold State.rotEnter
  dsimp only
  split
  · next hnone =>
    rw [decide_eq_true (List.getElem?_eq_none_iff.1 hnone)]
    exact (s.setInst_becomes p { x with complete := true }).inst rfl
  · next k g hsome =>
    rw [decide_eq_false (Nat.not_le.2 (List.getElem?_eq_some_iff.1 hsome).1), ← hcomplete]
    exact ((Sent.rotSend ..).rot.inst ..).trans ((s.setInst_becomes p x).inst rfl)

variable (hregion : stageRegion (s.plan p x.plan) x.vec.length k = (lo, n)) (hsg : sg = n / sgSize (plStage (s.plan p x.plan) k))
  (hlow : lo ≤ a) (hhigh : a + d.length ≤ lo + n) (hd : d ≠ []) (hwidth : d.length % rotWidth (s.plan p x.plan) = 0)
  (hseg : a + d.length ≤ lo + ((a - lo) / sg + 1) * sg) (hfirst : (a - lo) / sg ≠ firstSegment (plStage (s.plan p x.plan) k) g)
include hregion hsg hlow hhigh hd hwidth hseg hfirst

/-- Data that lies in a segment of its exchange is taken and passed on, and the exchange may be over. -/
theorem State.rotTake_eq : ∃ (sats : List Nat) (u : State), Sent (s.setInst p (x.taken (s.plan p x.plan) g a d sats)) u ∧
    s.rotTake p x k g a d sat =
      if x.got + d.length < n - sg then u else u.rotEnter p (x.taken (s.plan p x.plan) g a d sats).exchanged := by
  have hempty : d.length ≠ 0 := mt List.length_eq_zero_iff.1 hd
  simp only [State.rotTake, hregion, ← hsg]
  refine ⟨_, _, ?sent, (if_neg ?fits).trans rfl⟩
  case sent => exact .ite (.rotSend ..) (.refl _)
  case fits =>
    simp only [Bool.or_eq_true, decide_eq_true_eq, not_or, Nat.not_lt, Ne, not_not]
    exact ⟨⟨⟨⟨⟨hlow, hhigh⟩, hempty⟩, hseg⟩, hwidth⟩, hfirst⟩

theorem State.rotTake_takes (hcomplete : x.complete = false) : ∃ x', (s.rotTake p x k g a d sat).inst p x.plan = some x' ∧ x'.fail = x.fail ∧
    (x.got + d.length < n - sg → x'.ex = x.ex ∧ x'.got = x.got + d.length) ∧
    (n - sg ≤ x.got + d.length → x'.ex = x.ex + 1 ∧ x'.got = 0 ∧
      x'.complete = decide ((exchanges (s.plan p x.plan)).length ≤ x.ex + 1)) ∧
    x'.vec = patch x.vec a (exchangeBytes (s.plan p x.plan) g x.vec a d) := by
  obtain ⟨sats, u, hsent, heq⟩ := State.rotTake_eq (sat := sat) hregion hsg hlow hhigh hd hwidth hseg hfirst
  have hset := s.setInst_becomes p (x.taken (s.plan p x.plan) g a d sats)
  rw [heq]
  by_cases hmore : x.got + d.length < n - sg
  · rw [if_pos hmore]
    exact ⟨_, (hsent.rot.inst ..).trans (hset.inst rfl), rfl, fun _ => ⟨rfl, rfl⟩, fun hdone => absurd hmore (Nat.not_lt.2 hdone), rfl⟩
  · have hplan : u.plan p x.plan = s.plan p x.plan :=
      (hsent.rot.plan ..).trans (State.plan_of_row (by rw [hset.rot, RotSt.row_putInst]))
    rw [if_neg hmore]
    exact ⟨_, State.inst_rotEnter hcomplete, rfl, fun h => absurd h hmore, fun _ => ⟨rfl, rfl, by rw [← hplan]; rfl⟩, rfl⟩

end

/-! ### Data of a BROADCAST (14 R388, R397) -/

/-- The chip vector of a BROADCAST as its next data finds it: zero where none has come. -/
def Inst.castVec (x : Inst) (len : Nat) : List PByte := if x.vec = [] then zeroRow len else x.vec

section
variable {s : State} {p a len : Nat} {x : Inst} {d : List PByte} (hcomplete : x.complete = false) (hlen : x.vec = [] ∨ x.len = len)
  (hd : d ≠ []) (hfits : a + d.length ≤ (x.castVec len).length)
include hcomplete hlen hd hfits

/-- Data of a BROADCAST within the chip vector is kept and passed on. -/
theorem State.castTake_eq : ∃ y : Inst, s.castTake p x (castStage (s.plan p x.plan)) a len d = (s.setInst p y).castSend p y a d.length ∧
    y.plan = x.plan ∧ y.got = x.got + d.length ∧ y.vec = patch (x.castVec len) a d ∧ y.fail = x.fail ∧ y.parts = x.parts ∧
    y.launched = x.launched := by
  have hempty : d.isEmpty = false := by simpa using hd
  unfold Inst.castVec at *
  by_cases hvec : x.vec = []
  · rw [if_pos hvec] at *
    refine ⟨_, (if_neg ?_).trans rfl, by simp [hvec]⟩
    simp [hvec, hcomplete, hempty, Nat.not_lt.2 hfits]
  · rw [if_neg hvec] at *
    refine ⟨_, (if_neg ?_).trans rfl, by simp [hvec]⟩
    simp [hvec, hcomplete, hempty, hlen.resolve_left hvec, Nat.not_lt.2 hfits]

theorem State.castTake_takes : (s.castTake p x (castStage (s.plan p x.plan)) a len d).cores = s.cores ∧
    ∃ y, (s.castTake p x (castStage (s.plan p x.plan)) a len d).inst p x.plan = some y ∧ y.got = x.got + d.length ∧
      y.vec = patch (x.castVec len) a d ∧ y.fail = x.fail ∧ y.parts = x.parts ∧ y.launched = x.launched := by
  obtain ⟨y, heq, hplan, hy⟩ := State.castTake_eq (s := s) (p := p) hcomplete hlen hd hfits
  have hset := s.setInst_becomes p y
  have hsent := Sent.castSend (s.setInst p y) p y a d.length
  rw [heq]
  exact ⟨hsent.cores.trans (hset.only.cores.resolve_left (by decide)), y, (hsent.rot.inst ..).trans (hset.inst hplan), hy⟩

end

/-! ### A message is processed (14 R393, R396, R403) -/

theorem RotStays.of_take {s t : State} {f : Msg → Bool} {m : Msg} (htake : s.takeMsg f = some (m, t)) : RotStays s t :=
  .of_only (State.takeMsg_only htake) (by decide)

/-- A message that is dropped is counted, and nothing else happens. -/
theorem State.takeMsg_drops {s t : State} {f : Msg → Bool} {m : Msg} (htake : s.takeMsg f = some (m, t)) (id : Nat) {inst : Nat}
    (hinst : inst ≠ 0xFFFF) : Only [.link, .tally] s (t.tallyAdd id inst 1) ∧ (t.tallyAdd id inst 1).link = t.link ∧
      Sparse.getD (t.tallyAdd id inst 1).tally (tkey id inst) 0 = (Sparse.getD s.tally (tkey id inst) 0 + 1) % 2 ^ 48 := by
  have htaken := State.takeMsg_only htake
  have hcount := (t.tallyAdd_tells id inst 1).only
  refine ⟨(htaken.mono (by decide)).trans (hcount.mono (by decide)), hcount.link.resolve_left (by decide), ?_⟩
  rw [State.tally_tallyAdd_self t id 1 hinst, htaken.tally.resolve_left (by decide)]

section
variable {s t : State} {p : PavIx} {m : Msg} {c : Instr} (hmsg : (s.takeMsg (s.rotNext p 5) = some (m, t) ∧ c = .rotundaDataReceived p) ∨
  (s.takeMsg (s.rotNext p 6) = some (m, t) ∧ c = .rotundaCtrlReceived p)) (hclk : s.power.clockOn = true)
include hmsg

theorem rotundaMessage_taken : ∃ f, s.takeMsg f = some (m, t) := by
  rcases hmsg with ⟨htake, -⟩ | ⟨htake, -⟩ <;> exact ⟨_, htake⟩

include hclk

theorem rotundaMessage_settles : ∃ s', exec c s = .next s' ∧ s'.time = s.time ∧ s'.boot = s.boot := by
  obtain ⟨f, htake⟩ := rotundaMessage_taken hmsg
  have hexec : ∃ s', exec c s = .next s' ∧ Only noticeFlds t s' := by
    rcases hmsg with ⟨htake, rfl⟩ | ⟨htake, rfl⟩
    · exact rotundaData_settles htake hclk
    · exact rotundaCtrl_settles htake hclk
  obtain ⟨s', hexec, hsettles⟩ := hexec
  have honly := ((State.takeMsg_only htake).mono (by decide)).trans hsettles
  exact ⟨s', hexec, honly.time.resolve_left (by decide), honly.boot.resolve_left (by decide)⟩

theorem rotundaMessage_unsolicited (hfrom : s.rotFrom p m = false) : ∃ s', exec c s = .next s' ∧ Only [.link, .tally] s s' ∧
    s'.link = t.link ∧ Sparse.getD s'.tally (tkey 0x3A 0) 0 = (Sparse.getD s.tally (tkey 0x3A 0) 0 + 1) % 2 ^ 48 := by
  obtain ⟨f, htake⟩ := rotundaMessage_taken hmsg
  have hfrom : t.rotFrom p m = false := ((RotStays.of_take htake).rotFrom p m).trans hfrom
  have hexec : exec c s = .next (t.tallyAdd 0x3A 0 1) := by
    rcases hmsg with ⟨htake, rfl⟩ | ⟨htake, rfl⟩
    · exact rotundaData_unsolicited htake hclk hfrom
    · exact rotundaCtrl_unsolicited htake hclk hfrom
  exact ⟨_, hexec, State.takeMsg_drops htake _ (by decide)⟩

theorem rotundaMessage_stale (hfrom : s.rotFrom p m = true) (hage : s.rotAge p m = 1) : ∃ s', exec c s = .next s' ∧
    Only [.link, .tally] s s' ∧ s'.link = t.link ∧
    Sparse.getD s'.tally (tkey 0x28 p) 0 = (Sparse.getD s.tally (tkey 0x28 p) 0 + 1) % 2 ^ 48 := by
  obtain ⟨f, htake⟩ := rotundaMessage_taken hmsg
  have hstays := RotStays.of_take htake
  have hfrom : t.rotFrom p m = true := (hstays.rotFrom p m).trans hfrom
  have hage : t.rotAge p m = 1 := (hstays.rotAge p m).trans hage
  have hexec : exec c s = .next (t.tallyAdd 0x28 p 1) := by
    rcases hmsg with ⟨htake, rfl⟩ | ⟨htake, rfl⟩
    · exact rotundaData_stale htake hclk hfrom hage
    · exact rotundaCtrl_stale htake hclk hfrom hage
  exact ⟨_, hexec, State.takeMsg_drops htake _ (by omega)⟩

end

section
variable {s t : State} {p : PavIx} {m : Msg} (htake : s.takeMsg (s.rotNext p 5) = some (m, t)) (hclk : s.power.clockOn = true)
  (hfrom : s.rotFrom p m = true) (hage : s.rotAge p m = 0)
include htake hclk hfrom hage

section
variable {x : Inst} (hop : plOp (s.plan p m.rPlan) ≠ 3) (hinst : s.inst p m.rPlan = some x) (hfail : x.fail = none)
include hop hinst hfail

/-- Data of the exchange in progress is combined or copied into the chip vector, and the exchange may be over. -/
theorem rotundaData_takes {g : Bool} {lo n sg : Nat} (hcomplete : x.complete = false)
    (hex : (exchanges (s.plan p m.rPlan))[x.ex]? = some (m.rStage, g)) (hg : bit m.arg0 16 = g)
    (hregion : stageRegion (s.plan p m.rPlan) x.vec.length m.rStage = (lo, n))
    (hsg : sg = n / sgSize (plStage (s.plan p m.rPlan) m.rStage)) (hlen : bits m.arg1 63 32 = x.len) (hlow : lo ≤ bits m.arg1 31 0)
    (hhigh : bits m.arg1 31 0 + m.data.length ≤ lo + n) (hd : m.data ≠ []) (hwidth : m.data.length % rotWidth (s.plan p m.rPlan) = 0)
    (hseg : bits m.arg1 31 0 + m.data.length ≤ lo + ((bits m.arg1 31 0 - lo) / sg + 1) * sg)
    (hfirst : (bits m.arg1 31 0 - lo) / sg ≠ firstSegment (plStage (s.plan p m.rPlan) m.rStage) g) :
    ∃ s' x', exec (.rotundaDataReceived p) s = .next s' ∧ s'.inst p m.rPlan = some x' ∧ x'.fail = none ∧
      (x.got + m.data.length < n - sg → x'.ex = x.ex ∧ x'.got = x.got + m.data.length) ∧
      (n - sg ≤ x.got + m.data.length → x'.ex = x.ex + 1 ∧ x'.got = 0 ∧
        x'.complete = decide ((exchanges (s.plan p m.rPlan)).length ≤ x.ex + 1)) ∧
      x'.vec = patch x.vec (bits m.arg1 31 0) (exchangeBytes (s.plan p m.rPlan) g x.vec (bits m.arg1 31 0) m.data) := by
  have hstays := RotStays.of_take htake
  have hplan := State.plan_of_inst hinst
  rw [← hstays.rotFrom] at hfrom
  rw [← hstays.rotAge] at hage
  rw [← hstays.inst] at hinst
  rw [← hstays.plan] at hop hex hregion hsg hwidth hfirst
  rw [← hstays.plan]
  have hexec := rotundaData_exchange htake hclk hfrom hage hop hinst hfail hlen hcomplete hex hg
  rw [← hplan] at hregion hsg hwidth hfirst
  rw [← hplan]
  obtain ⟨x', hinst', hfail', hmore, hdone, hvec⟩ :=
    State.rotTake_takes (sat := bit m.arg0 17) hregion hsg hlow hhigh hd hwidth hseg hfirst hcomplete
  exact ⟨_, x', hexec, hinst', hfail'.trans hfail, hmore, hdone, hvec⟩

theorem rotundaData_fails (hlen : bits m.arg1 63 32 ≠ x.len) (hall : ∀ c ∈ plCores (s.plan p m.rPlan), ∃ z ∈ x.parts, z.core = c) :
    ∃ s', exec (.rotundaDataReceived p) s = .next s' ∧ s'.inst p m.rPlan = none ∧ s'.instCount p m.rPlan = countAfter s p m.rPlan := by
  have hstays := RotStays.of_take htake
  rw [← hstays.rotFrom] at hfrom
  rw [← hstays.rotAge] at hage
  rw [← hstays.inst] at hinst
  rw [← hstays.plan] at hop hall
  rw [← hstays.countAfter]
  have hnew := State.instOrNew_of_inst hinst
  exact ⟨_, rotundaData_mismatch htake hclk hfrom hage hop hinst hfail hlen,
    State.rotFail_concludes (f := { code := 5, origin := t.chipId, remote := false }) (by rw [hnew, hfail]) (by rw [hnew]; exact hall)⟩

end

/-- Data of a BROADCAST is kept, whether or not the collective has launched. -/
theorem rotundaData_keeps {x : Inst} (hop : plOp (s.plan p m.rPlan) = 3) (hstage : m.rStage = castStage (s.plan p m.rPlan))
    (hx : x = s.instOrNew p m.rPlan) (hcomplete : x.complete = false) (hlen : x.vec = [] ∨ x.len = bits m.arg1 63 32) (hd : m.data ≠ [])
    (hfits : bits m.arg1 31 0 + m.data.length ≤ (x.castVec (bits m.arg1 63 32)).length) :
    ∃ s' x', exec (.rotundaDataReceived p) s = .next s' ∧ s'.cores = s.cores ∧ s'.inst p m.rPlan = some x' ∧
      x'.got = x.got + m.data.length ∧ x'.vec = patch (x.castVec (bits m.arg1 63 32)) (bits m.arg1 31 0) m.data ∧ x'.fail = x.fail ∧
      x'.parts = x.parts ∧ x'.launched = x.launched := by
  have hstays := RotStays.of_take htake
  have hplan : x.plan = m.rPlan := hx ▸ s.instOrNew_plan p m.rPlan
  rw [← hstays.rotFrom] at hfrom
  rw [← hstays.rotAge] at hage
  rw [← hstays.plan] at hop hstage
  rw [← hstays.instOrNew] at hx
  have hexec := rotundaData_cast htake hclk hfrom hage hop
  rw [← hx, hstage, ← hplan] at hexec
  obtain ⟨hcores, x', hinst, hx'⟩ := State.castTake_takes (s := t) (p := p) hcomplete hlen hd hfits
  exact ⟨_, x', hexec, hcores.trans ((State.takeMsg_only htake).cores.resolve_left (by decide)), hplan ▸ hinst, hx'⟩

end

section
variable {s t : State} {p : PavIx} {m : Msg} {f : RFail} (htake : s.takeMsg (s.rotNext p 6) = some (m, t)) (hfrom : s.rotFrom p m = true)
  (hage : s.rotAge p m = 0) (hf : f = { code := bits m.arg0 31 24, origin := bits m.arg1 14 0, remote := true })
  (hclk : s.power.clockOn = true)
include htake hfrom hage hf hclk

theorem rotundaCtrl_rotFail : exec (.rotundaCtrlReceived p) s = .next (t.rotFail p m.rPlan f.code f.origin f.remote) := by
  have hstays := RotStays.of_take htake
  subst hf
  exact rotundaCtrl_abort htake hclk ((hstays.rotFrom p m).trans hfrom) ((hstays.rotAge p m).trans hage)

/-- An ABORT of a collective that not every mask core has started: it stands as failed. -/
theorem rotundaCtrl_waits (hfail : (s.instOrNew p m.rPlan).fail = none)
    (hmiss : ∃ c ∈ plCores (s.plan p m.rPlan), ∀ z ∈ (s.instOrNew p m.rPlan).parts, z.core ≠ c) :
    ∃ s', exec (.rotundaCtrlReceived p) s = .next s' ∧ s'.inst p m.rPlan = some ((s.instOrNew p m.rPlan).failed f).recorded ∧
      s'.instCount p m.rPlan = s.instCount p m.rPlan ∧ ((s.instOrNew p m.rPlan).parts = [] → s'.cores = s.cores) := by
  have hstays := RotStays.of_take htake
  have hcores : t.cores = s.cores := (State.takeMsg_only htake).cores.resolve_left (by decide)
  rw [← hstays.instOrNew, ← hstays.instCount, ← hcores]
  rw [← hstays.instOrNew] at hfail hmiss
  rw [← hstays.plan] at hmiss
  exact ⟨_, rotundaCtrl_rotFail htake hfrom hage hf hclk, State.rotFail_waits hfail hmiss⟩

theorem rotundaCtrl_concludes {x : Inst} (hinst : s.inst p m.rPlan = some x) (hfail : x.fail = none)
    (hall : ∀ c ∈ plCores (s.plan p m.rPlan), ∃ z ∈ x.parts, z.core = c) : ∃ s', exec (.rotundaCtrlReceived p) s = .next s' ∧
      s'.inst p m.rPlan = none ∧ s'.instCount p m.rPlan = countAfter s p m.rPlan := by
  have hstays := RotStays.of_take htake
  rw [← hstays.inst] at hinst
  rw [← hstays.plan] at hall
  rw [← hstays.countAfter]
  have hnew := State.instOrNew_of_inst hinst
  exact ⟨_, rotundaCtrl_rotFail htake hfrom hage hf hclk, State.rotFail_concludes (by rw [hnew, hfail]) (by rw [hnew]; exact hall)⟩

theorem rotundaCtrl_again {x : Inst} (hinst : s.inst p m.rPlan = some x) (hfail : x.fail.isSome = true) :
    exec (.rotundaCtrlReceived p) s = .next t := by
  rw [rotundaCtrl_rotFail htake hfrom hage hf hclk, State.rotFail_again]
  rw [(RotStays.of_take htake).instOrNew, State.instOrNew_of_inst hinst, hfail]

end

/-- Settles O37: every row reads the Rotunda as taking the message left it; then data is dropped, taken into the chip vector or fails the
collective, and an ABORT fails it, which concludes it where every mask core has started. -/
theorem collectiveMessages : Obligations.CollectiveMessages := by
  unfold Obligations.CollectiveMessages
  refine ⟨fun s t p m c hmsg hclk => ⟨rotundaMessage_settles hmsg hclk, rotundaMessage_unsolicited hmsg hclk, rotundaMessage_stale hmsg hclk⟩,
    ?exchange, ?cast, ?abort⟩
  case exchange =>
    intro s t p m x g a lo n sg htake hfrom hage hinst hfail _ hcomplete hop hex hg ha hregion hsg hclk
    subst ha
    refine ⟨fun hlen hlow hhigh hd hwidth hsegment => ?_, rotundaData_fails htake hclk hfrom hage hop hinst hfail⟩
    obtain ⟨hseg, hfirst⟩ := hsegment _ _ rfl rfl
    rw [← exchangeBytes_eq]
    exact rotundaData_takes htake hclk hfrom hage hop hinst hfail hcomplete hex hg hregion hsg hlen hlow hhigh hd hwidth hseg hfirst
  case cast =>
    intro s t p m x v htake hfrom hage hop hstage hx hcomplete hv hlen hd hfits hclk
    subst hv
    exact rotundaData_keeps htake hclk hfrom hage hop hstage hx hcomplete hlen hd hfits
  case abort =>
    intro s t p m f htake hfrom hage hf hclk
    refine ⟨fun hnone hcores => ?new, fun x hinst hfail hmiss => ?waits,
      fun x hinst hfail hall => rotundaCtrl_concludes htake hfrom hage hf hclk hinst hfail hall,
      fun x hinst hfail => rotundaCtrl_again htake hfrom hage hf hclk hinst hfail⟩
    case new =>
      have hnew : s.instOrNew p m.rPlan = { plan := m.rPlan, num := s.instCount p m.rPlan, parts := [] } := by rw [State.instOrNew, hnone]; rfl
      obtain ⟨c, hc⟩ := List.exists_mem_of_ne_nil _ hcores
      obtain ⟨s', hexec, hinst, -, hsame⟩ := rotundaCtrl_waits htake hfrom hage hf hclk (by rw [hnew]) ⟨c, hc, by simp [hnew]⟩
      exact ⟨s', _, hexec, hsame (by rw [hnew]), hinst, by rw [hnew]; rfl, rfl⟩
    case waits =>
      have hnew := State.instOrNew_of_inst hinst
      obtain ⟨s', hexec, hinst', hcount, -⟩ :=
        rotundaCtrl_waits htake hfrom hage hf hclk (by rw [hnew, hfail]) (by rw [hnew]; exact hmiss)
      exact ⟨s', _, hexec, hinst', rfl, hcount⟩

end Sys2Proof.Machine
end

section
/-! PROOF. A time breakpoint that a forward step passed behind an earlier one (02 R52, R55; 21 R573). -/

namespace Sys2Proof.Machine
open Sys2Proof.Safety

/-! ### Two time breakpoints due in one cycle

Breakpoint 0 has matched before the step of the count and breakpoint 1 was passed by it. Both are due, and the halt record's STEPPED follows the
earlier target, which no step has passed. -/

/-- Core 0 runs with TIME breakpoints at 5 and 10 ns; the count has stepped from 7 to 20 ns. -/
def steppedCore : State :=
  { time := { now := 20 }, cyc := { stepFrom := some 7, lastStep := 20 }, power := { clockOn := true }
    cores := [(0, { ctl := { st := .run }, dbg := { bps := [(0, { armed := true, kind := 2, mtch := 5 }), (1, { armed := true, kind := 2, mtch := 10 })] } })] }

/-- The outcome is a next state in which the halt record of core 0 carries STEPPED and the step has passed the target 10, or neither. -/
def steppedAgrees : Host.Outcome State Fault Refusal → Bool
  | .next s => (s.core 0).dbg.haltStepped == s.steppedPast 10
  | _ => false

/-- The match of core 0 leaves STEPPED clear, although the step has passed 10 ns. -/
theorem timeBreakpointMatch_steppedCore : steppedAgrees (exec (.timeBreakpointMatch 0) steppedCore) = false := by decide +kernel

/-- Refutes O10: breakpoint 1 matches together with breakpoint 0, whose target came before the step; the halt record's STEPPED follows that
target and not the target of breakpoint 1, which the step has passed. -/
theorem not_breakpointsAndHalts : ¬ Obligations.BreakpointsAndHalts := by
  unfold Obligations.BreakpointsAndHalts
  rintro ⟨-, htime, -⟩
  obtain ⟨s', hexec, -, -, -, hstepped, -⟩ := htime steppedCore 0 1 { armed := true, kind := 2, mtch := 10 } (by decide) rfl rfl rfl
    (.inl (by decide)) rfl rfl rfl (by decide +kernel) rfl
  have hrun := timeBreakpointMatch_steppedCore
  rw [hexec] at hrun
  exact absurd (beq_iff_eq.2 hstepped) (Bool.eq_false_iff.1 hrun)

end Sys2Proof.Machine
end

section
/-! PROOF. A drain in which a started Parterre command goes on takes its time (06 R175; 15 R422): resets of a Pavilion and of the chip. -/

namespace Sys2Proof.Machine
open Sys2Proof.Safety

/-! ### A Parterre command that a reset lets finish

Step 2 of a Pavilion reset lets a started Parterre command run to its end (15 R422), and time passes until then. -/

/-- A MATMUL of core 0 that completes in some hundred cycles. -/
def slowMatmul : Running :=
  { cmd := { id := 1, op := 0x41, strm := .access, addr := 0, w0 := 0, x1 := 0, x2 := 0, a := 0, b := 0, c := 0, desc1 := 0, desc2 := 0, rngs := [] }
    begunAt := some 0, stalls := 400 }

/-- A chip past milestone 8 whose Pavilion 0 owns core 0, which runs that MATMUL; `v` is the Pavilion's state. -/
def matmulChip (v : Pav) : State :=
  { boot := { pwrgood := true, phase := 8, ready := true, lastState := 3 }, power := { clockOn := true }
    objs := [(okey 0x3000 2, 1)], pavs := [(0, v)]
    cores := [(0, { ctl := { st := .run }, par := { eng := { run := [slowMatmul] } } })] }

/-- The outcome is a next state at time `t`. -/
def standsAt (t : Nat) : Host.Outcome State Fault Refusal → Bool
  | .next s => s.time.now == t
  | _ => false

/-- Pavilion 0 in step 1 of its reset. -/
def stoppedPav : Pav := { st := .resetting, resetAt := 2 }

/-- The end of the drain comes when the MATMUL is done. -/
theorem pavResetDrainComplete_matmul : standsAt 0 (exec (.pavResetDrainComplete 0) (matmulChip stoppedPav)) = false := by decide +kernel

/-- The core holds nothing to be classified. -/
theorem matmulChip_suspects (v : Pav) : ∀ n ∈ (matmulChip v).coresOf 0, ((matmulChip v).core n).pint.suspects = [] := by
  intro n hn
  have hcores : (matmulChip v).coresOf 0 = [0] := by
    change bitList 1 144 = [0]
    decide +kernel
  rw [hcores, List.mem_singleton] at hn
  rw [hn]
  rfl

/-- Refutes O46: the drain of a reset lets a started MATMUL run to its end, and the time is then a later one. -/
theorem not_pavilionResets : ¬ Obligations.PavilionResets := by
  unfold Obligations.PavilionResets
  rintro ⟨hdrain, -⟩
  obtain ⟨s', hexec, -, -, -, -, htime, -⟩ := hdrain (matmulChip stoppedPav) 0 rfl (matmulChip_suspects stoppedPav)
  have hrun := pavResetDrainComplete_matmul
  rw [hexec] at hrun
  exact absurd (beq_iff_eq.2 (congrArg Sundial.now htime)) (Bool.eq_false_iff.1 hrun)

/-! ### A warm reset -/

/-- PF0 may write 1 to WARM_RESET. -/
theorem takes_warmReset : Takes (matmulChip { st := .active }) .pf0 0x1010 4 1 1 :=
  { serves := { live := rfl, phase := by decide, up := rfl, still := rfl, first := rfl, path := rfl }
    check := ⟨_, rfl, rfl, rfl, rfl⟩ }

theorem State.applyWrite_warmReset (s : State) (who : Requester) (v : Nat) : s.applyWrite who 0x1010 4 v = s.warmWrite v := rfl

/-- A checked write of WARM_RESET on a READY chip runs the warm reset (19 R533). -/
theorem exec_warmReset {s : State} {who : Requester} (h : Takes s who 0x1010 4 1 1) (hready : s.boot.ready = true) :
    exec (.warmReset who 1) s = .next (((s.touch who).warmReset 1).respond who 0 0) := by
  have hput : exec (.warmReset who 1) s = _ := State.putRow_takes h rfl (by decide)
  have hboot : (s.touch who).boot = s.boot := (s.touch_only who).boot.resolve_left (by decide)
  have hwrite : (s.touch who).applyWrite who 0x1010 4 (1 % 256 ^ 1) = (stOk, (s.touch who).warmReset 1) := by
    rw [State.applyWrite_warmReset]
    simp [State.warmWrite, hboot, hready]
  rw [hput, hwrite]
  generalize (s.touch who).warmReset 1 = t
  rfl

/-- The point of the clock is no time. -/
theorem State.time_aimVf (s : State) : s.aimVf.time = s.time := by
  unfold State.aimVf
  extract_lets g s1 v s2
  have h1 : s1.time = s.time := by
    unfold s1
    split <;> rfl
  have h2 : s2.time = s1.time := by
    unfold s2
    split <;> rfl
  split
  · exact h2.trans h1
  · exact h2.trans h1

theorem State.time_syncChip (s : State) : s.syncChip.time = s.time := s.syncChip_spec.1.only.time.resolve_left (by decide)

/-- The chip of a warm reset before its clock takes a point. -/
def State.warmCleared (s : State) (cause : Nat) : State :=
  let s := { s with boot := { s.boot with ready := false, warm := true, phase := 5, t0 := s.cyc.ns, times := [], cause := cause,
                                          causes := { s.boot.causes with mgmt := false } } }
  let s := s.calDiscard
  let s := (List.range 16).foldl (fun s p => s.pavWarm p) s
  let s := (List.range 16).foldl (fun s p => (s.cancelFn (p + 1)).updFn (p + 1) (·.clearPcie)) s
  let s := (List.range 26).foldl (fun s k => s.endRequester k) s
  let waiting := s.link.inject
  let s := { s with link := { s.link with inject := [], group := 0, groupAt := 0 }, net := [] }
  let s := waiting.foldl (fun s i => s.dropMsg i.msg 1) s
  let s := (List.range 64).foldl (fun s q => if (s.port q).st = 0 then s else s.portFall q 0) s
  let s := (List.range 144).foldl (fun s n => s.updCore n (·.warm)) s
  { s with org := {}, arb := { s.arb with waiting := [], reads := [], host := [] },
           power := { s.power with vf := 0, droopG := 15, droops := [] }, boot := { s.boot with clkStart := s.cyc.cycles } }

theorem State.time_warmReset (s : State) (cause : Nat) : (s.warmReset cause).time = (s.warmCleared cause).time :=
  calc (s.warmReset cause).time = (s.warmCleared cause).aimVf.syncChip.time := rfl
    _ = (s.warmCleared cause).time := (State.time_syncChip _).trans (State.time_aimVf _)

/-- The time after a warm reset that PF0 asks for. -/
theorem time_exec_warmReset {s s' : State} (h : Takes s .pf0 0x1010 4 1 1) (hready : s.boot.ready = true)
    (hexec : exec (.warmReset .pf0 1) s = .next s') : s'.time = (s.warmCleared 1).time := by
  rw [exec_warmReset h hready] at hexec
  have htouch : s.touch .pf0 = s := rfl
  rw [htouch] at hexec
  rw [← Host.Outcome.next.inj hexec, State.respond, State.emit_time, State.time_warmReset]

/-- A warm reset of the chip waits for the MATMUL too. -/
theorem warmCleared_matmul : ((matmulChip { st := .active }).warmCleared 1).time.now ≠ 0 := by decide +kernel

/-- Refutes O53: a warm reset runs the reset of every Pavilion that is not FREE, which lets a started MATMUL run to its end, and the time is then
a later one. -/
theorem not_resetsAndClocks : ¬ Obligations.ResetsAndClocks := by
  unfold Obligations.ResetsAndClocks
  rintro ⟨-, hwarm, -⟩
  obtain ⟨-, hready⟩ := hwarm (matmulChip { st := .active }) .pf0 takes_warmReset
  obtain ⟨s', hexec, -, -, -, -, -, -, -, -, -, -, -, -, -, htime⟩ := hready rfl
  have hnow := congrArg Sundial.now (time_exec_warmReset takes_warmReset rfl hexec)
  exact warmCleared_matmul (hnow.symm.trans htime)

end Sys2Proof.Machine
end

section
/-! PROOF. FW_DATA over I3C, which carries no BLOB, refutes the statement on firmware updates (03 R86; 20 R557). -/

namespace Sys2Proof.Machine
open Sys2Proof.Safety

/-- A chip past milestone 2 on which no requester has claimed the firmware update. -/
def unclaimedChip : State := { boot := { pwrgood := true, phase := 2 } }

theorem serves_unclaimedChip : Serves unclaimedChip .i3c :=
  { live := rfl, phase := by decide, up := rfl, still := rfl, first := rfl, path := rfl }

/-- The outcome is a next state that has sent the one message `o`. -/
def sentOnly (o : Out) : Host.Outcome State Fault Refusal → Bool
  | .next s => s.out == [o]
  | _ => false

/-- FW_DATA is a BLOB: a byte of it sent over I3C is answered OP (03 R86). -/
theorem fwData_i3c : sentOnly (.resp .i3c stOp 0) (exec (.fwData .i3c 0 [1]) unclaimedChip) = true := by decide +kernel

/-- Refutes O55: FW_DATA without a claim is to be answered STATE, whoever sends it. The I3C target passes the checks of role, access and chip
state as an OPERATOR, and its FW_DATA, a BLOB, is answered OP (03 R86). -/
theorem not_firmwareUpdate : ¬ Obligations.FirmwareUpdate := by
  unfold Obligations.FirmwareUpdate
  rintro ⟨-, -, hdata, -⟩
  obtain ⟨-, -, -, hnone⟩ := hdata unclaimedChip .i3c 0 [1] serves_unclaimedChip ⟨_, rfl⟩ (by decide) (by decide)
  obtain ⟨s', hexec, -, hstate⟩ := hnone rfl
  have hrun := fwData_i3c
  rw [hexec] at hrun
  have hop : s'.out = [.resp .i3c stOp 0] := beq_iff_eq.1 hrun
  exact absurd (hstate.symm.trans hop) (by decide)

end Sys2Proof.Machine
end

section
/-! PROOF. The queue: a step runs its front, and every command is answered by a next state (04 R120; 10 R283; 19 R524). -/

namespace Sys2Proof.Machine
open Sys2Proof.Safety

/-- No arm of the dispatch ends in a fault or a refusal. -/
theorem exec_next (c : Instr) (s : State) : ∃ s', exec c s = .next s' := by
  cases c
  case mgmtTransportWrite who sub v =>
    change ∃ s', execMgmtTransportWrite who sub v s = _
    unfold execMgmtTransportWrite
    split
    · exact ⟨_, rfl⟩
    · exact ⟨_, rfl⟩
  all_goals exact ⟨_, rfl⟩

/-- Settles O1: the arms of the dispatch all answer a next state. -/
theorem stepRunsFront : Obligations.StepRunsFront := by
  unfold Obligations.StepRunsFront
  refine ⟨fun c q s => rfl, fun s h => ?_, exec_next⟩
  unfold step
  rw [h]

end Sys2Proof.Machine
end

section
/-! PROOF. PWR_CAP stands where the cores of a Pavilion 257 would stand (17 Table 17-4; 24 R621). -/

namespace Sys2Proof.Machine
open Sys2Proof.Safety

/-- The index 0x3000 + 16 · 257 is 0x4010, whose subindex 2 is PWR_CAP, 1,400 W after reset (17 Table 17-4). -/
theorem pavCores_reset_257 : State.reset.pavCores 257 = 1400 := by decide +kernel

/-- Refutes O56: that no Pavilion owns a core is claimed of every number, and of the numbers from 16 up PAV_CORES names objects of other units. -/
theorem not_resetValues : ¬ Obligations.ResetValues := by
  unfold Obligations.ResetValues
  rintro ⟨-, -, -, -, -, -, -, -, -, -, -, -, -, -, -, -, -, hpav, -⟩
  obtain ⟨-, hcores, -⟩ := hpav 257
  exact absurd (pavCores_reset_257.symm.trans hcores) (by decide)

end Sys2Proof.Machine
end

section
/-! PROOF. The point of the clock and the rails follow what is asked of them (17 R475 to R480). -/

namespace Sys2Proof.Machine
open Sys2Proof.Safety

/-! ### Retargeting a rail (17 R479) -/

/-- `t` is `s` but for the point of the clock and the rails, and the outbox has only grown: what the controller of the points does. -/
structure Aimed (s t : State) : Prop where
  tells : Tells [.power, .out] s t
  power : { t.power with vf := s.power.vf, rails := s.power.rails } = s.power

theorem Aimed.refl (s : State) : Aimed s s := ⟨.refl _ s, rfl⟩

theorem Aimed.trans {s t u : State} (h : Aimed s t) (g : Aimed t u) : Aimed s u where
  tells := h.tells.trans g.tells
  power := by
    have hs := h.power
    rw [← g.power] at hs
    exact hs

theorem Aimed.ite {s t u : State} {c : Prop} [Decidable c] (h : Aimed s t) (g : Aimed s u) : Aimed s (if c then t else u) := by
  split
  · exact h
  · exact g

/-- A field of the power state that is neither the point nor the rails. -/
theorem Aimed.field {α : Type} {s t : State} (h : Aimed s t) (f : Power → α)
    (hf : ∀ (w : Power) (v : Nat) (r : Sparse Rail), f { w with vf := v, rails := r } = f w) : f t.power = f s.power := by
  rw [← hf t.power s.power.vf s.power.rails, h.power]

theorem State.retarget_aimed (s : State) (k v : Nat) : Aimed s (s.retarget k v) where
  tells :=
    have hrail : Tells [.power, .out] s (s.updRail k fun r =>
        { r with target := v, readback := s.railAt k, since := s.cyc.ns, done := false, slewing := true }) :=
      .silent (only_iff_mask.2 (mask_power s (by decide) _)) rfl
    hrail.trans ((State.emit_tells ..).mono (by decide))
  power := rfl

theorem State.moveClock_aimed (s : State) (k : Nat) : Aimed s (s.moveClock k) where
  tells := .silent (only_iff_mask.2 (mask_power s (by decide) _)) rfl
  power := rfl

theorem State.rail_setRail (s : State) (k : Nat) (v : Rail) (j : Nat) : (s.setRail k v).rail j = if j = k then v else s.rail j := by
  by_cases h : j = k
  · subst h
    simp [State.rail]
  · simp [State.rail, h, Sparse.getD_put_ne]

/-- A retargeted rail moves toward its target; the others stand. -/
theorem State.rail_retarget (s : State) (k v j : Nat) : (s.retarget k v).rail j =
    if j = k then { s.rail k with target := v, readback := s.railAt k, since := s.cyc.ns, done := false, slewing := true } else s.rail j :=
  State.rail_setRail ..

/-! ### What is asked of the clock and the rails (17 R475, R476) -/

/-- V_req of a point is one value wherever the ageing, the guard and the offset stand. -/
theorem State.vReq_congr {s t : State} (haging : t.power.aging = s.power.aging) (hdroop : t.power.droopG = s.power.droopG)
    (hobjs : t.objs = s.objs) (k : Nat) : t.vReq k = s.vReq k := by
  simp [State.vReq, State.vfOffset, haging, hdroop, State.obj_congr hobjs]

theorem State.vfGoal_congr {s t : State} (hboot : t.boot = s.boot) (hdown : t.power.thermDown = s.power.thermDown) (hobjs : t.objs = s.objs) :
    t.vfGoal = s.vfGoal := by
  simp [State.vfGoal, hboot, hdown, State.obj_congr hobjs]

section
variable {s t : State} (h : Aimed s t)
include h

theorem Aimed.objs : t.objs = s.objs := h.tells.only.objs.resolve_left (by decide)
theorem Aimed.boot : t.boot = s.boot := h.tells.only.boot.resolve_left (by decide)
theorem Aimed.cyc : t.cyc = s.cyc := h.tells.only.cyc.resolve_left (by decide)
theorem Aimed.energy : t.energy = s.energy := h.tells.only.energy.resolve_left (by decide)

theorem Aimed.vReq (k : Nat) : t.vReq k = s.vReq k :=
  State.vReq_congr (h.field Power.aging fun _ _ _ => rfl) (h.field Power.droopG fun _ _ _ => rfl) h.objs k

theorem Aimed.vfGoal : t.vfGoal = s.vfGoal := State.vfGoal_congr h.boot (h.field Power.thermDown fun _ _ _ => rfl) h.objs

theorem Aimed.fixedTarget (k : Nat) : t.fixedTarget k = s.fixedTarget k := by
  have haging : t.power.aging = s.power.aging := h.field Power.aging fun _ _ _ => rfl
  simp [State.fixedTarget, State.vfOffset, haging, State.obj_congr h.objs]

end

/-! ### The clock and rail 0 (17 R478, R479) -/

/-- What the requested point does: rail 0 has the target it asks for, the clock is down at once, and up once the rail is done. -/
theorem State.aimVf_spec (s : State) : Aimed s s.aimVf ∧ (∀ j, j ≠ 0 → s.aimVf.rail j = s.rail j) ∧
    (s.aimVf.rail 0).target = s.vReq s.vfGoal ∧
    ((s.rail 0).target = s.vReq s.vfGoal → s.aimVf.rail 0 = s.rail 0 ∧ s.aimVf.power.vf =
      if (s.rail 0).done = true ∧ min s.power.vf s.vfGoal < min s.vfGoal s.power.vfCeil then min s.vfGoal s.power.vfCeil
      else min s.power.vf s.vfGoal) ∧
    ((s.rail 0).target ≠ s.vReq s.vfGoal → (s.aimVf.rail 0).done = false ∧ .avs 0 (s.vReq s.vfGoal) ∈ s.aimVf.out ∧
      s.aimVf.power.vf = min s.power.vf s.vfGoal) := by
  unfold State.aimVf
  extract_lets g s1 v s2
  have hfirst : Aimed s s1 ∧ (∀ j, s1.rail j = s.rail j) ∧ s1.power.vf = min s.power.vf g := by
    unfold s1
    split
    · exact ⟨s.moveClock_aimed g, fun _ => rfl, by change g = _; omega⟩
    · exact ⟨.refl s, fun _ => rfl, by omega⟩
  obtain ⟨haim1, hrail1, hvf1⟩ := hfirst
  have hv : v = s.vReq g := haim1.vReq g
  have hceil1 : s1.power.vfCeil = s.power.vfCeil := haim1.field Power.vfCeil fun _ _ _ => rfl
  change _ ∧ _ ∧ _ = s.vReq g ∧ (_ = s.vReq g → _) ∧ (_ ≠ s.vReq g → _)
  rw [← hv]
  clear_value s1 v
  by_cases htarget : (s.rail 0).target = v
  · have hs2 : s2 = s1 := if_pos (by rw [hrail1, htarget])
    rw [hs2, hrail1, hvf1, hceil1]
    by_cases hup : (s.rail 0).done = true ∧ min s.power.vf g < min g s.power.vfCeil
    · rw [if_pos (by simpa using hup), if_pos hup]
      exact ⟨haim1.trans (s1.moveClock_aimed _), fun j _ => hrail1 j, (congrArg Rail.target (hrail1 0)).trans htarget, fun _ => ⟨hrail1 0, rfl⟩,
        absurd htarget⟩
    · rw [if_neg (by simpa using hup), if_neg hup]
      exact ⟨haim1, fun j _ => hrail1 j, (congrArg Rail.target (hrail1 0)).trans htarget, fun _ => ⟨hrail1 0, hvf1⟩, absurd htarget⟩
  · have hs2 : s2 = s1.retarget 0 v := if_neg (by rwa [hrail1])
    have hrail2 := s1.rail_retarget 0 v
    have hdone : ((s1.retarget 0 v).rail 0).done = false := by rw [hrail2]; rfl
    rw [hs2, hdone, if_neg (by simp)]
    refine ⟨haim1.trans (s1.retarget_aimed 0 v), fun j hj => ?_, by rw [hrail2]; rfl, fun h => absurd h htarget, fun _ => ⟨hdone, ?_, hvf1⟩⟩
    · rw [hrail2, if_neg hj, hrail1]
    · exact List.mem_append_right _ (List.mem_singleton.2 rfl)

theorem State.aimVf_aimed (s : State) : Aimed s s.aimVf := s.aimVf_spec.1

/-- A point below the active one is taken at once, whatever rail 0 does. -/
theorem State.vf_aimVf_of_lt {s : State} (h : s.vfGoal < s.power.vf) : s.aimVf.power.vf = s.vfGoal := by
  obtain ⟨-, -, -, hsame, hother⟩ := s.aimVf_spec
  by_cases htarget : (s.rail 0).target = s.vReq s.vfGoal
  · rw [(hsame htarget).2, if_neg (by omega)]
    omega
  · rw [(hother htarget).2.2]
    omega

end Sys2Proof.Machine
end

section
/-! PROOF. What a checked write of a number is answered (03 R69 to R74, R90), and the readings of the sensors (20 R547). -/

namespace Sys2Proof.Machine
open Sys2Proof.Safety

/-! ### Writes -/

/-- A checked write whose effect is `f`: it acts on the state in which its record has arrived, and is answered with its status. -/
theorem State.putRow_effect {s : State} {who : Requester} {i sub len v : Nat} {f : State → Nat × State} (h : Takes s who i sub len v)
    (hlt : v < 256 ^ len) (hkeep : objKeep i sub v = v) (hown : i ≠ 0x1200) (heffect : ∀ t : State, t.applyWrite who i sub v = f t) :
    s.putRow who i sub len v = .next ((f (s.touch who)).2.respond who (f (s.touch who)).1 0) := by
  have hmod : v % 256 ^ len = v := Nat.mod_eq_of_lt hlt
  have hput := State.putRow_takes h (by rw [hmod]; exact hkeep) hown
  rw [hmod, heffect] at hput
  exact hput

/-- What a write leaves whose effect sends nothing: the answer is the one message. -/
theorem State.answered_respond {s u : State} {who : Requester} {l l' : List Fld} (st : Nat) (h : Only l (s.touch who) u) (hout : Fld.out ∉ l)
    (hl : ∀ f ∈ .dict :: .out :: l, f ∈ l') : Only l' s (u.respond who st 0) ∧ Answered s (u.respond who st 0) who st 0 := by
  have htouch := s.touch_only who
  refine ⟨?_, ?_⟩
  · have hs := (htouch.mono (l' := .dict :: .out :: l) (by simp)).trans (h.mono (by simp +contextual))
    exact (hs.trans (only_iff_mask.2 (mask_out u (by simp) _))).mono hl
  · exact congrArg (· ++ [_]) ((h.out.resolve_left hout).trans (htouch.out.resolve_left (by decide)))

/-- What a write leaves whose effect sends messages: the answer is the last. -/
theorem State.replied_touch {s u : State} {who : Requester} {l l' : List Fld} (st : Nat) (h : Tells l (s.touch who) u)
    (hl : ∀ f ∈ .dict :: .out :: l, f ∈ l') : Only l' s (u.respond who st 0) ∧ Replied s (u.respond who st 0) who st 0 := by
  have htouch := s.touch_only who
  refine ⟨?_, State.replied_respond st 0 (htouch.out.resolve_left (by decide) ▸ h.out)⟩
  have hs := (htouch.mono (l' := .dict :: .out :: l) (by simp)).trans (h.only.mono (by simp +contextual))
  exact (hs.trans (only_iff_mask.2 (mask_out u (by simp) _))).mono hl

/-! ### Time since PWRGOOD (19 R526) -/

theorem State.elapse_zero (s : State) : s.elapse 0 = s := if_pos rfl

theorem State.elapseNs_only (s : State) (t : Nat) : Only [.time, .cyc, .pavs, .tally] s (s.elapseNs t) := s.elapse_only _

theorem State.elapseNs_past {s : State} {t : Nat} (h : t ≤ s.cyc.ns) : s.elapseNs t = s := by
  unfold State.elapseNs
  rw [Nat.sub_eq_zero_of_le h, State.elapse_zero]

theorem State.ns_elapseNs {s : State} (h : s.boot.pwrgood = true) (t : Nat) : (s.elapseNs t).cyc.ns = max t s.cyc.ns := by
  obtain ⟨n, x, c, y, p, heq, hns⟩ := s.elapse_spec (t - s.cyc.ns)
  unfold State.elapseNs
  rw [heq]
  change c.ns = _
  have := hns h
  omega

/-! ### Readings (20 R547) -/

section
variable {α β : Type} {cls : Nat} {store : Energy → Nat → α → Energy} (get : Energy → Nat → β) (val : α → β)

/-- Readings keep the last value of each sensor: of those below the first, what it was. -/
theorem Energy.readings_below (hstore : ∀ e i v j, get (store e i v) j = if j = i then val v else get e j)
    (hseen : ∀ (e : Energy) k b j, get (e.seen k b) j = get e j) (l : List (Option α)) {j : Nat} :
    ∀ (e : Energy) (i : Nat), j < i → get (Energy.readings cls store e i l) j = get e j := by
  induction l with
  | nil => exact fun _ _ _ => rfl
  | cons x l ih =>
    intro e i hj
    cases x with
    | none => exact (ih _ _ (by omega)).trans (hseen ..)
    | some v => exact (ih _ _ (by omega)).trans ((hstore ..).trans ((if_neg (by omega)).trans (hseen ..)))

/-- A sensor that was read holds its value. -/
theorem Energy.readings_get (hstore : ∀ e i v j, get (store e i v) j = if j = i then val v else get e j)
    (hseen : ∀ (e : Energy) k b j, get (e.seen k b) j = get e j) (l : List (Option α)) {j : Nat} {v : α} (hv : l[j]? = some (some v)) :
    ∀ (e : Energy) (i : Nat), get (Energy.readings cls store e i l) (i + j) = val v := by
  induction l generalizing j with
  | nil => cases hv
  | cons x l ih =>
    intro e i
    cases j with
    | zero =>
      have hx : x = some v := by simpa using hv
      subst hx
      exact (Energy.readings_below get val hstore hseen l _ (i + 1) (by omega)).trans ((hstore ..).trans (if_pos rfl))
    | succ j =>
      have hi : i + (j + 1) = i + 1 + j := by omega
      rw [hi]
      cases x with
      | none => exact ih (by simpa using hv) _ _
      | some w => exact ih (by simpa using hv) _ _

end

/-- A sensor that is seen, or missed once more, changes no value and no state of the controllers. -/
theorem Energy.seen_eq (e : Energy) (k : Nat) (b : Bool) : ∃ m f, e.seen k b = { e with missed := m, flagged := f } := by
  unfold Energy.seen
  split
  · exact ⟨_, _, rfl⟩
  · exact ⟨_, _, rfl⟩

/-- Readings leave whatever neither their store nor the count of missing ones touches. -/
theorem Energy.readings_same {α β : Type} {cls : Nat} {store : Energy → Nat → α → Energy} (get : Energy → β)
    (hstore : ∀ e i v, get (store e i v) = get e) (hseen : ∀ (e : Energy) m f, get { e with missed := m, flagged := f } = get e)
    (l : List (Option α)) : ∀ (e : Energy) (i : Nat), get (Energy.readings cls store e i l) = get e := by
  have hsame : ∀ (e : Energy) k b, get (e.seen k b) = get e := fun e k b => by
    obtain ⟨m, f, h⟩ := e.seen_eq k b
    rw [h, hseen]
  induction l with
  | nil => exact fun _ _ => rfl
  | cons x l ih =>
    intro e i
    cases x with
    | none => exact (ih _ _).trans (hsame ..)
    | some v => exact (ih _ _).trans ((hstore ..).trans (hsame ..))

end Sys2Proof.Machine
end

section
/-! PROOF. Thermal stages, THERMTRIP and the calibration window (17 R481 to R486). -/

namespace Sys2Proof.Machine
open Sys2Proof.Safety

/-! ### The thermal stages (17 R484, R485) -/

/-- A share breach is counted and recorded; the power state keeps everything but the counts. -/
theorem State.countBreach_spec (s : State) (w : Nat) : Tells [.power, .log, .fns, .out] s (s.countBreach w) ∧
    ∃ f n g, (s.countBreach w).power = { s.power with breachCounted := f, breachFrames := n, lastBreach := g } := by
  have hpower : ∀ x : Power, Tells [.power, .log, .fns, .out] s { s with power := x } := fun x =>
    .silent (only_iff_mask.2 (mask_power s (by decide) x)) rfl
  unfold State.countBreach
  split
  · exact ⟨.refl _ s, _, _, _, rfl⟩
  · extract_lets t due
    split
    · refine ⟨(hpower _).trans ((State.logRec_tells ..).mono (by decide)), ?_⟩
      rw [(State.logRec_tells ..).only.power.resolve_left (by decide)]
      exact ⟨_, _, _, rfl⟩
    · exact ⟨hpower _, _, _, _, rfl⟩

theorem State.countBreach_of_false {s : State} (h : s.power.shareBreach = false) (w : Nat) : s.countBreach w = s := by
  simp [State.countBreach, h]

/-- One point down changes the points and the rails alone. -/
theorem State.thermLower_aimed (s : State) :
    Aimed { s with power := { s.power with thermDown := min 15 (15 - (s.power.vf - 1)) } } s.thermLower := State.aimVf_aimed _

/-- In the emergency stage the point goes down by one (17 R485). -/
theorem State.vf_thermLower {s : State} (hvf : s.power.vf ≠ 0) (hmax : s.power.vf ≤ 15) (hready : s.boot.ready = true)
    (hpoint : s.power.vf ≤ s.obj 0x4030 2) : s.thermLower.power.vf = s.power.vf - 1 := by
  have hgoal : ({ s with power := { s.power with thermDown := min 15 (15 - (s.power.vf - 1)) } } : State).vfGoal = s.power.vf - 1 := by
    have hmin : min (s.obj 0x4030 2) (15 - min 15 (15 - (s.power.vf - 1))) = s.power.vf - 1 := by omega
    simpa [State.vfGoal, hready, State.obj] using hmin
  have hlt : ({ s with power := { s.power with thermDown := min 15 (15 - (s.power.vf - 1)) } } : State).vfGoal < s.power.vf := by
    rw [hgoal]
    omega
  exact (State.vf_aimVf_of_lt hlt).trans hgoal

/-- A search that keeps the larger of each pair ends at the largest. -/
theorem foldl_largest (f : Nat → Int) (l : List Nat) (a : Int × Nat) (ha : a.1 = f a.2) :
    let r := l.foldl (fun a i => if a.1 < f i then (f i, i) else a) a
    a.1 ≤ r.1 ∧ r.1 = f r.2 ∧ ∀ i ∈ l, f i ≤ r.1 := by
  induction l generalizing a with
  | nil => exact ⟨le_rfl, ha, nofun⟩
  | cons x l ih =>
    have hstep : (if a.1 < f x then (f x, x) else a).1 = f (if a.1 < f x then (f x, x) else a).2 ∧
        a.1 ≤ (if a.1 < f x then (f x, x) else a).1 ∧ f x ≤ (if a.1 < f x then (f x, x) else a).1 := by
      split
      · exact ⟨rfl, by omega, le_rfl⟩
      · exact ⟨ha, le_rfl, by omega⟩
    obtain ⟨hval, hle, hx⟩ := hstep
    obtain ⟨hfirst, hlast, hall⟩ := ih _ hval
    refine ⟨hle.trans hfirst, hlast, fun i hi => ?_⟩
    rcases List.mem_cons.1 hi with rfl | hi
    · exact hx.trans hfirst
    · exact hall i hi

/-- THERM_MAX is the reading of THERM_HOT_SENSOR, and the largest that counts (17 R484). -/
theorem State.thermTop_spec (s : State) : s.thermTop.1 = s.thermOf s.thermTop.2 ∧ ∀ i, i < 64 → s.thermOf i ≤ s.thermTop.1 := by
  obtain ⟨-, hlast, hall⟩ := foldl_largest s.thermOf (List.range 64) (s.thermOf 0, 0) rfl
  exact ⟨hlast, fun i hi => hall i (List.mem_range.2 hi)⟩

/-- The emergency stage after a reading: entered 8 °C above the limit, left below it (17 R485). -/
def State.emergencyAt (s : State) (m : Int) : Bool :=
  if s.energy.emergency then decide (1000 * (s.obj 0x4100 4 : Int) ≤ m) else decide (1000 * (s.obj 0x4100 4 : Int) + 8000 ≤ m)

/-- What an evaluation of the thermal readings does: the stages follow THERM_MAX, and a chip that enters the emergency stage has its shares
breached and its point lowered. -/
theorem State.thermEval_spec (s : State) : Tells [.energy, .power, .log, .fns, .out] s s.thermEval ∧
    (∃ below step, s.thermEval.energy = { s.energy with
      thermMax := s.thermTop.1, thermHot := s.thermTop.2, warn := decide (1000 * (s.obj 0x4100 3 : Int) ≤ s.thermTop.1),
      limit := decide (1000 * (s.obj 0x4100 4 : Int) ≤ s.thermTop.1), emergency := s.emergencyAt s.thermTop.1,
      belowSince := below, thermStep := step }) ∧
    (s.energy.emergency = false → s.thermEval.energy.emergency = true → s.thermEval.power.shareBreach = true) := by
  unfold State.thermEval
  generalize s.thermTop = top
  obtain ⟨m, hot⟩ := top
  dsimp -zeta only
  extract_lets lim n warn limit emer below t w u
  have henergy : Tells [.energy, .power, .log, .fns, .out] s t := .silent (only_iff_mask.2 (mask_energy s (by decide) _)) rfl
  have hstages : ∃ below step, t.energy = { s.energy with
      thermMax := m, thermHot := hot, warn := decide (1000 * (s.obj 0x4100 3 : Int) ≤ m),
      limit := decide (1000 * (s.obj 0x4100 4 : Int) ≤ m), emergency := s.emergencyAt m,
      belowSince := below, thermStep := step } := ⟨_, _, rfl⟩
  have hemer : t.energy.emergency = emer := rfl
  have hraise := fun v : State => (v.raise_tells 0 2).mono (l' := [.energy, .power, .log, .fns, .out]) (by decide)
  have hentry : Tells [.energy, .power, .log, .fns, .out] t u ∧ u.energy = t.energy ∧
      (s.energy.emergency = false → emer = true → u.power.shareBreach = true) := by
    unfold u
    clear_value t
    split
    · obtain ⟨v, hv⟩ : ∃ v : State, v = { t with power := { t.power with shareBreach := true } } := ⟨_, rfl⟩
      have hbreach : Tells [.energy, .power, .log, .fns, .out] t v := by
        rw [hv]
        exact .silent (only_iff_mask.2 (mask_power t (by decide) _)) rfl
      rw [← hv]
      obtain ⟨hcount, f, k, g, hpower⟩ := v.countBreach_spec t.power.now
      have hlog := (v.countBreach t.power.now).logRec_tells 0x0046 hot 2 none (ofSigned 32 m)
      generalize v.countBreach t.power.now = w at hcount hpower hlog
      generalize w.logRec 0x0046 hot 2 none (ofSigned 32 m) = x at hlog
      have hdown : Tells [.energy, .power, .log, .fns, .out] x { x with power := { x.power with thermDown := min 15 (15 - (x.power.vf - 1)) } } :=
        .silent (only_iff_mask.2 (mask_power x (by decide) _)) rfl
      have hlower := hdown.trans (x.thermLower_aimed.tells.mono (by decide))
      refine ⟨hbreach.trans ((hcount.mono (by decide)).trans ((hlog.mono (by decide)).trans hlower)), ?_, fun _ _ => ?_⟩
      · have hx : x.thermLower.energy = x.energy := x.thermLower_aimed.energy
        rw [hx, hlog.only.energy.resolve_left (by decide), hcount.only.energy.resolve_left (by decide), hv]
      · have hx : x.thermLower.power.shareBreach = x.power.shareBreach := x.thermLower_aimed.field Power.shareBreach fun _ _ _ => rfl
        rw [hx, hlog.only.power.resolve_left (by decide), hpower, hv]
    · next hno =>
      exact ⟨.refl _ t, rfl, fun hold hnew => absurd (show (emer && !n.emergency) = true by rw [hnew]; simpa using hold) hno⟩
  obtain ⟨htells, hkept, hbreach⟩ := hentry
  clear_value t u
  have hall := henergy.trans htells
  split
  · have hsame : (u.raise 0 2).energy = u.energy := (u.raise_tells 0 2).only.energy.resolve_left (by decide)
    have hpower : (u.raise 0 2).power = u.power := (u.raise_tells 0 2).only.power.resolve_left (by decide)
    rw [hsame, hpower, hkept, hemer]
    exact ⟨hall.trans (hraise u), hstages, hbreach⟩
  · rw [hkept, hemer]
    exact ⟨hall, hstages, hbreach⟩

end Sys2Proof.Machine
end

section
/-! PROOF. The readings and steps of the thermal controller, THERMTRIP, and the objects and the end of a calibration (17 R481 to R486). -/

namespace Sys2Proof.Machine
open Sys2Proof.Safety

/-! ### Readings (17 R484, R485) -/

/-- The readings of the thermal sensors, before they are evaluated. -/
def State.thermRead (s : State) (temps : List (Option Int)) : State :=
  { s with energy := Energy.readings 0 (fun e i v => { e with therm := Sparse.put e.therm i v }) s.energy 0 (temps.take 64) }

theorem Energy.readings_therm (l : List (Option Int)) {i : Nat} {v : Int} (hi : i < 64) (hv : l[i]? = some (some v)) (e : Energy) :
    Sparse.getD (Energy.readings 0 (fun e i v => { e with therm := Sparse.put e.therm i v }) e 0 (l.take 64)).therm i 0 = v := by
  have hget := Energy.readings_get (cls := 0) (store := fun e i v => { e with therm := Sparse.put e.therm i v })
    (fun (e : Energy) j => Sparse.getD e.therm j (0 : Int)) id (fun e i v j => Sparse.getD_put e.therm i v 0 j)
    (fun e k b j => by
      obtain ⟨m, f, h⟩ := e.seen_eq k b
      rw [h])
    (l.take 64) (by rw [List.getElem?_take_of_lt hi, hv]) e 0
  rw [Nat.zero_add] at hget
  exact hget

theorem thermalReading_stages {s : State} (temps : List (Option Int)) (hpower : s.boot.pwrgood = true) (hphase : s.boot.phase ≠ 0)
    (hup : s.fw.down = false) (hns : s.boot.upAt ≤ s.cyc.ns) :
    ∃ s', exec (.thermalReading temps) s = .next s' ∧ s'.cyc.ns = s.boot.upAt + 125000 * ((s.cyc.ns - s.boot.upAt) / 125000 + 1) ∧
      s'.objs = s.objs ∧ s'.cores = s.cores ∧ s'.mem = s.mem ∧
      (∀ i v, i < 64 → temps[i]? = some (some v) → Sparse.getD s'.energy.therm i 0 = v) ∧
      (∀ i, i < 64 → s'.thermOf i ≤ s'.energy.thermMax) ∧ s'.thermOf s'.energy.thermHot = s'.energy.thermMax ∧
      s'.energy.warn = decide (1000 * (s.obj 0x4100 3 : Int) ≤ s'.energy.thermMax) ∧
      s'.energy.limit = decide (1000 * (s.obj 0x4100 4 : Int) ≤ s'.energy.thermMax) ∧
      s'.energy.emergency = (if s.energy.emergency then s'.energy.limit else decide (1000 * (s.obj 0x4100 4 : Int) + 8000 ≤ s'.energy.thermMax)) ∧
      (s.energy.emergency = false → s'.energy.emergency = true → s'.power.shareBreach = true) := by
  obtain ⟨u, hu⟩ : ∃ u, u = s.elapseNs (s.boot.upAt + 125000 * ((s.cyc.ns - s.boot.upAt) / 125000 + 1)) := ⟨_, rfl⟩
  have honly : Only [.time, .cyc, .pavs, .tally] s u := hu ▸ s.elapseNs_only _
  have hcyc : u.cyc.ns = s.boot.upAt + 125000 * ((s.cyc.ns - s.boot.upAt) / 125000 + 1) := by
    rw [hu, State.ns_elapseNs hpower]
    omega
  have hexec : exec (.thermalReading temps) s = .next (u.thermRead temps).thermEval := by
    change Host.Outcome.next _ = _
    rw [if_neg (by simp [hpower, hphase, hup]), ← hu]
    rfl
  have hobj : ∀ i x, (u.thermRead temps).obj i x = s.obj i x := State.obj_congr (honly.objs.resolve_left (by decide))
  have hemer : (u.thermRead temps).energy.emergency = s.energy.emergency :=
    (Energy.readings_same (store := fun e i v => { e with therm := Sparse.put e.therm i v }) (cls := 0) Energy.emergency
      (fun _ _ _ => rfl) (fun _ _ _ => rfl) _ _ _).trans
      (congrArg Energy.emergency (honly.energy.resolve_left (by decide)))
  obtain ⟨heval, ⟨below, step, henergy⟩, hbreach⟩ := (u.thermRead temps).thermEval_spec
  obtain ⟨hhot, hmax⟩ := (u.thermRead temps).thermTop_spec
  have hthermOf : ∀ i, (u.thermRead temps).thermEval.thermOf i = (u.thermRead temps).thermOf i := by
    intro i
    simp [State.thermOf, henergy, State.obj_of_only heval.only]
  have htherm : ∀ i v, i < 64 → temps[i]? = some (some v) → Sparse.getD (u.thermRead temps).thermEval.energy.therm i 0 = v := by
    intro i v hi hv
    rw [henergy]
    exact Energy.readings_therm temps hi hv u.energy
  have hkept := heval.only
  refine ⟨_, hexec, (congrArg Cycles.ns (hkept.cyc.resolve_left (by decide))).trans hcyc, (hkept.objs.resolve_left (by decide)).trans
    (honly.objs.resolve_left (by decide)), (hkept.cores.resolve_left (by decide)).trans (honly.cores.resolve_left (by decide)),
    (hkept.mem.resolve_left (by decide)).trans (honly.mem.resolve_left (by decide)), htherm, ?_, ?_, ?_, ?_, ?_, ?_⟩
  · intro i hi
    rw [hthermOf, henergy]
    exact hmax i hi
  · rw [hthermOf, henergy]
    exact hhot.symm
  · simp only [henergy, hobj]
  · simp only [henergy, hobj]
  · simp only [henergy, State.emergencyAt, hemer, hobj]
  · rw [← hemer]
    exact hbreach

end Sys2Proof.Machine
end

section
/-! PROOF. The steps of the emergency stage, THERMTRIP, and the objects and the end of a calibration (17 R481 to R486). -/

namespace Sys2Proof.Machine
open Sys2Proof.Safety

/-! ### Point steps of thermal limiting (17 R484, R485) -/

theorem thermPointStep_emergency {s : State} (hemer : s.energy.emergency = true) (hvf : s.power.vf ≠ 0) (hmax : s.power.vf ≤ 15)
    (hready : s.boot.ready = true) (hpoint : s.power.vf ≤ s.obj 0x4030 2) :
    ∃ s', exec .thermPointStep s = .next s' ∧ Only [.time, .cyc, .pavs, .tally, .energy, .power, .out] s s' ∧
      (s.energy.thermStep + 100000 ≤ s.cyc.ns → Only [.energy, .power, .out] s s') ∧
      s'.power.vf = s.power.vf - 1 ∧ s'.energy = { s.energy with thermStep := s'.cyc.ns } := by
  obtain ⟨u, hu⟩ : ∃ u, u = s.elapseNs (s.energy.thermStep + 100000) := ⟨_, rfl⟩
  obtain ⟨v, hv⟩ : ∃ v : State, v = { u with energy := { u.energy with thermStep := u.cyc.ns } } := ⟨_, rfl⟩
  have hexec : exec .thermPointStep s = .next v.thermLower := by
    change Host.Outcome.next _ = _
    rw [if_pos hemer, if_neg hvf, hv, hu]
  have helapse : Only [.time, .cyc, .pavs, .tally] s u := hu ▸ s.elapseNs_only _
  have hpower : v.power = s.power := (congrArg State.power hv).trans (helapse.power.resolve_left (by decide))
  have hboot : v.boot = s.boot := (congrArg State.boot hv).trans (helapse.boot.resolve_left (by decide))
  have hobj : ∀ i x, v.obj i x = s.obj i x := State.obj_congr ((congrArg State.objs hv).trans (helapse.objs.resolve_left (by decide)))
  have hlower : Only [.energy, .power, .out] u v.thermLower :=
    (hv ▸ only_iff_mask.2 (mask_energy u (by decide) _) : Only [.energy, .power, .out] u v).trans
      ((only_iff_mask.2 (mask_power v (by decide) _)).trans (v.thermLower_aimed.tells.only.mono (by decide)))
  refine ⟨_, hexec, (helapse.mono (by decide)).trans (hlower.mono (by decide)), fun hpast => ?_, ?_, ?_⟩
  · rwa [hu, State.elapseNs_past hpast] at hlower
  · rw [State.vf_thermLower (by rwa [hpower]) (by rwa [hpower]) (by rwa [hboot]) (by rwa [hpower, hobj]), hpower]
  · have henergy : v.thermLower.energy = v.energy := v.thermLower_aimed.energy
    have hcyc : v.thermLower.cyc = v.cyc := v.thermLower_aimed.cyc
    rw [henergy, hcyc, hv, helapse.energy.resolve_left (by decide)]

theorem thermPointStep_up {s : State} (hemer : s.energy.emergency = false) (hdown : s.power.thermDown ≠ 0) (hmax : s.power.thermDown ≤ 15) :
    ∃ s', exec .thermPointStep s = .next s' ∧ Only [.time, .cyc, .pavs, .tally, .energy, .power, .out] s s' ∧
      (s.energy.thermStep + 1000000 ≤ s.cyc.ns → Only [.energy, .power, .out] s s') ∧
      s'.energy = { s.energy with thermStep := s'.cyc.ns } ∧
      s'.power.thermDown = (if s.obj 0x4030 2 + (s.power.thermDown - 1) ≤ 15 then 0 else s.power.thermDown - 1) := by
  obtain ⟨u, hu⟩ : ∃ u, u = s.elapseNs (s.energy.thermStep + 1000000) := ⟨_, rfl⟩
  obtain ⟨v, hv⟩ : ∃ v : State, v = { u with
    energy := { u.energy with thermStep := u.cyc.ns }
    power := { u.power with thermDown := if u.obj 0x4030 2 ≤ 15 - (u.power.thermDown - 1) then 0 else u.power.thermDown - 1 } } := ⟨_, rfl⟩
  have hexec : exec .thermPointStep s = .next v.aimVf := by
    change Host.Outcome.next _ = _
    rw [if_neg (by simp [hemer]), if_neg hdown, hv, hu]
  have helapse : Only [.time, .cyc, .pavs, .tally] s u := hu ▸ s.elapseNs_only _
  have haim := v.aimVf_aimed
  have hfinal : Only [.energy, .power, .out] u v.aimVf :=
    (hv ▸ only_iff_mask.2 rfl : Only [.energy, .power, .out] u v).trans (haim.tells.only.mono (by decide))
  refine ⟨_, hexec, (helapse.mono (by decide)).trans (hfinal.mono (by decide)), fun hpast => ?_, ?_, ?_⟩
  · rwa [hu, State.elapseNs_past hpast] at hfinal
  · rw [haim.energy, haim.cyc, hv, helapse.energy.resolve_left (by decide)]
  · have hthermDown : v.aimVf.power.thermDown = v.power.thermDown := haim.field Power.thermDown fun _ _ _ => rfl
    rw [hthermDown, hv]
    dsimp only
    rw [helapse.power.resolve_left (by decide), State.obj_congr (helapse.objs.resolve_left (by decide))]
    have hiff : s.obj 0x4030 2 ≤ 15 - (s.power.thermDown - 1) ↔ s.obj 0x4030 2 + (s.power.thermDown - 1) ≤ 15 := by omega
    simp only [hiff]

theorem State.syncChip_boot (s : State) : ∃ x, s.syncChip.boot = { s.boot with lastState := x } := by
  unfold State.syncChip
  extract_lets st b t
  have hraise : (t.raise 0 7).boot = t.boot := (t.raise_tells 0 7).only.boot.resolve_left (by decide)
  split
  · exact ⟨_, rfl⟩
  · split
    · exact ⟨_, hraise⟩
    · exact ⟨_, rfl⟩

/-! ### THERMTRIP (17 R483) -/

theorem thermtrip_hot {s : State} (i : Fin 64) {t : Int} (hpower : s.boot.pwrgood = true) (hlow : s.boot.thermtripLow = false)
    (ht : 115000 ≤ t) :
    ∃ s', exec (.thermtrip i t) s = .next s' ∧ Only [.boot, .power, .pcie, .log, .fns, .out] s s' ∧ s'.boot.thermtripLow = true ∧
      s'.pcie.linkUp = false ∧ s'.power = { s.power with clockOn := false } ∧ s'.chipState = 5 := by
  obtain ⟨u, hu⟩ : ∃ u : State, u = { s with
    boot := { s.boot with thermtripLow := true, causes := { s.boot.causes with thermtrip := true } }
    power := { s.power with clockOn := false }, pcie := { s.pcie with linkUp := false } } := ⟨_, rfl⟩
  have hexec : exec (.thermtrip i t) s = .next (u.logRec 0x0047 i 4 none (ofSigned 32 t)).syncChip := by
    change Host.Outcome.next _ = _
    rw [if_neg (by simp [hpower, hlow, ht]), hu]
  have hfirst : Only [.boot, .power, .pcie, .log, .fns, .out] s u :=
    hu ▸ only_iff_mask.2 rfl
  have hlog := (u.logRec_tells 0x0047 i 4 none (ofSigned 32 t)).only
  generalize u.logRec 0x0047 i 4 none (ofSigned 32 t) = w at hexec hlog
  have hsync := w.syncChip_spec.1.only
  have hboot : w.boot = u.boot := hlog.boot.resolve_left (by decide)
  obtain ⟨x, hx⟩ := w.syncChip_boot
  have htrip : w.syncChip.boot = { u.boot with lastState := x } := by rw [hx, hboot]
  refine ⟨_, hexec, hfirst.trans ((hlog.mono (by decide)).trans (hsync.mono (by decide))), ?_, ?_, ?_, ?_⟩
  · rw [htrip, hu]
  · rw [hsync.pcie.resolve_left (by decide), hlog.pcie.resolve_left (by decide), hu]
  · rw [hsync.power.resolve_left (by decide), hlog.power.resolve_left (by decide), hu]
  · have hfault : w.syncChip.faulted = true := by simp [State.faulted, htrip, hu]
    simp [State.chipState, hfault]

/-! ### Calibration (17 R481, R482) -/

theorem State.applyWrite_calStart (s : State) (who : Requester) : s.applyWrite who 0x4050 1 1 = s.calStart 1 := rfl
theorem State.applyWrite_calForce (s : State) (who : Requester) : s.applyWrite who 0x4050 2 1 = s.calForce 1 := rfl

/-- A calibration that begins changes the energy figures alone, and runs for 8 frames from the next one. -/
theorem State.calBegin_only (s : State) (forced : Bool) : Only [.energy] s (s.calBegin forced) :=
  only_iff_mask.2 (mask_energy s (by decide) _)

theorem State.energy_calBegin (s : State) (forced : Bool) : (s.calBegin forced).energy = { s.energy with
    calRunning := true, calForced := forced, calBroken := false, calStatus := 1, calEnd := 250000 * (s.time.now / 250000 + 9) } := rfl

theorem putRow_calStart {s : State} {who : Requester} (h : Takes s who 0x4050 1 1 1) :
    exec (.calStart who 1) s = .next (((s.touch who).calStart 1).2.respond who ((s.touch who).calStart 1).1 0) :=
  State.putRow_effect h (by decide) rfl (by decide) fun t => t.applyWrite_calStart who

theorem putRow_calForce {s : State} {who : Requester} (h : Takes s who 0x4050 2 1 1) :
    exec (.calForce who 1) s = .next (((s.touch who).calBegin true).respond who stOk 0) :=
  State.putRow_effect h (by decide) rfl (by decide) fun t => t.applyWrite_calForce who

/-- Whether the chip is idle stands on its cores and the ballast. -/
theorem State.calIdle_touch (s : State) (who : Requester) : (s.touch who).calIdle = s.calIdle := by
  have h := s.touch_only who
  simp only [State.calIdle, h.power.resolve_left (by decide), h.cores.resolve_left (by decide)]

theorem calStart_answers {s : State} {who : Requester} (h : Takes s who 0x4050 1 1 1) :
    (s.energy.calRunning = true → ∃ s', exec (.calStart who 1) s = .next s' ∧ Only [.dict, .out] s s' ∧ Answered s s' who 0x132 0) ∧
    (s.energy.calRunning = false → s.calIdle = false → ∃ s', exec (.calStart who 1) s = .next s' ∧ Only [.dict, .out] s s' ∧
      Answered s s' who 0x131 0) ∧
    (s.energy.calRunning = false → s.calIdle = true → ∃ s', exec (.calStart who 1) s = .next s' ∧ Only [.energy, .dict, .out] s s' ∧
      Answered s s' who 0 0 ∧ s'.energy = { s.energy with
        calRunning := true, calForced := false, calBroken := false, calStatus := 1, calEnd := 250000 * (s.time.now / 250000 + 9) }) := by
  have hexec := putRow_calStart h
  have htouch := s.touch_only who
  have henergy : (s.touch who).energy = s.energy := htouch.energy.resolve_left (by decide)
  have htime : (s.touch who).time = s.time := htouch.time.resolve_left (by decide)
  have hidle := s.calIdle_touch who
  refine ⟨fun hrun => ?_, fun hrun hbusy => ?_, fun hrun hfree => ?_⟩
  · have heffect : (s.touch who).calStart 1 = (0x132, s.touch who) := by simp [State.calStart, henergy, hrun, calRunningCode]
    rw [heffect] at hexec
    exact ⟨_, hexec, State.answered_respond (l := []) _ (.refl _ _) (by decide) (by decide)⟩
  · have heffect : (s.touch who).calStart 1 = (0x131, s.touch who) := by simp [State.calStart, henergy, hrun, hidle, hbusy, calNotIdle]
    rw [heffect] at hexec
    exact ⟨_, hexec, State.answered_respond (l := []) _ (.refl _ _) (by decide) (by decide)⟩
  · have heffect : (s.touch who).calStart 1 = (0, (s.touch who).calBegin false) := by
      simp [State.calStart, henergy, hrun, hidle, hfree, stOk]
    rw [heffect] at hexec
    obtain ⟨honly, hanswer⟩ := State.answered_respond 0 ((s.touch who).calBegin_only false) (by decide)
      (l' := [.energy, .dict, .out]) (by decide)
    refine ⟨_, hexec, honly, hanswer, ?_⟩
    change ((s.touch who).calBegin false).energy = _
    rw [State.energy_calBegin, henergy, htime]

theorem calForce_answers {s : State} {who : Requester} (h : Takes s who 0x4050 2 1 1) :
    ∃ s', exec (.calForce who 1) s = .next s' ∧ Only [.energy, .dict, .out] s s' ∧ Answered s s' who 0 0 ∧ s'.energy = { s.energy with
      calRunning := true, calForced := true, calBroken := false, calStatus := 1, calEnd := 250000 * (s.time.now / 250000 + 9) } := by
  have htouch := s.touch_only who
  obtain ⟨honly, hanswer⟩ := State.answered_respond 0 ((s.touch who).calBegin_only true) (by decide)
    (l' := [.energy, .dict, .out]) (by decide)
  refine ⟨_, putRow_calForce h, honly, hanswer, ?_⟩
  change ((s.touch who).calBegin true).energy = _
  rw [State.energy_calBegin, htouch.energy.resolve_left (by decide), htouch.time.resolve_left (by decide)]

theorem State.calDiscard_of_running {s : State} (h : s.energy.calRunning = true) :
    s.calDiscard = { s with energy := { s.energy with calRunning := false, calStatus := 3 } } := if_pos h

/-- The end of a calibration that runs, once its last frame is over. -/
def State.calEnded (s : State) (off : Nat) (changed : Bool) : State :=
  if s.energy.calForced then
    ({ s with energy := { s.energy with
      calRunning := false, calStatus := 4, suspect := true, calOffsets := off % 2 ^ 512, calTime := s.time.now } }).logRec 0x0045 0 1 none 0
  else if changed || s.energy.calBroken then s.calDiscard.logRec 0x0043 0 0 none 0
  else
    ({ s with energy := { s.energy with
      calRunning := false, calStatus := 2, suspect := false, calOffsets := off % 2 ^ 512, calTime := s.time.now } }).logRec 0x0044 0 0 none 0

theorem calibrationWindowEnd_results {s : State} (off : Nat) (ch : Bool) (hrun : s.energy.calRunning = true) :
    ∃ s', exec (.calibrationWindowEnd off ch) s = .next s' ∧ Only [.time, .cyc, .pavs, .tally, .energy, .log, .fns, .out] s s' ∧
      (s.energy.calEnd ≤ s.time.now → Only [.energy, .log, .fns, .out] s s') ∧ (Steady s → s.energy.calEnd ≤ s'.time.now) ∧
      s'.energy.calRunning = false ∧
      (s.energy.calForced = true → s'.energy.calStatus = 4 ∧ s'.energy.suspect = true ∧ s'.energy.calOffsets = off % 2 ^ 512 ∧
        s'.energy.calTime = s'.time.now) ∧
      (s.energy.calForced = false → ch = true ∨ s.energy.calBroken = true → s'.energy.calStatus = 3 ∧
        s'.energy.calOffsets = s.energy.calOffsets ∧ s'.energy.suspect = s.energy.suspect) ∧
      (s.energy.calForced = false → ch = false → s.energy.calBroken = false → s'.energy.calStatus = 2 ∧ s'.energy.suspect = false ∧
        s'.energy.calOffsets = off % 2 ^ 512 ∧ s'.energy.calTime = s'.time.now) := by
  obtain ⟨u, hu⟩ : ∃ u, u = s.elapseTo s.energy.calEnd := ⟨_, rfl⟩
  have helapse : Only [.time, .cyc, .pavs, .tally] s u := hu ▸ s.elapseTo_only _
  have henergy : u.energy = s.energy := helapse.energy.resolve_left (by decide)
  have hexec : exec (.calibrationWindowEnd off ch) s = .next (u.calEnded off ch) := by
    change Host.Outcome.next _ = _
    rw [if_neg (by simp [hrun]), hu]
    rfl
  unfold State.calEnded at hexec
  -- What a record and a change of the energy state add to the time that passed.
  have hkeep : ∀ (e : Energy) (code sev : Nat),
      let t := ({ u with energy := e } : State).logRec code 0 sev none 0
      Only [.time, .cyc, .pavs, .tally, .energy, .log, .fns, .out] s t ∧
        (s.energy.calEnd ≤ s.time.now → Only [.energy, .log, .fns, .out] s t) ∧ (Steady s → s.energy.calEnd ≤ t.time.now) ∧
        t.energy = e ∧ t.time = u.time := by
    intro e code sev t
    have hlog := (({ u with energy := e } : State).logRec_tells code 0 sev none 0).only
    have hdone : Only [.energy, .log, .fns, .out] u t := (only_iff_mask.2 (mask_energy u (by decide) e)).trans (hlog.mono (by decide))
    have htime : t.time = u.time := hdone.time.resolve_left (by decide)
    refine ⟨(helapse.mono (by decide)).trans (hdone.mono (by decide)), fun hpast => ?_, fun hsteady => ?_,
      hlog.energy.resolve_left (by decide), htime⟩
    · rwa [hu, State.elapseTo_past hpast] at hdone
    · rw [htime, hu]
      exact State.le_elapseTo_steady hsteady _
  by_cases hforced : s.energy.calForced = true
  · rw [if_pos (by rw [henergy]; exact hforced)] at hexec
    obtain ⟨honly, hpast, hdue, hnew, htime⟩ := hkeep
      { u.energy with calRunning := false, calStatus := 4, suspect := true, calOffsets := off % 2 ^ 512, calTime := u.time.now } 0x0045 1
    refine ⟨_, hexec, honly, hpast, hdue, by rw [hnew], fun _ => ?_, fun h => absurd (hforced.symm.trans h) (by decide),
      fun h => absurd (hforced.symm.trans h) (by decide)⟩
    rw [hnew, htime]
    exact ⟨rfl, rfl, rfl, rfl⟩
  · rw [if_neg (by rw [henergy]; exact hforced)] at hexec
    by_cases hbroken : ch = true ∨ s.energy.calBroken = true
    · rw [if_pos (by simpa [henergy] using hbroken), State.calDiscard_of_running (by rw [henergy]; exact hrun)] at hexec
      obtain ⟨honly, hpast, hdue, hnew, -⟩ := hkeep { u.energy with calRunning := false, calStatus := 3 } 0x0043 0
      refine ⟨_, hexec, honly, hpast, hdue, by rw [hnew], fun h => absurd h hforced, fun _ _ => ?_, ?_⟩
      · rw [hnew, henergy]
        exact ⟨rfl, rfl, rfl⟩
      · rintro - rfl hno
        simp [hno] at hbroken
    · rw [if_neg (by simpa [henergy] using hbroken)] at hexec
      obtain ⟨honly, hpast, hdue, hnew, htime⟩ := hkeep
        { u.energy with calRunning := false, calStatus := 2, suspect := false, calOffsets := off % 2 ^ 512, calTime := u.time.now } 0x0044 0
      refine ⟨_, hexec, honly, hpast, hdue, by rw [hnew], fun h => absurd h hforced, fun _ h => absurd h hbroken, fun _ _ _ => ?_⟩
      rw [hnew, htime]
      exact ⟨rfl, rfl, rfl, rfl⟩

/-- Settles O50: the stages follow the readings, and a calibration ends by what disturbed or forced it. -/
theorem thermalAndCalibration : Obligations.ThermalAndCalibration := by
  unfold Obligations.ThermalAndCalibration
  refine ⟨fun s temps => thermalReading_stages temps, fun s => ⟨thermPointStep_emergency, thermPointStep_up, fun hemer hdown => ?_⟩,
    fun s i t hpower hlow => ⟨thermtrip_hot i hpower hlow, fun ht => ?_⟩, fun s who => calStart_answers, fun s who => calForce_answers,
    fun s off ch => calibrationWindowEnd_results off ch⟩
  · change Host.Outcome.next _ = _
    rw [if_neg (by simp [hemer]), if_pos hdown]
  · change Host.Outcome.next _ = _
    rw [if_pos (by simp [ht])]

end Sys2Proof.Machine
end

section
/-! PROOF. The point that is asked for, the rails that settle or do not, ageing and the droop guard (17 R475 to R480; 19 R532). -/

namespace Sys2Proof.Machine
open Sys2Proof.Safety

/-! ### A write of VF_POINT (17 R478) -/

theorem State.applyWrite_vfPoint (s : State) (who : Requester) (v : Nat) : s.applyWrite who 0x4030 2 v = (stOk, s.vfPoint v) := rfl

theorem State.vReq_setPoint (s : State) (v k : Nat) : (s.setObj 0x4030 2 v).vReq k = s.vReq k := by
  unfold State.vReq State.vfOffset
  rw [State.obj_setObj_ne (h := by decide)]
  rfl

theorem State.vfGoal_setPoint {s : State} (h : s.boot.ready = true) (v : Nat) :
    (s.setObj 0x4030 2 v).vfGoal = min v (15 - s.power.thermDown) := by
  unfold State.vfGoal
  rw [State.obj_setObj_self]
  exact if_pos h

theorem vfPointWrite_follows {s : State} {who : Requester} {v g : Nat} (h : Takes s who 0x4030 2 1 v) (hv : v ≤ 15)
    (hready : s.boot.ready = true) (hg : g = min v (15 - s.power.thermDown)) :
    ∃ s', exec (.vfPointWrite who v) s = .next s' ∧ Only [.objs, .power, .dict, .out] s s' ∧ Replied s s' who 0 0 ∧ s'.obj 0x4030 2 = v ∧
      (s'.rail 0).target = s.vReq g ∧ (g < s.power.vf → s'.power.vf = g) ∧
      (s.power.vf ≤ g → (s.rail 0).target ≠ s.vReq g → s'.power.vf = s.power.vf ∧ (s'.rail 0).done = false ∧ .avs 0 (s.vReq g) ∈ s'.out) ∧
      (s.power.vf ≤ g → (s.rail 0).target = s.vReq g → (s.rail 0).done = true → g ≤ s.power.vfCeil → s'.power.vf = g) := by
  have hexec := State.putRow_effect h (by omega) rfl (by decide) fun t => t.applyWrite_vfPoint who v
  have htouch := s.touch_only who
  have hpower : (s.touch who).power = s.power := htouch.power.resolve_left (by decide)
  have hboot : (s.touch who).boot = s.boot := htouch.boot.resolve_left (by decide)
  obtain ⟨t, ht⟩ : ∃ t, t = (s.touch who).setObj 0x4030 2 v := ⟨_, rfl⟩
  have hgoal : t.vfGoal = g := by rw [ht, State.vfGoal_setPoint (by rwa [hboot]), hpower, hg]
  have hreq : t.vReq g = s.vReq g := by
    rw [ht, State.vReq_setPoint]
    exact State.vReq_congr (by rw [hpower]) (by rw [hpower]) (htouch.objs.resolve_left (by decide)) g
  have htp : t.power = s.power := by rw [ht]; exact hpower
  have hrail : t.rail 0 = s.rail 0 := by unfold State.rail; rw [htp]
  have heffect : (s.touch who).vfPoint v = t.aimVf := by rw [ht]; rfl
  obtain ⟨haim, -, htarget, hsame, hother⟩ := t.aimVf_spec
  have htells : Tells [.objs, .power, .out] (s.touch who) t.aimVf :=
    (Tells.silent (only_iff_mask.2 (ht ▸ mask_objs _ (by decide) _)) (by rw [ht]; rfl)).trans (haim.tells.mono (by decide))
  obtain ⟨honly, hreply⟩ := State.replied_touch stOk htells (l' := [.objs, .power, .dict, .out]) (by decide)
  rw [hgoal, hreq, hrail, htp] at hsame hother
  rw [hgoal, hreq] at htarget
  rw [heffect] at hexec
  refine ⟨_, hexec, honly, hreply, ?_, htarget, fun hlt => ?_, fun hle hne => ?_, fun hle heq hdone hceil => ?_⟩
  · change t.aimVf.obj 0x4030 2 = v
    rw [State.obj_congr haim.objs, ht, State.obj_setObj_self]
  · change t.aimVf.power.vf = g
    rw [State.vf_aimVf_of_lt (by rwa [hgoal, htp]), hgoal]
  · obtain ⟨hdone, hout, hvf⟩ := hother hne
    exact ⟨hvf.trans (by omega), hdone, List.mem_append_left _ hout⟩
  · refine (hsame heq).2.trans ?_
    by_cases hup : min s.power.vf g < min g s.power.vfCeil
    · rw [if_pos ⟨hdone, hup⟩]
      omega
    · rw [if_neg fun hall => hup hall.2]
      omega

/-! ### A rail that is read (17 R479, R480) -/

/-- Rail `k` reads as `r`, and its sensor is seen. -/
def State.readRail (s : State) (k : Nat) (r : Rail) : State := { s.setRail k r with energy := s.energy.seen (3 * 256 + k) true }

/-- The chip with rail 0 in order: no ceiling on the point, and no cause to be in FAULT. -/
def State.railSound (s : State) : State :=
  { s with power := { s.power with vfCeil := 15 }, boot := { s.boot with causes := { s.boot.causes with rail := false } } }

/-- Rail 0 has settled: its fault ends, and the clock rises to the requested point. -/
def State.railUp (s : State) : State :=
  (if s.railSound.power.vf < s.railSound.vfGoal then s.railSound.moveClock s.railSound.vfGoal else s.railSound).syncChip

theorem State.railUp_spec (s : State) : Only [.power, .boot, .fns, .out] s s.railUp ∧
    s.railUp.power = { s.power with vfCeil := 15, vf := max s.power.vf s.vfGoal } ∧ s.railUp.boot.causes.rail = false := by
  unfold State.railUp
  obtain ⟨v, hv⟩ : ∃ v, v = if s.railSound.power.vf < s.railSound.vfGoal then s.railSound.moveClock s.railSound.vfGoal else s.railSound := ⟨_, rfl⟩
  rw [← hv]
  have hgoal : s.railSound.vfGoal = s.vfGoal := rfl
  have ht : Only [.power, .boot, .fns, .out] s s.railSound := only_iff_mask.2 rfl
  have hraised : Only [.power] s.railSound v ∧ v.power = { s.power with vfCeil := 15, vf := max s.power.vf s.vfGoal } := by
    rw [hv, hgoal]
    by_cases hlt : s.railSound.power.vf < s.vfGoal
    · rw [if_pos hlt, max_eq_right (show s.power.vf ≤ s.vfGoal from hlt.le)]
      exact ⟨only_iff_mask.2 rfl, rfl⟩
    · rw [if_neg hlt, max_eq_left (show s.vfGoal ≤ s.power.vf from not_lt.1 hlt)]
      exact ⟨.refl _ _, rfl⟩
  obtain ⟨hclock, hpower⟩ := hraised
  have hsync := v.syncChip_spec.1.only
  obtain ⟨x, hx⟩ := v.syncChip_boot
  refine ⟨ht.trans ((hclock.mono (by decide)).trans (hsync.mono (by decide))), (hsync.power.resolve_left (by decide)).trans hpower, ?_⟩
  rw [hx, hclock.boot.resolve_left (by decide)]
  rfl

theorem State.readRail_only (s : State) (k : Nat) (r : Rail) : Only [.power, .energy] s (s.readRail k r) := only_iff_mask.2 rfl

theorem State.rail_readRail (s : State) (k : Nat) (r : Rail) (j : Nat) : (s.readRail k r).rail j = if j = k then r else s.rail j :=
  s.rail_setRail k r j

theorem State.vf_readRail (s : State) (k : Nat) (r : Rail) : (s.readRail k r).power.vf = s.power.vf := rfl

theorem State.rail_of_find {s : State} {k : Nat} {r : Rail} (h : Sparse.find s.power.rails k = some r) : s.rail k = r := by
  unfold State.rail Sparse.getD
  rw [h]
  rfl

/-- Rails stand on the power state alone. -/
theorem State.rail_congr {s t : State} (h : t.power.rails = s.power.rails) (k : Nat) : t.rail k = s.rail k := by
  unfold State.rail
  rw [h]

theorem railSettled_stays {s : State} {k : Fin 3} {mv : Nat} {r : Rail} (hr : Sparse.find s.power.rails k = some r)
    (h : r.done = true ∨ mv + 5 < r.target ∨ r.target + 5 < mv) : exec (.railSettled k mv) s = .next s := by
  change Host.Outcome.next _ = _
  rw [State.rail_of_find hr, if_pos]
  simpa [hr, or_assoc] using h

section
variable {s : State} {k : Fin 3} {mv : Nat} {r : Rail} (hr : Sparse.find s.power.rails k = some r) (hdone : r.done = false)
  (hlow : r.target ≤ mv + 5) (hhigh : mv ≤ r.target + 5)
include hr hdone hlow hhigh

/-- A rail that settles is read when its wait is over; rail 0 then lets the clock up. -/
theorem exec_railSettled : ∃ u, u = s.elapseNs (r.since + cdiv ((max r.target r.readback - min r.target r.readback) * 1000) (s.railSlew k) + 10000) ∧
    ∃ w, w = u.readRail k { r with readback := mv, done := true, slewing := false, fault := r.fault && !r.slewing } ∧
    exec (.railSettled k mv) s = .next (if k.val = 0 ∧ r.slewing = true then w.railUp else w) := by
  refine ⟨_, rfl, _, rfl, ?_⟩
  change Host.Outcome.next _ = _
  rw [State.rail_of_find hr, if_neg (by simp [hr, hdone]; omega)]
  dsimp only
  by_cases hup : k.val = 0 ∧ r.slewing = true
  · rw [if_pos hup, if_pos (by simpa using hup)]
    rfl
  · rw [if_neg hup, if_neg (by simpa using hup)]
    rfl

theorem railSettled_first (hslew : r.slewing = true) :
    ∃ s', exec (.railSettled k mv) s = .next s' ∧ Only [.time, .cyc, .pavs, .tally, .power, .energy, .boot, .fns, .out] s s' ∧
      (r.since + cdiv ((max r.target r.readback - min r.target r.readback) * 1000) (s.railSlew k) + 10000 ≤ s.cyc.ns →
        Only [.power, .energy, .boot, .fns, .out] s s') ∧
      s'.rail k = { r with readback := mv, done := true, slewing := false, fault := false } ∧ (∀ j, j ≠ k.val → s'.rail j = s.rail j) ∧
      (k.val ≠ 0 → s'.power.vf = s.power.vf ∧ s'.boot = s.boot) ∧
      (k.val = 0 → s'.power.vfCeil = 15 ∧ s'.boot.causes.rail = false ∧ s'.power.vf = max s.power.vf s.vfGoal) := by
  obtain ⟨u, hu, w, hw, hexec⟩ := exec_railSettled hr hdone hlow hhigh
  rw [hslew, Bool.not_true, Bool.and_false] at hw
  have helapse : Only [.time, .cyc, .pavs, .tally] s u := hu ▸ s.elapseNs_only _
  have hread : Only [.power, .energy] u w := hw ▸ u.readRail_only _ _
  have hrail : ∀ j, w.rail j = if j = k.val then { r with readback := mv, done := true, slewing := false, fault := false } else s.rail j := fun j => by
    rw [hw, State.rail_readRail, State.rail_congr (congrArg Power.rails (helapse.power.resolve_left (by decide)))]
  have hvf : w.power.vf = s.power.vf := by rw [hw, State.vf_readRail, helapse.power.resolve_left (by decide)]
  have hboot : w.boot = s.boot := (hread.boot.resolve_left (by decide)).trans (helapse.boot.resolve_left (by decide))
  by_cases hk : k.val = 0
  · rw [if_pos ⟨hk, hslew⟩] at hexec
    obtain ⟨hup, hpower, hcause⟩ := w.railUp_spec
    have hgoal : w.vfGoal = s.vfGoal := State.vfGoal_congr hboot (by
      rw [hw]
      change u.power.thermDown = _
      exact congrArg Power.thermDown (helapse.power.resolve_left (by decide)))
      ((hread.objs.resolve_left (by decide)).trans (helapse.objs.resolve_left (by decide)))
    have hfinal : Only [.power, .energy, .boot, .fns, .out] u w.railUp := (hread.mono (by decide)).trans (hup.mono (by decide))
    have hrails : ∀ j, w.railUp.rail j = w.rail j := State.rail_congr (by rw [hpower])
    refine ⟨_, hexec, (helapse.mono (by decide)).trans (hfinal.mono (by decide)), fun hpast => ?_, ?_, fun j hj => ?_, fun h => absurd hk h,
      fun _ => ⟨by rw [hpower], hcause, by rw [hpower, hvf, hgoal]⟩⟩
    · rwa [hu, State.elapseNs_past hpast] at hfinal
    · rw [hrails, hrail, if_pos rfl]
    · rw [hrails, hrail, if_neg hj]
  · rw [if_neg fun h => hk h.1] at hexec
    have hfinal : Only [.power, .energy, .boot, .fns, .out] u w := hread.mono (by decide)
    refine ⟨_, hexec, (helapse.mono (by decide)).trans (hfinal.mono (by decide)), fun hpast => ?_, ?_, fun j hj => ?_,
      fun _ => ⟨hvf, hboot⟩, fun h => absurd h hk⟩
    · rwa [hu, State.elapseNs_past hpast] at hfinal
    · rw [hrail, if_pos rfl]
    · rw [hrail, if_neg hj]

theorem railSettled_late (hslew : r.slewing = false) :
    ∃ s', exec (.railSettled k mv) s = .next s' ∧ Only [.time, .cyc, .pavs, .tally, .power, .energy] s s' ∧
      (r.since + cdiv ((max r.target r.readback - min r.target r.readback) * 1000) (s.railSlew k) + 10000 ≤ s.cyc.ns →
        Only [.power, .energy] s s') ∧ s'.rail k = { r with readback := mv, done := true } ∧
      (∀ j, j ≠ k.val → s'.rail j = s.rail j) ∧ s'.power.vf = s.power.vf := by
  obtain ⟨u, hu, w, hw, hexec⟩ := exec_railSettled hr hdone hlow hhigh
  rw [if_neg (by simp [hslew])] at hexec
  have helapse : Only [.time, .cyc, .pavs, .tally] s u := hu ▸ s.elapseNs_only _
  have hread : Only [.power, .energy] u w := hw ▸ u.readRail_only _ _
  refine ⟨w, hexec, (helapse.mono (by decide)).trans (hread.mono (by decide)), fun hpast => ?_, ?_, fun j hj => ?_, ?_⟩
  · rwa [hu, State.elapseNs_past hpast] at hread
  · rw [hw, State.rail_readRail, if_pos rfl, ← hslew]
    cases r
    simp at hslew
    simp [hslew]
  · rw [hw, State.rail_readRail, if_neg hj, State.rail_congr (congrArg Power.rails (helapse.power.resolve_left (by decide)))]
  · rw [hw, State.vf_readRail, helapse.power.resolve_left (by decide)]

end

end Sys2Proof.Machine
end

section
/-! PROOF. A rail that does not settle, ageing and the droop guard (17 R476, R477, R480; 19 R532). -/

namespace Sys2Proof.Machine
open Sys2Proof.Safety

/-! ### RAIL_TIMEOUT (17 R480) -/

theorem State.pointFor_congr {s t : State} (h : ∀ p, t.vReq p = s.vReq p) (mv : Nat) : t.pointFor mv = s.pointFor mv := by
  simp [State.pointFor, h]

theorem State.pointFor_of_highest {s : State} {mv p : Nat} (hp : p < 16) (hle : s.vReq p ≤ mv) (hmax : ∀ q, p < q → q < 16 → mv < s.vReq q) :
    s.pointFor mv = some p := by
  have hsplit : List.range 16 = List.range p ++ p :: List.range' (p + 1) (15 - p) := by
    have happend := List.range'_append (s := 0) (m := p) (n := 15 - p + 1) (step := 1)
    rw [List.range_eq_range', List.range_eq_range', show (16 : Nat) = p + (15 - p + 1) by omega, ← happend, List.range'_succ]
    simp
  have hnone : (List.range' (p + 1) (15 - p)).filter (fun k => decide (s.vReq k ≤ mv)) = [] := by
    rw [List.filter_eq_nil_iff]
    intro q hq
    have hlt := hmax q
    rw [List.mem_range'_1] at hq
    simp only [decide_eq_true_eq]
    omega
  unfold State.pointFor
  rw [hsplit, List.filter_append, List.filter_cons_of_pos (by simpa using hle), hnone, List.getLast?_concat]

theorem State.pointFor_of_none {s : State} {mv : Nat} (h : ∀ q, q < 16 → mv < s.vReq q) : s.pointFor mv = none := by
  unfold State.pointFor
  rw [List.getLast?_eq_none_iff, List.filter_eq_nil_iff]
  intro q hq
  simpa using h q (List.mem_range.1 hq)

/-- Rail 0 has not settled: the point stays within what its voltage bears, or the chip is in FAULT. -/
def State.railDown (s : State) (mv : Nat) : State :=
  match s.pointFor mv with
  | some p => { s with power := { s.power with vfCeil := p, vf := min s.power.vf p } }
  | none =>
    ({ s with power := { s.power with vfCeil := 0, vf := 0 }
              boot := { s.boot with causes := { s.boot.causes with rail := true } } } : State).syncChip

theorem State.railDown_spec (s : State) (mv : Nat) : Only [.power, .boot, .fns, .out] s (s.railDown mv) ∧
    (s.railDown mv).power.rails = s.power.rails ∧ (s.railDown mv).cyc = s.cyc ∧
    (∀ p, s.pointFor mv = some p → (s.railDown mv).power.vf = min s.power.vf p ∧ (s.railDown mv).power.vfCeil = p) ∧
    (s.pointFor mv = none → (s.railDown mv).power.vf = 0 ∧ (s.railDown mv).boot.causes.rail = true ∧ (s.railDown mv).chipState = 5) := by
  unfold State.railDown
  cases hpoint : s.pointFor mv with
  | some p => exact ⟨only_iff_mask.2 rfl, rfl, rfl, fun q hq => by cases hq; exact ⟨rfl, rfl⟩, nofun⟩
  | none =>
    dsimp only
    obtain ⟨t, ht⟩ : ∃ t : State, t = { s with
      power := { s.power with vfCeil := 0, vf := 0 }
      boot := { s.boot with causes := { s.boot.causes with rail := true } } } := ⟨_, rfl⟩
    rw [← ht]
    have hfirst : Only [.power, .boot, .fns, .out] s t := ht ▸ only_iff_mask.2 rfl
    have hsync := t.syncChip_spec.1.only
    obtain ⟨x, hx⟩ := t.syncChip_boot
    have hpower := hsync.power.resolve_left (by decide)
    have hcause : t.syncChip.boot.causes.rail = true := by rw [hx, ht]
    refine ⟨hfirst.trans (hsync.mono (by decide)), by rw [hpower, ht], (hsync.cyc.resolve_left (by decide)).trans (by rw [ht]), nofun,
      fun _ => ⟨by rw [hpower, ht], hcause, ?_⟩⟩
    simp [State.chipState, State.faulted, hcause]

theorem railTimeout_stays {s : State} {k : Fin 3} {mv : Nat} {r : Rail} (hr : Sparse.find s.power.rails k = some r)
    (hslew : r.slewing = false) : exec (.railTimeout k mv) s = .next s := by
  change Host.Outcome.next _ = _
  rw [State.rail_of_find hr, if_pos (by simp [hslew])]

section
variable {s : State} {k : Fin 3} {mv : Nat} {r : Rail} (hr : Sparse.find s.power.rails k = some r) (hslew : r.slewing = true)
include hr hslew

/-- A rail that does not settle is read when its time is over, recorded and raised. -/
theorem exec_railTimeout : ∃ u, u = s.elapseNs (r.since + cdiv ((max r.target r.readback - min r.target r.readback) * 1000) (s.railSlew k) + 100000) ∧
    ∃ w, w = u.readRail k { r with readback := mv, since := u.cyc.ns, slewing := false, fault := true } ∧
    ∃ v, v = (w.logRec 0x0042 k 2 none (r.target + mv * 65536)).raise 0 6 ∧
    exec (.railTimeout k mv) s = .next (if k.val ≠ 0 then v else v.railDown mv) := by
  refine ⟨_, rfl, _, rfl, _, rfl, ?_⟩
  change Host.Outcome.next _ = _
  rw [State.rail_of_find hr, if_neg (by simp [hslew])]
  rfl

theorem railTimeout_faults :
    ∃ s', exec (.railTimeout k mv) s = .next s' ∧ Only [.time, .cyc, .pavs, .tally, .power, .energy, .log, .boot, .fns, .out] s s' ∧
      (r.since + cdiv ((max r.target r.readback - min r.target r.readback) * 1000) (s.railSlew k) + 100000 ≤ s.cyc.ns →
        Only [.power, .energy, .log, .boot, .fns, .out] s s') ∧
      s'.rail k = { r with readback := mv, since := s'.cyc.ns, slewing := false, fault := true } ∧ (∀ j, j ≠ k.val → s'.rail j = s.rail j) ∧
      (k.val ≠ 0 → s'.power.vf = s.power.vf) ∧
      (∀ p, k.val = 0 → p < 16 → s.vReq p ≤ mv → (∀ q, p < q → q < 16 → mv < s.vReq q) → s'.power.vf = min s.power.vf p ∧ s'.power.vfCeil = p) ∧
      (k.val = 0 → (∀ q, q < 16 → mv < s.vReq q) → s'.power.vf = 0 ∧ s'.boot.causes.rail = true ∧ s'.chipState = 5) := by
  obtain ⟨u, hu, w, hw, v, hv, hexec⟩ := exec_railTimeout hr hslew
  have helapse : Only [.time, .cyc, .pavs, .tally] s u := hu ▸ s.elapseNs_only _
  have hread : Only [.power, .energy] u w := hw ▸ u.readRail_only _ _
  have hrec : Only [.log, .fns, .out] w v := hv ▸ (w.logRec_tells ..).only.trans ((State.raise_tells ..).only.mono (by decide))
  have hvp : v.power = w.power := hrec.power.resolve_left (by decide)
  have hrail : ∀ j, v.rail j = if j = k.val then { r with readback := mv, since := u.cyc.ns, slewing := false, fault := true } else s.rail j := fun j => by
    rw [State.rail_congr (congrArg Power.rails hvp), hw, State.rail_readRail,
      State.rail_congr (congrArg Power.rails (helapse.power.resolve_left (by decide)))]
  have hcyc : v.cyc = u.cyc := (hrec.cyc.resolve_left (by decide)).trans (hread.cyc.resolve_left (by decide))
  have hvf : v.power.vf = s.power.vf := by rw [hvp, hw, State.vf_readRail, helapse.power.resolve_left (by decide)]
  have hup : Only [.power, .energy, .log, .boot, .fns, .out] u v := (hread.mono (by decide)).trans (hrec.mono (by decide))
  have hreq : ∀ p, v.vReq p = s.vReq p := by
    have hsame : w.power = { s.power with rails := w.power.rails } := by rw [hw, ← helapse.power.resolve_left (by decide)]; rfl
    refine State.vReq_congr ?_ ?_ ((hup.objs.resolve_left (by decide)).trans (helapse.objs.resolve_left (by decide)))
    · rw [hvp, hsame]
    · rw [hvp, hsame]
  have hpoint := State.pointFor_congr hreq mv
  -- What holds of a state that differs from `v` as the fall of rail 0 does.
  have hall : ∀ t, Only [.power, .boot, .fns, .out] v t → t.power.rails = v.power.rails → t.cyc = v.cyc →
      Only [.time, .cyc, .pavs, .tally, .power, .energy, .log, .boot, .fns, .out] s t ∧
      (r.since + cdiv ((max r.target r.readback - min r.target r.readback) * 1000) (s.railSlew k) + 100000 ≤ s.cyc.ns →
        Only [.power, .energy, .log, .boot, .fns, .out] s t) ∧
      t.rail k = { r with readback := mv, since := t.cyc.ns, slewing := false, fault := true } ∧ (∀ j, j ≠ k.val → t.rail j = s.rail j) := by
    intro t hdown hrails ht
    have hfinal : Only [.power, .energy, .log, .boot, .fns, .out] u t := hup.trans (hdown.mono (by decide))
    refine ⟨(helapse.mono (by decide)).trans (hfinal.mono (by decide)), fun hpast => ?_, ?_, fun j hj => ?_⟩
    · rwa [hu, State.elapseNs_past hpast] at hfinal
    · rw [State.rail_congr hrails, hrail, if_pos rfl, ht, hcyc]
    · rw [State.rail_congr hrails, hrail, if_neg hj]
  by_cases hk : k.val = 0
  · rw [if_neg (by simpa using hk)] at hexec
    obtain ⟨hdown, hrails, ht, hsome, hnone⟩ := v.railDown_spec mv
    obtain ⟨honly, hpast, hself, hothers⟩ := hall _ hdown hrails ht
    refine ⟨_, hexec, honly, hpast, hself, hothers, fun h => absurd hk h, fun p _ hp hle hmax => ?_, fun _ hno => ?_⟩
    · rw [← hvf]
      exact hsome p (hpoint.trans (State.pointFor_of_highest hp hle hmax))
    · exact hnone (hpoint.trans (State.pointFor_of_none hno))
  · rw [if_pos hk] at hexec
    obtain ⟨honly, hpast, hself, hothers⟩ := hall v (.refl _ v) rfl rfl
    exact ⟨v, hexec, honly, hpast, hself, hothers, fun _ => hvf, fun _ h => absurd h hk, fun h => absurd h hk⟩

end

/-! ### Ageing (17 R476) -/

/-- Rail `k` follows its target. -/
def State.aimFixed (s : State) (k : Nat) : State := if (s.rail k).target = s.fixedTarget k then s else s.retarget k (s.fixedTarget k)

theorem State.aimFixed_spec (s : State) (k : Nat) : Aimed s (s.aimFixed k) ∧ ((s.aimFixed k).rail k).target = s.fixedTarget k ∧
    ∀ j, j ≠ k → (s.aimFixed k).rail j = s.rail j := by
  unfold State.aimFixed
  by_cases h : (s.rail k).target = s.fixedTarget k
  · rw [if_pos h]
    exact ⟨.refl s, h, fun _ _ => rfl⟩
  · rw [if_neg h]
    exact ⟨s.retarget_aimed _ _, by rw [State.rail_retarget, if_pos rfl], fun j hj => by rw [State.rail_retarget, if_neg hj]⟩

theorem State.aimRails_eq (s : State) : s.aimRails = (s.aimVf.aimFixed 1).aimFixed 2 := by
  unfold State.aimRails
  generalize s.aimVf = t
  change [1, 2].foldl State.aimFixed t = _
  rw [List.foldl_cons, List.foldl_cons, List.foldl_nil]

theorem State.aimRails_spec (s : State) : Aimed s s.aimRails ∧ (s.aimRails.rail 0).target = s.vReq s.vfGoal ∧
    (s.aimRails.rail 1).target = s.fixedTarget 1 ∧ (s.aimRails.rail 2).target = s.fixedTarget 2 := by
  obtain ⟨haim, -, htarget, -, -⟩ := s.aimVf_spec
  obtain ⟨haim1, htarget1, hrest1⟩ := s.aimVf.aimFixed_spec 1
  obtain ⟨haim2, htarget2, hrest2⟩ := (s.aimVf.aimFixed 1).aimFixed_spec 2
  rw [s.aimRails_eq]
  generalize s.aimVf = t at *
  refine ⟨haim.trans (haim1.trans haim2), ?_, ?_, ?_⟩
  · rw [hrest2 0 (by decide), hrest1 0 (by decide), htarget]
  · rw [hrest2 1 (by decide), htarget1, haim.fixedTarget]
  · rw [htarget2, haim1.fixedTarget, haim.fixedTarget]

theorem vfAgingUpdate_follows {s : State} (hpower : s.boot.pwrgood = true) :
    ∃ s', exec .vfAgingUpdate s = .next s' ∧ s'.cyc.ns = 3600000000000 * (s.cyc.ns / 3600000000000 + 1) ∧
      s'.power.hours = (s.power.hours + 1) % 2 ^ 32 ∧ s'.power.aging = min 30 (2 * (s'.power.hours / 5000)) ∧
      (s'.power.aging ≠ s.power.aging → (s'.rail 0).target = s'.vReq s'.vfGoal ∧ (s'.rail 1).target = s'.fixedTarget 1 ∧
        (s'.rail 2).target = s'.fixedTarget 2) ∧ s'.objs = s.objs ∧ s'.cores = s.cores ∧ s'.mem = s.mem := by
  obtain ⟨u, hu⟩ : ∃ u, u = s.elapseNs (hourNs * (s.cyc.ns / hourNs + 1)) := ⟨_, rfl⟩
  obtain ⟨w, hw⟩ : ∃ w : State, w = { u with
    power := { u.power with hours := (u.power.hours + 1) % 2 ^ 32, aging := agingMv ((u.power.hours + 1) % 2 ^ 32) } } := ⟨_, rfl⟩
  have hexec : exec .vfAgingUpdate s = .next (if w.power.aging = u.power.aging then w else w.aimRails) := by
    change Host.Outcome.next _ = _
    rw [if_neg (by simp [hpower]), hw, hu]
  have helapse : Only [.time, .cyc, .pavs, .tally] s u := hu ▸ s.elapseNs_only _
  have hup : u.power = s.power := helapse.power.resolve_left (by decide)
  have hns : w.cyc.ns = 3600000000000 * (s.cyc.ns / 3600000000000 + 1) := by
    rw [hw]
    change u.cyc.ns = _
    rw [hu, State.ns_elapseNs hpower, hourNs]
    omega
  have hhours : w.power.hours = (s.power.hours + 1) % 2 ^ 32 := by rw [hw, ← hup]
  have haging : w.power.aging = min 30 (2 * (w.power.hours / 5000)) := by rw [hw]; rfl
  have hobjs : w.objs = s.objs := by rw [hw]; exact helapse.objs.resolve_left (by decide)
  have hcores : w.cores = s.cores := by rw [hw]; exact helapse.cores.resolve_left (by decide)
  have hmem : w.mem = s.mem := by rw [hw]; exact helapse.mem.resolve_left (by decide)
  by_cases hold : w.power.aging = u.power.aging
  · rw [if_pos hold] at hexec
    exact ⟨w, hexec, hns, hhours, haging, fun h => absurd (hold.trans (by rw [hup])) h, hobjs, hcores, hmem⟩
  · rw [if_neg hold] at hexec
    obtain ⟨haim, htarget0, htarget1, htarget2⟩ := w.aimRails_spec
    have hage : w.aimRails.power.aging = w.power.aging := haim.field Power.aging fun _ _ _ => rfl
    have hhour : w.aimRails.power.hours = w.power.hours := haim.field Power.hours fun _ _ _ => rfl
    refine ⟨_, hexec, (congrArg Cycles.ns haim.cyc).trans hns, hhour.trans hhours, by rw [hage, haging, hhour], fun _ => ⟨?_, ?_, ?_⟩,
      haim.objs.trans hobjs, (haim.tells.only.cores.resolve_left (by decide)).trans hcores,
      (haim.tells.only.mem.resolve_left (by decide)).trans hmem⟩
    · rw [htarget0, haim.vReq, haim.vfGoal]
    · rw [htarget1, haim.fixedTarget]
    · rw [htarget2, haim.fixedTarget]

/-! ### The droop guard (17 R477; 19 R532) -/

/-- The droops of a frame are taken down, and the largest joins those of the last 16 frames. -/
def State.droopRead (s : State) (peaks : List (Option Nat)) : State :=
  { s with
    energy := Energy.readings 1 (fun e i v => { e with droop := Sparse.put e.droop i v }) s.energy 0 (peaks.take 144)
    power := { s.power with droops := (((peaks.take 144).map (fun x => x.getD 0)).foldl max 0 :: s.power.droops).take 16 } }

theorem State.droopRead_only (s : State) (peaks : List (Option Nat)) : Only [.power, .energy, .out] s (s.droopRead peaks) :=
  only_iff_mask.2 rfl

theorem Energy.readings_droop (l : List (Option Nat)) {i v : Nat} (hi : i < 144) (hv : l[i]? = some (some v)) (e : Energy) :
    Sparse.getD (Energy.readings 1 (fun e i v => { e with droop := Sparse.put e.droop i v }) e 0 (l.take 144)).droop i 0 = v := by
  have hget := Energy.readings_get (cls := 1) (store := fun e i v => { e with droop := Sparse.put e.droop i v })
    (fun (e : Energy) j => Sparse.getD e.droop j 0) id (fun e i v j => Sparse.getD_put e.droop i v 0 j)
    (fun e k b j => by
      obtain ⟨m, f, h⟩ := e.seen_eq k b
      rw [h])
    (l.take 144) (by rw [List.getElem?_take_of_lt hi, hv]) e 0
  rw [Nat.zero_add] at hget
  exact hget

/-- What the guard follows once the clock has run for 2^20 cycles. -/
def State.droopGuarded (s : State) (g : Nat) : State := if g = s.power.droopG then s else ({ s with power := { s.power with droopG := g } }).aimVf

theorem State.droopGuarded_spec (s : State) (g : Nat) : Only [.power, .out] s (s.droopGuarded g) ∧ (s.droopGuarded g).energy = s.energy ∧
    (s.droopGuarded g).power.droops = s.power.droops ∧ (s.droopGuarded g).power.droopG = g := by
  unfold State.droopGuarded
  split
  · next h => exact ⟨.refl _ s, rfl, rfl, h.symm⟩
  · obtain ⟨t, ht⟩ : ∃ t : State, t = { s with power := { s.power with droopG := g } } := ⟨_, rfl⟩
    rw [← ht]
    have haim := t.aimVf_aimed
    have hfirst : Only [.power, .out] s t := ht ▸ only_iff_mask.2 rfl
    have hdroops : t.aimVf.power.droops = t.power.droops := haim.field Power.droops fun _ _ _ => rfl
    have hguard : t.aimVf.power.droopG = t.power.droopG := haim.field Power.droopG fun _ _ _ => rfl
    refine ⟨hfirst.trans haim.tells.only, haim.energy.trans (by rw [ht]), hdroops.trans (by rw [ht]), hguard.trans (by rw [ht])⟩

theorem exec_droopGuardUpdate (s : State) (peaks : List (Option Nat)) : ∃ t, t = s.droopRead peaks ∧
    exec (.droopGuardUpdate peaks) s =
      .next (if s.power.clockOn = true ∧ s.boot.clkStart + 1048576 ≤ s.cyc.cycles then t.droopGuarded (min 15 (t.power.droops.foldl max 0 - 20))
        else t) := by
  refine ⟨_, rfl, ?_⟩
  have hread : s.droopRead peaks = { s with
      energy := Energy.readings 1 (fun e i v => { e with droop := Sparse.put e.droop i v }) s.energy 0 (peaks.take 144)
      power := { s.power with droops := ((peaks.take 144).foldl (fun a x => max a (x.getD 0)) 0 :: s.power.droops).take 16 } } := by
    rw [State.droopRead, List.foldl_map]
  rw [hread]
  change Host.Outcome.next _ = _
  by_cases h : s.power.clockOn = true ∧ s.boot.clkStart + 1048576 ≤ s.cyc.cycles
  · rw [if_pos h]
    exact congrArg Host.Outcome.next (if_pos (by simpa using h))
  · rw [if_neg h]
    exact congrArg Host.Outcome.next (if_neg (by simpa using h))

theorem droopGuardUpdate_follows (s : State) (peaks : List (Option Nat)) :
    ∃ s', exec (.droopGuardUpdate peaks) s = .next s' ∧ Only [.power, .energy, .out] s s' ∧
      (∀ i v, i < 144 → peaks[i]? = some (some v) → Sparse.getD s'.energy.droop i 0 = v) ∧
      s'.power.droops = (((peaks.take 144).map (fun x => x.getD 0)).foldl max 0 :: s.power.droops).take 16 ∧
      (s.power.clockOn = true → s.boot.clkStart + 1048576 ≤ s.cyc.cycles → s'.power.droopG = min 15 (s'.power.droops.foldl max 0 - 20)) ∧
      (s.power.clockOn = false ∨ s.cyc.cycles < s.boot.clkStart + 1048576 → s'.power.droopG = s.power.droopG ∧ s'.out = s.out) := by
  obtain ⟨t, ht, hexec⟩ := exec_droopGuardUpdate s peaks
  have hread : Only [.power, .energy, .out] s t := ht ▸ s.droopRead_only peaks
  have hdroop : ∀ i v, i < 144 → peaks[i]? = some (some v) → Sparse.getD t.energy.droop i 0 = v := fun i v hi hv => by
    rw [ht]
    exact Energy.readings_droop peaks hi hv _
  have hdroops : t.power.droops = (((peaks.take 144).map (fun x => x.getD 0)).foldl max 0 :: s.power.droops).take 16 := by rw [ht]; rfl
  by_cases h : s.power.clockOn = true ∧ s.boot.clkStart + 1048576 ≤ s.cyc.cycles
  · rw [if_pos h] at hexec
    obtain ⟨honly, henergy, hkept, hguard⟩ := t.droopGuarded_spec (min 15 (t.power.droops.foldl max 0 - 20))
    refine ⟨_, hexec, hread.trans (honly.mono (by decide)), fun i v hi hv => ?_, hkept.trans hdroops, fun _ _ => ?_, fun hno => ?_⟩
    · rw [henergy]
      exact hdroop i v hi hv
    · rw [hkept]
      exact hguard
    · obtain ⟨hon, hcyc⟩ := h
      rcases hno with hoff | hlt
      · exact absurd (hon.symm.trans hoff) (by decide)
      · omega
  · rw [if_neg h] at hexec
    exact ⟨t, hexec, hread, hdroop, hdroops, fun hon hcyc => absurd ⟨hon, hcyc⟩ h, fun _ => by rw [ht]; exact ⟨rfl, rfl⟩⟩

/-- Settles O49: the clock waits for rail 0 on the way up, and each rail stands or falls by what it is read as. -/
theorem railsAndPoints : Obligations.RailsAndPoints := by
  unfold Obligations.RailsAndPoints
  exact ⟨fun s who v g => vfPointWrite_follows,
    fun s k mv r hr => ⟨railSettled_stays hr, railSettled_first hr, railSettled_late hr, railTimeout_faults hr, railTimeout_stays hr⟩,
    fun s => vfAgingUpdate_follows, droopGuardUpdate_follows⟩

end Sys2Proof.Machine
end

section
/-! PROOF. The watchdog, the log, sensors, alerts, keys and SPDM (20 R544 to R561). -/

namespace Sys2Proof.Machine
open Sys2Proof.Safety

/-! ### Ends of requesters (03 R78, R83) -/

/-- `t` is `s` with some requesters ended, `l` among them. -/
structure Ended (l : List Nat) (s t : State) : Prop where
  only : Only [.fw, .reqs] s t
  restarts : t.fw.restarts = s.fw.restarts
  freed : ∀ k, k ∈ l ∨ ((s.req k).latch = none ∧ (s.req k).staging = none) → (t.req k).latch = none ∧ (t.req k).staging = none

theorem Ended.refl (s : State) : Ended [] s s := ⟨.refl _ s, rfl, fun _ h => h.resolve_left (by simp)⟩

theorem Ended.trans {l m : List Nat} {s t u : State} (h : Ended l s t) (g : Ended m t u) : Ended (l ++ m) s u where
  only := h.only.trans g.only
  restarts := g.restarts.trans h.restarts
  freed k hk := by
    rcases hk with hmem | hnone
    · rcases List.mem_append.1 hmem with hl | hm
      · exact g.freed k (.inr (h.freed k (.inl hl)))
      · exact g.freed k (.inl hm)
    · exact g.freed k (.inr (h.freed k (.inr hnone)))

theorem State.endRequester_ended (s : State) (k : Nat) : Ended [k] s (s.endRequester k) := by
  unfold State.endRequester
  extract_lets t
  obtain ⟨hclaim, hrestarts⟩ : Only [.fw] s t ∧ t.fw.restarts = s.fw.restarts := by
    unfold t
    split
    · exact ⟨only_iff_mask.2 rfl, rfl⟩
    · exact ⟨.refl _ s, rfl⟩
  have hreq : ∀ j, t.req j = s.req j := State.req_congr (hclaim.reqs.resolve_left (by decide))
  clear_value t
  refine ⟨(hclaim.mono (by decide)).trans (only_iff_mask.2 rfl), hrestarts, fun j hj => ?_⟩
  rw [State.updReq_eq, State.req_setReq]
  split
  · exact ⟨rfl, rfl⟩
  · next hne =>
    rw [hreq]
    exact hj.resolve_left (by simpa using hne)

theorem ended_foldl (l : List Nat) (s : State) : Ended l s (l.foldl (fun s k => s.endRequester k) s) := by
  induction l generalizing s with
  | nil => exact .refl s
  | cons k l ih => exact (s.endRequester_ended k).trans (ih _)

/-! ### Sessions (03 R89) -/

/-- `t` is `s` with the sessions of `l` closed: no other session is touched, and nothing of them is held any more. -/
structure Closed (l : List Nat) (s t : State) : Prop where
  tells : Tells [.dict, .reqs, .fw, .out] s t
  restarts : t.fw.restarts = s.fw.restarts
  queue : ∀ q ∈ t.dict.queue, q ∈ s.dict.queue
  shut : ∀ k ∈ l, (t.sess k).isOpen = false ∧ ((s.sess k).isOpen = true → t.heldReqs (18 + k) = [])
  others : ∀ k, k ∉ l → t.sess k = s.sess k

theorem State.sess_setSess (s : State) (k : Nat) (v : Session) (j : Nat) : (s.setSess k v).sess j = if j = k then v else s.sess j :=
  Sparse.getD_put ..

theorem State.closeSession_closed (s : State) (k : Nat) : Closed [k] s (s.closeSession k) := by
  unfold State.closeSession
  by_cases hopen : (s.sess k).isOpen = true
  · rw [if_pos hopen]
    have hended := (s.setSess k {}).endRequester_ended (18 + k)
    have hdict : ((s.setSess k {}).endRequester (18 + k)).dict = (s.setSess k {}).dict := hended.only.dict.resolve_left (by decide)
    have hout : ((s.setSess k {}).endRequester (18 + k)).out = s.out := hended.only.out.resolve_left (by decide)
    have honly : Only [.dict, .reqs, .fw, .out] s ((s.setSess k {}).endRequester (18 + k)) :=
      (only_iff_mask.2 (mask_dict s (by decide) _)).trans (hended.only.mono (by decide))
    have hrestarts : ((s.setSess k {}).endRequester (18 + k)).fw.restarts = s.fw.restarts := hended.restarts
    generalize (s.setSess k {}).endRequester (18 + k) = u at hdict hout honly hrestarts
    have hsess : ∀ j, (((({ u.cancelHeld (18 + k) with dict := { (u.cancelHeld (18 + k)).dict with
        subs := (u.cancelHeld (18 + k)).dict.subs.filter (fun x => x.sess ≠ k) } } : State).emit (.mopClose k)).sess j)) =
        if j = k then {} else s.sess j := fun j => by
      rw [← s.sess_setSess]
      change Sparse.getD u.dict.sessions j {} = Sparse.getD (s.setSess k {}).dict.sessions j {}
      rw [hdict]
    have hqueue : u.dict.queue = s.dict.queue := by rw [hdict]; rfl
    refine ⟨⟨honly.trans (only_iff_mask.2 rfl), ?_⟩, hrestarts, fun q hq => ?_, fun j hj => ?_, fun j hj => ?_⟩
    · rw [← hout]
      exact List.prefix_append _ _
    · rw [← hqueue]
      exact List.mem_of_mem_filter hq
    · rw [List.mem_singleton.1 hj, hsess, if_pos rfl]
      refine ⟨rfl, fun _ => ?_⟩
      change (u.dict.queue.filter fun q => q.req.who ≠ 18 + k).filter (fun q => q.req.who = 18 + k) = []
      simp [List.filter_filter]
    · rw [hsess, if_neg (by simpa using hj)]
  · rw [if_neg hopen]
    refine ⟨.refl _ s, rfl, fun _ h => h, fun j hj => ?_, fun _ _ => rfl⟩
    rw [List.mem_singleton.1 hj]
    exact ⟨by simpa using hopen, fun h => absurd h hopen⟩

/-- Requests that are not there are not held later, when no request joins. -/
theorem State.heldReqs_of_subset {s t : State} {k : Nat} (hsub : ∀ q ∈ t.dict.queue, q ∈ s.dict.queue) (h : s.heldReqs k = []) :
    t.heldReqs k = [] := by
  unfold State.heldReqs at h ⊢
  rw [List.filter_eq_nil_iff] at h ⊢
  exact fun q hq => h q (hsub q hq)

theorem closed_foldl (l : List Nat) (s : State) : Closed l s (l.foldl (fun s k => s.closeSession k) s) := by
  induction l generalizing s with
  | nil => exact ⟨.refl _ s, rfl, fun _ h => h, by simp, fun _ _ => rfl⟩
  | cons x l ih =>
    have hx := s.closeSession_closed x
    have hl := ih (s.closeSession x)
    rw [List.foldl_cons]
    generalize s.closeSession x = u at hx hl
    generalize l.foldl (fun s k => s.closeSession k) u = t at hl
    refine ⟨hx.tells.trans hl.tells, hl.restarts.trans hx.restarts, fun q hq => hx.queue q (hl.queue q hq), fun k hk => ?_, fun k hk => ?_⟩
    · by_cases hkx : k = x
      · subst hkx
        obtain ⟨hshut, hheld⟩ := hx.shut k (by simp)
        refine ⟨?_, fun hopen => State.heldReqs_of_subset hl.queue (hheld hopen)⟩
        by_cases hmem : k ∈ l
        · exact (hl.shut k hmem).1
        · rw [hl.others k hmem, hshut]
      · rw [← hx.others k (by simpa using hkx)]
        exact hl.shut k ((List.mem_cons.1 hk).resolve_left hkx)
    · rw [List.mem_cons, not_or] at hk
      rw [hl.others k hk.2, hx.others k (by simpa using hk.1)]

/-! ### Watchdog and restart (20 R544) -/

/-- Machenil goes down, and the third time in 10 s the chip is in FAULT. -/
def State.watchdogDown (s : State) (cause : Nat) (rs : List Nat) : State :=
  let s := { s with fw := { s.fw with down := true, restartCause := cause, restarts := rs } }
  if 3 ≤ rs.length then ({ s with boot := { s.boot with causes := { s.boot.causes with mgmt := true } } }).syncChip else s

theorem State.watchdogDown_spec (s : State) (cause : Nat) (rs : List Nat) : Only [.fw, .boot, .fns, .out] s (s.watchdogDown cause rs) ∧
    (s.watchdogDown cause rs).fw.down = true ∧ (s.watchdogDown cause rs).fw.restarts = rs ∧
    (3 ≤ rs.length → (s.watchdogDown cause rs).boot.causes.mgmt = true ∧ (s.watchdogDown cause rs).chipState = 5) ∧
    (rs.length < 3 → (s.watchdogDown cause rs).boot = s.boot) := by
  unfold State.watchdogDown
  by_cases hmany : 3 ≤ rs.length
  · dsimp only
    rw [if_pos hmany]
    obtain ⟨t, ht⟩ : ∃ t : State, t = { s with
      fw := { s.fw with down := true, restartCause := cause, restarts := rs }
      boot := { s.boot with causes := { s.boot.causes with mgmt := true } } } := ⟨_, rfl⟩
    rw [← ht]
    have hfirst : Only [.fw, .boot, .fns, .out] s t := ht ▸ only_iff_mask.2 rfl
    have hsync := t.syncChip_spec.1.only
    obtain ⟨x, hx⟩ := t.syncChip_boot
    have hfw : t.syncChip.fw = t.fw := hsync.fw.resolve_left (by decide)
    have hcause : t.syncChip.boot.causes.mgmt = true := by rw [hx, ht]
    refine ⟨hfirst.trans (hsync.mono (by decide)), by rw [hfw, ht], by rw [hfw, ht], fun _ => ⟨hcause, ?_⟩, fun h => by omega⟩
    simp [State.chipState, State.faulted, hcause]
  · dsimp only
    rw [if_neg hmany]
    exact ⟨only_iff_mask.2 rfl, rfl, rfl, fun h => absurd h hmany, fun _ => rfl⟩

theorem watchdogExpiry_stays {s : State} (sram : Bool) (h : s.boot.phase = 0 ∨ s.fw.down = true) :
    exec (.watchdogExpiry sram) s = .next s := by
  change Host.Outcome.next _ = _
  rw [if_pos (by simpa using h)]

theorem watchdogExpiry_ends {s : State} (sram : Bool) (hphase : s.boot.phase ≠ 0) (hup : s.fw.down = false) :
    ∃ s', exec (.watchdogExpiry sram) s = .next s' ∧ Only [.dict, .reqs, .fw, .boot, .fns, .out] s s' ∧
      s'.fw.down = true ∧ (∀ k, k < 8 → (s'.sess k).isOpen = false ∧ ((s.sess k).isOpen = true → s'.heldReqs (18 + k) = [])) ∧
      (∀ k, k < 18 → (s'.req k).latch = none ∧ (s'.req k).staging = none) ∧
      s'.fw.restarts = s.cyc.ns :: s.fw.restarts.filter (fun t => decide (s.cyc.ns < t + 10000000000)) ∧
      (3 ≤ s'.fw.restarts.length → s'.boot.causes.mgmt = true ∧ s'.chipState = 5) ∧
      (s'.fw.restarts.length < 3 → s'.boot = s.boot) := by
  obtain ⟨u, hu⟩ : ∃ u, u = s.closeAll := ⟨_, rfl⟩
  obtain ⟨w, hw⟩ : ∃ w, w = (List.range 18).foldl (fun s k => s.endRequester k) u := ⟨_, rfl⟩
  have hexec : exec (.watchdogExpiry sram) s =
      .next (w.watchdogDown (b2n sram) (w.cyc.ns :: w.fw.restarts.filter (fun t => decide (w.cyc.ns < t + 10000000000)))) := by
    change Host.Outcome.next _ = _
    rw [if_neg (by simp [hphase, hup]), hw, hu]
    rfl
  have hclosed : Closed (List.range 8) s u := hu ▸ closed_foldl _ s
  have hended : Ended (List.range 18) u w := hw ▸ ended_foldl _ u
  have hfirst : Only [.dict, .reqs, .fw, .out] s w := hclosed.tells.only.trans (hended.only.mono (by decide))
  have hrestarts : w.fw.restarts = s.fw.restarts := hended.restarts.trans hclosed.restarts
  rw [hrestarts, congrArg Cycles.ns (hfirst.cyc.resolve_left (by decide))] at hexec
  generalize s.cyc.ns :: s.fw.restarts.filter (fun t => decide (s.cyc.ns < t + 10000000000)) = rs at hexec
  obtain ⟨hdown, hfw, hnew, hmany, hfew⟩ := w.watchdogDown_spec (b2n sram) rs
  generalize w.watchdogDown (b2n sram) rs = t at *
  have hdict : t.dict = u.dict := (hdown.dict.resolve_left (by decide)).trans (hended.only.dict.resolve_left (by decide))
  have hboot : w.boot = s.boot := hfirst.boot.resolve_left (by decide)
  refine ⟨t, hexec, (hfirst.mono (by decide)).trans (hdown.mono (by decide)), hfw, fun k hk => ?_, fun k hk => ?_, hnew,
    fun h => hmany (hnew ▸ h), fun h => (hfew (hnew ▸ h)).trans hboot⟩
  · have hshut := hclosed.shut k (List.mem_range.2 hk)
    unfold State.sess State.heldReqs at *
    rwa [hdict]
  · rw [State.req_congr (hdown.reqs.resolve_left (by decide))]
    exact hended.freed k (.inl (List.mem_range.2 hk))

theorem State.drainQueue_empty {s : State} (h : s.dict.queue = []) : s.drainQueue = s := by
  unfold State.drainQueue
  rw [h]
  change { s with dict := { s.dict with queue := [] } } = s
  rw [← h]

theorem mgmtRestartComplete_up {s : State} (hdown : s.fw.down = true) (hqueue : s.dict.queue = []) :
    ∃ s', exec .mgmtRestartComplete s = .next s' ∧ Only [.fw, .log, .fns, .dict, .out] s s' ∧ s'.fw = { s.fw with down := false } ∧
      s'.dict = s.dict := by
  obtain ⟨t, ht⟩ : ∃ t : State, t = { s with fw := { s.fw with down := false } } := ⟨_, rfl⟩
  have hlog := (t.logRec_tells 0x0062 0 2 none s.fw.restartCause).only
  have hrestarted : s.mgmtRestarted = t.logRec 0x0062 0 2 none s.fw.restartCause := by rw [ht]; rfl
  have hfirst : Only [.fw, .log, .fns, .dict, .out] s t := ht ▸ only_iff_mask.2 rfl
  have hdict : (t.logRec 0x0062 0 2 none s.fw.restartCause).dict = s.dict := (hlog.dict.resolve_left (by decide)).trans (by rw [ht])
  have hexec : exec .mgmtRestartComplete s = .next (t.logRec 0x0062 0 2 none s.fw.restartCause) := by
    change Host.Outcome.next _ = _
    rw [if_pos hdown, hrestarted, State.drainQueue_empty (by rw [hdict, hqueue])]
  exact ⟨_, hexec, hfirst.trans (hlog.mono (by decide)), (hlog.fw.resolve_left (by decide)).trans (by rw [ht]), hdict⟩

end Sys2Proof.Machine
end

section
/-! PROOF. The log, sensors, alerts, keys and SPDM (20 R547 to R561). -/

namespace Sys2Proof.Machine
open Sys2Proof.Safety

/-! ### The log (20 R548) -/

theorem LogSt.oldest_flush (l : LogSt) : l.flush.oldest = max l.oldest (128 * ((l.nextSeq - 1) / 128 + 1 - 513)) := rfl

theorem LogSt.recs_flush (l : LogSt) : l.flush.recs = l.recs.filter (fun r => decide (l.flush.oldest ≤ r.1)) := rfl

/-- What a list keeps by its numbers reads as before, and the rest reads as nothing. -/
theorem Sparse.find_filter_key {α : Type} (p : Nat → Bool) (m : Sparse α) (k : Nat) :
    Sparse.find (m.filter fun r => p r.1) k = if p k then Sparse.find m k else none := by
  induction m with
  | nil => exact (ite_self none).symm
  | cons r m ih =>
    obtain ⟨j, v⟩ := r
    by_cases hj : p j = true
    · rw [List.filter_cons_of_pos (by simpa using hj)]
      by_cases hjk : j = k
      · subst hjk
        simp [Sparse.find, hj]
      · simp only [Sparse.find, if_neg hjk]
        exact ih
    · rw [List.filter_cons_of_neg (by simpa using hj), ih]
      by_cases hjk : j = k
      · subst hjk
        simp [hj]
      · simp only [Sparse.find, if_neg hjk]

theorem logFlush_keeps {s : State} (hphase : s.boot.phase ≠ 0) (hup : s.fw.down = false) :
    ∃ s', exec .logFlush s = .next s' ∧ Only [.log] s s' ∧
      s'.log = { s.log with queued := 0, oldest := s'.log.oldest, recs := s'.log.recs } ∧ s.log.oldest ≤ s'.log.oldest ∧
      s.log.nextSeq ≤ s'.log.oldest + 128 * 513 ∧ (s.log.nextSeq ≤ 128 * 513 → s'.log.oldest = s.log.oldest) ∧
      (∀ q, s'.log.oldest ≤ q → Sparse.find s'.log.recs q = Sparse.find s.log.recs q) ∧
      ∀ q, q < s'.log.oldest → Sparse.find s'.log.recs q = none := by
  have hexec : exec .logFlush s = .next { s with log := s.log.flush } := by
    change Host.Outcome.next _ = _
    rw [if_neg (by simp [hphase, hup])]
  have hold := s.log.oldest_flush
  have hfind := fun q => (congrArg (fun m => Sparse.find m q) s.log.recs_flush).trans
    (Sparse.find_filter_key (fun k => decide (s.log.flush.oldest ≤ k)) s.log.recs q)
  refine ⟨_, hexec, only_iff_mask.2 (mask_log s (by decide) _), rfl, ?_, ?_, fun hfew => ?_, fun q hq => ?_, fun q hq => ?_⟩
  · rw [hold]
    exact le_max_left _ _
  · rw [hold]
    omega
  · rw [hold]
    omega
  · exact (hfind q).trans (if_pos (by simpa using hq))
  · exact (hfind q).trans (if_neg (by simpa using hq))

/-! ### Sensors (20 R547) -/

theorem bit_sum_flags (a b c d : Bool) (i : Fin 4) : bit (2 ^ 0 * b2n a + (2 ^ 1 * b2n b + (2 ^ 2 * b2n c + (2 ^ 3 * b2n d + 0)))) i =
    match i with
    | 0 => a
    | 1 => b
    | 2 => c
    | 3 => d := by
  revert a b c d i
  decide

theorem State.bit_sensorFault (s : State) (i : Fin 4) : bit s.sensorFault i = s.energy.flagged.any (fun k => k / 256 = i.val) := by
  have h := bit_sum_flags (s.energy.flagged.any fun k => k / 256 = 0) (s.energy.flagged.any fun k => k / 256 = 1)
    (s.energy.flagged.any fun k => k / 256 = 2) (s.energy.flagged.any fun k => k / 256 = 3) i
  refine Eq.trans (b := _) h ?_
  fin_cases i <;> rfl

theorem State.bit_alertStatus_sensors (s : State) : bit s.alertStatus 4 = !s.energy.flagged.isEmpty := by
  have hbits : ∀ a b c d e : Bool, bit (b2n a + 2 * b2n b + 4 * b2n c + 8 * b2n d + 16 * b2n e) 4 = e := by decide
  exact hbits ..

theorem sensorCount_le (c : Nat) : sensorCount c ≤ 144 := by
  unfold sensorCount
  split <;> decide

theorem sensorTimeout_flags {s : State} {c : Fin 4} {ix : Nat} (hphase : s.boot.phase ≠ 0) (hix : ix < sensorCount c)
    (hnew : 256 * c.val + ix ∉ s.energy.flagged) (hmiss : c.val = 3 ∨ 4 ≤ Sparse.getD s.energy.missed (256 * c.val + ix) 0) :
    ∃ s', exec (.sensorTimeout c ix) s = .next s' ∧ Only [.energy, .power, .log, .fns, .out] s s' ∧
      s'.energy.flagged = s.energy.flagged ++ [256 * c.val + ix] ∧ bit s'.sensorFault c = true ∧ bit s'.alertStatus 4 = true := by
  obtain ⟨t, ht⟩ : ∃ t : State, t = { s with energy := { s.energy with flagged := s.energy.flagged ++ [256 * c.val + ix] } } := ⟨_, rfl⟩
  have hexec : exec (.sensorTimeout c ix) s = .next (t.logRec 0x0067 0 2 none (c.val + 256 * ix)).thermEval := by
    change Host.Outcome.next _ = _
    have hskip : ¬ (sensorCount c ≤ ix || s.boot.phase = 0 || s.energy.flagged.contains (256 * c.val + ix)
        || (c.val ≠ 3 && Sparse.getD s.energy.missed (256 * c.val + ix) 0 < 4)) = true := by
      simp [hphase, hnew]
      omega
    rw [if_neg hskip, ht]
  have hfirst : Only [.energy, .power, .log, .fns, .out] s t := ht ▸ only_iff_mask.2 rfl
  have hlog := (t.logRec_tells 0x0067 0 2 none (c.val + 256 * ix)).only
  generalize t.logRec 0x0067 0 2 none (c.val + 256 * ix) = u at hexec hlog
  obtain ⟨heval, ⟨below, step, henergy⟩, -⟩ := u.thermEval_spec
  have hflagged : u.thermEval.energy.flagged = s.energy.flagged ++ [256 * c.val + ix] := by
    rw [henergy]
    change u.energy.flagged = _
    rw [hlog.energy.resolve_left (by decide), ht]
  refine ⟨_, hexec, hfirst.trans ((hlog.mono (by decide)).trans heval.only), hflagged, ?_, ?_⟩
  · have hcount := sensorCount_le c
    rw [State.bit_sensorFault, hflagged, List.any_append]
    simp
    omega
  · rw [State.bit_alertStatus_sensors, hflagged]
    simp

theorem sensorTimeout_stays {s : State} {c : Fin 4} {ix : Nat}
    (h : s.boot.phase = 0 ∨ sensorCount c ≤ ix ∨ 256 * c.val + ix ∈ s.energy.flagged) : exec (.sensorTimeout c ix) s = .next s := by
  change Host.Outcome.next _ = _
  have hskip : (sensorCount c ≤ ix || s.boot.phase = 0 || s.energy.flagged.contains (256 * c.val + ix)
      || (c.val ≠ 3 && Sparse.getD s.energy.missed (256 * c.val + ix) 0 < 4)) = true := by
    rcases h with h | h | h <;> simp [h]
  rw [if_pos hskip]

/-! ### Alerts and keys (20 R552, R555) -/

theorem State.applyWrite_alertAck (s : State) (who : Requester) (v : Nat) : s.applyWrite who 0x5030 8 v = s.alertAck v := rfl
theorem State.applyWrite_keyRevoke (s : State) (who : Requester) (v : Nat) : s.applyWrite who 0x7002 1 v = s.keyRevoke v := rfl

theorem alertAck_acknowledges {s : State} {who : Requester} (h : Takes s who 0x5030 8 1 1) :
    ∃ s', exec (.alertAck who 1) s = .next s' ∧ Only [.log, .dict, .out] s s' ∧ Answered s s' who 0 0 ∧
      s'.log = { s.log with alert3 := false } := by
  have hexec := State.putRow_effect h (by decide) rfl (by decide) fun t => t.applyWrite_alertAck who 1
  have htouch := s.touch_only who
  obtain ⟨t, ht⟩ : ∃ t : State, t = { s.touch who with log := { (s.touch who).log with alert3 := false } } := ⟨_, rfl⟩
  have heffect : (s.touch who).alertAck 1 = (0, t) := by rw [ht]; rfl
  rw [heffect] at hexec
  obtain ⟨honly, hanswer⟩ := State.answered_respond (who := who) 0
    (ht ▸ only_iff_mask.2 (mask_log _ (by decide) _) : Only [.log] (s.touch who) t) (by decide) (l' := [.log, .dict, .out]) (by decide)
  refine ⟨_, hexec, honly, hanswer, ?_⟩
  change t.log = _
  rw [ht, htouch.log.resolve_left (by decide)]

/-- Setting a bit sets it and leaves the others. -/
theorem bit_setBit_true (v i j : Nat) : bit (setBit v i true) j = (bit v j || decide (j = i)) := by
  by_cases hij : j = i
  · subst hij
    simp [bit_setBit_self]
  · rw [decide_eq_false hij, Bool.or_false]
    unfold setBit
    split
    · rfl
    · next hclear => rw [if_pos rfl, bit_eq_testBit, testBit_add_two_pow (by simpa using hclear) hij, ← bit_eq_testBit]

theorem State.bit_keysRevoked (s : State) {k : Nat} (hk : k < 4) :
    bit s.keysRevoked k = (bit Config.fuses.revoked.toNat k || bit s.fw.revoked k) := by
  have hmod : ∀ x : Nat, (x % 16).testBit k = x.testBit k := fun x => by
    have h := Nat.testBit_mod_two_pow x 4 k
    rwa [decide_eq_true hk, Bool.true_and] at h
  unfold State.keysRevoked
  simp only [bit_eq_testBit, ← hmod s.fw.revoked, ← hmod Config.fuses.revoked.toNat]
  exact Nat.testBit_lor ..

/-- A key is the last when the others are revoked. -/
theorem keysLeft_eq_singleton {p : Nat → Bool} {v : Nat} (hv : v < 4) (hp : p v = false) :
    (List.range 4).filter (fun k => !p k) = [v] ↔ ∀ k, k < 4 → k ≠ v → p k = true := by
  constructor
  · intro h k hk hne
    by_contra hno
    have hmem : k ∈ (List.range 4).filter fun k => !p k := by simpa [hk] using hno
    rw [h, List.mem_singleton] at hmem
    exact hne hmem
  · intro h
    have hall : ∀ k ∈ List.range 4, (!p k) = decide (k = v) := fun k hk => by
      by_cases hkv : k = v
      · subst hkv
        simp [hp]
      · simp [hkv, h k (List.mem_range.1 hk) hkv]
    rw [List.filter_congr hall]
    interval_cases v <;> rfl

theorem State.keyRevoke_revoked {s : State} {v : Nat} (h : bit s.keysRevoked v = true) : s.keyRevoke v = (0, s) := by
  unfold State.keyRevoke
  exact if_pos h

theorem State.keyRevoke_last {s : State} {v : Nat} (hv : v < 4) (hclear : bit s.keysRevoked v = false)
    (h : v = (s.slot s.boot.image).key ∨ ∀ k, k < 4 → k ≠ v → bit s.keysRevoked k = true) : s.keyRevoke v = (0x152, s) := by
  unfold State.keyRevoke
  dsimp only
  rw [if_neg (by simp [hclear]), if_pos]
  · rfl
  · rw [← keysLeft_eq_singleton hv hclear] at h
    simpa using h

theorem State.keyRevoke_takes {s : State} {v : Nat} (hv : v < 4) (hclear : bit s.keysRevoked v = false) (hkey : v ≠ (s.slot s.boot.image).key)
    (h : ∃ k, k < 4 ∧ k ≠ v ∧ bit s.keysRevoked k = false) :
    s.keyRevoke v = (0, { s with fw := { s.fw with revoked := setBit s.fw.revoked v true } }) := by
  have hleft : (List.range 4).filter (fun k => !bit s.keysRevoked k) ≠ [v] := fun hall => by
    obtain ⟨k, hk, hne, hbit⟩ := h
    exact absurd (((keysLeft_eq_singleton hv hclear).1 hall k hk hne).symm.trans hbit) (by decide)
  unfold State.keyRevoke
  dsimp only
  rw [if_neg (by simp [hclear]), if_neg (by simp [hkey, hleft])]
  rfl

theorem keyRevoke_answers {s : State} {who : Requester} {v : Nat} (hv : v < 4) (h : Takes s who 0x7002 1 1 v) :
    (bit s.keysRevoked v = true → ∃ s', exec (.keyRevoke who v) s = .next s' ∧ Only [.dict, .out] s s' ∧ Answered s s' who 0 0) ∧
    (bit s.keysRevoked v = false → v = (s.slot s.boot.image).key ∨ (∀ k, k < 4 → k ≠ v → bit s.keysRevoked k = true) →
      ∃ s', exec (.keyRevoke who v) s = .next s' ∧ Only [.dict, .out] s s' ∧ Answered s s' who 0x152 0) ∧
    (bit s.keysRevoked v = false → v ≠ (s.slot s.boot.image).key → (∃ k, k < 4 ∧ k ≠ v ∧ bit s.keysRevoked k = false) →
      ∃ s', exec (.keyRevoke who v) s = .next s' ∧ Only [.fw, .dict, .out] s s' ∧ Answered s s' who 0 0 ∧
        ∀ k, k < 4 → bit s'.keysRevoked k = (bit s.keysRevoked k || decide (k = v))) := by
  have hexec := State.putRow_effect h (by omega) rfl (by decide) fun t => t.applyWrite_keyRevoke who v
  have htouch := s.touch_only who
  have hfw : (s.touch who).fw = s.fw := htouch.fw.resolve_left (by decide)
  have hkeys : (s.touch who).keysRevoked = s.keysRevoked := congrArg (fun f : FwSt => Nat.lor (Config.fuses.revoked.toNat % 16) (f.revoked % 16)) hfw
  have hslot : (s.touch who).slot (s.touch who).boot.image = s.slot s.boot.image := by
    unfold State.slot
    rw [hfw, htouch.boot.resolve_left (by decide)]
  rw [← hkeys, ← hslot]
  refine ⟨fun hset => ?_, fun hclear hlast => ?_, fun hclear hkey hother => ?_⟩
  · rw [State.keyRevoke_revoked hset] at hexec
    exact ⟨_, hexec, State.answered_respond (l := []) 0 (.refl _ _) (by decide) (by decide)⟩
  · rw [State.keyRevoke_last hv hclear hlast] at hexec
    exact ⟨_, hexec, State.answered_respond (l := []) 0x152 (.refl _ _) (by decide) (by decide)⟩
  · rw [State.keyRevoke_takes hv hclear hkey hother] at hexec
    obtain ⟨t, ht⟩ : ∃ t : State, t = { s.touch who with fw := { (s.touch who).fw with revoked := setBit (s.touch who).fw.revoked v true } } :=
      ⟨_, rfl⟩
    rw [← ht] at hexec
    obtain ⟨honly, hanswer⟩ := State.answered_respond (who := who) 0
      (ht ▸ only_iff_mask.2 (mask_fw _ (by decide) _) : Only [.fw] (s.touch who) t) (by decide) (l' := [.fw, .dict, .out]) (by decide)
    refine ⟨_, hexec, honly, hanswer, fun k hk => ?_⟩
    change bit t.keysRevoked k = _
    rw [t.bit_keysRevoked hk, (s.touch who).bit_keysRevoked hk, ht]
    dsimp only
    rw [bit_setBit_true, Bool.or_assoc]

/-! ### SPDM (20 R559, R561) -/

theorem spdmCodes_mem (code : Nat) : code ∈ spdmCodes ↔ code ∈ [0x81, 0x82, 0x83, 0x84, 0xE0, 0xE1, 0xE3] := by
  simp [spdmCodes]
  tauto

section
variable (s : State) (f : Nat) {code ix : Nat}

/-- A request that is not of the list, or names another certificate slot than 0, gets ERROR. -/
theorem State.spdm_refused (h : code ∈ spdmCodes → (code = 0x82 ∨ code = 0x83) ∧ ix ≠ 0) : s.spdm f code ix = (0x7F, []) := by
  unfold State.spdm
  refine if_pos ?_
  by_cases hlist : code ∈ spdmCodes
  · simpa [hlist] using h hlist
  · simp [hlist]

theorem State.spdm_taken (hlist : code ∈ spdmCodes) (hslot : ¬ ((code = 0x82 ∨ code = 0x83) ∧ ix ≠ 0)) : s.spdm f code ix =
    (code - 0x80, if code = 0xE0 then (match s.measurement ix with | some d => if measureSeen f ix then [ix, d] else [] | none => [])
      else if code = 0x81 then [Config.sha384 Config.certChain] else if code = 0x82 then Config.certChain.map BitVec.toNat else []) := by
  unfold State.spdm
  refine (if_neg (by simpa [hlist] using hslot)).trans ?_
  by_cases hmeasure : code = 0xE0
  · rw [if_pos hmeasure, if_pos hmeasure, hmeasure] <;> rfl
  · by_cases hdigest : code = 0x81
    · rw [if_neg hmeasure, if_pos hdigest, if_neg hmeasure, if_pos hdigest, hdigest]
    · by_cases hchain : code = 0x82
      · rw [if_neg hmeasure, if_neg hdigest, if_pos hchain, if_neg hmeasure, if_neg hdigest, if_pos hchain, hchain]
      · rw [if_neg hmeasure, if_neg hdigest, if_neg hchain, if_neg hmeasure, if_neg hdigest, if_neg hchain]

theorem State.spdm_code : (s.spdm f code ix).1 =
    if code ∈ [0x81, 0x82, 0x83, 0x84, 0xE0, 0xE1, 0xE3] ∧ ¬ ((code = 0x82 ∨ code = 0x83) ∧ ix ≠ 0) then code - 0x80 else 0x7F := by
  by_cases h : code ∈ spdmCodes ∧ ¬ ((code = 0x82 ∨ code = 0x83) ∧ ix ≠ 0)
  · rw [s.spdm_taken f h.1 h.2]
    exact (if_pos ⟨(spdmCodes_mem code).1 h.1, h.2⟩).symm
  · rw [s.spdm_refused f fun hlist => not_not.1 fun hslot => h ⟨hlist, hslot⟩, if_neg fun hall => h ⟨(spdmCodes_mem code).2 hall.1, hall.2⟩]

/-- The body of a response: a measurement that the function sees, the digest or the chain, else nothing. -/
theorem State.spdm_body : (s.spdm f code ix).2 =
    if code = 0xE0 then (match s.measurement ix with | some d => if measureSeen f ix then [ix, d] else [] | none => [])
    else if code = 0x81 then [Config.sha384 Config.certChain]
    else if code = 0x82 ∧ ix = 0 then Config.certChain.map BitVec.toNat else [] := by
  by_cases h : code ∈ spdmCodes ∧ ¬ ((code = 0x82 ∨ code = 0x83) ∧ ix ≠ 0)
  · obtain ⟨hlist, hslot⟩ := h
    have hchain : code = 0x82 ↔ code = 0x82 ∧ ix = 0 := by omega
    rw [s.spdm_taken f hlist hslot]
    dsimp only
    simp only [← hchain]
  · rw [s.spdm_refused f fun hlist => not_not.1 fun hslot => h ⟨hlist, hslot⟩]
    have hmeasure : code ≠ 0xE0 := by
      rintro rfl
      exact h ⟨by decide, by omega⟩
    have hdigest : code ≠ 0x81 := by
      rintro rfl
      exact h ⟨by decide, by omega⟩
    have hchain : ¬ (code = 0x82 ∧ ix = 0) := by
      rintro ⟨rfl, rfl⟩
      exact h ⟨by decide, by omega⟩
    rw [if_neg hmeasure, if_neg hdigest, if_neg hchain]

end

theorem measureSeen_iff (f i : Nat) : measureSeen f i = true ↔ f = 0 ∨ (1 ≤ i ∧ i ≤ 4) ∨ i = 15 + f := by
  simp [measureSeen, or_assoc]

section
variable {s : State} {f : FnIx} {code ix : Nat} (hexists : s.fnExists f = true) (hphase : 2 ≤ s.boot.phase)
include hexists hphase

/-- An SPDM request of a function whose exchange is free is answered, or waits for Machenil. -/
theorem exec_spdmRequest (hfree : s.heldReqs (26 + f) = []) : exec (.spdmRequest f code ix) s =
    .next (if s.fw.down = true ∨ s.boot.handover = true then
        { s with dict := { s.dict with queue := s.dict.queue ++ [{ req := .doe f code ix, at_ := s.cyc.ns }] } }
      else s.answerSpdm f code ix) := by
  change Host.Outcome.next _ = _
  rw [if_neg (by simp [hexists, hfree]; omega)]
  simp only [Bool.or_eq_true]

theorem spdmRequest_answers (hfree : s.heldReqs (26 + f) = []) (hup : s.fw.down = false) (hsettled : s.boot.handover = false) :
    ∃ s' b, exec (.spdmRequest f code ix) s = .next s' ∧ Only [.out] s s' ∧
      s'.out = s.out ++ [.spdm f (if code ∈ [0x81, 0x82, 0x83, 0x84, 0xE0, 0xE1, 0xE3] ∧ ¬ ((code = 0x82 ∨ code = 0x83) ∧ ix ≠ 0)
        then code - 0x80 else 0x7F) b] ∧
      (code = 0xE0 → f.val = 0 ∨ (1 ≤ ix ∧ ix ≤ 4) ∨ ix = 15 + f.val → ∀ d, s.measurement ix = some d → b = [ix, d]) ∧
      (code = 0xE0 → s.measurement ix = none → b = []) ∧
      (code = 0xE0 → f.val ≠ 0 → ix = 0 ∨ (4 < ix ∧ ix ≠ 15 + f.val) → b = []) ∧
      (code = 0x81 → b = [Config.sha384 Config.certChain]) ∧ (code = 0x82 → ix = 0 → b = Config.certChain.map BitVec.toNat) ∧
      (code ∉ [0x81, 0x82, 0xE0] → b = []) := by
  have hexec := exec_spdmRequest (code := code) (ix := ix) hexists hphase hfree
  rw [if_neg (by simp [hup, hsettled])] at hexec
  have hbody := s.spdm_body f (code := code) (ix := ix)
  have hsent : (s.answerSpdm f code ix).out = s.out ++ [.spdm f (s.spdm f code ix).1 (s.spdm f code ix).2] := rfl
  rw [s.spdm_code f] at hsent
  refine ⟨_, (s.spdm f code ix).2, hexec, only_iff_mask.2 rfl, hsent, ?_⟩
  rw [hbody]
  refine ⟨fun hcode hseen d hd => ?_, fun hcode hnone => ?_, fun hcode hf hix => ?_, fun hcode => ?_, fun hcode hix => ?_, fun hcode => ?_⟩
  · rw [if_pos hcode, hd]
    exact if_pos ((measureSeen_iff ..).2 hseen)
  · rw [if_pos hcode, hnone]
  · have hunseen : ¬ measureSeen f ix = true := fun h => by
      have := (measureSeen_iff ..).1 h
      omega
    rw [if_pos hcode]
    split
    · exact if_neg hunseen
    · rfl
  · rw [if_neg (by omega), if_pos hcode]
  · rw [if_neg (by omega), if_neg (by omega), if_pos ⟨hcode, hix⟩]
  · simp only [List.mem_cons, List.not_mem_nil, or_false, not_or] at hcode
    rw [if_neg hcode.2.2, if_neg hcode.1, if_neg fun h => hcode.2.1 h.1]

theorem spdmRequest_waits (hfree : s.heldReqs (26 + f) = []) (hbusy : s.fw.down = true ∨ s.boot.handover = true) :
    ∃ s', exec (.spdmRequest f code ix) s = .next s' ∧ Only [.dict] s s' ∧
      s'.dict = { s.dict with queue := s.dict.queue ++ [{ req := .doe f code ix, at_ := s.cyc.ns }] } := by
  have hexec := exec_spdmRequest (code := code) (ix := ix) hexists hphase hfree
  rw [if_pos hbusy] at hexec
  exact ⟨_, hexec, only_iff_mask.2 (mask_dict s (by decide) _), rfl⟩

end

theorem spdmRequest_stays {s : State} {f : FnIx} {code ix : Nat} (hheld : s.heldReqs (26 + f) ≠ []) :
    exec (.spdmRequest f code ix) s = .next s := by
  change Host.Outcome.next _ = _
  rw [if_pos (by simp [hheld])]

/-- Settles O54: Machenil goes down and comes up again, its records reach flash, and its requests are answered by their rules. -/
theorem managementEvents : Obligations.ManagementEvents := by
  unfold Obligations.ManagementEvents
  refine ⟨fun s sram => ⟨watchdogExpiry_stays sram, watchdogExpiry_ends sram⟩, fun s => ⟨fun hup => ?_, mgmtRestartComplete_up⟩,
    fun s => ⟨fun h => ?_, logFlush_keeps⟩, fun s c ix => ⟨sensorTimeout_flags, sensorTimeout_stays⟩, fun s who => alertAck_acknowledges,
    fun s who v => keyRevoke_answers, fun s f code ix hexists hphase =>
      ⟨spdmRequest_answers hexists hphase, spdmRequest_waits hexists hphase, spdmRequest_stays⟩⟩
  · change Host.Outcome.next _ = _
    rw [if_neg (by simp [hup])]
  · change Host.Outcome.next _ = _
    rw [if_pos (by simpa using h)]

end Sys2Proof.Machine
end

section
/-! PROOF. PWRGOOD and the check of the images: milestone 1 (19 R525, R526; 20 R553, R554). -/

namespace Sys2Proof.Machine
open Sys2Proof.Safety

/-! ### PWRGOOD (19 R525) -/

theorem pwrgoodRise_up {s : State} (h : s.boot.pwrgood = true) : exec .pwrgoodRise s = .next s := by
  change Host.Outcome.next _ = _
  rw [if_pos h]

theorem pwrgoodRise_starts {s : State} (h : s.boot.pwrgood = false) :
    ∃ s', exec .pwrgoodRise s = .next s' ∧ Only [.boot, .pcie, .energy, .power] s s' ∧ s'.boot = { s.boot with pwrgood := true } ∧
      s'.pcie = { s.pcie with linkUp := s.boot.perstN } ∧ s'.power.aging = min 30 (2 * (s.power.hours / 5000)) := by
  refine ⟨_, congrArg Host.Outcome.next (if_neg (by simp [h])), only_iff_mask.2 rfl, rfl, rfl, rfl⟩

/-! ### The check of an image (20 R553) -/

theorem State.imageFails_none (s : State) (k : Nat) (c : SlotCheck) : s.imageFails k c = none ↔ s.headerOk k = true ∧
    bit s.keysRevoked (bits (s.slotHeader k) 39 32) = false ∧ c.digest = true ∧ c.signature = true ∧
    s.fwRollback ≤ bits (s.slotHeader k) 47 40 := by
  unfold State.imageFails
  dsimp only
  by_cases hheader : s.headerOk k = true
  · by_cases hkey : bit s.keysRevoked (bits (s.slotHeader k) 39 32) = true
    · simp [hheader, hkey]
    · by_cases hcheck : c.digest = true ∧ c.signature = true
      · by_cases hroll : bits (s.slotHeader k) 47 40 < s.fwRollback
        · simp [hheader, hkey, hcheck, hroll]
        · simp [hheader, hkey, hcheck, hroll, Nat.le_of_not_lt hroll]
      · have hbad : c.digest = false ∨ c.signature = false := by
          cases hdigest : c.digest
          · exact .inl rfl
          · exact .inr (by simpa [hdigest] using hcheck)
        simp only [hheader, hkey, hbad, Bool.not_true, Bool.false_eq_true, if_false, Bool.or_eq_true, Bool.not_eq_eq_eq_not, if_true]
        exact iff_of_false nofun fun h => hcheck ⟨h.2.2.1, h.2.2.2.1⟩
  · simp [hheader]

/-- Two states whose fuses and slots hold the same image check it alike. -/
theorem State.imageFails_congr {s t : State} {k : Nat} (hdata : (t.slot k).data = (s.slot k).data) (hlen : (t.slot k).len = (s.slot k).len)
    (hwritten : (t.slot k).written = (s.slot k).written) (hrevoked : t.fw.revoked = s.fw.revoked) (hrollback : t.fw.rollback = s.fw.rollback)
    (c : SlotCheck) : t.imageFails k c = s.imageFails k c := by
  have hheader : t.slotHeader k = s.slotHeader k := by simp [State.slotHeader, hdata, hwritten]
  have hok : t.headerOk k = s.headerOk k := by simp [State.headerOk, hheader, hlen, hwritten]
  have hkeys : t.keysRevoked = s.keysRevoked := by simp [State.keysRevoked, hrevoked]
  have hroll : t.fwRollback = s.fwRollback := by simp [State.fwRollback, hrollback]
  simp [State.imageFails, hheader, hok, hkeys, hroll]

/-! ### The boot ROM (20 R553, R554) -/

/-- `t` is `s` with what a check says of the slots: the images in them are the same. -/
structure Recorded (s t : State) : Prop where
  only : Only [.fw] s t
  data : ∀ k, (t.slot k).data = (s.slot k).data
  len : ∀ k, (t.slot k).len = (s.slot k).len
  written : ∀ k, (t.slot k).written = (s.slot k).written
  revoked : t.fw.revoked = s.fw.revoked
  rollback : t.fw.rollback = s.fw.rollback

theorem Recorded.trans {s t u : State} (h : Recorded s t) (g : Recorded t u) : Recorded s u :=
  ⟨h.only.trans g.only, fun k => (g.data k).trans (h.data k), fun k => (g.len k).trans (h.len k), fun k => (g.written k).trans (h.written k),
    g.revoked.trans h.revoked, g.rollback.trans h.rollback⟩

theorem State.slot_setSlot (s : State) (k : Nat) (v : Slot) (j : Nat) : (s.setSlot k v).slot j = if j = k then v else s.slot j :=
  Sparse.getD_put ..

theorem State.recordSlot_recorded (s : State) (k : Nat) (c : SlotCheck) : Recorded s (s.recordSlot k c) := by
  obtain ⟨st, version, rollback, key, h⟩ : ∃ st version rollback key, s.recordSlot k c =
      s.setSlot k { s.slot k with st := st, version := version, rollback := rollback, key := key } := ⟨_, _, _, _, rfl⟩
  rw [h]
  have hslot := s.slot_setSlot k { s.slot k with st := st, version := version, rollback := rollback, key := key }
  refine ⟨only_iff_mask.2 rfl, fun j => ?_, fun j => ?_, fun j => ?_, rfl, rfl⟩ <;>
  · rw [hslot]
    split
    · next hj => rw [hj]
    · rfl

/-- An image starts: milestone 1, and every rail has its target of point 0. -/
theorem State.startImage_spec (s : State) (k : Nat) : Tells [.boot, .power, .out] s (s.startImage k) ∧
    (s.startImage k).boot = { s.boot with
      image := k, romFail := false, upAt := s.cyc.ns, phase := 1, times := Sparse.put s.boot.times 1 ((s.cyc.ns - s.boot.t0) / 1000) } ∧
    ((s.startImage k).rail 0).target = s.vReq 0 ∧ ((s.startImage k).rail 0).done = false := by
  obtain ⟨t, ht⟩ : ∃ t, t = ({ s with boot := { s.boot with image := k, romFail := false, upAt := s.cyc.ns } } : State).milestone 1 := ⟨_, rfl⟩
  obtain ⟨u, hu⟩ : ∃ u, u = (t.retarget 1 (t.fixedTarget 1)).retarget 2 ((t.retarget 1 (t.fixedTarget 1)).fixedTarget 2) := ⟨_, rfl⟩
  have hstart : s.startImage k = u.retarget 0 (u.vReq 0) := by
    rw [hu, ht]
    rfl
  have hfirst : Tells [.boot, .power, .out] s t := .silent (ht ▸ only_iff_mask.2 rfl) (by rw [ht]; rfl)
  have haim : Aimed t u := hu ▸ (t.retarget_aimed _ _).trans ((t.retarget 1 (t.fixedTarget 1)).retarget_aimed _ _)
  have hall : Aimed t (s.startImage k) := hstart ▸ haim.trans (u.retarget_aimed _ _)
  have hreq : u.vReq 0 = s.vReq 0 := by
    rw [haim.vReq, ht]
    rfl
  have hrail : (s.startImage k).rail 0 = { u.rail 0 with target := s.vReq 0, readback := u.railAt 0, since := u.cyc.ns, done := false, slewing := true } := by
    rw [hstart, State.rail_retarget, if_pos rfl, hreq]
  refine ⟨hfirst.trans (hall.tells.mono (by decide)), ?_, by rw [hrail], by rw [hrail]⟩
  rw [hall.boot, ht]
  rfl

/-- What the boot ROM does with what it finds in the slots `m`, which the manifest names, and `n`. -/
theorem State.bootRom_spec {s : State} {slots : List SlotCheck} {m n : Nat} {a b : SlotCheck} (hm : m = s.fw.manifest) (hn : n = 1 - m)
    (ha : a = slots.getD m default) (hb : b = slots.getD n default) :
    Only [.boot, .power, .fw, .log, .fns, .out] s (s.bootRom slots) ∧
    (∀ k, ((s.bootRom slots).slot k).data = (s.slot k).data ∧ ((s.bootRom slots).slot k).written = (s.slot k).written) ∧
    (s.imageFails m a = none → (s.bootRom slots).log = s.log ∧ (s.bootRom slots).boot.image = m) ∧
    (s.imageFails m a ≠ none → s.imageFails n b = none → (s.bootRom slots).boot.image = n) ∧
    (s.imageFails m a = none ∨ s.imageFails n b = none → (s.bootRom slots).boot.phase = 1 ∧ (s.bootRom slots).boot.romFail = false ∧
      (s.bootRom slots).boot.times = Sparse.put s.boot.times 1 ((s.cyc.ns - s.boot.t0) / 1000) ∧
      ((s.bootRom slots).rail 0).target = s.vReq 0 ∧ ((s.bootRom slots).rail 0).done = false) ∧
    (s.imageFails m a ≠ none → s.imageFails n b ≠ none → (s.bootRom slots).boot = { s.boot with romFail := true }) := by
  obtain ⟨t, ht⟩ : ∃ t, t = (s.recordSlot m a).recordSlot n b := ⟨_, rfl⟩
  have hrec : Recorded s t := ht ▸ (s.recordSlot_recorded m a).trans ((s.recordSlot m a).recordSlot_recorded n b)
  have hsame : ∀ k c, t.imageFails k c = s.imageFails k c := fun k c =>
    State.imageFails_congr (hrec.data k) (hrec.len k) (hrec.written k) hrec.revoked hrec.rollback c
  have hrom : s.bootRom slots = match s.imageFails m a with
      | none => t.startImage m
      | some r => match s.imageFails n b with
        | none => (t.startImage n).logRec 0x0061 0 2 none (m + 256 * r)
        | some _ => { t with boot := { t.boot with romFail := true } } := by
    unfold State.bootRom
    simp only [← hm, ← hn, ← ha, ← hb, ← ht, hsame] <;> rfl
  rw [hrom]
  have hboot : t.boot = s.boot := hrec.only.boot.resolve_left (by decide)
  have hcyc : t.cyc = s.cyc := hrec.only.cyc.resolve_left (by decide)
  have hpower : t.power = s.power := hrec.only.power.resolve_left (by decide)
  have hreq : t.vReq 0 = s.vReq 0 := State.vReq_congr (by rw [hpower]) (by rw [hpower]) (hrec.only.objs.resolve_left (by decide)) 0
  have hslot : ∀ {u : State} {l : List Fld}, Only l t u → Fld.fw ∉ l → ∀ k, (u.slot k).data = (s.slot k).data ∧ (u.slot k).written = (s.slot k).written := by
    intro u l honly hfw k
    have hu : u.slot k = t.slot k := by
      unfold State.slot
      rw [honly.fw.resolve_left hfw]
    rw [hu]
    exact ⟨hrec.data k, hrec.written k⟩
  cases hmain : s.imageFails m a with
  | none =>
    obtain ⟨htells, hb1, htarget, hdone⟩ := t.startImage_spec m
    dsimp only
    generalize t.startImage m = u at *
    refine ⟨(hrec.only.mono (by decide)).trans (htells.only.mono (by decide)), hslot htells.only (by decide),
      fun _ => ⟨(htells.only.log.resolve_left (by decide)).trans (hrec.only.log.resolve_left (by decide)), by rw [hb1]⟩, fun h => absurd rfl h,
      fun _ => ⟨by rw [hb1], by rw [hb1], by rw [hb1, hboot, hcyc], htarget.trans hreq, hdone⟩, fun h => absurd rfl h⟩
  | some r =>
    cases hother : s.imageFails n b with
    | none =>
      obtain ⟨htells, hb1, htarget, hdone⟩ := t.startImage_spec n
      have hlog := ((t.startImage n).logRec_tells 0x0061 0 2 none (m + 256 * r)).only
      dsimp only
      generalize t.startImage n = u at *
      have hb2 : (u.logRec 0x0061 0 2 none (m + 256 * r)).boot = u.boot := hlog.boot.resolve_left (by decide)
      have hrail : (u.logRec 0x0061 0 2 none (m + 256 * r)).rail 0 = u.rail 0 :=
        State.rail_congr (congrArg Power.rails (hlog.power.resolve_left (by decide))) 0
      have honly : Only [.boot, .power, .log, .fns, .out] t (u.logRec 0x0061 0 2 none (m + 256 * r)) :=
        (htells.only.mono (by decide)).trans (hlog.mono (by decide))
      refine ⟨(hrec.only.mono (by decide)).trans (honly.mono (by decide)), hslot honly (by decide), nofun, fun _ _ => by rw [hb2, hb1],
        fun _ => ⟨by rw [hb2, hb1], by rw [hb2, hb1], by rw [hb2, hb1, hboot, hcyc], by rw [hrail, htarget, hreq], by rw [hrail, hdone]⟩,
        fun _ h => absurd rfl h⟩
    | some r' =>
      have honly : Only [.boot] t { t with boot := { t.boot with romFail := true } } := only_iff_mask.2 rfl
      refine ⟨(hrec.only.mono (by decide)).trans (honly.mono (by decide)), hslot honly (by decide), nofun, fun _ => nofun, ?_,
        fun _ _ => by rw [← hboot]⟩
      rintro (h | h)
      · cases h
      · cases h

end Sys2Proof.Machine
end

section
/-! PROOF. Milestones 1 to 8 (19 R523 to R532; 20 R553, R554; 18 R513). -/

namespace Sys2Proof.Machine
open Sys2Proof.Safety

/-! ### Milestone 1 -/

section
variable {s : State} {slots : List SlotCheck} {m n : Nat} {a b : SlotCheck} (hpower : s.boot.pwrgood = true) (hphase : s.boot.phase = 0)
  (hm : m = s.fw.manifest) (hn : n = 1 - m) (ha : a = slots.getD m default) (hb : b = slots.getD n default)

include hpower hphase hm hn ha hb in
theorem machenilUp_starts (hrom : s.boot.romFail = false) :
    ∃ s', exec (.machenilUp slots) s = .next s' ∧ s'.cyc = s.cyc ∧ s'.cores = s.cores ∧ s'.objs = s.objs ∧
      (s.imageFails m a = none → s'.boot.phase = 1 ∧ s'.boot.image = m ∧ s'.log = s.log) ∧
      (s.imageFails m a ≠ none → s.imageFails n b = none → s'.boot.phase = 1 ∧ s'.boot.image = n) ∧
      (s.imageFails m a = none ∨ s.imageFails n b = none → Sparse.getD s'.boot.times 1 0 = (s.cyc.ns - s.boot.t0) / 1000 ∧
        (s'.rail 0).target = s.vReq 0 ∧ (s'.rail 0).done = false) ∧
      (s.imageFails m a ≠ none → s.imageFails n b ≠ none → s'.boot = { s.boot with romFail := true } ∧ s'.alertN = true) := by
  have hexec : exec (.machenilUp slots) s = .next (s.bootRom slots) := by
    change Host.Outcome.next _ = _
    rw [if_pos (by simp [hpower, hphase, hrom])]
  obtain ⟨honly, -, hmain, hother, hup, hfail⟩ := State.bootRom_spec hm hn ha hb
  refine ⟨_, hexec, honly.cyc.resolve_left (by decide), honly.cores.resolve_left (by decide), honly.objs.resolve_left (by decide),
    fun h => ?_, fun h h' => ?_, fun h => ?_, fun h h' => ⟨hfail h h', ?_⟩⟩
  · obtain ⟨hlog, himage⟩ := hmain h
    exact ⟨(hup (.inl h)).1, himage, hlog⟩
  · exact ⟨(hup (.inr h')).1, hother h h'⟩
  · obtain ⟨-, -, htimes, htarget, hdone⟩ := hup h
    exact ⟨by rw [htimes, Sparse.getD_put_self], htarget, hdone⟩
  · simp [State.alertN, hfail h h', hpower]

theorem machenilUp_waits (hrom : s.boot.romFail = true) : exec (.machenilUp slots) s = .next s := by
  change Host.Outcome.next _ = _
  rw [if_neg (by simp [hrom])]

/-! ### An external programmer (20 R554) -/

/-- The programmer writes the slots it names, from slot `k` on, and leaves everything else. -/
theorem State.program_spec (images : List (Option (List Byte))) : ∀ (s : State) (k : Nat), Only [.fw] s (s.program k images) ∧
    (s.program k images).fw.manifest = s.fw.manifest ∧
    (∀ j, j < k → (s.program k images).slot j = s.slot j) ∧
    (∀ j l, images[j]? = some (some l) → ((s.program k images).slot (k + j)).written = true ∧
      ((s.program k images).slot (k + j)).data = Mem.write [] 0 l) ∧
    ∀ j, (images[j]?).join = none → (s.program k images).slot (k + j) = s.slot (k + j) := by
  induction images with
  | nil => exact fun s k => ⟨.refl _ s, rfl, fun _ _ => rfl, nofun, fun _ _ => rfl⟩
  | cons x images ih =>
    intro s k
    cases x with
    | none =>
      obtain ⟨honly, hman, hbelow, hset, hkept⟩ := ih s (k + 1)
      refine ⟨honly, hman, fun j hj => hbelow j (by omega), fun j l hj => ?_, fun j hj => ?_⟩
      · cases j with
        | zero => simp at hj
        | succ j => exact (show k + (j + 1) = k + 1 + j by omega) ▸ hset j l (by simpa using hj)
      · cases j with
        | zero => exact hbelow k (by omega)
        | succ j => exact (show k + (j + 1) = k + 1 + j by omega) ▸ hkept j (by simpa using hj)
    | some l =>
      obtain ⟨t, ht⟩ : ∃ t, t = s.setSlot k { data := Mem.write [] 0 l, len := l.length, written := true } := ⟨_, rfl⟩
      have hslot : ∀ j, t.slot j = if j = k then { data := Mem.write [] 0 l, len := l.length, written := true } else s.slot j := fun j => by
        rw [ht, State.slot_setSlot]
      have hfirst : Only [.fw] s t := ht ▸ only_iff_mask.2 rfl
      have htman : t.fw.manifest = s.fw.manifest := by rw [ht]; rfl
      obtain ⟨honly, hman, hbelow, hset, hkept⟩ := ih t (k + 1)
      have hprogram : s.program k (some l :: images) = t.program (k + 1) images := by rw [ht]; rfl
      rw [hprogram]
      refine ⟨hfirst.trans honly, hman.trans htman, fun j hj => ?_, fun j l' hj => ?_, fun j hj => ?_⟩
      · rw [hbelow j (by omega), hslot, if_neg (by omega)]
      · cases j with
        | zero =>
          have hl : l' = l := by simpa using hj.symm
          have hk := hbelow k (by omega)
          rw [hslot, if_pos rfl] at hk
          rw [hl]
          exact ⟨congrArg Slot.written hk, congrArg Slot.data hk⟩
        | succ j => exact (show k + (j + 1) = k + 1 + j by omega) ▸ hset j l' (by simpa using hj)
      · cases j with
        | zero => simp at hj
        | succ j =>
          rw [show k + (j + 1) = k + 1 + j by omega, hkept j (by simpa using hj), hslot, if_neg (by omega)]

include hpower hm hn ha hb in
theorem bootRomRecheck_starts (hrom : s.boot.romFail = true) (images : List (Option (List Byte))) (r : State)
    (hr : r = (s.elapse 1000000000).program 0 images) :
    ∃ s', exec (.bootRomRecheck images slots) s = .next s' ∧ s'.cyc.ns = s.cyc.ns + 1000000000 ∧ s'.cores = s.cores ∧ s'.objs = s.objs ∧
      (∀ k l, images[k]? = some (some l) → (s'.slot k).written = true ∧ (s'.slot k).data = Mem.write [] 0 l) ∧
      (∀ k, (images[k]?).join = none → (s'.slot k).data = (s.slot k).data) ∧
      (r.imageFails m a = none → s'.boot.phase = 1 ∧ s'.boot.image = m ∧ s'.boot.romFail = false) ∧
      (r.imageFails m a ≠ none → r.imageFails n b = none → s'.boot.phase = 1 ∧ s'.boot.image = n ∧ s'.boot.romFail = false) ∧
      (r.imageFails m a ≠ none → r.imageFails n b ≠ none → s'.boot = s.boot) := by
  have hexec : exec (.bootRomRecheck images slots) s = .next (r.bootRom slots) := by
    change Host.Outcome.next _ = _
    rw [if_pos (by simp [hpower, hrom]), hr]
  have helapse := s.elapse_only 1000000000
  have hns : (s.elapse 1000000000).cyc.ns = s.cyc.ns + 1000000000 := by
    have h := State.ns_elapseNs hpower (s.cyc.ns + 1000000000)
    unfold State.elapseNs at h
    rw [Nat.add_sub_cancel_left] at h
    rw [h]
    omega
  have helapsed : ∀ k, (s.elapse 1000000000).slot k = s.slot k := fun k => by
    unfold State.slot
    rw [helapse.fw.resolve_left (by decide)]
  obtain ⟨hprogram, hman, -, hset, hkept⟩ := (s.elapse 1000000000).program_spec images 0
  rw [← hr] at hprogram hman hset hkept
  simp only [Nat.zero_add] at hset hkept
  have hfirst : Only [.time, .cyc, .pavs, .tally, .fw] s r := (helapse.mono (by decide)).trans (hprogram.mono (by decide))
  have hmr : m = r.fw.manifest := by rw [hman, helapse.fw.resolve_left (by decide), hm]
  have hboot : r.boot = s.boot := hfirst.boot.resolve_left (by decide)
  obtain ⟨honly, hslots, hmain, hother, hup, hfail⟩ := State.bootRom_spec hmr hn ha hb
  have hall := (hfirst.mono (l' := [.time, .cyc, .pavs, .tally, .boot, .power, .fw, .log, .fns, .out]) (by decide)).trans (honly.mono (by decide))
  refine ⟨_, hexec, ?_, hall.cores.resolve_left (by decide), hall.objs.resolve_left (by decide), fun k l hk => ?_, fun k hk => ?_,
    fun h => ?_, fun h h' => ?_, fun h h' => ?_⟩
  · rw [honly.cyc.resolve_left (by decide), hprogram.cyc.resolve_left (by decide), hns]
  · rw [(hslots k).1, (hslots k).2]
    exact hset k l hk
  · rw [(hslots k).1, hkept k hk, helapsed]
  · exact ⟨(hup (.inl h)).1, (hmain h).2, (hup (.inl h)).2.1⟩
  · exact ⟨(hup (.inr h')).1, hother h h', (hup (.inr h')).2.1⟩
  · rw [hfail h h', hboot, ← hrom]

end

end Sys2Proof.Machine
end

section
/-! PROOF. Milestones 2 to 8, STANDBY and a training failure (19 R523 to R532; 18 R513). -/

namespace Sys2Proof.Machine
open Sys2Proof.Safety

/-! ### Milestone 2 -/

/-- What one step of a run brings about and every step keeps holds at its end. -/
theorem foldl_sets {α σ : Type} {step : σ → α → σ} {P : σ → Prop} {l : List α} {a : α} (ha : a ∈ l) (hset : ∀ s, P (step s a))
    (hkeep : ∀ s b, P s → P (step s b)) (s : σ) : P (l.foldl step s) := by
  have hall : ∀ (l : List α) (s : σ), P s → P (l.foldl step s) := fun l s hs => List.foldlRecOn l step hs fun t ht b _ => hkeep t b ht
  induction l generalizing s with
  | nil => cases ha
  | cons b l ih =>
    rcases List.mem_cons.1 ha with rfl | hmem
    · exact hall l _ (hset s)
    · exact ih hmem _

theorem mem_bitList {v n i : Nat} : i ∈ bitList v n ↔ i < n ∧ bit v i = true := by
  rw [bitList, List.mem_filter, List.mem_range]

/-- A core that is FENCED stays so where the change keeps its state or fences it. -/
theorem State.fenced_updCore {s : State} {n m : Nat} {f : Core → Core} (hf : ∀ c, c.ctl.st = .fenced → (f c).ctl.st = .fenced)
    (h : (s.core n).ctl.st = .fenced) : ((s.updCore m f).core n).ctl.st = .fenced := by
  rw [State.updCore_eq, State.core_setCore]
  split
  · next hn => exact hf _ (hn ▸ h)
  · exact h

theorem State.updCore_only (s : State) (n : Nat) (f : Core → Core) : Only [.cores] s (s.updCore n f) := s.setCore_only ..

/-- The stored fence table as it is applied: what it fences is FENCED, and so are the cores disabled at shipment (18 R513). -/
theorem State.applyFences_spec (s : State) : Only [.cores, .ports, .integ] s s.applyFences ∧
    (∀ n, n < 144 → bit s.integ.storedCores n = true ∨ coreShipped n = true → (s.applyFences.core n).ctl.st = .fenced) ∧
    (∀ q, q < 64 → bit s.integ.storedPorts q = true → (s.applyFences.port q).fenced = true) ∧
    s.applyFences.integ.fencePorts = s.integ.storedPorts := by
  unfold State.applyFences
  extract_lets a b c d
  have ha : Only [.cores] s a := Only.foldl _ (fun t r => t.updCore_only ..) _ s
  have hb : Only [.cores] a b := Only.foldl _ (fun t r => t.updCore_only ..) _ a
  have hc : Only [.ports] b c :=
    Only.foldl (fun t q => t.updPort q fun p => { p with fenced := true }) (fun t q => t.setPort_only ..) _ b
  have hship : ∀ (t : State) (n : Nat), Only [.cores] t
      (if coreShipped n then t.updCore n (fun c => { c with ctl := { c.ctl with st := .fenced } }) else t) := fun t n => by
    split
    · exact t.updCore_only ..
    · exact .refl _ t
  have hd : Only [.cores] c d := Only.foldl _ hship _ c
  have hia : a.integ = s.integ := ha.integ.resolve_left (by decide)
  have hib : b.integ = s.integ := (hb.integ.resolve_left (by decide)).trans hia
  have hid : d.integ = s.integ := (hd.integ.resolve_left (by decide)).trans ((hc.integ.resolve_left (by decide)).trans hib)
  have hdfirst : Only [.cores, .ports, .integ] s d := (ha.mono (by decide)).trans ((hb.mono (by decide)).trans
    ((hc.mono (by decide)).trans (hd.mono (by decide))))
  refine ⟨hdfirst.trans (only_iff_mask.2 (mask_integ d (by decide) _)), fun n hn h => ?_, fun q hq h => ?_, ?_⟩
  · change (d.core n).ctl.st = .fenced
    by_cases hstored : bit s.integ.storedCores n = true
    · have hbn : (b.core n).ctl.st = .fenced :=
        foldl_sets (P := fun t : State => (t.core n).ctl.st = .fenced) (mem_bitList.2 ⟨hn, by rwa [hia]⟩)
          (fun t => by rw [State.updCore_eq, State.core_setCore_self]) (fun t m ht => State.fenced_updCore (fun _ _ => rfl) ht) a
      have hcn : (c.core n).ctl.st = .fenced := by rwa [State.core_congr (hc.cores.resolve_left (by decide))]
      refine List.foldlRecOn (motive := fun t : State => (t.core n).ctl.st = .fenced) _ _ hcn fun t ht m _ => ?_
      split
      · exact State.fenced_updCore (fun _ _ => rfl) ht
      · exact ht
    · have hoff : coreShipped n = true := h.resolve_left hstored
      refine foldl_sets (P := fun t : State => (t.core n).ctl.st = .fenced) (List.mem_range.2 hn) (fun t => ?_) (fun t m ht => ?_) c
      · rw [if_pos hoff, State.updCore_eq, State.core_setCore_self]
      · split
        · exact State.fenced_updCore (fun _ _ => rfl) ht
        · exact ht
  · have hcq : (c.port q).fenced = true := by
      refine foldl_sets (P := fun t : State => (t.port q).fenced = true) (mem_bitList.2 ⟨hq, by rwa [hib]⟩) (fun t => ?_) (fun t r ht => ?_) b
      · rw [State.port_updPort_self]
      · change ((t.setPort r _).port q).fenced = true
        rw [State.port_setPort]
        split
        · rfl
        · exact ht
    change (d.port q).fenced = true
    rwa [State.port_congr (hd.ports.resolve_left (by decide))]
  · change d.integ.storedPorts = _
    rw [hid]

theorem State.milestone_only (s : State) (n : Nat) : Only [.boot] s (s.milestone n) := only_iff_mask.2 rfl

theorem State.times_milestone (s : State) (n : Nat) : Sparse.getD (s.milestone n).boot.times n 0 = (s.cyc.ns - s.boot.t0) / 1000 :=
  Sparse.getD_put_self ..

theorem fusesLoaded_waits {s : State} (hdone : (s.rail 0).done = false) : exec .fusesLoaded s = .next s := by
  change Host.Outcome.next _ = _
  rw [if_neg (by simp [hdone])]

theorem fusesLoaded_starts {s : State} (hpower : s.boot.pwrgood = true) (hphase : s.boot.phase = 1) (hfault : s.faulted = false)
    (hdone : (s.rail 0).done = true) (hqueue : s.dict.queue = []) :
    ∃ s', exec .fusesLoaded s = .next s' ∧ Only [.boot, .power, .cores, .ports, .integ, .fns, .dict, .out] s s' ∧ s'.boot.phase = 2 ∧
      s'.boot.standby = decide (s.obj 0x1010 2 = 1) ∧ s'.power.clockOn = true ∧ s'.power.vf = 0 ∧ s'.power.droopG = 15 ∧
      (∀ n, n < 144 → bit s.integ.storedCores n = true ∨ coreShipped n = true → (s'.core n).ctl.st = .fenced) ∧
      (∀ q, q < 64 → bit s.integ.storedPorts q = true → (s'.port q).fenced = true) ∧ s'.integ.fencePorts = s.integ.storedPorts ∧
      (s.obj 0x1010 2 = 1 → s'.chipState = 1) := by
  obtain ⟨hfence, hcores, hports, hstored⟩ := s.applyFences_spec
  obtain ⟨t, ht⟩ : ∃ t, t = s.applyFences := ⟨_, rfl⟩
  rw [← ht] at hfence hcores hports hstored
  obtain ⟨u, hu⟩ : ∃ u : State, u = { t.milestone 2 with
    power := { t.power with clockOn := true, vf := 0, droopG := 15, droops := [] }
    boot := { (t.milestone 2).boot with clkStart := t.cyc.cycles, standby := t.obj 0x1010 2 = 1 } } := ⟨_, rfl⟩
  have hloaded : s.fusesLoaded = u.syncChip := by
    rw [hu, ht]
    rfl
  have hsync := u.syncChip_spec.1.only
  obtain ⟨x, hx⟩ := u.syncChip_boot
  have htu : Only [.boot, .power] t u := hu ▸ only_iff_mask.2 rfl
  have hall : Only [.boot, .power, .cores, .ports, .integ, .fns, .dict, .out] s u.syncChip :=
    (hfence.mono (by decide)).trans ((htu.mono (by decide)).trans (hsync.mono (by decide)))
  have hdict : u.syncChip.dict = s.dict := (hsync.dict.resolve_left (by decide)).trans
    ((htu.dict.resolve_left (by decide)).trans (hfence.dict.resolve_left (by decide)))
  have hexec : exec .fusesLoaded s = .next u.syncChip := by
    change Host.Outcome.next _ = _
    rw [if_pos (by simp [hpower, hphase, hfault, hdone]), hloaded, State.drainQueue_empty (by rw [hdict, hqueue])]
  have hpow : u.syncChip.power = u.power := hsync.power.resolve_left (by decide)
  have hstandby : u.syncChip.boot.standby = decide (s.obj 0x1010 2 = 1) := by
    rw [hx, hu]
    dsimp only
    rw [State.obj_of_only hfence (by decide)]
  have hcause : u.syncChip.faulted = false := by
    unfold State.faulted at hfault ⊢
    have hboot : u.syncChip.boot.causes = s.boot.causes := by
      rw [hx, hu]
      change t.boot.causes = _
      rw [hfence.boot.resolve_left (by decide)]
    rw [hboot]
    exact hfault
  refine ⟨_, hexec, hall, by rw [hx, hu]; rfl, hstandby, by rw [hpow, hu], by rw [hpow, hu], by rw [hpow, hu], fun n hn h => ?_, fun q hq h => ?_, ?_,
    fun hhold => ?_⟩
  · rw [State.core_congr (hsync.cores.resolve_left (by decide)), State.core_congr (htu.cores.resolve_left (by decide))]
    exact hcores n hn h
  · rw [State.port_congr (hsync.ports.resolve_left (by decide)), State.port_congr (htu.ports.resolve_left (by decide))]
    exact hports q hq h
  · rw [hsync.integ.resolve_left (by decide), htu.integ.resolve_left (by decide), hstored]
  · rw [decide_eq_true hhold] at hstandby
    simp [State.chipState, hcause, hstandby]

/-! ### Milestones 3 to 5 and 8 -/

/-- A run that changes each core of a list once: a core of it is changed, another stands. -/
theorem core_foldl_updCore (f : Core → Core) {l : List Nat} (hl : l.Nodup) (n : Nat) : ∀ s : State,
    (l.foldl (fun s n => s.updCore n f) s).core n = if n ∈ l then f (s.core n) else s.core n := by
  induction l with
  | nil => exact fun s => (if_neg (by simp)).symm
  | cons m l ih =>
    intro s
    obtain ⟨hm, hrest⟩ := List.nodup_cons.1 hl
    rw [List.foldl_cons, ih hrest, State.updCore_eq, State.core_setCore]
    by_cases hnm : n = m
    · subst hnm
      simp [hm]
    · simp [hnm]

theorem Core.scrubOrWait_of_none {c : Core} (h : c.pint.suspects = []) : c.scrubOrWait = c.scrub := by
  unfold Core.scrubOrWait
  rw [h]
  rfl

theorem plotsScrubbed_scrubs {s : State} (hphase : s.boot.phase = 4) (hfault : s.faulted = false) :
    ∃ s', exec .plotsScrubbed s = .next s' ∧ Only [.boot, .cores] s s' ∧ s'.boot.phase = 5 ∧
      Sparse.getD s'.boot.times 5 0 = (s.cyc.ns - s.boot.t0) / 1000 ∧
      ∀ n, n < 144 → (s.core n).pint.suspects = [] → (s'.core n).plot = {} ∧ (s'.core n).par.beds = [] := by
  obtain ⟨t, ht⟩ : ∃ t, t = (List.range 144).foldl (fun s n => s.updCore n (·.scrubOrWait)) s := ⟨_, rfl⟩
  have hexec : exec .plotsScrubbed s = .next (t.milestone 5) := by
    change Host.Outcome.next _ = _
    rw [if_pos (by simp [hphase, hfault]), ht]
  have honly : Only [.cores] s t := ht ▸ Only.foldl _ (fun t n => t.updCore_only ..) _ s
  refine ⟨_, hexec, (honly.mono (by decide)).trans ((t.milestone_only 5).mono (by decide)), rfl, ?_, fun n hn hsus => ?_⟩
  · rw [State.times_milestone, honly.cyc.resolve_left (by decide), honly.boot.resolve_left (by decide)]
  · have hcore : (t.milestone 5).core n = (s.core n).scrub := by
      change t.core n = _
      rw [ht, core_foldl_updCore _ List.nodup_range, if_pos (List.mem_range.2 hn), Core.scrubOrWait_of_none hsus]
    rw [hcore]
    exact ⟨rfl, rfl⟩

theorem State.ready8_spec {s : State} (hfault : s.faulted = false) (hstandby : s.boot.standby = false) :
    Only [.boot, .integ, .power, .fns, .out] s s.ready8 ∧ s.ready8.boot.phase = 8 ∧ s.ready8.boot.ready = true ∧ s.ready8.boot.warm = false ∧
    s.ready8.integ.cmLast = (if s.boot.warm then s.integ.cmLast else s.cyc.ns) ∧ (s.ready8.rail 0).target = s.ready8.vReq s.ready8.vfGoal ∧
    2 ≤ s.ready8.chipState ∧ s.ready8.chipState ≤ 4 := by
  obtain ⟨t, ht⟩ : ∃ t : State, t = { s.milestone 8 with
    boot := { (s.milestone 8).boot with ready := true, warm := false, ready8 := s.cyc.ns }
    integ := { s.integ with cmLast := if s.boot.warm then s.integ.cmLast else s.cyc.ns } } := ⟨_, rfl⟩
  have hready : s.ready8 = t.aimVf.syncChip := by
    rw [ht]
    rfl
  rw [hready]
  obtain ⟨haim, -, htarget, -⟩ := t.aimVf_spec
  have hsync := t.aimVf.syncChip_spec.1.only
  obtain ⟨x, hx⟩ := t.aimVf.syncChip_boot
  generalize t.aimVf = u at *
  have hfirst : Only [.boot, .integ, .power, .fns, .out] s t := ht ▸ only_iff_mask.2 rfl
  have hboot : u.syncChip.boot = { t.boot with lastState := x } := by rw [hx, haim.boot]
  have hpower : u.syncChip.power = u.power := hsync.power.resolve_left (by decide)
  have hobjs : u.syncChip.objs = u.objs := hsync.objs.resolve_left (by decide)
  have hgoal : u.syncChip.vfGoal = t.vfGoal := by
    rw [← haim.vfGoal]
    unfold State.vfGoal
    rw [hboot, haim.boot, hpower, State.obj_congr hobjs]
  have hreq : ∀ k, u.syncChip.vReq k = t.vReq k := fun k => by
    rw [← haim.vReq]
    exact State.vReq_congr (by rw [hpower]) (by rw [hpower]) hobjs k
  have hclear : u.syncChip.faulted = false := by
    unfold State.faulted at hfault ⊢
    rw [hboot, ht]
    exact hfault
  have hstand : u.syncChip.boot.standby = false := by rw [hboot, ht]; exact hstandby
  have hup : u.syncChip.boot.ready = true := by rw [hboot, ht]
  have hstate : 2 ≤ u.syncChip.chipState ∧ u.syncChip.chipState ≤ 4 := by
    unfold State.chipState
    rw [hclear, hstand, hup, if_neg (by decide), if_neg (by decide), if_neg (by decide)]
    split
    · decide
    · split
      · decide
      · decide
  refine ⟨hfirst.trans ((haim.tells.only.mono (by decide)).trans (hsync.mono (by decide))), by rw [hboot, ht]; rfl, hup, by rw [hboot, ht], ?_, ?_,
    hstate⟩
  · rw [hsync.integ.resolve_left (by decide), haim.tells.only.integ.resolve_left (by decide), ht]
  · rw [State.rail_congr (congrArg Power.rails hpower), htarget, hreq, hgoal]

theorem readyAgain {s : State} (hstandby : s.boot.standby = false) (hfault : s.faulted = false) (hphase : s.boot.phase = 7) :
    ∃ s', exec (if s.boot.warm then .warmResetComplete else .chipReady) s = .next s' ∧
      Only [.boot, .integ, .power, .fns, .out] s s' ∧ s'.boot.phase = 8 ∧ s'.boot.ready = true ∧ s'.boot.warm = false ∧
      s'.integ.cmLast = (if s.boot.warm then s.integ.cmLast else s.cyc.ns) ∧ (s'.rail 0).target = s'.vReq s'.vfGoal ∧ 2 ≤ s'.chipState ∧
      s'.chipState ≤ 4 := by
  refine ⟨s.ready8, ?_, State.ready8_spec hfault hstandby⟩
  by_cases hwarm : s.boot.warm = true
  · rw [if_pos hwarm]
    change Host.Outcome.next _ = _
    rw [if_pos (by simp [hphase, hwarm, hfault])]
  · rw [if_neg hwarm]
    change Host.Outcome.next _ = _
    rw [if_pos (by simp [hphase, hwarm, hfault])]

theorem memoryTrainingFail_faults {s : State} (k : Fin 8) (hstandby : s.boot.standby = false) (hfail : s.boot.fail = 0)
    (hphase : s.boot.phase = 2 ∨ (s.boot.phase = 3 ∧ 6 ≤ k.val)) :
    ∃ s', exec (.memoryTrainingFail k) s = .next s' ∧ Only [.boot, .log, .fns, .out] s s' ∧ s'.boot.fail = k + 1 ∧
      s'.boot.causes.train = true ∧ s'.chipState = 5 := by
  obtain ⟨t, ht⟩ : ∃ t : State, t = { s with boot := { s.boot with fail := k + 1, causes := { s.boot.causes with train := true } } } := ⟨_, rfl⟩
  obtain ⟨u, hu⟩ : ∃ u, u = t.logRec 0x0060 0 4 none (k + 1 + 256 * t.boot.phase) := ⟨_, rfl⟩
  have hexec : exec (.memoryTrainingFail k) s = .next u.syncChip := by
    change Host.Outcome.next _ = _
    rw [if_pos ?_, hu, ht]
    have hk := k.isLt
    have h5 : s.boot.phase = 2 ∨ s.boot.phase = 3 ∧ 5 < k.val := hphase
    simp only [hfail, hstandby, Bool.and_eq_true, Bool.or_eq_true, decide_eq_true_eq, Bool.not_false, true_and]
    exact h5.imp (fun h => ⟨h, hk⟩) id
  have hlog : Only [.log, .fns, .out] t u := hu ▸ (t.logRec_tells ..).only
  have hsync := u.syncChip_spec.1.only
  obtain ⟨x, hx⟩ := u.syncChip_boot
  have hboot : u.syncChip.boot = { t.boot with lastState := x } := by rw [hx, hlog.boot.resolve_left (by decide)]
  have hcause : u.syncChip.boot.causes.train = true := by rw [hboot, ht]
  have hfirst : Only [.boot, .log, .fns, .out] s t := ht ▸ only_iff_mask.2 rfl
  refine ⟨_, hexec, hfirst.trans ((hlog.mono (by decide)).trans (hsync.mono (by decide))), by rw [hboot, ht], hcause, ?_⟩
  simp [State.chipState, State.faulted, hcause]

/-! ### BOOT_CONTINUE (19 R523) -/

theorem State.applyWrite_bootContinue (s : State) (who : Requester) (v : Nat) : s.applyWrite who 0x1010 3 v = s.bootContinue v := rfl

theorem bootContinue_answers {s : State} {who : Requester} (h : Takes s who 0x1010 3 1 1) :
    (s.boot.standby = true → ∃ s', exec (.bootContinue who 1) s = .next s' ∧ Only [.boot, .fns, .dict, .out] s s' ∧ Replied s s' who 0 0 ∧
      s'.boot.standby = false ∧ s'.boot.phase = s.boot.phase) ∧
    (s.boot.standby = false → ∃ s', exec (.bootContinue who 1) s = .next s' ∧ Only [.dict, .out] s s' ∧ Answered s s' who stState 0) := by
  have hexec := State.putRow_effect h (by decide) rfl (by decide) fun t => t.applyWrite_bootContinue who 1
  have hboot : (s.touch who).boot = s.boot := (s.touch_only who).boot.resolve_left (by decide)
  refine ⟨fun hstand => ?_, fun hstand => ?_⟩
  · obtain ⟨t, ht⟩ : ∃ t : State, t = { s.touch who with boot := { (s.touch who).boot with standby := false } } := ⟨_, rfl⟩
    have heffect : (s.touch who).bootContinue 1 = (0, t.syncChip) := by
      unfold State.bootContinue
      rw [if_neg (by simp [hboot, hstand]), if_neg (by decide), ht]
      rfl
    rw [heffect] at hexec
    obtain ⟨x, hx⟩ := t.syncChip_boot
    have htells : Tells [.boot, .fns, .out] (s.touch who) t.syncChip :=
      (Tells.silent (ht ▸ only_iff_mask.2 (mask_boot _ (by decide) _)) (by rw [ht])).trans t.syncChip_spec.1
    obtain ⟨honly, hreply⟩ := State.replied_touch 0 htells (l' := [.boot, .fns, .dict, .out]) (by decide)
    have hfinal : (t.syncChip.respond who 0 0).boot = { s.boot with standby := false, lastState := x } := by
      change t.syncChip.boot = _
      rw [hx, ht, hboot]
    exact ⟨_, hexec, honly, hreply, by rw [hfinal], by rw [hfinal]⟩
  · have heffect : (s.touch who).bootContinue 1 = (stState, s.touch who) := by
      unfold State.bootContinue
      rw [if_pos (by simp [hboot, hstand])]
    rw [heffect] at hexec
    exact ⟨_, hexec, State.answered_respond (l := []) stState (.refl _ _) (by decide) (by decide)⟩

/-- Settles O52: the milestones follow one another, from the first image that passes to a chip that is READY. -/
theorem bootSequence : Obligations.BootSequence := by
  unfold Obligations.BootSequence
  refine ⟨fun s => ⟨pwrgoodRise_up, pwrgoodRise_starts⟩, State.imageFails_none, fun s slots m n a b hpower hphase hm _ hn ha hb =>
      ⟨machenilUp_starts hpower hphase hm hn ha hb, fun hrom => ⟨machenilUp_waits hrom, bootRomRecheck_starts hpower hm hn ha hb hrom⟩⟩,
    fun s hpower hphase hfault => ⟨fusesLoaded_waits, fusesLoaded_starts hpower hphase hfault⟩,
    fun s hstandby hfault => ⟨fun hphase => ?_, fun hphase => ?_, fun hphase => plotsScrubbed_scrubs hphase hfault, readyAgain hstandby hfault,
      fun k => memoryTrainingFail_faults k hstandby⟩, fun s who => bootContinue_answers⟩
  · refine ⟨s.milestone 3, ?_, s.milestone_only 3, rfl, s.times_milestone 3⟩
    change Host.Outcome.next _ = _
    rw [if_pos (by simp [hphase, hstandby, hfault])]
  · refine ⟨s.milestone 4, ?_, s.milestone_only 4, rfl, s.times_milestone 4⟩
    change Host.Outcome.next _ = _
    rw [if_pos (by simp [hphase, hfault])]

end Sys2Proof.Machine
end

section
/-! PROOF. Stalemates: what the halt of one, its flood and its arrival do (21 R578, R579). -/

namespace Sys2Proof.Machine
open Sys2Proof.Safety

/-! ### Cycles -/

theorem State.cycles_le_elapse (s : State) (dt : Nat) : s.cyc.cycles ≤ (s.elapse dt).cyc.cycles := by
  unfold State.elapse
  split
  · exact le_rfl
  · dsimp only
    obtain ⟨y, hy⟩ := TallyOnly.foldl (fun t (r : Nat × Core) => t.countCore r.1 r.2 (s.cyclesIn dt).1)
      (fun t r => t.countCore_tallyOnly ..) s.cores
      { s with time := if bit s.boot.clk 1 then s.time else s.time.run s.cyc.ns dt
               cyc := { s.cyc with ns := s.cyc.ns + dt, cycles := s.cyc.cycles + (s.cyclesIn dt).1, frac := (s.cyclesIn dt).2 } }
    rw [hy]
    exact Nat.le_add_right ..

theorem State.cycles_le_elapseTo (s : State) (t : Nat) : s.cyc.cycles ≤ (s.elapseTo t).cyc.cycles :=
  List.foldlRecOn (motive := fun u : State => s.cyc.cycles ≤ u.cyc.cycles) _ _ le_rfl fun u hu _ _ => hu.trans (u.cycles_le_elapse _)

/-! ### The halt of one core (21 R574, R575) -/

theorem Core.canHalt_iff (c : Core) (cycle : Nat) : c.canHalt cycle = true ↔ c.ctl.st = .run ∧ c.fence.run = .none ∧
    (c.ctl.drain = .none ∨ c.ctl.drain = .halt ∧ c.dbg.haltAt.map Prod.fst = some cycle) := by
  simp [Core.canHalt, and_assoc]

/-- A halt with no breakpoint: the reason is the first of those of the cycle. -/
theorem State.core_halt {s : State} {n reason : Nat} (h : (s.core n).canHalt s.cyc.cycles = true)
    (hclear : (s.core n).ctl.drain = .halt → bits (s.core n).dbg.reason 15 8 = 0) : (s.halt n reason 0).core n =
    { s.core n with
      ctl := { (s.core n).ctl with drain := .halt }, sa := (s.core n).sa.unstall, sx := (s.core n).sx.unstall
      dbg := { (s.core n).dbg with
        reason := if (s.core n).ctl.drain = .halt then min ((s.core n).dbg.reason % 256) reason else reason
        single := false, haltAt := some (s.cyc.cycles, s.time.now)
        haltStepped := decide ((s.core n).ctl.drain = .halt) && (s.core n).dbg.haltStepped } } := by
  have hold : (if (s.core n).ctl.drain = .halt then bits (s.core n).dbg.reason 15 8 else 0) = 0 := by
    split
    · next hd => exact hclear hd
    · rfl
  have hlow : lowest8 0 = 0 := by decide
  have hor : Nat.lor 0 0 = 0 := rfl
  unfold State.halt
  simp only [h, hold, Bool.not_true, Bool.false_eq_true, if_false, hor, hlow, Nat.mul_zero, Nat.add_zero]
  rw [if_neg (by decide)]
  split
  · rw [State.core_setCore_self]
  · rw [State.core_tallyAdd, State.core_setCore_self]

/-- A core halted for a Stalemate: its reason, LATE where the time had passed, and whether a step of the count passed it. -/
structure StaleHalt (c : Core) (late stepped : Bool) : Prop where
  drain : c.ctl.drain = .halt
  reason : c.dbg.reason = if late then 1 + 2 ^ 19 else 1
  stepped : c.dbg.haltStepped = stepped

/-- What the halt of a Stalemate does to core `n` alone. -/
def State.staleHalt (s : State) (n : Nat) (late stepped : Bool) : State :=
  let t := s.haltEvent n haltStalemate 0 stepped
  if late then t.updCore n (fun c => { c with dbg := { c.dbg with reason := setBit c.dbg.reason 19 true } }) else t

theorem State.haltEvent_quiet (s : State) (n r m : Nat) (b : Bool) : Quiet s (s.haltEvent n r m b) n := by
  unfold State.haltEvent
  split
  · exact (Quiet.halt s n r m).trans (Quiet.setCore rfl fun u => by cases u <;> rfl)
  · exact .refl s n

theorem State.staleHalt_quiet (s : State) (n : Nat) (late stepped : Bool) : Quiet s (s.staleHalt n late stepped) n := by
  unfold State.staleHalt
  dsimp only
  split
  · exact (s.haltEvent_quiet ..).trans (Quiet.setCore rfl fun u => by cases u <;> rfl)
  · exact s.haltEvent_quiet ..

/-- A running core that takes no part in a drain is halted, and one the same Stalemate has halted stays as it was. -/
theorem State.staleHalt_halts {s : State} {n : Nat} {late stepped : Bool}
    (h : ((s.core n).canHalt s.cyc.cycles = true ∧ (s.core n).ctl.drain = .none) ∨ StaleHalt (s.core n) late stepped) :
    StaleHalt ((s.staleHalt n late stepped).core n) late stepped := by
  have hevent : ((s.haltEvent n haltStalemate 0 stepped).core n).ctl.drain = .halt ∧
      ((s.haltEvent n haltStalemate 0 stepped).core n).dbg.haltStepped = stepped ∧
      (((s.haltEvent n haltStalemate 0 stepped).core n).dbg.reason = 1 ∨
        ((s.haltEvent n haltStalemate 0 stepped).core n).dbg.reason = if late then 1 + 2 ^ 19 else 1) := by
    unfold State.haltEvent
    by_cases hcan : (s.core n).canHalt s.cyc.cycles = true
    · rw [if_pos hcan, State.updCore_eq, State.core_setCore_self]
      rcases h with ⟨-, hnone⟩ | ⟨hdrain, hreason, hstep⟩
      · rw [State.core_halt hcan (by simp [hnone])]
        simp [hnone, haltStalemate]
      · have hlow : bits (s.core n).dbg.reason 15 8 = 0 ∧ (s.core n).dbg.reason % 256 = 1 := by
          rw [hreason]
          cases late <;> decide
        rw [State.core_halt hcan fun _ => hlow.1]
        simp [hdrain, hstep, hlow.2, haltStalemate]
    · rw [if_neg hcan]
      rcases h with ⟨hyes, -⟩ | ⟨hdrain, hreason, hstep⟩
      · exact absurd hyes hcan
      · exact ⟨hdrain, hstep, .inr hreason⟩
  obtain ⟨hdrain, hstep, hreason⟩ := hevent
  unfold State.staleHalt
  dsimp only
  generalize s.haltEvent n haltStalemate 0 stepped = t at *
  cases late with
  | false => exact ⟨hdrain, by simpa using hreason, hstep⟩
  | true =>
    rw [if_pos rfl, State.updCore_eq, State.core_setCore_self]
    refine ⟨hdrain, ?_, hstep⟩
    rcases hreason with hr | hr
    · change setBit (t.core n).dbg.reason 19 true = _
      rw [hr]
      decide
    · change setBit (t.core n).dbg.reason 19 true = _
      rw [hr]
      decide

/-- The halts of a list of cores: each of them, and no other. -/
theorem staleHalt_foldl (late stepped : Bool) (l : List Nat) : ∀ s : State,
    Only [.cores, .tally] s (l.foldl (fun s n => s.staleHalt n late stepped) s) ∧
    (∀ n, (n ∈ l ∧ (s.core n).canHalt s.cyc.cycles = true ∧ (s.core n).ctl.drain = .none) ∨ StaleHalt (s.core n) late stepped →
      StaleHalt ((l.foldl (fun s n => s.staleHalt n late stepped) s).core n) late stepped) ∧
    ∀ n, n ∉ l → (l.foldl (fun s n => s.staleHalt n late stepped) s).core n = s.core n := by
  induction l with
  | nil => exact fun s => ⟨.refl _ s, fun n h => h.resolve_left (by simp), fun _ _ => rfl⟩
  | cons m l ih =>
    intro s
    have hm := s.staleHalt_quiet m late stepped
    obtain ⟨honly, hhalts, hothers⟩ := ih (s.staleHalt m late stepped)
    rw [List.foldl_cons]
    refine ⟨hm.only.trans honly, fun n h => hhalts n ?_, fun n hn => ?_⟩
    · by_cases hnm : n = m
      · subst hnm
        exact .inr (State.staleHalt_halts (h.imp_left fun hleft => hleft.2))
      · rw [hm.others n hnm, hm.only.cyc.resolve_left (by decide)]
        exact h.imp_left fun hleft => ⟨(List.mem_cons.1 hleft.1).resolve_left hnm, hleft.2⟩
    · rw [List.mem_cons, not_or] at hn
      rw [hothers n hn.2, hm.others n hn.1]

theorem State.mem_staleCores {s : State} {n : Nat} : n ∈ s.staleCores ↔
    (∃ p, p < 16 ∧ bit (s.obj 0x6020 2) p = true ∧ n ∈ s.coresOf p) ∧ (s.core n).canHalt s.cyc.cycles = true := by
  simp only [State.staleCores, List.mem_filter, List.mem_flatMap, mem_bitList, and_assoc]

/-- The halt of a Stalemate: every core of it that runs, and nothing else but the record and the armed time (21 R578). -/
theorem State.stalemate_spec (s : State) (late stepped : Bool) :
    Only [.cores, .tally, .log, .fns, .out, .objs] s (s.stalemate late stepped) ∧ (s.stalemate late stepped).obj 0x6020 1 = 0 ∧
    (s.stalemate late stepped).obj 0x6020 3 = s.obj 0x6020 3 ∧
    (∀ n, n ∈ s.staleCores → (s.core n).ctl.drain = .none → StaleHalt ((s.stalemate late stepped).core n) late stepped) ∧
    ∀ n, n ∉ s.staleCores → (s.stalemate late stepped).core n = s.core n := by
  obtain ⟨t, ht⟩ : ∃ t, t = s.staleCores.foldl (fun s n => s.staleHalt n late stepped) s := ⟨_, rfl⟩
  have hstale : s.stalemate late stepped = (t.logRecS 0x0072 0 0 none s.staleCores.length stepped).setObj 0x6020 1 0 := by
    rw [ht]
    rfl
  obtain ⟨honly, hhalts, hothers⟩ := staleHalt_foldl late stepped s.staleCores s
  rw [← ht] at honly hhalts hothers
  have hlog := t.logRecS_only 0x0072 0 0 none s.staleCores.length stepped
  rw [hstale]
  generalize t.logRecS 0x0072 0 0 none s.staleCores.length stepped = u at hlog
  have hcore : ∀ n, (u.setObj 0x6020 1 0).core n = t.core n := fun n => State.core_congr (hlog.cores.resolve_left (by decide)) n
  refine ⟨(honly.mono (by decide)).trans ((hlog.mono (by decide)).trans (only_iff_mask.2 (mask_objs u (by decide) _))),
    State.obj_setObj_self .., ?_, fun n hn hnone => ?_, fun n hn => ?_⟩
  · rw [State.obj_setObj_ne (h := by decide), State.obj_of_only hlog (by decide), State.obj_of_only honly (by decide)]
  · rw [hcore]
    exact hhalts n (.inl ⟨hn, (State.mem_staleCores.1 hn).2, hnone⟩)
  · rw [hcore, hothers n hn]

/-! ### The flood (21 R579) -/

theorem State.flood_only (s : State) (e : Option Nat) (op id time pavs resume : Nat) : Only [.ports] s (s.flood e op id time pavs resume) :=
  Only.foldl _ (fun t _ => t.setPort_only ..) _ s

/-- A run that queues one message at each port of a list: a port of it holds one more. -/
theorem length_tx_foldl (g : State → Nat → TxMsg) (l : List Nat) (hl : l.Nodup) (q : Nat) : ∀ s : State,
    ((l.foldl (fun s q => s.updPort q (fun p => { p with tx := p.tx ++ [g s q] })) s).port q).tx.length =
      (s.port q).tx.length + if q ∈ l then 1 else 0 := by
  induction l with
  | nil => exact fun s => by simp
  | cons r l ih =>
    intro s
    obtain ⟨hr, hrest⟩ := List.nodup_cons.1 hl
    rw [List.foldl_cons, ih hrest]
    change ((s.setPort r _).port q).tx.length + _ = _
    rw [State.port_setPort]
    by_cases hqr : q = r
    · subst hqr
      simp [hr]
    · simp [hqr]

/-- The message that a flood queues at port `q`. -/
def State.floodTx (s : State) (op id time pavs resume q : Nat) : TxMsg :=
  let m := staleMsg s.wireChip (((s.port q).peer.map (·.1)).getD 0) op id time pavs resume
  { vc := s.dateline none q, pav := 0, inPort := none, flits := m.flits (s.dateline none q), whole := true, started := false, hdr := m,
    core := 0, cmd := 0, frame := s.frame }

/-- A flood adds one message to every port that is UP, but the one it came on. -/
theorem State.flood_sends (s : State) (op id time pavs resume : Nat) {q : Nat} (hq : q < 64) (hup : s.portUp q = true) :
    ((s.flood none op id time pavs resume).port q).tx.length = (s.port q).tx.length + 1 := by
  refine (length_tx_foldl (fun s q => s.floodTx op id time pavs resume q) _ (List.nodup_range.filter _) q s).trans ?_
  rw [if_pos (by simp [hq, hup])]

/-! ### The arrival of a Stalemate (21 R579) -/

/-- A Stalemate that is taken in leaves the links' queues alone changed. -/
theorem State.takeStale_spec {s t : State} {op q : Nat} {m : Msg} (h : s.takeStale op = some (m, q, t)) :
    Only [.link] s t ∧ t.link.stIds = s.link.stIds := by
  unfold State.takeStale at h
  dsimp only at h
  split at h
  · cases h
  · cases h
    exact ⟨only_iff_mask.2 rfl, rfl⟩

/-- The armed state that a message brings. -/
def State.staleArmed (s : State) (op : Nat) (m : Msg) : State :=
  if op = 1 then ((s.setObj 0x6020 1 m.arg1).setObj 0x6020 2 m.stalePavs).setObj 0x6020 3 m.staleResume
  else (s.setObj 0x6020 1 0).setObj 0x6020 3 0

theorem State.staleArmed_spec (s : State) (op : Nat) (m : Msg) : Only [.objs] s (s.staleArmed op m) ∧
    (s.staleArmed op m).obj 0x6020 1 = (if op = 1 then m.arg1 else 0) ∧
    (s.staleArmed op m).obj 0x6020 3 = (if op = 1 then m.staleResume else 0) ∧
    (s.staleArmed op m).obj 0x6020 2 = (if op = 1 then m.stalePavs else s.obj 0x6020 2) ∧
    ∀ p, p < 16 → (s.staleArmed op m).coresOf p = s.coresOf p := by
  have hp : ∀ p, p < 16 → ∀ x, x < 4 → okey (0x3000 + 16 * p) 2 ≠ okey 0x6020 x := by
    intro p hp x hx h
    unfold okey at h
    omega
  unfold State.staleArmed
  by_cases hop : op = 1
  · rw [if_pos hop, if_pos hop, if_pos hop, if_pos hop]
    refine ⟨only_iff_mask.2 rfl, ?_, State.obj_setObj_self .., ?_, fun p hlt => ?_⟩
    · rw [State.obj_setObj_ne (h := by decide), State.obj_setObj_ne (h := by decide), State.obj_setObj_self]
    · rw [State.obj_setObj_ne (h := by decide), State.obj_setObj_self]
    · unfold State.coresOf State.pavCores
      rw [State.obj_setObj_ne (h := hp p hlt 3 (by decide)), State.obj_setObj_ne (h := hp p hlt 2 (by decide)),
        State.obj_setObj_ne (h := hp p hlt 1 (by decide))]
  · rw [if_neg hop, if_neg hop, if_neg hop, if_neg hop]
    refine ⟨only_iff_mask.2 rfl, ?_, State.obj_setObj_self .., ?_, fun p hlt => ?_⟩
    · rw [State.obj_setObj_ne (h := by decide), State.obj_setObj_self]
    · rw [State.obj_setObj_ne (h := by decide), State.obj_setObj_ne (h := by decide)]
    · unfold State.coresOf State.pavCores
      rw [State.obj_setObj_ne (h := hp p hlt 3 (by decide)), State.obj_setObj_ne (h := hp p hlt 1 (by decide))]

/-- A Stalemate whose ID is new is noted, armed, recorded and passed on; one whose time has passed halts at once. -/
theorem State.staleReceived_new {s t : State} {op q : Nat} {m : Msg} (h : s.takeStale op = some (m, q, t))
    (hnew : m.arg0 / 2 ^ 32 % 2 ^ 32 ∉ s.link.stIds) :
    ∃ u, s.staleReceived op = (if op = 1 ∧ m.arg1 ≠ 0 ∧ m.arg1 < s.time.now then u.stalemate true false else u) ∧
      Only [.link, .objs, .log, .fns, .out, .ports] s u ∧ u.link = { t.link with stIds := (m.arg0 / 2 ^ 32 % 2 ^ 32 :: s.link.stIds).take 16 } ∧
      u.objs = (t.staleArmed op m).objs := by
  obtain ⟨htake, hids⟩ := State.takeStale_spec h
  obtain ⟨v, hv⟩ : ∃ v, v = (t.noteStale (m.arg0 / 2 ^ 32 % 2 ^ 32)).staleArmed op m := ⟨_, rfl⟩
  obtain ⟨late, hlate⟩ : ∃ late, late = (op = 1 && m.arg1 ≠ 0 && decide (m.arg1 < v.time.now)) := ⟨_, rfl⟩
  obtain ⟨w, hw⟩ : ∃ w, w = v.logRec 0x0071 0 0 none (m.arg0 / 2 ^ 32 % 2 ^ 32 + m.arg1 % 2 ^ 63 * 2 ^ 32 + b2n late * 2 ^ 95) := ⟨_, rfl⟩
  have hnote : Only [.link] t (t.noteStale (m.arg0 / 2 ^ 32 % 2 ^ 32)) := only_iff_mask.2 rfl
  have harm : Only [.objs] (t.noteStale (m.arg0 / 2 ^ 32 % 2 ^ 32)) v := hv ▸ (State.staleArmed_spec ..).1
  have hlog : Only [.log, .fns, .out] v w := hw ▸ (v.logRec_tells ..).only
  have hflood := w.flood_only (some q) op (m.arg0 / 2 ^ 32 % 2 ^ 32) m.arg1 m.stalePavs m.staleResume
  have hall : Only [.link, .objs, .log, .fns, .out] s w := (htake.mono (by decide)).trans ((hnote.mono (by decide)).trans
    ((harm.mono (by decide)).trans (hlog.mono (by decide))))
  have hnow : v.time = s.time := (harm.time.resolve_left (by decide)).trans
    ((hnote.time.resolve_left (by decide)).trans (htake.time.resolve_left (by decide)))
  refine ⟨w.flood (some q) op (m.arg0 / 2 ^ 32 % 2 ^ 32) m.arg1 m.stalePavs m.staleResume, ?_,
    (hall.mono (by decide)).trans (hflood.mono (by decide)), ?_, ?_⟩
  · unfold State.staleReceived
    rw [h]
    dsimp only
    rw [if_neg (by rw [hids]; simpa using hnew)]
    have hcond : (op = 1 ∧ m.arg1 ≠ 0 ∧ m.arg1 < s.time.now) ↔ late = true := by
      rw [hlate, hnow]
      simp [and_assoc]
    simp only [hcond]
    rw [hw, hlate, hv]
    rfl
  · rw [hflood.link.resolve_left (by decide), hlog.link.resolve_left (by decide), harm.link.resolve_left (by decide), ← hids]
    rfl
  · rw [hflood.objs.resolve_left (by decide), hlog.objs.resolve_left (by decide), hv]
    unfold State.staleArmed
    split <;> rfl

end Sys2Proof.Machine
end

section
/-! PROOF. Stalemates at their times, halts and resumes by object, and SNAP_TIME (21 R574 to R580; 22 R591). -/

namespace Sys2Proof.Machine
open Sys2Proof.Safety

theorem State.steppedPast_congr {s t : State} (h : t.cyc = s.cyc) (x : Nat) : t.steppedPast x = s.steppedPast x := by
  unfold State.steppedPast
  rw [h]

/-! ### Stalemates (21 R578, R579) -/

section
variable {s t : State} {m : Msg} {q op : Nat} {c : Instr} (htake : s.takeStale op = some (m, q, t))
  (hop : (op = 1 ∧ c = .stalemateArmReceived) ∨ (op = 2 ∧ c = .stalemateCancelReceived)) (hclk : s.power.clockOn = true)
include hop hclk in
theorem exec_stalemateReceived : exec c s = .next (s.staleReceived op) := by
  rcases hop with ⟨rfl, rfl⟩ | ⟨rfl, rfl⟩
  · exact State.clocked_on (fun s => s.staleReceived 1) hclk
  · exact State.clocked_on (fun s => s.staleReceived 2) hclk

include htake hop hclk

theorem staleReceived_known (hknown : m.arg0 / 2 ^ 32 % 2 ^ 32 ∈ s.link.stIds) : ∃ s', exec c s = .next s' ∧ s' = t := by
  refine ⟨t, (exec_stalemateReceived hop hclk).trans ?_, rfl⟩
  obtain ⟨-, hids⟩ := State.takeStale_spec htake
  unfold State.staleReceived
  rw [htake]
  dsimp only
  rw [if_pos (by rw [hids]; simpa using hknown)]

theorem staleReceived_arms (hnew : m.arg0 / 2 ^ 32 % 2 ^ 32 ∉ s.link.stIds) (hdue : op = 2 ∨ m.arg1 = 0 ∨ s.time.now ≤ m.arg1) :
    ∃ s', exec c s = .next s' ∧ s'.cores = s.cores ∧ s'.link.delivered = t.link.delivered ∧
      s'.link.stIds = (m.arg0 / 2 ^ 32 % 2 ^ 32 :: s.link.stIds).take 16 ∧ s'.obj 0x6020 1 = (if op = 1 then m.arg1 else 0) ∧
      s'.obj 0x6020 3 = (if op = 1 then m.staleResume else 0) ∧ s'.obj 0x6020 2 = (if op = 1 then m.stalePavs else s.obj 0x6020 2) := by
  obtain ⟨u, hu, honly, hlink, hobjs⟩ := State.staleReceived_new htake hnew
  rw [if_neg (by omega)] at hu
  obtain ⟨-, htime, hresume, hpavs, -⟩ := t.staleArmed_spec op m
  have hsame : t.obj 0x6020 2 = s.obj 0x6020 2 := State.obj_of_only (State.takeStale_spec htake).1 (by decide) ..
  refine ⟨u, (exec_stalemateReceived hop hclk).trans (congrArg _ hu), honly.cores.resolve_left (by decide), by rw [hlink], by rw [hlink], ?_, ?_, ?_⟩
  · rw [State.obj_congr hobjs, htime]
  · rw [State.obj_congr hobjs, hresume]
  · rw [State.obj_congr hobjs, hpavs, hsame]

theorem staleReceived_late (hnew : m.arg0 / 2 ^ 32 % 2 ^ 32 ∉ s.link.stIds) (hone : op = 1) (hset : m.arg1 ≠ 0) (hlate : m.arg1 < s.time.now) :
    ∃ s', exec c s = .next s' ∧ s'.link.delivered = t.link.delivered ∧ s'.obj 0x6020 1 = 0 ∧ s'.obj 0x6020 3 = m.staleResume ∧
      ∀ p n, p < 16 → bit m.stalePavs p = true → n ∈ s.coresOf p → (s.core n).ctl.st = .run → (s.core n).ctl.drain = .none →
        (s.core n).fence.run = .none → (s'.core n).ctl.drain = .halt ∧ (s'.core n).dbg.reason % 256 = 1 ∧
          bit (s'.core n).dbg.reason 19 = true := by
  obtain ⟨u, hu, honly, hlink, hobjs⟩ := State.staleReceived_new htake hnew
  rw [if_pos ⟨hone, hset, hlate⟩] at hu
  obtain ⟨-, -, hresume, hpavs, hcoresOf⟩ := t.staleArmed_spec op m
  obtain ⟨hstale, hdone, hkept, hhalts, -⟩ := u.stalemate_spec true false
  have htonly := (State.takeStale_spec htake).1
  refine ⟨_, (exec_stalemateReceived hop hclk).trans (congrArg _ hu), ?_, hdone, ?_, fun p n hp hbit hn hrun hdrain hfence => ?_⟩
  · rw [hstale.link.resolve_left (by decide), hlink]
  · rw [hkept, State.obj_congr hobjs, hresume, if_pos hone]
  · have hcore : u.core n = s.core n := State.core_congr (honly.cores.resolve_left (by decide)) n
    have hof : u.coresOf p = s.coresOf p := by
      have hsame : u.coresOf p = (t.staleArmed op m).coresOf p := by
        unfold State.coresOf State.pavCores
        rw [State.obj_congr hobjs]
      rw [hsame, hcoresOf p hp]
      unfold State.coresOf State.pavCores
      rw [State.obj_of_only htonly (by decide)]
    have hmem : n ∈ u.staleCores := by
      refine State.mem_staleCores.2 ⟨⟨p, hp, ?_, by rwa [hof]⟩, ?_⟩
      · rw [State.obj_congr hobjs, hpavs, if_pos hone]
        exact hbit
      · rw [hcore]
        exact (Core.canHalt_iff ..).2 ⟨hrun, hfence, .inl hdrain⟩
    obtain ⟨hhalt, hreason, -⟩ := hhalts n hmem (by rw [hcore]; exact hdrain)
    rw [hreason]
    exact ⟨hhalt, by decide, by decide⟩

end

theorem stalemateHalt_waits {s : State} (hclk : s.power.clockOn = true) (hturn : s.turn { at_ := s.obj 0x6020 1, rank := 1 } = false) :
    exec .stalemateHalt s = .next s := by
  refine (State.clocked_on _ hclk : execStalemateHalt s = _).trans (congrArg _ ?_)
  exact if_pos (by simp [hturn])

theorem stalemateHalt_halts {s : State} (hset : s.obj 0x6020 1 ≠ 0) (hclk : s.power.clockOn = true)
    (hturn : s.turn { at_ := s.obj 0x6020 1, rank := 1 } = true) :
    ∃ s', exec .stalemateHalt s = .next s' ∧ s'.obj 0x6020 1 = 0 ∧ (Steady s → s.obj 0x6020 1 ≤ s'.time.now) ∧
      (∀ n, n ∈ s.staleCores → (s.core n).ctl.drain = .none → (s'.core n).ctl.drain = .halt ∧ (s'.core n).dbg.reason = 1 ∧
        (s'.core n).dbg.haltStepped = s'.steppedPast (s.obj 0x6020 1)) ∧
      ∀ n, n ∉ s.staleCores → (∀ x, (s.core n).dbg.haltAt = some x → x.1 ≤ s.cyc.cycles) → s'.core n = s.core n := by
  obtain ⟨u, hu⟩ : ∃ u, u = s.elapseTo (s.obj 0x6020 1) := ⟨_, rfl⟩
  have hexec : exec .stalemateHalt s = .next (u.stalemate false (u.steppedPast (s.obj 0x6020 1))) := by
    refine (State.clocked_on _ hclk : execStalemateHalt s = _).trans (congrArg _ ?_)
    rw [hu]
    exact if_neg (by simp [hset, hturn])
  have helapse : Only [.time, .cyc, .pavs, .tally] s u := hu ▸ s.elapseTo_only _
  have hcore : ∀ n, u.core n = s.core n := State.core_congr (helapse.cores.resolve_left (by decide))
  have hobj : ∀ i x, u.obj i x = s.obj i x := State.obj_of_only helapse (by decide)
  have hle : s.cyc.cycles ≤ u.cyc.cycles := hu ▸ s.cycles_le_elapseTo _
  obtain ⟨honly, hdone, -, hhalts, hothers⟩ := u.stalemate_spec false (u.steppedPast (s.obj 0x6020 1))
  have hpast : (u.stalemate false (u.steppedPast (s.obj 0x6020 1))).steppedPast (s.obj 0x6020 1) = u.steppedPast (s.obj 0x6020 1) :=
    State.steppedPast_congr (honly.cyc.resolve_left (by decide)) _
  have hof : ∀ p, u.coresOf p = s.coresOf p := fun p => by
    unfold State.coresOf State.pavCores
    rw [hobj]
  refine ⟨_, hexec, hdone, fun hsteady => ?_, fun n hn hnone => ?_, fun n hn hhalt => ?_⟩
  · rw [honly.time.resolve_left (by decide), hu]
    exact State.le_elapseTo_steady hsteady _
  · obtain ⟨⟨p, hp, hbit, hmem⟩, hcan⟩ := State.mem_staleCores.1 hn
    obtain ⟨hrun, hfence, -⟩ := (Core.canHalt_iff ..).1 hcan
    have hmemU : n ∈ u.staleCores := State.mem_staleCores.2 ⟨⟨p, hp, by rwa [hobj], by rwa [hof]⟩, by
      rw [hcore]
      exact (Core.canHalt_iff ..).2 ⟨hrun, hfence, .inl hnone⟩⟩
    obtain ⟨hdrain, hreason, hstep⟩ := hhalts n hmemU (by rw [hcore]; exact hnone)
    exact ⟨hdrain, hreason, hstep.trans hpast.symm⟩
  · refine (hothers n fun hmemU => hn ?_).trans (hcore n)
    obtain ⟨⟨p, hp, hbit, hmem⟩, hcan⟩ := State.mem_staleCores.1 hmemU
    rw [hcore] at hcan
    obtain ⟨hrun, hfence, hdrain⟩ := (Core.canHalt_iff ..).1 hcan
    refine State.mem_staleCores.2 ⟨⟨p, hp, by rwa [hobj] at hbit, by rwa [hof] at hmem⟩, (Core.canHalt_iff ..).2 ⟨hrun, hfence, ?_⟩⟩
    refine hdrain.imp_right fun ⟨hd, hat⟩ => ⟨hd, ?_⟩
    -- A core halted in the cycle in which the time is reached was halted in this very cycle.
    obtain ⟨x, hx, hxc⟩ := Option.map_eq_some_iff.1 hat
    have hx1 := hhalt x hx
    rw [hx, Option.map_some, Option.some_inj]
    omega

/-! ### Resumes (21 R574, R576; 22 R591) -/

/-- A halted core goes on as it was, but that each WAITCNT counts its limit afresh. -/
def Core.goOn (c : Core) (f : Nat) (single : Bool) : Core :=
  { c with ctl := { c.ctl with st := .run, drain := .none }, dbg := { c.dbg with single := single }
           sa := { c.sa.relimit f with resumed := true, singled := false }, sx := { c.sx.relimit f with resumed := true, singled := false } }

theorem State.resumeCore_quiet (s : State) (n : Nat) (single : Bool) :
    Quiet (s.setCore n ((s.core n).goOn s.frame single)) (s.resumeCore n single) n := Quiet.checkCntBps _ n

theorem State.st_resumeCore (s : State) (n : Nat) (single : Bool) : ((s.resumeCore n single).core n).ctl.st = .run := by
  have h := eq_of_still (s.resumeCore_quiet n single).rest (·.ctl.st) fun _ => rfl
  rw [State.core_setCore_self] at h
  exact h

theorem State.resumeCore_only (s : State) (n : Nat) (single : Bool) : Only [.cores, .tally] s (s.resumeCore n single) :=
  ((s.setCore_only ..).mono (by decide)).trans (s.resumeCore_quiet n single).only

theorem State.resumeCore_others (s : State) (n : Nat) (single : Bool) : OtherCores n s (s.resumeCore n single) := fun m hm =>
  ((s.resumeCore_quiet n single).others m hm).trans (by rw [State.core_setCore, if_neg hm])

theorem resumeCore_foldl (l : List Nat) : ∀ s : State, Only [.cores, .tally] s (l.foldl (fun s n => s.resumeCore n false) s) ∧
    (∀ n, n ∈ l ∨ (s.core n).ctl.st = .run → ((l.foldl (fun s n => s.resumeCore n false) s).core n).ctl.st = .run) ∧
    ∀ n, n ∉ l → (l.foldl (fun s n => s.resumeCore n false) s).core n = s.core n := by
  induction l with
  | nil => exact fun s => ⟨.refl _ s, fun n h => h.resolve_left (by simp), fun _ _ => rfl⟩
  | cons m l ih =>
    intro s
    obtain ⟨honly, hruns, hothers⟩ := ih (s.resumeCore m false)
    rw [List.foldl_cons]
    refine ⟨(s.resumeCore_only m false).trans honly, fun n h => hruns n ?_, fun n hn => ?_⟩
    · by_cases hnm : n = m
      · exact .inr (hnm ▸ s.st_resumeCore n false)
      · rw [s.resumeCore_others m false n hnm]
        exact h.imp_left fun hmem => (List.mem_cons.1 hmem).resolve_left hnm
    · rw [List.mem_cons, not_or] at hn
      rw [hothers n hn.2, s.resumeCore_others m false n hn.1]

theorem stalemateResume_resumes {s : State} (hset : s.obj 0x6020 3 ≠ 0) (hclk : s.power.clockOn = true) :
    ∃ s', exec .stalemateResume s = .next s' ∧ s'.obj 0x6020 3 = 0 ∧
      (∀ n, n < 144 → (s.core n).ctl.st = .halted → (s.core n).dbg.reason % 256 = 1 → (s'.core n).ctl.st = .run) ∧
      ∀ n, ¬((s.core n).ctl.st = .halted ∧ (s.core n).dbg.reason % 256 = 1) → s'.core n = s.core n := by
  obtain ⟨u, hu⟩ : ∃ u, u = s.elapseTo (s.obj 0x6020 3) := ⟨_, rfl⟩
  obtain ⟨l, hl⟩ : ∃ l, l = (List.range 144).filter fun n => (u.core n).ctl.st = .halted && (u.core n).dbg.reason % 256 = haltStalemate := ⟨_, rfl⟩
  have hexec : exec .stalemateResume s = .next ((l.foldl (fun s n => s.resumeCore n false) u).setObj 0x6020 3 0) := by
    refine (State.clocked_on _ hclk : execStalemateResume s = _).trans (congrArg _ ?_)
    rw [hl, hu]
    exact if_neg hset
  have hcore : ∀ n, u.core n = s.core n := State.core_congr ((hu ▸ s.elapseTo_only _ : Only [.time, .cyc, .pavs, .tally] s u).cores.resolve_left (by decide))
  have hmem : ∀ n, n ∈ l ↔ n < 144 ∧ (s.core n).ctl.st = .halted ∧ (s.core n).dbg.reason % 256 = 1 := fun n => by
    simp [hl, hcore, haltStalemate]
  obtain ⟨-, hruns, hothers⟩ := resumeCore_foldl l u
  refine ⟨_, hexec, State.obj_setObj_self .., fun n hn hhalt hreason => ?_, fun n hno => ?_⟩
  · exact hruns n (.inl ((hmem n).2 ⟨hn, hhalt, hreason⟩))
  · exact (hothers n fun h => hno ((hmem n).1 h).2).trans (hcore n)

/-! ### Objects of the debugger (21 R576, R579) -/

theorem State.applyWrite_stalemateFlood (s : State) (who : Requester) (v : Nat) : s.applyWrite who 0x6020 4 v = s.stalemateFlood v := rfl

theorem stalemateFlood_floods {s : State} {who : Requester} (h : Takes s who 0x6020 4 1 1) :
    ∃ s', exec (.stalemateFlood who 1) s = .next s' ∧ Only [.link, .ports, .dict, .out] s s' ∧ Answered s s' who 0 0 ∧
      s'.link.stSeq = s.link.stSeq + 1 ∧
      s'.link.stIds = ((s.chipId % 2 ^ 15 * 2 ^ 17 + s.link.stSeq % 2 ^ 17) :: s.link.stIds).take 16 ∧
      ∀ q, q < 64 → s.portUp q = true → (s'.port q).tx.length = (s.port q).tx.length + 1 := by
  have hexec := State.putRow_effect h (by decide) rfl (by decide) fun t => t.applyWrite_stalemateFlood who 1
  have htouch := s.touch_only who
  have hlink : (s.touch who).link = s.link := htouch.link.resolve_left (by decide)
  have hports : (s.touch who).ports = s.ports := htouch.ports.resolve_left (by decide)
  have hchip : (s.touch who).chipId = s.chipId := State.obj_of_only htouch (by decide) ..
  obtain ⟨u, hu⟩ : ∃ u : State, u = ({ s.touch who with link := { (s.touch who).link with stSeq := (s.touch who).link.stSeq + 1 } } : State).noteStale
    ((s.touch who).chipId % 2 ^ 15 * 2 ^ 17 + (s.touch who).link.stSeq % 2 ^ 17) := ⟨_, rfl⟩
  have hfirst : Only [.link] (s.touch who) u := hu ▸ only_iff_mask.2 rfl
  have huports : ∀ q, u.port q = s.port q := fun q => by
    rw [State.port_congr (hfirst.ports.resolve_left (by decide)), State.port_congr hports]
  obtain ⟨op, id, time, pavs, resume, heffect⟩ : ∃ op id time pavs resume, (s.touch who).stalemateFlood 1 =
      (0, u.flood none op id time pavs resume) := ⟨_, _, _, _, _, by rw [hu]; rfl⟩
  rw [heffect] at hexec
  have hflood := u.flood_only none op id time pavs resume
  obtain ⟨honly, hanswer⟩ := State.answered_respond (who := who) (l := [.link, .ports]) 0
    ((hfirst.mono (by decide)).trans (hflood.mono (by decide))) (by decide) (l' := [.link, .ports, .dict, .out]) (by decide)
  have hnew : ((u.flood none op id time pavs resume).respond who 0 0).link =
      { s.link with stSeq := s.link.stSeq + 1, stIds := ((s.chipId % 2 ^ 15 * 2 ^ 17 + s.link.stSeq % 2 ^ 17) :: s.link.stIds).take 16 } := by
    change (u.flood none op id time pavs resume).link = _
    rw [hflood.link.resolve_left (by decide), hu, ← hchip, ← hlink]
    rfl
  refine ⟨_, hexec, honly, hanswer, by rw [hnew], by rw [hnew], fun q hq hup => ?_⟩
  change ((u.flood none op id time pavs resume).port q).tx.length = _
  rw [u.flood_sends op id time pavs resume hq (by unfold State.portUp at hup ⊢; rwa [huports]), huports]

/-- A checked write acts on the state in which its record has arrived. -/
theorem State.putRow_touch {s : State} {who : Requester} {i sub len v : Nat} (h : Takes s who i sub len v) (hlt : v < 256 ^ len)
    (hkeep : objKeep i sub v = v) (hown : i ≠ 0x1200) :
    s.putRow who i sub len v = .next (((s.touch who).applyWrite who i sub v).2.respond who ((s.touch who).applyWrite who i sub v).1 0) :=
  State.putRow_effect h hlt hkeep hown fun _ => rfl

theorem StreamSt.pc_relimit (t : StreamSt) (f : Nat) : (t.relimit f).pc = t.pc := by
  unfold StreamSt.relimit
  split <;> rfl

/-- A core none of whose COUNTER breakpoints has been reached runs on. -/
theorem State.resumeCore_of_clear {s : State} {n : Nat} {single : Bool}
    (hbp : (s.core n).bpMask (fun _ b => b.kind = 3 && cntReached ((s.core n).cnt b.cnt) (b.mtch.setWidth 32)) = 0) :
    s.resumeCore n single = s.setCore n ((s.core n).goOn s.frame single) := by
  change (s.setCore n ((s.core n).goOn s.frame single)).checkCntBps n = _
  have hmask : ((s.setCore n ((s.core n).goOn s.frame single)).core n).bpMask (fun _ b => b.kind = 3 &&
      cntReached (((s.setCore n ((s.core n).goOn s.frame single)).core n).cnt b.cnt) (b.mtch.setWidth 32)) = 0 := by
    rw [State.core_setCore_self]
    exact hbp
  unfold State.checkCntBps
  dsimp only
  rw [hmask, if_pos rfl, ite_self]

section
variable {s : State} {who : Requester} {n : Nat} (hsel : s.dbgCore who = .ok n)
include hsel

theorem State.dbgCore_touch : (s.touch who).dbgCore who = .ok n := by
  have h := s.touch_only who
  have hpav : ∀ p, (s.touch who).pavCores p = s.pavCores p := fun p => State.obj_of_only h (by decide) ..
  rw [← hsel]
  unfold State.dbgCore
  rw [State.req_congr (h.reqs.resolve_left (by decide)), s.role_touch who]
  simp only [hpav]

theorem State.applyWrite_dbgHalt (v : Nat) : (s.touch who).applyWrite who 0x6010 4 v = (s.touch who).dbgHalt n v := by
  have h : (s.touch who).applyWrite who 0x6010 4 v = (match (s.touch who).dbgCore who with
    | .ok n => (s.touch who).dbgHalt n v
    | .error e => (e, s.touch who)) := rfl
  rw [h, State.dbgCore_touch hsel]

theorem State.applyWrite_dbgResume (v : Nat) : (s.touch who).applyWrite who 0x6010 5 v = (s.touch who).dbgResume n v := by
  have h : (s.touch who).applyWrite who 0x6010 5 v = (match (s.touch who).dbgCore who with
    | .ok n => (s.touch who).dbgResume n v
    | .error e => (e, s.touch who)) := rfl
  rw [h, State.dbgCore_touch hsel]

theorem dbgHalt_halts (h : Takes s who 0x6010 4 1 1) (hrun : (s.core n).ctl.st = .run) (hdrain : (s.core n).ctl.drain = .none)
    (hfence : (s.core n).fence.run = .none) :
    ∃ s', exec (.dbgHalt who 1) s = .next s' ∧ Only [.cores, .tally, .dict, .out] s s' ∧ OtherCores n s s' ∧ Answered s s' who 0 0 ∧
      (s'.core n).ctl.drain = .halt ∧ (s'.core n).dbg.reason = haltExternal := by
  have hput := State.putRow_touch h (by decide) rfl (by decide)
  have hcore : ∀ m, (s.touch who).core m = s.core m := State.core_congr ((s.touch_only who).cores.resolve_left (by decide))
  have heffect : (s.touch who).dbgHalt n 1 = (0, (s.touch who).halt n haltExternal 0) := by
    unfold State.dbgHalt
    rw [hcore, hrun]
    rfl
  rw [State.applyWrite_dbgHalt hsel, heffect] at hput
  have hquiet := Quiet.halt (s.touch who) n haltExternal 0
  obtain ⟨honly, hanswer⟩ := State.answered_respond (who := who) 0 hquiet.only (by decide) (l' := [.cores, .tally, .dict, .out]) (by decide)
  have hhalt := State.core_halt (s := s.touch who) (n := n) (reason := haltExternal)
    ((Core.canHalt_iff ..).2 (by rw [hcore]; exact ⟨hrun, hfence, .inl hdrain⟩)) (by rw [hcore, hdrain]; exact nofun)
  refine ⟨_, hput, honly, fun m hm => (hquiet.others m hm).trans (hcore m), hanswer, ?_, ?_⟩
  · change (((s.touch who).halt n haltExternal 0).core n).ctl.drain = _
    rw [hhalt]
  · change (((s.touch who).halt n haltExternal 0).core n).dbg.reason = _
    rw [hhalt]
    exact if_neg (by rw [hcore, hdrain]; exact nofun)

theorem dbgHalt_refused (h : Takes s who 0x6010 4 1 1) (hrun : (s.core n).ctl.st ≠ .run) (hhalt : (s.core n).ctl.st ≠ .halted) :
    ∃ s', exec (.dbgHalt who 1) s = .next s' ∧ Only [.dict, .out] s s' ∧ Answered s s' who stState 0 := by
  have hput := State.putRow_touch h (by decide) rfl (by decide)
  have hcore : (s.touch who).core n = s.core n := State.core_congr ((s.touch_only who).cores.resolve_left (by decide)) n
  have heffect : (s.touch who).dbgHalt n 1 = (stState, s.touch who) := by
    unfold State.dbgHalt
    rw [hcore]
    split
    · next hst => exact absurd hst hrun
    · next hst => exact absurd hst hhalt
    · rfl
  rw [State.applyWrite_dbgHalt hsel, heffect] at hput
  exact ⟨_, hput, State.answered_respond (l := []) stState (.refl _ _) (by decide) (by decide)⟩

section
variable {v : Nat} {c : Instr} (hc : (v = 1 ∧ c = Instr.dbgResumeRun who) ∨ (v = 2 ∧ c = Instr.dbgResumeSingle who))
  (h : Takes s who 0x6010 5 1 v)
include hc h

theorem exec_dbgResume : exec c s = .next (((s.touch who).dbgResume n v).2.respond who ((s.touch who).dbgResume n v).1 0) := by
  have hput : exec c s = s.putRow who 0x6010 5 1 v := by
    rcases hc with ⟨rfl, rfl⟩ | ⟨rfl, rfl⟩ <;> rfl
  rw [hput, State.putRow_touch h (by omega) rfl (by decide), State.applyWrite_dbgResume hsel]

theorem dbgResume_refused (hhalt : (s.core n).ctl.st ≠ .halted) :
    ∃ s', exec c s = .next s' ∧ Only [.dict, .out] s s' ∧ Answered s s' who stState 0 := by
  have hexec := exec_dbgResume hsel hc h
  have hcore : (s.touch who).core n = s.core n := State.core_congr ((s.touch_only who).cores.resolve_left (by decide)) n
  have heffect : (s.touch who).dbgResume n v = (stState, s.touch who) := by
    unfold State.dbgResume
    rw [hcore, if_neg (by omega), if_pos hhalt]
  rw [heffect] at hexec
  exact ⟨_, hexec, State.answered_respond (l := []) stState (.refl _ _) (by decide) (by decide)⟩

theorem dbgResume_resumes (hhalt : (s.core n).ctl.st = .halted)
    (hbp : (s.core n).bpMask (fun _ b => b.kind = 3 && cntReached ((s.core n).cnt b.cnt) (b.mtch.setWidth 32)) = 0) :
    ∃ s', exec c s = .next s' ∧ Only [.cores, .dict, .out] s s' ∧ OtherCores n s s' ∧ Answered s s' who 0 0 ∧
      (s'.core n).ctl.st = .run ∧ (s'.core n).ctl.drain = .none ∧ (s'.core n).dbg.single = decide (v = 2) ∧
      (s'.core n).plot = (s.core n).plot ∧ (s'.core n).ctl.sregs = (s.core n).ctl.sregs ∧ (s'.core n).sa.pc = (s.core n).sa.pc ∧
      ∀ c' v' l d, (s.core n).sa.wait = .cnt c' v' l d → (s'.core n).sa.wait = .cnt c' v' l (s.frame + l) := by
  have hexec := exec_dbgResume hsel hc h
  have htouch := s.touch_only who
  have hcore : ∀ m, (s.touch who).core m = s.core m := State.core_congr (htouch.cores.resolve_left (by decide))
  have hframe : (s.touch who).frame = s.frame := by
    unfold State.frame
    rw [htouch.time.resolve_left (by decide)]
  have heffect : (s.touch who).dbgResume n v = (0, (s.touch who).setCore n ((s.core n).goOn s.frame (v = 2))) := by
    unfold State.dbgResume
    rw [if_neg (by omega), if_neg (by rw [hcore]; simp [hhalt]), State.resumeCore_of_clear (by rw [hcore]; exact hbp), hcore, hframe]
    rfl
  rw [heffect] at hexec
  obtain ⟨honly, hanswer⟩ := State.answered_respond (who := who) 0 ((s.touch who).setCore_only n ((s.core n).goOn s.frame (v = 2))) (by decide)
    (l' := [.cores, .dict, .out]) (by decide)
  have hself : (((s.touch who).setCore n ((s.core n).goOn s.frame (v = 2))).respond who 0 0).core n = (s.core n).goOn s.frame (v = 2) :=
    State.core_setCore_self ..
  refine ⟨_, hexec, honly, fun m hm => ?_, hanswer, ?_⟩
  · change ((s.touch who).setCore n _).core m = _
    rw [State.core_setCore, if_neg hm, hcore]
  · rw [hself]
    refine ⟨rfl, rfl, rfl, rfl, rfl, StreamSt.pc_relimit .., fun c' v' l d hw => ?_⟩
    change ((s.core n).sa.relimit s.frame).wait = _
    unfold StreamSt.relimit
    rw [hw]

end
end

/-! ### SNAP_TIME (21 R580) -/

theorem State.coresOf_nodup (s : State) (p : Nat) : (s.coresOf p).Nodup := List.nodup_range.filter _

/-- The trigger of a Snapshot on a core. -/
def Core.snapped (st : Bool) (c : Core) : Core := { c with dbg := { c.dbg with triggered := true, trigStepped := st } }

theorem snapshotTrigger_triggers {s : State} {p : PavIx} (hset : s.obj (0x6030 + p) 1 ≠ 0)
    (hturn : s.turn { at_ := s.obj (0x6030 + p) 1, rank := 2, pav := p } = true) (hclk : s.power.clockOn = true) :
    ∃ s', exec (.snapshotTrigger p) s = .next s' ∧ Only [.time, .cyc, .pavs, .tally, .cores, .objs] s s' ∧ s'.obj (0x6030 + p) 1 = 0 ∧
      (∀ n, n ∈ s.coresOf p → (s'.core n).dbg.triggered = true ∧
        (s'.core n).dbg.trigStepped = s'.steppedPast (s.obj (0x6030 + p) 1) ∧ (s'.core n).ctl = (s.core n).ctl ∧ (s'.core n).plot = (s.core n).plot) ∧
      ∀ n, n ∉ s.coresOf p → s'.core n = s.core n := by
  obtain ⟨u, hu⟩ : ∃ u, u = s.elapseTo (s.obj (0x6030 + p) 1) := ⟨_, rfl⟩
  obtain ⟨w, hw⟩ : ∃ w, w = (u.coresOf p).foldl (fun t n => t.updCore n (Core.snapped (u.steppedPast (s.obj (0x6030 + p) 1)))) u := ⟨_, rfl⟩
  have hexec : exec (.snapshotTrigger p) s = .next (w.setObj (0x6030 + p) 1 0) := by
    refine (State.clocked_on _ hclk : execSnapshotTrigger p s = _).trans (congrArg _ ?_)
    have hskip : ¬ (decide (s.obj (0x6030 + p) 1 = 0) || !s.turn { at_ := s.obj (0x6030 + p) 1, rank := 2, pav := p }) = true := by
      simp [hset, hturn]
    rw [hw, hu]
    exact if_neg hskip
  have helapse : Only [.time, .cyc, .pavs, .tally] s u := hu ▸ s.elapseTo_only _
  have hcores : Only [.cores] u w := hw ▸ Only.foldl _ (fun t n => t.updCore_only ..) _ u
  have hof : u.coresOf p = s.coresOf p := by
    unfold State.coresOf State.pavCores
    rw [State.obj_of_only helapse (by decide)]
  have hcore : ∀ n, (w.setObj (0x6030 + p) 1 0).core n =
      if n ∈ s.coresOf p then (s.core n).snapped (u.steppedPast (s.obj (0x6030 + p) 1)) else s.core n := fun n => by
    change w.core n = _
    rw [hw, core_foldl_updCore _ (u.coresOf_nodup p), hof, State.core_congr (helapse.cores.resolve_left (by decide))]
  have hpast : (w.setObj (0x6030 + p) 1 0).steppedPast (s.obj (0x6030 + p) 1) = u.steppedPast (s.obj (0x6030 + p) 1) :=
    State.steppedPast_congr (hcores.cyc.resolve_left (by decide)) _
  refine ⟨_, hexec, (helapse.mono (by decide)).trans ((hcores.mono (by decide)).trans (only_iff_mask.2 (mask_objs w (by decide) _))),
    State.obj_setObj_self .., fun n hn => ?_, fun n hn => by rw [hcore, if_neg hn]⟩
  rw [hcore, if_pos hn, hpast]
  exact ⟨rfl, rfl, rfl, rfl⟩

/-- Settles O38: Stalemates, halts and Snapshots at their times reach the cores they name and no other. -/
theorem debugCommands : Obligations.DebugCommands := by
  unfold Obligations.DebugCommands
  exact ⟨fun s t m q op c htake hop hclk => ⟨staleReceived_known htake hop hclk, staleReceived_arms htake hop hclk, staleReceived_late htake hop hclk⟩,
    fun s hset hclk => ⟨stalemateHalt_waits hclk, stalemateHalt_halts hset hclk⟩, fun s => stalemateResume_resumes,
    fun s who => stalemateFlood_floods, fun s who n hsel => ⟨dbgHalt_halts hsel, dbgHalt_refused hsel,
      fun v c hc h => ⟨dbgResume_resumes hsel hc h, dbgResume_refused hsel hc h⟩⟩, fun s p => snapshotTrigger_triggers⟩

end Sys2Proof.Machine
end

section
/-! PROOF. The arbiters: which request is granted, and what its grant does (04 R116; 05 R150; 09 R244; 15 R416; 16 R437). -/

namespace Sys2Proof.Machine
open Sys2Proof.Safety

/-! ### The order of requests (16 R437) -/

theorem State.reqBefore_iff (s : State) (q b : Req) : s.reqBefore q b = true ↔ s.reqRank q < s.reqRank b ∨
    (s.reqRank q = s.reqRank b ∧ (q.arr < b.arr ∨ (q.arr = b.arr ∧ q.core < b.core))) := by
  simp [State.reqBefore]

theorem State.reqBefore_false_iff (s : State) (q b : Req) : s.reqBefore q b = false ↔ s.reqRank b < s.reqRank q ∨
    (s.reqRank q = s.reqRank b ∧ (b.arr < q.arr ∨ (q.arr = b.arr ∧ b.core ≤ q.core))) := by
  rw [← Bool.not_eq_true, s.reqBefore_iff]
  omega

/-- The rank grows with the level, whatever the precedence of the slot and the turn of the Pavilions. -/
theorem State.reqRank_lt_of_level (s : State) {q x : Req} (h : q.level < x.level) : s.reqRank q < s.reqRank x := by
  have hturn : ∀ y : Req, (y.pav + 16 - s.frame % 16) % 16 < 16 := fun y => Nat.mod_lt _ (by decide)
  have hq := hturn q
  have hslot : (if (q.level = 0 && s.slotFirst q.pav) = true then 0 else 32) ≤ 32 := by
    split
    · decide
    · exact le_rfl
  unfold State.reqRank
  omega

/-- The search for the first of a list. -/
def State.first (s : State) (best : Option Req) (q : Req) : Option Req :=
  match best with
  | none => some q
  | some b => if s.reqBefore q b then some q else best

/-- The search ends at one of the list before which none of it goes. -/
theorem State.first_foldl (s : State) (l : List Req) : ∀ b : Req, ∃ q, l.foldl s.first (some b) = some q ∧ (q = b ∨ q ∈ l) ∧
    s.reqBefore b q = false ∧ ∀ x ∈ l, s.reqBefore x q = false := by
  induction l with
  | nil =>
    intro b
    refine ⟨b, rfl, .inl rfl, ?_, by simp⟩
    rw [s.reqBefore_false_iff]
    omega
  | cons x l ih =>
    intro b
    rw [List.foldl_cons]
    by_cases hx : s.reqBefore x b = true
    · obtain ⟨q, hq, hmem, hfirst, hall⟩ := ih x
      refine ⟨q, ?_, .inr (hmem.elim (fun h => h ▸ List.mem_cons_self ..) (List.mem_cons_of_mem _)), ?_, ?_⟩
      · rw [← hq]
        exact congrArg (fun o => l.foldl s.first o) (if_pos hx)
      · rw [s.reqBefore_iff] at hx
        rw [s.reqBefore_false_iff] at hfirst ⊢
        omega
      · intro y hy
        rcases List.mem_cons.1 hy with rfl | hy
        · exact hfirst
        · exact hall y hy
    · obtain ⟨q, hq, hmem, hfirst, hall⟩ := ih b
      refine ⟨q, ?_, hmem.imp_right (List.mem_cons_of_mem _), hfirst, ?_⟩
      · rw [← hq]
        exact congrArg (fun o => l.foldl s.first o) (if_neg hx)
      · intro y hy
        rcases List.mem_cons.1 hy with rfl | hy
        · rw [Bool.not_eq_true, s.reqBefore_false_iff] at hx
          rw [s.reqBefore_false_iff] at hfirst ⊢
          omega
        · exact hall y hy

theorem State.first_foldl_none (s : State) {l : List Req} {q : Req} (h : l.foldl s.first none = some q) :
    q ∈ l ∧ ∀ x ∈ l, s.reqBefore x q = false := by
  cases l with
  | nil => cases h
  | cons b l =>
    obtain ⟨q', hq', hmem, hfirst, hall⟩ := s.first_foldl l b
    have heq : q = q' := Option.some.inj (h.symm.trans hq')
    subst heq
    refine ⟨List.mem_cons.2 hmem, fun x hx => ?_⟩
    rcases List.mem_cons.1 hx with rfl | hx
    · exact hfirst
    · exact hall x hx

/-! ### What may be granted (04 R116; 05 R150) -/

/-- A request that no earlier one of its list holds up stays in the list. -/
theorem mem_inOrder {l : List Req} {x : Req} {l' : List Req} : ∀ before : List Req, (∀ y ∈ before, x.follows y = false) →
    (∀ y ∈ l, x.follows y = false) → x ∈ Req.inOrder before (l ++ x :: l') := by
  induction l with
  | nil =>
    intro before hbefore _
    have hno : ¬ before.any x.follows = true := by simpa using hbefore
    change x ∈ (if before.any x.follows then _ else _)
    rw [if_neg hno]
    exact List.mem_cons_self ..
  | cons y l ih =>
    intro before hbefore hl
    have hrest := ih (y :: before) (fun z hz => (List.mem_cons.1 hz).elim (fun h => h ▸ hl y (List.mem_cons_self ..)) (hbefore z))
      fun z hz => hl z (List.mem_cons_of_mem _ hz)
    change x ∈ (if before.any y.follows then _ else _)
    split
    · exact hrest
    · exact List.mem_cons_of_mem _ hrest

theorem mem_of_mem_inOrder {l : List Req} {x : Req} : ∀ before : List Req, x ∈ Req.inOrder before l → x ∈ l := by
  induction l with
  | nil => exact fun _ h => h
  | cons y l ih =>
    intro before h
    change x ∈ (if before.any y.follows then _ else _) at h
    split at h
    · exact List.mem_cons_of_mem _ (ih _ h)
    · exact (List.mem_cons.1 h).elim (fun h => h ▸ List.mem_cons_self ..) fun h => List.mem_cons_of_mem _ (ih _ h)

/-- A request waits for resource `r`, and for a tag no longer. -/
def State.mayGo (s : State) (r : Nat) (q : Req) : Bool := q.res = r && (r ≠ 5 || q.write || decide (s.hostTags q.pav < 512))

theorem State.mayGo_iff (s : State) (r : Nat) (x : Req) : s.mayGo r x = true ↔
    x.res = r ∧ (r = 5 → x.write = true ∨ s.hostTags x.pav < 512) := by
  by_cases hr : r = 5
  · simp [State.mayGo, hr]
  · simp [State.mayGo, hr]

/-- The requests that wait for resource `r` and may be sent. -/
def State.ready (s : State) (r : Nat) : List Req := s.arb.waiting.filter (s.mayGo r)

/-- Those of them that may be granted now. -/
def State.eligible (s : State) (r : Nat) : List Req :=
  if r = 3 then (s.ready r).filter fun q => ((s.ready r).find? fun x => x.core = q.core) == some q else Req.inOrder [] (s.ready r)

theorem State.granted_eq (s : State) (r : Nat) : s.granted r = (s.eligible r).foldl s.first none := rfl

theorem State.mem_of_mem_eligible {s : State} {r : Nat} {x : Req} (h : x ∈ s.eligible r) : x ∈ s.arb.waiting ∧ x.res = r := by
  have hready : x ∈ s.ready r := by
    unfold State.eligible at h
    split at h
    · exact List.mem_of_mem_filter h
    · exact mem_of_mem_inOrder _ h
  obtain ⟨hmem, hcond⟩ := List.mem_filter.1 hready
  exact ⟨hmem, ((s.mayGo_iff r x).1 hcond).1⟩

theorem State.granted_first {s : State} {r : Nat} {q : Req} (h : s.granted r = some q) : q ∈ s.arb.waiting ∧ q.res = r ∧
    (r ≠ 3 → ∀ l x l', s.arb.waiting = l ++ x :: l' → x.res = r → (r = 5 → x.write = true ∨ s.hostTags x.pav < 512) →
      (∀ y ∈ l, y.res = r → x.follows y = false) → s.reqBefore x q = false) ∧
    (r = 3 → ∀ x, s.arb.waiting.find? (fun y => y.res = 3 && y.core = x.core) = some x → s.reqBefore x q = false) := by
  rw [State.granted_eq] at h
  obtain ⟨hmem, hfirst⟩ := s.first_foldl_none h
  obtain ⟨hwait, hres⟩ := State.mem_of_mem_eligible hmem
  refine ⟨hwait, hres, fun hr l x l' hsplit hx htag hfollow => hfirst x ?_, fun hr x hfind => hfirst x ?_⟩
  · have hready : s.ready r = l.filter (s.mayGo r) ++ x :: l'.filter (s.mayGo r) := by
      unfold State.ready
      rw [hsplit, List.filter_append, List.filter_cons_of_pos ((s.mayGo_iff r x).2 ⟨hx, htag⟩)]
    unfold State.eligible
    rw [if_neg hr, hready]
    refine mem_inOrder [] (by simp) fun y hy => ?_
    obtain ⟨hyl, hyc⟩ := List.mem_filter.1 hy
    exact hfollow y hyl ((s.mayGo_iff r y).1 hyc).1
  · subst hr
    have hx := List.find?_some hfind
    simp only [Bool.and_eq_true, decide_eq_true_eq, and_true] at hx
    have hready : s.ready 3 = s.arb.waiting.filter fun y => y.res = 3 := by
      unfold State.ready
      exact List.filter_congr fun y _ => by simp [State.mayGo]
    unfold State.eligible
    rw [if_pos rfl, List.mem_filter]
    refine ⟨List.mem_filter.2 ⟨List.mem_of_find?_eq_some hfind, (s.mayGo_iff 3 x).2 ⟨hx, nofun⟩⟩, ?_⟩
    rw [hready, List.find?_filter, beq_iff_eq]
    simpa using hfind

theorem State.granted_isSome {s : State} {r : Nat} {x : Req} (hmem : x ∈ s.arb.waiting) (hx : x.res = r)
    (htag : r = 5 → x.write = true ∨ s.hostTags x.pav < 512) : (s.granted r).isSome = true := by
  have hready : x ∈ s.ready r := List.mem_filter.2 ⟨hmem, (s.mayGo_iff r x).2 ⟨hx, htag⟩⟩
  obtain ⟨b, l, heligible⟩ : ∃ b l, s.eligible r = b :: l := by
    unfold State.eligible
    cases hlist : s.ready r with
    | nil => rw [hlist] at hready; cases hready
    | cons b l =>
      split
      · exact ⟨b, _, List.filter_cons_of_pos (by simp)⟩
      · exact ⟨b, _, rfl⟩
  obtain ⟨q, hq, -⟩ := s.first_foldl l b
  rw [State.granted_eq, heligible]
  exact Option.isSome_iff_exists.2 ⟨q, hq⟩

/-! ### What a write leaves in the tiers (10 R271) -/

theorem State.mem_burstWrite (s : State) (pa : Nat) (d : List PByte) (b : Nat) : (s.burstWrite pa d b).mem = s.mem := by
  have hcheck : ∀ b, (s.burstCheck b).mem = s.mem := fun b => by
    unfold State.burstCheck
    dsimp only
    split
    · exact (s.tallyAdd_tells ..).only.mem.resolve_left (by decide)
    · exact ((State.logRec_tells ..).only.mem.resolve_left (by decide)).trans ((s.tallyAdd_tells ..).only.mem.resolve_left (by decide))
    · rfl
  unfold State.burstWrite
  dsimp only
  split
  · rfl
  · exact hcheck b

theorem State.mem_memPut (s : State) (pa : Nat) (d : List PByte) : (s.memPut pa d).mem = Mem.write s.mem pa (rawBytes d) := by
  have hbursts : ((burstsOf pa d.length).foldl (fun s b => s.burstWrite pa d b) s).mem = s.mem :=
    List.foldlRecOn (motive := fun t : State => t.mem = s.mem) _ _ rfl fun t ht b _ => (t.mem_burstWrite ..).trans ht
  exact congrArg (fun m => Mem.write m pa (rawBytes d)) hbursts

theorem State.mem_memWrite (s : State) (pa : Nat) (d : List PByte) : (s.memWrite pa d).mem = Mem.write s.mem pa (rawBytes d) := s.mem_memPut pa d

theorem State.memWrite_tierOnly (s : State) (pa : Nat) (d : List PByte) : TierOnly s (s.memWrite pa d) :=
  (s.memPut_tierOnly pa d).trans (only_iff_mask.2 (mask_org _ (by decide) _))

theorem State.orgWrite_tierOnly (s : State) (p pa : Nat) (d : List PByte) : TierOnly s (s.orgWrite p pa d) := by
  have horg : ∀ (t : State) (o : Orangery), TierOnly t { t with org := o } := fun t o => only_iff_mask.2 (mask_org t (by decide) o)
  unfold State.orgWrite
  extract_lets la off src t
  have hnear : TierOnly s t := by
    unfold t
    split
    · exact horg ..
    · exact .refl s
  clear_value t
  refine hnear.trans (.ite ?_ (t.memPut_tierOnly pa d))
  split
  · exact horg ..
  · exact .ite (t.allocFar_tierOnly ..) (t.memWrite_tierOnly pa d)

/-! ### A grant (16 R436, R437) -/

/-- A request leaves the queue of its arbiter, and its command takes the wait into account. -/
def State.ungranted (s : State) (q : Req) : State :=
  ({ s with arb := { s.arb with waiting := s.arb.waiting.filter (fun x => x.id ≠ q.id) } } : State).updCmd q.core q.cmd
    (fun r => { r with defer := max r.defer (s.frame - q.frame) })

theorem State.ungranted_spec (s : State) (q : Req) : Only [.arb, .cores] s (s.ungranted q) ∧
    (s.ungranted q).arb = { s.arb with waiting := s.arb.waiting.filter (fun x => x.id ≠ q.id) } ∧
    ((s.core q.core).map.memFault = 0 → ((s.ungranted q).core q.core).map.memFault = 0) ∧
    ((s.ungranted q).core q.core).ctl = (s.core q.core).ctl := by
  unfold State.ungranted
  obtain ⟨t, ht⟩ : ∃ t : State, t = { s with arb := { s.arb with waiting := s.arb.waiting.filter (fun x => x.id ≠ q.id) } } := ⟨_, rfl⟩
  rw [← ht]
  have hqueue : Only [.arb, .cores] s t := ht ▸ only_iff_mask.2 rfl
  have hcmd := t.updCmd_only q.core q.cmd (fun r => { r with defer := max r.defer (s.frame - q.frame) })
  have hcore : ∀ (es : List Eng) (f : Running → Running) (u : State),
      ((es.foldl (fun s e => s.updRun q.core e q.cmd f) u).core q.core).ctl = (u.core q.core).ctl ∧
      ((es.foldl (fun s e => s.updRun q.core e q.cmd f) u).core q.core).map = (u.core q.core).map := by
    intro es f
    induction es with
    | nil => exact fun u => ⟨rfl, rfl⟩
    | cons e es ih =>
      intro u
      obtain ⟨hctl, hmap⟩ := ih (u.updRun q.core e q.cmd f)
      have hstep : (u.updRun q.core e q.cmd f).core q.core =
          (u.core q.core).setEng e { (u.core q.core).eng e with run := ((u.core q.core).eng e).run.map (fun r => if r.cmd.id = q.cmd then f r else r) } :=
        State.core_setCore_self ..
      rw [List.foldl_cons, hctl, hmap, hstep]
      cases e <;> exact ⟨rfl, rfl⟩
  have hkept := hcore [Eng.mover, .dice, .rot, .parterre, .trellis] (fun r => { r with defer := max r.defer (s.frame - q.frame) }) t
  refine ⟨hqueue.trans (hcmd.mono (by decide)), (hcmd.arb.resolve_left (by decide)).trans (by rw [ht]), fun h => ?_,
    hkept.1.trans (by rw [ht]; rfl)⟩
  exact (congrArg MapSt.memFault hkept.2).trans (by rw [ht]; exact h)

theorem State.grant_eq (s : State) (q : Req) : s.grant q = (match q.pkt with
    | some pkt => { s.ungranted q with net := (s.ungranted q).net ++ [{ pkt with id := q.id }] }
    | none =>
      if q.res = 5 then (s.ungranted q).hostGrant q
      else if q.write then
        (if q.org then (s.ungranted q).orgWrite q.pav q.pa q.data else (s.ungranted q).memWrite q.pa q.data).writeDone q.core q.cmd
      else if q.res = 2 && !(s.ungranted q).orgHit q.pav q.pa q.len then
        let (cls, u) := (s.ungranted q).classOf q.pav 0 (tierOf q.pa) (some q.core)
        let (lvl, u) := u.mark q.pav (tierRes (tierOf q.pa)) cls q.len
        { u with arb := { u.arb with waiting := u.arb.waiting ++ [{ q with res := tierRes (tierOf q.pa), level := lvl, arr := u.cyc.cycles }] } }
      else { s.ungranted q with arb := { (s.ungranted q).arb with reads := (s.ungranted q).arb.reads ++ [q] } }) := rfl

theorem State.hostOpen_congr {s t : State} (hpcie : t.pcie = s.pcie) (hfns : t.fns = s.fns) (p : Nat) : t.hostOpen p = s.hostOpen p := by
  unfold State.hostOpen
  rw [hpcie, State.fn_congr hfns]

theorem State.writeDone_only (s : State) (n cmd : Nat) : Only [.cores] s (s.writeDone n cmd) := s.updCmd_only ..

/-- What the first memory fault of a core stays after a host-window access of a function that sends none (15 R416). -/
theorem State.memFault_hostGrant {s : State} {q : Req} (hshut : s.hostOpen q.pav = false) (hnone : (s.core q.core).map.memFault = 0)
    (hdrain : (s.core q.core).ctl.drain ≠ .reset) :
    ((s.hostGrant q).core q.core).map.memFault = q.va % 2 ^ 48 + b2n q.write * 2 ^ 55 + 6 * 2 ^ 56 := by
  have hfirst := State.memFault_first (write := q.write) (va := q.va) hdrain hnone (cause := 6) (by decide)
  have hset : ((s.memFault q.core 6 q.write q.va).core q.core).map.memFault ≠ 0 := by
    rw [hfirst]
    omega
  have hgrant : s.hostGrant q = if q.write then (s.memFault q.core 6 q.write q.va).writeDone q.core q.cmd
      else (s.memFault q.core 6 q.write q.va).deliver q (poisonZeros q.len) := if_pos (by simp [hshut])
  rw [hgrant, ← hfirst]
  split
  · exact (MapStays.updCmd _ q.core q.cmd _).fault hset
  · exact (MapStays.deliver _ q _).fault hset

theorem arbiterGrant_effects {s : State} {r : Fin 6} {q : Req} (h : s.granted r = some q) (hclk : s.power.clockOn = true) :
    ∃ s', exec (.arbiterGrant r) s = .next s' ∧
    (q.res ≠ 5 ∨ q.pkt ≠ none ∨ s.hostOpen q.pav = true →
      ∀ x ∈ s'.arb.waiting, x.id = q.id → q.pkt = none ∧ q.write = false ∧ q.res = 2) ∧
    (∀ pkt, q.pkt = some pkt → Only [.arb, .net, .cores] s s' ∧ s'.net = s.net ++ [{ pkt with id := q.id }]) ∧
    (q.pkt = none → q.res ≠ 5 → q.write = true → q.org = false → s'.mem = (s.memWrite q.pa q.data).mem ∧ s'.net = s.net) ∧
    (q.pkt = none → q.res = 5 → s.hostOpen q.pav = true → s'.mem = s.mem ∧
      (q.write = true → s'.out = s.out ++ [.pcieWrite (q.pav + 1) (q.pa - hostBase + s.obj (0x2210 + q.pav) 2) q.data]) ∧
      (q.write = false → s'.out = s.out ++ [.pcieRead (q.pav + 1) (q.pa - hostBase + s.obj (0x2210 + q.pav) 2) q.len] ∧
        s'.arb.host = s.arb.host ++ [q])) ∧
    (q.pkt = none → q.res = 5 → s.hostOpen q.pav = false → (s.core q.core).map.memFault = 0 → (s.core q.core).ctl.drain ≠ .reset →
      (s'.core q.core).map.memFault = q.va % 2 ^ 48 + b2n q.write * 2 ^ 55 + 6 * 2 ^ 56) ∧
    (q.pkt = none → q.res ≠ 5 → q.write = false → q.res ≠ 2 → s'.arb.reads = s.arb.reads ++ [q] ∧ s'.mem = s.mem) := by
  have hexec : exec (.arbiterGrant r) s = .next (s.grant q) := by
    refine (State.clocked_on _ hclk : execArbiterGrant r s = _).trans (congrArg _ ?_)
    rw [h]
  obtain ⟨honly, harb, hfault, hctl⟩ := s.ungranted_spec q
  have hgrant := s.grant_eq q
  generalize s.ungranted q = u at *
  have hgone : ∀ x ∈ u.arb.waiting, x.id ≠ q.id := by
    rw [harb]
    exact fun x hx => by simpa using (List.mem_filter.1 hx).2
  have hmem : u.mem = s.mem := honly.mem.resolve_left (by decide)
  have hout : u.out = s.out := honly.out.resolve_left (by decide)
  have hopen : u.hostOpen q.pav = s.hostOpen q.pav :=
    State.hostOpen_congr (honly.pcie.resolve_left (by decide)) (honly.fns.resolve_left (by decide)) _
  have hobj : u.obj (0x2210 + q.pav) 2 = s.obj (0x2210 + q.pav) 2 := State.obj_of_only honly (by decide) ..
  refine ⟨s.grant q, hexec, ?_⟩
  cases hpkt : q.pkt with
  | some pkt =>
    rw [hpkt] at hgrant
    rw [hgrant]
    refine ⟨fun _ x hx hid => absurd hid (hgone x hx), fun pkt' h' => ?_, nofun, nofun, nofun, nofun⟩
    cases h'
    refine ⟨(honly.mono (by decide)).trans (only_iff_mask.2 (mask_net u (by decide) _)), ?_⟩
    rw [← honly.net.resolve_left (by decide)]
  | none =>
    rw [hpkt] at hgrant
    dsimp only at hgrant
    by_cases hres : q.res = 5
    · rw [if_pos hres] at hgrant
      rw [hgrant]
      cases hshut : s.hostOpen q.pav with
      | true =>
        by_cases hwrite : q.write = true
        · have hhost : u.hostGrant q = (u.emit (.pcieWrite (q.pav + 1) (q.pa - hostBase + s.obj (0x2210 + q.pav) 2) q.data)).writeDone q.core q.cmd := by
            unfold State.hostGrant
            dsimp only
            rw [if_neg (by simp [hopen, hshut]), if_pos hwrite, hobj]
          have hdone := (u.emit (.pcieWrite (q.pav + 1) (q.pa - hostBase + s.obj (0x2210 + q.pav) 2) q.data)).writeDone_only q.core q.cmd
          rw [hhost]
          refine ⟨fun _ x hx hid => ?_, nofun, fun _ h => absurd hres h, fun _ _ _ => ⟨?_, fun _ => ?_, ?_⟩, nofun, fun _ h => absurd hres h⟩
          · rw [hdone.arb.resolve_left (by decide)] at hx
            exact absurd hid (hgone x hx)
          · rw [hdone.mem.resolve_left (by decide), ← hmem]
            rfl
          · rw [hdone.out.resolve_left (by decide), ← hout]
            rfl
          · rw [hwrite]
            exact nofun
        · have hhost : u.hostGrant q = { u.emit (.pcieRead (q.pav + 1) (q.pa - hostBase + s.obj (0x2210 + q.pav) 2) q.len) with
              arb := { u.arb with host := u.arb.host ++ [q] } } := by
            unfold State.hostGrant
            dsimp only
            rw [if_neg (by simp [hopen, hshut]), if_neg hwrite, hobj]
          rw [hhost]
          refine ⟨fun _ x hx hid => absurd hid (hgone x hx), nofun, fun _ h => absurd hres h,
            fun _ _ _ => ⟨hmem, fun h => absurd h hwrite, fun _ => ⟨?_, ?_⟩⟩, nofun, fun _ h => absurd hres h⟩
          · rw [← hout]
            rfl
          · change u.arb.host ++ [q] = _
            rw [harb]
      | false =>
        refine ⟨?_, nofun, fun _ h => absurd hres h, nofun, fun _ _ _ hnone hdrain => ?_, fun _ h => absurd hres h⟩
        · rintro (h | h | h)
          · exact absurd hres h
          · exact absurd rfl h
          · cases h
        · exact State.memFault_hostGrant (hopen.trans hshut) (hfault hnone) (by rw [hctl]; exact hdrain)
    · rw [if_neg hres] at hgrant
      by_cases hwrite : q.write = true
      · rw [if_pos hwrite] at hgrant
        obtain ⟨w, hw⟩ : ∃ w, w = if q.org then u.orgWrite q.pav q.pa q.data else u.memWrite q.pa q.data := ⟨_, rfl⟩
        rw [← hw] at hgrant
        have htier : TierOnly u w := hw ▸ .ite (u.orgWrite_tierOnly ..) (u.memWrite_tierOnly ..)
        have hdone := w.writeDone_only q.core q.cmd
        rw [hgrant]
        refine ⟨fun _ x hx hid => ?_, nofun, fun _ _ _ horg => ⟨?_, ?_⟩, fun _ h => absurd h hres, fun _ h => absurd h hres,
          fun _ _ h => absurd (hwrite.symm.trans h) (by decide)⟩
        · rw [hdone.arb.resolve_left (by decide), htier.arb.resolve_left (by decide)] at hx
          exact absurd hid (hgone x hx)
        · rw [hdone.mem.resolve_left (by decide), hw, if_neg (by simp [horg]), State.mem_memWrite, State.mem_memWrite, hmem]
        · rw [hdone.net.resolve_left (by decide), htier.net.resolve_left (by decide), honly.net.resolve_left (by decide)]
      · rw [if_neg hwrite] at hgrant
        have hread : q.write = false := by simpa using hwrite
        refine ⟨fun _ x hx hid => ?_, nofun, fun _ _ h => absurd h hwrite, fun _ h => absurd h hres, fun _ h => absurd h hres,
          fun _ _ _ hno => ?_⟩
        · by_cases hmiss : (decide (q.res = 2) && !u.orgHit q.pav q.pa q.len) = true
          · exact ⟨rfl, hread, by simpa using (Bool.and_eq_true_iff.1 hmiss).1⟩
          · rw [if_neg hmiss] at hgrant
            rw [hgrant] at hx
            exact absurd hid (hgone x hx)
        · rw [if_neg (by simp [hno])] at hgrant
          rw [hgrant]
          refine ⟨?_, hmem⟩
          change u.arb.reads ++ [q] = _
          rw [harb]

/-- Settles O16: an arbiter grants the first of what may go, and its grant does what the request asks. -/
theorem arbiterGrants : Obligations.ArbiterGrants := by
  unfold Obligations.ArbiterGrants
  refine ⟨fun s r q => State.granted_first, fun s r x => State.granted_isSome, fun s q x h => ?_, fun s r q => arbiterGrant_effects⟩
  have hrank := s.reqRank_lt_of_level h
  exact ⟨hrank, (s.reqBefore_iff q x).2 (.inl hrank)⟩

end Sys2Proof.Machine
end

section
/-! PROOF. The Pip sweep of a memory controller and the sentinel sweep of a bank (09 R257, R261; 18 R503). -/

namespace Sys2Proof.Machine
open Sys2Proof.Safety

/-! ### What befalls the memories (10 R292) -/

theorem State.memUpset_only (s : State) (u : MemUpset) : Only [.mem, .mmeta, .org] s (s.memUpset u) := by
  unfold State.memUpset
  cases u with
  | burst b c =>
    dsimp only
    split
    · exact .refl _ s
    · exact only_iff_mask.2 rfl
  | byte a k =>
    dsimp only
    split
    · exact only_iff_mask.2 rfl
    · exact .refl _ s
  | code blk k =>
    dsimp only
    split
    · exact only_iff_mask.2 rfl
    · exact .refl _ s
  | line far la => exact only_iff_mask.2 rfl

theorem memUpset_foldl_only (upsets : List MemUpset) (s : State) : Only [.mem, .mmeta, .org] s (upsets.foldl State.memUpset s) :=
  Only.foldl _ State.memUpset_only _ s

/-! ### The Pip sweep (18 R503) -/

theorem mem_addMark {l : List Nat} {b x : Nat} : x ∈ addMark l b ↔ x = b ∨ x ∈ l := by
  unfold addMark
  split
  · next h =>
    have hb : b ∈ l := by simpa using h
    exact ⟨.inr, fun hx => hx.elim (fun e => e ▸ hb) id⟩
  · rw [List.mem_append, List.mem_singleton, or_comm]

theorem mem_addMark_foldl (f : Nat → Nat) (xs : List Nat) {i : Nat} (hi : i ∈ xs) (l : List Nat) :
    f i ∈ xs.foldl (fun l i => addMark l (f i)) l :=
  foldl_sets (step := fun l i => addMark l (f i)) (P := fun l : List Nat => f i ∈ l) hi (fun _ => mem_addMark.2 (.inl rfl)) (fun _ _ h => mem_addMark.2 (.inr h)) l

/-- The sweep goes on past block `b`. -/
def State.sweepPast (s : State) (k b : Nat) : State := { s with mmeta := { s.mmeta with sweep := Sparse.put s.mmeta.sweep k (b + 1) } }

/-- What the check of a block does (18 R500, R503): one found bad is poisoned, its bursts are marked and it is recorded; a good one stands. -/
theorem State.pipCheck_spec (s : State) (b finder : Nat) : (s.pipCheck b finder).2.mem = s.mem ∧ (s.pipCheck b finder).2.cores = s.cores ∧
    (pipCond (Sparse.find s.mmeta.pip b) = 3 → (s.pipCheck b finder).2.mmeta.pipFails = s.mmeta.pipFails + 1 ∧
      Sparse.find (s.pipCheck b finder).2.mmeta.pip b = some pipPoison ∧ ∀ i, i < 64 → 64 * b + i ∈ (s.pipCheck b finder).2.mmeta.mark) ∧
    (pipCond (Sparse.find s.mmeta.pip b) = 1 → (s.pipCheck b finder).2 = s) := by
  unfold State.pipCheck
  split
  · next hcond =>
    have htally := (s.tallyAdd_tells 0x43 (memc (4096 * b)) 1).only
    exact ⟨htally.mem.resolve_left (by decide), htally.cores.resolve_left (by decide), fun h => absurd (hcond.symm.trans h) (by decide),
      fun h => absurd (hcond.symm.trans h) (by decide)⟩
  · next hcond =>
    dsimp only
    obtain ⟨t, ht⟩ : ∃ t : State, t = { s with mmeta := { s.mmeta with
      pip := Sparse.put s.mmeta.pip b pipPoison, pipFails := s.mmeta.pipFails + 1
      mark := (List.range 64).foldl (fun l i => addMark l (64 * b + i)) s.mmeta.mark } } := ⟨_, rfl⟩
    rw [← ht]
    have htells := (t.tallyAdd_tells 0x42 (memc (4096 * b)) 1).only
    have hlog := ((t.tallyAdd 0x42 (memc (4096 * b)) 1).logRec_tells 0x0022 (memc (4096 * b)) 2 none (4096 * b + finder * 2 ^ 64)).only
    generalize (t.tallyAdd 0x42 (memc (4096 * b)) 1).logRec 0x0022 (memc (4096 * b)) 2 none (4096 * b + finder * 2 ^ 64) = u at hlog
    have hmeta : u.mmeta = t.mmeta := (hlog.mmeta.resolve_left (by decide)).trans (htells.mmeta.resolve_left (by decide))
    refine ⟨(hlog.mem.resolve_left (by decide)).trans ((htells.mem.resolve_left (by decide)).trans (by rw [ht])),
      (hlog.cores.resolve_left (by decide)).trans ((htells.cores.resolve_left (by decide)).trans (by rw [ht])), fun _ => ?_,
      fun h => absurd (hcond.symm.trans h) (by decide)⟩
    have hmark : ∀ i, i < 64 → 64 * b + i ∈ (List.range 64).foldl (fun l i => addMark l (64 * b + i)) s.mmeta.mark :=
      fun i hi => mem_addMark_foldl (fun i => 64 * b + i) _ (List.mem_range.2 hi) _
    generalize (List.range 64).foldl (fun l i => addMark l (64 * b + i)) s.mmeta.mark = marked at ht hmark
    rw [hmeta, ht]
    exact ⟨rfl, (Sparse.find_put ..).trans (if_pos rfl), hmark⟩
  · next htwo hthree => exact ⟨rfl, rfl, fun h => absurd h hthree, fun _ => rfl⟩

section
variable {s s0 : State} {k : Fin 8} {upsets : List MemUpset} (hs : s0 = upsets.foldl State.memUpset s)
  (hfree : ((s.arb.waiting ++ s.arb.reads).any (fun q => q.pkt.isNone && q.res ≠ 5 && memc q.pa = k.val)) = false)
  (hclk : s.power.clockOn = true)
include hs hfree hclk

theorem pipSweepCheck_steps {b c : Nat}
    (hfind : s0.mmeta.pip.find? (fun r => decide (Sparse.getD s0.mmeta.sweep k 0 ≤ r.1) && memc (4096 * r.1) = k.val) = some (b, c)) :
    ∃ s', exec (.pipSweepCheck k upsets) s = .next s' ∧ Sparse.getD s'.mmeta.sweep k 0 = b + 1 ∧ s'.mem = s0.mem ∧ s'.cores = s.cores ∧
      (pipCond (Sparse.find s0.mmeta.pip b) = 3 →
        s'.mmeta.pipFails = s0.mmeta.pipFails + 1 ∧ Sparse.find s'.mmeta.pip b = some pipPoison ∧ ∀ i, i < 64 → 64 * b + i ∈ s'.mmeta.mark) ∧
      (pipCond (Sparse.find s0.mmeta.pip b) = 1 → Only [.mmeta] s0 s' ∧ s'.mmeta.mark = s0.mmeta.mark) := by
  have honly : Only [.mem, .mmeta, .org] s s0 := hs ▸ memUpset_foldl_only upsets s
  have hexec : exec (.pipSweepCheck k upsets) s = .next ((s0.pipCheck b 1).2.sweepPast k b) := by
    refine (State.clocked_on _ hclk : execPipSweepCheck k upsets s = _).trans (congrArg _ ?_)
    dsimp only
    rw [← hs, honly.arb.resolve_left (by decide), if_neg (by rw [hfree]; decide), hfind]
    rfl
  obtain ⟨hmem, hcores, hbad, hgood⟩ := s0.pipCheck_spec b 1
  refine ⟨_, hexec, Sparse.getD_put_self .., hmem, hcores.trans (honly.cores.resolve_left (by decide)), hbad, fun h => ?_⟩
  rw [hgood h]
  exact ⟨only_iff_mask.2 (mask_mmeta s0 (by decide) _), rfl⟩

theorem pipSweepCheck_ends
    (hfind : s0.mmeta.pip.find? (fun r => decide (Sparse.getD s0.mmeta.sweep k 0 ≤ r.1) && memc (4096 * r.1) = k.val) = none) :
    ∃ s', exec (.pipSweepCheck k upsets) s = .next s' ∧ Only [.mmeta] s0 s' ∧ Sparse.getD s'.mmeta.sweep k 0 = 0 ∧
      Sparse.getD s'.mmeta.sweepMs (if k.val < 6 then 0 else 1) 0 =
        ((s.cyc.ns - Sparse.getD s0.mmeta.sweepStart k 0) / 1000000) % 2 ^ 32 := by
  have honly : Only [.mem, .mmeta, .org] s s0 := hs ▸ memUpset_foldl_only upsets s
  have hexec : exec (.pipSweepCheck k upsets) s = .next { s0 with mmeta := { s0.mmeta with
      sweep := Sparse.put s0.mmeta.sweep k 0, sweepStart := Sparse.put s0.mmeta.sweepStart k s0.cyc.ns
      sweepMs := Sparse.put s0.mmeta.sweepMs (if k.val < 6 then 0 else 1)
        (((s0.cyc.ns - Sparse.getD s0.mmeta.sweepStart k 0) / 1000000) % 2 ^ 32) } } := by
    refine (State.clocked_on _ hclk : execPipSweepCheck k upsets s = _).trans (congrArg _ ?_)
    dsimp only
    rw [← hs, honly.arb.resolve_left (by decide), if_neg (by rw [hfree]; decide), hfind]
  refine ⟨_, hexec, only_iff_mask.2 (mask_mmeta s0 (by decide) _), Sparse.getD_put_self .., ?_⟩
  rw [← honly.cyc.resolve_left (by decide)]
  exact Sparse.getD_put_self ..

end

/-! ### The sentinel sweep (09 R257, R261) -/

/-- What strikes a bank changes the cells alone. -/
theorem Core.upset_keeps (c : Core) (bank : Nat) (u : Upset) : (c.upset bank u).ctl = c.ctl ∧ (c.upset bank u).pint.detects = c.pint.detects ∧
    (c.upset bank u).pint.last = c.pint.last ∧ (c.upset bank u).pint.suspects = c.pint.suspects := by
  have hflip : ∀ line column, (c.flipBit line column).ctl = c.ctl ∧ (c.flipBit line column).pint = c.pint := fun line column => by
    unfold Core.flipBit
    dsimp only
    split <;> exact ⟨rfl, rfl⟩
  unfold Core.upset
  cases u with
  | stuck sub row column val => exact ⟨rfl, rfl, rfl, rfl⟩
  | flip sub row column =>
    dsimp only
    split
    · exact ⟨rfl, rfl, rfl, rfl⟩
    · split
      · next k _ =>
        obtain ⟨hctl, hpint⟩ := hflip (lineAddr bank sub row / 64) k
        exact ⟨hctl, by rw [hpint], by rw [hpint], by rw [hpint]⟩
      · exact ⟨rfl, rfl, rfl, rfl⟩

theorem upset_foldl_keeps (bank : Nat) (upsets : List Upset) (c : Core) : let d := upsets.foldl (fun c u => c.upset bank u) c
    d.ctl = c.ctl ∧ d.pint.detects = c.pint.detects ∧ d.pint.last = c.pint.last ∧ d.pint.suspects = c.pint.suspects :=
  List.foldlRecOn (motive := fun d : Core => d.ctl = c.ctl ∧ d.pint.detects = c.pint.detects ∧ d.pint.last = c.pint.last ∧
    d.pint.suspects = c.pint.suspects) _ _ ⟨rfl, rfl, rfl, rfl⟩ fun d hd u _ => by
      obtain ⟨hctl, hdetects, hlast, hsus⟩ := d.upset_keeps bank u
      exact ⟨hctl.trans hd.1, hdetects.trans hd.2.1, hlast.trans hd.2.2.1, hsus.trans hd.2.2.2⟩

/-- A detection as it is recorded on the core (09 R254, R257). -/
def Core.sweepSeen (c : Core) (bank : Nat) (f : Suspect) (fs : List Suspect) : Core :=
  { c with pint := { c.pint with
    last := lastDetect 1 bank f.sub 0 f.column c.ctl.stepNum.toNat, detects := (c.pint.detects + 1) % 2 ^ 32
    columnFaults := (c.pint.columnFaults + (f :: fs).length) % 2 ^ 32, suspects := c.pint.suspects ++ f :: fs } }

/-- What a detected column fault does to the core: it is recorded, the step of an owned core fails, and the core stops. -/
theorem State.sweepDetect_spec (s : State) (n bank : Nat) (f : Suspect) (fs : List Suspect) :
    let t := s.sweepDetect n bank (f :: fs)
    OtherCores n s t ∧ (t.core n).pint.detects = ((s.core n).pint.detects + 1) % 2 ^ 32 ∧
    (t.core n).pint.last = lastDetect 1 bank f.sub 0 f.column (s.core n).ctl.stepNum.toNat ∧
    (t.core n).pint.suspects = (s.core n).pint.suspects ++ f :: fs ∧ (t.core n).plot = (s.core n).plot ∧
    ((s.owner n).isSome = true → (s.core n).ctl.drain ≠ .reset → (t.core n).ctl.stepState = 2 ∧
      ((s.core n).ctl.st = .run ∨ (s.core n).ctl.st = .halted → (t.core n).ctl.drain = .fault) ∧
      ((s.core n).ctl.st ≠ .run → (s.core n).ctl.st ≠ .halted → (t.core n).ctl.st = .faulted)) ∧
    (s.owner n = none → (t.core n).ctl.st = (s.core n).ctl.st ∧ (t.core n).ctl.drain = (s.core n).ctl.drain ∧
      (t.core n).ctl.stepState = (s.core n).ctl.stepState) := by
  obtain ⟨u, hu⟩ : ∃ u : State, u = ({ s.setCore n ((s.core n).sweepSeen bank f fs) with
    integ := { s.integ with plotDetects := (s.integ.plotDetects + 1) % 2 ^ 32 } } : State).tallyAdd 0x1B n 1 := ⟨_, rfl⟩
  obtain ⟨w, hw⟩ : ∃ w, w = u.logCore 0x0010 n 2 (lastDetect 1 bank f.sub 0 f.column (s.core n).ctl.stepNum.toNat) := ⟨_, rfl⟩
  have hdetect : s.sweepDetect n bank (f :: fs) =
      if ((w.owner n).isNone || decide ((s.core n).ctl.drain = .reset)) = true then w
      else (if (decide ((s.core n).ctl.st = .run) || decide ((s.core n).ctl.st = .halted)) = true then w.plotStop n
        else w.updCore n (fun c => { c with ctl := { c.ctl with st := .faulted }, pint := { c.pint with stepFailed := true } })).updCore n
          (fun c => { c with ctl := { c.ctl with stepState := 2 } }) := by
    rw [hw, hu]
    rfl
  obtain ⟨hlog, hothers, frames, hcore⟩ := u.logCoreS_spec 0x0010 n 2 (lastDetect 1 bank f.sub 0 f.column (s.core n).ctl.stepNum.toNat) false
  have hlogw : u.logCoreS 0x0010 n 2 (lastDetect 1 bank f.sub 0 f.column (s.core n).ctl.stepNum.toNat) false = w := hw.symm
  rw [hlogw] at hlog hothers hcore
  have hucore : ∀ m, u.core m = if m = n then (s.core n).sweepSeen bank f fs else s.core m := fun m => by
    rw [hu, State.core_tallyAdd]
    exact State.core_setCore ..
  have huobjs : u.objs = s.objs := by
    rw [hu]
    exact (State.tallyAdd_tells ..).only.objs.resolve_left (by decide)
  rw [hucore, if_pos rfl] at hcore
  have howner : w.owner n = s.owner n := State.owner_congr ((hlog.objs.resolve_left (by decide)).trans huobjs) n
  rw [howner] at hdetect
  have hrest : OtherCores n s w := fun m hm => by rw [hothers m hm, hucore, if_neg hm]
  have hset : ∀ c : Core, OtherCores n s (w.setCore n c) := fun c m hm => by rw [State.core_setCore, if_neg hm, hrest m hm]
  dsimp only
  rw [hdetect]
  by_cases hfree : ((s.owner n).isNone || decide ((s.core n).ctl.drain = .reset)) = true
  · rw [if_pos hfree, hcore]
    refine ⟨hrest, rfl, rfl, rfl, rfl, fun howned hdrain => ?_, fun _ => ⟨rfl, rfl, rfl⟩⟩
    simp only [Bool.or_eq_true, decide_eq_true_eq, hdrain, or_false, Option.isNone_iff_eq_none] at hfree
    rw [hfree] at howned
    cases howned
  · rw [if_neg hfree]
    simp only [Bool.or_eq_true, decide_eq_true_eq, not_or, Option.isNone_iff_eq_none] at hfree
    obtain ⟨howned, hdrain⟩ := hfree
    by_cases hrun : (s.core n).ctl.st = .run ∨ (s.core n).ctl.st = .halted
    · have hstop : w.plotStop n = w.setCore n { (w.core n).stopFault with
          ctl := { (w.core n).stopFault.ctl with poisoning := true }, pint := { (w.core n).pint with stepFailed := true } } := by
        unfold State.plotStop
        refine if_neg ?_
        rw [hcore]
        simp only [Bool.or_eq_true, decide_eq_true_eq, not_or]
        change (¬ (s.core n).ctl.drain = .reset ∧ ¬ (s.core n).ctl.st = .faulted) ∧ ¬ (s.core n).ctl.st = .fenced
        rcases hrun with h | h <;> simp [h, hdrain]
      rw [if_pos (by simpa using hrun), hstop, State.updCore_eq, State.core_setCore_self]
      refine ⟨fun m hm => ?_, ?_⟩
      · rw [State.core_setCore, if_neg hm, hset _ m hm]
      · rw [State.core_setCore_self, hcore]
        exact ⟨rfl, rfl, rfl, rfl, fun _ _ => ⟨rfl, fun _ => rfl, fun h h' => absurd hrun (by tauto)⟩, fun h => absurd h howned⟩
    · rw [if_neg (by simpa using hrun), State.updCore_eq, State.updCore_eq, State.core_setCore_self]
      refine ⟨fun m hm => ?_, ?_⟩
      · rw [State.core_setCore, if_neg hm, hset _ m hm]
      · rw [State.core_setCore_self, hcore]
        exact ⟨rfl, rfl, rfl, rfl, fun _ _ => ⟨rfl, fun h => absurd h hrun, fun _ _ => rfl⟩, fun h => absurd h howned⟩

/-- The bank's sweep up to its detections: time has passed, and spares that fail count no longer. -/
def State.swept (s : State) (n bank lost : Nat) : State :=
  let t := (if lost = 0 || !s.power.clockOn || coreShipped n then s else s.tallyAdd 0x13 n lost)
  let t := t.elapseCycles ((2 * bank + 2 ^ 16 - t.cyc.cycles % 2 ^ 16) % 2 ^ 16)
  if (s.core n).pint.spareFails bank = (s.core n).pint then t
  else { t.updCore n (fun k => { k with pint := (s.core n).pint.spareFails bank }) with integ := { t.integ with storePending := true } }

theorem State.swept_spec (s : State) (n bank lost : Nat) : Only [.time, .cyc, .pavs, .tally, .cores, .integ] s (s.swept n bank lost) ∧
    OtherCores n s (s.swept n bank lost) ∧ (s.swept n bank lost).core n = { s.core n with pint := (s.core n).pint.spareFails bank } ∧
    ((s.core n).pint.spareFails bank = (s.core n).pint → Only [.time, .cyc, .pavs, .tally] s (s.swept n bank lost)) := by
  unfold State.swept
  dsimp only
  obtain ⟨t, ht⟩ : ∃ t, t = if (lost = 0 || !s.power.clockOn || coreShipped n) = true then s else s.tallyAdd 0x13 n lost := ⟨_, rfl⟩
  rw [← ht]
  have hcount : Only [.time, .cyc, .pavs, .tally] s t := by
    rw [ht]
    split
    · exact .refl _ s
    · exact (s.tallyAdd_tells ..).only.mono (by decide)
  have helapse := t.elapseCycles_only ((2 * bank + 2 ^ 16 - t.cyc.cycles % 2 ^ 16) % 2 ^ 16)
  generalize t.elapseCycles ((2 * bank + 2 ^ 16 - t.cyc.cycles % 2 ^ 16) % 2 ^ 16) = u at helapse
  have htime := hcount.trans helapse
  have hcore : ∀ m, u.core m = s.core m := State.core_congr (htime.cores.resolve_left (by decide))
  split
  · next hsame =>
    exact ⟨htime.mono (by decide), fun m _ => hcore m, by rw [hcore, hsame], fun _ => htime⟩
  · next hnew =>
    refine ⟨(htime.mono (by decide)).trans (only_iff_mask.2 rfl), fun m hm => ?_, ?_, fun h => absurd h hnew⟩
    · exact (State.core_setCore ..).trans ((if_neg hm).trans (hcore m))
    · exact (State.core_setCore_self ..).trans (by rw [hcore])

section
variable {s : State} {n : CoreIx} {bank : Fin 48} {lost : Nat} {upsets : List Upset} (hclk : s.power.clockOn = true)
  (hship : coreShipped n = false) (hfence : bit (s.core n).pint.fenced bank = false)
include hclk hship hfence

theorem exec_plotSentinelSweep : ∃ t, t = (s.swept n bank lost).sweepDetect n bank
      (if (s.core n).pint.suspects.any (fun x => x.bank = bank.val) then [] else (s.core n).pint.columnFaults' bank) ∧
    exec (.plotSentinelSweep n bank lost upsets) s =
      .next (if upsets.isEmpty then t else t.updCore n (fun k => upsets.foldl (fun k u => k.upset bank u) k)) := by
  refine ⟨_, rfl, ?_⟩
  change Host.Outcome.next _ = _
  have hclk' : (if (lost = 0 || !s.power.clockOn || coreShipped n) = true then s else s.tallyAdd 0x13 n lost).power.clockOn = true := by
    split
    · exact hclk
    · rw [(s.tallyAdd_tells ..).only.power.resolve_left (by decide)]
      exact hclk
  have hgo : ¬ (!(if (lost = 0 || !s.power.clockOn || coreShipped n) = true then s else s.tallyAdd 0x13 n lost).power.clockOn ||
      coreShipped n || bit (s.core n).pint.fenced bank) = true := by
    rw [hclk', hship, hfence]
    decide
  exact congrArg Host.Outcome.next (if_neg hgo)

theorem plotSentinelSweep_sound
    (hnone : (s.core n).pint.columnFaults' bank = [] ∨ (s.core n).pint.suspects.any (fun x => x.bank = bank.val) = true) :
    ∃ s', exec (.plotSentinelSweep n bank lost upsets) s = .next s' ∧ Only [.time, .cyc, .pavs, .tally, .cores, .integ] s s' ∧
      OtherCores n s s' ∧
      s'.core n = upsets.foldl (fun c u => c.upset bank u) { s.core n with pint := (s.core n).pint.spareFails bank } ∧
      ((s.core n).pint.spareFails bank = (s.core n).pint → upsets = [] → Only [.time, .cyc, .pavs, .tally] s s') := by
  obtain ⟨t, ht, hexec⟩ := exec_plotSentinelSweep (lost := lost) (upsets := upsets) hclk hship hfence
  have hquiet : (if (s.core n).pint.suspects.any (fun x => x.bank = bank.val) then [] else (s.core n).pint.columnFaults' bank) = [] := by
    split
    · rfl
    · next h => exact hnone.resolve_right h
  have hstand : t = s.swept n bank lost := by
    rw [ht, hquiet]
    rfl
  obtain ⟨honly, hothers, hcore, hsame⟩ := s.swept_spec n bank lost
  rw [← hstand] at honly hothers hcore hsame
  cases upsets with
  | nil => exact ⟨t, hexec, honly, hothers, hcore, fun h _ => hsame h⟩
  | cons u us =>
    rw [if_neg (by simp)] at hexec
    have hupset : Only [.time, .cyc, .pavs, .tally, .cores, .integ] t (t.updCore n (fun k => (u :: us).foldl (fun k u => k.upset bank u) k)) :=
      (t.updCore_only ..).mono (by decide)
    refine ⟨_, hexec, honly.trans hupset, fun m hm => ?_, ?_, nofun⟩
    · exact (State.core_setCore ..).trans ((if_neg hm).trans (hothers m hm))
    · exact (State.core_setCore_self ..).trans (by rw [hcore])

theorem plotSentinelSweep_detects {x : Suspect} {rest : List Suspect} (hfault : (s.core n).pint.columnFaults' bank = x :: rest)
    (hclear : (s.core n).pint.suspects.any (fun y => y.bank = bank.val) = false) :
    ∃ s', exec (.plotSentinelSweep n bank lost upsets) s = .next s' ∧ OtherCores n s s' ∧
      (s'.core n).pint.detects = ((s.core n).pint.detects + 1) % 2 ^ 32 ∧
      (s'.core n).pint.last = lastDetect 1 bank x.sub 0 x.column (s.core n).ctl.stepNum.toNat ∧
      (s'.core n).pint.suspects = (s.core n).pint.suspects ++ x :: rest ∧ (upsets = [] → (s'.core n).plot = (s.core n).plot) ∧
      ((s.owner n).isSome = true → (s.core n).ctl.drain ≠ .reset → (s'.core n).ctl.stepState = 2 ∧
        ((s.core n).ctl.st = .run ∨ (s.core n).ctl.st = .halted → (s'.core n).ctl.drain = .fault) ∧
        ((s.core n).ctl.st ≠ .run → (s.core n).ctl.st ≠ .halted → (s'.core n).ctl.st = .faulted)) ∧
      (s.owner n = none → (s'.core n).ctl.st = (s.core n).ctl.st ∧ (s'.core n).ctl.drain = (s.core n).ctl.drain ∧
        (s'.core n).ctl.stepState = (s.core n).ctl.stepState) := by
  obtain ⟨t, ht, hexec⟩ := exec_plotSentinelSweep (lost := lost) (upsets := upsets) hclk hship hfence
  obtain ⟨honly, hothers, hcore, -⟩ := s.swept_spec n bank lost
  rw [hclear, if_neg (by decide), hfault] at ht
  have hspec := (s.swept n bank lost).sweepDetect_spec n bank x rest
  have howner : (s.swept n bank lost).owner n = s.owner n := State.owner_congr (honly.objs.resolve_left (by decide)) n
  dsimp only at hspec
  rw [← ht, hcore, howner] at hspec
  obtain ⟨hrest, hdetects, hlast, hsus, hplot, howned, hfree⟩ := hspec
  have hall : OtherCores n s t := fun m hm => (hrest m hm).trans (hothers m hm)
  cases upsets with
  | nil => exact ⟨t, hexec, hall, hdetects, hlast, hsus, fun _ => hplot, howned, hfree⟩
  | cons u us =>
    obtain ⟨kctl, kdetects, klast, ksus⟩ := upset_foldl_keeps bank (u :: us) (t.core n)
    have hnew : (t.updCore n (fun k => (u :: us).foldl (fun k u => k.upset bank u) k)).core n =
        (u :: us).foldl (fun c u => c.upset bank u) (t.core n) := State.core_setCore_self ..
    rw [if_neg (by simp)] at hexec
    refine ⟨_, hexec, fun m hm => ?_, ?_⟩
    · exact (State.core_setCore ..).trans ((if_neg hm).trans (hall m hm))
    · rw [hnew, kctl, kdetects, klast, ksus]
      exact ⟨hdetects, hlast, hsus, nofun, howned, hfree⟩

end

/-- Settles O18: a Pip sweep checks block after block, and a sentinel sweep finds the columns that are in service and fail. -/
theorem memorySweeps : Obligations.MemorySweeps := by
  unfold Obligations.MemorySweeps
  exact ⟨fun s s0 k upsets hs hfree hclk => ⟨fun b c => pipSweepCheck_steps hs hfree hclk, pipSweepCheck_ends hs hfree hclk⟩, State.memUpset_only,
    fun s n bank lost upsets hclk hship hfence => ⟨plotSentinelSweep_sound hclk hship hfence,
      fun x rest => plotSentinelSweep_detects hclk hship hfence⟩⟩

end Sys2Proof.Machine
end

section
/-! PROOF. The bits of a number under the operations of the model: a bit cleared, a field set, the bytes of a register, a list of bits (03 R79). -/

namespace Sys2Proof.Machine
open Sys2Proof.Safety

theorem bits_congr {a b hi lo : Nat} (h : ∀ i, lo ≤ i → i ≤ hi → bit a i = bit b i) : bits a hi lo = bits b hi lo := by
  refine Nat.eq_of_testBit_eq fun i => ?_
  unfold bits
  rw [Nat.testBit_mod_two_pow, Nat.testBit_mod_two_pow, Nat.testBit_div_two_pow, Nat.testBit_div_two_pow]
  by_cases hi : i < hi + 1 - lo
  · rw [← bit_eq_testBit, ← bit_eq_testBit, h (i + lo) (by omega) (by omega)]
  · rw [decide_eq_false hi, Bool.false_and, Bool.false_and]

theorem bits_zero_low (v hi : Nat) : bits v hi 0 = v % 2 ^ (hi + 1) := by
  rw [bits, pow_zero, Nat.div_one, Nat.sub_zero]

theorem bits_of_aligned {v hi lo w : Nat} (h : hi + 1 - lo = w) (a : Nat) (hbit : ∀ i, i < w → bit v (lo + i) = bit a i) :
    bits v hi lo = a % 2 ^ w := by
  refine Nat.eq_of_testBit_eq fun i => ?_
  unfold bits
  rw [h, Nat.testBit_mod_two_pow, Nat.testBit_mod_two_pow, Nat.testBit_div_two_pow]
  by_cases hi : i < w
  · rw [← bit_eq_testBit, ← bit_eq_testBit, Nat.add_comm i lo, hbit i hi]
  · rw [decide_eq_false hi, Bool.false_and, Bool.false_and]

theorem bit_mod_two_pow (v k i : Nat) : bit (v % 2 ^ k) i = (decide (i < k) && bit v i) := by
  rw [bit_eq_testBit, Nat.testBit_mod_two_pow, ← bit_eq_testBit]

theorem bit_div_two_pow (v k i : Nat) : bit (v / 2 ^ k) i = bit v (i + k) := by
  rw [bit_eq_testBit, Nat.testBit_div_two_pow, ← bit_eq_testBit]

/-- Setting a field sets its bits and leaves the others. -/
theorem bit_setBits {hi lo : Nat} (h : lo ≤ hi) (v x i : Nat) :
    bit (setBits v hi lo x) i = if lo ≤ i ∧ i ≤ hi then bit x (i - lo) else bit v i := by
  obtain ⟨w, hw⟩ : ∃ w, w = hi + 1 - lo := ⟨_, rfl⟩
  have hmid := Nat.div_add_mod (v / 2 ^ lo) (2 ^ w)
  have hlow := Nat.div_add_mod v (2 ^ lo)
  have hset : setBits v hi lo x = 2 ^ lo * (2 ^ w * (v / 2 ^ lo / 2 ^ w) + x % 2 ^ w) + v % 2 ^ lo := by
    unfold setBits bits
    rw [← hw]
    generalize v / 2 ^ lo / 2 ^ w = high, v / 2 ^ lo % 2 ^ w = mid at hmid ⊢
    generalize v % 2 ^ lo = low at hlow ⊢
    rw [Nat.mul_comm mid, Nat.mul_comm (x % 2 ^ w), Nat.mul_add]
    conv_lhs => rw [← hlow, ← hmid, Nat.mul_add]
    omega
  have hlt : v % 2 ^ lo < 2 ^ lo := Nat.mod_lt _ (Nat.two_pow_pos lo)
  have hlt' : x % 2 ^ w < 2 ^ w := Nat.mod_lt _ (Nat.two_pow_pos w)
  simp only [bit_eq_testBit]
  rw [hset, Nat.testBit_two_pow_mul_add _ hlt, Nat.testBit_two_pow_mul_add _ hlt']
  by_cases hbelow : i < lo
  · rw [if_pos hbelow, if_neg (by omega), Nat.testBit_mod_two_pow, decide_eq_true hbelow, Bool.true_and]
  · rw [if_neg hbelow]
    by_cases hin : i - lo < w
    · rw [if_pos hin, if_pos (by omega), Nat.testBit_mod_two_pow, decide_eq_true hin, Bool.true_and]
    · rw [if_neg hin, if_neg (by omega), Nat.testBit_div_two_pow, Nat.testBit_div_two_pow]
      congr 1
      omega

/-- Clearing a bit clears it and leaves the others. -/
theorem bit_setBit_false (v i j : Nat) : bit (setBit v i false) j = (bit v j && !decide (j = i)) := by
  unfold setBit
  split
  · next hclear =>
    by_cases hij : j = i
    · rw [hij, hclear, Bool.false_and]
    · rw [decide_eq_false hij, Bool.not_false, Bool.and_true]
  · next hset =>
    have hone : bit v i = true := by simpa using hset
    have hge : 2 ^ i ≤ v := Nat.ge_two_pow_of_testBit (bit_eq_testBit .. ▸ hone)
    have hback : v - 2 ^ i + 2 ^ i = v := Nat.sub_add_cancel hge
    have hclear : bit (v - 2 ^ i) i = false := by
      have hdiv : v / 2 ^ i = (v - 2 ^ i) / 2 ^ i + 1 := by rw [← Nat.add_div_right _ (Nat.two_pow_pos i), hback]
      simp only [bit, beq_iff_eq, beq_eq_false_iff_ne] at hone ⊢
      omega
    rw [if_neg (by decide)]
    by_cases hij : j = i
    · rw [hij, hclear, decide_eq_true rfl, Bool.not_true, Bool.and_false]
    · rw [decide_eq_false hij, Bool.not_false, Bool.and_true, bit_eq_testBit, bit_eq_testBit,
        ← testBit_add_two_pow hclear hij, hback]

/-- The number whose bits below `w` are those of `v` but for the ones `p` takes out. -/
theorem bit_keepBits (v : Nat) (p : Nat → Bool) (w j : Nat) :
    bit ((bitList v w).foldl (fun a i => if p i then a else a + 2 ^ i) 0) j = (decide (j < w) && bit v j && !p j) := by
  suffices h : (bitList v w).foldl (fun a i => if p i then a else a + 2 ^ i) 0 < 2 ^ w ∧
      ∀ j, bit ((bitList v w).foldl (fun a i => if p i then a else a + 2 ^ i) 0) j = (decide (j < w) && bit v j && !p j) from h.2 j
  induction w with
  | zero => exact ⟨Nat.one_pos, fun j => by simp [bitList, bit_eq_testBit]⟩
  | succ w ih =>
    obtain ⟨hlt, hbit⟩ := ih
    have hpow : 2 ^ (w + 1) = 2 ^ w + 2 ^ w := by rw [pow_succ, Nat.mul_two]
    have hclear : ∀ a, a < 2 ^ w → bit a w = false := fun a ha => by rw [bit_eq_testBit, Nat.testBit_lt_two_pow ha]
    have hlist : bitList v (w + 1) = bitList v w ++ (if bit v w then [w] else []) := by
      simp [bitList, List.range_succ, List.filter_append, List.filter_cons]
    rw [hlist, List.foldl_append]
    generalize (bitList v w).foldl (fun a i => if p i then a else a + 2 ^ i) 0 = a at hlt hbit ⊢
    have hskip : (bit v w && !p w) = false → ∀ j, bit a j = (decide (j < w + 1) && bit v j && !p j) := fun hno j => by
      rw [hbit j]
      by_cases hj : j = w
      · simp_all
      · rw [decide_eq_decide.2 (show j < w ↔ j < w + 1 by omega)]
    by_cases hv : bit v w = true
    · rw [if_pos hv, List.foldl_cons, List.foldl_nil]
      by_cases hp : p w = true
      · rw [if_pos hp]
        exact ⟨by omega, hskip (by simp [hp])⟩
      · rw [if_neg hp]
        refine ⟨by omega, fun j => ?_⟩
        by_cases hj : j = w
        · rw [hj, bit_eq_testBit, Nat.add_comm, Nat.testBit_two_pow_add_eq, ← bit_eq_testBit, hclear a hlt]
          simp [hv, hp]
        · rw [bit_eq_testBit, testBit_add_two_pow (hclear a hlt) hj, ← bit_eq_testBit, hbit j,
            decide_eq_decide.2 (show j < w ↔ j < w + 1 by omega)]
    · rw [if_neg hv, List.foldl_nil]
      exact ⟨by omega, hskip (by simp [hv])⟩

/-- A register after a write of some of its bytes: the bytes written hold the value, the others stand. -/
theorem bit_regBytes (old base size off len v i : Nat) : bit (regBytes old base size off len v) i =
    if i / 8 < size ∧ off ≤ base + i / 8 ∧ base + i / 8 < off + len then bit v (8 * (base + i / 8 - off) + i % 8) else bit old i := by
  unfold regBytes
  induction len with
  | zero => rw [List.range_zero, List.foldl_nil, if_neg (by omega)]
  | succ n ih =>
    rw [List.range_succ, List.foldl_append, List.foldl_cons, List.foldl_nil]
    generalize (List.range n).foldl _ old = x at ih ⊢
    dsimp only
    by_cases hreg : base ≤ off + n ∧ off + n < base + size
    · rw [if_pos (by simpa using hreg), bit_setBits (by omega), ih, show (256 : Nat) ^ n = 2 ^ (8 * n) from (pow_mul 2 8 n).symm, bit_div_two_pow]
      by_cases hbyte : base + i / 8 = off + n
      · rw [if_pos (by omega), if_pos (by omega)]
        congr 1
        omega
      · rw [if_neg (by omega)]
        exact if_congr (by omega) rfl rfl
    · rw [if_neg (by simpa using hreg), ih]
      exact if_congr (by omega) rfl rfl

theorem regBytes_of_apart {base size off len : Nat} (h : ∀ a, base ≤ a → a < base + size → off ≤ a → a < off + len → False) (old v : Nat) :
    regBytes old base size off len v = old := by
  refine Nat.eq_of_testBit_eq fun i => ?_
  rw [← bit_eq_testBit, ← bit_eq_testBit, bit_regBytes, if_neg]
  exact fun ⟨hi, hlo, hhi⟩ => h (base + i / 8) (by omega) (by omega) hlo hhi

end Sys2Proof.Machine
end

section
/-! PROOF. Interrupt causes, MSI-X, doorbells and the registers of BAR0 (03 R84; 15 R417 to R420, R425, R637). -/

namespace Sys2Proof.Machine
open Sys2Proof.Safety

/-! ### Messages -/

/-- The message of vector `v` of function `f`, as its table entry gives it. -/
def State.msixMsg (s : State) (f v : Nat) : Out :=
  .msix f v ((s.fn f).tableWord (4 * v) + 2 ^ 32 * (s.fn f).tableWord (4 * v + 1)) ((s.fn f).tableWord (4 * v + 2))

/-- What sending messages does: they leave, and the PBA of their function alone changes. -/
structure PbaOnly (f : Nat) (s t : State) : Prop where
  tells : Tells [.fns, .out] s t
  others : ∀ g, g ≠ f → t.fn g = s.fn g
  self : t.fn f = { s.fn f with pba := (t.fn f).pba }

theorem PbaOnly.refl (f : Nat) (s : State) : PbaOnly f s s := ⟨.refl _ s, fun _ _ => rfl, rfl⟩

theorem PbaOnly.trans {f : Nat} {s t u : State} (h : PbaOnly f s t) (k : PbaOnly f t u) : PbaOnly f s u :=
  ⟨h.tells.trans k.tells, fun g hg => (k.others g hg).trans (h.others g hg), k.self.trans (by rw [h.self])⟩

theorem PbaOnly.foldl {f : Nat} {α : Type} (step : State → α → State) (h : ∀ s a, PbaOnly f s (step s a)) (xs : List α) (s : State) :
    PbaOnly f s (xs.foldl step s) :=
  List.foldlRecOn (motive := fun t : State => PbaOnly f s t) _ _ (.refl f s) fun t ht a _ => ht.trans (h t a)

theorem PbaOnly.tableWord {f : Nat} {s t : State} (h : PbaOnly f s t) (k : Nat) : (t.fn f).tableWord k = (s.fn f).tableWord k := by
  rw [h.self]
  rfl

theorem PbaOnly.vector {f : Nat} {s t : State} (h : PbaOnly f s t) : (t.fn f).vector = (s.fn f).vector := by
  rw [h.self]

theorem PbaOnly.msixMsg {f : Nat} {s t : State} (h : PbaOnly f s t) (v : Nat) : t.msixMsg f v = s.msixMsg f v := by
  unfold State.msixMsg
  rw [h.tableWord, h.tableWord, h.tableWord]

theorem PbaOnly.msixOpen {f : Nat} {s t : State} (h : PbaOnly f s t) (v : Nat) : t.msixOpen f v = s.msixOpen f v := by
  have hexists : t.fnExists f = s.fnExists f := by
    unfold State.fnExists
    rw [h.tells.only.pcie.resolve_left (by decide)]
  unfold State.msixOpen
  dsimp only
  rw [hexists, h.tableWord, h.self]

theorem PbaOnly.setPba (s : State) (f p : Nat) : PbaOnly f s (s.setFn f { s.fn f with pba := p }) :=
  ⟨s.setFn_tells .., fun g hg => (State.fn_setFn ..).trans (if_neg hg), by rw [State.fn_setFn_self]⟩

theorem PbaOnly.sendMsix (s : State) (f v : Nat) : PbaOnly f s (s.sendMsix f v) :=
  ⟨(s.emit_tells _).mono (by decide), fun _ _ => rfl, rfl⟩

/-- What the message of a cause does (15 R420, R425): it leaves where PCIe lets it, or waits in the PBA. -/
theorem State.sendIrq_spec (s : State) (f i : Nat) : PbaOnly f s (s.sendIrq f i) ∧
    ∀ v, bits (s.fn f).vector (8 * i + 7) (8 * i) = v → v ≤ 63 →
      (s.msixOpen f v = true → (s.sendIrq f i).out = s.out ++ [s.msixMsg f v]) ∧
      (s.msixOpen f v = false → (s.sendIrq f i).out = s.out ∧ bit ((s.sendIrq f i).fn f).pba v = true) := by
  unfold State.sendIrq
  dsimp only
  split
  · next hbig => exact ⟨.refl f s, fun v hv hle => by omega⟩
  · split
    · next hopen =>
      refine ⟨.sendMsix .., fun v hv _ => ⟨fun _ => hv ▸ rfl, fun hclosed => ?_⟩⟩
      rw [hv, hclosed] at hopen
      cases hopen
    · next hclosed =>
      refine ⟨.setPba .., fun v hv _ => ⟨fun hopen => absurd (hv ▸ hopen) hclosed, fun _ => ⟨rfl, ?_⟩⟩⟩
      rw [State.fn_setFn_self, hv]
      exact bit_setBit_self ..

theorem State.pba_sendIrq (s : State) (f i : Nat) {w : Nat} (h : bit (s.fn f).pba w = true) : bit ((s.sendIrq f i).fn f).pba w = true := by
  unfold State.sendIrq
  dsimp only
  split
  · exact h
  · split
    · exact h
    · rw [State.fn_setFn_self]
      exact bit_setBit_of_bit h

theorem State.flushPba_pbaOnly (s : State) (f : Nat) : PbaOnly f s (s.flushPba f) :=
  PbaOnly.foldl _ (fun t v => by
    split
    · exact (PbaOnly.setPba t f _).trans (.sendMsix ..)
    · exact .refl f t) _ s

/-- A message that waited and can leave has left (15 R420). -/
theorem State.flushPba_sends {s : State} {f w : Nat} (hw : w < 64) (hwaits : bit (s.fn f).pba w = true) (hopen : s.msixOpen f w = true) :
    bit ((s.flushPba f).fn f).pba w = false ∧ s.msixMsg f w ∈ (s.flushPba f).out := by
  have hflush := s.flushPba_pbaOnly f
  rw [← hflush.msixMsg]
  rw [← hflush.msixOpen] at hopen
  revert hopen
  unfold State.flushPba
  refine foldl_sets (P := fun t : State => t.msixOpen f w = true → bit (t.fn f).pba w = false ∧ t.msixMsg f w ∈ t.out)
    (mem_bitList.2 ⟨hw, hwaits⟩) (fun t => ?_) (fun t v ht => ?_) s
  · split
    · next h =>
      intro _
      refine ⟨?_, List.mem_append_right _ (List.mem_singleton.2 ?_)⟩
      · change bit ((t.setFn f { t.fn f with pba := setBit (t.fn f).pba w false }).fn f).pba w = false
        rw [State.fn_setFn_self, bit_setBit_false, decide_eq_true rfl, Bool.not_true, Bool.and_false]
      · exact (PbaOnly.sendMsix ..).msixMsg w
    · next h => exact fun hopen => absurd hopen h
  · split
    · next h =>
      have hstep := (PbaOnly.setPba t f (setBit (t.fn f).pba v false)).trans (.sendMsix _ f v)
      intro hopen
      obtain ⟨hclear, hsent⟩ := ht ((hstep.msixOpen w).symm.trans hopen)
      refine ⟨?_, hstep.tells.out.subset ((hstep.msixMsg w).symm ▸ hsent)⟩
      change bit ((t.setFn f { t.fn f with pba := setBit (t.fn f).pba v false }).fn f).pba w = false
      rw [State.fn_setFn_self, bit_setBit_false, hclear, Bool.false_and]
    · exact ht

theorem State.flushPba_closed {s : State} {f : Nat} (h : ∀ v, s.msixOpen f v = false) : s.flushPba f = s :=
  List.foldlRecOn (motive := fun t : State => t = s) _ _ rfl fun t ht v _ => by
    rw [ht, h v]
    rfl

/-! ### Causes -/

theorem State.raise_spec (s : State) (f i : Nat) : bit ((s.raise f i).fn f).pending i = true ∧
    (∀ j, j ≠ i → bit ((s.raise f i).fn f).pending j = bit (s.fn f).pending j) ∧
    (bit (s.fn f).pending i = true → s.raise f i = s) ∧ (bit (s.fn f).mask i = true → (s.raise f i).out = s.out) ∧
    ∀ v, bit (s.fn f).pending i = false → bit (s.fn f).mask i = false → bits (s.fn f).vector (8 * i + 7) (8 * i) = v → v ≤ 63 →
      (s.msixOpen f v = true → (s.raise f i).out = s.out ++ [s.msixMsg f v]) ∧
      (s.msixOpen f v = false → (s.raise f i).out = s.out ∧ bit ((s.raise f i).fn f).pba v = true) := by
  unfold State.raise
  dsimp only
  split
  · next hset => exact ⟨hset, fun _ _ => rfl, fun _ => rfl, fun _ => rfl, fun v hclear => absurd hset (by simp [hclear])⟩
  · next hclear =>
    obtain ⟨t, ht⟩ : ∃ t : State, t = s.setFn f { s.fn f with pending := setBit (s.fn f).pending i true } := ⟨_, rfl⟩
    have hfn : t.fn f = { s.fn f with pending := setBit (s.fn f).pending i true } := ht ▸ State.fn_setFn_self ..
    have hout : t.out = s.out := by rw [ht]; rfl
    have hopen : ∀ v, t.msixOpen f v = s.msixOpen f v := fun v => by
      unfold State.msixOpen
      rw [hfn, ht]
      rfl
    have hmsg : ∀ v, t.msixMsg f v = s.msixMsg f v := fun v => by
      unfold State.msixMsg
      rw [hfn]
      rfl
    rw [← ht]
    obtain ⟨honly, hsent⟩ := t.sendIrq_spec f i
    have hpend : ∀ j, bit ((if bit (s.fn f).mask i = true then t else t.sendIrq f i).fn f).pending j =
        (bit (s.fn f).pending j || decide (j = i)) := fun j => by
      have hsame : ((if bit (s.fn f).mask i = true then t else t.sendIrq f i).fn f).pending = (t.fn f).pending := by
        split
        · rfl
        · rw [honly.self]
      rw [hsame, hfn, bit_setBit_true]
    refine ⟨by simp [hpend], fun j hj => by simp [hpend, hj], fun h => absurd h hclear, fun hmask => ?_, fun v _ hmask hv hle => ?_⟩
    · rw [if_pos hmask, hout]
    · rw [if_neg (by simp [hmask])]
      rw [← hopen, ← hmsg, ← hout]
      exact hsent v (by rw [hfn]; exact hv) hle

section
variable {s : State} {f : FnIx} (v : Word) (hf : s.fnExists f = true)
include hf

theorem intPendingClear_clears : ∃ s', exec (.intPendingClear f v) s = .next s' ∧ Only [.fns] s s' ∧ (∀ g, g ≠ f.val → s'.fn g = s.fn g) ∧
    s'.fn f = { s.fn f with pending := (s'.fn f).pending } ∧
    ∀ i, i < 32 → bit (s'.fn f).pending i = (bit (s.fn f).pending i && !bit v.toNat i) := by
  refine ⟨_, congrArg Host.Outcome.next (if_pos hf), only_iff_mask.2 rfl, fun g hg => (State.fn_setFn ..).trans (if_neg hg), ?_, fun i hi => ?_⟩
  · rw [State.updFn, State.fn_setFn_self]
  · rw [State.updFn, State.fn_setFn_self]
    exact (bit_keepBits ..).trans (by rw [decide_eq_true hi, Bool.true_and])

theorem listDoneMapClear_clears (word : Fin 5) (hword : f.val ≠ 0 ∨ word.val = 0) : ∃ s', exec (.listDoneMapClear f word v) s = .next s' ∧
    Only [.fns] s s' ∧ (∀ g, g ≠ f.val → s'.fn g = s.fn g) ∧ s'.fn f = { s.fn f with listMap := (s'.fn f).listMap } ∧
    ∀ i, i < 160 → bit (s'.fn f).listMap i = (bit (s.fn f).listMap i && !(decide (i / 32 = word.val) && bit v.toNat (i % 32))) := by
  refine ⟨_, congrArg Host.Outcome.next (if_pos (by simpa [hf] using hword)), only_iff_mask.2 rfl,
    fun g hg => (State.fn_setFn ..).trans (if_neg hg), ?_, fun i hi => ?_⟩
  · rw [State.updFn, State.fn_setFn_self]
  · rw [State.updFn, State.fn_setFn_self]
    exact (bit_keepBits _ (fun i => decide (i / 32 = word.val) && bit v.toNat (i % 32)) 160 i).trans (by rw [decide_eq_true hi, Bool.true_and])

theorem intMaskWrite_sends : ∃ s', exec (.intMaskWrite f v) s = .next s' ∧ Only [.fns, .out] s s' ∧ (∀ g, g ≠ f.val → s'.fn g = s.fn g) ∧
    (s'.fn f).mask = v.toNat ∧ (s'.fn f).pending = (s.fn f).pending ∧
    ((∀ i, i < 32 → bit (s.fn f).pending i = true → bit (s.fn f).mask i = true → bit v.toNat i = true) → s'.out = s.out) ∧
    ∀ i w, i < 32 → bit (s.fn f).pending i = true → bit (s.fn f).mask i = true → bit v.toNat i = false →
      bits (s.fn f).vector (8 * i + 7) (8 * i) = w → w ≤ 63 →
      (s.msixOpen f w = true → s.msixMsg f w ∈ s'.out) ∧ (s.msixOpen f w = false → bit (s'.fn f).pba w = true) := by
  obtain ⟨t, ht⟩ : ∃ t : State, t = s.setFn f { s.fn f with mask := v.toNat } := ⟨_, rfl⟩
  have hfn : t.fn f = { s.fn f with mask := v.toNat } := ht ▸ State.fn_setFn_self ..
  have hexec : exec (.intMaskWrite f v) s = .next
      (((bitList (s.fn f).pending 32).filter (fun i => bit (s.fn f).mask i && !bit v.toNat i)).foldl (fun s i => s.sendIrq f i) t) :=
    ht ▸ congrArg Host.Outcome.next (if_pos hf)
  have hsends : PbaOnly f t _ := PbaOnly.foldl (fun s i => s.sendIrq f i) (fun u i => (u.sendIrq_spec f i).1)
    ((bitList (s.fn f).pending 32).filter (fun i => bit (s.fn f).mask i && !bit v.toNat i)) t
  refine ⟨_, hexec, (ht ▸ (s.setFn_tells ..).only).trans hsends.tells.only, fun g hg => (hsends.others g hg).trans ?_, ?_, ?_, fun hall => ?_,
    fun i w hi hpend hmask hv hw hle => ?_⟩
  · rw [ht, State.fn_setFn, if_neg hg]
  · rw [hsends.self, hfn]
  · rw [hsends.self, hfn]
  · rw [List.filter_eq_nil_iff.2 fun i hi => ?_, List.foldl_nil, ht]
    · rfl
    · obtain ⟨hlt, hpend⟩ := mem_bitList.1 hi
      cases hmask : bit (s.fn f).mask i
      · simp
      · simp [hall i hlt hpend hmask]
  · have hopen : s.msixOpen f w = t.msixOpen f w := by
      unfold State.msixOpen
      rw [hfn, ht]
      rfl
    have hmsg : s.msixMsg f w = t.msixMsg f w := by
      unfold State.msixMsg
      rw [hfn]
      rfl
    rw [hopen, hmsg, ← hsends.msixOpen, ← hsends.msixMsg]
    have hvec : bits (t.fn f).vector (8 * i + 7) (8 * i) = w := by
      rw [hfn]
      exact hw
    rw [← hsends.vector] at hvec
    revert hvec
    refine foldl_sets (P := fun u : State => bits (u.fn f).vector (8 * i + 7) (8 * i) = w →
        (u.msixOpen f w = true → u.msixMsg f w ∈ u.out) ∧ (u.msixOpen f w = false → bit (u.fn f).pba w = true))
      (List.mem_filter.2 ⟨mem_bitList.2 ⟨hi, hpend⟩, by simp [hmask, hv]⟩) (fun u hvec => ?_) (fun u j hu hvec => ?_) t
    · obtain ⟨hstep, hsent⟩ := u.sendIrq_spec f i
      rw [hstep.vector] at hvec
      obtain ⟨hleaves, hwaits⟩ := hsent w hvec hle
      rw [hstep.msixOpen, hstep.msixMsg]
      exact ⟨fun h => by simp [hleaves h], fun h => (hwaits h).2⟩
    · obtain ⟨hstep, -⟩ := u.sendIrq_spec f j
      rw [hstep.vector] at hvec
      obtain ⟨hleaves, hwaits⟩ := hu hvec
      rw [hstep.msixOpen, hstep.msixMsg]
      exact ⟨fun h => hstep.tells.out.subset (hleaves h), fun h => u.pba_sendIrq f j (hwaits h)⟩

omit v

theorem msixEnable_off : ∃ s', exec (.msixEnable f false) s = .next s' ∧ Only [.fns] s s' ∧ s'.fn f = { s.fn f with msix := false } := by
  have hclosed : ∀ w, (s.updFn f (fun n => { n with msix := false })).msixOpen f w = false := fun w => by
    unfold State.msixOpen State.updFn
    rw [State.fn_setFn_self]
    rfl
  refine ⟨_, congrArg Host.Outcome.next ((if_pos hf).trans (State.flushPba_closed hclosed)), only_iff_mask.2 rfl, ?_⟩
  rw [State.updFn, State.fn_setFn_self]

theorem msixEnable_on : ∃ s', exec (.msixEnable f true) s = .next s' ∧ Only [.fns, .out] s s' ∧ (∀ g, g ≠ f.val → s'.fn g = s.fn g) ∧
    (s'.fn f).msix = true ∧ (s'.fn f).pending = (s.fn f).pending ∧
    ∀ w, w < 64 → bit (s.fn f).pba w = true → (s.fn f).busMaster = true → (s.fn f).fnMask = false →
      bit ((s.fn f).tableWord (4 * w + 3)) 0 = false → bit (s'.fn f).pba w = false ∧ s.msixMsg f w ∈ s'.out := by
  obtain ⟨t, ht⟩ : ∃ t : State, t = s.updFn f (fun n => { n with msix := true }) := ⟨_, rfl⟩
  have hfn : t.fn f = { s.fn f with msix := true } := ht ▸ State.fn_setFn_self ..
  have hset : Only [.fns, .out] s t := ht ▸ (s.setFn_tells ..).only
  have hflush := t.flushPba_pbaOnly f
  refine ⟨t.flushPba f, ht ▸ congrArg Host.Outcome.next (if_pos hf), hset.trans hflush.tells.only,
    fun g hg => (hflush.others g hg).trans ?_, ?_, ?_, fun w hw hpba hbus hmask hvec => ?_⟩
  · rw [ht, State.updFn, State.fn_setFn, if_neg hg]
  · rw [hflush.self, hfn]
  · rw [hflush.self, hfn]
  · have hexists : t.fnExists f = true := by
      rw [ht]
      exact hf
    have hvec' : bit ((t.fn f).tableWord (4 * w + 3)) 0 = false := by
      rw [hfn]
      exact hvec
    have hopen : t.msixOpen f w = true := by
      unfold State.msixOpen
      dsimp only
      rw [hvec', hexists, hfn]
      simp [hbus, hmask]
    have hmsg : s.msixMsg f w = t.msixMsg f w := by
      unfold State.msixMsg
      rw [hfn]
      rfl
    rw [hmsg]
    exact State.flushPba_sends hw (by rw [hfn]; exact hpba) hopen

end

/-! ### Doorbells -/

theorem doorbell_starts {s t : State} {p : PavIx} {v : DWord} {n : CoreIx} (hf : s.fnExists (p + 1) = true) (ht : t = s.posted (p + 1))
    (hn : bits v.toNat 7 0 = n) (hres : doorbellReserved v.toNat = false) (hown : t.owner n = some p.val) (hclk : t.power.clockOn = true) :
    ∃ s', exec (.doorbell p v 8) s = .next s' ∧ exec (.startRequest n (bit v.toNat 8) (bits v.toNat 38 16) (bits v.toNat 61 39)) t = .next s' := by
  refine ⟨t.startRequest p n false (bit v.toNat 8) (bits v.toNat 38 16) (bits v.toNat 61 39), ?_, ?_⟩
  · change Host.Outcome.next _ = _
    rw [if_neg (by simp [hf]), ← ht, ← hn, ← hres]
    rfl
  · refine (State.clocked_on _ hclk : execStartRequest n _ _ _ t = _).trans (congrArg _ ?_)
    rw [hown]

theorem doorbell_width {s t : State} {p : PavIx} {width : Nat} (v : DWord) (hf : s.fnExists (p + 1) = true) (ht : t = s.posted (p + 1))
    (hw : width ≠ 8) : ∃ s', exec (.doorbell p v width) s = .next s' ∧ Only [.tally] t s' ∧
      Sparse.getD s'.tally (tkey 0x2B p) 0 = (Sparse.getD t.tally (tkey 0x2B p) 0 + 1) % 2 ^ 48 := by
  refine ⟨t.tallyAdd 0x2B p 1, ?_, (t.tallyAdd_tells ..).only, t.tally_tallyAdd_self _ _ (by omega)⟩
  change Host.Outcome.next _ = _
  rw [if_neg (by simp [hf]), ← ht]
  exact congrArg Host.Outcome.next (if_pos hw)

theorem dbRefusalRead_clears {s : State} {p : PavIx} (hf : s.fnExists (p + 1) = true) : ∃ s', exec (.dbRefusalRead p) s = .next s' ∧
    Only [.fns, .out] s s' ∧ s'.out = s.out ++ [.bar0 (p + 1) (s.fn (p + 1)).dbRefusal] ∧
    s'.fn (p + 1) = { s.fn (p + 1) with dbRefusal := 0 } ∧ ∀ g, g ≠ p.val + 1 → s'.fn g = s.fn g :=
  ⟨_, congrArg Host.Outcome.next (if_pos hf), ((State.emit_tells ..).mono (by decide)).only.trans (State.setFn_tells ..).only, rfl, State.fn_setFn_self ..,
    fun _ hg => (State.fn_setFn ..).trans (if_neg hg)⟩

/-! ### BAR0 -/

/-- A register of 4 bytes reads whole from an aligned offset. -/
theorem State.bar0Bytes_aligned {s : State} {f off : Nat} (h : off % 4 = 0) : s.bar0Bytes f off 4 = s.bar0 f off % 2 ^ 32 := by
  have hreg : ∀ i, i < 4 → (off + i) / 4 * 4 = off ∧ (off + i) % 4 = i := fun i hi => by omega
  have hrange : List.range 4 = [0, 1, 2, 3] := rfl
  obtain ⟨h0, m0⟩ := hreg 0 (by decide)
  obtain ⟨h1, m1⟩ := hreg 1 (by decide)
  obtain ⟨h2, m2⟩ := hreg 2 (by decide)
  obtain ⟨h3, m3⟩ := hreg 3 (by decide)
  unfold State.bar0Bytes
  simp only [hrange, List.map_cons, List.map_nil, leNat, BitVec.toNat_ofNat, h0, h1, h2, h3, m0, m1, m2, m3]
  omega

/-- The registers of a function after a write of BAR0, before the messages that it lets go. -/
def State.bar0Stored (s : State) (f off len v : Nat) : State :=
  ((s.updReq f (fun r => { r with mreq := mbxReqBytes r.mreq off len v })).updReq f
    (fun r => { r with marg := regBytes r.marg 4 4 off len v, mwdata := regBytes r.mwdata 8 4 off len v })).updFn f
    (fun n => (List.range 256).foldl (fun n k => n.writeTable off len v k) { n with vector := regBytes n.vector 0x2080 32 off len v })

theorem bar0Write_exec {s : State} {f : FnIx} (hf : s.fnExists f = true) (off : Nat) (v : DWord) :
    exec (.bar0UnmappedAccess f true off 4 v) s = .next ((s.bar0Stored f off 4 v.toNat).flushPba f) := by
  change Host.Outcome.next _ = _
  rw [if_neg (by simp [hf])]
  rfl

theorem Fn.writeTable_apart {off k : Nat} (h : off ≠ 0x3000 + 4 * k) (halign : off % 4 = 0) (n : Fn) (v : Nat) : n.writeTable off 4 v k = n :=
  if_neg (by simp only [Bool.and_eq_true, decide_eq_true_eq]; omega)

theorem Fn.writeTable_fields (n : Fn) (off len v k : Nat) : n.writeTable off len v k = { n with msixTable := (n.writeTable off len v k).msixTable } := by
  unfold Fn.writeTable
  dsimp only
  split
  · rfl
  · rfl

theorem Fn.tableWord_writeTable_self (n : Fn) (v k : Nat) :
    bits ((n.writeTable (0x3000 + 4 * k) 4 v k).tableWord k) 31 0 = if k % 4 = 3 then v % 2 else v % 2 ^ 32 := by
  have hword : regBytes (n.tableWord k) (0x3000 + 4 * k) 4 (0x3000 + 4 * k) 4 v % 2 ^ 32 = v % 2 ^ 32 := by
    refine Nat.eq_of_testBit_eq fun i => ?_
    rw [← bit_eq_testBit, ← bit_eq_testBit, bit_mod_two_pow, bit_mod_two_pow]
    by_cases hi : i < 32
    · rw [bit_regBytes, if_pos (by omega)]
      congr 2
      omega
    · rw [decide_eq_false hi, Bool.false_and, Bool.false_and]
  unfold Fn.writeTable
  dsimp only
  rw [if_pos (by simp)]
  generalize regBytes (n.tableWord k) (0x3000 + 4 * k) 4 (0x3000 + 4 * k) 4 v = w at hword
  rw [Fn.tableWord, Sparse.getD_put_self, bits_zero_low]
  split
  · omega
  · exact hword

theorem Fn.tableWord_writeTable_ne {j k : Nat} (h : j ≠ k) (n : Fn) (off len v : Nat) : (n.writeTable off len v k).tableWord j = n.tableWord j := by
  unfold Fn.writeTable
  dsimp only
  split
  · exact Sparse.getD_put_ne _ _ _ _ h
  · rfl

theorem State.req_bar0Stored (s : State) (f off len v : Nat) : (s.bar0Stored f off len v).req f =
    { s.req f with mreq := mbxReqBytes (s.req f).mreq off len v, marg := regBytes (s.req f).marg 4 4 off len v
                   mwdata := regBytes (s.req f).mwdata 8 4 off len v } := by
  refine (State.req_setReq_self ..).trans ?_
  rw [State.updReq, State.req_setReq_self]

theorem State.fn_bar0Stored (s : State) (f off len v : Nat) : (s.bar0Stored f off len v).fn f = (List.range 256).foldl
    (fun n k => n.writeTable off len v k) { s.fn f with vector := regBytes (s.fn f).vector 0x2080 32 off len v } :=
  (State.fn_setFn_self ..).trans rfl

/-- A write of BAR0 stores, and lets the messages go that can leave: of its function the vectors and the table take it. -/
theorem State.bar0Stored_flushed (s : State) (f off len v : Nat) : Only [.fns, .reqs, .out] s ((s.bar0Stored f off len v).flushPba f) ∧
    ((s.bar0Stored f off len v).flushPba f).req f = (s.bar0Stored f off len v).req f ∧
    (((s.bar0Stored f off len v).flushPba f).fn f).pending = (s.fn f).pending ∧ (((s.bar0Stored f off len v).flushPba f).fn f).mask = (s.fn f).mask ∧
    (((s.bar0Stored f off len v).flushPba f).fn f).vector = regBytes (s.fn f).vector 0x2080 32 off len v ∧
    ∀ k, (((s.bar0Stored f off len v).flushPba f).fn f).tableWord k = ((s.bar0Stored f off len v).fn f).tableWord k := by
  have hstored : Only [.fns, .reqs, .out] s (s.bar0Stored f off len v) := only_iff_mask.2 rfl
  have hflush := (s.bar0Stored f off len v).flushPba_pbaOnly f
  have hfields : (s.bar0Stored f off len v).fn f = { s.fn f with
      vector := regBytes (s.fn f).vector 0x2080 32 off len v, msixTable := ((s.bar0Stored f off len v).fn f).msixTable } := by
    rw [s.fn_bar0Stored f off len v]
    exact List.foldlRecOn (motive := fun n : Fn => n = { s.fn f with
      vector := regBytes (s.fn f).vector 0x2080 32 off len v, msixTable := n.msixTable }) _ _ rfl fun n hn k _ => by
        rw [n.writeTable_fields]
        exact congrArg (fun m : Fn => { m with msixTable := (n.writeTable off len v k).msixTable }) hn
  have hself := hflush.self
  rw [hfields] at hself
  refine ⟨hstored.trans (hflush.tells.only.mono (by decide)), State.req_congr (hflush.tells.only.reqs.resolve_left (by decide)) f, ?_, ?_, ?_,
    hflush.tableWord⟩
  · rw [hself]
  · rw [hself]
  · rw [hself]

theorem bar0Read_emits {s : State} {f : FnIx} (hf : s.fnExists f = true) {off : Nat} (v : DWord) (h : off % 4 = 0) :
    ∃ s', exec (.bar0UnmappedAccess f false off 4 v) s = .next s' ∧ Only [.out] s s' ∧ s'.out = s.out ++ [.bar0 f (s.bar0 f off % 2 ^ 32)] := by
  refine ⟨s.emit (.bar0 f (s.bar0 f off % 2 ^ 32)), ?_, (State.emit_tells ..).only, rfl⟩
  change Host.Outcome.next _ = _
  rw [if_neg (by simp [hf]), ← State.bar0Bytes_aligned h]
  rfl

theorem bit_setBit (v i : Nat) (b : Bool) (j : Nat) : bit (setBit v i b) j = if j = i then b else bit v j := by
  cases b
  · rw [bit_setBit_false]
    split <;> simp [*]
  · rw [bit_setBit_true]
    split <;> simp [*]

theorem bit_mbxReqBytes (old : Nat) {v i : Nat} (h : bit v 31 = false) (hi : i < 32) :
    bit (mbxReqBytes old 0 4 v) i = if i = 31 then bit old 31 else if 28 ≤ i ∧ i ≤ 29 then false else bit v i := by
  have hword : ∀ i, i < 32 → bit (regBytes (setBit old 31 false) 0 4 0 4 v) i = bit v i := fun i hi => by
    rw [bit_regBytes, if_pos (by omega)]
    congr 1
    omega
  unfold mbxReqBytes
  dsimp only
  rw [if_neg (by simp [hword 31 (by decide), h]), bit_setBit, bit_setBits (by decide), hword i hi]
  simp [bit]

theorem bar0Write_mbxReq {s : State} {f : FnIx} (hf : s.fnExists f = true) {v : DWord} (h : bit v.toNat 31 = false) :
    ∃ s', exec (.bar0UnmappedAccess f true 0 4 v) s = .next s' ∧ Only [.fns, .reqs, .out] s s' ∧
      bits (s'.req f).mreq 27 0 = bits v.toNat 27 0 ∧ bit (s'.req f).mreq 30 = bit v.toNat 30 ∧ bits (s'.req f).mreq 29 28 = 0 ∧
      bit (s'.req f).mreq 31 = bit (s.req f).mreq 31 := by
  obtain ⟨honly, hreq, -⟩ := s.bar0Stored_flushed f 0 4 v.toNat
  rw [State.req_bar0Stored] at hreq
  have hmreq : ∀ i, i < 32 → bit (((s.bar0Stored f 0 4 v.toNat).flushPba f).req f).mreq i =
      if i = 31 then bit (s.req f).mreq 31 else if 28 ≤ i ∧ i ≤ 29 then false else bit v.toNat i := fun i hi => by
    rw [hreq]
    exact bit_mbxReqBytes _ h hi
  refine ⟨_, bar0Write_exec hf 0 v, honly, bits_congr fun i _ hi => ?_, (hmreq 30 (by decide)).trans rfl, ?_, (hmreq 31 (by decide)).trans rfl⟩
  · rw [hmreq i (by omega), if_neg (by omega), if_neg (by omega)]
  · refine (bits_congr (b := 0) fun i hlo hi => ?_).trans rfl
    rw [hmreq i (by omega), if_neg (by omega), if_pos ⟨hlo, hi⟩, bit_eq_testBit, Nat.zero_testBit]

theorem bar0Write_vector {s : State} {f : FnIx} (hf : s.fnExists f = true) {k : Nat} (v : DWord) (hk : k < 8) :
    ∃ s', exec (.bar0UnmappedAccess f true (0x2080 + 4 * k) 4 v) s = .next s' ∧ Only [.fns, .reqs, .out] s s' ∧
      bits (s'.fn f).vector (32 * k + 31) (32 * k) = v.toNat % 2 ^ 32 ∧ (s'.fn f).pending = (s.fn f).pending ∧ (s'.fn f).mask = (s.fn f).mask ∧
      ∀ j, j < 8 → j ≠ k → bits (s'.fn f).vector (32 * j + 31) (32 * j) = bits (s.fn f).vector (32 * j + 31) (32 * j) := by
  obtain ⟨honly, -, hpend, hmask, hvec, -⟩ := s.bar0Stored_flushed f (0x2080 + 4 * k) 4 v.toNat
  refine ⟨_, bar0Write_exec hf _ v, honly, ?_, hpend, hmask, fun j hj hjk => ?_⟩
  · rw [hvec]
    refine bits_of_aligned (by omega) _ fun i hi => ?_
    rw [bit_regBytes, if_pos (by omega)]
    congr 1
    omega
  · rw [hvec]
    refine bits_congr fun i hlo hi => ?_
    rw [bit_regBytes, if_neg (by omega)]

theorem bar0Write_table {s : State} {f : FnIx} (hf : s.fnExists f = true) {k : Nat} (v : DWord) (hk : k < 256) :
    ∃ s', exec (.bar0UnmappedAccess f true (0x3000 + 4 * k) 4 v) s = .next s' ∧ Only [.fns, .reqs, .out] s s' ∧
      bits ((s'.fn f).tableWord k) 31 0 = (if k % 4 = 3 then v.toNat % 2 else v.toNat % 2 ^ 32) ∧ (s'.fn f).vector = (s.fn f).vector ∧
      ∀ j, j ≠ k → (s'.fn f).tableWord j = (s.fn f).tableWord j := by
  obtain ⟨honly, -, -, -, hvec, htable⟩ := s.bar0Stored_flushed f (0x3000 + 4 * k) 4 v.toNat
  refine ⟨_, bar0Write_exec hf _ v, honly, ?_, hvec.trans (regBytes_of_apart (fun a _ _ _ _ => by omega) _ _), fun j hj => ?_⟩
  · rw [htable, State.fn_bar0Stored]
    refine foldl_sets (P := fun n : Fn => bits (n.tableWord k) 31 0 = if k % 4 = 3 then v.toNat % 2 else v.toNat % 2 ^ 32)
      (List.mem_range.2 hk) (fun n => n.tableWord_writeTable_self _ k) (fun n j hn => ?_) _
    by_cases hj : j = k
    · rw [hj]
      exact n.tableWord_writeTable_self _ k
    · rwa [Fn.writeTable_apart (by omega) (by omega)]
  · rw [htable, State.fn_bar0Stored]
    refine List.foldlRecOn (motive := fun n : Fn => n.tableWord j = (s.fn f).tableWord j) _ _ rfl fun n hn i _ => ?_
    by_cases hi : i = k
    · rw [Fn.tableWord_writeTable_ne (hi ▸ hj), hn]
    · rwa [Fn.writeTable_apart (by omega) (by omega)]

/-- Settles O39: causes, masks, MSI-X and the PBA, the doorbell, and the registers of BAR0. -/
theorem pcieRegisters : Obligations.PcieRegisters := by
  unfold Obligations.PcieRegisters
  refine ⟨State.raise_spec, fun s f v hf => ⟨intPendingClear_clears v hf, intMaskWrite_sends v hf, listDoneMapClear_clears v hf, msixEnable_off hf,
    msixEnable_on hf⟩, fun s t p v n width hf ht => ⟨?_, doorbell_width v hf ht⟩, fun s p => dbRefusalRead_clears, fun s f off k v hf => ⟨bar0Read_emits hf v, ?_, ?_, ?_⟩⟩
  · rintro rfl
    exact doorbell_starts hf ht
  · rintro rfl
    exact bar0Write_mbxReq hf
  · rintro rfl
    exact bar0Write_vector hf v
  · rintro rfl
    exact bar0Write_table hf v

end Sys2Proof.Machine
end

section
/-! PROOF. Requests of a Pavilion: PAV_CREATE, PAV_DESTROY, PAV_RESET and PAV_CORE_RESET (15 R409, R413, R422, R424, R429). -/

namespace Sys2Proof.Machine
open Sys2Proof.Safety

/-! ### The state of a Pavilion under messages -/

/-- What a Pavilion is doing: its state, the step of its reset, the last cause and the operand of its destroy. -/
def Pav.duty (v : Pav) : PState × Nat × Nat × Nat := (v.st, v.resetAt, v.lastReset, v.destroyV)

/-- What the stop of a Pavilion may change beside its cores. -/
def stopFlds : List Fld := [.pavs, .ports, .link, .tally, .log, .fns, .out, .fw, .reqs, .boot]

/-- From `s` to `t` messages and records have gone out: every Pavilion does what it did, no core is touched. -/
structure DutyKept (s t : State) : Prop where
  tells : Tells stopFlds s t
  duty : ∀ q, (t.pav q).duty = (s.pav q).duty

theorem DutyKept.refl (s : State) : DutyKept s s := ⟨.refl _ s, fun _ => rfl⟩

theorem DutyKept.trans {s t u : State} (h : DutyKept s t) (g : DutyKept t u) : DutyKept s u :=
  ⟨h.tells.trans g.tells, fun q => (g.duty q).trans (h.duty q)⟩

theorem DutyKept.ite {s t u : State} {c : Prop} [Decidable c] (h : DutyKept s t) (g : DutyKept s u) : DutyKept s (if c then t else u) := by
  split
  · exact h
  · exact g

theorem DutyKept.foldl {α : Type} (f : State → α → State) (h : ∀ s a, DutyKept s (f s a)) (xs : List α) (s : State) :
    DutyKept s (xs.foldl f s) :=
  List.foldlRecOn (motive := fun t : State => DutyKept s t) _ _ (.refl s) fun t ht a _ => ht.trans (h t a)

theorem DutyKept.of_tells {l : List Fld} {s t : State} (h : Tells l s t) (hl : ∀ f ∈ l, f ∈ stopFlds) (hpavs : Fld.pavs ∉ l) : DutyKept s t :=
  ⟨h.mono hl, fun q => congrArg Pav.duty (State.pav_congr (h.only.pavs.resolve_left hpavs) q)⟩

theorem DutyKept.setPav (s : State) (p : Nat) {v : Pav} (h : v.duty = (s.pav p).duty) : DutyKept s (s.setPav p v) where
  tells := .silent (only_iff_mask.2 (mask_pavs s (by decide) _)) rfl
  duty q := by
    rw [State.pav_setPav]
    split
    · next hq => rw [h, hq]
    · rfl

theorem DutyKept.updPav (s : State) (p : Nat) {f : Pav → Pav} (h : ∀ v, (f v).duty = v.duty) : DutyKept s (s.updPav p f) := .setPav s p (h _)

theorem DutyKept.of_moves {s t : State} (h : Moves s t) : DutyKept s t := .of_tells h.tells (by decide) (by decide)

theorem Pav.duty_mark (v : Pav) (k cls c : Nat) : (v.mark k cls c).2.duty = v.duty := by
  unfold Pav.mark
  dsimp only
  split
  · rfl
  · split <;> rfl

section
variable (s : State) (p : Nat)

theorem DutyKept.charged (m : Msg) (cls : Option Nat) : DutyKept s (s.charged m cls).2 := by
  unfold State.charged
  split
  · exact .setPav s _ (Pav.duty_mark ..)
  · exact .refl s
  · exact .refl s

theorem DutyKept.sendMsg (m : Msg) (cls : Option Nat) (core cmd : Nat) : DutyKept s (s.sendMsg m cls core cmd) := by
  rw [State.sendMsg_eq]
  have hcharged := DutyKept.charged s m cls
  split
  · next h => exact hcharged.trans (.of_moves (State.place_moved h trivial trivial))
  · exact hcharged.trans (.of_moves (State.dropMsg_moves ..))

theorem DutyKept.rotAbort (k num code origin : Nat) : DutyKept s (s.rotAbort p k num code origin) :=
  .foldl _ (fun t _ => .ite (.refl t) (.foldl _ (fun u _ => (DutyKept.sendMsg u ..).trans (.of_moves (State.tallyAdd_moved ..))) _ t)) _ s

theorem DutyKept.planCommit : DutyKept s (s.planCommit p) := by
  refine .foldl _ (fun t r => ?_) _ s
  unfold State.planTake
  split
  · exact .refl t
  · exact .ite (.refl t) (.updPav t p fun _ => rfl)

theorem DutyKept.rotReset : DutyKept s (s.rotReset p) := by
  unfold State.rotReset
  extract_lets joined ks s1
  have h1 : DutyKept s s1 := .foldl _ (fun t _ => .rotAbort t ..) _ s
  have h2 : DutyKept s1 (s1.updRot p (fun r => { r with insts := [], counts := [] })) := .updPav s1 p fun _ => rfl
  exact (h1.trans h2).trans (.planCommit ..)

theorem DutyKept.diceReturnAll (x n flags : Nat) (tags : List (Nat × Bool)) : DutyKept s (s.diceReturnAll p x n flags tags) :=
  .foldl _ (fun t _ => .sendMsg t ..) _ s

theorem DutyKept.diceReset : DutyKept s (s.diceReset p) := by
  unfold State.diceReset
  extract_lets d s1 s2 s3
  have h1 : DutyKept s s1 := .foldl _ (fun t _ => .diceReturnAll t ..) _ s
  have h2 : DutyKept s1 s2 := .foldl _ (fun t _ => .diceReturnAll t ..) _ s1
  have h3 : DutyKept s2 s3 := .foldl _ (fun t _ => .ite (.refl t) (.foldl _ (fun u _ => .diceReturnAll u ..) _ t)) _ s2
  exact ((h1.trans h2).trans h3).trans (.updPav s3 p fun _ => rfl)

theorem DutyKept.dropDelivered : DutyKept s (s.dropDelivered p) := by
  unfold State.dropDelivered
  extract_lets mine gone left src s1
  have h1 : DutyKept s s1 := .of_tells (l := [.link]) (.silent (only_iff_mask.2 (mask_link s (by decide) _)) rfl) (by decide) (by decide)
  exact h1.trans (.foldl _ (fun t _ => .ite ((DutyKept.of_moves (State.tallyAdd_moved ..)).trans (.of_moves (State.tallyAdd_moved ..)))
    (.of_moves (State.dropMsg_moves ..))) _ s1)

theorem DutyKept.endRequester (k : Nat) : DutyKept s (s.endRequester k) := by
  refine .of_tells (l := [.fw, .reqs]) (.silent (s.endRequester_ended k).only ?_) (by decide) (by decide)
  unfold State.endRequester
  dsimp only
  split <;> rfl

theorem DutyKept.syncChip : DutyKept s s.syncChip := .of_tells s.syncChip_spec.1 (by decide) (by decide)

/-- A cause of PF0 leaves the causes of every VF. -/
theorem State.pending_raise_vf (i : Nat) {f : Nat} (hf : f ≠ 0) : ((s.raise 0 i).fn f).pending = (s.fn f).pending := by
  unfold State.raise
  extract_lets fn u
  have hset : (u.fn f).pending = (s.fn f).pending := by
    rw [State.fn_setFn, if_neg hf]
  split
  · rfl
  · split
    · exact hset
    · exact (congrArg Fn.pending ((u.sendIrq_spec 0 i).1.others f hf)).trans hset

/-- A change of the chip's state interrupts PF0 alone. -/
theorem State.pending_syncChip {f : Nat} (hf : f ≠ 0) : (s.syncChip.fn f).pending = (s.fn f).pending := by
  unfold State.syncChip
  extract_lets st b t
  split
  · rfl
  · split
    · exact t.pending_raise_vf 7 hf
    · rfl

/-! ### The stop of a Pavilion (15 R422, step 1) -/

/-- The cores of a Pavilion stop issue. -/
def State.stopCores (s : State) (p : Nat) (l : List Nat) : State := l.foldl (fun s n => (s.leaseDrop p n).updCore n (·.stopReset)) s

theorem State.leaseDrop_spec (n : Nat) : Only [.pavs] s (s.leaseDrop p n) ∧ ∀ q, ((s.leaseDrop p n).pav q).duty = (s.pav q).duty := by
  have h : DutyKept s (s.leaseDrop p n) := .ite (.updPav s p fun _ => rfl) (.refl s)
  refine ⟨?_, h.duty⟩
  unfold State.leaseDrop
  split
  · exact only_iff_mask.2 (mask_pavs s (by decide) _)
  · exact .refl _ s

theorem State.stopCores_spec (l : List Nat) : Only [.cores, .pavs] s (s.stopCores p l) ∧ (∀ q, ((s.stopCores p l).pav q).duty = (s.pav q).duty) ∧
    ∀ n ∈ l, ((s.stopCores p l).core n).ctl.drain = .reset := by
  have hpass : ∀ (t : State) (n : Nat), Only [.cores, .pavs] t ((t.leaseDrop p n).updCore n (·.stopReset)) := fun t n =>
    ((t.leaseDrop_spec p n).1.mono (by decide)).trans (only_iff_mask.2 rfl)
  refine ⟨.foldl _ hpass l s, ?_, fun n hn => ?_⟩
  · exact List.foldlRecOn (motive := fun t : State => ∀ q, (t.pav q).duty = (s.pav q).duty) l _ (fun _ => rfl) fun t ht n _ q =>
      ((t.leaseDrop_spec p n).2 q).trans (ht q)
  · refine foldl_sets (P := fun t : State => (t.core n).ctl.drain = .reset) hn (fun t => ?_) (fun t m ht => ?_) s
    · rw [State.updCore_eq, State.core_setCore_self]
      rfl
    · have hcore : (t.leaseDrop p m).core n = t.core n := State.core_congr ((t.leaseDrop_spec p m).1.cores.resolve_left (by decide)) n
      rw [State.updCore_eq, State.core_setCore]
      split
      · rfl
      · rwa [hcore]

theorem State.pavStop_spec (st : PState) (code : Nat) : Tells (.cores :: stopFlds) s (s.pavStop p st code) ∧
    ((s.pavStop p st code).pav p).duty = (st, 2, code, (s.pav p).destroyV) ∧
    ∀ n ∈ s.coresOf p, ((s.pavStop p st code).core n).ctl.drain = .reset := by
  obtain ⟨t, ht⟩ : ∃ t : State, t = s.updPav p (fun v => { v with st := st, resetAt := 2, lastReset := code }) := ⟨_, rfl⟩
  have hset : Tells (.cores :: stopFlds) s t := ht ▸ .silent (only_iff_mask.2 (mask_pavs s (by decide) _)) rfl
  have hpav : t.pav p = { s.pav p with st := st, resetAt := 2, lastReset := code } := ht ▸ State.pav_setPav_self ..
  have hcores : t.coresOf p = s.coresOf p := by
    rw [ht]
    rfl
  obtain ⟨hstop, hduty, hdrain⟩ := t.stopCores_spec p (t.coresOf p)
  have hends : DutyKept (t.stopCores p (t.coresOf p)) (s.pavStop p st code) := by
    unfold State.pavStop
    rw [← ht]
    exact ((((DutyKept.rotReset ..).trans (.diceReset ..)).trans (.dropDelivered ..)).trans (.endRequester ..)).trans (.syncChip ..)
  have hstop' : Tells (.cores :: stopFlds) t (t.stopCores p (t.coresOf p)) := .silent (hstop.mono (by decide)) (hstop.out.resolve_left (by decide))
  refine ⟨(hset.trans hstop').trans (hends.tells.mono (by decide)), ?_, fun n hn => ?_⟩
  · rw [hends.duty, hduty, hpav]
    rfl
  · rw [State.core_congr (hends.tells.only.cores.resolve_left (by decide))]
    exact hdrain n (hcores ▸ hn)

end

/-! ### The writes -/

section
variable {s : State} {who : Requester} {p : PavIx}

theorem State.applyWrite_pavCreate (s : State) (who : Requester) (p : PavIx) (v : Nat) : s.applyWrite who (0x3000 + 16 * p) 3 v = s.pavCreate p v := by
  fin_cases p <;> rfl

theorem State.applyWrite_pavDestroy (s : State) (who : Requester) (p : PavIx) (v : Nat) : s.applyWrite who (0x3000 + 16 * p) 4 v = s.pavDestroy p v := by
  fin_cases p <;> rfl

theorem State.applyWrite_pavReset (s : State) (who : Requester) (p : PavIx) (v : Nat) : s.applyWrite who (0x3000 + 16 * p) 5 v = s.pavReset p v := by
  fin_cases p <;> rfl

theorem State.applyWrite_pavCoreReset (s : State) (who : Requester) (p : PavIx) (v : Nat) :
    s.applyWrite who (0x3000 + 16 * p) 6 v = s.pavCoreReset p v := by
  fin_cases p <;> rfl

theorem objKeep_pav (p : PavIx) (sub v : Nat) : objKeep (0x3000 + 16 * p) sub v = v := by
  unfold objKeep
  rw [if_neg (by simp; omega), if_neg (by simp; omega), if_neg (by simp; omega)]

/-- What the parts of a Pavilion request read stands as it stood when its record has arrived. -/
theorem State.pav_touch (s : State) (who : Requester) (q : Nat) : (s.touch who).pav q = s.pav q :=
  State.pav_congr ((s.touch_only who).pavs.resolve_left (by decide)) q

theorem State.core_touch (s : State) (who : Requester) (n : Nat) : (s.touch who).core n = s.core n :=
  State.core_congr ((s.touch_only who).cores.resolve_left (by decide)) n

theorem State.coresOf_touch (s : State) (who : Requester) (q : Nat) : (s.touch who).coresOf q = s.coresOf q := by
  unfold State.coresOf State.pavCores
  rw [State.obj_congr ((s.touch_only who).objs.resolve_left (by decide))]

theorem State.pavWhole_touch (s : State) (who : Requester) (q : Nat) : (s.touch who).pavWhole q = s.pavWhole q := by
  unfold State.pavWhole State.pavCores State.pavRange
  simp only [State.obj_congr ((s.touch_only who).objs.resolve_left (by decide))]

/-- A request that changes nothing is answered, and that is all. -/
theorem answered_unchanged {i : Instr} {st : Nat} (h : exec i s = .next ((s.touch who).respond who st 0)) :
    ∃ s', exec i s = .next s' ∧ Only [.dict, .out] s s' ∧ Answered s s' who st 0 :=
  ⟨_, h, State.answered_respond st (.refl [] (s.touch who)) (by decide) (by decide)⟩

theorem exec_pavReset (h : Takes s who (0x3000 + 16 * p) 5 1 1) :
    exec (.pavReset who p 1) s = .next (((s.touch who).pavReset p 1).2.respond who ((s.touch who).pavReset p 1).1 0) :=
  State.putRow_effect h (by decide) (objKeep_pav ..) (by omega) fun t => t.applyWrite_pavReset who p 1

/-- A stop of a Pavilion that a request begins, as it is answered. -/
theorem pavStop_replied {i : Instr} {t : State} {st : PState} {code d : Nat} (ht : Only [.pavs] (s.touch who) t) (hd : (t.pav p).destroyV = d)
    (h : exec i s = .next ((t.pavStop p st code).respond who 0 0)) :
    ∃ s', exec i s = .next s' ∧ Replied s s' who 0 0 ∧ (s'.pav p).st = st ∧ (s'.pav p).resetAt = 2 ∧ (s'.pav p).lastReset = code ∧
      (s'.pav p).destroyV = d ∧ s'.mem = s.mem ∧ s'.objs = s.objs ∧ ∀ n ∈ s.coresOf p, (s'.core n).ctl.drain = .reset := by
  obtain ⟨htells, hduty, hdrain⟩ := t.pavStop_spec p st code
  have hall : Tells (.cores :: stopFlds) (s.touch who) (t.pavStop p st code) :=
    (Tells.silent (ht.mono (by decide)) (ht.out.resolve_left (by decide))).trans htells
  obtain ⟨honly, hreplied⟩ := State.replied_touch (l' := .dict :: .cores :: stopFlds) 0 hall (by decide)
  have hcores : t.coresOf p = s.coresOf p := by
    unfold State.coresOf State.pavCores
    rw [State.obj_congr (ht.objs.resolve_left (by decide)), State.obj_congr ((s.touch_only who).objs.resolve_left (by decide))]
  simp only [Pav.duty, Prod.mk.injEq, hd] at hduty
  generalize t.pavStop p st code = u at h hduty hdrain honly hreplied
  obtain ⟨hst, hat, hlast, hdestroy⟩ := hduty
  exact ⟨_, h, hreplied, hst, hat, hlast, hdestroy, honly.mem.resolve_left (by decide), honly.objs.resolve_left (by decide),
    fun n hn => hdrain n (hcores ▸ hn)⟩

theorem pavReset_answers (h : Takes s who (0x3000 + 16 * p) 5 1 1) :
    ((s.pav p).st = .active → ∃ s', exec (.pavReset who p 1) s = .next s' ∧ Replied s s' who 0 0 ∧ (s'.pav p).st = .resetting ∧
      (s'.pav p).resetAt = 2 ∧ (s'.pav p).lastReset = 1 ∧ s'.mem = s.mem ∧ s'.objs = s.objs ∧
      ∀ n ∈ s.coresOf p, (s'.core n).ctl.drain = .reset) ∧
    ((s.pav p).st = .resetting ∨ (s.pav p).st = .destroying → ∃ s', exec (.pavReset who p 1) s = .next s' ∧ Only [.dict, .out] s s' ∧
      Answered s s' who 0 0) ∧
    ((s.pav p).st = .free → ∃ s', exec (.pavReset who p 1) s = .next s' ∧ Only [.dict, .out] s s' ∧ Answered s s' who stState 0) := by
  have hexec := exec_pavReset h
  have hpav : (s.touch who).pav p = s.pav p := s.pav_touch who p
  refine ⟨fun hst => ?_, fun hst => ?_, fun hst => ?_⟩
  · have heffect : (s.touch who).pavReset p 1 = (0, (s.touch who).pavStop p .resetting 1) := by
      unfold State.pavReset State.pavResetBy
      rw [hpav, hst]
      rfl
    rw [heffect] at hexec
    dsimp only at hexec
    obtain ⟨s', hnext, hreplied, hst', hat, hlast, -, hrest⟩ := pavStop_replied (.refl _ _) rfl hexec
    exact ⟨s', hnext, hreplied, hst', hat, hlast, hrest⟩
  · have heffect : (s.touch who).pavReset p 1 = (0, s.touch who) := by
      unfold State.pavReset State.pavResetBy
      rw [hpav]
      rcases hst with hst | hst <;> rw [hst] <;> rfl
    rw [heffect] at hexec
    dsimp only at hexec
    exact answered_unchanged hexec
  · have heffect : (s.touch who).pavReset p 1 = (stState, s.touch who) := by
      unfold State.pavReset
      rw [hpav, hst]
      rfl
    rw [heffect] at hexec
    dsimp only at hexec
    exact answered_unchanged hexec

theorem pavDestroy_answers {v : Nat} (hv : v ≤ 1) (h : Takes s who (0x3000 + 16 * p) 4 1 v) :
    ((s.pav p).st = .active ∨ (s.pav p).st = .free → ∃ s', exec (.pavDestroy who p v) s = .next s' ∧ Replied s s' who 0 0 ∧
      (s'.pav p).st = .destroying ∧ (s'.pav p).resetAt = 2 ∧ (s'.pav p).lastReset = 5 ∧ (s'.pav p).destroyV = v ∧ s'.mem = s.mem ∧
      s'.objs = s.objs ∧ ∀ n ∈ s.coresOf p, (s'.core n).ctl.drain = .reset) ∧
    ((s.pav p).st = .resetting → ∃ s', exec (.pavDestroy who p v) s = .next s' ∧ Only [.pavs, .dict, .out] s s' ∧ OtherPavs p s s' ∧
      Answered s s' who 0 0 ∧ s'.pav p = { s.pav p with st := .destroying, lastReset := 5, destroyV := v }) := by
  have hexec : exec (.pavDestroy who p v) s = _ :=
    State.putRow_effect h (by omega) (objKeep_pav ..) (by omega) fun t => t.applyWrite_pavDestroy who p v
  obtain ⟨t, ht⟩ : ∃ t : State, t = (s.touch who).updPav p (fun w => { w with destroyV := v }) := ⟨_, rfl⟩
  have hpav : t.pav p = { s.pav p with destroyV := v } := by
    rw [ht, State.updPav_eq, State.pav_setPav_self, s.pav_touch]
  have hset : Only [.pavs] (s.touch who) t := ht ▸ only_iff_mask.2 rfl
  have heffect : (s.touch who).pavDestroy p v = (match (t.pav p).st with
      | .resetting => (stOk, t.updPav p (fun w => { w with st := .destroying, lastReset := 5 }))
      | .destroying => (stOk, t)
      | _ => (stOk, t.pavStop p .destroying 5)) := by
    unfold State.pavDestroy
    rw [if_neg (by omega), ht] <;> rfl
  refine ⟨fun hst => ?_, fun hst => ?_⟩
  · have hstop : (s.touch who).pavDestroy p v = (0, t.pavStop p .destroying 5) := by
      rw [heffect, hpav]
      rcases hst with hst | hst <;> rw [hst] <;> rfl
    rw [hstop] at hexec
    dsimp only at hexec
    exact pavStop_replied hset (congrArg Pav.destroyV hpav) hexec
  · have hturn : (s.touch who).pavDestroy p v = (0, t.updPav p (fun w => { w with st := .destroying, lastReset := 5 })) := by
      rw [heffect, hpav]
      dsimp only
      rw [hst]
      rfl
    rw [hturn] at hexec
    dsimp only at hexec
    have honly : Only [.pavs] (s.touch who) (t.updPav p (fun w => { w with st := .destroying, lastReset := 5 })) := hset.trans (only_iff_mask.2 rfl)
    obtain ⟨hall, hanswer⟩ := State.answered_respond (l' := [.pavs, .dict, .out]) 0 honly (by decide) (by decide)
    refine ⟨_, hexec, hall, fun q hq => ?_, hanswer, ?_⟩
    · refine (State.pav_setPav ..).trans ((if_neg hq).trans ?_)
      rw [ht, State.updPav_eq, State.pav_setPav, if_neg hq, s.pav_touch]
    · refine (State.pav_setPav_self ..).trans ?_
      rw [hpav]

theorem pavCoreReset_answers {n : CoreIx} (h : Takes s who (0x3000 + 16 * p) 6 1 n) :
    ((s.pav p).st ≠ .free → n.val ∈ s.coresOf p → (s.pav p).resetAt = 0 → (s.core n).fence.coreReset = false → (s.core n).fence.run = .none →
      ∃ s', exec (.pavCoreReset who p n) s = .next s' ∧ Only [.cores, .dict, .out] s s' ∧ OtherCores n s s' ∧ Answered s s' who 0 0 ∧
        (s'.core n).ctl = { (s.core n).ctl with drain := .reset } ∧ (s'.core n).fence.coreReset = true ∧ (s'.core n).plot = (s.core n).plot) ∧
    ((s.pav p).st ≠ .free → n.val ∉ s.coresOf p → ∃ s', exec (.pavCoreReset who p n) s = .next s' ∧ Only [.dict, .out] s s' ∧
      Answered s s' who 0x111 0) := by
  have hexec : exec (.pavCoreReset who p n) s = _ :=
    State.putRow_effect h (by omega) (objKeep_pav ..) (by omega) fun t => t.applyWrite_pavCoreReset who p n
  have hmine : n.val ∈ s.coresOf p ↔ bit ((s.touch who).pavCores p) n = true := by
    rw [← s.coresOf_touch who, State.coresOf, mem_bitList]
    exact and_iff_right n.isLt
  have hpav := s.pav_touch who p
  have hcore := s.core_touch who
  refine ⟨fun hst hn hat hreset hrun => ?_, fun hst hn => ?_⟩
  · obtain ⟨t, ht⟩ : ∃ t : State, t = (s.touch who).updCore n (fun c => { c.stopReset with fence := { c.stopReset.fence with coreReset := true } }) := ⟨_, rfl⟩
    have heffect : (s.touch who).pavCoreReset p n = (0, t) := by
      unfold State.pavCoreReset State.leaseDrop
      rw [hpav, if_neg hst, if_neg (by simp [hmine.1 hn]; omega), if_neg (by simp [hat, hcore, hreset]),
        if_neg (by simp [hcore, hrun]), ← ht]
      rfl
    have hself := congrArg (fun u : State => u.core n) ht
    rw [State.updCore_eq, State.core_setCore_self] at hself
    rw [heffect] at hexec
    dsimp only at hexec
    obtain ⟨hall, hanswer⟩ := State.answered_respond (l' := [.cores, .dict, .out]) 0 (ht ▸ only_iff_mask.2 rfl : Only [.cores] (s.touch who) t)
      (by decide) (by decide)
    refine ⟨_, hexec, hall, fun m hm => ?_, hanswer, ?_⟩
    · change t.core m = s.core m
      rw [ht, State.updCore_eq, State.core_setCore, if_neg hm, hcore]
    · change (t.core n).ctl = _ ∧ (t.core n).fence.coreReset = true ∧ (t.core n).plot = _
      rw [hself, hcore]
      exact ⟨rfl, rfl, rfl⟩
  · have heffect : (s.touch who).pavCoreReset p n = (0x111, s.touch who) := by
      unfold State.pavCoreReset
      rw [hpav, if_neg hst, if_pos (by simp [mt hmine.2 hn])]
      rfl
    rw [heffect] at hexec
    dsimp only at hexec
    exact answered_unchanged hexec

end

/-! ### A new Pavilion (15 R409) -/

theorem State.latchContract_eq (s : State) (p : Nat) : ∃ eff, s.latchContract p =
    s.updPav p (fun v => ({ v with ct := { v.ct with eff := eff } } : Pav).refill 0) := ⟨_, rfl⟩

/-- The counters and histories of a new Pavilion start empty. -/
theorem State.pavHistory_spec (s : State) (p : Nat) : Only [.pavs, .energy, .tally] s (s.pavHistory p) ∧ OtherPavs p s (s.pavHistory p) ∧
    ((s.pavHistory p).pav p).st = (s.pav p).st ∧ ((s.pavHistory p).pav p).ct.hist = [] ∧ ((s.pavHistory p).pav p).ct.miss = [] ∧
    ((s.pavHistory p).pav p).energy = [] := by
  unfold State.pavHistory
  extract_lets v old src s1 dice ct t
  have hset : Only [.pavs, .energy, .tally] s t := only_iff_mask.2 rfl
  have hself : t.pav p = { v with energy := [], dice := { v.dice with skip := [] }, ct := { v.ct with hist := [], miss := [] } } :=
    State.pav_setPav_self ..
  have hother : ∀ q, q ≠ p → t.pav q = s.pav q := fun q hq => (State.pav_setPav ..).trans (if_neg hq)
  clear_value t
  obtain ⟨eff, heff⟩ := (t.tallyClearPav p).latchContract_eq p
  rw [heff]
  have hclear : Only [.pavs, .energy, .tally] t (t.tallyClearPav p) := only_iff_mask.2 rfl
  have hpav : ∀ q, (t.tallyClearPav p).pav q = t.pav q := State.pav_congr rfl
  have hlatch : ∀ u : State, Only [.pavs, .energy, .tally] u ((u.updPav p (fun v => ({ v with ct := { v.ct with eff := eff } } : Pav).refill 0)).updPav p
      (·.bucketsStart)) := fun u => only_iff_mask.2 rfl
  refine ⟨(hset.trans hclear).trans (hlatch _), fun q hq => ?_, ?_⟩
  · rw [State.updPav_eq, State.updPav_eq, State.pav_setPav, if_neg hq, State.pav_setPav, if_neg hq, hpav, hother q hq]
  · rw [State.updPav_eq, State.updPav_eq, State.pav_setPav_self, State.pav_setPav_self, hpav, hself]
    exact ⟨rfl, rfl, rfl, rfl⟩

theorem Core.fresh_spec (c : Core) : c.fresh.cnts = [] ∧ c.fresh.ctl.st = (if c.ctl.st = .fenced then .fenced else .idle) ∧
    (c.pint.suspects = [] → c.fresh.plot = {}) := by
  unfold Core.fresh Core.scrubOrWait
  cases hsus : c.pint.suspects with
  | nil => exact ⟨rfl, rfl, fun _ => rfl⟩
  | cons x xs => exact ⟨rfl, rfl, nofun⟩

/-- What PAV_CREATE makes of a FREE Pavilion that is whole. -/
theorem State.pavCreate_spec {s : State} {p : PavIx} (hready : s.boot.ready = true) (hfree : (s.pav p).st = .free) (hwhole : s.pavWhole p = true) :
    ∃ t, s.pavCreate p 1 = (0, t) ∧ Tells [.cores, .pavs, .fns, .energy, .tally, .boot, .out] s t ∧ OtherPavs p s t ∧ (t.pav p).st = .active ∧
      (t.pav p).ct.hist = [] ∧ (t.pav p).ct.miss = [] ∧ (t.pav p).energy = [] ∧ (t.fn (p + 1)).pending = 0 ∧
      (∀ n ∈ s.coresOf p, t.core n = (s.core n).fresh) ∧ ∀ n, n ∉ s.coresOf p → t.core n = s.core n := by
  obtain ⟨a, ha⟩ : ∃ a : State, a = (s.coresOf p).foldl (fun s n => s.updCore n (·.fresh)) s := ⟨_, rfl⟩
  obtain ⟨b, hb⟩ : ∃ b : State, b = a.updFn (p + 1) (fun f => { f with pending := 0 }) := ⟨_, rfl⟩
  obtain ⟨c, hc⟩ : ∃ c : State, c = b.updPav p (fun v => { v with st := .active, resetAt := 0 }) := ⟨_, rfl⟩
  have heffect : s.pavCreate p 1 = (0, (c.pavHistory p).syncChip) := by
    unfold State.pavCreate
    rw [if_neg (by decide), if_neg (by simp [hready, hfree]), if_neg (by simp [hwhole]), ← ha, hc, hb]
    rfl
  have hcores : Only [.cores] s a := ha ▸ Only.foldl _ (fun t n => t.updCore_only ..) _ s
  have hset : Only [.cores, .pavs, .fns] s c :=
    (hcores.mono (by decide)).trans ((hb ▸ only_iff_mask.2 rfl : Only [.cores, .pavs, .fns] a b).trans (hc ▸ only_iff_mask.2 rfl))
  obtain ⟨hhist, hothers, hst, hempty, hnone, henergy⟩ := c.pavHistory_spec p
  obtain ⟨hsync, -⟩ := (c.pavHistory p).syncChip_spec
  have hall : Only [.cores, .pavs, .fns, .energy, .tally] s (c.pavHistory p) := (hset.mono (by decide)).trans (hhist.mono (by decide))
  have htells : Tells [.cores, .pavs, .fns, .energy, .tally, .boot, .out] s (c.pavHistory p) :=
    .silent (hall.mono (by decide)) (hall.out.resolve_left (by decide))
  have hpav : ∀ q, (c.pavHistory p).syncChip.pav q = (c.pavHistory p).pav q := State.pav_congr (hsync.only.pavs.resolve_left (by decide))
  have hself : c.pav p = { s.pav p with st := .active, resetAt := 0 } := by
    rw [hc, State.updPav_eq, State.pav_setPav_self, hb]
    exact congrArg (fun v : Pav => { v with st := .active, resetAt := 0 }) (State.pav_congr (hcores.pavs.resolve_left (by decide)) p)
  have hcore : ∀ n, (c.pavHistory p).syncChip.core n = if n ∈ s.coresOf p then (s.core n).fresh else s.core n := fun n => by
    rw [State.core_congr (hsync.only.cores.resolve_left (by decide)), State.core_congr (hhist.cores.resolve_left (by decide)), hc, hb,
      ← core_foldl_updCore Core.fresh (s.coresOf_nodup p), ← ha]
    rfl
  refine ⟨_, heffect, htells.trans (hsync.mono (by decide)), fun q hq => ?_, by rw [hpav, hst, hself], by rw [hpav, hempty], by rw [hpav, hnone],
    by rw [hpav, henergy], ?_, fun n hn => ?_, fun n hn => ?_⟩
  · rw [hpav, hothers q hq, hc, State.updPav_eq, State.pav_setPav, if_neg hq, hb]
    exact State.pav_congr (hcores.pavs.resolve_left (by decide)) q
  · rw [State.pending_syncChip _ (by omega), State.fn_congr (hhist.fns.resolve_left (by decide)), hc, hb]
    exact congrArg Fn.pending (State.fn_setFn_self ..)
  · rw [hcore, if_pos hn]
  · rw [hcore, if_neg hn]

section
variable {s : State} {who : Requester} {p : PavIx}

theorem pavCreate_answers (h : Takes s who (0x3000 + 16 * p) 3 1 1) :
    (s.boot.ready = true → (s.pav p).st = .free → s.pavWhole p = true → ∃ s', exec (.pavCreate who p 1) s = .next s' ∧
      Only [.cores, .pavs, .fns, .energy, .tally, .boot, .dict, .out] s s' ∧ OtherPavs p s s' ∧ Replied s s' who 0 0 ∧
      (s'.pav p).st = .active ∧ (s'.pav p).ct.hist = [] ∧ (s'.pav p).ct.miss = [] ∧ (s'.pav p).energy = [] ∧ (s'.fn (p + 1)).pending = 0 ∧
      (∀ n ∈ s.coresOf p, (s'.core n).cnts = [] ∧ (s'.core n).ctl.st = (if (s.core n).ctl.st = .fenced then .fenced else .idle) ∧
        ((s.core n).pint.suspects = [] → (s'.core n).plot = {})) ∧
      ∀ n, n ∉ s.coresOf p → s'.core n = s.core n) ∧
    (s.boot.ready = false ∨ (s.pav p).st ≠ .free → ∃ s', exec (.pavCreate who p 1) s = .next s' ∧ Only [.dict, .out] s s' ∧
      Answered s s' who stState 0) ∧
    (s.boot.ready = true → (s.pav p).st = .free → s.pavWhole p = false → ∃ s', exec (.pavCreate who p 1) s = .next s' ∧
      Only [.dict, .out] s s' ∧ Answered s s' who 0x113 0) := by
  have hexec : exec (.pavCreate who p 1) s = _ :=
    State.putRow_effect h (by decide) (objKeep_pav ..) (by omega) fun t => t.applyWrite_pavCreate who p 1
  have hboot : (s.touch who).boot = s.boot := (s.touch_only who).boot.resolve_left (by decide)
  have hpav := s.pav_touch who
  have hcore := s.core_touch who
  refine ⟨fun hready hfree hwhole => ?_, fun hno => ?_, fun hready hfree hwhole => ?_⟩
  · obtain ⟨t, heffect, htells, hothers, hst, hhist, hmiss, henergy, hpend, hmine, hrest⟩ := State.pavCreate_spec
      (s := s.touch who) (p := p) (by rw [hboot, hready]) (by rw [hpav, hfree]) (by rw [s.pavWhole_touch, hwhole])
    rw [s.coresOf_touch] at hmine hrest
    rw [heffect] at hexec
    dsimp only at hexec
    obtain ⟨honly, hreplied⟩ := State.replied_touch (l' := [.cores, .pavs, .fns, .energy, .tally, .boot, .dict, .out]) 0 htells (by decide)
    refine ⟨_, hexec, honly, fun q hq => (hothers q hq).trans (hpav q), hreplied, hst, hhist, hmiss, henergy, hpend, fun n hn => ?_,
      fun n hn => (hrest n hn).trans (hcore n)⟩
    have hfresh := (s.core n).fresh_spec
    rwa [← hcore, ← hmine n hn, hcore] at hfresh
  · have heffect : (s.touch who).pavCreate p 1 = (stState, s.touch who) := by
      unfold State.pavCreate
      rw [if_neg (by decide), if_pos (by simpa [hboot, hpav] using hno)]
    rw [heffect] at hexec
    exact answered_unchanged hexec
  · have heffect : (s.touch who).pavCreate p 1 = (0x113, s.touch who) := by
      unfold State.pavCreate
      rw [if_neg (by decide), if_neg (by simp [hboot, hpav, hready, hfree]), if_pos (by simp [s.pavWhole_touch, hwhole])]
      rfl
    rw [heffect] at hexec
    exact answered_unchanged hexec

end

/-- Settles O45: what the four requests of a Pavilion take, begin and refuse. -/
theorem pavilionRequests : Obligations.PavilionRequests := by
  unfold Obligations.PavilionRequests
  exact ⟨fun _ _ _ => pavCreate_answers, fun _ _ _ _ => pavDestroy_answers, fun _ _ _ => pavReset_answers, fun _ _ _ _ => pavCoreReset_answers⟩

end Sys2Proof.Machine
end

section
/-! PROOF. Fences of ports and of cores, as they are set and cleared (18 R508 to R513, R519). -/

namespace Sys2Proof.Machine
open Sys2Proof.Safety

/-! ### The fence of a port -/

/-- No port is fenced or cleared as port `q` falls. -/
theorem State.fenced_portFall (s : State) (q st r : Nat) : ((s.portFall q st).port r).fenced = (s.port r).fenced := by
  have hflow : ∀ {s t : State}, Flows s t → (t.port r).fenced = (s.port r).fenced := fun h => (congrArg Port.fenced (h.ports r) :)
  unfold State.portFall State.cutTransit
  dsimp -zeta only
  extract_lets p was hit p1 gone s1 s2 s3 s4
  have h1 : (s1.port r).fenced = (s.port r).fenced := by
    refine Eq.trans ?_ (hflow (Flows.keepTx s (fun t => !hit t)))
    rw [State.port_setPort]
    split
    · next hr => rw [hr]
    · rfl
  have h2 := hflow (s1.dropTransit_spec p1.tx).1
  have h3 := hflow (Moves.foldl_dropMsg s2 gone 1).flows
  have htold : Tells [.log, .fns, .out] s3 s4 := (State.logRec_tells ..).trans ((State.raise_tells ..).mono (by decide))
  have h4 : (s4.port r).fenced = (s3.port r).fenced := congrArg Port.fenced (State.port_of_only htold.only (by decide) r)
  have h5 : ((if was = 4 then s4.reselect else s4).port r).fenced = (s4.port r).fenced := by
    rw [apply_ite (State.port · r), State.port_of_only s4.reselect_tells.only (by decide), ite_self]
  exact (hflow (State.pumpInject_moves _).flows).trans (h5.trans (h4.trans (h3.trans (h2.trans h1))))

theorem State.fenced_portEnable (s : State) (q v r : Nat) : ((s.portEnable q v).port r).fenced = (s.port r).fenced := by
  unfold State.portEnable
  extract_lets t
  have ht : t.port r = s.port r := rfl
  clear_value t
  rw [← ht]
  split
  · split
    · rfl
    · rw [State.port_groupsCheck, State.fenced_portFall]
  · split
    · rw [State.port_train]
      split
      · next hr => rw [hr]
      · rfl
    · rfl

/-- What the fence of a port, or its clear, may change. -/
def portFenceFlds : List Fld := .integ :: .boot :: .objs :: fallFlds

theorem State.fencePort_fences (s : State) (q reason : Nat) : Tells portFenceFlds s (s.fencePort q reason) ∧
    ((s.fencePort q reason).port q).st = 0 ∧ ((s.fencePort q reason).port q).fenced = true ∧
    bit (s.fencePort q reason).integ.fencePorts q = true ∧ bit ((s.fencePort q reason).fn 0).pending 1 = true := by
  unfold State.fencePort
  extract_lets s1 s2 src s3
  have h1 : Tells portFenceFlds s s1 := .ite (.refl _ s) ((s.portFall_spec q (by decide)).1.mono (by decide))
  have h2 : Tells portFenceFlds s1 s2 := .silent (only_iff_mask.2 (mask_ports s1 (by decide) _)) rfl
  have h3 : Tells portFenceFlds s2 s3 := .silent (only_iff_mask.2 (mask_integ s2 (by decide) _)) rfl
  have hself : s3.port q = { s1.port q with fenced := true, st := 0, retryAt := none } := State.port_setPort_self ..
  have hport : (s3.port q).st = 0 ∧ (s3.port q).fenced = true := by
    rw [hself]
    exact ⟨rfl, rfl⟩
  have hbit : bit s3.integ.fencePorts q = true := bit_setBit_self _ q
  clear_value s1 s2 s3
  have hlog := s3.logRec_tells 0x0052 q 3 none reason
  have hraise := (s3.logRec 0x0052 q 3 none reason).raise_tells 0 1
  have hset : bit (((s3.logRec 0x0052 q 3 none reason).raise 0 1).fn 0).pending 1 = true := (State.raise_spec ..).1
  generalize (s3.logRec 0x0052 q 3 none reason).raise 0 1 = t at hraise hset
  have htold : Tells [.log, .fns, .out] s3 t := hlog.trans (hraise.mono (by decide))
  obtain ⟨hsync, hkeep⟩ := t.syncChip_spec
  refine ⟨((h1.trans h2).trans h3).trans ((htold.mono (by decide)).trans (hsync.mono (by decide))), ?_⟩
  rw [State.port_of_only hsync.only (by decide), State.port_of_only htold.only (by decide), hsync.only.integ.resolve_left (by decide),
    htold.only.integ.resolve_left (by decide)]
  exact ⟨hport.1, hport.2, hbit, hkeep hset⟩

theorem State.clearPort_clears (s : State) (q : Nat) : Tells portFenceFlds s (s.clearPort q) ∧ bit (s.clearPort q).integ.fencePorts q = false ∧
    ∀ r, ((s.clearPort q).port r).fenced = if r = q then false else (s.port r).fenced := by
  unfold State.clearPort
  extract_lets s1 src s2 s3
  have h1 : Tells portFenceFlds s s1 := .silent (only_iff_mask.2 (mask_ports s (by decide) _)) rfl
  have h2 : Tells portFenceFlds s1 s2 := .silent (only_iff_mask.2 (mask_integ s1 (by decide) _)) rfl
  have h3 : Tells [.log, .fns, .out] s2 s3 := State.logRec_tells ..
  have h4 := (s3.portEnable_spec q (s3.obj (0x2500 + q) 1)).1
  have hsync := (s3.portEnable q (s3.obj (0x2500 + q) 1)).syncChip_spec.1
  have hbit : bit s2.integ.fencePorts q = false := by
    change bit (setBit s.integ.fencePorts q false) q = false
    rw [bit_setBit_false, decide_eq_true rfl, Bool.not_true, Bool.and_false]
  have hport : ∀ r, s2.port r = if r = q then { s.port q with fenced := false, fails := 0 } else s.port r := fun r => State.port_setPort ..
  refine ⟨(((h1.trans h2).trans (h3.mono (by decide))).trans (h4.mono (by decide))).trans (hsync.mono (by decide)), ?_, fun r => ?_⟩
  · rw [hsync.only.integ.resolve_left (by decide), h4.only.integ.resolve_left (by decide), h3.only.integ.resolve_left (by decide)]
    exact hbit
  · rw [State.port_of_only hsync.only (by decide), State.fenced_portEnable, State.port_of_only h3.only (by decide)]
    rw [hport]
    split <;> rfl

/-- The clear of every port that is fenced. -/
theorem State.clearPorts_clears (s : State) (n : Nat) :
    Tells portFenceFlds s ((List.range n).foldl (fun s q => if (s.port q).fenced then s.clearPort q else s) s) ∧
    ∀ q, q < n → (((List.range n).foldl (fun s q => if (s.port q).fenced then s.clearPort q else s) s).port q).fenced = false := by
  refine ⟨.foldl _ (fun t q => .ite (t.clearPort_clears q).1 (.refl _ t)) _ s, fun q hq => ?_⟩
  refine foldl_sets (P := fun t : State => (t.port q).fenced = false) (List.mem_range.2 hq) (fun t => ?_) (fun t r ht => ?_) s
  · split
    · rw [(t.clearPort_clears q).2.2, if_pos rfl]
    · next h => simpa using h
  · split
    · rw [(t.clearPort_clears r).2.2, ht, ite_self]
    · exact ht

/-! ### The fence of a core -/

/-- From `s` to `t` a core may have been fenced: what the fence tells has been told, and no VF has a new cause. -/
structure Fences (s t : State) : Prop where
  tells : Tells [.cores, .log, .fns, .integ, .boot, .out] s t
  integ : ∃ b, t.integ = { s.integ with storePending := b }
  vfs : ∀ f, f ≠ 0 → (t.fn f).pending = (s.fn f).pending

theorem Fences.refl (s : State) : Fences s s := ⟨.refl _ s, ⟨_, rfl⟩, fun _ _ => rfl⟩

theorem Fences.trans {s t u : State} (h : Fences s t) (g : Fences t u) : Fences s u where
  tells := h.tells.trans g.tells
  integ := by
    obtain ⟨b, hb⟩ := h.integ
    obtain ⟨c, hc⟩ := g.integ
    exact ⟨c, by rw [hc, hb]⟩
  vfs f hf := (g.vfs f hf).trans (h.vfs f hf)

theorem Fences.ite {s t u : State} {c : Prop} [Decidable c] (h : Fences s t) (g : Fences s u) : Fences s (if c then t else u) := by
  split
  · exact h
  · exact g

section
variable (s : State) (n : Nat)

theorem Fences.setCore (c : Core) : Fences s (s.setCore n c) :=
  ⟨.silent (only_iff_mask.2 (mask_cores s (by decide) _)) rfl, ⟨_, rfl⟩, fun _ _ => rfl⟩

theorem Fences.raise (i : Nat) : Fences s (s.raise 0 i) := by
  have h := s.raise_tells 0 i
  exact ⟨h.mono (by decide), ⟨_, h.only.integ.resolve_left (by decide)⟩, fun f hf => s.pending_raise_vf i hf⟩

theorem Fences.logRec (code unit sev : Nat) (pav : Option Nat) (detail : Nat) : Fences s (s.logRec code unit sev pav detail) := by
  have h := s.logRec_tells code unit sev pav detail
  refine ⟨h.mono (by decide), ⟨_, h.only.integ.resolve_left (by decide)⟩, fun f hf => ?_⟩
  unfold State.logRec State.logRecS
  dsimp only
  generalize hs1 : ({ s with log := _ } : State) = s1
  have hsame : s1.fn f = s.fn f := by
    rw [← hs1]
    rfl
  rw [← hsame]
  split
  · exact s1.pending_raise_vf 6 hf
  · rfl

theorem Fences.syncChip : Fences s s.syncChip :=
  ⟨s.syncChip_spec.1.mono (by decide), ⟨_, s.syncChip_spec.1.only.integ.resolve_left (by decide)⟩, fun _ hf => s.pending_syncChip hf⟩

theorem Fences.storePending : Fences s { s with integ := { s.integ with storePending := true } } :=
  ⟨.silent (only_iff_mask.2 rfl) rfl, ⟨_, rfl⟩, fun _ _ => rfl⟩

theorem Fences.fenceCore (reason : Nat) : Fences s (s.fenceCore n reason) :=
  .ite (.refl s) (((((Fences.setCore ..).trans (.logRec ..)).trans (.raise ..)).trans (.storePending _)).trans (.syncChip _))

theorem Fences.settle : Fences s (s.settle n) :=
  .ite (.refl s) (.ite (.fenceCore ..) (.ite (.fenceCore ..) (.refl s)))

theorem Fences.suspect (reason : Nat) : Fences s (s.suspect n reason) := (Fences.setCore ..).trans (.settle ..)

/-- A fence is raised to PF0 and is to be stored (18 R509, R513). -/
theorem State.fenceCore_noted (reason : Nat) (hst : (s.core n).fence.st ≠ 2) (hship : coreShipped n = false) :
    bit ((s.fenceCore n reason).fn 0).pending 1 = true ∧ (s.fenceCore n reason).integ.storePending = true := by
  unfold State.fenceCore
  dsimp only
  rw [if_neg (by simp [hst, hship])]
  generalize State.logRec _ _ _ _ _ _ = t
  have hraised : bit ((t.raise 0 1).fn 0).pending 1 = true := (t.raise_spec 0 1).1
  generalize t.raise 0 1 = u at hraised
  obtain ⟨hsync, hkeep⟩ := State.syncChip_spec { u with integ := { u.integ with storePending := true } }
  exact ⟨hkeep hraised, by rw [hsync.only.integ.resolve_left (by decide)]⟩

end

/-- The core as a suspicion leaves it. -/
def Core.suspected (c : Core) (reason : Nat) : Core := { c with fence := { c.fence with st := 1, reason := reason } }

/-- A suspected core that is not in use is fenced. -/
theorem State.suspect_fences {s : State} {n : Nat} (reason : Nat) (hship : coreShipped n = false) (hrun : (s.core n).ctl.st ≠ .run)
    (hhalt : (s.core n).ctl.st ≠ .halted) : (s.suspect n reason).core n = ((s.core n).suspected reason).fenced ∧ OtherCores n s (s.suspect n reason) ∧
      bit ((s.suspect n reason).fn 0).pending 1 = true ∧ (s.suspect n reason).integ.storePending = true := by
  obtain ⟨t, ht⟩ : ∃ t : State, t = s.updCore n (fun c => c.suspected reason) := ⟨_, rfl⟩
  have hcore : t.core n = (s.core n).suspected reason := ht ▸ State.core_setCore_self ..
  have hst : (t.core n).fence.st = 1 := by
    rw [hcore]
    rfl
  have hothers : OtherCores n s t := fun m hm => by rw [ht, State.updCore_eq, State.core_setCore, if_neg hm]
  have hfenced : ∃ r, s.suspect n reason = t.fenceCore n r := by
    have hsuspect : s.suspect n reason = t.settle n := by
      rw [ht]
      rfl
    rw [hsuspect]
    unfold State.settle
    dsimp only
    rw [if_neg (by rw [hcore]; simp [Core.suspected, hrun, hhalt])]
    split
    · exact ⟨_, rfl⟩
    · exact ⟨_, rfl⟩
  obtain ⟨r, hr⟩ := hfenced
  have hturns := State.fenceCore_turns (s := t) r (by rw [hst]; decide) hship
  obtain ⟨hpend, hstore⟩ := t.fenceCore_noted n r (by rw [hst]; decide) hship
  rw [hr]
  exact ⟨hturns.core.trans (by rw [hcore]), fun m hm => (hturns.others m hm).trans (hothers m hm), hpend, hstore⟩

/-- A suspected core in use goes on until it stops. -/
theorem State.suspect_running {s : State} {n : Nat} (reason : Nat) (h : (s.core n).ctl.st = .run ∨ (s.core n).ctl.st = .halted) :
    s.suspect n reason = s.updCore n (fun c => c.suspected reason) := by
  have hcore : (s.updCore n (fun c => c.suspected reason)).core n = (s.core n).suspected reason := State.core_setCore_self ..
  change (s.updCore n (fun c => c.suspected reason)).settle n = _
  unfold State.settle
  dsimp only
  rw [hcore, if_pos (by rcases h with h | h <;> simp [Core.suspected, h])]

end Sys2Proof.Machine
end

section
/-! PROOF. FENCE_REQUEST, FENCE_CLEAR and the stored fence table (18 R508 to R513, R519). -/

namespace Sys2Proof.Machine
open Sys2Proof.Safety

section
variable {s : State} {who : Requester} {v : Nat}

theorem exec_fenceRequest (hv : v < 65536) (h : Takes s who 0x5000 4 2 v) :
    exec (.fenceRequest who v) s = .next (((s.touch who).fenceRequest v).2.respond who ((s.touch who).fenceRequest v).1 0) :=
  State.putRow_effect h (by omega) rfl (by decide) fun _ => rfl

theorem exec_fenceClear (hv : v < 65536) (h : Takes s who 0x5000 5 2 v) :
    exec (.fenceClear who v) s = .next (((s.touch who).fenceClear v).2.respond who ((s.touch who).fenceClear v).1 0) :=
  State.putRow_effect h (by omega) rfl (by decide) fun _ => rfl

theorem State.port_touch (s : State) (who : Requester) (q : Nat) : (s.touch who).port q = s.port q :=
  State.port_of_only (s.touch_only who) (by decide) q

theorem State.owner_touch (s : State) (who : Requester) (n : Nat) : (s.touch who).owner n = s.owner n :=
  State.owner_congr ((s.touch_only who).objs.resolve_left (by decide)) n

/-! ### Requests -/

theorem State.fenceRequest_core (hv : v < 144) (hship : coreShipped v = false) :
    s.fenceRequest v = (0, if (s.core v).fence.st ≠ 0 then s else s.suspect v 2) := by
  unfold State.fenceRequest
  rw [if_pos hv, if_neg (by simp [hship]), apply_ite (Prod.mk 0)]
  rfl

theorem State.fenceRequest_port {q : Nat} (hq : q < 64) : s.fenceRequest (0x100 + q) =
    (0, if (s.port q).fenced || !(s.port q).wasUp then s else (s.fencePort q 1).groupsCheck) := by
  unfold State.fenceRequest
  rw [if_neg (by omega), if_pos (by simp; omega), Nat.add_sub_cancel_left]
  rfl

theorem State.fenceRequest_range (h : (v < 144 ∧ coreShipped v = true) ∨ (144 ≤ v ∧ v < 0x100) ∨ 0x140 ≤ v) : s.fenceRequest v = (stRange, s) := by
  unfold State.fenceRequest
  rcases h with ⟨hv, hship⟩ | hv
  · rw [if_pos hv, if_pos hship]
  · rw [if_neg (by omega), if_neg (by simp; omega)]

theorem fenceRequest_running (hv : v < 144) (h : Takes s who 0x5000 4 2 v) (hship : coreShipped v = false) (hst : (s.core v).fence.st = 0)
    (hrun : (s.core v).ctl.st = .run ∨ (s.core v).ctl.st = .halted) :
    ∃ s', exec (.fenceRequest who v) s = .next s' ∧ Only [.cores, .dict, .out] s s' ∧ OtherCores v s s' ∧ Answered s s' who 0 0 ∧
      s'.core v = { s.core v with fence := { (s.core v).fence with st := 1, reason := 2 } } := by
  have hexec := exec_fenceRequest (by omega) h
  have hcore := s.core_touch who
  obtain ⟨t, ht⟩ : ∃ t : State, t = (s.touch who).updCore v (fun c => c.suspected 2) := ⟨_, rfl⟩
  rw [State.fenceRequest_core hv hship, if_neg (by simp [hcore, hst]), State.suspect_running 2 (by rwa [hcore]), ← ht] at hexec
  dsimp only at hexec
  obtain ⟨honly, hanswer⟩ := State.answered_respond (l' := [.cores, .dict, .out]) 0 (ht ▸ only_iff_mask.2 rfl : Only [.cores] (s.touch who) t)
    (by decide) (by decide)
  refine ⟨_, hexec, honly, fun m hm => ?_, hanswer, ?_⟩
  · change t.core m = _
    rw [ht, State.updCore_eq, State.core_setCore, if_neg hm, hcore]
  · change t.core v = _
    rw [ht, State.updCore_eq, State.core_setCore_self, hcore]
    rfl

theorem fenceRequest_fences (hv : v < 144) (h : Takes s who 0x5000 4 2 v) (hship : coreShipped v = false) (hst : (s.core v).fence.st = 0)
    (hrun : (s.core v).ctl.st ≠ .run) (hhalt : (s.core v).ctl.st ≠ .halted) :
    ∃ s', exec (.fenceRequest who v) s = .next s' ∧ Only [.cores, .log, .fns, .integ, .boot, .dict, .out] s s' ∧ OtherCores v s s' ∧
      Replied s s' who 0 0 ∧ (s'.core v).fence.st = 2 ∧ (s'.core v).ctl.st = .fenced ∧ (s'.core v).plot = (s.core v).plot ∧
      bit (s'.fn 0).pending 1 = true ∧ s'.integ.storePending = true := by
  have hexec := exec_fenceRequest (by omega) h
  have hcore := s.core_touch who
  rw [State.fenceRequest_core hv hship, if_neg (by simp [hcore, hst])] at hexec
  dsimp only at hexec
  obtain ⟨hself, hothers, hpend, hstore⟩ := State.suspect_fences (s := s.touch who) 2 hship (by rwa [hcore]) (by rwa [hcore])
  have htells := (Fences.suspect (s.touch who) v 2).tells
  generalize (s.touch who).suspect v 2 = t at hexec hself hothers hpend hstore htells
  obtain ⟨honly, hreplied⟩ := State.replied_touch (l' := [.cores, .log, .fns, .integ, .boot, .dict, .out]) 0 htells (by decide)
  refine ⟨_, hexec, honly, fun m hm => (hothers m hm).trans (hcore m), hreplied, ?_⟩
  change (t.core v).fence.st = 2 ∧ (t.core v).ctl.st = .fenced ∧ (t.core v).plot = _ ∧ _ ∧ _
  rw [hself, hcore]
  exact ⟨rfl, rfl, rfl, hpend, hstore⟩

theorem fenceRequest_already (hv : v < 144) (h : Takes s who 0x5000 4 2 v) (hship : coreShipped v = false) (hst : (s.core v).fence.st ≠ 0) :
    ∃ s', exec (.fenceRequest who v) s = .next s' ∧ Only [.dict, .out] s s' ∧ Answered s s' who 0 0 := by
  have hexec := exec_fenceRequest (by omega) h
  rw [State.fenceRequest_core hv hship, if_pos (by rwa [s.core_touch])] at hexec
  exact answered_unchanged hexec

theorem fenceRequest_port {q : Nat} (hq : q < 64) (h : Takes s who 0x5000 4 2 (0x100 + q)) (hfenced : (s.port q).fenced = false)
    (hup : (s.port q).wasUp = true) : ∃ s', exec (.fenceRequest who (0x100 + q)) s = .next s' ∧
      Replied s s' who 0 0 ∧ (s'.port q).fenced = true ∧ (s'.port q).st = 0 ∧ bit s'.integ.fencePorts q = true ∧
      bit (s'.fn 0).pending 1 = true ∧
      ∀ n, (s'.core n).ctl = (s.core n).ctl ∧ (s'.core n).plot = (s.core n).plot ∧ (s'.core n).fence = (s.core n).fence := by
  have hexec := exec_fenceRequest (by omega) h
  rw [State.fenceRequest_port hq, if_neg (by simp [s.port_touch, hfenced, hup])] at hexec
  dsimp only at hexec
  obtain ⟨htells, hst, hset, hbit, hpend⟩ := (s.touch who).fencePort_fences q 1
  generalize (s.touch who).fencePort q 1 = t at hexec htells hst hset hbit hpend
  have hcheck := t.groupsCheck_only
  have hall : Tells portFenceFlds (s.touch who) t.groupsCheck := htells.trans (.silent (hcheck.mono (by decide)) (hcheck.out.resolve_left (by decide)))
  obtain ⟨honly, hreplied⟩ := State.replied_touch (l' := .dict :: portFenceFlds) 0 hall (by decide)
  refine ⟨_, hexec, hreplied, ?_, ?_, ?_, ?_, fun n => ?_⟩
  · exact (congrArg Port.fenced (t.port_groupsCheck q)).trans hset
  · exact (congrArg Port.st (t.port_groupsCheck q)).trans hst
  · exact (congrArg (bit ·.fencePorts q) (hcheck.integ.resolve_left (by decide))).trans hbit
  · exact (congrArg (fun f : Fn => bit f.pending 1) (State.fn_congr (hcheck.fns.resolve_left (by decide)) 0)).trans hpend
  · rw [State.core_congr (honly.cores.resolve_left (by decide))]
    exact ⟨rfl, rfl, rfl⟩

theorem fenceRequest_port_stays {q : Nat} (hq : q < 64) (h : Takes s who 0x5000 4 2 (0x100 + q))
    (hno : (s.port q).fenced = true ∨ (s.port q).wasUp = false) :
    ∃ s', exec (.fenceRequest who (0x100 + q)) s = .next s' ∧ Only [.dict, .out] s s' ∧ Answered s s' who 0 0 := by
  have hexec := exec_fenceRequest (by omega) h
  rw [State.fenceRequest_port hq, if_pos (by simpa [s.port_touch] using hno)] at hexec
  exact answered_unchanged hexec

theorem fenceRequest_refused (hv : v < 65536) (h : Takes s who 0x5000 4 2 v)
    (hno : (v < 144 ∧ coreShipped v = true) ∨ (144 ≤ v ∧ v < 0x100) ∨ 0x140 ≤ v) :
    ∃ s', exec (.fenceRequest who v) s = .next s' ∧ Only [.dict, .out] s s' ∧ Answered s s' who stRange 0 := by
  have hexec := exec_fenceRequest hv h
  rw [State.fenceRequest_range hno] at hexec
  exact answered_unchanged hexec

/-! ### Clears -/

/-- A core that is being cleared: its bank fences and repairs are gone, and Checkmate runs on it. -/
def Core.clearing (c : Core) (now : Nat) : Core :=
  { c with pint := { c.pint with fenced := 0, spares := [], badSpares := [], repairs := [] }, fence := c.fence.begin .clear now }

theorem State.clearCore_spec (s : State) (n : Nat) : Only [.cores, .integ] s (s.clearCore n) ∧
    (∀ m, (s.clearCore n).core m = if m = n then (s.core n).clearing s.cyc.cycles else s.core m) ∧ (s.clearCore n).integ.storePending = true :=
  ⟨only_iff_mask.2 rfl, fun _ => State.core_setCore .., rfl⟩

theorem fenceClear_core (hv : v < 144) (h : Takes s who 0x5000 5 2 v) (hship : coreShipped v = false) (hown : s.owner v = none) :
    ∃ s', exec (.fenceClear who v) s = .next s' ∧ Only [.cores, .integ, .dict, .out] s s' ∧
      OtherCores v s s' ∧ Answered s s' who 0 0 ∧ (s'.core v).fence = { (s.core v).fence with run := .clear, runAt := s.cyc.cycles } ∧
      (s'.core v).pint.fenced = 0 ∧ (s'.core v).pint.repairs = [] ∧ (s'.core v).plot = (s.core v).plot ∧ s'.integ.storePending = true := by
  have hexec := exec_fenceClear (by omega) h
  have heffect : (s.touch who).fenceClear v = (0, (s.touch who).clearCore v) := by
    unfold State.fenceClear
    rw [if_pos hv, if_neg (by simp [hship]), if_neg (by simp [s.owner_touch, hown])]
    rfl
  rw [heffect] at hexec
  dsimp only at hexec
  obtain ⟨hclear, hcore, hstore⟩ := (s.touch who).clearCore_spec v
  have hcyc : (s.touch who).cyc = s.cyc := (s.touch_only who).cyc.resolve_left (by decide)
  generalize (s.touch who).clearCore v = t at hexec hclear hcore hstore
  obtain ⟨honly, hanswer⟩ := State.answered_respond (l' := [.cores, .integ, .dict, .out]) 0 hclear (by decide) (by decide)
  have hself : t.core v = (s.core v).clearing s.cyc.cycles := by rw [hcore, if_pos rfl, s.core_touch, hcyc]
  refine ⟨_, hexec, honly, fun m hm => ?_, hanswer, ?_⟩
  · change t.core m = _
    rw [hcore, if_neg hm, s.core_touch]
  · change (t.core v).fence = _ ∧ (t.core v).pint.fenced = 0 ∧ (t.core v).pint.repairs = [] ∧ (t.core v).plot = _ ∧ _
    rw [hself]
    exact ⟨rfl, rfl, rfl, rfl, hstore⟩

theorem fenceClear_owned (hv : v < 144) (h : Takes s who 0x5000 5 2 v) (hship : coreShipped v = false) (hown : s.owner v ≠ none) :
    ∃ s', exec (.fenceClear who v) s = .next s' ∧ Only [.dict, .out] s s' ∧ Answered s s' who 0x141 0 := by
  have hexec := exec_fenceClear (by omega) h
  have heffect : (s.touch who).fenceClear v = (0x141, s.touch who) := by
    unfold State.fenceClear
    rw [if_pos hv, if_neg (by simp [hship]), if_pos (by simpa [s.owner_touch, Option.isSome_iff_ne_none] using hown)]
    rfl
  rw [heffect] at hexec
  exact answered_unchanged hexec

/-- The clear of ports, as it is answered: no core is touched. -/
theorem portClear_replied {i : Instr} {t : State} (htells : Tells portFenceFlds (s.touch who) t) (hexec : exec i s = .next (t.respond who 0 0)) :
    ∃ s', exec i s = .next s' ∧ Replied s s' who 0 0 ∧ (∀ r, s'.port r = t.port r) ∧ s'.integ = t.integ ∧
      ∀ n, (s'.core n).ctl = (s.core n).ctl ∧ (s'.core n).plot = (s.core n).plot ∧ (s'.core n).fence = (s.core n).fence := by
  obtain ⟨honly, hreplied⟩ := State.replied_touch (l' := .dict :: portFenceFlds) 0 htells (by decide)
  refine ⟨_, hexec, hreplied, fun _ => rfl, rfl, fun n => ?_⟩
  rw [State.core_congr (honly.cores.resolve_left (by decide))]
  exact ⟨rfl, rfl, rfl⟩

theorem fenceClear_port {q : Nat} (hq : q < 64) (h : Takes s who 0x5000 5 2 (0x100 + q)) (hfenced : (s.port q).fenced = true) :
    ∃ s', exec (.fenceClear who (0x100 + q)) s = .next s' ∧ Replied s s' who 0 0 ∧
      (s'.port q).fenced = false ∧ bit s'.integ.fencePorts q = false ∧
      ∀ n, (s'.core n).ctl = (s.core n).ctl ∧ (s'.core n).plot = (s.core n).plot ∧ (s'.core n).fence = (s.core n).fence := by
  have hexec := exec_fenceClear (by omega) h
  have heffect : (s.touch who).fenceClear (0x100 + q) = (0, (s.touch who).clearPort q) := by
    unfold State.fenceClear
    rw [if_neg (by omega), if_pos (by simp; omega), Nat.add_sub_cancel_left, if_pos (by rw [s.port_touch, hfenced])]
    rfl
  rw [heffect] at hexec
  dsimp only at hexec
  obtain ⟨htells, hbit, hport⟩ := (s.touch who).clearPort_clears q
  generalize (s.touch who).clearPort q = t at hexec htells hbit hport
  obtain ⟨s', hnext, hreplied, hports, hinteg, hcores⟩ := portClear_replied htells hexec
  exact ⟨s', hnext, hreplied, by rw [hports, hport, if_pos rfl], by rw [hinteg, hbit], hcores⟩

theorem State.mem_fencedCores {n : Nat} : n ∈ s.fencedCores ↔ n < 144 ∧ coreShipped n = false ∧ (s.core n).fence.st = 2 := by
  simp [State.fencedCores, List.mem_filter]

theorem fenceClear_all (h : Takes s who 0x5000 5 2 0xFFFF) (hown : ∀ n, n < 144 → coreShipped n = false → (s.core n).fence.st = 2 → s.owner n = none) :
    ∃ s', exec (.fenceClear who 0xFFFF) s = .next s' ∧ Replied s s' who 0 0 ∧
      (∀ n, n < 144 → coreShipped n = false → (s.core n).fence.st = 2 → (s'.core n).fence.run = .clear) ∧
      ∀ q, q < 64 → (s'.port q).fenced = false := by
  have hexec := exec_fenceClear (by decide) h
  obtain ⟨t, ht⟩ : ∃ t : State, t = (s.touch who).fencedCores.foldl (fun s n => s.clearCore n) (s.touch who) := ⟨_, rfl⟩
  have hfree : ((s.touch who).fencedCores.any (fun n => ((s.touch who).owner n).isSome)) = false := by
    refine List.any_eq_false.2 fun n hn => ?_
    obtain ⟨hlt, hship, hst⟩ := State.mem_fencedCores.1 hn
    rw [s.owner_touch, hown n hlt hship (by rwa [s.core_touch] at hst)]
    decide
  have heffect : (s.touch who).fenceClear 0xFFFF = (0, (List.range 64).foldl (fun s q => if (s.port q).fenced then s.clearPort q else s) t) := by
    unfold State.fenceClear
    rw [if_neg (by decide), if_neg (by decide), if_pos rfl, if_neg (by rw [hfree]; decide), ht]
    rfl
  rw [heffect] at hexec
  dsimp only at hexec
  have hcores : Only [.cores, .integ] (s.touch who) t := ht ▸ Only.foldl _ (fun t n => (t.clearCore_spec n).1) _ _
  obtain ⟨hports, hcleared⟩ := t.clearPorts_clears 64
  generalize (List.range 64).foldl (fun s q => if (s.port q).fenced then s.clearPort q else s) t = u at hexec hports hcleared
  have hall : Tells (.cores :: portFenceFlds) (s.touch who) u :=
    (Tells.silent (hcores.mono (by decide)) (hcores.out.resolve_left (by decide))).trans (hports.mono (by decide))
  obtain ⟨-, hreplied⟩ := State.replied_touch (l' := .dict :: .cores :: portFenceFlds) 0 hall (by decide)
  refine ⟨_, hexec, hreplied, fun n hlt hship hst => ?_, hcleared⟩
  have hn : n ∈ (s.touch who).fencedCores := State.mem_fencedCores.2 ⟨hlt, hship, by rwa [s.core_touch]⟩
  refine (congrArg (fun c : Core => c.fence.run) (State.core_congr (hports.only.cores.resolve_left (by decide)) n)).trans ?_
  rw [ht]
  refine foldl_sets (P := fun t : State => (t.core n).fence.run = .clear) hn (fun t => ?_) (fun t m hm => ?_) _
  · rw [(t.clearCore_spec n).2.1, if_pos rfl]
    rfl
  · rw [(t.clearCore_spec m).2.1]
    split
    · rfl
    · exact hm

theorem fenceClear_refused (hv : v < 65536) (h : Takes s who 0x5000 5 2 v)
    (hno : (v < 144 ∧ coreShipped v = true) ∨ (144 ≤ v ∧ v < 0x100) ∨ (0x140 ≤ v ∧ v ≠ 0xFFFF)) :
    ∃ s', exec (.fenceClear who v) s = .next s' ∧ Only [.dict, .out] s s' ∧ Answered s s' who stRange 0 := by
  have hexec := exec_fenceClear hv h
  have heffect : (s.touch who).fenceClear v = (stRange, s.touch who) := by
    unfold State.fenceClear
    rcases hno with ⟨hlt, hship⟩ | hno
    · rw [if_pos hlt, if_pos hship]
    · rw [if_neg (by omega), if_neg (by simp; omega), if_neg (by omega)]
  rw [heffect] at hexec
  exact answered_unchanged hexec

end

/-! ### The stored table (18 R513) -/

/-- The sum of the powers of two of the numbers below `w` that `p` takes has those bits. -/
theorem bit_foldl_two_pow (p : Nat → Bool) (w : Nat) :
    ((List.range w).filter p).foldl (fun m n => m + 2 ^ n) 0 < 2 ^ w ∧
      ∀ n, bit (((List.range w).filter p).foldl (fun m n => m + 2 ^ n) 0) n = (decide (n < w) && p n) := by
  induction w with
  | zero => exact ⟨Nat.one_pos, fun n => by simp [bit_eq_testBit]⟩
  | succ w ih =>
    obtain ⟨hlt, hbit⟩ := ih
    have hpow : 2 ^ (w + 1) = 2 ^ w + 2 ^ w := by rw [pow_succ, Nat.mul_two]
    rw [List.range_succ, List.filter_append, List.foldl_append]
    generalize ((List.range w).filter p).foldl (fun m n => m + 2 ^ n) 0 = a at hlt hbit ⊢
    have hclear : bit a w = false := by rw [bit_eq_testBit, Nat.testBit_lt_two_pow hlt]
    have hsame : ∀ n, n ≠ w → (decide (n < w) && p n) = (decide (n < w + 1) && p n) := fun n hn => by
      rw [decide_eq_decide.2 (show n < w ↔ n < w + 1 by omega)]
    cases hp : p w with
    | false =>
      rw [List.filter_cons_of_neg (by simp [hp])]
      refine ⟨by simp; omega, fun n => ?_⟩
      by_cases hn : n = w
      · simp [hn, hp, hclear]
      · rw [← hsame n hn]
        exact hbit n
    | true =>
      rw [List.filter_cons_of_pos hp]
      refine ⟨by simp; omega, fun n => ?_⟩
      change bit (a + 2 ^ w) n = _
      by_cases hn : n = w
      · rw [hn, bit_eq_testBit, Nat.add_comm, Nat.testBit_two_pow_add_eq, ← bit_eq_testBit, hclear]
        simp [hp]
      · rw [← hsame n hn, ← hbit n, bit_eq_testBit, testBit_add_two_pow hclear hn, ← bit_eq_testBit]

/-- What the stored table keeps of a Plot. -/
def PlotInt.stored (p : PlotInt) : PlotInt := { fenced := p.fenced, spares := p.spares, badSpares := p.badSpares, repairs := p.repairs }

theorem fenceTableStore_stores (s : State) : (s.integ.storePending = false → exec .fenceTableStore s = .next s) ∧
    (s.integ.storePending = true → ∃ s', exec .fenceTableStore s = .next s' ∧ Only [.integ] s s' ∧ s'.integ.storePending = false ∧
      s'.integ.storedPorts = s.integ.fencePorts ∧ (∀ n, n < 144 → bit s'.integ.storedCores n = (!coreShipped n && (s.core n).fence.st = 2)) ∧
      ∀ n c, Sparse.find s.cores n = some c → ∃ x, Sparse.find s'.integ.storedPlots n = some x ∧ x.fenced = c.pint.fenced ∧
        x.spares = c.pint.spares ∧ x.repairs = c.pint.repairs) := by
  refine ⟨fun h => congrArg Host.Outcome.next (if_neg (by rw [h]; decide)), fun h => ?_⟩
  refine ⟨_, congrArg Host.Outcome.next (if_pos h), only_iff_mask.2 (mask_integ s (by decide) _), rfl, rfl, fun n hn => ?_, fun n c hc => ?_⟩
  · refine ((bit_foldl_two_pow _ 144).2 n).trans ?_
    rw [decide_eq_true hn, Bool.true_and]
  · exact ⟨c.pint.stored, (Sparse.find_map (fun k : Core => k.pint.stored) s.cores n).trans (congrArg _ hc), rfl, rfl, rfl⟩

end Sys2Proof.Machine
end

section
/-! PROOF. Checkmate: the run that Machenil starts, the lease, and what the signatures say (18 R504 to R506). -/

namespace Sys2Proof.Machine
open Sys2Proof.Safety

/-! ### The core that is tested next (18 R505) -/

/-- The first of a range that passes a test. -/
theorem find?_map_range {α : Type} {f : Nat → α} {p : α → Bool} {n i : Nat} (hi : i < n) (hp : p (f i) = true)
    (hbefore : ∀ j, j < i → p (f j) = false) : ((List.range n).map f).find? p = some (f i) := by
  rw [List.find?_map, List.find?_range_eq_some.2 ⟨hp, List.mem_range.2 hi, fun j hj => by simp [hbefore j hj]⟩]
  rfl

theorem find?_map_range_none {α : Type} {f : Nat → α} {p : α → Bool} {n : Nat} (h : ∀ i, i < n → p (f i) = false) :
    ((List.range n).map f).find? p = none := by
  rw [List.find?_map, List.find?_range_eq_none.2 fun i hi => by simp [h i hi]]
  rfl

theorem State.toSlot_only (s : State) (done : Option Nat) : Only [.time, .cyc, .pavs, .tally] s (s.toSlot done) :=
  .ite (.refl _ s) (s.elapseTo_only _)

theorem State.ns_le_elapse (s : State) (dt : Nat) : s.cyc.ns ≤ (s.elapse dt).cyc.ns := by
  by_cases hp : s.boot.pwrgood = true
  · obtain ⟨n, x, c, y, p, heq, hns⟩ := s.elapse_spec dt
    rw [heq]
    exact (hns hp).symm ▸ Nat.le_add_right ..
  · unfold State.elapse
    rw [if_pos (by simp [hp])]

theorem State.ns_le_elapseTo (s : State) (t : Nat) : s.cyc.ns ≤ (s.elapseTo t).cyc.ns :=
  List.foldlRecOn (motive := fun u : State => s.cyc.ns ≤ u.cyc.ns) _ _ le_rfl fun u hu _ _ => hu.trans (u.ns_le_elapse _)

theorem State.ns_le_toSlot (s : State) (done : Option Nat) : s.cyc.ns ≤ (s.toSlot done).cyc.ns := by
  unfold State.toSlot
  extract_lets cur due
  clear_value due
  cases due
  · exact s.ns_le_elapseTo _
  · exact Nat.le_refl s.cyc.ns

section
variable {s : State}

/-- The state at the slot start at which Machenil looks for a core to test. -/
def State.atCheckmate (s : State) : State := (s.elapseNs (s.integ.cmLast + 250000 * s.obj 0x5010 2)).toSlot none

theorem State.atCheckmate_spec (s : State) : Only [.time, .cyc, .pavs, .tally] s s.atCheckmate ∧
    (s.boot.pwrgood = true → s.integ.cmLast + 250000 * s.obj 0x5010 2 ≤ s.atCheckmate.cyc.ns) ∧
    (s.integ.cmLast + 250000 * s.obj 0x5010 2 ≤ s.cyc.ns → s.time.now = absStart (absSlot s.time.now) → s.atCheckmate = s) := by
  refine ⟨(s.elapseNs_only _).trans (State.toSlot_only ..), fun hp => ?_, fun hdue hslot => ?_⟩
  · refine le_trans ?_ (State.ns_le_toSlot ..)
    rw [State.ns_elapseNs hp]
    exact le_max_left ..
  · unfold State.atCheckmate State.toSlot
    rw [State.elapseNs_past hdue]
    exact if_pos (decide_eq_true hslot)

variable (hon : s.obj 0x5010 1 ≠ 0) (hready : s.boot.ready = true) (hup : s.fw.down = false)
include hon hready hup

theorem exec_checkmateRunStart : ∃ t, t = { s.atCheckmate with integ := { s.atCheckmate.integ with cmLast := s.atCheckmate.cyc.ns } } ∧
    exec .checkmateRunStart s = .next (match ((List.range 144).map (fun i => (t.integ.cmNext + i) % 144)).find? t.cmCandidate with
      | none => t
      | some n => { t.updCore n (fun c => { c with fence := c.fence.begin .machenil t.cyc.cycles }) with
          integ := { t.integ with cmNext := (n + 1) % 144 } }) := by
  refine ⟨_, rfl, ?_⟩
  change Host.Outcome.next _ = _
  rw [if_neg (by simp [hon, hready, hup])]
  rfl

omit hon hready hup in
/-- The tests of a core read it as it stood before. -/
theorem State.cmCandidate_congr {t : State} (h : Only [.time, .cyc, .pavs, .tally, .integ] s t) (n : Nat) : t.cmCandidate n = s.cmCandidate n := by
  unfold State.cmCandidate State.coreUsable
  rw [State.core_congr (h.cores.resolve_left (by decide)), State.owner_congr (h.objs.resolve_left (by decide))]

theorem checkmateRunStart_starts {i n : Nat} (hi : i < 144) (hn : n = (s.integ.cmNext + i) % 144) (hcand : s.cmCandidate n = true)
    (hbefore : ∀ j, j < i → s.cmCandidate ((s.integ.cmNext + j) % 144) = false) : ∃ s', exec .checkmateRunStart s = .next s' ∧
      Only [.time, .cyc, .pavs, .tally, .cores, .integ] s s' ∧ OtherCores n s s' ∧
      (s.boot.pwrgood = true → s.integ.cmLast + 250000 * s.obj 0x5010 2 ≤ s'.cyc.ns) ∧
      s'.core n = { s.core n with fence := { (s.core n).fence with run := .machenil, runAt := s'.cyc.cycles } } ∧
      s'.integ = { s.integ with cmLast := s'.cyc.ns, cmNext := (n + 1) % 144 } ∧
      (s.integ.cmLast + 250000 * s.obj 0x5010 2 ≤ s.cyc.ns → s.time.now = absStart (absSlot s.time.now) → s'.time = s.time ∧ s'.cyc = s.cyc) := by
  obtain ⟨t, ht, hexec⟩ := exec_checkmateRunStart hon hready hup
  obtain ⟨htime, hns, hnow⟩ := s.atCheckmate_spec
  have hinteg : s.atCheckmate.integ = s.integ := htime.integ.resolve_left (by decide)
  have hall : Only [.time, .cyc, .pavs, .tally, .integ] s t := (htime.mono (by decide)).trans (ht ▸ only_iff_mask.2 (mask_integ _ (by decide) _))
  have hti : t.integ = { s.integ with cmLast := t.cyc.ns } := by
    rw [ht]
    exact congrArg (fun x : Integ => { x with cmLast := s.atCheckmate.cyc.ns }) hinteg
  have hcyc : t.cyc = s.atCheckmate.cyc := by rw [ht]
  have htm : t.time = s.atCheckmate.time := by rw [ht]
  have hfind : ((List.range 144).map (fun i => (t.integ.cmNext + i) % 144)).find? t.cmCandidate = some n := by
    rw [hti, hn]
    refine find?_map_range (f := fun i => (s.integ.cmNext + i) % 144) hi ?_ fun j hj => ?_
    · rw [State.cmCandidate_congr hall, ← hn, hcand]
    · rw [State.cmCandidate_congr hall, hbefore j hj]
  rw [hfind] at hexec
  dsimp only at hexec
  have hcore := State.core_congr (hall.cores.resolve_left (by decide))
  refine ⟨_, hexec, (hall.mono (by decide)).trans (only_iff_mask.2 rfl), fun m hm => ?_, fun hp => ?_, ?_, ?_, fun hdue hslot => ?_⟩
  · exact (State.core_setCore ..).trans ((if_neg hm).trans (hcore m))
  · exact (hns hp).trans (le_of_eq (congrArg Cycles.ns hcyc.symm))
  · refine (State.core_setCore_self ..).trans ?_
    rw [hcore]
    rfl
  · rw [hti]
    rfl
  · change t.time = s.time ∧ t.cyc = s.cyc
    rw [hcyc, htm, hnow hdue hslot]
    exact ⟨rfl, rfl⟩

theorem checkmateRunStart_none (hnone : ∀ n, n < 144 → s.cmCandidate n = false) : ∃ s', exec .checkmateRunStart s = .next s' ∧
    Only [.time, .cyc, .pavs, .tally, .integ] s s' ∧ s'.integ = { s.integ with cmLast := s'.cyc.ns } := by
  obtain ⟨t, ht, hexec⟩ := exec_checkmateRunStart hon hready hup
  obtain ⟨htime, -, -⟩ := s.atCheckmate_spec
  have hinteg : s.atCheckmate.integ = s.integ := htime.integ.resolve_left (by decide)
  have hall : Only [.time, .cyc, .pavs, .tally, .integ] s t := (htime.mono (by decide)).trans (ht ▸ only_iff_mask.2 (mask_integ _ (by decide) _))
  have hfind : ((List.range 144).map (fun i => (t.integ.cmNext + i) % 144)).find? t.cmCandidate = none :=
    find?_map_range_none fun i _ => by rw [State.cmCandidate_congr hall, hnone _ (Nat.mod_lt _ (by decide))]
  rw [hfind] at hexec
  refine ⟨t, hexec, hall, ?_⟩
  rw [ht]
  exact congrArg (fun x : Integ => { x with cmLast := s.atCheckmate.cyc.ns }) hinteg

omit hon hready hup in
theorem checkmateRunStart_off (h : s.obj 0x5010 1 = 0 ∨ s.boot.ready = false ∨ s.fw.down = true) : exec .checkmateRunStart s = .next s := by
  refine congrArg Host.Outcome.next (if_pos ?_)
  simpa [or_assoc] using h

end

/-! ### The lease (18 R506) -/

theorem State.applyWrite_cmLease (s : State) (who : Requester) (p : PavIx) (v : Nat) : s.applyWrite who (0x5020 + p) 1 v = s.cmLease p v := by
  fin_cases p <;> rfl

theorem objKeep_lease (p : PavIx) (sub v : Nat) : objKeep (0x5020 + p) sub v = v := by
  unfold objKeep
  rw [if_neg (by simp; omega), if_neg (by simp; omega), if_neg (by simp; omega)]

section
variable {s : State} {who : Requester} {p : PavIx} {n : Nat} (hn : n < 256) (h : Takes s who (0x5020 + p) 1 1 n)
include hn h

theorem exec_cmLease : exec (.cmLease who p n) s = .next (((s.touch who).cmLease p n).2.respond who ((s.touch who).cmLease p n).1 0) :=
  State.putRow_effect h (by omega) (objKeep_lease ..) (by omega) fun t => t.applyWrite_cmLease who p n

omit hn h in
theorem State.not_owned_iff (s : State) (who : Requester) (p n : Nat) :
    (decide (143 < n) || !bit ((s.touch who).pavCores p) n) = true ↔ n ∉ s.coresOf p := by
  rw [← s.coresOf_touch who, State.coresOf, mem_bitList]
  cases bit ((s.touch who).pavCores p) n <;> simp
  exact Nat.lt_iff_add_one_le

theorem cmLease_starts (hmine : n ∈ s.coresOf p) (hidle : (s.core n).ctl.st = .idle) (hdrain : (s.core n).ctl.drain = .none)
    (hreset : (s.core n).fence.coreReset = false) (hlease : (s.pav p).leaseStatus ≠ 1) : ∃ s', exec (.cmLease who p n) s = .next s' ∧
      Only [.cores, .pavs, .dict, .out] s s' ∧ OtherCores n s s' ∧ OtherPavs p s s' ∧
      Answered s s' who 0 0 ∧ (s'.core n).fence.run = .lease ∧ (s'.core n).ctl = { (s.core n).ctl with st := .run } ∧
      s'.pav p = { s.pav p with leaseStatus := 1 } := by
  have hexec := exec_cmLease hn h
  obtain ⟨a, ha⟩ : ∃ a : State, a = (s.touch who).setCore n { s.core n with
    fence := (s.core n).fence.begin .lease (s.touch who).cyc.cycles, ctl := { (s.core n).ctl with st := .run } } := ⟨_, rfl⟩
  obtain ⟨t, ht⟩ : ∃ t : State, t = a.updPav p (fun v => { v with leaseStatus := 1 }) := ⟨_, rfl⟩
  have heffect : (s.touch who).cmLease p n = (0, t) := by
    unfold State.cmLease
    dsimp only
    rw [if_neg (mt (s.not_owned_iff who p n).1 (not_not_intro hmine)), s.core_touch, s.pav_touch,
      if_neg (by simp [hidle, hdrain, hreset, hlease]), ht, ha]
    rfl
  rw [heffect] at hexec
  dsimp only at hexec
  have hchange : Only [.cores, .pavs] (s.touch who) t := by
    rw [ht, ha]
    exact only_iff_mask.2 rfl
  obtain ⟨honly, hanswer⟩ := State.answered_respond (l' := [.cores, .pavs, .dict, .out]) 0 hchange (by decide) (by decide)
  have hpav : ∀ q, a.pav q = s.pav q := fun q => by
    rw [← s.pav_touch who q, ha]
    rfl
  have hcore : t.core n = _ := (State.core_congr (show t.cores = a.cores by rw [ht]; rfl) n).trans (congrArg (State.core · n) ha)
  rw [State.core_setCore_self] at hcore
  refine ⟨_, hexec, honly, fun m hm => ?_, fun q hq => ?_, hanswer, (congrArg (fun c : Core => c.fence.run) hcore :), congrArg Core.ctl hcore, ?_⟩
  · change t.core m = _
    rw [State.core_congr (show t.cores = a.cores by rw [ht]; rfl), ha, State.core_setCore, if_neg hm, s.core_touch]
  · change t.pav q = _
    rw [ht, State.updPav_eq, State.pav_setPav, if_neg hq, hpav]
  · change t.pav p = _
    rw [ht, State.updPav_eq, State.pav_setPav_self, hpav]

theorem cmLease_busy (hmine : n ∈ s.coresOf p) (hbusy : (s.core n).ctl.st ≠ .idle ∨ (s.pav p).leaseStatus = 1) :
    ∃ s', exec (.cmLease who p n) s = .next s' ∧ Only [.dict, .out] s s' ∧ Answered s s' who 0x140 0 := by
  have hexec := exec_cmLease hn h
  have heffect : (s.touch who).cmLease p n = (0x140, s.touch who) := by
    unfold State.cmLease
    dsimp only
    rw [if_neg (mt (s.not_owned_iff who p n).1 (not_not_intro hmine)), s.core_touch, s.pav_touch,
      if_pos (by rcases hbusy with h | h <;> simp [h])]
    rfl
  rw [heffect] at hexec
  exact answered_unchanged hexec

theorem cmLease_notOwned (hother : n ∉ s.coresOf p) :
    ∃ s', exec (.cmLease who p n) s = .next s' ∧ Only [.dict, .out] s s' ∧ Answered s s' who 0x142 0 := by
  have hexec := exec_cmLease hn h
  have heffect : (s.touch who).cmLease p n = (0x142, s.touch who) := by
    unfold State.cmLease
    dsimp only
    rw [if_pos ((s.not_owned_iff who p n).2 hother)]
    rfl
  rw [heffect] at hexec
  exact answered_unchanged hexec

end

/-! ### The signatures (18 R504) -/

theorem cmFirstFail_none (sigs : List Word) : cmFirstFail sigs = none ↔ ∀ i, i < 9 → sigs.getD i 0 = Config.checkmateSignature (i + 1) := by
  unfold cmFirstFail
  rw [List.find?_map, Option.map_eq_none_iff, List.find?_range_eq_none]
  simp

theorem cmFirstFail_some (sigs : List Word) (t : Nat) (got : Word) : cmFirstFail sigs = some (t, got) ↔
    1 ≤ t ∧ t ≤ 9 ∧ got = sigs.getD (t - 1) 0 ∧ got ≠ Config.checkmateSignature t ∧
      ∀ i, i + 1 < t → sigs.getD i 0 = Config.checkmateSignature (i + 1) := by
  unfold cmFirstFail
  rw [List.find?_map, Option.map_eq_some_iff]
  constructor
  · rintro ⟨i, hfind, heq⟩
    obtain ⟨hbad, hi, hbefore⟩ := List.find?_range_eq_some.1 hfind
    obtain ⟨rfl, rfl⟩ := Prod.mk.inj heq
    refine ⟨by omega, by have := List.mem_range.1 hi; omega, rfl, by simpa using hbad, fun j hj => ?_⟩
    simpa using hbefore j (by omega)
  · rintro ⟨hone, hnine, rfl, hbad, hbefore⟩
    obtain ⟨i, rfl⟩ : ∃ i, t = i + 1 := ⟨t - 1, by omega⟩
    refine ⟨i, List.find?_range_eq_some.2 ⟨by simpa using hbad, List.mem_range.2 (by omega), fun j hj => ?_⟩, rfl⟩
    simpa using hbefore j (by omega)

end Sys2Proof.Machine
end

section
/-! PROOF. The end of a Checkmate run: what a pass, a failure, a lease and a clear leave (18 R504, R506, R507, R512, R520). -/

namespace Sys2Proof.Machine
open Sys2Proof.Safety

/-! ### What the end of a run leaves alone -/

/-- From `s` to `t` core `n` alone has been worked on: the other cores, the memory and the objects stand, no run is counted, and time has not gone
back. -/
structure CoreWork (n : Nat) (s t : State) : Prop where
  only : Only [.time, .cyc, .pavs, .cores, .tally, .arb, .log, .fns, .integ, .boot, .out] s t
  others : OtherCores n s t
  runs : t.integ.cmRuns = s.integ.cmRuns
  fails : t.integ.cmFails = s.integ.cmFails
  cycles : s.cyc.cycles ≤ t.cyc.cycles

theorem CoreWork.refl (n : Nat) (s : State) : CoreWork n s s := ⟨.refl _ s, fun _ _ => rfl, rfl, rfl, le_rfl⟩

theorem CoreWork.trans {n : Nat} {s t u : State} (h : CoreWork n s t) (g : CoreWork n t u) : CoreWork n s u :=
  ⟨h.only.trans g.only, fun m hm => (g.others m hm).trans (h.others m hm), g.runs.trans h.runs, g.fails.trans h.fails, h.cycles.trans g.cycles⟩

theorem CoreWork.mem {n : Nat} {s t : State} (h : CoreWork n s t) : t.mem = s.mem := h.only.mem.resolve_left (by decide)

theorem CoreWork.objs {n : Nat} {s t : State} (h : CoreWork n s t) : t.objs = s.objs := h.only.objs.resolve_left (by decide)

theorem CoreWork.of_only {n : Nat} {s t : State} (h : Only [.pavs, .cores, .tally, .arb, .log, .fns, .boot, .out] s t) (hothers : OtherCores n s t) :
    CoreWork n s t where
  only := h.mono (by decide)
  others := hothers
  runs := by rw [h.integ.resolve_left (by decide)]
  fails := by rw [h.integ.resolve_left (by decide)]
  cycles := by rw [h.cyc.resolve_left (by decide)]

theorem CoreWork.of_fences {n : Nat} {s t : State} (h : Fences s t) (hothers : OtherCores n s t) : CoreWork n s t := by
  obtain ⟨b, hb⟩ := h.integ
  exact ⟨h.tells.only.mono (by decide), hothers, by rw [hb], by rw [hb], by rw [h.tells.only.cyc.resolve_left (by decide)]⟩

theorem CoreWork.setCore (n : Nat) (s : State) (c : Core) : CoreWork n s (s.setCore n c) :=
  .of_only (only_iff_mask.2 (mask_cores s (by decide) _)) fun _ hm => (State.core_setCore ..).trans (if_neg hm)

/-- The cycles of a run pass (18 Table 18-1). -/
theorem State.cycles_le_elapseCycles (s : State) (k : Nat) : s.cyc.cycles ≤ (s.elapseCycles k).cyc.cycles := by
  unfold State.elapseCycles
  split
  · exact s.cycles_le_elapse _
  · exact Nat.le_refl s.cyc.cycles

theorem State.add_le_elapseCycles {s : State} (hclk : s.power.clockOn = true) (hp : s.boot.pwrgood = true) (k : Nat) :
    s.cyc.cycles + k ≤ (s.elapseCycles k).cyc.cycles := by
  have hM : 0 < vfMHz s.power.vf := by unfold vfMHz; omega
  obtain ⟨dt, hdt⟩ : ∃ dt, dt = cdiv (k * 1000) (vfMHz s.power.vf) := ⟨_, rfl⟩
  have hlong : k * 1000 ≤ dt * vfMHz s.power.vf := by
    have hlt := Nat.lt_mul_div_succ (k * 1000 + vfMHz s.power.vf - 1) hM
    have hcdiv : dt = (k * 1000 + vfMHz s.power.vf - 1) / vfMHz s.power.vf := hdt
    rw [← hcdiv, Nat.mul_add, Nat.mul_one, Nat.mul_comm (vfMHz s.power.vf)] at hlt
    omega
  unfold State.elapseCycles
  rw [if_pos hclk, ← hdt]
  by_cases hzero : dt = 0
  · rw [hzero, Nat.zero_mul] at hlong
    rw [hzero, State.elapse_zero]
    omega
  · unfold State.elapse
    rw [if_neg (by simp [hzero, hp])]
    dsimp only
    obtain ⟨y, hy⟩ := TallyOnly.foldl (fun t (r : Nat × Core) => t.countCore r.1 r.2 (s.cyclesIn dt).1)
      (fun t r => t.countCore_tallyOnly ..) s.cores
      { s with time := if bit s.boot.clk 1 then s.time else s.time.run s.cyc.ns dt
               cyc := { s.cyc with ns := s.cyc.ns + dt, cycles := s.cyc.cycles + (s.cyclesIn dt).1, frac := (s.cyclesIn dt).2 } }
    rw [hy]
    change s.cyc.cycles + k ≤ s.cyc.cycles + (s.cyclesIn dt).1
    unfold State.cyclesIn
    rw [if_pos hclk]
    dsimp only
    omega

theorem CoreWork.elapseCycles (n : Nat) (s : State) (k : Nat) : CoreWork n s (s.elapseCycles k) := by
  have h := s.elapseCycles_only k
  exact ⟨h.mono (by decide), fun m _ => State.core_congr (h.cores.resolve_left (by decide)) m, by rw [h.integ.resolve_left (by decide)],
    by rw [h.integ.resolve_left (by decide)], s.cycles_le_elapseCycles k⟩

/-! ### The result of the tests (18 Table 18-4) -/

/-- A core whose tests have ended. -/
def Core.tested (c : Core) : Option (Nat × Word) → Core
  | none => { c.scrubOrWait with fence := { c.fence with run := .none, cmLast := 9 } }
  | some x => { c with fence := { c.fence with run := .none, cmLast := x.1 % 256 + 256 } }

theorem State.cmResult_spec (s : State) (n : Nat) (fail : Option (Nat × Word)) :
    Only [.cores, .integ, .log, .fns, .out] s (s.cmResult n fail) ∧ OtherCores n s (s.cmResult n fail) ∧
      (s.cmResult n fail).core n = (s.core n).tested fail ∧ (s.cmResult n fail).integ.cmRuns = (s.integ.cmRuns + 1) % 2 ^ 64 ∧
      (s.cmResult n fail).integ.cmFails = (s.integ.cmFails + b2n fail.isSome) % 2 ^ 32 := by
  unfold State.cmResult
  extract_lets src t
  have hcount : Only [.cores, .integ, .log, .fns, .out] s t := only_iff_mask.2 (mask_integ s (by decide) _)
  have hcore : ∀ m, t.core m = s.core m := fun _ => rfl
  have hruns : t.integ.cmRuns = (s.integ.cmRuns + 1) % 2 ^ 64 ∧ t.integ.cmFails = (s.integ.cmFails + b2n fail.isSome) % 2 ^ 32 := ⟨rfl, rfl⟩
  clear_value t
  cases fail with
  | none =>
    refine ⟨hcount.trans (only_iff_mask.2 rfl), fun m hm => ?_, ?_, hruns⟩
    · rw [State.updCore_eq, State.core_setCore, if_neg hm, hcore]
    · rw [State.updCore_eq, State.core_setCore_self, hcore]
      rfl
  | some x =>
    obtain ⟨i, got⟩ := x
    dsimp only
    obtain ⟨u, hu⟩ : ∃ u : State, u = t.updCore n (fun c => { c with fence := { c.fence with run := .none, cmLast := i % 256 + 256 } }) := ⟨_, rfl⟩
    rw [← hu]
    have hset : Only [.cores, .integ, .log, .fns, .out] t u := hu ▸ only_iff_mask.2 rfl
    have hlog := (u.logRec_tells 0x0050 n 2 (u.owner n) (i % 256 + (Config.checkmateSignature i).toNat * 2 ^ 8 + got.toNat * 2 ^ 40)).only
    generalize u.logRec 0x0050 n 2 (u.owner n) (i % 256 + (Config.checkmateSignature i).toNat * 2 ^ 8 + got.toNat * 2 ^ 40) = w at hlog
    have hsame := State.core_congr (hlog.cores.resolve_left (by decide))
    have hinteg : w.integ = t.integ := by
      rw [hlog.integ.resolve_left (by decide), hu]
      rfl
    refine ⟨(hcount.trans hset).trans (hlog.mono (by decide)), fun m hm => ?_, ?_, by rw [hinteg, hruns.1], by rw [hinteg, hruns.2]⟩
    · rw [hsame, hu, State.updCore_eq, State.core_setCore, if_neg hm, hcore]
    · rw [hsame, hu, State.updCore_eq, State.core_setCore_self, hcore]
      rfl

/-! ### The core reset of a lease (15 R422, R424) -/

/-- A core all of whose commands have been dropped. -/
def Core.dropped (c : Core) : Core :=
  { c with mover := {}, dice := {}, rot := {}, tre := {}, par := { c.par with eng := {} }, map := { c.map with walk := none } }

theorem Core.fence_parOutcome (c : Core) (r : Running) : (c.parOutcome r).fence = c.fence := by
  unfold Core.parOutcome
  split
  · rfl
  · split <;> rfl

theorem State.parterreComplete_works (s : State) (n : Nat) : CoreWork n s (s.parterreComplete n) ∧
    ((s.parterreComplete n).core n).fence = (s.core n).fence := by
  cases hnext : (s.core n).parNext with
  | none =>
    have hstay : s.parterreComplete n = s := by
      unfold State.parterreComplete
      rw [hnext]
    rw [hstay]
    exact ⟨.refl n s, rfl⟩
  | some r =>
    rw [State.parterreComplete_eq hnext]
    have htime := CoreWork.elapseCycles n s (r.doneAt - s.cyc.cycles)
    have hcore : (s.elapseCycles (r.doneAt - s.cyc.cycles)).core n = s.core n :=
      State.core_congr ((s.elapseCycles_only _).cores.resolve_left (by decide)) n
    generalize s.elapseCycles (r.doneAt - s.cyc.cycles) = t at htime hcore
    obtain ⟨hout, hothers, hself⟩ := t.parOutcome_spec n r
    obtain ⟨honly, hothers', d, -, hleft⟩ := (t.parOutcome n r).retire_retired n .parterre r
    refine ⟨(htime.trans (.of_only (hout.mono (by decide)) hothers)).trans (.of_only (honly.mono (by decide)) hothers'), ?_⟩
    rw [hleft, hself, ← hcore]
    exact Core.fence_parOutcome ..

theorem State.dropCommands_spec (s : State) (n : Nat) : CoreWork n s (s.dropCommands n) ∧ ((s.dropCommands n).core n).fence = (s.core n).fence ∧
    ((s.core n).par.eng.run = [] → (s.dropCommands n).core n = (s.core n).dropped) ∧ ∃ c, (s.dropCommands n).core n = Core.dropped c := by
  unfold State.dropCommands
  extract_lets t mine arb u
  have hdone : CoreWork n s t ∧ (t.core n).fence = (s.core n).fence :=
    List.foldlRecOn (motive := fun t : State => CoreWork n s t ∧ (t.core n).fence = (s.core n).fence) _ _ ⟨.refl n s, rfl⟩ fun t ht _ _ =>
      ⟨ht.1.trans (t.parterreComplete_works n).1, (t.parterreComplete_works n).2.trans ht.2⟩
  have hidle : (s.core n).par.eng.run = [] → t = s := fun h => by
    change (List.range (s.core n).par.eng.run.length).foldl (fun s _ => s.parterreComplete n) s = s
    rw [h]
    rfl
  have harb : CoreWork n t u := .of_only (only_iff_mask.2 (mask_arb t (by decide) _)) fun _ _ => rfl
  have hcore : u.core n = t.core n := rfl
  clear_value u t
  obtain ⟨hwork, hfence⟩ := hdone
  refine ⟨(hwork.trans harb).trans (.setCore ..), ?_, fun h => ?_, t.core n, ?_⟩
  · rw [State.updCore_eq, State.core_setCore_self, hcore]
    exact hfence
  · rw [State.updCore_eq, State.core_setCore_self, hcore, hidle h]
    rfl
  · rw [State.updCore_eq, State.core_setCore_self, hcore]
    rfl

/-- A core reset leaves the core cleared, or fenced besides. -/
theorem State.resetCore_spec (s : State) (n : Nat) : CoreWork n s (s.resetCore n) ∧ ∃ c, (s.core n).fence = c.fence ∧
    ((s.core n).par.eng.run = [] → c = (s.core n).dropped) ∧ (∃ d, c = Core.dropped d) ∧ c.clearReset.FencedOr ((s.resetCore n).core n) := by
  unfold State.resetCore
  extract_lets t held u
  obtain ⟨hdrop, hfence, hidle, hempty⟩ := s.dropCommands_spec n
  have hcount : CoreWork n t u := by
    unfold u
    split
    · exact .refl n t
    · have h := t.tallyPav_tallyOnly 0x2C (t.owner n) held
      exact .of_only (h.only.mono (by decide)) fun m _ => State.core_congr h.cores m
  have hcore : u.core n = t.core n := by
    unfold u
    split
    · rfl
    · exact State.core_congr (t.tallyPav_tallyOnly 0x2C (t.owner n) held).cores n
  have hclear : (u.updCore n (·.clearReset)).core n = (t.core n).clearReset := by rw [State.updCore_eq, State.core_setCore_self, hcore]
  obtain ⟨d, hturns, hfenced⟩ := (u.updCore n (·.clearReset)).settle_fencedOr n
  rw [hclear, ← hturns.core] at hfenced
  exact ⟨((hdrop.trans hcount).trans (.setCore ..)).trans (.of_fences (.settle ..) hturns.others), t.core n, hfence.symm, hidle, hempty, hfenced⟩

theorem Core.cleared_clearReset {c : Core} (hsus : c.pint.suspects = []) : Cleared c.dropped.clearReset := by
  have hscrub : c.dropped.scrubOrWait = c.dropped.scrub := by
    unfold Core.scrubOrWait
    rw [if_pos (by simp [Core.dropped, hsus])]
  unfold Core.clearReset
  rw [hscrub]
  refine ⟨rfl, ⟨rfl, rfl, rfl, rfl, rfl, rfl⟩, ⟨rfl, rfl⟩, ⟨rfl, rfl, rfl, rfl⟩, ⟨rfl, rfl⟩, fun e he => ?_, rfl⟩
  exact List.eq_of_mem_replicate (n := 5) he

theorem cleared_fenced {c : Core} (h : Cleared c) : Cleared c.fenced := by
  obtain ⟨hsplit, hnum, hstate, hfault, hsregs, -⟩ := h.ctl
  exact ⟨h.plot, ⟨hsplit, hnum, hstate, hfault, hsregs, rfl⟩, h.streams, h.own, h.map, h.engines, h.bps⟩

theorem cleared_suspected {c : Core} (h : Cleared c) (reason : Nat) : Cleared (c.suspected reason) :=
  ⟨h.plot, h.ctl, h.streams, h.own, h.map, h.engines, h.bps⟩

theorem cleared_fencedOr {c d : Core} (h : Cleared c) (hor : c.FencedOr d) : Cleared d := by
  rcases hor with rfl | rfl
  · exact h
  · exact cleared_fenced h

theorem Core.tested_keeps (c : Core) (fail : Option (Nat × Word)) : (c.tested fail).fence.run = .none ∧ (c.tested fail).ctl = c.ctl ∧
    (c.tested fail).fence.st = c.fence.st ∧ (c.tested fail).pint.suspects = c.pint.suspects ∧ (c.tested fail).par.eng = c.par.eng := by
  cases fail with
  | some x => exact ⟨rfl, rfl, rfl, rfl, rfl⟩
  | none =>
    unfold Core.tested Core.scrubOrWait
    dsimp only
    split <;> exact ⟨rfl, rfl, rfl, rfl, rfl⟩

/-- The record of a core's last test. -/
theorem Core.cmLast_tested (c : Core) {sigs : List Word} {fail : Option (Nat × Word)} (hf : fail = cmFirstFail sigs) :
    (∀ t got, fail = some (t, got) → (c.tested fail).fence.cmLast = t + 256) ∧ (fail = none → (c.tested fail).fence.cmLast = 9) := by
  refine ⟨fun t got h => ?_, fun h => ?_⟩
  · obtain ⟨-, ht, -⟩ := (cmFirstFail_some sigs t got).1 (hf ▸ h)
    rw [h]
    exact congrArg (· + 256) (Nat.mod_eq_of_lt (by omega))
  · rw [h]
    rfl

theorem Core.plot_tested {c : Core} (hsus : c.pint.suspects = []) : (c.tested none).plot = {} := by
  unfold Core.tested Core.scrubOrWait
  rw [hsus]
  rfl

/-- A core whose test is over, as its verdict leaves it. -/
def State.judge (s : State) (n : Nat) (fail : Option (Nat × Word)) : State := if fail.isSome then s.suspect n 0 else s

theorem State.judge_spec {s : State} {n : Nat} (fail : Option (Nat × Word)) (hship : coreShipped n = false)
    (hidle : fail.isSome = true → (s.core n).ctl.st ≠ .run ∧ (s.core n).ctl.st ≠ .halted) :
    CoreWork n s (s.judge n fail) ∧ (s.judge n fail).pavs = s.pavs ∧ (∀ f, f ≠ 0 → ((s.judge n fail).fn f).pending = (s.fn f).pending) ∧
      (s.judge n fail).core n = if fail.isSome then ((s.core n).suspected 0).fenced else s.core n := by
  unfold State.judge
  by_cases h : fail.isSome = true
  · obtain ⟨hself, hothers, -⟩ := State.suspect_fences 0 hship (hidle h).1 (hidle h).2
    have hfences := Fences.suspect s n 0
    rw [if_pos h, if_pos h]
    exact ⟨.of_fences hfences hothers, hfences.tells.only.pavs.resolve_left (by decide), hfences.vfs, hself⟩
  · rw [if_neg h, if_neg h]
    exact ⟨.refl n s, rfl, fun _ _ => rfl, rfl⟩

/-- What a judged core keeps. -/
theorem Core.judged (c : Core) (fail : Option (Nat × Word)) (d : Core) (hd : d = if fail.isSome then (c.suspected 0).fenced else c)
    (hrun : c.fence.run = .none) : d.fence.run = .none ∧ (fail.isSome = true → d.fence.st = 2 ∧ d.ctl.st = .fenced) ∧
      d.fence.cmLast = c.fence.cmLast ∧ d.plot = c.plot ∧ (fail = none → d = c) ∧ (Cleared c → Cleared d) := by
  subst hd
  cases fail with
  | none => exact ⟨hrun, nofun, rfl, rfl, fun _ => rfl, id⟩
  | some x => exact ⟨rfl, fun _ => ⟨rfl, rfl⟩, rfl, rfl, nofun, fun h => cleared_fenced (cleared_suspected h 0)⟩

theorem Core.clearReset_keeps (c : Core) : c.clearReset.fence.run = c.fence.run ∧ c.clearReset.fence.cmLast = c.fence.cmLast ∧
    c.clearReset.ctl.st ≠ .run ∧ c.clearReset.ctl.st ≠ .halted := by
  have hst : c.clearReset.ctl.st = if c.scrubOrWait.ctl.st = .fenced then .fenced else .idle := rfl
  refine ⟨?_, ?_, ?_, ?_⟩
  · unfold Core.clearReset Core.scrubOrWait
    split <;> rfl
  · unfold Core.clearReset Core.scrubOrWait
    split <;> rfl
  · rw [hst]
    split <;> exact nofun
  · rw [hst]
    split <;> exact nofun

/-- What a core that stays or is fenced keeps. -/
theorem Core.fencedOr_handed {c d : Core} (h : c.FencedOr d) (hrun : c.fence.run = .none) (hrunning : c.ctl.st ≠ .run) (hhalted : c.ctl.st ≠ .halted) :
    d.fence.run = .none ∧ d.fence.cmLast = c.fence.cmLast ∧ d.ctl.st ≠ .run ∧ d.ctl.st ≠ .halted := by
  rcases h with rfl | rfl
  · exact ⟨hrun, rfl, hrunning, hhalted⟩
  · exact ⟨rfl, rfl, nofun, nofun⟩

/-! ### CHECKMATE_RUN_END -/

section
variable {s : State} {n : CoreIx} {sigs : List Word} {fail : Option (Nat × Word)} (hf : fail = cmFirstFail sigs)

/-- The state when the run has taken its cycles. -/
def State.ranTests (s : State) (n : Nat) (fail : Option (Nat × Word)) : State :=
  s.elapseCycles ((s.core n).fence.runAt + cmLength fail - s.cyc.cycles)

theorem checkmateRunEnd_idle (hrun : (s.core n).fence.run = .none) : exec (.checkmateRunEnd n sigs) s = .next s := by
  change Host.Outcome.next _ = _
  dsimp only
  rw [hrun]
  rfl

include hf

theorem le_cmLength : (if fail = none then 16120 else 1000) ≤ cmLength fail := by
  cases hfail : fail with
  | none => rfl
  | some x =>
    obtain ⟨t, got⟩ := x
    obtain ⟨hone, -⟩ := (cmFirstFail_some sigs t got).1 (hf ▸ hfail)
    obtain ⟨k, rfl⟩ : ∃ k, t = k + 1 := ⟨t - 1, by omega⟩
    rw [if_neg (by simp)]
    change 1000 ≤ (cmCycles.take (k + 1)).sum
    rw [cmCycles, List.take_succ_cons, List.sum_cons]
    omega

/-- The tests are over: their cycles have passed, the run is counted, and the core has its result. -/
theorem State.tests_end : ∃ u, u = (s.ranTests n fail).cmResult n fail ∧ OtherCores n s u ∧ u.mem = s.mem ∧ u.objs = s.objs ∧
    u.integ.cmRuns = (s.integ.cmRuns + 1) % 2 ^ 64 ∧ u.integ.cmFails = (s.integ.cmFails + b2n fail.isSome) % 2 ^ 32 ∧
    (s.power.clockOn = true → s.boot.pwrgood = true → (s.core n).fence.runAt + (if fail = none then 16120 else 1000) ≤ u.cyc.cycles) ∧
    u.core n = (s.core n).tested fail := by
  have htime := CoreWork.elapseCycles n s ((s.core n).fence.runAt + cmLength fail - s.cyc.cycles)
  have hcore : (s.ranTests n fail).core n = s.core n := State.core_congr ((s.elapseCycles_only _).cores.resolve_left (by decide)) n
  have hcycles : s.power.clockOn = true → s.boot.pwrgood = true →
      (s.core n).fence.runAt + (if fail = none then 16120 else 1000) ≤ (s.ranTests n fail).cyc.cycles := fun hclk hp => by
    have hlen := le_cmLength hf
    have hrun : _ ≤ (s.ranTests n fail).cyc.cycles := State.add_le_elapseCycles hclk hp _
    omega
  change CoreWork n s (s.ranTests n fail) at htime
  generalize s.ranTests n fail = t at htime hcore hcycles
  obtain ⟨honly, hothers, hself, hruns, hfails⟩ := t.cmResult_spec n fail
  refine ⟨_, rfl, fun m hm => (hothers m hm).trans (htime.others m hm), (honly.mem.resolve_left (by decide)).trans htime.mem,
    (honly.objs.resolve_left (by decide)).trans htime.objs, by rw [hruns, htime.runs], by rw [hfails, htime.fails], fun hclk hp => ?_, by rw [hself, hcore]⟩
  rw [honly.cyc.resolve_left (by decide)]
  exact hcycles hclk hp

omit hf in
/-- What every run leaves at its end, whoever began it. -/
structure RunEnds (s : State) (n : Nat) (fail : Option (Nat × Word)) (s' : State) : Prop where
  others : OtherCores n s s'
  mem : s'.mem = s.mem
  objs : s'.objs = s.objs
  runs : s'.integ.cmRuns = (s.integ.cmRuns + 1) % 2 ^ 64
  fails : s'.integ.cmFails = (s.integ.cmFails + b2n fail.isSome) % 2 ^ 32
  cycles : s.power.clockOn = true → s.boot.pwrgood = true → (s.core n).fence.runAt + (if fail = none then 16120 else 1000) ≤ s'.cyc.cycles
  run : (s'.core n).fence.run = .none
  fenced : fail.isSome = true → (s'.core n).fence.st = 2 ∧ (s'.core n).ctl.st = .fenced
  lastFail : ∀ t got, fail = some (t, got) → (s'.core n).fence.cmLast = t + 256
  lastPass : fail = none → (s'.core n).fence.cmLast = 9
  plot : fail = none → (s.core n).pint.suspects = [] → (s.core n).par.eng.run = [] → (s'.core n).plot = {}

omit hf in
/-- A core as the work that follows the tests hands it to the verdict. -/
structure Core.Handed (c d : Core) (fail : Option (Nat × Word)) : Prop where
  run : d.fence.run = .none
  last : d.fence.cmLast = (c.tested fail).fence.cmLast
  idle : fail.isSome = true → d.ctl.st ≠ .run ∧ d.ctl.st ≠ .halted
  plot : fail = none → c.pint.suspects = [] → c.par.eng.run = [] → d.plot = {}

theorem runEnds {v w : State} (hship : coreShipped n = false) (hwork : CoreWork n ((s.ranTests n fail).cmResult n fail) v)
    (hhand : (s.core n).Handed (v.core n) fail) (hw : CoreWork n (v.judge n fail) w) (hsame : w.core n = (v.judge n fail).core n) :
    RunEnds s n fail w := by
  obtain ⟨u, hu, hothers, hmem, hobjs, hruns, hfails, hcycles, hself⟩ := State.tests_end hf (n := n) (s := s)
  rw [← hu] at hwork
  obtain ⟨hjudge, -, -, hcore⟩ := State.judge_spec (s := v) fail hship hhand.idle
  have hall := (hwork.trans hjudge).trans hw
  obtain ⟨hrun, hfenced, hlast, hplot, -⟩ := (v.core n).judged fail (w.core n) (hsame.trans hcore) hhand.run
  obtain ⟨hfirst, hpass⟩ := (s.core n).cmLast_tested hf
  exact {
    others := fun m hm => (hall.others m hm).trans (hothers m hm)
    mem := hall.mem.trans hmem
    objs := hall.objs.trans hobjs
    runs := hall.runs.trans hruns
    fails := hall.fails.trans hfails
    cycles := fun hclk hp => (hcycles hclk hp).trans hall.cycles
    run := hrun
    fenced := hfenced
    lastFail := fun t got h => (hlast.trans hhand.last).trans (hfirst t got h)
    lastPass := fun h => (hlast.trans hhand.last).trans (hpass h)
    plot := fun h hsus hidle => hplot.trans (hhand.plot h hsus hidle) }

/-! A run that Machenil began. -/

theorem checkmateRunEnd_machenil (hrun : (s.core n).fence.run = .machenil) (hship : coreShipped n = false) (hidle : (s.core n).ctl.st = .idle) :
    ∃ s', exec (.checkmateRunEnd n sigs) s = .next s' ∧ RunEnds s n fail s' ∧ (fail = none → (s'.core n).fence.st = (s.core n).fence.st) := by
  have hexec : exec (.checkmateRunEnd n sigs) s = .next (((s.ranTests n fail).cmResult n fail).judge n fail) := by
    subst hf
    change Host.Outcome.next _ = _
    dsimp only
    rw [hrun]
    rfl
  obtain ⟨u, hu, -, -, -, -, -, -, hself⟩ := State.tests_end hf (n := n) (s := s)
  obtain ⟨hnone, hctl, hst, -⟩ := (s.core n).tested_keeps fail
  have hquiet : (u.core n).ctl.st = .idle := by rw [hself, hctl, hidle]
  have hhand : (s.core n).Handed (u.core n) fail :=
    { run := by rw [hself, hnone], last := by rw [hself]
      idle := fun _ => by simp [hquiet]
      plot := fun h hsus _ => by rw [hself, h, Core.plot_tested hsus] }
  refine ⟨_, hexec, runEnds hf hship (.refl _ _) (hu ▸ hhand) (.refl _ _) rfl, fun h => ?_⟩
  rw [← hu, (State.judge_spec fail hship hhand.idle).2.2.2, if_neg (by simp [h]), hself, hst]

/-! A run that clears a core. -/

/-- The core is cleared, whatever the tests gave. -/
def Core.uncovered (k : Core) : Core := { k with fence := { k.fence with st := 0 }, ctl := { k.ctl with st := .idle } }

theorem checkmateRunEnd_clear (hrun : (s.core n).fence.run = .clear) (hship : coreShipped n = false) :
    ∃ s', exec (.checkmateRunEnd n sigs) s = .next s' ∧ RunEnds s n fail s' ∧
      (fail = none → (s'.core n).fence.st = 0 ∧ (s'.core n).ctl.st = .idle) := by
  obtain ⟨u, hu, -, -, -, -, -, -, hself⟩ := State.tests_end hf (n := n) (s := s)
  obtain ⟨v, hv⟩ : ∃ v : State, v = u.updCore n Core.uncovered := ⟨_, rfl⟩
  have hexec : exec (.checkmateRunEnd n sigs) s = .next ({ (v.judge n fail).logRec 0x0053 n 0 none (b2n fail.isSome) with
      integ := { ((v.judge n fail).logRec 0x0053 n 0 none (b2n fail.isSome)).integ with storePending := true } } : State).syncChip := by
    rw [hv, hu]
    subst hf
    change Host.Outcome.next _ = _
    dsimp only
    rw [hrun]
    rfl
  obtain ⟨hnone, -, -, -, -⟩ := (s.core n).tested_keeps fail
  have hcore : v.core n = ((s.core n).tested fail).uncovered := by rw [hv, State.updCore_eq, State.core_setCore_self, hself]
  have hhand : (s.core n).Handed (v.core n) fail :=
    { run := by rw [hcore]; exact hnone
      last := by rw [hcore]; rfl
      idle := fun _ => by rw [hcore]; exact ⟨nofun, nofun⟩
      plot := fun h hsus _ => by rw [hcore, h]; exact Core.plot_tested hsus }
  have hlog := Fences.logRec (v.judge n fail) 0x0053 n 0 none (b2n fail.isSome)
  have hcores : ((v.judge n fail).logRec 0x0053 n 0 none (b2n fail.isSome)).cores = (v.judge n fail).cores :=
    (State.logRec_tells ..).only.cores.resolve_left (by decide)
  generalize (v.judge n fail).logRec 0x0053 n 0 none (b2n fail.isSome) = x at hexec hlog hcores
  have hend := (hlog.trans (.storePending x)).trans (.syncChip _)
  have hsync : ({ x with integ := { x.integ with storePending := true } } : State).syncChip.cores = (v.judge n fail).cores :=
    (State.syncChip_spec _).1.only.cores.resolve_left (by decide) |>.trans hcores
  have hsame := State.core_congr hsync
  refine ⟨_, hexec, runEnds hf hship (hu ▸ hv ▸ .setCore ..) hhand (.of_fences hend fun m _ => hsame m) (hsame n), fun h => ?_⟩
  rw [hsame, (State.judge_spec fail hship hhand.idle).2.2.2, h, if_neg (by simp), hcore]
  exact ⟨rfl, rfl⟩

/-! A lease. -/

theorem checkmateRunEnd_lease (hrun : (s.core n).fence.run = .lease) (hship : coreShipped n = false) :
    ∃ s', exec (.checkmateRunEnd n sigs) s = .next s' ∧ RunEnds s n fail s' ∧
      ((s.core n).pint.suspects = [] → (s.core n).par.eng.run = [] → Cleared (s'.core n)) ∧
      ∀ p, s.owner n = some p → bit (s'.fn (p + 1)).pending 6 = true ∧ (s'.pav p).leaseStatus = (if fail.isSome then 3 else 2) := by
  obtain ⟨u, hu, -, -, hobjs, -, -, -, hself⟩ := State.tests_end hf (n := n) (s := s)
  obtain ⟨hreset, c, hfence, hidle, -, hor⟩ := u.resetCore_spec n
  obtain ⟨x, hx⟩ : ∃ x : State, x = (u.resetCore n).raiseCore n 6 := ⟨_, rfl⟩
  obtain ⟨v, hv⟩ : ∃ v : State, v = x.updPav ((s.owner n).getD 0) (fun v => { v with leaseStatus := if fail.isSome then 3 else 2 }) := ⟨_, rfl⟩
  have hexec : exec (.checkmateRunEnd n sigs) s = .next (v.judge n fail) := by
    have howner : (s.ranTests n fail).owner n = s.owner n := State.owner_congr ((s.elapseCycles_only _).objs.resolve_left (by decide)) n
    rw [hv, hx, hu, ← howner]
    subst hf
    change Host.Outcome.next _ = _
    dsimp only
    rw [hrun]
    rfl
  obtain ⟨htold, hpend⟩ := (u.resetCore n).raiseCore_spec n 6
  rw [← hx] at htold hpend
  have hraised : CoreWork n (u.resetCore n) x := .of_only (htold.mono (by decide)) fun m _ =>
    State.core_congr (htold.cores.resolve_left (by decide)) m
  have hset : CoreWork n x v := hv ▸ .of_only (only_iff_mask.2 (mask_pavs x (by decide) _)) fun _ _ => rfl
  have hcore : v.core n = (u.resetCore n).core n := by
    refine (State.core_congr (show v.cores = x.cores by rw [hv]; rfl) n).trans ?_
    exact State.core_congr (htold.cores.resolve_left (by decide)) n
  obtain ⟨hnone, -, -, hsus, hpar⟩ := (s.core n).tested_keeps fail
  obtain ⟨hkrun, hklast, hkgo, hkhalt⟩ := c.clearReset_keeps
  obtain ⟨hdrun, hdlast, hdgo, hdhalt⟩ := Core.fencedOr_handed hor (by rw [hkrun, ← hfence, hself, hnone]) hkgo hkhalt
  have hcleared : (s.core n).pint.suspects = [] → (s.core n).par.eng.run = [] → Cleared (v.core n) := fun hs hr => by
    rw [hcore]
    refine cleared_fencedOr ?_ hor
    rw [hidle (by rw [hself, hpar, hr])]
    exact Core.cleared_clearReset (by rw [hself, hsus, hs])
  have hhand : (s.core n).Handed (v.core n) fail :=
    { run := by rw [hcore, hdrun], last := by rw [hcore, hdlast, hklast, ← hfence, hself]
      idle := fun _ => by rw [hcore]; exact ⟨hdgo, hdhalt⟩
      plot := fun _ hs hr => (hcleared hs hr).plot }
  have hends : RunEnds s n fail (v.judge n fail) := runEnds hf hship (hu ▸ (hreset.trans hraised).trans hset) hhand (.refl _ _) rfl
  obtain ⟨-, hpavs, hvfs, hjudged⟩ := State.judge_spec (s := v) fail hship hhand.idle
  obtain ⟨-, -, -, -, -, hkeep⟩ := (v.core n).judged fail _ hjudged hhand.run
  refine ⟨_, hexec, hends, fun hs hr => hkeep (hcleared hs hr), fun p hown => ⟨?_, ?_⟩⟩
  · rw [hvfs _ (by omega), hv]
    exact hpend p ((State.owner_congr (hreset.objs.trans hobjs) n).trans hown)
  · rw [State.pav_congr hpavs, hv, hown, Option.getD_some, State.updPav_eq, State.pav_setPav_self]

end

theorem checkmateRunEnd_ends {s : State} {n : CoreIx} {sigs : List Word} {fail : Option (Nat × Word)} (hf : fail = cmFirstFail sigs)
    (hrun : (s.core n).fence.run ≠ .none) (hship : coreShipped n = false) (hidle : (s.core n).fence.run = .machenil → (s.core n).ctl.st = .idle) :
    ∃ s', exec (.checkmateRunEnd n sigs) s = .next s' ∧ RunEnds s n fail s' ∧
      ((s.core n).fence.run = .machenil → fail = none → (s'.core n).fence.st = (s.core n).fence.st) ∧
      ((s.core n).fence.run = .clear → fail = none → (s'.core n).fence.st = 0 ∧ (s'.core n).ctl.st = .idle) ∧
      ∀ p, (s.core n).fence.run = .lease → s.owner n = some p →
        ((s.core n).pint.suspects = [] → (s.core n).par.eng.run = [] → Cleared (s'.core n)) ∧ bit (s'.fn (p + 1)).pending 6 = true ∧
        (s'.pav p).leaseStatus = (if fail.isSome then 3 else 2) := by
  cases hwho : (s.core n).fence.run with
  | none => exact absurd hwho hrun
  | machenil =>
    obtain ⟨s', hexec, hends, hst⟩ := checkmateRunEnd_machenil hf hwho hship (hidle hwho)
    exact ⟨s', hexec, hends, fun _ => hst, nofun, nofun⟩
  | clear =>
    obtain ⟨s', hexec, hends, hst⟩ := checkmateRunEnd_clear hf hwho hship
    exact ⟨s', hexec, hends, nofun, fun _ => hst, nofun⟩
  | lease =>
    obtain ⟨s', hexec, hends, hcleared, hown⟩ := checkmateRunEnd_lease hf hwho hship
    exact ⟨s', hexec, hends, nofun, nofun, fun p _ hp => ⟨hcleared, hown p hp⟩⟩

/-- Settles O51: fences are set, cleared and stored, Checkmate tests cores, and a run ends with its verdict. -/
theorem fencesAndCheckmate : Obligations.FencesAndCheckmate := by
  unfold Obligations.FencesAndCheckmate
  refine ⟨fun s who v hv h => ⟨fun hlt => fenceRequest_running hlt h, fun hlt => fenceRequest_fences hlt h, fun hlt => fenceRequest_already hlt h,
      ?_, ?_, fenceRequest_refused hv h⟩,
    fun s who v hv h => ⟨fun hlt => fenceClear_core hlt h, fun hlt => fenceClear_owned hlt h, ?_, ?_, fenceClear_refused hv h⟩,
    fenceTableStore_stores, fun s => ⟨checkmateRunStart_off, fun hon hready hup => ⟨fun i n => checkmateRunStart_starts hon hready hup,
      checkmateRunStart_none hon hready hup⟩⟩,
    fun s who p n hn h => ⟨cmLease_starts hn h, cmLease_busy hn h, cmLease_notOwned hn h⟩,
    fun sigs => ⟨cmFirstFail_none sigs, cmFirstFail_some sigs⟩,
    fun s n sigs fail hf => ⟨checkmateRunEnd_idle, fun hrun hship hidle => ?_⟩⟩
  · rintro q hq rfl
    exact fenceRequest_port hq h
  · rintro q hq rfl
    exact fenceRequest_port_stays hq h
  · rintro q hq rfl
    exact fenceClear_port hq h
  · rintro rfl
    exact fenceClear_all h
  · obtain ⟨s', hexec, hends, hmachenil, hclear, hlease⟩ := checkmateRunEnd_ends hf hrun hship hidle
    exact ⟨s', hexec, hends.others, hends.mem, hends.objs, hends.runs, hends.fails, hends.cycles, hends.run, hends.fenced, hends.lastFail,
      hends.lastPass, hends.plot, hmachenil, hclear, hlease⟩

end Sys2Proof.Machine
end

section
/-! PROOF. What keeps memories canonical: the reads and writes of the state, its cores and its Plots (09 R240; 10 R270). -/

namespace Sys2Proof.Machine
open Sys2Proof.Safety

/-! ### Cores -/

/-- The Plot of `d` is canonical where that of `c` is. -/
structure PlotCanon (c d : Core) : Prop where
  wf : Mem.wf c.plot.bytes = true → Mem.wf d.plot.bytes = true

theorem PlotCanon.refl (c : Core) : PlotCanon c c := ⟨id⟩

theorem PlotCanon.trans {c d e : Core} (h : PlotCanon c d) (g : PlotCanon d e) : PlotCanon c e := ⟨fun hc => g.wf (h.wf hc)⟩

/-- Transitivity, the later change first. -/
theorem PlotCanon.after {c d e : Core} (g : PlotCanon d e) (h : PlotCanon c d) : PlotCanon c e := h.trans g

theorem PlotCanon.ite {c d e : Core} {p : Prop} [Decidable p] (h : PlotCanon c d) (g : PlotCanon c e) : PlotCanon c (if p then d else e) := by
  split
  · exact h
  · exact g

theorem PlotCanon.foldl {α : Type} (f : Core → α → Core) (h : ∀ c a, PlotCanon c (f c a)) (xs : List α) (c : Core) : PlotCanon c (xs.foldl f c) :=
  List.foldlRecOn (motive := fun d : Core => PlotCanon c d) _ _ (.refl c) fun d hd a _ => hd.trans (h d a)

/-- A change that leaves the bytes of the Plot. -/
theorem PlotCanon.same {c d : Core} (h : d.plot.bytes = c.plot.bytes) : PlotCanon c d := ⟨fun hc => by rwa [h]⟩

/-- A last change that leaves the bytes of the Plot. -/
theorem PlotCanon.kept {c d e : Core} (h : PlotCanon c d) (hbytes : e.plot.bytes = d.plot.bytes) : PlotCanon c e := h.trans (.same hbytes)

theorem PlotCanon.write {c d : Core} (a : Nat) (l : List Byte) (h : d.plot.bytes = Mem.write c.plot.bytes a l) : PlotCanon c d :=
  ⟨fun hc => h ▸ Mem.wf_write a l hc⟩

theorem PlotCanon.set {c d : Core} (a : Nat) (v : Byte) (h : d.plot.bytes = Mem.set c.plot.bytes a v) : PlotCanon c d :=
  ⟨fun hc => h ▸ Mem.wf_set a v hc⟩

theorem PlotCanon.zero {c d : Core} (a n : Nat) (h : d.plot.bytes = Mem.zero c.plot.bytes a n) : PlotCanon c d :=
  ⟨fun hc => h ▸ Mem.wf_zero a n hc⟩

theorem PlotCanon.empty {c d : Core} (h : d.plot.bytes = []) : PlotCanon c d := ⟨fun _ => h ▸ rfl⟩

/-! ### States -/

/-- The tiers and the Plots of `t` are canonical where those of `s` are. -/
structure Canon (s t : State) : Prop where
  mem : Mem.wf s.mem = true → Mem.wf t.mem = true
  plots : (∀ n, Mem.wf (s.core n).plot.bytes = true) → ∀ n, Mem.wf (t.core n).plot.bytes = true

theorem Canon.refl (s : State) : Canon s s := ⟨id, id⟩

theorem Canon.trans {s t u : State} (h : Canon s t) (g : Canon t u) : Canon s u := ⟨fun hs => g.mem (h.mem hs), fun hs => g.plots (h.plots hs)⟩

/-- Transitivity, the later change first. -/
theorem Canon.after {s t u : State} (g : Canon t u) (h : Canon s t) : Canon s u := h.trans g

theorem Canon.ite {s t u : State} {c : Prop} [Decidable c] (h : Canon s t) (g : Canon s u) : Canon s (if c then t else u) := by
  split
  · exact h
  · exact g

theorem Canon.foldl {α : Type} (f : State → α → State) (h : ∀ s a, Canon s (f s a)) (xs : List α) (s : State) : Canon s (xs.foldl f s) :=
  List.foldlRecOn (motive := fun t : State => Canon s t) _ _ (.refl s) fun t ht a _ => ht.trans (h t a)

/-- A change that leaves the tiers and the cores. -/
theorem Canon.frame {s t : State} (hmem : t.mem = s.mem) (hcores : t.cores = s.cores) : Canon s t :=
  ⟨fun h => by rwa [hmem], fun h n => by rw [State.core_congr hcores]; exact h n⟩

/-- A last change that leaves the tiers and the cores. -/
theorem Canon.kept {s t u : State} (h : Canon s t) (hmem : u.mem = t.mem) (hcores : u.cores = t.cores) : Canon s u := h.trans (.frame hmem hcores)

theorem Canon.setTime (s : State) (t : Sundial) : Canon s { s with time := t } := .frame rfl rfl

theorem Canon.setPower (s : State) (p : Power) : Canon s { s with power := p } := .frame rfl rfl

theorem Canon.setEnergy (s : State) (e : Energy) : Canon s { s with energy := e } := .frame rfl rfl

theorem Canon.setEnergyPower (s : State) (e : Energy) (p : Power) : Canon s { s with energy := e, power := p } := .frame rfl rfl

theorem Canon.setPowerBoot (s : State) (p : Power) (b : Boot) : Canon s { s with power := p, boot := b } := .frame rfl rfl

theorem Canon.of_only {l : List Fld} {s t : State} (h : Only l s t) (hmem : Fld.mem ∉ l) (hcores : Fld.cores ∉ l) : Canon s t :=
  .frame (h.mem.resolve_left hmem) (h.cores.resolve_left hcores)

theorem Canon.of_tells {l : List Fld} {s t : State} (h : Tells l s t) (hmem : Fld.mem ∉ l) (hcores : Fld.cores ∉ l) : Canon s t :=
  .of_only h.only hmem hcores

/-- A change of the tiers that leaves the cores. -/
theorem Canon.setMem {s t : State} (hmem : Mem.wf s.mem = true → Mem.wf t.mem = true) (hcores : t.cores = s.cores) : Canon s t :=
  ⟨hmem, fun h n => by rw [State.core_congr hcores]; exact h n⟩

/-- A core put in its place, made of a core of an earlier state. -/
theorem Canon.putCore {s t u : State} {m n : Nat} {c : Core} (ht : Canon s t) (hu : Canon s u) (hc : PlotCanon (t.core m) c) :
    Canon s (u.setCore n c) where
  mem := hu.mem
  plots h k := by
    rw [State.core_setCore]
    split
    · exact hc.wf (ht.plots h m)
    · exact hu.plots h k

theorem Canon.setCore {s : State} {m n : Nat} {c : Core} (hc : PlotCanon (s.core m) c) : Canon s (s.setCore n c) := .putCore (.refl s) (.refl s) hc

theorem Canon.updCore {s : State} {n : Nat} {f : Core → Core} (hf : ∀ c, PlotCanon c (f c)) : Canon s (s.updCore n f) := .setCore (hf _)

/-- A change of every core. -/
theorem Canon.mapCores {s t : State} (f : Core → Core) (hf : ∀ c, PlotCanon c (f c)) (hmem : t.mem = s.mem)
    (hcores : t.cores = s.cores.map (fun r => (r.1, f r.2))) : Canon s t where
  mem h := by rwa [hmem]
  plots h n := by
    have hget : t.core n = ((Sparse.find s.cores n).map f).getD {} := by
      rw [← Sparse.find_map, ← hcores]
      rfl
    rw [hget]
    cases hfind : Sparse.find s.cores n with
    | none => rfl
    | some c =>
      have hcore : s.core n = c := by
        unfold State.core Sparse.getD
        rw [hfind]
        rfl
      exact (hf c).wf (hcore ▸ h n)

/-! ### Results that carry a state -/

theorem Canon.pair {α : Type} {s t : State} (a : α) (h : Canon s t) : Canon s (a, t).2 := h

theorem Canon.pairFst {α : Type} {s t : State} (a : α) (h : Canon s t) : Canon s (t, a).1 := h

theorem Canon.iteSnd {α : Type} {s : State} {x y : α × State} {c : Prop} [Decidable c] (h : Canon s x.2) (g : Canon s y.2) :
    Canon s (if c then x else y).2 := by
  split
  · exact h
  · exact g

theorem Canon.iteFst {α : Type} {s : State} {x y : State × α} {c : Prop} [Decidable c] (h : Canon s x.1) (g : Canon s y.1) :
    Canon s (if c then x else y).1 := by
  split
  · exact h
  · exact g

theorem Canon.foldl_snd {α β : Type} (f : α × State → β → α × State) (h : ∀ a s b, Canon s (f (a, s) b).2) (xs : List β) (a : α) (s : State) :
    Canon s (xs.foldl f (a, s)).2 :=
  List.foldlRecOn (motive := fun y : α × State => Canon s y.2) _ _ (.refl _) fun y hy b _ => hy.trans (h y.1 y.2 b)

theorem Canon.foldl_fst {α β : Type} (f : State × α → β → State × α) (h : ∀ s a b, Canon s (f (s, a) b).1) (xs : List β) (s : State) (a : α) :
    Canon s (xs.foldl f (s, a)).1 :=
  List.foldlRecOn (motive := fun y : State × α => Canon s y.1) _ _ (.refl _) fun y hy b _ => hy.trans (h y.1 y.2 b)

theorem Canon.foldl_snd_snd {α β γ : Type} (f : α × β × State → γ → α × β × State) (h : ∀ a b s d, Canon s (f (a, b, s) d).2.2) (xs : List γ)
    (a : α) (b : β) (s : State) : Canon s (xs.foldl f (a, b, s)).2.2 :=
  List.foldlRecOn (motive := fun y : α × β × State => Canon s y.2.2) _ _ (.refl _) fun y hy d _ => hy.trans (h y.1 y.2.1 y.2.2 d)

theorem PlotCanon.of_fst {α : Type} {c d : Core} {a : α} {x : Core × α} (h : PlotCanon c x.1) (hx : x = (d, a)) : PlotCanon c d := by
  rwa [hx] at h

theorem Canon.of_snd {α : Type} {s t : State} {a : α} {x : α × State} (h : Canon s x.2) (hx : x = (a, t)) : Canon s t := by
  rwa [hx] at h

theorem Canon.of_snd_snd {α β : Type} {s t : State} {a : α} {b : β} {x : α × β × State} (h : Canon s x.2.2) (hx : x = (a, b, t)) : Canon s t := by
  rwa [hx] at h

theorem Canon.of_fst {α : Type} {s t : State} {a : α} {x : State × α} (h : Canon s x.1) (hx : x = (t, a)) : Canon s t := by
  rwa [hx] at h

/-- The state of a result, where there is one, is canonical where `s` is. -/
structure CanonOpt {α : Type} (s : State) (x : Option (α × State)) : Prop where
  of : ∀ a t, x = some (a, t) → Canon s t

theorem CanonOpt.none {α : Type} (s : State) : CanonOpt s (none : Option (α × State)) := ⟨fun _ _ hx => absurd hx.symm (Option.some_ne_none _)⟩

theorem CanonOpt.some {α : Type} {s : State} {x : α × State} (h : Canon s x.2) : CanonOpt s (some x) := ⟨fun _ _ hx => h.of_snd (Option.some.inj hx)⟩

theorem CanonOpt.ite {α : Type} {s : State} {x y : Option (α × State)} {c : Prop} [Decidable c] (h : CanonOpt s x) (g : CanonOpt s y) :
    CanonOpt s (if c then x else y) := by
  split
  · exact h
  · exact g

theorem CanonOpt.after {α : Type} {s t : State} {x : Option (α × State)} (g : CanonOpt t x) (h : Canon s t) : CanonOpt s x :=
  ⟨fun a u hx => h.trans (g.of a u hx)⟩

/-- The first of two results that is one. -/
theorem CanonOpt.orElse {α : Type} {s : State} {x : Option (α × State)} {y : Unit → Option (α × State)} (h : CanonOpt s x) (g : CanonOpt s (y ())) :
    CanonOpt s (x.orElse y) := by
  cases x with
  | none => exact g
  | some r => exact h

theorem CanonOpt.getD {α : Type} {s : State} {x : Option (α × State)} {y : α × State} (h : CanonOpt s x) (g : Canon s y.2) : Canon s (x.getD y).2 := by
  cases x with
  | none => exact g
  | some r => exact h.of r.1 r.2 rfl

theorem Canon.of_opt {α : Type} {s t : State} {a : α} {x : Option (α × State)} (h : CanonOpt s x) (hx : x = some (a, t)) : Canon s t := h.of a t hx

/-- The state of a result that is no error is canonical where `s` is. -/
structure CanonExcept {ε : Type} (s : State) (x : Except ε State) : Prop where
  of : ∀ t, x = .ok t → Canon s t

theorem CanonExcept.ok {ε : Type} {s t : State} (h : Canon s t) : CanonExcept s (.ok t : Except ε State) := ⟨fun _ hx => Except.ok.inj hx ▸ h⟩

theorem CanonExcept.error {ε : Type} (s : State) (e : ε) : CanonExcept s (.error e) := ⟨fun _ hx => nomatch hx⟩

theorem CanonExcept.after {ε : Type} {s t : State} {x : Except ε State} (g : CanonExcept t x) (h : Canon s t) : CanonExcept s x :=
  ⟨fun u hx => h.trans (g.of u hx)⟩

theorem Canon.of_ok {ε : Type} {s t : State} {x : Except ε State} (h : CanonExcept s x) (hx : x = .ok t) : Canon s t := h.of t hx

/-- The state that an instruction answers with is canonical where `s` is. -/
structure CanonOut (s : State) (x : Host.Outcome State Fault Refusal) : Prop where
  of : ∀ t, x = .next t → Canon s t

theorem CanonOut.next {s t : State} (h : Canon s t) : CanonOut s (.next t) := ⟨fun _ hx => Host.Outcome.next.inj hx ▸ h⟩

theorem CanonOut.clocked {s : State} {f : State → State} (h : Canon s (f s)) : CanonOut s (s.clocked f) := .next (.ite h (.refl s))

end Sys2Proof.Machine
end

section
/-! PROOF. What keeps memories canonical: the shared operations, the Plot and the tiers (09 R240; 10 R270). -/

namespace Sys2Proof.Machine
open Sys2Proof.Safety

/-! ### Shared operations -/

theorem Canon.setPav (s : State) (p : ℕ) (v : Pav) : Canon s (s.setPav p v) := .frame rfl rfl

theorem Canon.setPort (s : State) (q : ℕ) (v : Port) : Canon s (s.setPort q v) := .frame rfl rfl

theorem Canon.setFn (s : State) (f : ℕ) (v : Fn) : Canon s (s.setFn f v) := .frame rfl rfl

theorem Canon.setReq (s : State) (k : ℕ) (v : ReqSt) : Canon s (s.setReq k v) := .frame rfl rfl

theorem Canon.setSess (s : State) (k : ℕ) (v : Session) : Canon s (s.setSess k v) := .frame rfl rfl

theorem Canon.setRail (s : State) (k : ℕ) (v : Rail) : Canon s (s.setRail k v) := .frame rfl rfl

theorem Canon.updPav (s : State) (p : ℕ) (f : Pav → Pav) : Canon s (s.updPav p f) := .setPav ..

theorem Canon.updPort (s : State) (q : ℕ) (f : Port → Port) : Canon s (s.updPort q f) := .setPort ..

theorem Canon.updFn (s : State) (f : ℕ) (g : Fn → Fn) : Canon s (s.updFn f g) := .setFn ..

theorem Canon.updReq (s : State) (k : ℕ) (f : ReqSt → ReqSt) : Canon s (s.updReq k f) := .setReq ..

theorem Canon.updRail (s : State) (k : ℕ) (f : Rail → Rail) : Canon s (s.updRail k f) := .setRail ..

theorem Canon.emit (s : State) (o : Out) : Canon s (s.emit o) := .frame rfl rfl

theorem Canon.draw (s : State) : Canon s (s.draw).2 := .pair _ (.frame rfl rfl)

theorem Canon.setObj (s : State) (i sub v : ℕ) : Canon s (s.setObj i sub v) := .frame rfl rfl

theorem Canon.tallyAdd (s : State) (id inst n : ℕ) : Canon s (s.tallyAdd id inst n) := .of_tells (s.tallyAdd_tells ..) (by decide) (by decide)

theorem Canon.tallyPav (s : State) (id : ℕ) (p : Option ℕ) (n : ℕ) : Canon s (s.tallyPav id p n) := by
  unfold State.tallyPav
  split
  · exact .tallyAdd ..
  · exact .frame rfl rfl

theorem Canon.tallyClearCore (s : State) (n : ℕ) : Canon s (s.tallyClearCore n) := by
  unfold State.tallyClearCore
  exact .frame rfl rfl

theorem Canon.tallyClearPav (s : State) (p : ℕ) : Canon s (s.tallyClearPav p) := by
  unfold State.tallyClearPav
  exact .frame rfl rfl

theorem Canon.sendMsix (s : State) (f v : ℕ) : Canon s (s.sendMsix f v) := by
  unfold State.sendMsix
  extract_lets x1
  exact .emit ..

theorem Canon.sendIrq (s : State) (f i : ℕ) : Canon s (s.sendIrq f i) := .of_tells (s.sendIrq_tells f i) (by decide) (by decide)

theorem Canon.raise (s : State) (f i : ℕ) : Canon s (s.raise f i) := .of_tells (s.raise_tells f i) (by decide) (by decide)

theorem Canon.raiseVf (s : State) (p i : ℕ) : Canon s (s.raiseVf p i) := .raise ..

theorem Canon.raiseCore (s : State) (n i : ℕ) : Canon s (s.raiseCore n i) := by
  unfold State.raiseCore
  split
  · exact .raiseVf ..
  · exact .refl _

theorem Canon.logRecS (s : State) (code unit sev : ℕ) (pav : Option ℕ) (detail : ℕ) (stepped : Bool) :
    Canon s (s.logRecS code unit sev pav detail stepped) := .of_only (s.logRecS_only ..) (by decide) (by decide)

theorem Canon.logRec (s : State) (code unit sev : ℕ) (pav : Option ℕ) (detail : ℕ) : Canon s (s.logRec code unit sev pav detail) := .logRecS ..

theorem Canon.logCoreS (s : State) (code n sev detail : ℕ) (stepped : Bool) : Canon s (s.logCoreS code n sev detail stepped) := by
  unfold State.logCoreS
  extract_lets c1 x1 x2 x3
  exact .ite (.frame rfl rfl) (.after (.logRecS ..) (.setCore (.same rfl)))

theorem Canon.logCore (s : State) (code n sev detail : ℕ) : Canon s (s.logCore code n sev detail) := .logCoreS ..

theorem Canon.syncChip (s : State) : Canon s (s.syncChip) := by
  unfold State.syncChip
  extract_lets x1 x2 s1
  have h1 : Canon s s1 := .frame rfl rfl
  exact .ite (.refl _) (.ite (.after (.raise ..) h1) h1)

theorem Canon.mark (s : State) (p k cls c : ℕ) : Canon s (s.mark p k cls c).2 := by
  unfold State.mark
  split
  exact .pair _ (.setPav ..)

theorem Canon.classOf (s : State) (p engine tier : ℕ) (core : Option ℕ) : Canon s (s.classOf p engine tier core).2 := by
  unfold State.classOf
  extract_lets x1 x2
  clear_value x2
  split
  · exact .pair _ (.refl _)
  · exact .pair _ (.refl _)
  · exact .pair _ (.tallyAdd ..)

theorem Canon.latchContract (s : State) (p : ℕ) : Canon s (s.latchContract p) := by
  unfold State.latchContract
  extract_lets x1
  exact .updPav ..

theorem Canon.elapse (s : State) (dt : ℕ) : Canon s (s.elapse dt) := .of_only (s.elapse_only dt) (by decide) (by decide)

theorem Canon.elapseTo (s : State) (t : ℕ) : Canon s (s.elapseTo t) := .of_only (s.elapseTo_only t) (by decide) (by decide)

theorem Canon.elapseNs (s : State) (t : ℕ) : Canon s (s.elapseNs t) := .of_only (s.elapseNs_only t) (by decide) (by decide)

theorem Canon.elapseCycles (s : State) (k : ℕ) : Canon s (s.elapseCycles k) := .of_only (s.elapseCycles_only k) (by decide) (by decide)

theorem Canon.disturbCal (s : State) : Canon s (s.disturbCal) := .ite (.frame rfl rfl) (.refl _)

theorem PlotCanon.setStrm (c : Core) (t : Strm) (v : StreamSt) : PlotCanon c (c.setStrm t v) := by
  unfold Core.setStrm
  split
  · exact .same rfl
  · exact .same rfl

theorem PlotCanon.setEng (c : Core) (e : Eng) (v : EngSt) : PlotCanon c (c.setEng e v) := by
  unfold Core.setEng
  split
  · exact .same rfl
  · exact .same rfl
  · exact .same rfl
  · exact .same rfl
  · exact .same rfl

theorem PlotCanon.setSreg (c : Core) (t : Strm) (r : ℕ) (v : Word) : PlotCanon c (c.setSreg t r v) := .ite (.refl _) (.same rfl)

theorem Canon.halt (s : State) (n reason mask : ℕ) : Canon s (s.halt n reason mask) := by
  unfold State.halt
  extract_lets c1 x1 x2 x3 x4 x5 x6 s1 s2
  have h1 : Canon s s1 := .setCore (.same rfl)
  have h2 : Canon s s2 := .ite h1 (.after (.tallyAdd ..) h1)
  exact .ite (.refl _) (.ite (.after (.tallyPav ..) h2) h2)

theorem Canon.haltEvent (s : State) (n reason mask : ℕ) (stepped : Bool) : Canon s (s.haltEvent n reason mask stepped) :=
  .ite (.after (.updCore fun _ => .same rfl) (.halt ..)) (.refl _)

theorem PlotCanon.disarm (c : Core) (mask : ℕ) : PlotCanon c (c.disarm mask) := .same rfl

theorem Canon.checkCntBps (s : State) (n : ℕ) : Canon s (s.checkCntBps n) := by
  unfold State.checkCntBps
  extract_lets c1 x1
  exact .ite (.refl _) (.ite (.refl _) (.after (.halt ..) (.setCore (.disarm ..))))

theorem Canon.binRow (s : State) (p cls at_ : ℕ) : Canon s (s.binRow p cls at_) := by
  unfold State.binRow
  extract_lets x1 x2 x3 x4 s1
  have h1 : Canon s s1 := .setPav ..
  refine .ite (.setPav ..) (.after (.foldl _ (fun t a => ?_) _ _) h1)
  extract_lets x5 s2
  have h2 : Canon t s2 := .updPav ..
  exact .ite (.ite (.after (.raiseVf ..) h2) h2) (.refl _)

theorem Canon.bsRelease (s : State) (k p : ℕ) : Canon s (State.bsRelease k p s) := by
  induction k generalizing s with
  | zero => exact .refl s
  | succ k ih =>
    unfold State.bsRelease
    split
    · exact .refl s
    · exact .after (ih _) (.after (.foldl _ (fun _ _ => .binRow ..) _ _) (.updPav ..))

theorem Canon.cntAdd (s : State) (n k amount : ℕ) : Canon s (s.cntAdd n k amount) := by
  unfold State.cntAdd
  extract_lets s1 s2
  have h1 : Canon s s1 := .updCore fun _ => .same rfl
  have h2 : Canon s s2 := by
    unfold s2
    split
    · exact .ite (.after (.bsRelease ..) (.after (.updPav ..) h1)) h1
    · exact h1
  exact .after (.checkCntBps ..) h2

theorem PlotCanon.stopFault (c : Core) : PlotCanon c (c.stopFault) := .same rfl

theorem Canon.coreFault (s : State) (n : ℕ) (t : Strm) (addr code : ℕ) : Canon s (s.coreFault n t addr code) := by
  unfold State.coreFault
  extract_lets c1 x1 c2 x2 s1 s2
  have hc2 : PlotCanon (s.core n) c2 := .stopFault ..
  have h1 : Canon s s1 := .setCore (.kept hc2 rfl)
  have h2 : Canon s s2 := .after (.logCore ..) h1
  exact .ite (.refl _) (.after (.raiseCore ..) h2)

theorem Canon.plotStop (s : State) (n : ℕ) : Canon s (s.plotStop n) := by
  unfold State.plotStop
  extract_lets c1 c2 x1 x2
  have hc2 : PlotCanon (s.core n) c2 := .stopFault ..
  exact .ite (.refl _) (.setCore (.kept hc2 rfl))

theorem Canon.plotDetect (s : State) (n addr kind : ℕ) : Canon s (s.plotDetect n addr kind) := by
  unfold State.plotDetect
  split
  extract_lets c1 x1 x2 s1 x3 x4 x5 s2 x6 s3 s4 s5
  have h1 : Canon s s1 := .setCore (.same rfl)
  have h2 : Canon s s2 := .setCore (.same rfl)
  have h3 : Canon s s3 := .kept h2 rfl rfl
  have h4 : Canon s s4 := .after (.tallyAdd ..) h3
  have h5 : Canon s s5 := .after (.logCore ..) h4
  exact .ite (.after (.plotStop ..) (.after (.tallyAdd ..) h1)) (.after (.plotStop ..) h5)

theorem Canon.memFault (s : State) (n cause : ℕ) (write : Bool) (va : ℕ) : Canon s (s.memFault n cause write va) := by
  unfold State.memFault
  extract_lets c1 x1 x2 x3 x4 c2 c3 s1 s2
  have hc2 : PlotCanon (s.core n) c2 := .same rfl
  have hc3 : PlotCanon (s.core n) c3 := .ite (.after (.stopFault ..) hc2) hc2
  have h1 : Canon s s1 := .setCore hc3
  have h2 : Canon s s2 := .after (.logCore ..) h1
  exact .ite (.refl _) (.after (.raiseCore ..) h2)

theorem Canon.fresh (s : State) : Canon s (s.fresh).2 := .pair _ (.frame rfl rfl)

/-! ### The Plot (09) -/

theorem PlotCanon.setCond (c : Core) (line : ℕ) (poison : Bool) : PlotCanon c (c.setCond line poison) := .same rfl

theorem PlotCanon.flipBit (c : Core) (line column : ℕ) : PlotCanon c (c.flipBit line column) := by
  unfold Core.flipBit
  extract_lets x1 x2 x3 c1 x4 x5
  have hc1 : PlotCanon c c1 := .ite (.set _ _ rfl) (.refl _)
  exact .kept hc1 rfl

theorem Canon.plotRead (s : State) (n a len : ℕ) : Canon s (s.plotRead n a len).2 := by
  unfold State.plotRead
  extract_lets c1 s1
  have h1 : Canon s s1 := by
    unfold s1
    refine .foldl _ (fun t b => ?_) _ _
    extract_lets x1
    exact .ite (.refl _) (.plotDetect ..)
  exact .pair _ h1

theorem PlotCanon.readHalf (c : Core) (line : ℕ) : PlotCanon c (c.readHalf line) := by
  unfold Core.readHalf
  split
  · exact .refl c
  · constructor
    dsimp only
    exact Mem.wf_write _ _

theorem PlotCanon.plotPut (c : Core) (a : ℕ) (d : List PByte) : PlotCanon c (c.plotPut a d) := by
  unfold Core.plotPut
  extract_lets x1 x2 c1 x3 c2
  have hc1 : PlotCanon c c1 := .foldl _ (fun _ _ => .ite (.readHalf ..) (.refl _)) _ _
  have hc2 : PlotCanon c c2 := .after (.write _ _ rfl) hc1
  exact .after (.foldl _ (fun _ _ => .setCond ..) _ _) hc2

theorem Canon.plotPut (s : State) (n a : ℕ) (d : List PByte) : Canon s (s.plotPut n a d) := by
  unfold State.plotPut
  extract_lets c1
  exact .after (.foldl _ (fun _ _ => .ite (.plotDetect ..) (.refl _)) _ _) (.setCore (.plotPut ..))

theorem Canon.plotWrite (s : State) (n a : ℕ) (d : List PByte) (aow : ℕ) : Canon s (s.plotWrite n a d aow) := by
  unfold State.plotWrite
  refine .ite (.plotPut ..) ?_
  extract_lets c1 x1 s1 c2 c3 x2
  have h1 : Canon s s1 := .foldl _ (fun _ _ => .ite (.plotDetect ..) (.refl _)) _ _
  have hc3 : PlotCanon (s1.core n) c3 := .foldl _ (fun _ _ => .readHalf ..) _ _
  split
  extract_lets x3 c4 s2
  have hc4 : PlotCanon (s1.core n) c4 := .after (.write _ _ rfl) hc3
  have h2 : Canon s s2 := .after (.setCore (.after (.foldl _ (fun _ _ => .setCond ..) _ _) hc4)) h1
  exact .ite h2 (.after (.tallyAdd ..) h2)

theorem PlotCanon.setTag (c : Core) (slot : ℕ) (full : Bool) : PlotCanon c (c.setTag slot full) := .same rfl

theorem Canon.fillTags (s : State) (n a len : ℕ) : Canon s (s.fillTags n a len) :=
  .updCore fun _ => .foldl _ (fun _ _ => .ite (.setTag ..) (.refl _)) _ _

theorem Canon.consumeTags (s : State) (n a len : ℕ) : Canon s (s.consumeTags n a len) :=
  .updCore fun _ => .foldl _ (fun _ _ => .ite (.setTag ..) (.refl _)) _ _

theorem Canon.multiWin (s : State) (n : ℕ) (rs : List (ℕ × ℕ)) : Canon s (s.multiWin n rs) := .ite (.tallyPav ..) (.refl _)

theorem Canon.arrive (s : State) (n a : ℕ) (d : List PByte) (aow : ℕ) (cnt : Option ℕ) : Canon s (s.arrive n a d aow cnt) := by
  unfold State.arrive
  extract_lets s1
  have h1 : Canon s s1 := .after (.fillTags ..) (.plotWrite ..)
  split
  · exact .after (.cntAdd ..) h1
  · exact h1

theorem PlotCanon.scrub (c : Core) : PlotCanon c c.scrub := .empty rfl

theorem PlotCanon.scrubOrWait (c : Core) : PlotCanon c (c.scrubOrWait) := .ite (.scrub ..) (.same rfl)

/-! ### The tiers (10) -/

theorem Canon.memUpset (s : State) (u : MemUpset) : Canon s (s.memUpset u) := by
  cases u with
  | burst b c => exact .ite (.refl s) (.frame rfl rfl)
  | byte a k =>
    dsimp only [State.memUpset]
    split
    · exact .setMem (Mem.wf_set _ _) rfl
    · exact .refl s
  | code blk k =>
    dsimp only [State.memUpset]
    split
    · exact .frame rfl rfl
    · exact .refl s
  | line far la => exact .frame rfl rfl

theorem Canon.burstCheck (s : State) (b : ℕ) : Canon s (s.burstCheck b) := by
  unfold State.burstCheck
  extract_lets x1
  split
  · exact .tallyAdd ..
  · exact .after (.logRec ..) (.tallyAdd ..)
  · exact .refl _

theorem Canon.pipCheck (s : State) (blk finder : ℕ) : Canon s (s.pipCheck blk finder).2 := by
  unfold State.pipCheck
  split
  · exact .pair _ (.tallyAdd ..)
  · extract_lets x1 s1
    have h1 : Canon s s1 := .frame rfl rfl
    exact .pair _ (.after (.logRec ..) (.after (.tallyAdd ..) h1))
  · exact .pair _ (.refl _)

theorem Canon.burstWrite (s : State) (pa : ℕ) (d : List PByte) (b : ℕ) : Canon s (s.burstWrite pa d b) := by
  unfold State.burstWrite
  extract_lets x1 x2 x3 x4 x5 s1 x6 x7
  have h1 : Canon s s1 := .ite (.refl _) (.burstCheck ..)
  exact .kept h1 rfl rfl

theorem Canon.memPut (s : State) (pa : ℕ) (d : List PByte) : Canon s (s.memPut pa d) := by
  unfold State.memPut
  extract_lets s1 blk c
  have h1 : Canon s s1 := .foldl _ (fun _ _ => .burstWrite ..) _ _
  exact h1.trans (.setMem (Mem.wf_write _ _) rfl)

theorem Canon.writeBack (s : State) (l : OLine) : Canon s (s.writeBack l) := .foldl _ (fun _ _ => .memPut ..) _ _

theorem Canon.dropDetected (s : State) (l : OLine) (far : Bool) : Canon s (s.dropDetected l far).2 := by
  unfold State.dropDetected
  extract_lets s1 x1
  have h1 : Canon s s1 := .ite (.tallyAdd ..) (.after (.logRec ..) (.writeBack ..))
  exact .pair _ (.kept h1 rfl rfl)

theorem Canon.farOut (s : State) (l : OLine) : Canon s (s.farOut l) := by
  unfold State.farOut
  refine .ite (.dropDetected ..) ?_
  extract_lets s1 x1
  have h1 : Canon s s1 := .writeBack ..
  exact .kept h1 rfl rfl

theorem Canon.memRead (s : State) (pa len : ℕ) : Canon s (s.memRead pa len).2 := by
  unfold State.memRead
  extract_lets x1 s1 x2 s2
  have h1 : Canon s s1 := .foldl _ (fun _ _ => .dropDetected ..) _ _
  have h2 : Canon s s2 := .after (.foldl _ (fun _ _ => .ite (.refl _) (.burstCheck ..)) _ _) h1
  refine .iteSnd ?_ (.pair _ (.after (.foldl _ (fun _ _ => .dropDetected ..) _ _) h2))
  split
  next s3 hx1 =>
    have h3 : Canon s s3 := .of_snd (.after (.pipCheck ..) h2) hx1
    exact .pair _ (.after (.foldl _ (fun _ _ => .dropDetected ..) _ _) h3)

theorem Canon.memWrite (s : State) (pa : ℕ) (d : List PByte) : Canon s (s.memWrite pa d) := by
  unfold State.memWrite
  extract_lets s1 x1
  have h1 : Canon s s1 := .memPut ..
  exact .kept h1 rfl rfl

theorem Canon.allocNear (s : State) (p la : ℕ) (d : List PByte) : Canon s (s.allocNear p la d) := by
  unfold State.allocNear
  extract_lets x1 x2
  split
  · exact .refl _
  · extract_lets x3 x4
    exact .frame rfl rfl

theorem Canon.allocFar (s : State) (p la mask dirty : ℕ) (d : List PByte) : Canon s (s.allocFar p la mask dirty d).2 := by
  unfold State.allocFar
  extract_lets x1
  split
  · exact .pair _ (.refl _)
  · extract_lets s1 x2 x3
    have h1 : Canon s s1 := by
      unfold s1
      split
      · exact .farOut ..
      · exact .refl _
    exact .pair _ (.kept h1 rfl rfl)

theorem Canon.touchNear (s : State) (l : OLine) : Canon s (s.touchNear l) := .frame rfl rfl

theorem Canon.orgFill (s : State) (p la : ℕ) (near far : Bool) : Canon s (s.orgFill p la near far).2 := by
  unfold State.orgFill
  extract_lets x1 x2 x3
  split
  next s1 hx1 =>
    have h1 : Canon s s1 := .of_snd (.memRead ..) hx1
    extract_lets x4 s2
    have h2 : Canon s s2 := by
      unfold s2
      refine .ite ?_ h1
      split
      · extract_lets x5
        exact .kept h1 rfl rfl
      · exact .ite h1 (.after (.allocFar ..) h1)
    exact .pair _ (.ite (.after (.allocNear ..) h2) h2)

theorem Canon.orgRead (s : State) (p pa len : ℕ) : Canon s (s.orgRead p pa len).2 := by
  unfold State.orgRead
  extract_lets x1
  split
  · refine .iteSnd ?_ (.pair _ (.touchNear ..))
    split
    next s1 hx1 =>
      have h1 : Canon s s1 := .of_snd (.dropDetected ..) hx1
      split
      next s2 hx2 =>
        have h2 : Canon s s2 := .of_snd (.after (.orgFill ..) h1) hx2
        exact .pair _ h2
  · split
    · refine .iteSnd ?_ ?_
      · extract_lets x2
        split
        next s1 hx1 =>
          have h1 : Canon s s1 := .of_snd (.dropDetected ..) hx1
          refine .iteSnd ?_ (.pair _ h1)
          split
          next s2 hx2 =>
            have h2 : Canon s s2 := .of_snd (.after (.orgFill ..) h1) hx2
            exact .pair _ h2
      · split
        next s1 hx1 =>
          have h1 : Canon s s1 := .of_snd (.orgFill ..) hx1
          exact .pair _ h1
    · split
      next s1 hx1 =>
        have h1 : Canon s s1 := .of_snd (.orgFill ..) hx1
        exact .pair _ h1

theorem Canon.orgWrite (s : State) (p pa : ℕ) (d : List PByte) : Canon s (s.orgWrite p pa d) := by
  unfold State.orgWrite
  extract_lets x1 x2 x3 s1 x4 x5
  have h1 : Canon s s1 := by
    unfold s1
    split
    · exact .frame rfl rfl
    · exact .refl _
  refine .ite ?_ (.after (.memPut ..) h1)
  split
  · extract_lets x6
    exact .kept h1 rfl rfl
  · split
    next s2 hx1 =>
      have h2 : Canon s s2 := .of_snd (.after (.allocFar ..) h1) hx1
      exact .ite h2 (.after (.memWrite ..) h1)

theorem Canon.orgFlush (s : State) (p la : ℕ) : Canon s (s.orgFlush p la) := by
  unfold State.orgFlush
  split
  · refine .ite (.dropDetected ..) ?_
    extract_lets s1 x1
    have h1 : Canon s s1 := .writeBack ..
    exact .kept h1 rfl rfl
  · exact .refl _

theorem Canon.orgInv (s : State) (p la : ℕ) (near far : Bool) : Canon s (s.orgInv p la near far) := by
  unfold State.orgInv
  extract_lets s1 x1 s2 x2
  have h1 : Canon s s1 := .orgFlush ..
  have h2 : Canon s s2 := .ite (.kept h1 rfl rfl) h1
  exact .ite (.kept h2 rfl rfl) h2

theorem Canon.orgDrop (s : State) (p lo len : ℕ) (back : Bool) : Canon s (s.orgDrop p lo len back) := by
  unfold State.orgDrop
  extract_lets x1 s1 x2
  have h1 : Canon s s1 := .ite (.foldl _ (fun _ _ => .farOut ..) _ _) (.refl _)
  exact .kept h1 rfl rfl

theorem Canon.translate (s : State) (n va : ℕ) (write : Bool) : Canon s (s.translate n va write).2 := by
  unfold State.translate
  split
  · exact .pair _ (.refl _)
  · extract_lets s1
    have h1 : Canon s s1 := .ite (.refl _) (.tallyPav ..)
    exact .pair _ h1

theorem Canon.walkRead (s : State) (p pa : ℕ) (core : Option ℕ) : Canon s (s.walkRead p pa core).2 := by
  unfold State.walkRead
  refine .iteSnd ?_ (.pair _ (.refl _))
  extract_lets s1
  have h1 : Canon s s1 := by
    unfold s1
    split
    · split
      next s2 hx1 =>
        have h2 : Canon s s2 := .of_snd (.classOf ..) hx1
        exact .after (.mark ..) h2
    · exact .refl _
  split
  next s2 hx1 =>
    have h2 : Canon s s2 := .of_snd (.after (.memRead ..) h1) hx1
    exact .pair _ h2

theorem Canon.walk (s : State) (p va : ℕ) (core : Option ℕ) : Canon s (s.walk p va core).2 := by
  unfold State.walk
  extract_lets x1 x2
  split
  · next s1 hx1 =>
      have h1 : Canon s s1 := .of_snd (.walkRead ..) hx1
      exact .pair _ h1
  · next s1 hx1 =>
      have h1 : Canon s s1 := .of_snd (.walkRead ..) hx1
      exact .pair _ h1
  · next s1 hx1 =>
      have h1 : Canon s s1 := .of_snd (.walkRead ..) hx1
      refine .iteSnd (.pair _ h1) (.iteSnd ?_ (.iteSnd (.pair _ h1) ?_))
      · split
        · exact .pair _ h1
        · exact .pair _ h1
      · split
        · next s2 hx2 =>
            have h2 : Canon s s2 := .of_snd (.after (.walkRead ..) h1) hx2
            exact .pair _ h2
        · next s2 hx2 =>
            have h2 : Canon s s2 := .of_snd (.after (.walkRead ..) h1) hx2
            exact .pair _ h2
        · next s2 hx2 =>
            have h2 : Canon s s2 := .of_snd (.after (.walkRead ..) h1) hx2
            refine .iteSnd (.pair _ h2) ?_
            split
            · exact .pair _ h2
            · exact .pair _ h2

theorem Canon.unitAddr (s : State) (p va len : ℕ) (write : Bool) : Canon s (s.unitAddr p va len write).2 := by
  unfold State.unitAddr
  split
  · next s1 hx1 =>
      have h1 : Canon s s1 := .of_snd (.walk ..) hx1
      exact .pair _ h1
  · next s1 hx1 =>
      have h1 : Canon s s1 := .of_snd (.walk ..) hx1
      refine .iteSnd (.pair _ h1) ?_
      extract_lets x1 x2
      exact .pair _ h1

theorem Canon.unitMark (s : State) (p unit r pa len : ℕ) : Canon s (s.unitMark p unit r pa len) := by
  unfold State.unitMark
  split
  next s1 hx1 =>
    have h1 : Canon s s1 := .of_snd (.iteSnd (.classOf ..) (.pair _ (.refl _))) hx1
    exact .after (.mark ..) h1

theorem Canon.unitHost (s : State) (p unit pa len : ℕ) : Canon s (s.unitHost p unit pa len).2 := by
  unfold State.unitHost
  split
  · exact .pair _ (.refl _)
  · refine .iteSnd (.pair _ (.refl _)) ?_
    extract_lets s1
    have h1 : Canon s s1 := .unitMark ..
    split
    next s2 hx1 =>
      have h2 : Canon s s2 := .of_snd (.after (.fresh ..) h1) hx1
      extract_lets s3 x1
      have h3 : Canon s s3 := .after (.emit ..) h2
      exact .pair _ (.kept h3 rfl rfl)

theorem Canon.unitPhys (s : State) (p unit pa len : ℕ) (oc : Bool) : Canon s (s.unitPhys p unit pa len oc).2 := by
  unfold State.unitPhys
  refine .iteSnd (.unitHost ..) ?_
  extract_lets x1
  split
  next s1 hx1 =>
    have h1 : Canon s s1 := by
      refine .of_snd (.iteSnd (.foldl_snd _ (fun a t b => ?_) _ _ _) (.after (.memRead ..) (.unitMark ..))) hx1
      extract_lets x2 s2 s3
      have h2 : Canon t s2 := .after (.unitMark ..) (.pair _ (.refl _))
      have h3 : Canon t s3 := .ite h2 (.after (.unitMark ..) h2)
      split
      next s4 hx2 =>
        have h4 : Canon t s4 := .of_snd (.after (.orgRead ..) h3) hx2
        exact .pair _ h4
    exact .pair _ h1

theorem Canon.unitRead (s : State) (p va len unit : ℕ) : Canon s (s.unitRead p va len unit).2 := by
  unfold State.unitRead
  refine .foldl_snd _ (fun a t b => ?_) _ _ _
  split
  · exact .pair _ (.pair _ (.refl _))
  · split
    · next s1 hx1 =>
        have h1 : Canon t s1 := .of_snd (.after (.unitAddr ..) (.pair _ (.refl _))) hx1
        exact .pair _ h1
    · next s1 hx1 =>
        have h1 : Canon t s1 := .of_snd (.after (.unitAddr ..) (.pair _ (.refl _))) hx1
        split
        next s2 hx2 =>
          have h2 : Canon t s2 := .of_snd (.after (.unitPhys ..) h1) hx2
          exact .pair _ h2

theorem Canon.unitEnd (s : State) (p unit : ℕ) : Canon s (s.unitEnd p unit) := .frame rfl rfl

theorem Canon.physWrite (s : State) (pa : ℕ) (d : List PByte) : Canon s (s.physWrite pa d) := by
  unfold State.physWrite
  refine .foldl _ (fun t a => ?_) _ _
  split
  exact .memWrite ..

theorem Canon.physRead (s : State) (pa len : ℕ) : Canon s (s.physRead pa len).2 := by
  unfold State.physRead
  refine .foldl_snd _ (fun a t b => ?_) _ _ _
  split
  next s1 hx1 =>
    have h1 : Canon t s1 := .of_snd (.after (.memRead ..) (.pair _ (.refl _))) hx1
    exact .pair _ h1

end Sys2Proof.Machine
end

section
/-! PROOF. What keeps memories canonical: issue, control commands and the Mover (09 R240; 10 R270). -/

namespace Sys2Proof.Machine
open Sys2Proof.Safety

/-! ### Issue (04) -/

theorem Canon.discard (s : State) (n : ℕ) (t : Strm) (addr : ℕ) : Canon s (s.discard n t addr) := by
  unfold State.discard
  extract_lets x1 x2 s1
  have h1 : Canon s s1 := .updCore fun _ => .setStrm ..
  exact .ite h1 (.after (.tallyAdd ..) h1)

theorem Canon.wordDone (s : State) (n : ℕ) (t : Strm) : Canon s (s.wordDone n t) := by
  unfold State.wordDone
  extract_lets c1 x1 c2 s1
  have hc2 : PlotCanon (s.core n) c2 := .setStrm ..
  have h1 : Canon s s1 := .setCore hc2
  exact .ite (.after (.halt ..) h1) h1

theorem Canon.setWait (s : State) (n : ℕ) (t : Strm) (w : Wait) : Canon s (s.setWait n t w) := .updCore fun _ => .setStrm ..

theorem Canon.endWait (s : State) (n : ℕ) (t : Strm) : Canon s (s.endWait n t) := .after (.wordDone ..) (.setWait ..)

theorem Canon.setFlags (s : State) (n : ℕ) (t : Strm) (f : Flags → Flags) : Canon s (s.setFlags n t f) := .updCore fun _ => .setStrm ..

theorem Canon.trace (s : State) (n : ℕ) (t : Strm) (d : Dec) (stall : ℕ) : Canon s (s.trace n t d stall) := by
  unfold State.trace
  extract_lets c1 x1 x2 x3
  exact .ite (.setCore (.same rfl)) (.refl _)

theorem Canon.issued (s : State) (n : ℕ) (t : Strm) (d : Dec) (ext : ℕ) : Canon s (s.issued n t d ext) := by
  unfold State.issued
  extract_lets x1 s1 s2
  have h1 : Canon s s1 := .trace ..
  have h2 : Canon s s2 := .after (.updCore fun _ => .setStrm ..) h1
  exact .after (.tallyAdd ..) h2

theorem Canon.stall (s : State) (n : ℕ) (t : Strm) (why : StallWhy) : Canon s (s.stall n t why) := by
  unfold State.stall
  extract_lets x1
  exact .updCore fun _ => .setStrm ..

theorem Canon.issueWith (s : State) (n : ℕ) (t : Strm) (ok : ℕ → Bool) (run : State → Dec → ℕ → State) (hrun : ∀ s d k, Canon s (run s d k)) :
    Canon s (s.issueWith n t ok run) := by
  unfold State.issueWith
  extract_lets c st hit
  split
  · exact .coreFault ..
  · exact .after (.plotDetect ..) (.setCore (.setStrm ..))
  · extract_lets s1 code
    have h1 : Canon s s1 := .setCore (.setStrm ..)
    exact .ite (.refl s) (.ite (.halt ..) (.ite (.after (.coreFault ..) h1) (h1.trans (hrun ..))))

theorem Canon.issue (s : State) (n : ℕ) (t : Strm) (op : ℕ) (run : State → Dec → ℕ → State) (hrun : ∀ s d k, Canon s (run s d k)) :
    Canon s (s.issue n t op run) := .ite (.issueWith _ _ _ _ _ hrun) (.refl s)

theorem Canon.issueLong (s : State) (n : ℕ) (t : Strm) (d : Dec) (ext : ℕ) : Canon s (s.issueLong n t d ext) := by
  unfold State.issueLong
  extract_lets c1 x1 x2 x3 x4 x5 x6 x7
  split
  · exact .refl _
  · refine .ite (.coreFault ..) (.ite (.stall ..) ?_)
    split
    · exact .plotDetect ..
    · refine .ite (.coreFault ..) (.ite (.coreFault ..) (.ite (.coreFault ..) (.ite (.coreFault ..) (.ite (.stall ..) ?_))))
      split
      next s1 hx1 =>
        have h1 : Canon s s1 := .of_snd (.fresh ..) hx1
        extract_lets x8 s2 s3 s4
        have h2 : Canon s s2 := .after (.issued ..) h1
        have h3 : Canon s s3 := .after (.multiWin ..) h2
        have h4 : Canon s s4 := .after (.updCore fun _ => .setEng ..) h3
        exact .after (.wordDone ..) h4

theorem Canon.issueControl (s : State) (n : ℕ) (t : Strm) (d : Dec) (ext : ℕ) (run : State → State) (hrun : ∀ s, Canon s (run s)) :
    Canon s (s.issueControl n t d ext run) :=
  .ite (.coreFault ..) (.ite (.coreFault ..) (.after (hrun _) (.issued ..)))

theorem execMove_canon (s : State) (c : CoreIx) (t : Strm) : CanonOut s (execMove c t s) := .next (.issue _ _ _ _ _ fun _ _ _ => .issueLong ..)

theorem execGather_canon (s : State) (c : CoreIx) (t : Strm) : CanonOut s (execGather c t s) := .next (.issue _ _ _ _ _ fun _ _ _ => .issueLong ..)

theorem execScatter_canon (s : State) (c : CoreIx) (t : Strm) : CanonOut s (execScatter c t s) := .next (.issue _ _ _ _ _ fun _ _ _ => .issueLong ..)

theorem execSignal_canon (s : State) (c : CoreIx) (t : Strm) : CanonOut s (execSignal c t s) := .next (.issue _ _ _ _ _ fun _ _ _ => .issueLong ..)

theorem execOprefetch_canon (s : State) (c : CoreIx) (t : Strm) : CanonOut s (execOprefetch c t s) :=
  .next (.issue _ _ _ _ _ fun _ _ _ => .issueLong ..)

theorem execOflush_canon (s : State) (c : CoreIx) (t : Strm) : CanonOut s (execOflush c t s) := .next (.issue _ _ _ _ _ fun _ _ _ => .issueLong ..)

theorem execOinv_canon (s : State) (c : CoreIx) (t : Strm) : CanonOut s (execOinv c t s) := .next (.issue _ _ _ _ _ fun _ _ _ => .issueLong ..)

theorem execSnap_canon (s : State) (c : CoreIx) (t : Strm) : CanonOut s (execSnap c t s) := .next (.issue _ _ _ _ _ fun _ _ _ => .issueLong ..)

theorem execRoute_canon (s : State) (c : CoreIx) (t : Strm) : CanonOut s (execRoute c t s) := .next (.issue _ _ _ _ _ fun _ _ _ => .issueLong ..)

theorem execCollect_canon (s : State) (c : CoreIx) (t : Strm) : CanonOut s (execCollect c t s) := .next (.issue _ _ _ _ _ fun _ _ _ => .issueLong ..)

theorem execLoadw_canon (s : State) (c : CoreIx) (t : Strm) : CanonOut s (execLoadw c t s) := .next (.issue _ _ _ _ _ fun _ _ _ => .issueLong ..)

theorem execMatmul_canon (s : State) (c : CoreIx) (t : Strm) : CanonOut s (execMatmul c t s) := .next (.issue _ _ _ _ _ fun _ _ _ => .issueLong ..)

theorem execConv_canon (s : State) (c : CoreIx) (t : Strm) : CanonOut s (execConv c t s) := .next (.issue _ _ _ _ _ fun _ _ _ => .issueLong ..)

theorem execVecop_canon (s : State) (c : CoreIx) (t : Strm) : CanonOut s (execVecop c t s) := .next (.issue _ _ _ _ _ fun _ _ _ => .issueLong ..)

theorem execReduce_canon (s : State) (c : CoreIx) (t : Strm) : CanonOut s (execReduce c t s) := .next (.issue _ _ _ _ _ fun _ _ _ => .issueLong ..)

theorem execIssueResume_canon (s : State) (c : CoreIx) (t : Strm) : CanonOut s (execIssueResume c t s) :=
  .clocked (.ite (.issueWith _ _ _ _ _ fun _ _ _ => .issueLong ..) (.refl _))

/-! ### Control commands (04) -/

theorem Canon.control (s : State) (n : ℕ) (t : Strm) (d : Dec) (ext : ℕ) (f : State → State) (hf : ∀ s, Canon s (f s)) :
    Canon s (s.control n t d ext f) := .issueControl _ _ _ _ _ _ fun _ => .after (.wordDone ..) (hf _)

theorem Canon.jump (s : State) (n : ℕ) (t : Strm) (from_ target : ℕ) : Canon s (s.jump n t from_ target) :=
  .after (.updCore fun _ => .setStrm ..) (.discard ..)

theorem execBranch_canon (s : State) (c : CoreIx) (t : Strm) : CanonOut s (execBranch c t s) := by
  unfold execBranch
  refine .next (.issue _ _ _ _ _ fun u d ext => .control _ _ _ _ _ _ fun u => ?_)
  extract_lets c1
  exact .ite (.jump ..) (.refl _)

theorem execLoop_canon (s : State) (c : CoreIx) (t : Strm) : CanonOut s (execLoop c t s) := by
  unfold execLoop
  refine .next (.issue _ _ _ _ _ fun u d ext => .control _ _ _ _ _ _ fun u => ?_)
  extract_lets x1 s1
  have h1 : Canon u s1 := .updCore fun _ => .setSreg ..
  exact .ite h1 (.after (.jump ..) h1)

theorem execWaitcnt_canon (s : State) (c : CoreIx) (t : Strm) : CanonOut s (execWaitcnt c t s) := by
  unfold execWaitcnt
  refine .next (.issue _ _ _ _ _ fun u d ext => .control _ _ _ _ _ _ fun u => ?_)
  extract_lets x1 x2
  exact .ite (.setFlags ..) (.setWait ..)

theorem execWaitcntSatisfied_canon (s : State) (c : CoreIx) (t : Strm) : CanonOut s (execWaitcntSatisfied c t s) := by
  unfold execWaitcntSatisfied
  refine .clocked ?_
  split
  · exact .ite (.after (.endWait ..) (.setFlags ..)) (.refl _)
  · exact .refl _

theorem execWaitcntTimeout_canon (s : State) (c : CoreIx) (t : Strm) : CanonOut s (execWaitcntTimeout c t s) := by
  unfold execWaitcntTimeout
  refine .clocked ?_
  split
  · exact .ite (.after (.endWait ..) (.after (.setFlags ..) (.elapseTo ..))) (.refl _)
  · exact .refl _

theorem execSetcnt_canon (s : State) (c : CoreIx) (t : Strm) : CanonOut s (execSetcnt c t s) := by
  unfold execSetcnt
  refine .next (.issue _ _ _ _ _ fun u d ext => .control _ _ _ _ _ _ fun u => ?_)
  extract_lets x1 x2
  exact .after (.checkCntBps ..) (.updCore fun _ => .same rfl)

theorem execWaittime_canon (s : State) (c : CoreIx) (t : Strm) : CanonOut s (execWaittime c t s) := by
  unfold execWaittime
  refine .next (.issue _ _ _ _ _ fun u d ext => .control _ _ _ _ _ _ fun u => ?_)
  extract_lets x1 x2 x3 s1
  have h1 : Canon u s1 := .updCore fun _ => .setStrm ..
  exact .ite (.after (.setFlags ..) h1) (.after (.setWait ..) h1)

theorem execWaittimeCompletion_canon (s : State) (c : CoreIx) (t : Strm) : CanonOut s (execWaittimeCompletion c t s) := by
  unfold execWaittimeCompletion
  refine .clocked ?_
  split
  · refine .ite ?_ (.refl _)
    extract_lets s1
    have h1 : Canon s s1 := .elapseTo ..
    exact .after (.endWait ..) (.after (.setFlags ..) h1)
  · exact .refl _

theorem PlotCanon.openStep (c : Core) (n : Word) : PlotCanon c (c.openStep n) := by
  unfold Core.openStep
  extract_lets x1 x2 x3 x4 x5 x6 x7
  exact .same rfl

theorem Canon.tryStep (s : State) (n : ℕ) : Canon s (s.tryStep n) := by
  unfold State.tryStep
  extract_lets c1
  split
  · refine .ite ?_ (.refl _)
    extract_lets c2 x1 s1 s2 s3
    have hc2 : PlotCanon (s.core n) c2 := .openStep ..
    have h1 : Canon s s1 := .setCore (.after (.disarm ..) hc2)
    have h2 : Canon s s2 := .ite h1 (.after (.halt ..) h1)
    have h3 : Canon s s3 := .after (.wordDone ..) h2
    exact .ite (.after (.wordDone ..) h3) h3
  · exact .refl _

theorem execStep_canon (s : State) (c : CoreIx) (t : Strm) : CanonOut s (execStep c t s) := by
  unfold execStep
  refine .next (.issue _ _ _ _ _ fun u d ext => ?_)
  extract_lets x1 x2
  split
  · exact .ite (.coreFault ..) (.control _ _ _ _ _ _ fun _ => .after (.tryStep ..) (.setWait ..))
  · exact .control _ _ _ _ _ _ fun _ => .after (.tryStep ..) (.setWait ..)

theorem execStepDrainComplete_canon (s : State) (c : CoreIx) : CanonOut s (execStepDrainComplete c s) := .clocked (.tryStep ..)

theorem execFence_canon (s : State) (c : CoreIx) (t : Strm) : CanonOut s (execFence c t s) :=
  .next (.issue _ _ _ _ _ fun _ _ _ => .control _ _ _ _ _ _ fun _ => .ite (.refl _) (.setWait ..))

theorem execFenceComplete_canon (s : State) (c : CoreIx) (t : Strm) : CanonOut s (execFenceComplete c t s) := by
  unfold execFenceComplete
  refine .clocked ?_
  extract_lets c1
  exact .ite (.endWait ..) (.refl _)

theorem execMapinv_canon (s : State) (c : CoreIx) (t : Strm) : CanonOut s (execMapinv c t s) :=
  .next (.issue _ _ _ _ _ fun _ _ _ => .control _ _ _ _ _ _ fun _ => .setWait ..)

theorem execMapinvComplete_canon (s : State) (c : CoreIx) (t : Strm) : CanonOut s (execMapinvComplete c t s) := by
  unfold execMapinvComplete
  refine .clocked ?_
  split
  · refine .ite ?_ (.refl _)
    extract_lets x1 s1
    have h1 : Canon s s1 := by
      unfold s1
      refine .foldl _ (fun u a => ?_) _ _
      exact .updCore fun _ => .same rfl
    exact .after (.endWait ..) h1
  · exact .refl _

theorem execBrk_canon (s : State) (c : CoreIx) (t : Strm) : CanonOut s (execBrk c t s) := by
  unfold execBrk
  refine .next (.issue _ _ _ _ _ fun u d ext => .control _ _ _ _ _ _ fun u => ?_)
  split
  · exact .halt ..
  · extract_lets x1
    exact .after (.checkCntBps ..) (.updCore fun _ => .same rfl)
  · exact .updCore fun _ => .disarm ..

theorem execTimeBreakpointMatch_canon (s : State) (c : CoreIx) : CanonOut s (execTimeBreakpointMatch c s) := by
  unfold execTimeBreakpointMatch
  refine .clocked ?_
  split
  · exact .refl _
  · refine .ite ?_ (.refl _)
    extract_lets s1 x1
    have h1 : Canon s s1 := .elapseTo ..
    exact .after (.haltEvent ..) (.after (.setCore (.disarm ..)) h1)

theorem PlotCanon.region (c : Core) (w : ℕ) (enable full tagged : Bool) (base size : ℕ) :
    PlotCanon c (c.region w enable full tagged base size) :=
  .ite (.ite (.after (.foldl _ (fun _ _ => .setTag ..) _ _) (.same rfl)) (.same rfl)) (.same rfl)

theorem execRegion_canon (s : State) (c : CoreIx) (t : Strm) : CanonOut s (execRegion c t s) := by
  unfold execRegion
  refine .next (.issue _ _ _ _ _ fun u d ext => .control _ _ _ _ _ _ fun u => ?_)
  extract_lets x1 x2 x3 x4
  exact .ite (.setWait ..) (.updCore fun _ => .region ..)

theorem execRegionEffect_canon (s : State) (c : CoreIx) (t : Strm) : CanonOut s (execRegionEffect c t s) := by
  unfold execRegionEffect
  refine .clocked ?_
  split
  · exact .ite (.after (.endWait ..) (.updCore fun _ => .region ..)) (.refl _)
  · exact .refl _

theorem PlotCanon.qconf (c : Core) (q base depth : ℕ) : PlotCanon c (c.qconf q base depth) := .same rfl

theorem execQconf_canon (s : State) (c : CoreIx) (t : Strm) : CanonOut s (execQconf c t s) :=
  .next (.issue _ _ _ _ _ fun _ _ _ => .control _ _ _ _ _ _ fun _ => .ite (.setWait ..) (.updCore fun _ => .qconf ..))

theorem execQconfEffect_canon (s : State) (c : CoreIx) (t : Strm) : CanonOut s (execQconfEffect c t s) := by
  unfold execQconfEffect
  refine .clocked ?_
  split
  · exact .ite (.after (.endWait ..) (.updCore fun _ => .qconf ..)) (.refl _)
  · exact .refl _

theorem Canon.push (s : State) (n : ℕ) (t : Strm) (addr qi : ℕ) (q : DataQ) (a b : Word) (base len : ℕ) (cnt : Option ℕ) :
    Canon s (s.push n t addr qi q a b base len cnt) := by
  unfold State.push
  extract_lets x1 s1 x2 s2
  have h1 : Canon s s1 := .multiWin ..
  have h2 : Canon s s2 := .after (.updCore fun _ => .same rfl) h1
  exact .ite (.after (.coreFault ..) h1) (.after (.endWait ..) (.after (.arrive ..) h2))

theorem execQpush_canon (s : State) (c : CoreIx) (t : Strm) : CanonOut s (execQpush c t s) := by
  unfold execQpush
  refine .next (.issue _ _ _ _ _ fun u d ext => ?_)
  split
  · extract_lets x1
    exact .ite (.coreFault ..) (.coreFault ..)
  · refine .issueControl _ _ _ _ _ _ fun v => ?_
    extract_lets x1 x2
    exact .ite (.after (.wordDone ..) (.setWait ..)) (.push ..)

theorem execQpushResume_canon (s : State) (c : CoreIx) (t : Strm) : CanonOut s (execQpushResume c t s) := by
  unfold execQpushResume
  refine .clocked ?_
  split
  · split
    · exact .ite (.push ..) (.refl _)
    · exact .refl _
  · exact .refl _

theorem Canon.pop (s : State) (n : ℕ) (t : Strm) (qi : ℕ) (q : DataQ) (dr er : ℕ) : Canon s (s.pop n t qi q dr er) := by
  unfold State.pop
  split
  next s1 hx1 =>
    have h1 : Canon s s1 := .of_snd (.after (.plotRead ..) (.multiWin ..)) hx1
    extract_lets x1 x2
    exact .after (.updCore fun _ => .after (.setSreg ..) (.after (.setSreg ..) (.same rfl))) h1

theorem execQpop_canon (s : State) (c : CoreIx) (t : Strm) : CanonOut s (execQpop c t s) := by
  unfold execQpop
  refine .next (.issue _ _ _ _ _ fun u d ext => ?_)
  split
  · exact .coreFault ..
  · exact .control _ _ _ _ _ _ fun _ => .ite (.setWait ..) (.pop ..)

theorem execQpopResume_canon (s : State) (c : CoreIx) (t : Strm) : CanonOut s (execQpopResume c t s) := by
  unfold execQpopResume
  refine .clocked ?_
  split
  · split
    · exact .ite (.after (.endWait ..) (.pop ..)) (.refl _)
    · exact .refl _
  · exact .refl _

theorem execFork_canon (s : State) (c : CoreIx) (t : Strm) : CanonOut s (execFork c t s) :=
  .next (.issue _ _ _ _ _ fun _ _ _ => .control _ _ _ _ _ _ fun _ => .updCore fun _ => .same rfl)

theorem Canon.tryJoin (s : State) (n : ℕ) : Canon s (s.tryJoin n) := by
  unfold State.tryJoin
  extract_lets c1 x1 x2
  exact .ite (.after (.wordDone ..) (.setCore (.same rfl))) (.refl _)

theorem execJoin_canon (s : State) (c : CoreIx) (t : Strm) : CanonOut s (execJoin c t s) :=
  .next (.issue _ _ _ _ _ fun _ _ _ => .control _ _ _ _ _ _ fun _ => .after (.tryJoin ..) (.setWait ..))

theorem execJoinMeet_canon (s : State) (c : CoreIx) : CanonOut s (execJoinMeet c s) := .clocked (.tryJoin ..)

theorem execSetr_canon (s : State) (c : CoreIx) (t : Strm) : CanonOut s (execSetr c t s) :=
  .next (.issue _ _ _ _ _ fun _ _ _ => .control _ _ _ _ _ _ fun _ => .updCore fun _ => .setSreg ..)

theorem execSalu_canon (s : State) (c : CoreIx) (t : Strm) : CanonOut s (execSalu c t s) :=
  .next (.issue _ _ _ _ _ fun _ _ _ => .control _ _ _ _ _ _ fun _ => .updCore fun _ => .setSreg ..)

theorem execNop_canon (s : State) (c : CoreIx) (t : Strm) : CanonOut s (execNop c t s) :=
  .next (.issue _ _ _ _ _ fun _ _ _ => .control _ _ _ _ _ _ fun _ => .refl _)

/-! ### The Mover (05) -/

theorem Canon.updRun (s : State) (n : ℕ) (e : Eng) (id : ℕ) (f : Running → Running) : Canon s (s.updRun n e id f) := .updCore fun _ => .setEng ..

theorem Canon.updCmd (s : State) (n id : ℕ) (f : Running → Running) : Canon s (s.updCmd n id f) := .foldl _ (fun _ _ => .updRun ..) _ _

theorem Canon.beginRun (s : State) (n : ℕ) (e : Eng) (l : LongCmd) (id : ℕ) : Canon s (s.beginRun n e l id) := by
  unfold State.beginRun
  extract_lets x1 s1
  have h1 : Canon s s1 := .updRun ..
  exact .ite h1 (.after (.tallyAdd ..) (.after (.tallyAdd ..) h1))

theorem Canon.moverBuild (s : State) (n : ℕ) (l : LongCmd) : Canon s (s.moverBuild n l).2 := by
  unfold State.moverBuild
  extract_lets x1 x2 x3 x4 x5 x6 x7 x8 x9 x10 x11
  split
  · split
    · exact .iteSnd (.pair _ (.refl _)) (.pair _ (.refl _))
    · exact .iteSnd (.pair _ (.refl _)) (.pair _ (.refl _))
    · exact .pair _ (.refl _)
    · exact .iteSnd (.pair _ (.refl _)) (.pair _ (.refl _))
  · refine .iteSnd (.pair _ (.refl _)) ?_
    split
    next s1 hx1 =>
      have h1 : Canon s s1 := .of_snd (.plotRead ..) hx1
      extract_lets x12
      exact .pair _ h1
  · refine .iteSnd (.pair _ (.refl _)) ?_
    split
    next s1 hx1 =>
      have h1 : Canon s s1 := .of_snd (.plotRead ..) hx1
      extract_lets x12
      exact .pair _ h1
  · exact .pair _ (.refl _)
  · exact .pair _ (.refl _)
  · exact .pair _ (.refl _)
  · exact .iteSnd (.pair _ (.refl _)) (.pair _ (.refl _))
  · exact .pair _ (.refl _)

theorem Canon.request (s : State) (n res tier cost : ℕ) (q : Req) : Canon s (s.request n res tier cost q).2 := by
  unfold State.request
  extract_lets x1
  split
  next s1 hx1 =>
    have h1 : Canon s s1 := .of_snd (.classOf ..) hx1
    split
    next s2 hx2 =>
      have h2 : Canon s s2 := .of_snd (.after (.mark ..) h1) hx2
      split
      next s3 hx3 =>
        have h3 : Canon s s3 := .of_snd (.after (.fresh ..) h2) hx3
        exact .pair _ (.kept h3 rfl rfl)

theorem Canon.startWalk (s : State) (n id va : ℕ) : Canon s (s.startWalk n id va) := by
  unfold State.startWalk
  extract_lets s1
  have h1 : Canon s s1 := .updRun ..
  exact .after (.updCore fun _ => .ite (.refl _) (.same rfl)) h1

theorem Canon.rangeLine (s : State) (n : ℕ) (l : LongCmd) (pa : ℕ) : Canon s (s.rangeLine n l pa) := by
  unfold State.rangeLine
  extract_lets x1 x2 x3 x4 x5 x6
  refine .ite (.refl _) ?_
  split
  · exact .ite (.refl _) (.orgFill ..)
  · exact .ite (.orgFlush ..) (.refl _)
  · exact .orgInv ..

theorem Canon.pumpSrc (s : State) (n : ℕ) (r : Running) : Canon s (s.pumpSrc n r).2 := by
  unfold State.pumpSrc
  extract_lets id next
  have hnext : ∀ s ch k, Canon s (next s ch k) := fun _ _ _ => .updRun ..
  clear_value next
  split
  · exact .refl s
  · exact hnext ..
  · split
    · exact .refl s
    · split
      · exact .updRun ..
      · split
        next s1 hx1 =>
        have h1 : Canon s s1 := .of_snd (.plotRead ..) hx1
        exact .after (hnext ..) (.ite (.after (.consumeTags ..) h1) h1)
  · split
    · exact .refl s
    · split
      · next s1 hx1 => exact .after (.startWalk ..) (.of_snd (.translate ..) hx1)
      · next s1 hx1 =>
          have h1 : Canon s s1 := .of_snd (.translate ..) hx1
          split
          · exact .after (.updRun ..) (.after (.tallyAdd ..) h1)
          · exact .after (hnext ..) (.after (.memFault ..) h1)
      · next s1 hx1 =>
          have h1 : Canon s s1 := .of_snd (.translate ..) hx1
          extract_lets p s2 g tier use
          have h2 : Canon s s2 := .ite (.after (.rangeLine ..) h1) (.after (.tallyAdd ..) h1)
          split
          · exact .after (.updRun ..) h2
          · split
            · exact .after (hnext ..) (.after (.memFault ..) h1)
            · split
              next s3 hx3 => exact .after (hnext ..) (.of_snd (.after (.request ..) h1) hx3)

theorem Canon.pumpDst (s : State) (n : ℕ) (r : Running) : Canon s (s.pumpDst n r).2 := by
  unfold State.pumpDst
  extract_lets id done ready
  have hdone : ∀ s k wr poison, Canon s (done s k wr poison) := fun _ _ _ _ => .updRun ..
  clear_value done
  split
  · exact .refl s
  · split
    · exact .refl s
    · exact hdone ..
  · extract_lets d p
    split
    · exact .refl s
    · split
      · split
        · exact .refl s
        · split
          · exact .updRun ..
          · exact .after (hdone ..) (.arrive ..)
      · split
        next s1 hx1 => exact .after (hdone ..) (.of_snd (.request ..) hx1)
  · split
    · exact .refl s
    · split
      · next s1 hx1 => exact .after (.startWalk ..) (.of_snd (.translate ..) hx1)
      · next s1 hx1 => exact .after (hdone ..) (.after (.memFault ..) (.of_snd (.translate ..) hx1))
      · next s1 hx1 =>
          have h1 : Canon s s1 := .of_snd (.translate ..) hx1
          extract_lets p g d tier use
          split
          · exact .after (hdone ..) (.after (.memFault ..) h1)
          · split
            next s2 hx2 => exact .after (hdone ..) (.of_snd (.after (.request ..) h1) hx2)

theorem Canon.pumpLoop (s : State) (fuel n id : ℕ) : Canon s (State.pumpLoop fuel n id s) := by
  induction fuel generalizing s with
  | zero => exact .refl s
  | succ fuel ih =>
    unfold State.pumpLoop
    split
    · exact .refl s
    · refine .ite (.refl s) ?_
      split
      next s1 hx1 =>
        have h1 : Canon s s1 := .of_snd (.pumpSrc ..) hx1
        split
        · exact h1
        · split
          next s2 hx2 =>
            have h2 : Canon s s2 := .of_snd (.after (.pumpDst ..) h1) hx2
            exact .ite (.after (ih _) h2) h2

theorem Canon.pump (s : State) (n : ℕ) : Canon s (s.pump n) := by
  unfold State.pump
  split
  · exact .pumpLoop ..
  · exact .refl _

theorem Canon.moverBegin (s : State) (n : ℕ) (l : LongCmd) : Canon s (s.moverBegin n l) := by
  unfold State.moverBegin
  split
  refine .ite (.updRun ..) ?_
  split
  next s1 hx1 =>
    have h1 : Canon s s1 := .of_snd (.moverBuild ..) hx1
    exact .after (.pump ..) (.after (.updRun ..) h1)

theorem Canon.moverSignal (s : State) (n : ℕ) (l : LongCmd) : Canon s (s.moverSignal n l) := by
  unfold State.moverSignal
  extract_lets x1 x2 x3 x4
  refine .ite (.cntAdd ..) ?_
  split
  next s1 hx1 =>
    have h1 : Canon s s1 := .of_snd (.request ..) hx1
    exact .after (.updRun ..) h1

theorem Canon.moverStart (s : State) (n : ℕ) : Canon s (s.moverStart n) := by
  unfold State.moverStart
  extract_lets c1
  split
  · exact .refl _
  · refine .ite (.refl _) ?_
    extract_lets s1
    have h1 : Canon s s1 := .after (.disturbCal ..) (.setCore (.same rfl))
    exact .ite (.after (.moverSignal ..) h1) (.after (.moverBegin ..) h1)

theorem execMoverStart_canon (s : State) (c : CoreIx) : CanonOut s (execMoverStart c s) := .clocked (.moverStart ..)

theorem Canon.dispose (s : State) (n : ℕ) (r : Running) : Canon s (s.dispose n r) := by
  unfold State.dispose
  extract_lets x1 x2 s1
  have h1 : Canon s s1 := .updCore fun _ => .same rfl
  exact .after (.tallyPav ..) h1

theorem Canon.retire (s : State) (n : ℕ) (e : Eng) (r : Running) : Canon s (s.retire n e r) := .after (.dispose ..) (.updCore fun _ => .setEng ..)

theorem Canon.moverComplete (s : State) (n : ℕ) : Canon s (s.moverComplete n) := by
  unfold State.moverComplete
  split
  · exact .refl _
  · refine .ite (.refl _) ?_
    extract_lets x1 x2 x3 s1 s2
    have h1 : Canon s s1 := .ite (.setFlags ..) (.refl _)
    have h2 : Canon s s2 := .ite (.after (.tallyAdd ..) (.after (.updPav ..) h1)) h1
    exact .ite (.after (.pump ..) (.updRun ..)) (.after (.retire ..) h2)

end Sys2Proof.Machine
end

section
/-! PROOF. What keeps memories canonical: the events of the tiers, the Parterre, the Trellis and the cores (09 R240; 10 R270). -/

namespace Sys2Proof.Machine
open Sys2Proof.Safety

/-! ### Events of the tiers (09, 10) -/

theorem Canon.writeDone (s : State) (n cmd : ℕ) : Canon s (s.writeDone n cmd) := .updCmd ..

theorem Canon.deliver (s : State) (q : Req) (d : List PByte) : Canon s (s.deliver q d) := .after (.pump ..) (.updCmd ..)

theorem Canon.hostGrant (s : State) (q : Req) : Canon s (s.hostGrant q) := by
  unfold State.hostGrant
  extract_lets x1 s1 s2 x2
  have h1 : Canon s s1 := .memFault ..
  have h2 : Canon s s2 := .emit ..
  exact .ite (.ite (.after (.writeDone ..) h1) (.after (.deliver ..) h1)) (.ite (.after (.writeDone ..) (.emit ..)) (.kept h2 rfl rfl))

theorem Canon.grant (s : State) (q : Req) : Canon s (s.grant q) := by
  unfold State.grant
  extract_lets x1 s1 s2 x2 x3
  have h1 : Canon s s1 := .frame rfl rfl
  have h2 : Canon s s2 := .after (.updCmd ..) h1
  split
  · exact .kept h2 rfl rfl
  · refine .ite (.after (.hostGrant ..) h2) (.ite (.after (.writeDone ..) (.ite (.after (.orgWrite ..) h2) (.after (.memWrite ..) h2))) (.ite ?_
      (.kept h2 rfl rfl)))
    split
    next s3 hx1 =>
      have h3 : Canon s s3 := .of_snd (.after (.classOf ..) h2) hx1
      split
      next s4 hx2 =>
        have h4 : Canon s s4 := .of_snd (.after (.mark ..) h3) hx2
        exact .kept h4 rfl rfl

theorem execArbiterGrant_canon (s : State) (r : Fin 6) : CanonOut s (execArbiterGrant r s) := by
  unfold execArbiterGrant
  refine .clocked ?_
  split
  · exact .grant ..
  · exact .refl _

theorem execMemoryReadResponse_canon (s : State) (rid : ℕ) (upsets : List MemUpset) : CanonOut s (execMemoryReadResponse rid upsets s) := by
  unfold execMemoryReadResponse
  refine .clocked ?_
  split
  · exact .refl _
  · extract_lets x1 s1
    have h1 : Canon s s1 := .after (.foldl _ (fun _ _ => .memUpset ..) _ _) (.frame rfl rfl)
    split
    next s2 hx1 =>
      have h2 : Canon s s2 := .of_snd (.iteSnd (.after (.orgRead ..) h1) (.after (.memRead ..) h1)) hx1
      exact .after (.deliver ..) h2

theorem Canon.walkFail (s : State) (n va cause : ℕ) : Canon s (s.walkFail n va cause) := by
  unfold State.walkFail
  split
  · exact .refl _
  · extract_lets x1 x2 x3 x4
    exact .ite (.refl _) (.ite (.ite (.after (.updRun ..) (.tallyAdd ..)) (.after (.updRun ..) (.memFault ..))) (.after (.updRun ..) (.memFault ..)))

theorem execPageWalkComplete_canon (s : State) (c : CoreIx) : CanonOut s (execPageWalkComplete c s) := by
  unfold execPageWalkComplete
  refine .clocked ?_
  split
  · exact .refl _
  · split
    · next s1 hx1 =>
        have h1 : Canon s s1 := .of_snd (.walk ..) hx1
        extract_lets s2 s3
        have h2 : Canon s s2 := .after (.updCore fun _ => .same rfl) h1
        have h3 : Canon s s3 := .after (.updCore fun _ => .same rfl) h2
        exact .after (.pump ..) h3
    · next s1 hx1 =>
        have h1 : Canon s s1 := .of_snd (.walk ..) hx1
        exact .after (.pump ..) (.after (.walkFail ..) (.after (.updCore fun _ => .same rfl) h1))

theorem execMapBufferAging_canon (s : State) : CanonOut s (execMapBufferAging s) := by
  unfold execMapBufferAging
  refine .clocked ?_
  split
  · exact .refl s
  · refine .ite (.refl s) ?_
    extract_lets s1
    have h1 : Canon s s1 := .elapseTo ..
    exact h1.trans (.mapCores (fun c => { c with map := c.map.drop (fun e => decide (s1.frame < e.frame + 2)) }) (fun _ => .same rfl) rfl rfl)

theorem execPipSweepCheck_canon (s : State) (k : Fin 8) (upsets : List MemUpset) : CanonOut s (execPipSweepCheck k upsets s) := by
  unfold execPipSweepCheck
  refine .clocked ?_
  extract_lets s1 x1 x2 x3 x4
  have h1 : Canon s s1 := .foldl _ (fun _ _ => .memUpset ..) _ _
  refine .ite h1 ?_
  split
  · extract_lets s2 x5
    have h2 : Canon s s2 := .after (.pipCheck ..) h1
    exact .kept h2 rfl rfl
  · exact .kept h1 rfl rfl

theorem Canon.refusePacket (s : State) (pkt : Packet) (code : ℕ) : Canon s (s.refusePacket pkt code) := by
  unfold State.refusePacket
  refine .ite (.refl _) ?_
  split
  · exact .coreFault ..
  · exact .refl _

theorem Canon.packetMulti (s : State) (pkt : Packet) : Canon s (s.packetMulti pkt) := by
  unfold State.packetMulti
  refine .ite (.refl _) ?_
  split
  · exact .ite (.refl _) (.after (.tallyPav ..) (.updCmd ..))
  · exact .refl _

theorem Canon.packetArrives (s : State) (pkt : Packet) : Canon s (s.packetArrives pkt) := by
  unfold State.packetArrives
  extract_lets x1 x2 s1 s2 s3
  have h1 : Canon s s1 := .writeDone ..
  have h2 : Canon s s2 := .ite (.after (.tallyAdd ..) h1) h1
  have h3 : Canon s s3 := .after (.writeDone ..) (.packetMulti ..)
  exact .ite (.after (.tallyPav ..) (.writeDone ..)) (.ite (.ite (.tallyAdd ..) (.plotPut ..)) (.ite (.after (.refusePacket ..) h2) (.ite (.after
      (.cntAdd ..) h3) (.after (.arrive ..) h3))))

theorem Canon.release (s : State) (n : ℕ) (h : HeldPacket) : Canon s (s.release n h) := by
  unfold State.release
  extract_lets c1 x1 x2
  exact .after (.packetArrives ..) (.setCore (.same rfl))

theorem Canon.releaseAll (s : State) (k n : ℕ) : Canon s (State.releaseAll k n s) := by
  induction k generalizing s with
  | zero => exact .refl s
  | succ k ih =>
    unfold State.releaseAll
    split
    · exact .after (ih _) (.release ..)
    · exact .refl s

theorem Canon.portTakes (s : State) (pkt : Packet) : Canon s (s.portTakes pkt) := by
  unfold State.portTakes
  extract_lets c1 x1 s1
  have h1 : Canon s s1 := .frame rfl rfl
  exact .ite (.refl _) (.ite (.putCore (.refl _) h1 (.same rfl)) (.after (.packetArrives ..) h1))

theorem execRemoteWriteArrival_canon (s : State) (dst : CoreIx) (src : Fin 145) : CanonOut s (execRemoteWriteArrival dst src s) := by
  unfold execRemoteWriteArrival
  refine .clocked ?_
  split
  · exact .refl _
  · exact .after (.portTakes ..) (.releaseAll ..)

theorem execPendingWriteRelease_canon (s : State) (c : CoreIx) : CanonOut s (execPendingWriteRelease c s) := by
  unfold execPendingWriteRelease
  refine .clocked ?_
  split
  · exact .release ..
  · exact .refl _

/-! ### The Parterre (06, 07) -/

theorem PlotCanon.setCis (c : Core) (entry col v : ℕ) : PlotCanon c (c.setCis entry col v) := .same rfl

theorem PlotCanon.feedCol (c : Core) (fa : ℕ) (sa : Bool) (passes : ℕ) (acc : Bool) (t : Tile) (r : Row) (entry c0 n : ℕ) :
    PlotCanon c (c.feedCol fa sa passes acc t r entry c0 n).1 := by
  unfold Core.feedCol
  split
  · extract_lets x1 x2 x3 x4 c1 x5
    have hc1 : PlotCanon c c1 := .setCis ..
    split
    · exact hc1
    · exact .kept hc1 rfl
  · extract_lets x1 x2 x3 x4 x5 x6
    split
    · exact .after (.setCis ..) (.setCis ..)
    · exact .setCis ..

theorem PlotCanon.foldl_fst {α β : Type} (f : Core × α → β → Core × α) (h : ∀ c a b, PlotCanon c (f (c, a) b).1) (xs : List β) (c : Core) (a : α) :
    PlotCanon c (xs.foldl f (c, a)).1 :=
  List.foldlRecOn (motive := fun y : Core × α => PlotCanon c y.1) _ _ (.refl _) fun y hy b _ => hy.trans (h y.1 y.2 b)

theorem PlotCanon.feed (c : Core) (fa : ℕ) (sa : Bool) (passes : ℕ) (acc : Bool) (t : Tile) (c0 : ℕ) (rs : List Row) (entry : ℕ) :
    PlotCanon c (c.feed fa sa passes acc t c0 rs entry).1 := by
  induction rs generalizing c entry with
  | nil => exact .refl c
  | cons r rs ih => exact .after (ih _ _) (PlotCanon.foldl_fst _ (fun _ _ _ => .feedCol ..) _ _ _)

theorem Canon.readCheck (s : State) (n : ℕ) (rs : List (ℕ × ℕ)) : Canon s (s.readCheck n rs) := by
  unfold State.readCheck
  extract_lets c1
  refine .ite (.refl _) (.foldl _ (fun t a => ?_) _ _)
  extract_lets x1
  exact .ite (.refl _) (.plotDetect ..)

theorem PlotCanon.setBed (c : Core) (b : ℕ) (v : Bed) : PlotCanon c (c.setBed b v) := .same rfl

theorem PlotCanon.matmul (c : Core) (l : LongCmd) : PlotCanon c (c.matmul l).1 := by
  unfold Core.matmul
  extract_lets x1 c1
  have hc1 : PlotCanon c c1 := .ite (.setBed ..) (.refl _)
  split
  · exact .after (.feed ..) hc1
  · exact hc1

theorem PlotCanon.conv (c : Core) (l : LongCmd) : PlotCanon c (c.conv l).1 :=
  .after (.setBed ..) (PlotCanon.foldl_fst _ (fun _ _ _ => .feed ..) _ _ _)

theorem Canon.parterreBegin (s : State) (n : ℕ) (l : LongCmd) : Canon s (s.parterreBegin n l) := by
  unfold State.parterreBegin
  extract_lets x1 s1 c1 x2
  have h1 : Canon s s1 := .after (.beginRun ..) (.readCheck ..)
  refine .ite (.updRun ..) ?_
  split
  · exact .after (.updRun ..) h1
  · split
    next c2 _ hx1 =>
      have hc2 : PlotCanon (s1.core n) c2 := .of_fst (.matmul ..) hx1
      exact .after (.updRun ..) (.after (.setCore hc2) h1)
  · split
    next c2 _ hx1 =>
      have hc2 : PlotCanon (s1.core n) c2 := .of_fst (.conv ..) hx1
      exact .after (.updRun ..) (.after (.setCore hc2) h1)

theorem Canon.parterreStart (s : State) (n stalls : ℕ) : Canon s (s.parterreStart n stalls) := by
  unfold State.parterreStart
  split
  · exact .refl _
  · extract_lets x1 s1 c1 x2 c2 x3 x4 c3 x5 x6
    have h1 : Canon s s1 := .elapseCycles ..
    have hc2 : PlotCanon (s1.core n) c2 := .ite (.same rfl) (.refl _)
    have hc3 : PlotCanon (s1.core n) c3 := .kept hc2 rfl
    exact .ite (.refl _) (.ite (.after (.coreFault ..) (.after (.setCore hc3) h1)) (.after (.parterreBegin ..) (.after (.disturbCal ..) (.after
        (.setCore (.kept hc3 rfl)) h1))))

theorem execParterreStart_canon (s : State) (c : CoreIx) (stalls : ℕ) : CanonOut s (execParterreStart c stalls s) := .clocked (.parterreStart ..)

theorem Canon.parterreComplete (s : State) (n : ℕ) : Canon s (s.parterreComplete n) := by
  unfold State.parterreComplete
  split
  · exact .refl _
  · extract_lets s1 x1 x2 s2
    have h1 : Canon s s1 := .elapseCycles ..
    have h2 : Canon s s2 := .ite (.after (.updCore fun _ => .setBed ..) h1) (.ite (.after (.tallyAdd ..) (.after (.updCore fun _ => .same rfl) h1))
        h1)
    exact .after (.retire ..) h2

/-! ### The Trellis (08) -/

theorem Canon.arrivePart (s : State) (n : ℕ) (e : Eng) (id a : ℕ) (d : List PByte) (cnt : Option ℕ) : Canon s (s.arrivePart n e id a d cnt) := by
  unfold State.arrivePart
  extract_lets x1 x2 x3 s1 s2 s3
  have h1 : Canon s s1 := .plotPut ..
  have h2 : Canon s s2 := .after (.updRun ..) h1
  have h3 : Canon s s3 := .ite (.after (.updCore fun _ => .setTag ..) h2) h2
  split
  · exact .after (.cntAdd ..) h3
  · exact h3

theorem Canon.ownLoop (s : State) (fuel n : ℕ) (e : Eng) (id : ℕ) : Canon s (State.ownLoop fuel n e id s) := by
  induction fuel generalizing s with
  | zero => exact .refl s
  | succ fuel ih =>
    unfold State.ownLoop
    split
    · exact .refl s
    · split
      · extract_lets ready s1
        have h1 : Canon s s1 := .ite (.arrivePart ..) (.arrive ..)
        exact .ite (.refl s) (.ite (.updRun ..) (.after (ih _) (.after (.updRun ..) h1)))
      · exact .refl s

theorem Canon.pumpOwn (s : State) (n : ℕ) (e : Eng) (id : ℕ) : Canon s (s.pumpOwn n e id) := by
  unfold State.pumpOwn
  split
  · exact .ownLoop ..
  · exact .refl _

theorem Canon.trellisBegin (s : State) (n : ℕ) (l : LongCmd) : Canon s (s.trellisBegin n l) := by
  unfold State.trellisBegin
  extract_lets x1 s1 x2 s2 s3 s4 s5
  have h1 : Canon s s1 := .after (.beginRun ..) (.readCheck ..)
  have h2 : Canon s s2 := .ite h1 (.after (.tallyAdd ..) h1)
  have h3 : Canon s s3 := .ite h2 (.after (.tallyAdd ..) h2)
  have h4 : Canon s s4 := .ite h3 (.after (.tallyPav ..) h3)
  have h5 : Canon s s5 := .after (.updRun ..) h4
  exact .ite (.updRun ..) (.after (.pumpOwn ..) h5)

theorem Canon.trellisStart (s : State) (n stalls : ℕ) : Canon s (s.trellisStart n stalls) := by
  unfold State.trellisStart
  extract_lets c1
  split
  · exact .refl _
  · exact .ite (.refl _) (.after (.trellisBegin ..) (.after (.disturbCal ..) (.setCore (.same rfl))))

theorem execTrellisStart_canon (s : State) (c : CoreIx) (stalls : ℕ) : CanonOut s (execTrellisStart c stalls s) := .clocked (.trellisStart ..)

theorem Canon.trellisComplete (s : State) (n : ℕ) : Canon s (s.trellisComplete n) := by
  unfold State.trellisComplete
  split
  · exact .ite (.retire ..) (.refl _)
  · exact .refl _

/-! ### Events of a core (04) -/

theorem Canon.fenceCore (s : State) (n reason : ℕ) : Canon s (s.fenceCore n reason) := by
  unfold State.fenceCore
  extract_lets c1 x1 x2 s1 s2 s3 x3
  have h1 : Canon s s1 := .setCore (.same rfl)
  have h2 : Canon s s2 := .after (.logRec ..) h1
  have h3 : Canon s s3 := .after (.raise ..) h2
  exact .ite (.refl _) (.after (.syncChip ..) (.kept h3 rfl rfl))

theorem Canon.settle (s : State) (n : ℕ) : Canon s (s.settle n) := by
  unfold State.settle
  extract_lets c1
  exact .ite (.refl _) (.ite (.fenceCore ..) (.ite (.fenceCore ..) (.refl _)))

theorem PlotCanon.startList (c : Core) (split : Bool) (a b : ℕ) : PlotCanon c (c.startList split a b) := .same rfl

theorem Canon.startCore (s : State) (n : ℕ) (split : Bool) (a b : ℕ) : Canon s (s.startCore n split a b) :=
  .after (.checkCntBps ..) (.updCore fun _ => .startList ..)

theorem Canon.refuseStart (s : State) (p n reason : ℕ) : Canon s (s.refuseStart p n reason) := by
  unfold State.refuseStart
  extract_lets s1
  have h1 : Canon s s1 := .updFn ..
  exact .after (.raiseVf ..) h1

theorem Canon.startRequest (s : State) (p n : ℕ) (reserved split : Bool) (a b : ℕ) : Canon s (s.startRequest p n reserved split a b) := by
  unfold State.startRequest
  extract_lets x1
  exact .ite (.startCore ..) (.refuseStart ..)

theorem execStartRequest_canon (s : State) (c : CoreIx) (split : Bool) (a b : ℕ) : CanonOut s (execStartRequest c split a b s) := by
  unfold execStartRequest
  refine .clocked ?_
  split
  · exact .startRequest ..
  · exact .refl _

theorem PlotCanon.goIdle (c : Core) : PlotCanon c (c.goIdle) := .same rfl

theorem Canon.listDone (s : State) (n : ℕ) : Canon s (s.listDone n) := by
  unfold State.listDone
  split
  · exact .after (.raiseVf ..) (.updFn ..)
  · exact .refl _

theorem Canon.listEnd (s : State) (n : ℕ) (chain chainSplit notify : Bool) (a b : ℕ) : Canon s (s.listEnd n chain chainSplit notify a b) := by
  unfold State.listEnd
  extract_lets x1 s1 s2 s3
  have h1 : Canon s s1 := .ite (.updCore fun _ => .goIdle ..) (.after (.settle ..) (.updCore fun _ => .goIdle ..))
  have h2 : Canon s s2 := .ite (.after (.listDone ..) h1) h1
  have h3 : Canon s s3 := .after (.startCore ..) h2
  exact .ite (.ite (.after (.halt ..) h3) h3) h2

theorem Canon.tryEnd (s : State) (n : ℕ) (t : Strm) : Canon s (s.tryEnd n t) := by
  unfold State.tryEnd
  extract_lets c1 x1
  split
  · refine .ite ?_ (.refl _)
    split
    · split
      · exact .listEnd ..
      · exact .listEnd ..
    · exact .ite (.after (.wordDone ..) (.setWait ..)) (.listEnd ..)
  · exact .refl _

theorem execEndCmd_canon (s : State) (c : CoreIx) (t : Strm) : CanonOut s (execEndCmd c t s) := by
  unfold execEndCmd
  refine .next (.issue _ _ _ _ _ fun u d ext => .issueControl _ _ _ _ _ _ fun u => ?_)
  extract_lets s1
  have h1 : Canon u s1 := .after (.setWait ..) (.discard ..)
  exact .ite (.after (.tryEnd ..) h1) (.after (.wordDone ..) h1)

theorem execEndComplete_canon (s : State) (c : CoreIx) (t : Strm) : CanonOut s (execEndComplete c t s) := .clocked (.tryEnd ..)

theorem PlotCanon.dropQueues (c : Core) : PlotCanon c (c.dropQueues) := .same rfl

theorem PlotCanon.lateRegion (c : Core) (t : Strm) : PlotCanon c (Core.lateRegion t c) := by
  unfold Core.lateRegion
  split
  · extract_lets c1 x1
    have hc1 : PlotCanon c c1 := .region ..
    exact .after (.setStrm ..) hc1
  · exact .refl _

theorem Canon.becomeFaulted (s : State) (n : ℕ) : Canon s (s.becomeFaulted n) := by
  unfold State.becomeFaulted
  extract_lets c1 x1 x2 x3 x4 s1
  have hc1 : PlotCanon (s.core n) c1 := .after (.lateRegion ..) (.lateRegion ..)
  have h1 : Canon s s1 := .setCore (.kept hc1 rfl)
  exact .after (.settle ..) (.ite (.after (.raiseCore ..) h1) h1)

theorem execCoreDrainComplete_canon (s : State) (c : CoreIx) : CanonOut s (execCoreDrainComplete c s) := by
  unfold execCoreDrainComplete
  refine .clocked ?_
  extract_lets c1 s1
  have h1 : Canon s s1 := .setCore (.dropQueues ..)
  exact .ite (.ite (.after (.becomeFaulted ..) h1) h1) (.refl _)

theorem execHaltDrainComplete_canon (s : State) (c : CoreIx) : CanonOut s (execHaltDrainComplete c s) := by
  unfold execHaltDrainComplete
  refine .clocked ?_
  extract_lets c1 x1 x2 x3 s1
  have h1 : Canon s s1 := .setCore (.same rfl)
  exact .ite (.after (.raiseCore ..) (.after (.logCoreS ..) h1)) (.refl _)

theorem execTagTimeout_canon (s : State) (c : CoreIx) (e : Eng) : CanonOut s (execTagTimeout c e s) := by
  unfold execTagTimeout
  refine .clocked ?_
  extract_lets x1 x2
  split
  · extract_lets s1 s2
    have h1 : Canon s s1 := .elapseCycles ..
    have h2 : Canon s s2 := .after (.updCore fun _ => .setEng ..) h1
    exact .ite h1 (.after (.coreFault ..) h2)
  · split
    · extract_lets s1
      have h1 : Canon s s1 := .elapseCycles ..
      exact .ite h1 (.after (.coreFault ..) h1)
    · refine .ite (.refl _) ?_
      split
      · extract_lets s1 s2 s3
        have h1 : Canon s s1 := .elapseCycles ..
        have h2 : Canon s s2 := .after (.updCore fun _ => .same rfl) h1
        have h3 : Canon s s3 := .after (.refusePacket ..) h2
        exact .ite h1 (.after (.writeDone ..) h3)
      · exact .refl _

end Sys2Proof.Machine
end

section
/-! PROOF. What keeps memories canonical: the events of the Plots, contracts, the Bandstand and the Sundial (09 R240; 10 R270). -/

namespace Sys2Proof.Machine
open Sys2Proof.Safety

/-! ### Events of the Plots (09) -/

theorem PlotCanon.upset (c : Core) (bank : ℕ) (u : Upset) : PlotCanon c (c.upset bank u) := by
  unfold Core.upset
  split
  · exact .same rfl
  · split
    · extract_lets x1 x2
      exact .same rfl
    · split
      · exact .flipBit ..
      · exact .refl _

theorem Canon.sweepDetect (s : State) (n bank : ℕ) (fs : List Suspect) : Canon s (s.sweepDetect n bank fs) := by
  unfold State.sweepDetect
  split
  · exact .refl _
  · extract_lets c1 x1 x2 c2 s1 x3 s2 s3 s4 s5
    have hc2 : PlotCanon (s.core n) c2 := .same rfl
    have h1 : Canon s s1 := .setCore hc2
    have h2 : Canon s s2 := .kept h1 rfl rfl
    have h3 : Canon s s3 := .after (.tallyAdd ..) h2
    have h4 : Canon s s4 := .after (.logCore ..) h3
    have h5 : Canon s s5 := .ite (.after (.plotStop ..) h4) (.after (.updCore fun _ => .same rfl) h4)
    exact .ite h4 (.after (.updCore fun _ => .same rfl) h5)

theorem execPlotSentinelSweep_canon (s : State) (c : CoreIx) (bank : Fin 48) (lost : ℕ) (upsets : List Upset) :
    CanonOut s (execPlotSentinelSweep c bank lost upsets s) := by
  unfold execPlotSentinelSweep
  refine .next ?_
  extract_lets x1 s1 s2 x2 x3 s3 x4 s4 s5
  have h1 : Canon s s1 := .ite (.refl _) (.tallyAdd ..)
  have h2 : Canon s s2 := .after (.elapseCycles ..) h1
  have h3 : Canon s s3 := .after (.updCore fun _ => .same rfl) h2
  have h4 : Canon s s4 := .ite h2 (.kept h3 rfl rfl)
  have h5 : Canon s s5 := .after (.sweepDetect ..) h4
  exact .ite h1 (.ite h5 (.after (.updCore fun _ => .foldl _ (fun _ _ => .upset ..) _ _) h5))

theorem Canon.fenceBank (s : State) (n bank reason : ℕ) : Canon s (s.fenceBank n bank reason) := by
  unfold State.fenceBank
  refine .ite (.refl _) ?_
  extract_lets s1 s2 x1
  have h1 : Canon s s1 := .updCore fun _ => .same rfl
  have h2 : Canon s s2 := .after (.logRec ..) h1
  exact .after (.syncChip ..) (.kept h2 rfl rfl)

theorem Canon.softFault (s : State) (n : ℕ) (x : Suspect) : Canon s (s.softFault n x) := by
  unfold State.softFault
  extract_lets x1 s1 x2
  have h1 : Canon s s1 := .updCore fun _ => .zero _ _ rfl
  exact .ite (.after (.fenceBank ..) h1) h1

theorem Canon.testLine (s : State) (n : ℕ) (x : Suspect) : Canon s (s.testLine n x) := by
  unfold State.testLine
  extract_lets x1
  split
  · exact .updCore fun _ => .same rfl
  · exact .after (.softFault ..) (.updCore fun _ => .same rfl)

theorem execPlotClassify_canon (s : State) (c : CoreIx) (bank : Fin 48) : CanonOut s (execPlotClassify c bank s) := by
  unfold execPlotClassify
  refine .clocked ?_
  extract_lets c1 x1 x2 x3 x4
  exact .ite (.refl _) (.after (.foldl _ (fun _ _ => .testLine ..) _ _) (.setCore (.same rfl)))

theorem PlotCanon.zeroSub (c : Core) (bank sub : ℕ) : PlotCanon c (c.zeroSub bank sub) := .foldl _ (fun _ _ => .zero _ _ rfl) _ _

theorem Canon.repairColumn (s : State) (n : ℕ) (x : Suspect) : Canon s (s.repairColumn n x) := by
  unfold State.repairColumn
  extract_lets x1 x2 s1
  have h1 : Canon s s1 := .updCore fun _ => .zeroSub ..
  refine .ite (.refl _) ?_
  split
  · exact .fenceBank ..
  · extract_lets s2 s3 x3
    have h2 : Canon s s2 := .after (.logRec ..) h1
    have h3 : Canon s s3 := .after (.updCore fun _ => .same rfl) h2
    exact .kept h3 rfl rfl

theorem execPlotRepairComplete_canon (s : State) (c : CoreIx) : CanonOut s (execPlotRepairComplete c s) := by
  unfold execPlotRepairComplete
  refine .clocked ?_
  extract_lets k s1 s2 d
  have h1 : Canon s s1 := by
    unfold s1
    refine .foldl _ (fun t x => ?_) _ _
    exact .after (.repairColumn ..) (.updCore fun _ => .same rfl)
  have h2 : Canon s s2 := .after (.updCore fun _ => .same rfl) h1
  clear_value s1 s2
  refine .ite (.refl s) (.ite (.after (.becomeFaulted ..) ?_) (.ite (.after (.settle ..) (.after (.raiseCore ..) ?_)) (.after (.settle ..) h2)))
  · exact .after (.setCore (.dropQueues ..)) h2
  · exact .after (.setCore (.same rfl)) h2

theorem execPlotScrubDone_canon (s : State) (c : CoreIx) : CanonOut s (execPlotScrubDone c s) :=
  .clocked (.ite (.updCore fun _ => .scrub ..) (.refl _))

/-! ### The dictionary -/

theorem Canon.endRequester (s : State) (k : ℕ) : Canon s (s.endRequester k) := by
  unfold State.endRequester
  extract_lets s1
  have h1 : Canon s s1 := .ite (.frame rfl rfl) (.refl _)
  exact .after (.updReq ..) h1

theorem Canon.cancelHeld (s : State) (k : ℕ) : Canon s (s.cancelHeld k) := .frame rfl rfl

theorem Canon.cancelFn (s : State) (f : ℕ) : Canon s (s.cancelFn f) := .after (.cancelHeld ..) (.cancelHeld ..)

/-! ### Contracts (16) -/

theorem CanonOpt.ctWrite (s : State) (i sub v : ℕ) : CanonOpt s (s.ctWrite i sub v) := by
  unfold State.ctWrite
  refine .ite ?_ ?_
  · exact .none _
  · extract_lets x1
    refine .some ?_
    split
    · exact .iteSnd (.pair _ (.refl _)) (.pair _ (.setObj ..))
    · exact .iteSnd (.pair _ (.refl _)) (.pair _ (.setObj ..))
    · exact .iteSnd (.pair _ (.refl _)) (.pair _ (.setObj ..))
    · exact .pair _ (.ite (.refl _) (.updPav ..))
    · exact .iteSnd (.pair _ (.refl _)) (.pair _ (.setObj ..))
    · exact .pair _ (.setObj ..)

/-! ### The Bandstand -/

theorem Canon.setStream (s : State) (id e : ℕ) : Canon s (s.setStream id e) := .frame rfl rfl

theorem Canon.bsAdmit (s : State) (p e : ℕ) : Canon s (s.bsAdmit p e).2 := by
  unfold State.bsAdmit
  extract_lets x1
  exact .iteSnd (.pair _ (.refl _)) (.iteSnd (.pair _ (.refl _)) (.iteSnd (.pair _ (.refl _)) (.iteSnd (.pair _ (.refl _)) (.pair _ (.setStream
      ..)))))

theorem Canon.bsRetire (s : State) (p id : ℕ) : Canon s (s.bsRetire p id).2 :=
  .iteSnd (.pair _ (.refl _)) (.iteSnd (.pair _ (.refl _)) (.pair _ (.updPav ..)))

theorem Canon.bsStatusRead (s : State) (p : ℕ) : Canon s (s.bsStatusRead p) := .updPav ..

theorem CanonOpt.bsWrite (s : State) (i sub v : ℕ) : CanonOpt s (s.bsWrite i sub v) := by
  unfold State.bsWrite
  refine .ite ?_ ?_
  · exact .none _
  · extract_lets x1 s1
    have h1 : Canon s s1 := .setObj ..
    split
    refine .some ?_
    split
    · exact .iteSnd (.pair _ (.refl _)) (.iteSnd (.pair _ (.refl _)) (.pair _ (.setObj ..)))
    · exact .iteSnd (.pair _ (.refl _)) (.iteSnd (.pair _ (.refl _)) (.pair _ (.setObj ..)))
    · exact .iteSnd (.pair _ (.refl _)) (.pair _ (.setObj ..))
    · exact .iteSnd (.pair _ (.after (.updPav ..) h1)) (.iteSnd (.pair _ (.after (.updPav ..) (.after (.unitEnd ..) h1))) (.pair _ h1))
    · exact .bsAdmit ..
    · exact .bsRetire ..
    · exact .pair _ (.setObj ..)

theorem Canon.bsLatch (s : State) (p : ℕ) : Canon s (s.bsLatch p) := by
  unfold State.bsLatch
  extract_lets x1
  exact .updPav ..

theorem Canon.takeRow (s : State) (p : ℕ) (r : BsRow) : Canon s (s.takeRow p r).2 := by
  unfold State.takeRow
  extract_lets x1 x2 x3 x4 x5 x6 s1 s2 x7
  have h1 : Canon s s1 := .setStream ..
  have h2 : Canon s s2 := .after (.updPav ..) h1
  exact .iteSnd (.pair _ (.ite h2 (.after (.tallyAdd ..) h2))) (.pair _ (.setStream ..))

theorem Canon.bsClose (s : State) (p n : ℕ) (skip : Option ℕ) (fill stepped : Bool) : Canon s (s.bsClose p n skip fill stepped) := by
  unfold State.bsClose
  extract_lets x1 x2 x3 s1
  have h1 : Canon s s1 := .updPav ..
  split
  next s2 hx1 =>
    have h2 : Canon s s2 := by
      refine .of_snd (.after (.foldl_snd _ (fun a t b => ?_) _ _ _) h1) hx1
      split
      next s3 hx2 =>
        have h3 : Canon t s3 := .of_snd (.after (.takeRow ..) (.pair _ (.refl _))) hx2
        exact .pair _ h3
    extract_lets x4
    exact .after (.updPav ..) h2

theorem Canon.bsFill (s : State) (fuel p : ℕ) (skip : Option ℕ) (stepped : Bool) : Canon s (State.bsFill fuel p skip stepped s) := by
  induction fuel generalizing s with
  | zero => exact .refl s
  | succ fuel ih =>
    unfold State.bsFill
    exact .ite (.after (ih _) (.bsClose ..)) (.refl s)

theorem Canon.bsDeadline (s : State) (p k : ℕ) : Canon s (s.bsDeadline p k) := by
  unfold State.bsDeadline
  extract_lets x1 s1 x2
  have h1 : Canon s s1 := .updPav ..
  exact .ite (.after (.tallyAdd ..) (.after (.updPav ..) h1)) (.ite (.after (.bsFill ..) h1) (.ite h1 (.after (.bsClose ..) h1)))

theorem Canon.bsRetireNow (s : State) (p : ℕ) : Canon s (s.bsRetireNow p) := by
  unfold State.bsRetireNow
  extract_lets x1 x2 s1 s2
  have h1 : Canon s s1 := .foldl _ (fun _ _ => .setStream ..) _ _
  have h2 : Canon s s2 := .after (.updPav ..) h1
  exact .ite h2 (.after (.tallyAdd ..) h2)

theorem Canon.bsRecord (s : State) (p r : ℕ) : Canon s (s.bsRecord p r) := by
  unfold State.bsRecord
  extract_lets x1 x2 x3 s1 x4
  have h1 : Canon s s1 := .setStream ..
  exact .ite (.tallyAdd ..) (.ite (.after (.tallyAdd ..) (.setStream ..)) (.after (.updPav ..) h1))

theorem Canon.bsRingFault (s : State) (p : ℕ) : Canon s (s.bsRingFault p) := .after (.raiseVf ..) (.updPav ..)

theorem Canon.bsRecords (s : State) (p base size head n : ℕ) : Canon s (s.bsRecords p base size head n).2 := by
  unfold State.bsRecords
  refine .foldl_snd _ (fun a t b => ?_) _ _ _
  split
  · exact .pair _ (.pair _ (.refl _))
  · split
    next s1 hx1 =>
      have h1 : Canon t s1 := .of_snd (.after (.unitRead ..) (.pair _ (.refl _))) hx1
      exact .pair _ h1

theorem Canon.bsRing (s : State) (p : ℕ) : Canon s (s.bsRing p) := by
  unfold State.bsRing
  extract_lets base size wait done overrun
  have hwait : ∀ s, Canon s (wait s) := fun _ => .updPav ..
  have hdone : ∀ s, Canon s (done s) := fun _ => .after (.updPav ..) (.unitEnd ..)
  have hover : ∀ s, Canon s (overrun s) := fun _ => .updPav ..
  clear_value wait done overrun
  split
  · next s1 hx1 => exact .after (hwait _) (.of_snd (.unitRead ..) hx1)
  · next s1 hx1 => exact .after (.bsRingFault ..) (.after (hdone _) (.of_snd (.unitRead ..) hx1))
  · next s1 hx1 =>
      have h1 : Canon s s1 := .of_snd (.unitRead ..) hx1
      extract_lets tail setHead b d n
      have hhead : ∀ s, Canon s (setHead s) := fun _ => .updPav ..
      clear_value setHead
      refine .ite (.after (hhead _) (.after (hdone _) h1)) (.ite (.after (hover _) (.after (hdone _) h1)) ?_)
      split
      · next s2 hx2 => exact .after (hwait _) (.of_snd (.after (.bsRecords ..) h1) hx2)
      · next s2 _ hx2 =>
          have h2 : Canon s s2 := .of_snd (.after (.bsRecords ..) h1) hx2
          extract_lets s3 s4
          have h3 : Canon s s3 := .after (hdone _) h2
          have h4 : Canon s s4 := .ite (.after (hover _) (.after (.tallyAdd ..) h3)) h3
          refine .after (hhead _) ?_
          split
          · exact .after (.foldl _ (fun _ _ => .bsRecord ..) _ _) h4
          · exact .after (.bsRingFault ..) h4

theorem Canon.bsWork (s : State) (p : ℕ) : Canon s (s.bsWork p) := by
  unfold State.bsWork
  extract_lets s1
  have h1 : Canon s s1 := .bsRing ..
  exact .ite h1 (.after (.bsFill ..) h1)

theorem Canon.bsResume (s : State) (p : ℕ) : Canon s (s.bsResume p) := .ite (.bsWork ..) (.refl _)

theorem Canon.bsSlot (s : State) (p k : ℕ) : Canon s (s.bsSlot p k) := by
  unfold State.bsSlot
  extract_lets s1 s2 s3
  have h1 : Canon s s1 := by
    unfold s1
    split
    · exact .ite (.refl _) (.bsDeadline ..)
    · exact .refl _
  have h2 : Canon s s2 := .after (.bsRetireNow ..) (.after (.bsLatch ..) h1)
  have h3 : Canon s s3 := .ite (.after (.updPav ..) h2) h2
  exact .ite (.after (.bsWork ..) h3) h2

theorem execBsSlotStart_canon (s : State) : CanonOut s (execBsSlotStart s) := by
  unfold execBsSlotStart
  refine .clocked ?_
  extract_lets x1 x2 s1 x3 x4 s2
  have h1 : Canon s s1 := .ite (.refl _) (.elapseTo ..)
  have h2 : Canon s s2 := .kept h1 rfl rfl
  exact .after (.foldl _ (fun _ _ => .bsSlot ..) _ _) h2

theorem execBatchDeadline_canon (s : State) (p : PavIx) : CanonOut s (execBatchDeadline p s) := by
  unfold execBatchDeadline
  refine .clocked (.ite (.refl _) ?_)
  split
  · exact .refl _
  · exact .ite (.refl _) (.ite (.bsDeadline ..) (.after (.bsDeadline ..) (.after (.bsLatch ..) (.elapseTo ..))))

theorem Canon.bsPassed (s : State) (old p : ℕ) : Canon s (s.bsPassed old p) := by
  unfold State.bsPassed
  extract_lets cur
  generalize List.find? _ _ = slot
  cases slot with
  | none => exact .refl s
  | some k => exact .ite (.updPav ..) (.refl s)

theorem execBsBatchDeliver_canon (s : State) (p : PavIx) : CanonOut s (execBsBatchDeliver p s) := by
  unfold execBsBatchDeliver
  refine .clocked ?_
  split
  · exact .refl _
  · refine .ite (.refl _) ?_
    extract_lets x1 x2 x3 s1 s2
    have h1 : Canon s s1 := .updPav ..
    have h2 : Canon s s2 := .after (.plotPut ..) h1
    exact .after (.cntAdd ..) h2

theorem Canon.bsReset (s : State) (p : ℕ) : Canon s (s.bsReset p) := by
  unfold State.bsReset
  split
  extract_lets s1 s2
  have h1 : Canon s s1 := .frame rfl rfl
  have h2 : Canon s s2 := .after (.setObj ..) h1
  exact .after (.updPav ..) (.after (.unitEnd ..) h2)

/-! ### Plans -/

theorem Canon.updRot (s : State) (p : ℕ) (f : RotSt → RotSt) : Canon s (s.updRot p f) := .updPav ..

/-! ### The Sundial (02) -/

theorem Canon.setCount (s : State) (v : ℕ) (e : Epoch) : Canon s (s.setCount v e) :=
  .mapCores (fun c => { c with sa := c.sa.countSet, sx := c.sx.countSet }) (fun _ => .same rfl) rfl rfl

theorem Canon.ppsGate (s : State) : Canon s (s.ppsGate) := .ite (.frame rfl rfl) (.refl _)

theorem Canon.enter (s : State) (st : ℕ) : Canon s (s.enter st) := .of_tells (s.enter_tells st) (by decide) (by decide)

theorem Canon.toHoldover (s : State) : Canon s s.toHoldover := .of_tells s.toHoldover_tells (by decide) (by decide)

theorem Canon.toFree (s : State) : Canon s (s.toFree) := .after (.enter ..) (.frame rfl rfl)

theorem Canon.toLocked (s : State) (ref bound : ℕ) : Canon s (s.toLocked ref bound) := .after (.enter ..) (.frame rfl rfl)

theorem Canon.reselect (s : State) : Canon s s.reselect := .of_tells s.reselect_tells (by decide) (by decide)

theorem Canon.measured (s : State) (o : ℤ) : Canon s (s.measured o) := by
  unfold State.measured
  extract_lets x1 s1
  have h1 : Canon s s1 := .frame rfl rfl
  exact .ite (.after (.toFree ..) h1) (.ite (.after (.toFree ..) h1) h1)

theorem Canon.becomeSource (s : State) : Canon s (s.becomeSource) := by
  unfold State.becomeSource
  extract_lets s1 x1 s2
  have h1 : Canon s s1 := by
    unfold s1
    split
    · exact .refl _
    · split
      next s3 hx1 =>
        have h3 : Canon s s3 := .of_snd (.draw ..) hx1
        extract_lets x2
        exact .after (.setCount ..) h3
  have h2 : Canon s s2 := .kept h1 rfl rfl
  exact .after (.toLocked ..) h2

theorem execSourceElection_canon (s : State) (others : List Candidate) : CanonOut s (execSourceElection others s) := by
  unfold execSourceElection
  refine .next ?_
  extract_lets x1 x2 x3 x4
  exact .ite (.refl _) (.ite (.frame rfl rfl) (.becomeSource ..))

theorem execSourceLoss_canon (s : State) : CanonOut s (execSourceLoss s) := by
  unfold execSourceLoss
  refine .next ?_
  split
  · exact .ite (.refl _) (.ite (.after (.setTime ..) (.elapseNs ..)) (.after (.setTime ..) (.elapseNs ..)))
  · exact .refl _

theorem execOwnEpochForm_canon (s : State) : CanonOut s (execOwnEpochForm s) := .next (.ite (.refl _) (.after (.becomeSource ..) (.elapseNs ..)))

theorem Canon.reform (s : State) (v : ℕ) : Canon s (s.reform v).2 := by
  unfold State.reform
  refine .iteSnd (.pair _ (.refl _)) (.iteSnd (.pair _ (.refl _)) ?_)
  extract_lets x1 x2 s1
  have h1 : Canon s s1 := .frame rfl rfl
  exact .pair _ (.after (.reselect ..) (.ite h1 (.after (.toFree ..) h1)))

theorem Canon.timeSent (s : State) (q : ℕ) : Canon s (s.timeSent q) := .updPort ..

theorem Canon.measureDelay (s : State) (q pay : ℕ) : Canon s (s.measureDelay q pay) := by
  unfold State.measureDelay
  extract_lets x1 x2 x3 x4
  split
  · exact .refl _
  · extract_lets x5
    exact .setPort ..

theorem Canon.timeWord (s : State) (q pay : ℕ) : Canon s (s.timeWord q pay) := by
  unfold State.timeWord
  extract_lets x1 x2 x3 s1 x4 s2 s3 s4 x5 s5
  have h1 : Canon s s1 := .updPort ..
  have h2 : Canon s s2 := .ite (.frame rfl rfl) (.refl _)
  have h3 : Canon s s3 := .after (.updPort ..) h2
  have h4 : Canon s s4 := .ite (.after (.measureDelay ..) h3) h3
  have h5 : Canon s s5 := .after (.reselect ..) h4
  refine .ite (.ite h1 (.after (.logRec ..) h1)) ?_
  split
  · exact .ite (.after (.reselect ..) (.after (.setCount ..) h4)) h4
  · exact .ite (.after (.measured ..) h5) h5

theorem execPortTimeLiveExpiry_canon (s : State) (q : PortIx) : CanonOut s (execPortTimeLiveExpiry q s) := by
  unfold execPortTimeLiveExpiry
  refine .next ?_
  split
  · exact .after (.reselect ..) (.elapseNs ..)
  · exact .refl _

theorem Canon.ptpLost (s : State) : Canon s (s.ptpLost) := by
  unfold State.ptpLost
  extract_lets x1 s1
  have h1 : Canon s s1 := .frame rfl rfl
  exact .ite h1 (.ite (.after (.toHoldover ..) h1) (.after (.reselect ..) h1))

theorem execPtpSyncReceived_canon (s : State) (m : PtpSync) : CanonOut s (execPtpSyncReceived m s) := by
  unfold execPtpSyncReceived
  refine .next (.ite (.refl _) ?_)
  extract_lets x1 x2 s1 x3 s2
  have h1 : Canon s s1 := .frame rfl rfl
  have h2 : Canon s s2 := .ite h1 (.kept h1 rfl rfl)
  exact .ite h1 (.ite h2 (.after (.measured ..) h2))

theorem execPtpSyncTimeout_canon (s : State) : CanonOut s (execPtpSyncTimeout s) := by
  unfold execPtpSyncTimeout
  refine .next ?_
  split
  · exact .after (.ptpLost ..) (.elapseNs ..)
  · exact .refl _

theorem execHoldoverExpiry_canon (s : State) : CanonOut s (execHoldoverExpiry s) := by
  unfold execHoldoverExpiry
  refine .next ?_
  split
  · exact .after (.reselect ..) (.after (.toFree ..) (.elapseNs ..))
  · exact .refl _

theorem Canon.stepForward (s : State) (k : ℕ) : Canon s (s.stepForward k) := by
  unfold State.stepForward
  extract_lets x1 x2 x3 x4 s1
  have h1 : Canon s s1 := .frame rfl rfl
  exact .after (.foldl _ (fun _ _ => .bsPassed ..) _ _) h1

theorem Canon.lockCheck (s : State) : Canon s (s.lockCheck) := by
  unfold State.lockCheck
  refine .ite (.refl _) ?_
  split
  · exact .frame rfl rfl
  · refine .ite (.after (.stepForward ..) (.toFree ..)) ?_
    extract_lets x1 x2 s1
    have h1 : Canon s s1 := .frame rfl rfl
    exact .ite h1 (.ite (.after (.toLocked ..) h1) (.ite (.after (.toLocked ..) h1) h1))

theorem execPpsOutRise_canon (s : State) : CanonOut s (execPpsOutRise s) := by
  unfold execPpsOutRise
  refine .next ?_
  extract_lets s1 x1
  have h1 : Canon s s1 := .elapseTo ..
  exact .ite (.kept h1 rfl rfl) h1

theorem execPpsOutFall_canon (s : State) : CanonOut s (execPpsOutFall s) := .next (.ite (.after (.setTime ..) (.elapseNs ..)) (.refl _))

theorem execPpsInEdge_canon (s : State) : CanonOut s (execPpsInEdge s) := by
  unfold execPpsInEdge
  refine .next ?_
  extract_lets x1 x2 s1
  have h1 : Canon s s1 := .frame rfl rfl
  refine .ite (.ite ?_ h1) (.refl _)
  split
  next s2 hx1 =>
    have h2 : Canon s s2 := .of_snd (.after (.draw ..) h1) hx1
    exact .kept h2 rfl rfl

theorem Canon.sundialStatusRead (s : State) : Canon s (s.sundialStatusRead) := .frame rfl rfl

theorem CanonOpt.timeWrite (s : State) (i sub v : ℕ) : CanonOpt s (s.timeWrite i sub v) := by
  unfold State.timeWrite
  refine .ite ?_ ?_
  · exact .some (.reform ..)
  · refine .ite ?_ ?_
    · exact .some (.pair _ (.after (.ppsGate ..) (.setObj ..)))
    · exact .none _

end Sys2Proof.Machine
end

section
/-! PROOF. What keeps memories canonical: links, the Dice and the Rotunda (09 R240; 10 R270). -/

namespace Sys2Proof.Machine
open Sys2Proof.Safety

/-! ### Links (13) -/

theorem CanonExcept.takeHere (s : State) (m : Msg) : CanonExcept s (s.takeHere m) := by
  unfold State.takeHere
  split
  · exact .ok (.after (.logRec ..) (.tallyAdd ..))
  · split
    · split
      · exact .ok (.after (.tallyAdd ..) (.tallyAdd ..))
      · exact .error _ _
    · exact .ok (.frame rfl rfl)

theorem CanonExcept.place (s : State) (i : Inject) : CanonExcept s (s.place i) := by
  unfold State.place
  split
  · exact .takeHere ..
  · exact .error _ _
  · extract_lets x1 x2 x3 x4 x5
    split
    · exact .ok (.frame rfl rfl)
    · exact .ok (.updPort ..)

theorem Canon.sendNotice (s : State) (m : Msg) (reason chip : ℕ) : Canon s (s.sendNotice m reason chip) := by
  unfold State.sendNotice
  extract_lets x1
  split
  · next s1 hx1 =>
      have h1 : Canon s s1 := by
        refine .of_ok ?_ hx1
        split
        · exact .takeHere ..
        · exact .place ..
      exact h1
  · exact .tallyAdd ..

theorem Canon.dropMsg (s : State) (m : Msg) (reason : ℕ) : Canon s (s.dropMsg m reason) := by
  unfold State.dropMsg
  extract_lets s1 s2
  have h1 : Canon s s1 := .tallyAdd ..
  have h2 : Canon s s2 := .after (.sendNotice ..) h1
  refine .ite h1 ?_
  split
  · exact .ite h2 (.after (.sendNotice ..) h2)
  · exact h2

theorem Canon.injectRefused (s : State) (core cmd : ℕ) : Canon s (s.injectRefused core cmd) := .ite (.refl _) (.updCmd ..)

theorem Canon.sendMsg (s : State) (m : Msg) (cls : Option ℕ) (core cmd : ℕ) : Canon s (s.sendMsg m cls core cmd) := by
  unfold State.sendMsg
  split
  next s1 hx1 =>
    have h1 : Canon s s1 := by
      refine .of_snd ?_ hx1
      split
      · exact .mark ..
      · exact .pair _ (.refl _)
      · exact .pair _ (.refl _)
    split
    · next s2 hx2 =>
        exact .of_ok (.after (.place ..) h1) hx2
    · exact .after (.dropMsg ..) h1

theorem Canon.pumpInject (s : State) : Canon s (s.pumpInject) := by
  unfold State.pumpInject
  extract_lets x1 x2
  refine .after (.foldl _ (fun t a => ?_) _ _) (.frame rfl rfl)
  split
  · next s1 hx1 =>
      exact .of_ok (.place ..) hx1
  · exact .dropMsg ..

theorem Canon.updLl (s : State) (q : ℕ) (f : PortLl → PortLl) : Canon s (s.updLl q f) := .updPort ..

theorem Canon.owe (s : State) (q vc n : ℕ) : Canon s (s.owe q vc n) := .updLl ..

theorem Canon.returned (s : State) (q : ℕ) : Canon s (s.returned q) := .updLl ..

theorem Canon.ethSend (s : State) (q : ℕ) : Canon s (s.ethSend q) := by
  unfold State.ethSend
  extract_lets x1
  exact .ite (.refl _) (.after (.emit ..) (.setPort ..))

theorem Canon.sendFlit (s : State) (q : ℕ) (f : Flit) : Canon s (s.sendFlit q f) := by
  unfold State.sendFlit
  extract_lets x1 s1 s2
  have h1 : Canon s s1 := .returned ..
  have h2 : Canon s s2 := .after (.updPort ..) h1
  exact .ite (.after (.updPort ..) (.after (.emit ..) h1)) (.ite h2 (.after (.ethSend ..) h2))

theorem Canon.milestone (s : State) (n : ℕ) : Canon s (s.milestone n) := .frame rfl rfl

theorem Canon.groupsCheck (s : State) : Canon s s.groupsCheck := .of_only s.groupsCheck_only (by decide) (by decide)

theorem Canon.keepTx (s : State) (keep : TxMsg → Bool) : Canon s (s.keepTx keep) := .frame rfl rfl

theorem Canon.cutTransit (s : State) (q : ℕ) : Canon s (s.cutTransit q).2 := by
  unfold State.cutTransit
  extract_lets x1
  exact .pair _ (.keepTx ..)

theorem Canon.dropTransit (s : State) (ts : List TxMsg) : Canon s (s.dropTransit ts) := by
  unfold State.dropTransit
  refine .foldl _ (fun t a => ?_) _ _
  split
  · exact .refl _
  · extract_lets s1
    have h1 : Canon t s1 := .owe ..
    exact .ite h1 (.after (.updPort ..) h1)

theorem Canon.portFall (s : State) (q st : ℕ) : Canon s (s.portFall q st) := by
  unfold State.portFall
  extract_lets x1 x2
  split
  next s1 hx1 =>
    have h1 : Canon s s1 := .of_snd (.cutTransit ..) hx1
    extract_lets x3 x4 s2 s3 s4 s5
    have h2 : Canon s s2 := .after (.setPort ..) h1
    have h3 : Canon s s3 := .after (.dropTransit ..) h2
    have h4 : Canon s s4 := .after (.foldl _ (fun _ _ => .dropMsg ..) _ _) h3
    have h5 : Canon s s5 := .after (.raise ..) (.after (.logRec ..) h4)
    exact .after (.pumpInject ..) (.ite (.after (.reselect ..) h5) h5)

theorem Canon.train (s : State) (q : ℕ) : Canon s (s.train q) := .updPort ..

theorem Canon.portDown (s : State) (q : ℕ) : Canon s (s.portDown q) := .after (.train ..) (.portFall ..)

theorem Canon.retrain (s : State) (q : ℕ) : Canon s (s.retrain q) := .of_tells (s.retrain_tells q) (by decide) (by decide)

theorem Canon.protocolError (s : State) (q seq : ℕ) : Canon s (s.protocolError q seq) := .after (.retrain ..) (.logRec ..)

theorem Canon.tryUp (s : State) (q : ℕ) : Canon s (s.tryUp q) := by
  unfold State.tryUp
  extract_lets x1 x2
  refine .ite ?_ (.refl _)
  split
  next s1 hx1 =>
    have h1 : Canon s s1 := .of_snd (.draw ..) hx1
    extract_lets x3
    exact .after (.pumpInject ..) (.after (.setPort ..) h1)

theorem Canon.fencePort (s : State) (q reason : ℕ) : Canon s (s.fencePort q reason) := by
  unfold State.fencePort
  extract_lets s1 s2 x1 s3
  have h1 : Canon s s1 := .ite (.refl _) (.portFall ..)
  have h2 : Canon s s2 := .after (.updPort ..) h1
  have h3 : Canon s s3 := .kept h2 rfl rfl
  exact .after (.syncChip ..) (.after (.raise ..) (.after (.logRec ..) h3))

theorem Canon.sendHold (s : State) (q : ℕ) : Canon s (s.sendHold q) := by
  unfold State.sendHold
  extract_lets x1
  exact .after (.updPort ..) (.sendFlit ..)

theorem Canon.sendData (s : State) (q i : ℕ) : Canon s (s.sendData q i) := by
  unfold State.sendData
  extract_lets x1 x2 x3
  split
  · exact .refl _
  · split
    · exact .refl _
    · extract_lets x4 x5 x6 x7 s1 s2 s3 s4
      have h1 : Canon s s1 := .setPort ..
      have h2 : Canon s s2 := .ite h1 (.after (.tallyAdd ..) h1)
      have h3 : Canon s s3 := .ite h2 (.after (.updCmd ..) h2)
      have h4 : Canon s s4 := by
        unfold s4
        split
        · exact .after (.owe ..) h3
        · exact h3
      exact .after (.sendFlit ..) h4

theorem Canon.sendTime (s : State) (q : ℕ) : Canon s (s.sendTime q) := by
  unfold State.sendTime
  extract_lets x1
  exact .after (.timeSent ..) (.sendFlit ..)

theorem Canon.sendNak (s : State) (q : ℕ) : Canon s (s.sendNak q) := by
  unfold State.sendNak
  extract_lets s1 s2
  have h1 : Canon s s1 := .updLl ..
  have h2 : Canon s s2 := .after (.sendFlit ..) h1
  exact .ite (.after (.retrain ..) h2) h2

theorem Canon.sendReplay (s : State) (q : ℕ) (r : RFlit) : Canon s (s.sendReplay q r) := by
  unfold State.sendReplay
  extract_lets s1
  have h1 : Canon s s1 := .updPort ..
  exact .after (.sendFlit ..) (.after (.tallyAdd ..) h1)

theorem Canon.slotUp (s : State) (q : ℕ) : Canon s (s.slotUp q) := by
  unfold State.slotUp
  extract_lets x1
  refine .ite (.sendTime ..) (.ite (.sendNak ..) ?_)
  split
  · exact .sendReplay ..
  · split
    · exact .sendData ..
    · exact .ite (.sendFlit ..) (.refl _)

theorem Canon.holdToInit (s : State) (q : ℕ) : Canon s (s.holdToInit q) := by
  unfold State.holdToInit
  extract_lets x1
  exact .ite (.setPort ..) (.refl _)

theorem execFlitSlot_canon (s : State) (q : PortIx) : CanonOut s (execFlitSlot q s) := by
  unfold execFlitSlot
  refine .clocked ?_
  extract_lets s1 x1
  have h1 : Canon s s1 := .holdToInit ..
  exact .ite (.after (.sendHold ..) h1) (.ite (.after (.sendHold ..) h1) (.ite (.ite (.after (.tryUp ..) (.after (.updLl ..) (.after (.sendFlit ..)
      h1))) (.after (.sendHold ..) h1)) (.ite (.ite (.ite (.after (.sendFlit ..) h1) h1) (.after (.slotUp ..) h1)) h1)))

theorem execTimeWordDue_canon (s : State) (q : PortIx) : CanonOut s (execTimeWordDue q s) :=
  .clocked (.ite (.after (.sendTime ..) (.elapseNs ..)) (.refl _))

theorem Canon.fecSeen (s : State) (q : ℕ) (fec : Option ℕ) : Canon s (s.fecSeen q fec) := by
  unfold State.fecSeen
  split
  · exact .updPort ..
  · exact .refl _
  · exact .updPort ..

theorem Canon.rxBad (s : State) (q : ℕ) : Canon s (s.rxBad q) := .after (.updPort ..) (.tallyAdd ..)

theorem Canon.rxHeader (s : State) (q : ℕ) (f : Flit) : Canon s (s.rxHeader q f) := by
  unfold State.rxHeader
  extract_lets x1 s1
  have h1 : Canon s s1 := .updLl ..
  exact .ite (.after (.pumpInject ..) h1) h1

theorem Canon.arrived (s : State) (q : ℕ) (m : Msg) : Canon s (s.arrived q m) := by
  unfold State.arrived
  split
  · next s1 hx1 =>
      have h1 : Canon s s1 := .of_ok (.takeHere ..) hx1
      exact .ite (.kept h1 rfl rfl) h1
  · exact .dropMsg ..

theorem Canon.passFlit (s : State) (q vc : ℕ) (d : DFlit) : Canon s (s.passFlit q vc d) := by
  unfold State.passFlit
  extract_lets x1 s1 x2 s2 x3 x4
  have h1 : Canon s s1 := .ite (.updPort ..) (.refl _)
  have h2 : Canon s s2 := .after (.owe ..) h1
  split
  · exact h1
  · exact .after (.owe ..) h1
  · exact .ite (.after (.arrived ..) h2) (.after (.updPort ..) h2)
  · exact .after (.updPort ..) h1

theorem Canon.drainRx (s : State) (q vc : ℕ) (ds : List DFlit) : Canon s (s.drainRx q vc ds) := by
  induction ds generalizing s with
  | nil => exact .updPort ..
  | cons d ds ih =>
    unfold State.drainRx
    exact .ite (.after (ih _) (.passFlit ..)) (.updPort ..)

theorem Canon.acceptData (s : State) (q : ℕ) (f : Flit) : Canon s (s.acceptData q f) := by
  unfold State.acceptData
  extract_lets s1 x1 s2 s3
  have h1 : Canon s s1 := .updLl ..
  have h2 : Canon s s2 := .after (.keepTx ..) h1
  have h3 : Canon s s3 := .ite (.after (.updPort ..) h2) h1
  exact .after (.drainRx ..) h3

theorem Canon.rxData (s : State) (q : ℕ) (f : Flit) : Canon s (s.rxData q f) := by
  unfold State.rxData
  extract_lets x1 x2
  exact .ite (.refl _) (.ite (.ite (.protocolError ..) (.acceptData ..)) (.ite (.ite (.refl _) (.updLl ..)) (.ite (.refl _) (.protocolError ..))))

theorem Canon.rxNak (s : State) (q : ℕ) : Canon s (s.rxNak q) := .updLl ..

theorem Canon.rxInit (s : State) (q : ℕ) (f : Flit) : Canon s (s.rxInit q f) := by
  unfold State.rxInit
  extract_lets x1 x2 x3 x4 x5 x6
  exact .ite (.setPort ..) (.after (.tryUp ..) (.setPort ..))

theorem Canon.rxHold (s : State) (q : ℕ) (f : Flit) : Canon s (s.rxHold q f) := .updPort ..

theorem Canon.rxGood (s : State) (q : ℕ) (f : Flit) : Canon s (s.rxGood q f) := by
  unfold State.rxGood
  extract_lets s1
  have h1 : Canon s s1 := .rxHeader ..
  exact .ite (.after (.rxData ..) h1) (.ite (.ite (.after (.timeWord ..) h1) h1) (.ite (.after (.rxHold ..) h1) (.ite (.after (.rxInit ..) h1)
      (.ite (.after (.rxNak ..) h1) h1))))

theorem Canon.rxFlit (s : State) (q ty : ℕ) (x : BitVec 2048) (fec : Option ℕ) : Canon s (s.rxFlit q ty x fec) := by
  unfold State.rxFlit
  refine .ite (.refl _) ?_
  split
  · exact .after (.rxBad ..) (.fecSeen ..)
  · exact .ite (.after (.rxGood ..) (.fecSeen ..)) (.refl _)

theorem execTimeFlitReceived_canon (s : State) (q : PortIx) (flit : BitVec 2048) (fec : Option ℕ) :
    CanonOut s (execTimeFlitReceived q flit fec s) :=
  .clocked (.rxFlit ..)

theorem execDataFlitReceived_canon (s : State) (q : PortIx) (flit : BitVec 2048) (fec : Option ℕ) :
    CanonOut s (execDataFlitReceived q flit fec s) :=
  .clocked (.rxFlit ..)

theorem execNakReceived_canon (s : State) (q : PortIx) (flit : BitVec 2048) (fec : Option ℕ) : CanonOut s (execNakReceived q flit fec s) :=
  .clocked (.rxFlit ..)

theorem execIdleFlitReceived_canon (s : State) (q : PortIx) (flit : BitVec 2048) (fec : Option ℕ) :
    CanonOut s (execIdleFlitReceived q flit fec s) :=
  .clocked (.rxFlit ..)

theorem execHoldFlitReceived_canon (s : State) (q : PortIx) (flit : BitVec 2048) (fec : Option ℕ) :
    CanonOut s (execHoldFlitReceived q flit fec s) :=
  .clocked (.rxFlit ..)

theorem execInitFlitReceived_canon (s : State) (q : PortIx) (flit : BitVec 2048) (fec : Option ℕ) :
    CanonOut s (execInitFlitReceived q flit fec s) :=
  .clocked (.rxFlit ..)

theorem execMessageHeadArrival_canon (s : State) (q : PortIx) (vc : Fin 8) : CanonOut s (execMessageHeadArrival q vc s) := by
  unfold execMessageHeadArrival
  refine .clocked ?_
  extract_lets v
  split
  · extract_lets m0 m go
    have hgo : ∀ s r, Canon s (go s r) := fun _ _ => .after (.drainRx ..) (.updPort ..)
    clear_value go
    refine .ite (hgo ..) ?_
    split
    · exact .ite (.refl s) (hgo ..)
    · exact .after (hgo ..) (.dropMsg ..)
    · exact .ite (.refl s) (.after (hgo ..) (.updPort ..))
  · exact .refl s

theorem execPortTrainingDone_canon (s : State) (q : PortIx) : CanonOut s (execPortTrainingDone q s) := by
  unfold execPortTrainingDone
  refine .clocked ?_
  extract_lets x1
  exact .ite (.after (.groupsCheck ..) (.after (.holdToInit ..) (.setPort ..))) (.ite (.setPort ..) (.refl _))

theorem execPortTrainingTimeout_canon (s : State) (q : PortIx) : CanonOut s (execPortTrainingTimeout q s) := by
  unfold execPortTrainingTimeout
  refine .clocked ?_
  extract_lets x1 s1 s2 s3
  have h1 : Canon s s1 := .elapseNs ..
  have h2 : Canon s s2 := .after (.setPort ..) h1
  have h3 : Canon s s3 := .after (.logRec ..) h2
  exact .ite (.after (.groupsCheck ..) (.ite (.after (.fencePort ..) h3) h3)) (.refl _)

theorem execPortTrainingRetry_canon (s : State) (q : PortIx) : CanonOut s (execPortTrainingRetry q s) := by
  unfold execPortTrainingRetry
  refine .clocked ?_
  split
  · exact .after (.train ..) (.elapseNs ..)
  · exact .refl _

theorem execRetrainHoldExpiry_canon (s : State) (q : PortIx) : CanonOut s (execRetrainHoldExpiry q s) :=
  .clocked (.ite (.after (.portDown ..) (.elapseNs ..)) (.refl _))

theorem execBlockLockLoss_canon (s : State) (q : PortIx) : CanonOut s (execBlockLockLoss q s) := .clocked (.retrain ..)

theorem Canon.trainGroup (s : State) (g : ℕ) : Canon s (s.trainGroup g) := by
  unfold State.trainGroup
  refine .foldl _ (fun t a => ?_) _ _
  extract_lets x1
  exact .ite (.train ..) (.refl _)

theorem execLinkGroupTrainStart_canon (s : State) : CanonOut s (execLinkGroupTrainStart s) := by
  unfold execLinkGroupTrainStart
  refine .clocked ?_
  extract_lets x1 s1 x2 s2
  have h1 : Canon s s1 := .ite (.milestone ..) (.ite (.refl _) (.elapseNs ..))
  have h2 : Canon s s2 := .kept h1 rfl rfl
  exact .ite (.refl _) (.after (.groupsCheck ..) (.after (.trainGroup ..) h2))

theorem execLinkInjectTimeout_canon (s : State) : CanonOut s (execLinkInjectTimeout s) := by
  unfold execLinkInjectTimeout
  refine .clocked ?_
  extract_lets x1 x2 x3
  clear_value x2
  split
  · exact .refl _
  · extract_lets s1 x2 x4 x5 s2
    have h1 : Canon s s1 := .elapseTo ..
    have h2 : Canon s s2 := .after (.keepTx ..) (.kept h1 rfl rfl)
    exact .after (.pumpInject ..) (.after (.foldl _ (fun _ _ => .after (.injectRefused ..) (.dropMsg ..)) _ _) h2)

theorem execEthFrameTimer_canon (s : State) (k : Fin 8) : CanonOut s (execEthFrameTimer k s) := by
  unfold execEthFrameTimer
  refine .clocked ?_
  extract_lets x1
  exact .ite (.refl _) (.after (.ethSend ..) (.elapseNs ..))

theorem execEthIdleTimer_canon (s : State) (k : Fin 8) : CanonOut s (execEthIdleTimer k s) := by
  unfold execEthIdleTimer
  refine .clocked ?_
  extract_lets x1
  exact .ite (.after (.ethSend ..) (.after (.sendFlit ..) (.elapseNs ..))) (.refl _)

theorem execEthFrameReceived_canon (s : State) (k : Fin 8) (bytes : List Byte) (fcsOk : Bool) (fec : Option ℕ) :
    CanonOut s (execEthFrameReceived k bytes fcsOk fec s) := by
  unfold execEthFrameReceived
  refine .clocked ?_
  extract_lets x1 s1
  have h1 : Canon s s1 := .fecSeen ..
  refine .ite (.refl _) ?_
  split
  · exact .after (.tallyAdd ..) h1
  · refine .after (.foldl _ (fun t a => ?_) _ _) h1
    split
    · exact .rxBad ..
    · exact .ite (.refl _) (.rxGood ..)

theorem Canon.linkFrame (s : State) : Canon s (s.linkFrame) := .foldl _ (fun _ _ => .ite (.after (.updPort ..) (.retrain ..)) (.refl _)) _ _

theorem execSundialFrameBoundary_canon (s : State) : CanonOut s (execSundialFrameBoundary s) := by
  unfold execSundialFrameBoundary
  refine .next ?_
  extract_lets s1 x1 s2 s3
  have h1 : Canon s s1 := .elapseTo ..
  have h2 : Canon s s2 := .kept h1 rfl rfl
  have h3 : Canon s s3 := .after (.foldl _ (fun _ _ => .latchContract ..) _ _) h2
  exact .after (.lockCheck ..) (.after (.linkFrame ..) h3)

theorem Canon.portReset (s : State) (q : ℕ) : Canon s (s.portReset q) := by
  unfold State.portReset
  refine .ite (.refl _) ?_
  extract_lets x1 x2 s1 x3 x4 s2 s3 s4
  have h1 : Canon s s1 := .after (.dropTransit ..) (.keepTx ..)
  have h2 : Canon s s2 := .after (.foldl _ (fun _ _ => .owe ..) _ _) h1
  have h3 : Canon s s3 := .after (.updPort ..) h2
  have h4 : Canon s s4 := .after (.dropTransit ..) h3
  exact .after (.retrain ..) (.after (.foldl _ (fun _ _ => .dropMsg ..) _ _) h4)

theorem Canon.portEnable (s : State) (q v : ℕ) : Canon s (s.portEnable q v) := by
  unfold State.portEnable
  extract_lets s1
  have h1 : Canon s s1 := .setObj ..
  exact .ite (.ite h1 (.after (.groupsCheck ..) (.after (.portFall ..) h1))) (.ite (.after (.train ..) h1) h1)

theorem Canon.routeCommit (s : State) : Canon s (s.routeCommit) := .frame rfl rfl

theorem CanonOpt.linkWrite (s : State) (i sub v : ℕ) : CanonOpt s (s.linkWrite i sub v) := by
  unfold State.linkWrite
  refine .ite ?_ ?_
  · refine .ite ?_ ?_
    · exact .some (.pair _ (.portEnable ..))
    · refine .ite ?_ ?_
      · exact .some (.pair _ (.ite (.refl _) (.portReset ..)))
      · exact .none _
  · refine .ite ?_ ?_
    · exact .some (.pair _ (.ite (.refl _) (.routeCommit ..)))
    · refine .ite ?_ ?_
      · exact .some (.iteSnd (.pair _ (.refl _)) (.pair _ (.setObj ..)))
      · refine .ite ?_ ?_
        · exact .some (.pair _ (.refl _))
        · exact .none _

/-! ### The Dice -/

theorem Canon.updDice (s : State) (p : ℕ) (f : DiceSt → DiceSt) : Canon s (s.updDice p f) := .updPav ..

theorem Canon.diceLoad (s : State) (p v : ℕ) : Canon s (s.diceLoad p v).2 :=
  .iteSnd (.pair _ (.refl _)) (.iteSnd (.pair _ (.refl _)) (.pair _ (.updDice ..)))

theorem execDiceLoadCopyDone_canon (s : State) (p : PavIx) : CanonOut s (execDiceLoadCopyDone p s) := by
  unfold execDiceLoadCopyDone
  refine .clocked ?_
  extract_lets x1
  refine .ite (.refl _) ?_
  split
  · next s1 hx1 =>
      exact .of_snd (.unitRead ..) hx1
  · next s1 hx1 =>
      have h1 : Canon s s1 := .of_snd (.unitRead ..) hx1
      exact .after (.updDice ..) (.after (.unitEnd ..) h1)
  · next s1 hx1 =>
      have h1 : Canon s s1 := .of_snd (.unitRead ..) hx1
      extract_lets s2 x2 x3
      have h2 : Canon s s2 := .after (.unitEnd ..) h1
      exact .ite (.after (.updDice ..) h2) (.after (.updDice ..) h2)

theorem Canon.diceCommit (s : State) (p : ℕ) : Canon s (s.diceCommit p) := by
  unfold State.diceCommit
  extract_lets x1
  exact .updDice ..

theorem CanonOpt.diceWrite (s : State) (i sub v : ℕ) : CanonOpt s (s.diceWrite i sub v) := by
  unfold State.diceWrite
  refine .ite ?_ ?_
  · exact .none _
  · refine .some ?_
    split
    · exact .iteSnd (.pair _ (.refl _)) (.pair _ (.setObj ..))
    · exact .iteSnd (.pair _ (.refl _)) (.pair _ (.setObj ..))
    · exact .diceLoad ..
    · exact .pair _ (.setObj ..)

theorem Canon.dicePut (s : State) (src : RSrc) (pos c : ℕ) (row : List PByte) (tag : ℕ) (expert : Option ℕ) :
    Canon s (s.dicePut src pos c row tag expert) := by
  unfold State.dicePut
  extract_lets x1 x2 x3 x4
  exact .after (.pumpOwn ..) (.updRun ..)

theorem Canon.updRounds (s : State) (p : ℕ) (f : DRound → DRound) : Canon s (s.updRounds p f) := .updDice ..

theorem Canon.diceFinish (s : State) (p : ℕ) (r : DRound) (ch : Choice) (refused : Bool) (flags : ℕ) (row : List PByte) :
    Canon s (s.diceFinish p r ch refused flags row) := by
  unfold State.diceFinish
  split
  · extract_lets x1 x2 x3 x4 s1 s2
    have h1 : Canon s s1 := .dicePut ..
    have h2 : Canon s s2 := .ite (.after (.updRun ..) h1) h1
    exact .after (.updRounds ..) h2
  · exact .refl _

theorem Canon.diceRefused (s : State) (p : ℕ) : Canon s (s.diceRefused p) := by
  unfold State.diceRefused
  split
  · exact .refl _
  · refine .foldl _ (fun t a => ?_) _ _
    split
    · exact .diceFinish ..
    · exact .refl _

theorem Canon.diceOpen (s : State) (p : ℕ) : Canon s (s.diceOpen p) := by
  unfold State.diceOpen
  extract_lets x1 x2 x3 s1 x4 x5 x6
  have h1 : Canon s s1 := .ite (.diceCommit ..) (.ite (.updDice ..) (.refl _))
  exact .after (.updDice ..) h1

theorem Canon.diceJoin (s : State) (p n start : ℕ) (l : LongCmd) : Canon s (s.diceJoin p n start l) := by
  unfold State.diceJoin
  split
  · exact .refl _
  · extract_lets x1 x2 x3 x4 x5 x6
    split
    next s1 hx1 =>
      have h1 : Canon s s1 := .of_snd (.plotRead ..) hx1
      split
      next s2 hx2 =>
        have h2 : Canon s s2 := .of_snd (.after (.plotRead ..) h1) hx2
        extract_lets x7 x8 x9 x10
        exact .after (.updDice ..) h2

theorem Canon.diceSend (s : State) (p : ℕ) : Canon s (s.diceSend p) := by
  unfold State.diceSend
  split
  · exact .refl _
  · extract_lets x1 x2 x3 s1
    have h1 : Canon s s1 := .updDice ..
    refine .after (.foldl _ (fun t a => ?_) _ _) h1
    extract_lets x4 x5
    exact .sendMsg ..

theorem Canon.diceRoundEnd (s : State) (p : ℕ) : Canon s (s.diceRoundEnd p) := by
  unfold State.diceRoundEnd
  extract_lets x1
  split
  · exact .refl _
  · exact .ite (.updDice ..) (.refl _)

theorem Canon.diceAdvance (s : State) (fuel p : ℕ) : Canon s (State.diceAdvance fuel p s) := by
  induction fuel generalizing s with
  | zero => exact .refl s
  | succ fuel ih =>
    unfold State.diceAdvance
    split
    · exact .refl s
    · extract_lets isOver sk s1 r1 r2 s2 s3
      have h1 : Canon s s1 := .updDice ..
      have h3 : Canon s s3 := .after (.diceSend ..) (.after (.diceRefused ..) (.after (.updDice ..) h1))
      exact .ite (.after (.diceRoundEnd ..) (.after (.diceRefused ..) (.after (.updDice ..) h1))) (.ite (.after (ih _) h3) h3)

theorem Canon.dicePhase0 (s : State) (p : ℕ) : Canon s (s.dicePhase0 p) := by
  unfold State.dicePhase0
  split
  · exact .refl _
  · extract_lets x1 x2 s1 s2
    have h1 : Canon s s1 := .after (.diceRefused ..) (.updDice ..)
    have h2 : Canon s s2 := .after (.diceSend ..) h1
    exact .ite (.after (.diceAdvance ..) h2) h2

theorem Canon.diceFill (s : State) (fuel p : ℕ) : Canon s (State.diceFill fuel p s) := by
  induction fuel generalizing s with
  | zero => exact .refl s
  | succ fuel ih =>
    unfold State.diceFill
    split
    · exact .refl s
    · extract_lets s1
      have h1 : Canon s s1 := .dicePhase0 ..
      refine .ite (.refl s) (.ite (.ite (.after (ih _) (.after (.diceOpen ..) h1)) h1) ?_)
      split
      · exact .refl s
      · extract_lets s2
        have h2 : Canon s s2 := .updDice ..
        split
        · exact .after (ih _) (.after (.diceJoin ..) h2)
        · exact .after (ih _) h2

theorem Canon.diceKick (s : State) (p : ℕ) : Canon s (s.diceKick p) := by
  unfold State.diceKick
  extract_lets x1 s1
  have h1 : Canon s s1 := .ite (.diceOpen ..) (.refl _)
  exact .after (.diceFill ..) h1

theorem Canon.diceDisabled (s : State) (p n : ℕ) (l : LongCmd) : Canon s (s.diceDisabled p n l) := by
  unfold State.diceDisabled
  extract_lets x1 x2 x3 x4 x5
  split
  next s1 hx1 =>
    have h1 : Canon s s1 := .of_snd (.plotRead ..) hx1
    extract_lets s2
    have h2 : Canon s s2 := by
      unfold s2
      refine .after (.foldl _ (fun t a => ?_) _ _) h1
      split
      exact .foldl _ (fun _ _ => .dicePut ..) _ _
    exact .after (.updRun ..) h2

theorem Canon.diceBegin (s : State) (n : ℕ) (l : LongCmd) : Canon s (s.diceBegin n l) := by
  unfold State.diceBegin
  extract_lets x1 x2 s1 x3 x4
  have h1 : Canon s s1 := .updRun ..
  refine .ite (.updRun ..) ?_
  split
  · exact h1
  · exact .ite (.after (.diceDisabled ..) h1) (.after (.diceKick ..) (.after (.updDice ..) h1))

theorem execDicePortStart_canon (s : State) (c : CoreIx) : CanonOut s (execDicePortStart c s) := by
  unfold execDicePortStart
  refine .clocked ?_
  extract_lets c1 x1 x2
  split
  · exact .refl _
  · exact .ite (.refl _) (.ite (.after (.coreFault ..) (.setCore (.same rfl))) (.after (.diceBegin ..) (.after (.disturbCal ..) (.setCore (.same
      rfl)))))

theorem execDiceRoundClose_canon (s : State) (p : PavIx) : CanonOut s (execDiceRoundClose p s) := by
  unfold execDiceRoundClose
  refine .clocked ?_
  split
  · exact .ite (.after (.diceKick ..) (.after (.dicePhase0 ..) (.elapseTo ..))) (.refl _)
  · exact .refl _

theorem CanonOpt.takeMsg (s : State) (f : Msg → Bool) : CanonOpt s (s.takeMsg f) :=
  ⟨fun _ _ hx => .of_only (State.takeMsg_only hx) (by decide) (by decide)⟩

theorem Canon.diceOutcome (s : State) (p chip phase round : ℕ) (l : List (ℕ × Bool)) : Canon s (s.diceOutcome p chip phase round l) := .sendMsg ..

theorem Canon.diceRequests (s : State) (p : ℕ) (m : Msg) : Canon s (s.diceRequests p m) := .updDice ..

theorem execDiceReqReceived_canon (s : State) (p : PavIx) : CanonOut s (execDiceReqReceived p s) := by
  unfold execDiceReqReceived
  refine .clocked ?_
  split
  · exact .refl _
  · next s1 hx1 =>
      have h1 : Canon s s1 := .of_opt (.takeMsg ..) hx1
      split
      · exact .after (.diceRequests ..) h1
      · exact .after (.diceRequests ..) (.after (.diceOpen ..) h1)
      · exact .after (.diceOutcome ..) h1

theorem Canon.diceClose (s : State) (p : ℕ) : Canon s (s.diceClose p) := by
  unfold State.diceClose
  split
  · exact .refl _
  · extract_lets x1 x2
    split
    extract_lets x3 x4 s1 s2
    have h1 : Canon s s1 := .updDice ..
    have h2 : Canon s s2 := .after (.foldl _ (fun _ _ => .diceOutcome ..) _ _) h1
    exact .after (.diceKick ..) (.after (.diceRoundEnd ..) h2)

theorem execDicePhaseClose_canon (s : State) (p : PavIx) : CanonOut s (execDicePhaseClose p s) := by
  unfold execDicePhaseClose
  refine .clocked ?_
  split
  · exact .refl _
  · refine .ite (.refl _) (.ite (.diceClose ..) ?_)
    split
    · exact .after (.diceClose ..) (.elapseTo ..)
    · exact .refl _

theorem Canon.diceSendRow (s : State) (p : ℕ) (r : DRound) (c : Choice) : Canon s (s.diceSendRow p r c) := by
  unfold State.diceSendRow
  split
  · extract_lets x1 x2
    exact .sendMsg ..
  · exact .refl _

theorem Canon.diceAnswered (s : State) (p home : ℕ) (f : Choice → Choice) : Canon s (s.diceAnswered p home f) := by
  unfold State.diceAnswered
  split
  · exact .refl _
  · extract_lets x1 x2 x3 s1 x4 s2
    have h1 : Canon s s1 := .updDice ..
    have h2 : Canon s s2 := .after (.foldl _ (fun _ _ => .diceSendRow ..) _ _) h1
    exact .ite (.after (.diceKick ..) (.after (.diceAdvance ..) h2)) h2

theorem execDiceOutcomeReceived_canon (s : State) (p : PavIx) : CanonOut s (execDiceOutcomeReceived p s) := by
  unfold execDiceOutcomeReceived
  refine .clocked ?_
  split
  · exact .refl _
  · next s1 hx1 =>
      have h1 : Canon s s1 := .of_opt (.takeMsg ..) hx1
      split
      · exact h1
      · exact .ite h1 (.after (.diceAnswered ..) h1)

theorem execDiceRowReceived_canon (s : State) (p : PavIx) : CanonOut s (execDiceRowReceived p s) := by
  unfold execDiceRowReceived
  refine .clocked ?_
  split
  · exact .refl _
  · next s1 hx1 =>
      have h1 : Canon s s1 := .of_opt (.takeMsg ..) hx1
      exact .after (.updDice ..) h1

theorem Canon.diceReturn (s : State) (p k tag flags : ℕ) (refused : Bool) (row : List PByte) :
    Canon s (s.diceReturn p k tag flags refused row) := by
  unfold State.diceReturn
  extract_lets x1
  exact .sendMsg ..

theorem Canon.diceReturnAll (s : State) (p k n flags : ℕ) (tags : List (ℕ × Bool)) : Canon s (s.diceReturnAll p k n flags tags) :=
  .foldl _ (fun _ _ => .diceReturn ..) _ _

theorem execDiceInboxDeliver_canon (s : State) (p : PavIx) (expert : ℕ) : CanonOut s (execDiceInboxDeliver p expert s) := by
  unfold execDiceInboxDeliver
  refine .clocked ?_
  extract_lets x1
  split
  · exact .refl _
  · refine .ite (.refl _) ?_
    extract_lets s1 x2 x3 x4 x5 x6 s2 s3 s4 s5 x7
    have h1 : Canon s s1 := .updDice ..
    have h2 : Canon s s2 := by
      unfold s2
      refine .after (.foldl _ (fun t a => ?_) _ _) h1
      split
      exact .plotPut ..
    have h3 : Canon s s3 := by
      unfold s3
      refine .after (.foldl _ (fun t a => ?_) _ _) h2
      split
      exact .plotPut ..
    have h4 : Canon s s4 := .after (.plotPut ..) h3
    have h5 : Canon s s5 := .after (.cntAdd ..) h4
    exact .ite (.after (.diceReturnAll ..) h1) (.after (.updDice ..) h5)

theorem Canon.diceGive (s : State) (p : ℕ) (b : Inbox) (expired : Bool) : Canon s (s.diceGive p b expired) := by
  unfold State.diceGive
  extract_lets s1
  have h1 : Canon s s1 := .updDice ..
  refine .ite (.after (.diceReturnAll ..) h1) (.ite (.after (.foldl _ (fun t a => ?_) _ _) h1) (.ite (.after (.diceReturnAll ..) h1) (.refl _)))
  split
  extract_lets x1
  refine .ite (.diceReturn ..) ?_
  split
  next s2 hx1 =>
    have h2 : Canon t s2 := .of_snd (.plotRead ..) hx1
    exact .after (.diceReturn ..) h2

theorem execDiceRelease_canon (s : State) (p : PavIx) (expert : ℕ) : CanonOut s (execDiceRelease p expert s) := by
  unfold execDiceRelease
  refine .clocked ?_
  split
  · exact .refl _
  · exact .diceGive ..

theorem execDiceHoldExpiry_canon (s : State) (p : PavIx) (expert : ℕ) : CanonOut s (execDiceHoldExpiry p expert s) := by
  unfold execDiceHoldExpiry
  refine .clocked ?_
  split
  · exact .refl _
  · exact .after (.diceGive ..) (.elapseTo ..)

theorem execDiceResultReceived_canon (s : State) (p : PavIx) : CanonOut s (execDiceResultReceived p s) := by
  unfold execDiceResultReceived
  refine .clocked ?_
  split
  · exact .refl _
  · next s1 hx1 =>
      have h1 : Canon s s1 := .of_opt (.takeMsg ..) hx1
      split
      · exact .after (.tallyAdd ..) h1
      · exact .after (.diceFinish ..) h1

theorem Canon.diceLost (s : State) (p tag : ℕ) : Canon s (s.diceLost p tag) := by
  unfold State.diceLost
  split
  · exact .diceFinish ..
  · exact .refl _

theorem execDiceSourceExpiry_canon (s : State) (p : PavIx) : CanonOut s (execDiceSourceExpiry p s) := by
  unfold execDiceSourceExpiry
  refine .clocked ?_
  extract_lets x1
  split
  · exact .refl _
  · extract_lets x2 s1 x3
    have h1 : Canon s s1 := .elapseTo ..
    refine .after (.foldl _ (fun t a => .foldl _ (fun t a => ?_) _ _) _ _) h1
    split
    · exact .diceFinish ..
    · exact .refl _

theorem Canon.diceNotice (s : State) (p home phase round : ℕ) : Canon s (s.diceNotice p home phase round) := by
  unfold State.diceNotice
  split
  · exact .refl _
  · exact .ite (.diceAnswered ..) (.refl _)

theorem Canon.diceReset (s : State) (p : ℕ) : Canon s (s.diceReset p) := by
  unfold State.diceReset
  extract_lets x1 s1 s2 s3
  have h1 : Canon s s1 := .foldl _ (fun _ _ => .diceReturnAll ..) _ _
  have h2 : Canon s s2 := .after (.foldl _ (fun _ _ => .diceReturnAll ..) _ _) h1
  have h3 : Canon s s3 := .after (.foldl _ (fun _ _ => .ite (.refl _) (.foldl _ (fun _ _ => .diceReturnAll ..) _ _)) _ _) h2
  exact .after (.updDice ..) h3

/-! ### The Rotunda -/

theorem Canon.setInst (s : State) (p : ℕ) (x : Inst) : Canon s (s.setInst p x) := .updRot ..

theorem Canon.planTake (s : State) (p k : ℕ) : Canon s (s.planTake p k) := by
  unfold State.planTake
  split
  · exact .refl _
  · exact .ite (.refl _) (.updRot ..)

theorem Canon.planCommit (s : State) (p : ℕ) : Canon s (s.planCommit p) := .foldl _ (fun _ _ => .planTake ..) _ _

theorem Canon.planLoad (s : State) (p v : ℕ) : Canon s (s.planLoad p v).2 := .iteSnd (.pair _ (.refl _)) (.pair _ (.updRot ..))

theorem execRotPlanLoadDone_canon (s : State) (p : PavIx) : CanonOut s (execRotPlanLoadDone p s) := by
  unfold execRotPlanLoadDone
  refine .clocked ?_
  split
  · exact .refl _
  · split
    · next s1 hx1 =>
        exact .of_snd (.unitRead ..) hx1
    · next s1 hx1 =>
        have h1 : Canon s s1 := .of_snd (.unitRead ..) hx1
        exact .after (.updRot ..) (.after (.unitEnd ..) h1)
    · next s1 hx1 =>
        have h1 : Canon s s1 := .of_snd (.unitRead ..) hx1
        extract_lets s2 x1
        have h2 : Canon s s2 := .after (.unitEnd ..) h1
        exact .ite (.after (.updRot ..) h2) (.after (.planCommit ..) (.after (.updRot ..) h2))

theorem execRotPlanCommit_canon (s : State) (p : PavIx) : CanonOut s (execRotPlanCommit p s) := .clocked (.planCommit ..)

theorem CanonOpt.rotWrite (s : State) (i sub v : ℕ) : CanonOpt s (s.rotWrite i sub v) := by
  unfold State.rotWrite
  refine .ite ?_ ?_
  · exact .none _
  · refine .some ?_
    split
    · exact .iteSnd (.pair _ (.refl _)) (.pair _ (.setObj ..))
    · exact .planLoad ..
    · exact .pair _ (.setObj ..)

theorem Canon.rotSend (s : State) (p : ℕ) (x : Inst) (k : ℕ) (gather : Bool) (off n : ℕ) : Canon s (s.rotSend p x k gather off n) := by
  unfold State.rotSend
  extract_lets x1 x2 x3
  refine .foldl _ (fun t a => ?_) _ _
  split
  extract_lets x4
  exact .sendMsg ..

theorem Canon.rotEnter (s : State) (p : ℕ) (x : Inst) : Canon s (s.rotEnter p x) := by
  unfold State.rotEnter
  extract_lets x1
  split
  · exact .setInst ..
  · extract_lets x2 x3
    split
    extract_lets x4
    exact .after (.rotSend ..) (.setInst ..)

theorem Canon.rotPut (s : State) (n cmd : ℕ) (cnt : Option ℕ) (at_ : ℕ) (d : List PByte) : Canon s (s.rotPut n cmd cnt at_ d) :=
  .after (.pumpOwn ..) (.updRun ..)

theorem Canon.rotRecordPut (s : State) (n cmd : ℕ) (cnt : Option ℕ) (at_ : ℕ) (rc : List Byte) : Canon s (s.rotRecordPut n cmd cnt at_ rc) :=
  .after (.rotPut ..) (.updRun ..)

theorem Canon.rotConclude (s : State) (p k : ℕ) : Canon s (s.rotConclude p k) := by
  unfold State.rotConclude
  split
  · exact .refl _
  · exact .ite (.after (.planCommit ..) (.updRot ..)) (.refl _)

theorem Canon.rotDropDst (s : State) (y : Part) : Canon s (s.rotDropDst y) := .updRun ..

theorem Canon.rotFailRecords (s : State) (p k : ℕ) : Canon s (s.rotFailRecords p k) := by
  unfold State.rotFailRecords
  split
  · exact .refl _
  · split
    · exact .refl _
    · extract_lets s1
      have h1 : Canon s s1 := .foldl _ (fun _ _ => .after (.rotRecordPut ..) (.rotDropDst ..)) _ _
      exact .after (.rotConclude ..) (.after (.setInst ..) h1)

theorem Canon.rotRecords (s : State) (p k : ℕ) : Canon s (s.rotRecords p k) := by
  unfold State.rotRecords
  split
  · exact .refl _
  · refine .ite (.refl _) ?_
    extract_lets x1 s1
    have h1 : Canon s s1 := .foldl _ (fun _ _ => .rotRecordPut ..) _ _
    exact .after (.rotConclude ..) (.after (.setInst ..) h1)

theorem Canon.rotAbort (s : State) (p k num code origin : ℕ) : Canon s (s.rotAbort p k num code origin) := by
  unfold State.rotAbort
  extract_lets x1
  refine .foldl _ (fun t a => ?_) _ _
  extract_lets x2
  exact .ite (.refl _) (.foldl _ (fun _ _ => .after (.tallyAdd ..) (.sendMsg ..)) _ _)

theorem Canon.rotFail (s : State) (p k code origin : ℕ) (remote : Bool) : Canon s (s.rotFail p k code origin remote) := by
  unfold State.rotFail
  extract_lets x1 s1
  have h1 : Canon s s1 := .setInst ..
  exact .ite (.refl _) (.after (.rotFailRecords ..) (.after (.rotAbort ..) h1))

theorem Canon.rotSrc (s : State) (y : Part) (off n : ℕ) : Canon s (s.rotSrc y off n).2 := .plotRead ..

theorem Canon.rotFold (s : State) (p : ℕ) (x : Inst) : Canon s (s.rotFold p x).2 := by
  unfold State.rotFold
  extract_lets x1 x2 x3 x4 x5
  split
  · refine .foldl_snd _ (fun a t b => ?_) _ _ _
    split
    extract_lets x6
    split
    next s1 hx1 =>
      have h1 : Canon t s1 := .of_snd (.after (.rotSrc ..) (.pair _ (.refl _))) hx1
      exact .pair _ h1
  · clear_value x2
    split
    · refine .iteSnd ?_ (.pair _ (.refl _))
      split
      next s1 hx1 =>
        have h1 : Canon s s1 := .of_snd (.rotSrc ..) hx1
        exact .pair _ h1
    · exact .pair _ (.refl _)
  · clear_value x2
    split
    · exact .pair _ (.refl _)
    · split
      next s1 hx1 =>
        have h1 : Canon s s1 := .of_snd (.rotSrc ..) hx1
        refine .after (.foldl_snd _ (fun a t b => ?_) _ _ _) h1
        split
        next s2 hx2 =>
          have h2 : Canon t s2 := .of_snd (.after (.rotSrc ..) (.pair _ (.refl _))) hx2
          split
          exact .pair _ h2

theorem Canon.castSend (s : State) (p : ℕ) (x : Inst) (off n : ℕ) : Canon s (s.castSend p x off n) := by
  unfold State.castSend
  extract_lets x1 x2
  refine .foldl _ (fun t a => ?_) _ _
  extract_lets x3
  exact .ite (.refl _) (.rotSend ..)

theorem Canon.rotLaunch (s : State) (p k : ℕ) : Canon s (s.rotLaunch p k) := by
  unfold State.rotLaunch
  split
  · exact .refl _
  · extract_lets x1 x2 x3 x4
    refine .ite (.after (.rotFail ..) (.setInst ..)) ?_
    split
    next s1 hx1 =>
      have h1 : Canon s s1 := .of_snd (.rotFold ..) hx1
      extract_lets x5 s2
      have h2 : Canon s s2 := .after (.setInst ..) h1
      exact .ite (.ite (.after (.castSend ..) h2) h2) (.after (.rotEnter ..) h1)

theorem Canon.rotReady (s : State) (p k : ℕ) : Canon s (s.rotReady p k) := by
  unfold State.rotReady
  split
  · exact .refl _
  · refine .ite (.refl _) ?_
    split
    · exact .refl _
    · exact .ite (.rotLaunch ..) (.refl _)

theorem Canon.rotStarted (s : State) (p k : ℕ) : Canon s (s.rotStarted p k) := by
  unfold State.rotStarted
  split
  · exact .refl _
  · refine .ite (.refl _) ?_
    extract_lets x1 x2 x3
    exact .after (.rotReady ..) (.setInst ..)

theorem execCollectiveLaunch_canon (s : State) (p : PavIx) (plan : ℕ) : CanonOut s (execCollectiveLaunch p plan s) := by
  unfold execCollectiveLaunch
  refine .clocked ?_
  split
  · exact .refl _
  · refine .ite (.refl _) ?_
    split
    · exact .ite (.after (.rotReady ..) (.elapseTo ..)) (.refl _)
    · exact .rotReady ..

theorem Canon.planInvalid (s : State) (p n : ℕ) (l : LongCmd) (k : ℕ) : Canon s (s.planInvalid p n l k) := .rotRecordPut ..

theorem Canon.collectBegin (s : State) (n : ℕ) (l : LongCmd) : Canon s (s.collectBegin n l) := by
  unfold State.collectBegin
  split
  refine .ite (.updRun ..) ?_
  extract_lets s1 x1 x2
  have h1 : Canon s s1 := .updRun ..
  split
  · exact h1
  · extract_lets x3 x4 s2
    have h2 : Canon s s2 := .after (.setInst ..) h1
    exact .ite (.after (.planInvalid ..) h1) (.ite (.after (.planInvalid ..) (.after (.setInst ..) h1)) (.ite (.after (.rotFailRecords ..) h2)
        (.after (.rotStarted ..) h2)))

theorem execCollectPortStart_canon (s : State) (c : CoreIx) : CanonOut s (execCollectPortStart c s) := by
  unfold execCollectPortStart
  refine .clocked ?_
  extract_lets c1
  split
  · exact .refl _
  · exact .ite (.refl _) (.after (.collectBegin ..) (.after (.disturbCal ..) (.setCore (.same rfl))))

theorem Canon.rotTake (s : State) (p : ℕ) (x : Inst) (k : ℕ) (g : Bool) (a : ℕ) (d : List PByte) (sat : Bool) :
    Canon s (s.rotTake p x k g a d sat) := by
  unfold State.rotTake
  extract_lets x1 x2 x3
  split
  extract_lets x4 x5 x6
  refine .ite (.rotFail ..) ?_
  split
  extract_lets x7 x8 s1 s2
  have h1 : Canon s s1 := .setInst ..
  have h2 : Canon s s2 := .ite (.after (.rotSend ..) h1) h1
  exact .ite h2 (.after (.rotEnter ..) h2)

theorem Canon.castTake (s : State) (p : ℕ) (x : Inst) (k a len : ℕ) (d : List PByte) : Canon s (s.castTake p x k a len d) := by
  unfold State.castTake
  extract_lets x1 x2 x3 x4
  exact .ite (.rotFail ..) (.after (.castSend ..) (.setInst ..))

theorem execRotundaDataReceived_canon (s : State) (p : PavIx) : CanonOut s (execRotundaDataReceived p s) := by
  unfold execRotundaDataReceived
  refine .clocked ?_
  split
  · exact .refl _
  · next s1 hx1 =>
      have h1 : Canon s s1 := .of_opt (.takeMsg ..) hx1
      refine .ite (.after (.tallyAdd ..) h1) (.ite (.after (.tallyAdd ..) h1) (.ite (.after (.castTake ..) h1) ?_))
      split
      · exact h1
      · exact .ite h1 (.ite (.after (.rotFail ..) h1) (.ite (.after (.rotTake ..) h1) (.after (.rotFail ..) h1)))

theorem execRotundaCtrlReceived_canon (s : State) (p : PavIx) : CanonOut s (execRotundaCtrlReceived p s) := by
  unfold execRotundaCtrlReceived
  refine .clocked ?_
  split
  · exact .refl _
  · next s1 hx1 =>
      have h1 : Canon s s1 := .of_opt (.takeMsg ..) hx1
      exact .ite (.after (.tallyAdd ..) h1) (.ite (.after (.tallyAdd ..) h1) (.after (.rotFail ..) h1))

theorem execCollectiveDeadline_canon (s : State) (p : PavIx) (plan : ℕ) : CanonOut s (execCollectiveDeadline p plan s) := by
  unfold execCollectiveDeadline
  refine .clocked ?_
  split
  · exact .refl _
  · split
    · exact .refl _
    · exact .ite (.refl _) (.after (.rotFail ..) (.elapseTo ..))

theorem execCollectiveResultWritten_canon (s : State) (p : PavIx) (plan : ℕ) : CanonOut s (execCollectiveResultWritten p plan s) := by
  unfold execCollectiveResultWritten
  refine .clocked ?_
  split
  · exact .refl _
  · refine .ite (.refl _) (.ite (.rotRecords ..) ?_)
    extract_lets x1 s1
    have h1 : Canon s s1 := by
      unfold s1
      refine .foldl _ (fun t a => ?_) _ _
      split
      exact .rotPut ..
    exact .after (.rotRecords ..) (.after (.setInst ..) h1)

theorem Canon.rotResume (s : State) (n cmd : ℕ) : Canon s (s.rotResume n cmd) := by
  unfold State.rotResume
  extract_lets s1
  have h1 : Canon s s1 := .pumpOwn ..
  split
  · exact .after (.rotRecords ..) h1
  · exact h1

theorem Canon.rotReset (s : State) (p : ℕ) : Canon s (s.rotReset p) := by
  unfold State.rotReset
  extract_lets x1 x2 s1
  have h1 : Canon s s1 := .foldl _ (fun _ _ => .rotAbort ..) _ _
  exact .after (.planCommit ..) (.after (.updRot ..) h1)

theorem Canon.noticed (s : State) (m : Msg) (reason : ℕ) : Canon s (s.noticed m reason) := by
  unfold State.noticed
  extract_lets x1
  split
  · exact .ite (.diceNotice ..) (.refl _)
  · exact .ite (.diceNotice ..) (.refl _)
  · exact .ite (.diceLost ..) (.refl _)
  · exact .ite (.diceLost ..) (.refl _)
  · exact .ite (.rotFail ..) (.refl _)
  · exact .ite (.rotFail ..) (.refl _)
  · exact .refl _

theorem execNoticeReceived_canon (s : State) : CanonOut s (execNoticeReceived s) := by
  unfold execNoticeReceived
  refine .clocked ?_
  split
  · exact .refl _
  · next s1 hx1 =>
      have h1 : Canon s s1 := .of_opt (.takeMsg ..) hx1
      exact .after (.noticed ..) h1

/-! ### Tag events -/

theorem Canon.beginAgain (s : State) (n : ℕ) (e : Eng) (l : LongCmd) : Canon s (s.beginAgain n e l) := by
  unfold State.beginAgain
  split
  · exact .moverBegin ..
  · exact .diceBegin ..
  · exact .collectBegin ..
  · exact .parterreBegin ..
  · exact .trellisBegin ..

theorem Canon.tagResume (s : State) (n : ℕ) (e : Eng) : Canon s (s.tagResume n e) := by
  unfold State.tagResume
  split
  · exact .refl _
  · refine .ite (.beginAgain ..) ?_
    extract_lets c1 s1
    have h1 : Canon s s1 := .updRun ..
    split
    · exact .after (.pump ..) h1
    · exact .after (.rotResume ..) h1
    · exact .after (.pumpOwn ..) h1

theorem execTagAccessResume_canon (s : State) (c : CoreIx) (e : Eng) : CanonOut s (execTagAccessResume c e s) := .clocked (.tagResume ..)

theorem Canon.portComplete (s : State) (n : ℕ) (e : Eng) : Canon s (s.portComplete n e) := by
  unfold State.portComplete
  split
  · exact .ite (.retire ..) (.refl _)
  · exact .refl _

theorem execLongCommandComplete_canon (s : State) (c : CoreIx) (e : Eng) : CanonOut s (execLongCommandComplete c e s) := by
  unfold execLongCommandComplete
  refine .clocked ?_
  split
  · exact .moverComplete ..
  · exact .parterreComplete ..
  · exact .trellisComplete ..
  · exact .portComplete ..
  · exact .portComplete ..

end Sys2Proof.Machine
end

section
/-! PROOF. What keeps memories canonical: Pavilions, PCIe, power and integrity (09 R240; 10 R270). -/

namespace Sys2Proof.Machine
open Sys2Proof.Safety

/-! ### Pavilions (15) -/

theorem PlotCanon.stopReset (c : Core) : PlotCanon c (c.stopReset) := .same rfl

theorem Canon.leaseDrop (s : State) (p n : ℕ) : Canon s (s.leaseDrop p n) := .ite (.updPav ..) (.refl _)

theorem Canon.dropCommands (s : State) (n : ℕ) : Canon s (s.dropCommands n) := by
  unfold State.dropCommands
  extract_lets s1 x1 x2 s2
  have h1 : Canon s s1 := .foldl _ (fun _ _ => .parterreComplete ..) _ _
  have h2 : Canon s s2 := .kept h1 rfl rfl
  exact .after (.updCore fun _ => .same rfl) h2

theorem PlotCanon.clearReset (c : Core) : PlotCanon c (c.clearReset) := by
  unfold Core.clearReset
  extract_lets c1 x1 x2 x3 x4 x5
  have hc1 : PlotCanon c c1 := .scrubOrWait ..
  exact .kept hc1 rfl

theorem Canon.resetCore (s : State) (n : ℕ) : Canon s (s.resetCore n) := by
  unfold State.resetCore
  extract_lets s1 x1 s2
  have h1 : Canon s s1 := .dropCommands ..
  have h2 : Canon s s2 := .ite h1 (.after (.tallyPav ..) h1)
  exact .after (.settle ..) (.after (.updCore fun _ => .clearReset ..) h2)

theorem Canon.dropDelivered (s : State) (p : ℕ) : Canon s (s.dropDelivered p) := by
  unfold State.dropDelivered
  extract_lets x1 x2 x3 x4 s1
  have h1 : Canon s s1 := .frame rfl rfl
  exact .after (.foldl _ (fun _ _ => .ite (.after (.tallyAdd ..) (.tallyAdd ..)) (.dropMsg ..)) _ _) h1

theorem Canon.pavStop (s : State) (p : ℕ) (st : PState) (code : ℕ) : Canon s (s.pavStop p st code) := by
  unfold State.pavStop
  extract_lets s1 s2 s3
  have h1 : Canon s s1 := .updPav ..
  have h2 : Canon s s2 := .after (.foldl _ (fun _ _ => .after (.updCore fun _ => .stopReset ..) (.leaseDrop ..)) _ _) h1
  have h3 : Canon s s3 := .after (.dropDelivered ..) (.after (.diceReset ..) (.after (.rotReset ..) h2))
  exact .after (.syncChip ..) (.after (.endRequester ..) h3)

theorem Canon.pavResetBy (s : State) (p code : ℕ) : Canon s (s.pavResetBy p code) := by
  unfold State.pavResetBy
  split
  · exact .pavStop ..
  · exact .refl _

theorem Canon.pavReset (s : State) (p v : ℕ) : Canon s (s.pavReset p v).2 :=
  .iteSnd (.pair _ (.refl _)) (.iteSnd (.pair _ (.refl _)) (.pair _ (.pavResetBy ..)))

theorem Canon.pavDestroy (s : State) (p v : ℕ) : Canon s (s.pavDestroy p v).2 := by
  unfold State.pavDestroy
  refine .iteSnd (.pair _ (.refl _)) ?_
  extract_lets s1
  have h1 : Canon s s1 := .updPav ..
  split
  · exact .pair _ (.after (.updPav ..) h1)
  · exact .pair _ h1
  · exact .pair _ (.after (.pavStop ..) h1)

theorem Canon.pavClear (s : State) (p : ℕ) : Canon s (s.pavClear p) := by
  unfold State.pavClear
  extract_lets s1 s2
  have h1 : Canon s s1 := .foldl _ (fun _ _ => .resetCore ..) _ _
  have h2 : Canon s s2 := .after (.orgDrop ..) h1
  exact .after (.updPav ..) (.after (.bsReset ..) h2)

theorem execPavResetDrainComplete_canon (s : State) (p : PavIx) : CanonOut s (execPavResetDrainComplete p s) := .next (.ite (.pavClear ..) (.refl _))

theorem Canon.pavStep8 (s : State) (p : ℕ) : Canon s (s.pavStep8 p) := by
  unfold State.pavStep8
  extract_lets s1 s2 s3 s4
  have h1 : Canon s s1 := .updFn ..
  have h2 : Canon s s2 := .after (.raiseVf ..) h1
  have h3 : Canon s s3 := .after (.updPav ..) h2
  have h4 : Canon s s4 := .after (.updFn ..) h3
  exact .after (.raise ..) h4

theorem execPavResetComplete_canon (s : State) (p : PavIx) : CanonOut s (execPavResetComplete p s) :=
  .next (.ite (.after (.syncChip ..) (.after (.updPav ..) (.pavStep8 ..))) (.refl _))

theorem Canon.zeroRange (s : State) (b n : ℕ) : Canon s (s.zeroRange b n) := .setMem (Mem.wf_zero _ _) rfl

theorem Canon.pavRelease (s : State) (p : ℕ) : Canon s (s.pavRelease p) := by
  unfold State.pavRelease
  extract_lets s1 s2 s3
  have h1 : Canon s s1 := by
    unfold s1
    refine .ite (.foldl _ (fun t a => ?_) _ _) (.refl _)
    split
    exact .ite (.refl _) (.zeroRange ..)
  have h2 : Canon s s2 := .after (.setObj ..) h1
  have h3 : Canon s s3 := .after (.foldl _ (fun _ _ => .after (.setObj ..) (.setObj ..)) _ _) h2
  exact .after (.syncChip ..) (.after (.updPav ..) (.after (.setObj ..) h3))

theorem execPavDestroyComplete_canon (s : State) (p : PavIx) : CanonOut s (execPavDestroyComplete p s) :=
  .next (.ite (.after (.pavRelease ..) (.pavStep8 ..)) (.refl _))

theorem Canon.pavCoreReset (s : State) (p n : ℕ) : Canon s (s.pavCoreReset p n).2 := by
  unfold State.pavCoreReset
  split
  · exact .refl s
  · split
    · exact .refl s
    · split
      · exact .refl s
      · dsimp only
        refine .after (.updCore fun c => ?_) (.leaseDrop ..)
        exact .kept (.stopReset c) rfl

theorem execCoreResetComplete_canon (s : State) (c : CoreIx) : CanonOut s (execCoreResetComplete c s) :=
  .next (.ite (.after (.raiseCore ..) (.resetCore ..)) (.refl _))

theorem PlotCanon.fresh (c : Core) : PlotCanon c (c.fresh) := by
  unfold Core.fresh
  extract_lets c1 x1
  have hc1 : PlotCanon c c1 := .scrubOrWait ..
  exact .kept hc1 rfl

theorem Canon.pavHistory (s : State) (p : ℕ) : Canon s (s.pavHistory p) := by
  unfold State.pavHistory
  extract_lets x1 x2 x3 s1 x4 x5 s2
  have h1 : Canon s s1 := .frame rfl rfl
  have h2 : Canon s s2 := .after (.setPav ..) h1
  exact .after (.updPav ..) (.after (.latchContract ..) (.after (.tallyClearPav ..) h2))

theorem Canon.pavCreate (s : State) (p v : ℕ) : Canon s (s.pavCreate p v).2 := by
  unfold State.pavCreate
  refine .iteSnd (.pair _ (.refl _)) (.iteSnd (.pair _ (.refl _)) (.iteSnd (.pair _ (.refl _)) ?_))
  extract_lets s1 s2 s3
  have h1 : Canon s s1 := .foldl _ (fun _ _ => .updCore fun _ => .fresh ..) _ _
  have h2 : Canon s s2 := .after (.updFn ..) h1
  have h3 : Canon s s3 := .after (.updPav ..) h2
  exact .pair _ (.after (.syncChip ..) (.after (.pavHistory ..) h3))

theorem Canon.pavSetCores (s : State) (p new : ℕ) : Canon s (s.pavSetCores p new).2 := by
  unfold State.pavSetCores
  extract_lets old code gone come s1 s2
  have h1 : Canon s s1 := .foldl _ (fun _ _ => .after (.raiseVf ..) (.resetCore ..)) _ _
  have h2 : Canon s s2 := .after (.setObj ..) h1
  split
  · exact .refl s
  · dsimp only
    refine .after (.foldl _ (fun t n => .after (.tallyClearCore ..) (.updCore fun c => ?_)) _ _) h2
    exact .kept (.scrubOrWait c) rfl

theorem Canon.pavSetRange (s : State) (p sub v : ℕ) : Canon s (s.pavSetRange p sub v).2 := by
  unfold State.pavSetRange
  extract_lets x1
  split
  split
  refine .iteSnd (.pair _ (.refl _)) ?_
  extract_lets x2 s1
  have h1 : Canon s s1 := .foldl _ (fun _ _ => .ite (.refl _) (.orgDrop ..)) _ _
  exact .pair _ (.after (.setObj ..) h1)

theorem Canon.ptRootWrite (s : State) (p v : ℕ) : Canon s (s.ptRootWrite p v).2 := by
  unfold State.ptRootWrite
  refine .iteSnd (.pair _ (.refl _)) (.pair _ (.after (.foldl _ (fun t a => ?_) _ _) (.setObj ..)))
  exact .updCore fun _ => .same rfl

theorem CanonOpt.pavWrite (s : State) (i sub v : ℕ) : CanonOpt s (s.pavWrite i sub v) := by
  unfold State.pavWrite
  refine .ite ?_ ?_
  · refine .ite ?_ ?_
    · exact .some (.ptRootWrite ..)
    · refine .ite ?_ ?_
      · exact .some (.pair _ (.refl _))
      · exact .some (.pair _ (.setObj ..))
  · refine .ite ?_ ?_
    · exact .none _
    · extract_lets x1
      refine .ite ?_ ?_
      · exact .some (.pavSetRange ..)
      · split
        · exact .some (.pavSetCores ..)
        · exact .some (.pavCreate ..)
        · exact .some (.pavDestroy ..)
        · exact .some (.pavReset ..)
        · exact .some (.pavCoreReset ..)
        · exact .none _

/-! ### PCIe (03, 15) -/

theorem execIntPendingClear_canon (s : State) (f : FnIx) (v : Word) : CanonOut s (execIntPendingClear f v s) := .next (.ite (.updFn ..) (.refl _))

theorem execIntMaskWrite_canon (s : State) (f : FnIx) (v : Word) : CanonOut s (execIntMaskWrite f v s) := by
  unfold execIntMaskWrite
  refine .next (.ite ?_ (.refl _))
  extract_lets x1 s1
  have h1 : Canon s s1 := .setFn ..
  exact .after (.foldl _ (fun _ _ => .sendIrq ..) _ _) h1

theorem execListDoneMapClear_canon (s : State) (f : FnIx) (word : Fin 5) (v : Word) : CanonOut s (execListDoneMapClear f word v s) :=
  .next (.ite (.updFn ..) (.refl _))

theorem Canon.flushPba (s : State) (f : ℕ) : Canon s (s.flushPba f) := .foldl _ (fun _ _ => .ite (.after (.sendMsix ..) (.updFn ..)) (.refl _)) _ _

theorem execMsixEnable_canon (s : State) (f : FnIx) (on : Bool) : CanonOut s (execMsixEnable f on s) :=
  .next (.ite (.after (.flushPba ..) (.updFn ..)) (.refl _))

theorem Canon.bar0Write (s : State) (f off len v : ℕ) : Canon s (s.bar0Write f off len v) := by
  unfold State.bar0Write
  extract_lets s1 s2 s3
  have h1 : Canon s s1 := .updReq ..
  have h2 : Canon s s2 := .after (.updReq ..) h1
  have h3 : Canon s s3 := .after (.updFn ..) h2
  exact .after (.flushPba ..) h3

theorem execBar0UnmappedAccess_canon (s : State) (f : FnIx) (write : Bool) (off len : ℕ) (v : DWord) :
    CanonOut s (execBar0UnmappedAccess f write off len v s) :=
  .next (.ite (.refl _) (.ite (.bar0Write ..) (.emit ..)))

theorem Canon.posted (s : State) (f : ℕ) : Canon s (s.posted f) := by
  unfold State.posted
  extract_lets x1 x2
  exact .after (.foldl _ (fun _ _ => .packetArrives ..) _ _) (.frame rfl rfl)

theorem execDoorbell_canon (s : State) (p : PavIx) (v : DWord) (width : ℕ) : CanonOut s (execDoorbell p v width s) := by
  unfold execDoorbell
  refine .next (.ite (.refl _) ?_)
  extract_lets s1 x1
  have h1 : Canon s s1 := .posted ..
  exact .ite (.after (.tallyAdd ..) h1) (.after (.startRequest ..) h1)

theorem execDbRefusalRead_canon (s : State) (p : PavIx) : CanonOut s (execDbRefusalRead p s) := .next (.ite (.after (.updFn ..) (.emit ..)) (.refl _))

theorem Canon.unbacked (s : State) (f : ℕ) (write : Bool) : Canon s (s.unbacked f write) := by
  unfold State.unbacked
  extract_lets s1
  have h1 : Canon s s1 := .tallyPav ..
  exact .ite h1 (.after (.emit ..) h1)

theorem Canon.hostMark (s : State) (f tier len : ℕ) : Canon s (s.hostMark f tier len) := by
  unfold State.hostMark
  split
  · exact .refl _
  · split
    next s1 hx1 =>
      have h1 : Canon s s1 := .of_snd (.classOf ..) hx1
      exact .after (.mark ..) h1

theorem execBar2Access_canon (s : State) (f : FnIx) (write : Bool) (off len : ℕ) (data : List Byte) (ep : Bool) :
    CanonOut s (execBar2Access f write off len data ep s) := by
  unfold execBar2Access
  refine .next ?_
  extract_lets x1
  refine .ite (.refl _) ?_
  split
  · exact .unbacked ..
  · extract_lets s1
    have h1 : Canon s s1 := .hostMark ..
    refine .ite (.after (.physWrite ..) h1) ?_
    split
    next s2 hx1 =>
      have h2 : Canon s s2 := .of_snd (.after (.physRead ..) h1) hx1
      exact .after (.emit ..) h2

theorem Canon.gatewayWrite (s : State) (p n a : ℕ) (d : List PByte) : Canon s (s.gatewayWrite p n a d) := by
  unfold State.gatewayWrite
  refine .foldl _ (fun t b => ?_) _ _
  split
  next s1 hx1 =>
    have h1 : Canon t s1 := .of_snd (.fresh ..) hx1
    exact .kept h1 rfl rfl

theorem execBar4Access_canon (s : State) (f : FnIx) (write : Bool) (off len : ℕ) (data : List Byte) (ep : Bool) :
    CanonOut s (execBar4Access f write off len data ep s) := by
  unfold execBar4Access
  refine .next ?_
  extract_lets x1 s1 s2
  have h1 : Canon s s1 := .hostMark ..
  have h2 : Canon s s2 := .after (.posted ..) h1
  refine .ite (.refl _) ?_
  split
  · exact .unbacked ..
  · refine .ite (.after (.gatewayWrite ..) h1) ?_
    extract_lets x2
    exact .after (.emit ..) h2

theorem Canon.hostEnd (s : State) (rid : ℕ) (d : Option (List PByte)) : Canon s (s.hostEnd rid d) := by
  unfold State.hostEnd
  split
  · exact .refl _
  · extract_lets x1 s1
    have h1 : Canon s s1 := .frame rfl rfl
    split
    · exact .after (.deliver ..) h1
    · exact .after (.deliver ..) (.after (.memFault ..) h1)

theorem Canon.fetchEnd (s : State) (rid : ℕ) (d : Option (List PByte)) : Canon s (s.fetchEnd rid d) := by
  unfold State.fetchEnd
  split
  · exact .refl _
  · extract_lets x1 s1
    have h1 : Canon s s1 := .frame rfl rfl
    exact .ite (.after (.bsResume ..) h1) h1

theorem Canon.hostDone (s : State) (rid : ℕ) (d : Option (List PByte)) : Canon s (s.hostDone rid d) := .after (.fetchEnd ..) (.hostEnd ..)

theorem Canon.hostLost (s : State) : Canon s (s.hostLost) := by
  unfold State.hostLost
  extract_lets x1
  exact .foldl _ (fun _ _ => .hostDone ..) _ _

theorem execHostCompletion_canon (s : State) (rid : ℕ) (ok : Bool) (data : List Byte) (ep : Bool) :
    CanonOut s (execHostCompletion rid ok data ep s) :=
  .next (.hostDone ..)

theorem execHostCompletionTimeout_canon (s : State) (rid : ℕ) : CanonOut s (execHostCompletionTimeout rid s) := .next (.hostDone ..)

theorem execPcieConfigRequest_canon (s : State) (f : FnIx) (req : CfgReq) : CanonOut s (execPcieConfigRequest f req s) := by
  unfold execPcieConfigRequest
  refine .next (.ite (.refl s) (.ite (.emit ..) (.ite (.emit ..) ?_)))
  extract_lets s1 pf
  have h1 : Canon s s1 := by
    unfold s1
    split
    · exact .emit ..
    · exact .emit ..
  have hpf : ∀ g, Canon s (pf g) := fun _ => .ite (.kept h1 rfl rfl) h1
  clear_value pf
  split
  · exact h1
  · exact hpf _
  · exact hpf _
  · exact hpf _
  · exact hpf _
  · exact .after (.flushPba ..) (.after (.updFn ..) h1)
  · exact .after (.flushPba ..) (.after (.updFn ..) h1)
  · exact .kept h1 rfl rfl

theorem execFlr_canon (s : State) (f : FnIx) : CanonOut s (execFlr f s) := by
  unfold execFlr
  refine .next (.ite (.refl _) (.ite ?_ (.after (.pavResetBy ..) (.after (.updFn ..) (.after (.cancelFn ..) (.endRequester ..))))))
  extract_lets s1
  have h1 : Canon s s1 := .after (.setFn ..) (.after (.setReq ..) (.after (.cancelFn ..) (.endRequester ..)))
  exact .kept h1 rfl rfl

theorem Canon.vfsGone (s : State) (code : ℕ) : Canon s (s.vfsGone code) := by
  unfold State.vfsGone
  extract_lets x1 s1
  have h1 : Canon s s1 := .frame rfl rfl
  exact .after (.foldl _ (fun _ _ => .after (.pavResetBy ..) (.after (.cancelFn ..) (.after (.endRequester ..) (.updFn ..)))) _ _) h1

theorem execVfEnableClear_canon (s : State) : CanonOut s (execVfEnableClear s) := .next (.ite (.vfsGone ..) (.refl _))

theorem execPerstNAssert_canon (s : State) : CanonOut s (execPerstNAssert s) := by
  unfold execPerstNAssert
  refine .next ?_
  extract_lets b s1 s2
  have h1 : Canon s s1 := .frame rfl rfl
  have h2 : Canon s s2 := .after (.updFn ..) (.after (.cancelHeld ..) (.after (.vfsGone ..) h1))
  clear_value s1 s2
  exact .ite h1 (.kept h2 rfl rfl)

theorem execPerstNRise_canon (s : State) : CanonOut s (execPerstNRise s) := by
  unfold execPerstNRise
  refine .next (.ite (.refl _) (.ite (.frame rfl rfl) ?_))
  split
  next s1 hx1 =>
    have h1 : Canon s s1 := .of_snd (.draw ..) hx1
    exact .kept h1 rfl rfl

/-! ### Power and energy (17) -/

theorem Canon.toSlot (s : State) (done : Option ℕ) : Canon s (s.toSlot done) := by
  unfold State.toSlot
  extract_lets x1 x2
  exact .ite (.refl _) (.elapseTo ..)

theorem Canon.capNext (s : State) : Canon s (s.capNext) := by
  unfold State.capNext
  extract_lets x1 x2 x3 x4 x5 x6 x7 x8 x9
  exact .ite (.frame rfl rfl) (.ite (.frame rfl rfl) (.ite (.frame rfl rfl) (.frame rfl rfl)))

theorem Canon.countBreach (s : State) (watts : ℕ) : Canon s (s.countBreach watts) := by
  unfold State.countBreach
  refine .ite (.refl _) ?_
  extract_lets x1 s1 x2 x3
  have h1 : Canon s s1 := .frame rfl rfl
  exact .ite (.after (.logRec ..) (.kept h1 rfl rfl)) h1

theorem Canon.splitCap (s : State) (d : PowerDemand) : Canon s (s.splitCap d) := by
  unfold State.splitCap
  extract_lets x1 x2 x3 x4 x5
  exact .frame rfl rfl

theorem execPwrSlotSplit_canon (s : State) (demand : PowerDemand) : CanonOut s (execPwrSlotSplit demand s) := by
  unfold execPwrSlotSplit
  refine .next (.ite (.refl _) ?_)
  extract_lets s1 x1 s2 s3 x2 s4 x3
  have h1 : Canon s s1 := .toSlot ..
  have h2 : Canon s s2 := .kept h1 rfl rfl
  have h3 : Canon s s3 := .ite h2 (.after (.splitCap ..) (.after (.capNext ..) h2))
  have h4 : Canon s s4 := .kept h3 rfl rfl
  split
  extract_lets s5
  have h5 : Canon s s5 := .kept h4 rfl rfl
  exact .after (.countBreach ..) h5

theorem execMillpondSlot_canon (s : State) (ballastMax : ℕ) (cores : List CorePower) (amps : List (Option ℤ)) :
    CanonOut s (execMillpondSlot ballastMax cores amps s) := by
  unfold execMillpondSlot
  refine .next (.ite (.refl _) ?_)
  extract_lets x1 s1 x2 x3 x4 x5 x6
  have h1 : Canon s s1 := .toSlot ..
  split
  extract_lets x7 x8 x9 x10 s2 s3 s4 s5 x11
  have h2 : Canon s s2 := .kept h1 rfl rfl
  have h3 : Canon s s3 := .after (.countBreach ..) h2
  have h4 : Canon s s4 := .ite (.after (.disturbCal ..) h3) h3
  have h5 : Canon s s5 := by
    unfold s5
    refine .after (.foldl _ (fun t a => ?_) _ _) h4
    extract_lets s6
    have h6 : Canon t s6 := .ite (.refl _) (.tallyAdd ..)
    exact .ite h6 (.after (.tallyAdd ..) h6)
  exact .ite (.after (.logRec ..) (.kept h5 rfl rfl)) h5

theorem Canon.mpStatusSeen (s : State) : Canon s (s.mpStatusSeen) := .frame rfl rfl

theorem execMillpondPowerStep_canon (s : State) : CanonOut s (execMillpondPowerStep s) := by
  unfold execMillpondPowerStep
  refine .next (.ite (.refl _) ?_)
  extract_lets s1
  have h1 : Canon s s1 := .elapseTo ..
  exact .after (.setObj ..) (.after (.setObj ..) h1)

theorem Canon.chargePart (s : State) (e a : ℕ) (x : EnergyPart) : Canon s (s.chargePart e a x) := .updPav ..

theorem execFrameEnergyAttribution_canon (s : State) (nanojoule : ℕ) (parts : List EnergyPart) (ballast : ℕ) :
    CanonOut s (execFrameEnergyAttribution nanojoule parts ballast s) := by
  unfold execFrameEnergyAttribution
  refine .next ?_
  extract_lets x1 x2 x3 x4 x5 s1 x6
  have h1 : Canon s s1 := .foldl _ (fun _ _ => .chargePart ..) _ _
  exact .kept h1 rfl rfl

theorem Canon.retarget (s : State) (k target : ℕ) : Canon s (s.retarget k target) := by
  unfold State.retarget
  extract_lets x1
  exact .after (.emit ..) (.updRail ..)

theorem Canon.moveClock (s : State) (k : ℕ) : Canon s (s.moveClock k) := .frame rfl rfl

theorem Canon.aimVf (s : State) : Canon s (s.aimVf) := by
  unfold State.aimVf
  extract_lets x1 s1 x2 s2
  have h1 : Canon s s1 := .ite (.moveClock ..) (.refl _)
  have h2 : Canon s s2 := .ite h1 (.after (.retarget ..) h1)
  exact .ite (.after (.moveClock ..) h2) h2

theorem Canon.aimRails (s : State) : Canon s (s.aimRails) := .after (.foldl _ (fun _ _ => .ite (.refl _) (.retarget ..)) _ _) (.aimVf ..)

theorem Canon.vfPoint (s : State) (v : ℕ) : Canon s (s.vfPoint v) := .after (.aimVf ..) (.setObj ..)

theorem execRailSettled_canon (s : State) (k : Fin 3) (readback : ℕ) : CanonOut s (execRailSettled k readback s) := by
  unfold execRailSettled
  refine .next ?_
  extract_lets x1 x2 s1 x3 x4 s2 s3 x5 x6 x7 s4
  have h1 : Canon s s1 := .elapseNs ..
  have h2 : Canon s s2 := .after (.setRail ..) h1
  have h3 : Canon s s3 := .kept h2 rfl rfl
  have h4 : Canon s s4 := .kept h3 rfl rfl
  exact .ite (.refl _) (.ite (.after (.syncChip ..) (.ite (.after (.moveClock ..) h4) h4)) h3)

theorem execRailTimeout_canon (s : State) (k : Fin 3) (readback : ℕ) : CanonOut s (execRailTimeout k readback s) := by
  unfold execRailTimeout
  refine .next ?_
  extract_lets r dv s1 e s2 s3 s4
  have h2 : Canon s s3 := .after (.setEnergy ..) (.after (.setRail ..) (.elapseNs ..))
  have h3 : Canon s s4 := .after (.raise ..) (.after (.logRec ..) h2)
  refine .ite (.refl _) (.ite h3 ?_)
  split
  · exact .after (.setPower ..) h3
  · exact .after (.syncChip ..) (.after (.setPowerBoot ..) h3)

theorem execVfAgingUpdate_canon (s : State) : CanonOut s (execVfAgingUpdate s) := by
  unfold execVfAgingUpdate
  refine .next (.ite (.refl s) ?_)
  extract_lets s1 h old w s2
  have h2 : Canon s s2 := .after (.setPower ..) (.elapseNs ..)
  exact .ite h2 (.after (.aimRails ..) h2)

theorem execDroopGuardUpdate_canon (s : State) (peaks : List (Option ℕ)) : CanonOut s (execDroopGuardUpdate peaks s) := by
  unfold execDroopGuardUpdate
  refine .next ?_
  extract_lets x1 x2 x3 s1 x4 x5
  have h1 : Canon s s1 := .frame rfl rfl
  exact .ite (.ite h1 (.after (.aimVf ..) (.kept h1 rfl rfl))) h1

theorem Canon.calBegin (s : State) (forced : Bool) : Canon s (s.calBegin forced) := .frame rfl rfl

theorem Canon.calStart (s : State) (v : ℕ) : Canon s (s.calStart v).2 :=
  .iteSnd (.pair _ (.refl _)) (.iteSnd (.pair _ (.refl _)) (.iteSnd (.pair _ (.refl _)) (.pair _ (.calBegin ..))))

theorem Canon.calForce (s : State) (v : ℕ) : Canon s (s.calForce v).2 := .iteSnd (.pair _ (.refl _)) (.pair _ (.calBegin ..))

theorem Canon.calDiscard (s : State) : Canon s (s.calDiscard) := .ite (.frame rfl rfl) (.refl _)

theorem execCalibrationWindowEnd_canon (s : State) (offsets : ℕ) (changed : Bool) : CanonOut s (execCalibrationWindowEnd offsets changed s) := by
  unfold execCalibrationWindowEnd
  refine .next (.ite (.refl _) ?_)
  extract_lets s1 x1
  have h1 : Canon s s1 := .elapseTo ..
  exact .ite (.after (.logRec ..) (.kept h1 rfl rfl)) (.ite (.after (.logRec ..) (.after (.calDiscard ..) h1)) (.after (.logRec ..) (.kept h1 rfl
      rfl)))

theorem Canon.thermLower (s : State) : Canon s (s.thermLower) := .after (.aimVf ..) (.frame rfl rfl)

theorem Canon.thermEval (s : State) : Canon s (s.thermEval) := by
  unfold State.thermEval
  split
  extract_lets x1 x2 x3 x4 x5 x6 s1 x7 s2
  have h1 : Canon s s1 := .frame rfl rfl
  have h2 : Canon s s2 := .ite (.after (.thermLower ..) (.after (.logRec ..) (.after (.countBreach ..) (.kept h1 rfl rfl)))) h1
  exact .ite (.after (.raise ..) h2) h2

theorem execThermalReading_canon (s : State) (temps : List (Option ℤ)) : CanonOut s (execThermalReading temps s) := by
  unfold execThermalReading
  exact .next (.ite (.refl _) (.after (.thermEval ..) (.after (.setEnergy ..) (.elapseNs ..))))

theorem execThermPointStep_canon (s : State) : CanonOut s (execThermPointStep s) := by
  unfold execThermPointStep
  refine .next (.ite (.ite (.refl _) ?_) (.ite (.refl _) ?_))
  · exact .after (.thermLower ..) (.after (.setEnergy ..) (.elapseNs ..))
  · extract_lets s1 d d1
    exact .after (.aimVf ..) (.after (.setEnergyPower ..) (.elapseNs ..))

theorem execThermtrip_canon (s : State) (sensor : Fin 64) (temp : ℤ) : CanonOut s (execThermtrip sensor temp s) := by
  unfold execThermtrip
  refine .next (.ite (.refl _) ?_)
  extract_lets x1 x2 x3 x4 s1
  have h1 : Canon s s1 := .frame rfl rfl
  exact .after (.syncChip ..) (.after (.logRec ..) h1)

theorem CanonOpt.powerWrite (s : State) (i sub v : ℕ) : CanonOpt s (s.powerWrite i sub v) := by
  unfold State.powerWrite
  split
  · exact .some (.iteSnd (.pair _ (.setObj ..)) (.pair _ (.refl _)))
  · refine .some (.iteSnd (.pair _ (.setObj ..)) (.iteSnd (.pair _ (.refl _)) (.iteSnd (.pair _ (.refl _)) ?_)))
    extract_lets s1 x1
    have h1 : Canon s s1 := .setObj ..
    exact .pair _ (.kept h1 rfl rfl)
  · exact .some (.pair _ (.vfPoint ..))
  · exact .some (.iteSnd (.pair _ (.after (.aimRails ..) (.setObj ..))) (.pair _ (.refl _)))
  · exact .some (.calStart ..)
  · exact .some (.calForce ..)
  · exact .some (.iteSnd (.pair _ (.refl _)) (.pair _ (.after (.thermEval ..) (.setObj ..))))
  · exact .some (.iteSnd (.pair _ (.refl _)) (.pair _ (.after (.thermEval ..) (.setObj ..))))
  · refine .ite ?_ ?_
    · extract_lets s1
      have h1 : Canon s s1 := .setObj ..
      exact .some (.iteSnd (.pair _ h1) (.pair _ (.refl _)))
    · exact .none _

/-! ### Integrity and fencing (18) -/

theorem Canon.suspect (s : State) (n reason : ℕ) : Canon s (s.suspect n reason) := .after (.settle ..) (.updCore fun _ => .same rfl)

theorem Canon.fenceRequest (s : State) (v : ℕ) : Canon s (s.fenceRequest v).2 := by
  unfold State.fenceRequest
  refine .iteSnd (.iteSnd (.pair _ (.refl _)) (.iteSnd (.pair _ (.refl _)) (.pair _ (.suspect ..)))) (.iteSnd ?_ (.pair _ (.refl _)))
  extract_lets x1
  exact .pair _ (.ite (.refl _) (.after (.groupsCheck ..) (.fencePort ..)))

theorem Canon.clearCore (s : State) (n : ℕ) : Canon s (s.clearCore n) := by
  unfold State.clearCore
  extract_lets s1 x1
  have h1 : Canon s s1 := .updCore fun _ => .same rfl
  exact .kept h1 rfl rfl

theorem Canon.clearPort (s : State) (q : ℕ) : Canon s (s.clearPort q) := by
  unfold State.clearPort
  extract_lets s1 x1 s2 s3
  have h1 : Canon s s1 := .updPort ..
  have h2 : Canon s s2 := .kept h1 rfl rfl
  have h3 : Canon s s3 := .after (.logRec ..) h2
  exact .after (.syncChip ..) (.after (.portEnable ..) h3)

theorem Canon.fenceClear (s : State) (v : ℕ) : Canon s (s.fenceClear v).2 := by
  unfold State.fenceClear
  refine .iteSnd (.iteSnd (.pair _ (.refl _)) (.iteSnd (.pair _ (.refl _)) (.pair _ (.clearCore ..)))) (.iteSnd (.pair _ (.ite (.clearPort ..)
      (.refl _))) (.iteSnd (.iteSnd (.pair _ (.refl _)) ?_) (.pair _ (.refl _))))
  extract_lets s1
  have h1 : Canon s s1 := .foldl _ (fun _ _ => .clearCore ..) _ _
  exact .pair _ (.after (.foldl _ (fun _ _ => .ite (.clearPort ..) (.refl _)) _ _) h1)

theorem execFenceTableStore_canon (s : State) : CanonOut s (execFenceTableStore s) := .next (.ite (.frame rfl rfl) (.refl _))

theorem Canon.applyFences (s : State) : Canon s (s.applyFences) := by
  unfold State.applyFences
  extract_lets s1 s2 s3 s4 x1
  have h1 : Canon s s1 := by
    unfold s1
    refine .foldl _ (fun t a => ?_) _ _
    exact .updCore fun _ => .same rfl
  have h2 : Canon s s2 := by
    unfold s2
    refine .after (.foldl _ (fun t a => ?_) _ _) h1
    exact .updCore fun _ => .same rfl
  have h3 : Canon s s3 := .after (.foldl _ (fun _ _ => .updPort ..) _ _) h2
  have h4 : Canon s s4 := by
    unfold s4
    refine .after (.foldl _ (fun t a => ?_) _ _) h3
    exact .ite (.updCore fun _ => .same rfl) (.refl _)
  exact .kept h4 rfl rfl

theorem execCheckmateRunStart_canon (s : State) : CanonOut s (execCheckmateRunStart s) := by
  unfold execCheckmateRunStart
  refine .next (.ite (.refl s) ?_)
  extract_lets s1 s2 i s3
  have h3 : Canon s s3 := .kept (t := s2) (.after (.toSlot ..) (.elapseNs ..)) rfl rfl
  split
  · exact h3
  · next n _ =>
      have h4 : Canon s (s3.updCore n fun c => { c with fence := c.fence.begin .machenil s3.cyc.cycles }) := .after (.updCore fun _ => .same rfl) h3
      exact .kept h4 rfl rfl

theorem Canon.cmLease (s : State) (p n : ℕ) : Canon s (s.cmLease p n).2 := by
  unfold State.cmLease
  extract_lets c1 x1 s1
  have h1 : Canon s s1 := .setCore (.same rfl)
  exact .iteSnd (.pair _ (.refl _)) (.iteSnd (.pair _ (.refl _)) (.pair _ (.after (.updPav ..) h1)))

theorem Canon.cmResult (s : State) (n : ℕ) (fail : Option (ℕ × Word)) : Canon s (s.cmResult n fail) := by
  unfold State.cmResult
  extract_lets i s1
  have h1 : Canon s s1 := .frame rfl rfl
  split
  · refine .after (.updCore fun c => ?_) h1
    exact .kept (.scrubOrWait c) rfl
  · exact .after (.logRec ..) (.after (.updCore fun _ => .same rfl) h1)

theorem execCheckmateRunEnd_canon (s : State) (c : CoreIx) (sigs : List Word) : CanonOut s (execCheckmateRunEnd c sigs s) := by
  unfold execCheckmateRunEnd
  refine .next ?_
  extract_lets x1 x2 s1 s2 x3 s3 s4 s5 s6 s7 x4
  have h1 : Canon s s1 := .ite (.refl _) (.elapseCycles ..)
  have h2 : Canon s s2 := .after (.cmResult ..) h1
  have h3 : Canon s s3 := .after (.raiseCore ..) (.after (.resetCore ..) h2)
  have h4 : Canon s s4 := .after (.updPav ..) h3
  have h5 : Canon s s5 := .after (.updCore fun _ => .same rfl) h2
  have h6 : Canon s s6 := .ite (.after (.suspect ..) h5) h5
  have h7 : Canon s s7 := .after (.logRec ..) h6
  split
  · exact h1
  · exact .ite (.after (.suspect ..) h2) h2
  · exact .ite (.after (.suspect ..) h4) h4
  · exact .after (.syncChip ..) (.kept h7 rfl rfl)

theorem CanonOpt.integWrite (s : State) (i sub v : ℕ) : CanonOpt s (s.integWrite i sub v) := by
  unfold State.integWrite
  refine .ite ?_ ?_
  · exact .some (.fenceRequest ..)
  · refine .ite ?_ ?_
    · exact .some (.fenceClear ..)
    · refine .ite ?_ ?_
      · exact .some (.cmLease ..)
      · exact .none _

end Sys2Proof.Machine
end

section
/-! PROOF. What keeps memories canonical: resets, management, debug and the requests (09 R240; 10 R270). -/

namespace Sys2Proof.Machine
open Sys2Proof.Safety

/-! ### Power-up and resets (19) -/

theorem Canon.setSlot (s : State) (k : ℕ) (v : Slot) : Canon s (s.setSlot k v) := .frame rfl rfl

theorem Canon.recordSlot (s : State) (k : ℕ) (c : SlotCheck) : Canon s (s.recordSlot k c) := by
  unfold State.recordSlot
  extract_lets x1 x2
  exact .setSlot ..

theorem Canon.program (s : State) (k : ℕ) (l : List (Option (List Byte))) : Canon s (s.program k l) := by
  induction l generalizing s k with
  | nil => exact .refl s
  | cons o l ih =>
    cases o with
    | none => exact ih ..
    | some b => exact .after (ih ..) (.setSlot ..)

theorem execPwrgoodRise_canon (s : State) : CanonOut s (execPwrgoodRise s) := .next (.ite (.refl _) (.frame rfl rfl))

/-- A list of cores with empty Plots. -/
theorem plot_empty_of_map (f : ℕ × Core → PlotInt) (l : List (ℕ × Core)) (n : ℕ) :
    ((Sparse.getD (l.map (fun r => (r.1, ({ pint := f r } : Core)))) n {}).plot).bytes = [] := by
  induction l with
  | nil => rfl
  | cons r rs ih =>
    unfold Sparse.getD at ih ⊢
    simp only [List.map_cons, Sparse.find]
    split
    · rfl
    · exact ih

theorem Canon.cold (s : State) : Canon s s.cold where
  mem _ := rfl
  plots _ n := by
    have hempty : (s.cold.core n).plot.bytes = [] := plot_empty_of_map (fun r => { broken := (s.core r.1).pint.broken }) _ n
    rw [hempty]
    rfl

theorem execColdReset_canon (s : State) (lowNs : ℕ) (taken : Bool) : CanonOut s (execColdReset lowNs taken s) := .next (.ite (.refl _) (.cold ..))

theorem Canon.startImage (s : State) (k : ℕ) : Canon s (s.startImage k) := by
  unfold State.startImage
  extract_lets x1 s1 s2 s3
  have h1 : Canon s s1 := .frame rfl rfl
  have h2 : Canon s s2 := .after (.milestone ..) h1
  have h3 : Canon s s3 := .after (.foldl _ (fun _ _ => .retarget ..) _ _) h2
  exact .after (.retarget ..) h3

theorem Canon.bootRom (s : State) (slots : List SlotCheck) : Canon s (s.bootRom slots) := by
  unfold State.bootRom
  extract_lets x1 x2 x3 x4 s1 x5
  have h1 : Canon s s1 := .after (.recordSlot ..) (.recordSlot ..)
  split
  · exact .after (.startImage ..) h1
  · split
    · exact .after (.logRec ..) (.after (.startImage ..) h1)
    · exact .kept h1 rfl rfl

theorem execMachenilUp_canon (s : State) (slots : List SlotCheck) : CanonOut s (execMachenilUp slots s) := .next (.ite (.bootRom ..) (.refl _))

theorem execBootRomRecheck_canon (s : State) (images : List (Option (List Byte))) (slots : List SlotCheck) :
    CanonOut s (execBootRomRecheck images slots s) :=
  .next (.ite (.after (.bootRom ..) (.after (.program ..) (.elapse ..))) (.refl _))

theorem Canon.fusesLoaded (s : State) : Canon s (s.fusesLoaded) := by
  unfold State.fusesLoaded
  extract_lets s1 x1 x2 s2
  have h1 : Canon s s1 := .after (.milestone ..) (.applyFences ..)
  have h2 : Canon s s2 := .kept h1 rfl rfl
  exact .after (.syncChip ..) h2

theorem execHbmTrained_canon (s : State) : CanonOut s (execHbmTrained s) := .next (.ite (.milestone ..) (.refl _))

theorem execGrottoTrained_canon (s : State) : CanonOut s (execGrottoTrained s) := .next (.ite (.milestone ..) (.refl _))

theorem execMemoryTrainingFail_canon (s : State) (unit : Fin 8) : CanonOut s (execMemoryTrainingFail unit s) := by
  unfold execMemoryTrainingFail
  refine .next (.ite ?_ (.refl _))
  extract_lets x1 x2 s1
  have h1 : Canon s s1 := .frame rfl rfl
  exact .after (.syncChip ..) (.after (.logRec ..) h1)

theorem execPlotsScrubbed_canon (s : State) : CanonOut s (execPlotsScrubbed s) :=
  .next (.ite (.after (.milestone ..) (.foldl _ (fun _ _ => .updCore fun _ => .scrubOrWait ..) _ _)) (.refl _))

theorem Canon.ready8 (s : State) : Canon s (s.ready8) := by
  unfold State.ready8
  extract_lets s1 x1 x2 s2
  have h1 : Canon s s1 := .milestone ..
  have h2 : Canon s s2 := .kept h1 rfl rfl
  exact .after (.syncChip ..) (.after (.aimVf ..) h2)

theorem execChipReady_canon (s : State) : CanonOut s (execChipReady s) := .next (.ite (.ready8 ..) (.refl _))

theorem execWarmResetComplete_canon (s : State) : CanonOut s (execWarmResetComplete s) := .next (.ite (.ready8 ..) (.refl _))

theorem Canon.bootContinue (s : State) (v : ℕ) : Canon s (s.bootContinue v).2 :=
  .iteSnd (.pair _ (.refl _)) (.iteSnd (.pair _ (.refl _)) (.pair _ (.after (.syncChip ..) (.frame rfl rfl))))

theorem Canon.pavWarm (s : State) (p : ℕ) : Canon s (s.pavWarm p) := by
  unfold State.pavWarm
  split
  · exact .refl _
  · extract_lets s1 s2 s3 s4
    have h1 : Canon s s1 := .ite (.after (.pavStop ..) (.updPav ..)) (.refl _)
    have h2 : Canon s s2 := .ite (.after (.pavClear ..) h1) h1
    have h3 : Canon s s3 := .after (.pavRelease ..) h2
    have h4 : Canon s s4 := .after (.updFn ..) h3
    exact .after (.raise ..) h4

theorem PlotCanon.warm (c : Core) : PlotCanon c (c.warm) := by
  unfold Core.warm
  extract_lets c1 x1 x2
  have hc1 : PlotCanon c c1 := .scrubOrWait ..
  exact .kept hc1 rfl

theorem Canon.setLink (s : State) (l : LinkSt) (n : List Packet) : Canon s { s with link := l, net := n } := .frame rfl rfl

theorem Canon.setUnits (s : State) (o : Orangery) (a : Arb) (p : Power) (b : Boot) : Canon s { s with org := o, arb := a, power := p, boot := b } :=
  .frame rfl rfl

theorem Canon.warmReset (s : State) (cause : ℕ) : Canon s (s.warmReset cause) := by
  unfold State.warmReset
  extract_lets b causes s1 s2 s3 s4 s5 waiting l s6 s7 s8 s9 b9 a9 p9 s10
  have h2 : Canon s s2 := .after (.calDiscard ..) (.frame rfl rfl)
  have h3 : Canon s2 s3 := .foldl _ (fun _ _ => .pavWarm ..) _ _
  have h4 : Canon s3 s4 := .foldl _ (fun _ _ => .after (.updFn ..) (.cancelFn ..)) _ _
  have h5 : Canon s4 s5 := .foldl _ (fun _ _ => .endRequester ..) _ _
  have h6 : Canon s5 s6 := .setLink ..
  have h7 : Canon s6 s7 := .foldl _ (fun _ _ => .dropMsg ..) _ _
  have h8 : Canon s7 s8 := .foldl _ (fun _ _ => .ite (.refl _) (.portFall ..)) _ _
  have h9 : Canon s8 s9 := .foldl _ (fun _ _ => .updCore fun c => .warm c) _ _
  have h10 : Canon s9 s10 := .setUnits ..
  exact .after (.syncChip ..) (.after (.aimVf ..) (h2.trans (h3.trans (h4.trans (h5.trans (h6.trans (h7.trans (h8.trans (h9.trans h10)))))))))

theorem Canon.warmWrite (s : State) (v : ℕ) : Canon s (s.warmWrite v).2 := .pair _ (.ite (.refl _) (.warmReset ..))

theorem execRefclkLoss_canon (s : State) (k : Fin 3) : CanonOut s (execRefclkLoss k s) := by
  unfold execRefclkLoss
  refine .next (.ite (.refl _) ?_)
  extract_lets x1 s1 x2 x3 x4 x5
  have h1 : Canon s s1 := .frame rfl rfl
  split
  · exact .after (.hostLost ..) (.kept h1 rfl rfl)
  · exact .after (.syncChip ..) (.kept h1 rfl rfl)
  · exact h1

theorem CanonOpt.bootWrite (s : State) (i sub v : ℕ) : CanonOpt s (s.bootWrite i sub v) := by
  unfold State.bootWrite
  split
  · exact .some (.bootContinue ..)
  · exact .some (.warmWrite ..)
  · exact .none _

/-! ### Management (20) -/

theorem Canon.closeSession (s : State) (k : ℕ) : Canon s (s.closeSession k) := by
  unfold State.closeSession
  refine .ite ?_ (.refl _)
  extract_lets s1 x1
  have h1 : Canon s s1 := .after (.cancelHeld ..) (.after (.endRequester ..) (.setSess ..))
  exact .after (.emit ..) (.kept h1 rfl rfl)

theorem Canon.closeAll (s : State) : Canon s (s.closeAll) := .foldl _ (fun _ _ => .closeSession ..) _ _

theorem execWatchdogExpiry_canon (s : State) (sram : Bool) : CanonOut s (execWatchdogExpiry sram s) := by
  unfold execWatchdogExpiry
  refine .next (.ite (.refl s) ?_)
  extract_lets s1 s2 rs f s3
  have h1 : Canon s s1 := .closeAll ..
  have h2 : Canon s s2 := .after (.foldl _ (fun _ _ => .endRequester ..) _ _) h1
  clear_value s2
  have h3 : Canon s s3 := .kept h2 rfl rfl
  clear_value s3
  exact .ite (.after (.syncChip ..) (.kept h3 rfl rfl)) h3

theorem Canon.mgmtRestarted (s : State) : Canon s (s.mgmtRestarted) := .after (.logRec ..) (.frame rfl rfl)

theorem execLogFlush_canon (s : State) : CanonOut s (execLogFlush s) := .next (.ite (.refl _) (.frame rfl rfl))

theorem Canon.alertAck (s : State) (v : ℕ) : Canon s (s.alertAck v).2 := .pair _ (.ite (.refl _) (.frame rfl rfl))

theorem execSensorTimeout_canon (s : State) (cls : Fin 4) (ix : ℕ) : CanonOut s (execSensorTimeout cls ix s) := by
  unfold execSensorTimeout
  refine .next ?_
  extract_lets x1 x2 s1
  have h1 : Canon s s1 := .frame rfl rfl
  exact .ite (.refl _) (.after (.thermEval ..) (.after (.logRec ..) h1))

theorem Canon.fwBegin (s : State) (who : Requester) (v : ℕ) : Canon s (s.fwBegin who v).2 := by
  unfold State.fwBegin
  refine .iteSnd (.pair _ (.refl _)) (.iteSnd (.pair _ (.refl _)) ?_)
  extract_lets x1 s1 x2
  have h1 : Canon s s1 := .setSlot ..
  exact .pair _ (.kept h1 rfl rfl)

theorem execFwEraseDone_canon (s : State) : CanonOut s (execFwEraseDone s) := .next (.ite (.frame rfl rfl) (.refl _))

theorem Canon.fwData (s : State) (who : Requester) (off : ℕ) (bytes : List Byte) : Canon s (s.fwData who off bytes).2.2 := by
  unfold State.fwData
  extract_lets x1 x2 x3 s1 x4
  have h1 : Canon s s1 := .setSlot ..
  split
  · dsimp only
    exact .refl _
  · split
    · dsimp only
      exact .refl _
    · split
      · dsimp only
        exact .refl _
      · split
        · split
          next s2 hx1 =>
            have h2 : Canon s s2 := .of_snd (.draw ..) hx1
            dsimp only
            exact h2
        · split
          · dsimp only
            exact .refl _
          · dsimp only
            exact .kept h1 rfl rfl

theorem Canon.fwVerify (s : State) (who : Requester) (v : ℕ) : Canon s (s.fwVerify who v).2 :=
  .iteSnd (.pair _ (.refl _)) (.iteSnd (.pair _ (.refl _)) (.iteSnd (.pair _ (.frame rfl rfl)) (.pair _ (.refl _))))

theorem execFwVerifyDone_canon (s : State) (check : SlotCheck) : CanonOut s (execFwVerifyDone check s) := by
  unfold execFwVerifyDone
  refine .next (.ite (.refl _) ?_)
  extract_lets x1 s1 x2
  have h1 : Canon s s1 := .recordSlot ..
  split
  · exact .kept h1 rfl rfl
  · exact .after (.logRec ..) (.kept h1 rfl rfl)

theorem Canon.warmOrJoin (s : State) (cause : ℕ) : Canon s (s.warmOrJoin cause) :=
  .ite (.warmReset ..) (.ite (.after (.syncChip ..) (.frame rfl rfl)) (.refl _))

theorem Canon.fwActivate (s : State) (who : Requester) (v : ℕ) : Canon s (s.fwActivate who v).2 := by
  unfold State.fwActivate
  refine .iteSnd (.pair _ (.refl _)) (.iteSnd (.pair _ (.refl _)) (.iteSnd (.pair _ (.refl _)) ?_))
  extract_lets x1 x2 x3 s1
  have h1 : Canon s s1 := .frame rfl rfl
  exact .pair _ (.after (.warmOrJoin ..) (.after (.logRec ..) h1))

theorem Canon.handedOver (s : State) : Canon s (s.handedOver) := .frame rfl rfl

theorem Canon.fwCommit (s : State) (who : Requester) (v : ℕ) : Canon s (s.fwCommit who v).2 := by
  unfold State.fwCommit
  refine .iteSnd (.pair _ (.refl _)) (.iteSnd (.pair _ (.refl _)) (.iteSnd (.pair _ (.refl _)) ?_))
  extract_lets x1 x2 x3
  exact .pair _ (.after (.logRec ..) (.frame rfl rfl))

theorem Canon.fwRestart (s : State) (who : Requester) (v : ℕ) : Canon s (s.fwRestart who v).2 :=
  .iteSnd (.pair _ (.refl _)) (.iteSnd (.pair _ (.refl _)) (.iteSnd (.pair _ (.refl _)) (.pair _ (.warmOrJoin ..))))

theorem Canon.keyRevoke (s : State) (v : ℕ) : Canon s (s.keyRevoke v).2 := by
  unfold State.keyRevoke
  extract_lets x1 x2
  exact .iteSnd (.pair _ (.refl _)) (.iteSnd (.pair _ (.refl _)) (.pair _ (.frame rfl rfl)))

theorem Canon.answerSpdm (s : State) (f code index : ℕ) : Canon s (s.answerSpdm f code index) := by
  unfold State.answerSpdm
  split
  exact .emit ..

theorem execSpdmRequest_canon (s : State) (f : FnIx) (code index : ℕ) : CanonOut s (execSpdmRequest f code index s) :=
  .next (.ite (.refl _) (.ite (.frame rfl rfl) (.answerSpdm ..)))

theorem CanonOpt.mgmtWrite (s : State) (who : Requester) (i sub v : ℕ) : CanonOpt s (s.mgmtWrite who i sub v) := by
  unfold State.mgmtWrite
  split
  · exact .some (.alertAck ..)
  · exact .some (.fwBegin ..)
  · exact .some (.iteSnd (.pair _ (.refl _)) (.iteSnd (.pair _ (.refl _)) (.pair _ (.setObj ..))))
  · exact .some (.fwVerify ..)
  · exact .some (.fwActivate ..)
  · exact .some (.fwCommit ..)
  · exact .some (.fwRestart ..)
  · exact .some (.keyRevoke ..)
  · exact .none _

/-! ### Debug (21) -/

theorem Canon.tallySelect (s : State) (who : Requester) (v : ℕ) : Canon s (s.tallySelect who v).2 :=
  .iteSnd (.pair _ (.refl _)) (.iteSnd (.pair _ (.refl _)) (.pair _ (.updReq ..)))

theorem Canon.dbgSelect (s : State) (who : Requester) (v : ℕ) : Canon s (s.dbgSelect who v).2 := by
  unfold State.dbgSelect
  extract_lets s1
  have h1 : Canon s s1 := .updReq ..
  split
  · exact .pair _ (.refl _)
  · exact .iteSnd (.pair _ (.refl _)) (.pair _ h1)

theorem Canon.dbgHalt (s : State) (n v : ℕ) : Canon s (s.dbgHalt n v).2 := by
  unfold State.dbgHalt
  split
  · exact .pair _ (.ite (.refl _) (.halt ..))
  · exact .pair _ (.refl _)
  · exact .pair _ (.refl _)

theorem Canon.resumeCore (s : State) (n : ℕ) (single : Bool) : Canon s (s.resumeCore n single) :=
  .after (.checkCntBps ..) (.updCore fun _ => .same rfl)

theorem Canon.dbgResume (s : State) (n v : ℕ) : Canon s (s.dbgResume n v).2 :=
  .iteSnd (.pair _ (.refl _)) (.iteSnd (.pair _ (.refl _)) (.pair _ (.resumeCore ..)))

theorem Canon.setBp (s : State) (n b : ℕ) (v : Bp) : Canon s (s.setBp n b v).2 :=
  .iteSnd (.pair _ (.refl _)) (.pair _ (.after (.checkCntBps ..) (.updCore fun _ => .same rfl)))

theorem Canon.stalemate (s : State) (late stepped : Bool) : Canon s (s.stalemate late stepped) := by
  unfold State.stalemate
  extract_lets x1 s1
  have h1 : Canon s s1 := by
    unfold s1
    refine .foldl _ (fun t a => ?_) _ _
    extract_lets s2
    have h2 : Canon t s2 := .haltEvent ..
    exact .ite (.after (.updCore fun _ => .same rfl) h2) h2
  exact .after (.setObj ..) (.after (.logRecS ..) h1)

theorem execStalemateHalt_canon (s : State) : CanonOut s (execStalemateHalt s) := by
  unfold execStalemateHalt
  refine .clocked ?_
  extract_lets x1 s1
  have h1 : Canon s s1 := .elapseTo ..
  exact .ite (.refl _) (.after (.stalemate ..) h1)

theorem execStalemateResume_canon (s : State) : CanonOut s (execStalemateResume s) := by
  unfold execStalemateResume
  refine .clocked ?_
  extract_lets x1 s1 x2
  have h1 : Canon s s1 := .elapseTo ..
  exact .ite (.refl _) (.after (.setObj ..) (.after (.foldl _ (fun _ _ => .resumeCore ..) _ _) h1))

theorem Canon.noteStale (s : State) (id : ℕ) : Canon s (s.noteStale id) := .frame rfl rfl

theorem Canon.flood (s : State) (e : Option ℕ) (op id time pavs resume : ℕ) : Canon s (s.flood e op id time pavs resume) :=
  .of_only (s.flood_only ..) (by decide) (by decide)

theorem Canon.stalemateFlood (s : State) (v : ℕ) : Canon s (s.stalemateFlood v).2 := by
  unfold State.stalemateFlood
  refine .iteSnd (.pair _ (.refl _)) ?_
  extract_lets x1 x2 s1 s2 x3
  have h1 : Canon s s1 := .frame rfl rfl
  have h2 : Canon s s2 := .after (.noteStale ..) h1
  exact .pair _ (.after (.flood ..) h2)

theorem Canon.staleReceived (s : State) (op : ℕ) : Canon s (s.staleReceived op) := by
  unfold State.staleReceived
  split
  · exact .refl s
  · next m q s1 hx =>
      have h1 : Canon s s1 := .of_only (State.takeStale_spec hx).1 (by decide) (by decide)
      extract_lets id s2 s3 late s4 s5
      have h3 : Canon s s3 := .ite (.after (.setObj ..) (.after (.setObj ..) (.after (.setObj ..) (.after (.noteStale ..) h1))))
        (.after (.setObj ..) (.after (.setObj ..) (.after (.noteStale ..) h1)))
      have h5 : Canon s s5 := .after (.flood ..) (.after (.logRec ..) h3)
      exact .ite h1 (.ite (.after (.stalemate ..) h5) h5)

theorem execStalemateArmReceived_canon (s : State) : CanonOut s (execStalemateArmReceived s) := .clocked (.staleReceived ..)

theorem execStalemateCancelReceived_canon (s : State) : CanonOut s (execStalemateCancelReceived s) := .clocked (.staleReceived ..)

theorem execSnapshotTrigger_canon (s : State) (p : PavIx) : CanonOut s (execSnapshotTrigger p s) := by
  unfold execSnapshotTrigger
  refine .clocked ?_
  extract_lets x1 s1 x2 s2
  have h1 : Canon s s1 := .elapseTo ..
  have h2 : Canon s s2 := by
    unfold s2
    refine .after (.foldl _ (fun t a => ?_) _ _) h1
    exact .updCore fun _ => .same rfl
  exact .ite (.refl _) (.after (.setObj ..) h2)

theorem Canon.timeTarget (s : State) (i sub v : ℕ) : Canon s (s.timeTarget i sub v).2 :=
  .iteSnd (.pair _ (.setObj ..)) (.iteSnd (.pair _ (.refl _)) (.iteSnd (.pair _ (.refl _)) (.pair _ (.setObj ..))))

theorem CanonOpt.debugWrite (s : State) (who : Requester) (i sub v : ℕ) : CanonOpt s (s.debugWrite who i sub v) := by
  unfold State.debugWrite
  extract_lets on bp
  have hon : ∀ f : ℕ → ℕ × State, (∀ n, Canon s (f n).2) → Canon s (on f).2 := fun f hf => by
    dsimp only [on]
    split
    · exact hf _
    · exact .refl s
  clear_value on
  split
  · exact .some (.tallySelect ..)
  · exact .some (.dbgSelect ..)
  · exact .some (hon _ fun _ => .setBp ..)
  · exact .some (hon _ fun _ => .setBp ..)
  · exact .some (hon _ fun _ => .dbgHalt ..)
  · exact .some (hon _ fun _ => .dbgResume ..)
  · refine .some (hon _ fun n => ?_)
    dsimp only
    exact .updCore fun _ => .same rfl
  · exact .some (.timeTarget ..)
  · exact .some (.timeTarget ..)
  · exact .some (.stalemateFlood ..)
  · refine .ite (.some (.timeTarget ..)) (.ite (.some ?_) (.none s))
    split
    · exact .refl s
    · exact .setObj ..

/-! ### Writes of objects -/

theorem Canon.seen (s : State) (i sub : ℕ) : Canon s (s.seen i sub) :=
  .ite (.sundialStatusRead ..) (.ite (.mpStatusSeen ..) (.ite (.bsStatusRead ..) (.refl _)))

theorem Canon.transportWrite (s : State) (who : Requester) (sub v : ℕ) : Canon s (s.transportWrite who sub v) := by
  unfold State.transportWrite
  extract_lets s1 s2
  have h1 : Canon s s1 := .setObj ..
  have h2 : Canon s s2 := .after (.foldl _ (fun _ _ => .ite (.refl _) (.closeSession ..)) _ _) h1
  exact .after (.ptpLost ..) h2

theorem Canon.satClear (s : State) (n v : ℕ) : Canon s (s.satClear n v) := .ite (.refl _) (.updCore fun _ => .same rfl)

theorem Canon.plainWrite (s : State) (who : Requester) (i sub v : ℕ) : Canon s (s.plainWrite who i sub v).2 :=
  .iteSnd (.pair _ (.transportWrite ..)) (.iteSnd (.pair _ (.satClear ..)) (.iteSnd (.pair _ (.updReq ..)) (.pair _ (.setObj ..))))

theorem Canon.applyWrite (s : State) (who : Requester) (i sub v : ℕ) : Canon s (s.applyWrite who i sub v).2 :=
  CanonOpt.getD (.orElse (CanonOpt.debugWrite ..) (.orElse (.mgmtWrite ..) (.orElse (.powerWrite ..) (.orElse (.integWrite ..) (.orElse (.bootWrite
      ..)
    (.orElse (.pavWrite ..) (.orElse (.rotWrite ..) (.orElse (.diceWrite ..) (.orElse (.linkWrite ..) (.orElse (.bsWrite ..)
    (.orElse (.ctWrite ..) (.timeWrite ..))))))))))) ) (.plainWrite ..)

theorem Canon.writeBytes (s : State) (who : Requester) (i sub : ℕ) (o : ObjInfo) (off len v : ℕ) :
    Canon s (s.writeBytes who i sub o off len v).2.2 := by
  unfold State.writeBytes
  split
  · exact .fwData ..
  · split
    · dsimp only
      exact .refl _
    · split
      · dsimp only
        exact .refl _
      · split
        · extract_lets x1 x2 s1
          have h1 : Canon s s1 := .setObj ..
          split
          · dsimp only
            exact .refl _
          · dsimp only
            exact .kept h1 rfl rfl
        · extract_lets x1
          split
          · dsimp only
            exact .setObj ..
          · split
            next s1 hx1 =>
              have h1 : Canon s s1 := .of_snd (.applyWrite ..) hx1
              dsimp only
              exact h1

theorem Canon.writeValue (s : State) (who : Requester) (i sub : ℕ) (o : ObjInfo) (off len v : ℕ) :
    Canon s (s.writeValue who i sub o off len v).2.2 := by
  unfold State.writeValue
  split
  · exact .writeBytes ..
  · split
    · dsimp only
      exact .refl _
    · split
      · dsimp only
        exact .refl _
      · split
        next s1 hx1 =>
          have h1 : Canon s s1 := .of_snd (.applyWrite ..) hx1
          dsimp only
          exact h1

theorem Canon.put (s : State) (who : Requester) (i sub : ℕ) (ty : Option ℕ) (off len v : ℕ) : Canon s (s.put who i sub ty off len v).2.2 := by
  unfold State.put
  split
  · dsimp only
    exact .refl _
  · exact .writeValue ..

theorem Canon.get (s : State) (who : Requester) (i sub ty : ℕ) : Canon s (s.get who i sub ty).2.2 := by
  unfold State.get
  split
  · dsimp only
    exact .refl _
  · split
    · dsimp only
      exact .refl _
    · dsimp only
      exact .seen ..

theorem Canon.lowRead (s : State) (who : Requester) (i sub : ℕ) : Canon s (s.lowRead who i sub).2.2 := by
  unfold State.lowRead
  split
  · next s1 _ hx2 =>
      have h1 : Canon s s1 := .of_snd_snd (.get ..) hx2
      split
      · dsimp only
        exact .after (.updReq ..) h1
      · dsimp only
        exact h1
  · next s1 hx1 _ =>
      have h1 : Canon s s1 := .of_snd_snd (.get ..) hx1
      dsimp only
      exact .refl _

theorem Canon.highRead (s : State) (who : Requester) (i sub : ℕ) : Canon s (s.highRead who i sub).2.2 := by
  unfold State.highRead
  split
  · dsimp only
    exact .refl _
  · next s1 _ hx2 =>
      have h1 : Canon s s1 := .of_snd_snd (.get ..) hx2
      split
      · dsimp only
        exact .refl _
      · split
        · dsimp only
          exact .refl _
        · split
          · split
            · dsimp only
              exact .updReq ..
            · dsimp only
              exact h1
          · dsimp only
            exact h1

theorem Canon.highWrite (s : State) (who : Requester) (i sub v : ℕ) : Canon s (s.highWrite who i sub v).2.2 := by
  unfold State.highWrite
  split
  · dsimp only
    exact .refl _
  · split
    · dsimp only
      exact .refl _
    · dsimp only
      exact .updReq ..

theorem Canon.loneLow (s : State) (who : Requester) (i sub v : ℕ) : Canon s (s.loneLow who i sub v).2.2 := by
  unfold State.loneLow
  extract_lets x1
  split
  · next s1 hx1 =>
      have h1 : Canon s s1 := .of_snd_snd (.put ..) hx1
      dsimp only
      exact h1
  · exact .put ..

theorem Canon.lowWrite (s : State) (who : Requester) (i sub v : ℕ) : Canon s (s.lowWrite who i sub v).2.2 := by
  unfold State.lowWrite
  split
  · split
    · exact .after (.put ..) (.updReq ..)
    · split
      · exact .loneLow ..
      · exact .put ..
  · split
    · exact .loneLow ..
    · exact .put ..

theorem Canon.half (s : State) (who : Requester) (write high : Bool) (i sub v : ℕ) : Canon s (s.half who write high i sub v).2.2 := by
  unfold State.half
  extract_lets x1
  split
  · dsimp only
    exact .refl _
  · split
    · split
      · exact .highWrite ..
      · split
        · split
          · dsimp only
            exact .refl _
          · dsimp only
            exact .refl _
        · exact .lowWrite ..
    · split
      · exact .highRead ..
      · exact .lowRead ..

theorem Canon.chunkRead (s : State) (who : Requester) (i sub off : ℕ) : Canon s (s.chunkRead who i sub off).2.2 := by
  unfold State.chunkRead
  split
  · next s1 hx1 =>
      have h1 : Canon s s1 := .of_snd_snd (.get ..) hx1
      extract_lets x1
      split
      · dsimp only
        exact .refl _
      · dsimp only
        exact h1
  · exact .get ..

theorem Canon.chunkWrite (s : State) (who : Requester) (i sub off v : ℕ) : Canon s (s.chunkWrite who i sub off v).2.2 := by
  unfold State.chunkWrite
  split
  · dsimp only
    exact .refl _
  · extract_lets x1
    split
    · dsimp only
      exact .refl _
    · split
      · dsimp only
        exact .refl _
      · exact .writeBytes ..

theorem Canon.mbxDo (s : State) (who : Requester) (req arg data : ℕ) : Canon s (s.mbxDo who req arg data).2.2 := by
  unfold State.mbxDo
  extract_lets x1 x2 x3 x4
  split
  · dsimp only
    exact .refl _
  · split
    · split
      · split
        · dsimp only
          exact .refl _
        · split
          · exact .chunkRead ..
          · exact .chunkWrite ..
      · exact .half ..
    · exact .half ..

theorem Canon.mbxDone (s : State) (f : FnIx) (status data : ℕ) : Canon s (s.mbxDone f status data) := by
  unfold State.mbxDone
  extract_lets x1 s1
  have h1 : Canon s s1 := .updReq ..
  exact .after (.raise ..) h1

theorem Canon.i3cDo (s : State) (b : List Byte) : Canon s (s.i3cDo b).2.2 := by
  unfold State.i3cDo
  extract_lets x1 x2 x3 x4 x5
  split
  · dsimp only
    exact .refl _
  · split
    · dsimp only
      exact .refl _
    · split
      · split
        · dsimp only
          exact .refl _
        · exact .half ..
      · exact .half ..

theorem Canon.readBlock (s : State) (who : Requester) (i sub ty n : ℕ) : Canon s (s.readBlock who i sub ty n).2 := by
  unfold State.readBlock
  split
  · exact .pair _ (.refl _)
  · refine .iteSnd (.pair _ (.refl _)) ?_
    split
    · exact .pair _ (.refl _)
    · exact .pair _ (.foldl _ (fun _ _ => .seen ..) _ _)

theorem Canon.writeVal (s : State) (who : Requester) (i : ℕ) (x : BlockVal) : Canon s (s.writeVal who i x).2 := by
  unfold State.writeVal
  split
  next s1 hx1 =>
    have h1 : Canon s s1 := .of_snd_snd (.writeValue ..) hx1
    exact .pair _ h1

theorem Canon.writePass (s : State) (who : Requester) (i : ℕ) (l : List BlockVal) : Canon s (s.writePass who i l).1 := by
  induction l generalizing s with
  | nil => exact .refl s
  | cons x rest ih =>
    unfold State.writePass
    split
    next t hx =>
      split
      · exact .after (ih _) (.of_snd (.writeVal ..) hx)
      · exact ih s

theorem Canon.writePasses (s : State) (n : ℕ) (who : Requester) (i : ℕ) (l : List BlockVal) : Canon s (State.writePasses n who i (s, l)).1 := by
  induction n generalizing s l with
  | zero => exact .refl s
  | succ n ih =>
    unfold State.writePasses
    split
    · exact .refl s
    · exact .after (ih _ _) (.writePass ..)

theorem CanonExcept.writeRows (s : State) (who : Requester) (i : ℕ) (l : List BlockVal) : CanonExcept s (s.writeRows who i l) := by
  unfold State.writeRows
  split
  next t rest hx =>
    have ht : Canon s t := .of_fst (Canon.writePasses ..) hx
    extract_lets t2
    have h2 : Canon s t2 := .after (.foldl _ (fun _ _ => .setObj ..) _ _) ht
    split
    · next u hu => exact .ok (.of_fst (.after (Canon.writePass ..) h2) hu)
    · exact .error ..

theorem Canon.writeBlock (s : State) (who : Requester) (i sub ty n : ℕ) (l : List Byte) : Canon s (s.writeBlock who i sub ty n l).2 := by
  unfold State.writeBlock
  split
  · exact .pair _ (.refl _)
  · refine .iteSnd (.pair _ (.refl _)) ?_
    split
    · exact .pair _ (.refl _)
    · next s1 hx1 =>
        have h1 : Canon s s1 := .of_ok (.writeRows ..) hx1
        exact .pair _ h1

theorem Canon.mopGet (s : State) (who : Requester) (i sub ty off : ℕ) : Canon s (s.mopGet who i sub ty off).2 := by
  unfold State.mopGet
  split
  · next s1 _ hx2 =>
      have h1 : Canon s s1 := .of_snd_snd (.get ..) hx2
      refine .iteSnd ?_ (.pair _ h1)
      extract_lets x1
      exact .iteSnd (.pair _ (.refl _)) (.pair _ h1)
  · next s1 hx1 _ =>
      have h1 : Canon s s1 := .of_snd_snd (.get ..) hx1
      exact .pair _ (.refl _)

theorem Canon.mopPut (s : State) (who : Requester) (i sub ty off : ℕ) (l : List Byte) : Canon s (s.mopPut who i sub ty off l).2 := by
  unfold State.mopPut
  extract_lets x1
  split
  next s1 hx1 =>
    have h1 : Canon s s1 := .of_snd_snd (.put ..) hx1
    exact .pair _ h1

theorem Canon.subscribe (s : State) (k h : ℕ) (l : List Byte) : Canon s (s.subscribe k h l).2 := by
  unfold State.subscribe
  extract_lets x1 x2 x3 x4 x5 x6 x7 x8 x9
  exact .iteSnd (.pair _ (.refl _)) (.iteSnd (.pair _ (.refl _)) (.iteSnd (.pair _ (.refl _)) (.iteSnd (.pair _ (.refl _)) (.pair _ (.frame rfl
      rfl)))))

theorem Canon.unsubscribe (s : State) (k h : ℕ) (l : List Byte) : Canon s (s.unsubscribe k h l).2 := by
  unfold State.unsubscribe
  extract_lets x1 x2
  exact .iteSnd (.pair _ (.refl _)) (.iteSnd (.pair _ (.refl _)) (.pair _ (.frame rfl rfl)))

theorem Canon.serviceAuth (s : State) (k : Fin 8) (ty off : ℕ) (l : List Byte) (valid : Bool) : Canon s (s.serviceAuth k ty off l valid).2 := by
  unfold State.serviceAuth
  split
  · exact .pair _ (.refl _)
  · exact .iteSnd (.pair _ (.refl _)) (.iteSnd (.pair _ (.setSess ..)) (.pair _ (.logRec ..)))

theorem Canon.mopDo (s : State) (k : Fin 8) (h : ℕ) (l : List Byte) (tok : Bool) : Canon s (s.mopDo k h l tok).2 := by
  unfold State.mopDo
  extract_lets x1
  refine .iteSnd (.pair _ (.refl _)) (.iteSnd (.pair _ (.refl _)) (.iteSnd ?_ ?_))
  · split
    next s1 hx1 =>
      have h1 : Canon s s1 := .of_snd (.serviceAuth ..) hx1
      exact .pair _ h1
  · split
    · exact .mopGet ..
    · exact .mopPut ..
    · exact .readBlock ..
    · exact .writeBlock ..
    · exact .iteSnd (.unsubscribe ..) (.subscribe ..)
    · exact .pair _ (.refl _)

theorem Canon.mopAnswer (s : State) (k h : ℕ) (r : MopResp) : Canon s (s.mopAnswer k h r) := .emit ..

theorem Canon.closeOwn (s : State) (who : Requester) (i sub status : ℕ) : Canon s (s.closeOwn who i sub status) := by
  unfold State.closeOwn
  split
  · exact .ite (.closeSession ..) (.refl _)
  · exact .refl _

theorem Canon.respond (s : State) (who : Requester) (status data : ℕ) : Canon s (s.respond who status data) := .emit ..

theorem Canon.runMop (s : State) (k : ℕ) (r : List Byte) (tok : Bool) : Canon s (s.runMop k r tok) := by
  unfold State.runMop
  extract_lets x1 x2
  refine .ite ?_ (.refl _)
  split
  next s1 hx1 =>
    have h1 : Canon s s1 := .of_snd (.mopDo ..) hx1
    extract_lets s2
    have h2 : Canon s s2 := .after (.mopAnswer ..) h1
    exact .ite (.after (.closeOwn ..) h2) h2

theorem Canon.runReq (s : State) (q : DReq) : Canon s (s.runReq q) := by
  unfold State.runReq
  split
  · extract_lets x1
    refine .ite ?_ (.refl _)
    split
    next s1 hx1 =>
      have h1 : Canon s s1 := .of_snd_snd (.mbxDo ..) hx1
      exact .after (.mbxDone ..) h1
  · refine .ite ?_ (.refl _)
    split
    next s1 hx1 =>
      have h1 : Canon s s1 := .of_snd_snd (.i3cDo ..) hx1
      exact .after (.updReq ..) h1
  · exact .runMop ..
  · split
    next s1 hx1 =>
      have h1 : Canon s s1 := .of_snd_snd (.half ..) hx1
      exact .after (.respond ..) h1
  · split
    next s1 hx1 =>
      have h1 : Canon s s1 := by
        refine .of_snd_snd ?_ hx1
        split
        · dsimp only
          exact .refl _
        · exact .get ..
      exact .after (.respond ..) h1
  · split
    next s1 hx1 =>
      have h1 : Canon s s1 := by
        refine .of_snd_snd ?_ hx1
        split
        · dsimp only
          exact .refl _
        · exact .put ..
      exact .after (.closeOwn ..) (.after (.respond ..) h1)
  · exact .runMop ..
  · exact .answerSpdm ..

theorem Canon.refuse (s : State) (q : DReq) (status hint : ℕ) : Canon s (s.refuse q status hint) := by
  unfold State.refuse
  split
  · exact .mbxDone ..
  · exact .updReq ..
  · exact .mopAnswer ..
  · exact .mopAnswer ..
  · exact .respond ..
  · exact .respond ..
  · exact .respond ..
  · exact .refl _

theorem Canon.busy (s : State) (q : DReq) (hint : ℕ) : Canon s (s.busy q hint) := .refuse ..

theorem Canon.offerAt (s : State) (q : DReq) (t : ℕ) : Canon s (s.offerAt q t) := by
  unfold State.offerAt
  extract_lets x1 s1
  have h1 : Canon s s1 := .frame rfl rfl
  exact .ite (.refl _) (.ite h1 (.ite (.ite h1 (.busy ..)) (.runReq ..)))

theorem Canon.offer (s : State) (q : DReq) : Canon s (s.offer q) := .ite (.refuse ..) (.offerAt ..)

theorem Canon.drainQueue (s : State) : Canon s (s.drainQueue) := .after (.foldl _ (fun _ _ => .offerAt ..) _ _) (.frame rfl rfl)

/-! ### Requests -/

theorem Canon.touch (s : State) (who : Requester) : Canon s (s.touch who) := .of_only (s.touch_only who) (by decide) (by decide)

theorem Canon.ask (s : State) (who : Requester) (q : DReq) : Canon s (s.ask who q) := by
  unfold State.ask
  refine .ite (.refl _) ?_
  extract_lets s1
  have h1 : Canon s s1 := .touch ..
  split
  · exact .after (.offer ..) h1
  · exact .ite (.after (.busy ..) h1) (.after (.offer ..) h1)
  · exact .after (.emit ..) h1
  · exact .after (.updReq ..) h1

theorem putRow_canon (s : State) (who : Requester) (i sub len v : ℕ) : CanonOut s (s.putRow who i sub len v) := .next (.ask ..)

theorem getRow_canon (s : State) (who : Requester) (i sub : ℕ) : CanonOut s (s.getRow who i sub) := .next (.ask ..)

theorem Canon.mbxGo (s : State) (f : FnIx) (req arg : ℕ) (data : Option ℕ) : Canon s (s.mbxGo f req arg data) := by
  unfold State.mbxGo
  extract_lets x1 x2 s1
  have h1 : Canon s s1 := .updReq ..
  exact .ite (.refl _) (.ite (.updReq ..) (.after (.offer ..) h1))

theorem execMbxRead_canon (s : State) (f : FnIx) (req arg : Word) : CanonOut s (execMbxRead f req arg s) :=
  .next (.ite (.refl _) (.after (.mbxGo ..) (.posted ..)))

theorem execMbxWrite_canon (s : State) (f : FnIx) (req arg data : Word) : CanonOut s (execMbxWrite f req arg data s) :=
  .next (.ite (.refl _) (.after (.mbxGo ..) (.posted ..)))

theorem Canon.halfRow (s : State) (who : Requester) (write high : Bool) (i sub v : ℕ) : Canon s (s.halfRow who write high i sub v) := by
  unfold State.halfRow
  split
  · exact .refl _
  · exact .ask ..

theorem execLowHalfRead_canon (s : State) (who : Requester) (index sub : ℕ) : CanonOut s (execLowHalfRead who index sub s) := .next (.halfRow ..)

theorem execHighHalfRead_canon (s : State) (who : Requester) (index sub : ℕ) : CanonOut s (execHighHalfRead who index sub s) := .next (.halfRow ..)

theorem execHighHalfWrite_canon (s : State) (who : Requester) (index sub : ℕ) (v : Word) : CanonOut s (execHighHalfWrite who index sub v s) :=
  .next (.halfRow ..)

theorem execLowHalfWrite_canon (s : State) (who : Requester) (index sub : ℕ) (v : Word) : CanonOut s (execLowHalfWrite who index sub v s) :=
  .next (.halfRow ..)

theorem Canon.i3cPrivate (s : State) (a : BitVec 7) (b : List Byte) : Canon s (s.i3cPrivate a b) :=
  .ite (.refl _) (.ite (.emit ..) (.after (.offer ..) (.after (.updReq ..) (.emit ..))))

theorem execI3cRead_canon (s : State) (addr : BitVec 7) (bytes : List Byte) : CanonOut s (execI3cRead addr bytes s) :=
  .next (.ite (.refl _) (.i3cPrivate ..))

theorem execI3cWrite_canon (s : State) (addr : BitVec 7) (bytes : List Byte) : CanonOut s (execI3cWrite addr bytes s) :=
  .next (.ite (.refl _) (.i3cPrivate ..))

theorem execI3cPrivateRead_canon (s : State) (addr : BitVec 7) : CanonOut s (execI3cPrivateRead addr s) := by
  unfold execI3cPrivateRead
  refine .next (.ite (.refl _) (.ite (.emit ..) (.ite ?_ ?_)))
  · split
    next s1 hx1 =>
      have h1 : Canon s s1 := .of_snd (.draw ..) hx1
      exact .after (.emit ..) h1
  · split
    · exact .emit ..
    · exact .emit ..

theorem Canon.i3cAssign (s : State) (a : BitVec 7) : Canon s (s.i3cAssign a) := .ite (.refl _) (.ite (.refl _) (.frame rfl rfl))

theorem execEntdaa_canon (s : State) (addr : BitVec 7) : CanonOut s (execEntdaa addr s) := .next (.i3cAssign ..)

theorem execSetdasa_canon (s : State) (static addr : BitVec 7) : CanonOut s (execSetdasa static addr s) := .next (.ite (.i3cAssign ..) (.refl _))

theorem Canon.i3cEnd (s : State) : Canon s (s.i3cEnd) := .after (.cancelHeld ..) (.endRequester ..)

theorem execRstdaa_canon (s : State) : CanonOut s (execRstdaa s) := by
  unfold execRstdaa
  refine .next (.ite (.refl _) ?_)
  extract_lets s1 x1
  have h1 : Canon s s1 := .i3cEnd ..
  exact .kept h1 rfl rfl

theorem execRstact_canon (s : State) : CanonOut s (execRstact s) := .next (.ite (.refl _) (.i3cEnd ..))

theorem execEnec_canon (s : State) : CanonOut s (execEnec s) := .next (.ite (.refl _) (.frame rfl rfl))

theorem execDisec_canon (s : State) : CanonOut s (execDisec s) := .next (.ite (.refl _) (.frame rfl rfl))

theorem Canon.drawBytes (s : State) (n : ℕ) : Canon s (State.drawBytes n s).2 := by
  induction n generalizing s with
  | zero => exact .refl s
  | succ n ih => exact .after (ih _) (.draw ..)

theorem Canon.i3cGet (s : State) (n : ℕ) : Canon s (s.i3cGet n) := by
  unfold State.i3cGet
  refine .ite (.refl _) ?_
  split
  next s1 hx1 =>
    have h1 : Canon s s1 := .of_snd (.drawBytes ..) hx1
    exact .after (.emit ..) h1

theorem execGetpid_canon (s : State) : CanonOut s (execGetpid s) := .next (.i3cGet ..)

theorem execGetbcr_canon (s : State) : CanonOut s (execGetbcr s) := .next (.i3cGet ..)

theorem execGetdcr_canon (s : State) : CanonOut s (execGetdcr s) := .next (.i3cGet ..)

theorem execGetstatus_canon (s : State) : CanonOut s (execGetstatus s) := .next (.i3cGet ..)

theorem execDtlsHandshake_canon (s : State) (role : Option (Fin 2)) : CanonOut s (execDtlsHandshake role s) := by
  unfold execDtlsHandshake
  refine .next (.ite (.refl _) ?_)
  split
  · exact .emit ..
  · split
    · exact .ite (.logRec ..) (.setSess ..)
    · exact .logRec ..

theorem execMopSessionTimeout_canon (s : State) (k : Fin 8) : CanonOut s (execMopSessionTimeout k s) :=
  .next (.ite (.after (.closeSession ..) (.elapseNs ..)) (.refl _))

theorem Canon.mopRow (s : State) (k : Fin 8) (r : List Byte) (mine : Bool) (q : DReq) : Canon s (s.mopRow k r mine q) :=
  .ite (.refl _) (.ite (.touch ..) (.ask ..))

theorem execMopRead_canon (s : State) (k : Fin 8) (record : List Byte) : CanonOut s (execMopRead k record s) := .next (.mopRow ..)

theorem execMopWrite_canon (s : State) (k : Fin 8) (record : List Byte) : CanonOut s (execMopWrite k record s) := .next (.mopRow ..)

theorem execMopReadBlock_canon (s : State) (k : Fin 8) (record : List Byte) : CanonOut s (execMopReadBlock k record s) := .next (.mopRow ..)

theorem execMopWriteBlock_canon (s : State) (k : Fin 8) (record : List Byte) : CanonOut s (execMopWriteBlock k record s) := .next (.mopRow ..)

theorem execMopSubscribe_canon (s : State) (k : Fin 8) (record : List Byte) : CanonOut s (execMopSubscribe k record s) := .next (.mopRow ..)

theorem execMopSubscribeCancel_canon (s : State) (k : Fin 8) (record : List Byte) : CanonOut s (execMopSubscribeCancel k record s) :=
  .next (.mopRow ..)

theorem Canon.pushSub (s : State) (f : ℕ) (u : Sub) : Canon s (s.pushSub f u) := by
  unfold State.pushSub
  extract_lets x1
  split
  next s1 hx1 =>
    have h1 : Canon s s1 := .of_snd (.iteSnd (.readBlock ..) (.mopGet ..)) hx1
    extract_lets x2
    exact .after (.emit ..) h1

theorem Canon.subPushed (s : State) (f : ℕ) : Canon s (s.subPushed f) := by
  unfold State.subPushed
  extract_lets x1 x2
  exact .frame rfl rfl

theorem execTallySubscriptionPush_canon (s : State) (full : List (Fin 8)) : CanonOut s (execTallySubscriptionPush full s) := by
  unfold execTallySubscriptionPush
  refine .next ?_
  split
  · exact .refl _
  · refine .ite (.refl _) ?_
    extract_lets x1 s1
    have h1 : Canon s s1 := .after (.elapseTo ..) (.subPushed ..)
    exact .ite h1 (.after (.foldl _ (fun _ _ => .pushSub ..) _ _) h1)

theorem execObjectWrite_canon (s : State) (who : Requester) (index sub off len v : ℕ) :
    CanonOut s (execObjectWrite who index sub off len v s) :=
  .next (.ask ..)

theorem execMgmtTransportWrite_canon (s : State) (who : Requester) (sub v : ℕ) : CanonOut s (execMgmtTransportWrite who sub v s) := by
  unfold execMgmtTransportWrite
  split
  · exact .next (.refl _)
  · exact putRow_canon ..

theorem execServiceAuth_canon (s : State) (k : Fin 8) (record : List Byte) (token : Token) : CanonOut s (execServiceAuth k record token s) :=
  .next (.mopRow ..)

theorem execFwData_canon (s : State) (who : Requester) (off : ℕ) (bytes : List Byte) : CanonOut s (execFwData who off bytes s) := .next (.ask ..)

theorem execPavCoresWrite_canon (s : State) (who : Requester) (p : PavIx) (off len v : ℕ) : CanonOut s (execPavCoresWrite who p off len v s) :=
  .next (.ask ..)

theorem execPavRangeWrite_canon (s : State) (who : Requester) (p : PavIx) (sub : Fin 16) (v : ℕ) :
    CanonOut s (execPavRangeWrite who p sub v s) :=
  putRow_canon ..

theorem execDiceLoad_canon (s : State) (who : Requester) (p : PavIx) (v : ℕ) : CanonOut s (execDiceLoad who p v s) := putRow_canon ..

theorem execBsAdmit_canon (s : State) (who : Requester) (p : PavIx) (v : ℕ) : CanonOut s (execBsAdmit who p v s) := putRow_canon ..

theorem execBsRetire_canon (s : State) (who : Requester) (p : PavIx) (v : ℕ) : CanonOut s (execBsRetire who p v s) := putRow_canon ..

theorem execBsStatusRead_canon (s : State) (who : Requester) (p : PavIx) : CanonOut s (execBsStatusRead who p s) := getRow_canon ..

theorem execRotPlanLoad_canon (s : State) (who : Requester) (p : PavIx) (v : ℕ) : CanonOut s (execRotPlanLoad who p v s) := putRow_canon ..

theorem execSundialReform_canon (s : State) (who : Requester) (v : ℕ) : CanonOut s (execSundialReform who v s) := putRow_canon ..

theorem execSundialStatusRead_canon (s : State) (who : Requester) : CanonOut s (execSundialStatusRead who s) := getRow_canon ..

theorem execPortReset_canon (s : State) (who : Requester) (q : PortIx) (v : ℕ) : CanonOut s (execPortReset who q v s) := putRow_canon ..

theorem execPortEnableWrite_canon (s : State) (who : Requester) (q : PortIx) (v : ℕ) : CanonOut s (execPortEnableWrite who q v s) := putRow_canon ..

theorem execRouteCommit_canon (s : State) (who : Requester) (v : ℕ) : CanonOut s (execRouteCommit who v s) := putRow_canon ..

theorem execSatClear_canon (s : State) (who : Requester) (c : CoreIx) (v : ℕ) : CanonOut s (execSatClear who c v s) := putRow_canon ..

theorem execPtRootWrite_canon (s : State) (who : Requester) (p : PavIx) (v : ℕ) : CanonOut s (execPtRootWrite who p v s) := putRow_canon ..

theorem execPavCreate_canon (s : State) (who : Requester) (p : PavIx) (v : ℕ) : CanonOut s (execPavCreate who p v s) := putRow_canon ..

theorem execPavDestroy_canon (s : State) (who : Requester) (p : PavIx) (v : ℕ) : CanonOut s (execPavDestroy who p v s) := putRow_canon ..

theorem execPavReset_canon (s : State) (who : Requester) (p : PavIx) (v : ℕ) : CanonOut s (execPavReset who p v s) := putRow_canon ..

theorem execPavCoreReset_canon (s : State) (who : Requester) (p : PavIx) (v : ℕ) : CanonOut s (execPavCoreReset who p v s) := putRow_canon ..

theorem execCtHistClear_canon (s : State) (who : Requester) (p : PavIx) (v : ℕ) : CanonOut s (execCtHistClear who p v s) := putRow_canon ..

theorem execMpStatusRead_canon (s : State) (who : Requester) : CanonOut s (execMpStatusRead who s) := getRow_canon ..

theorem execVfPointWrite_canon (s : State) (who : Requester) (v : ℕ) : CanonOut s (execVfPointWrite who v s) := putRow_canon ..

theorem execCalStart_canon (s : State) (who : Requester) (v : ℕ) : CanonOut s (execCalStart who v s) := putRow_canon ..

theorem execCalForce_canon (s : State) (who : Requester) (v : ℕ) : CanonOut s (execCalForce who v s) := putRow_canon ..

theorem execFenceRequest_canon (s : State) (who : Requester) (v : ℕ) : CanonOut s (execFenceRequest who v s) := putRow_canon ..

theorem execFenceClear_canon (s : State) (who : Requester) (v : ℕ) : CanonOut s (execFenceClear who v s) := putRow_canon ..

theorem execCmLease_canon (s : State) (who : Requester) (p : PavIx) (v : ℕ) : CanonOut s (execCmLease who p v s) := putRow_canon ..

theorem execAlertAck_canon (s : State) (who : Requester) (v : ℕ) : CanonOut s (execAlertAck who v s) := putRow_canon ..

theorem execBootContinue_canon (s : State) (who : Requester) (v : ℕ) : CanonOut s (execBootContinue who v s) := putRow_canon ..

theorem execWarmReset_canon (s : State) (who : Requester) (v : ℕ) : CanonOut s (execWarmReset who v s) := putRow_canon ..

theorem execFwBegin_canon (s : State) (who : Requester) (v : ℕ) : CanonOut s (execFwBegin who v s) := putRow_canon ..

theorem execFwVerify_canon (s : State) (who : Requester) (v : ℕ) : CanonOut s (execFwVerify who v s) := putRow_canon ..

theorem execFwActivate_canon (s : State) (who : Requester) (v : ℕ) : CanonOut s (execFwActivate who v s) := putRow_canon ..

theorem execFwCommit_canon (s : State) (who : Requester) (v : ℕ) : CanonOut s (execFwCommit who v s) := putRow_canon ..

theorem execFwRestart_canon (s : State) (who : Requester) (v : ℕ) : CanonOut s (execFwRestart who v s) := putRow_canon ..

theorem execKeyRevoke_canon (s : State) (who : Requester) (v : ℕ) : CanonOut s (execKeyRevoke who v s) := putRow_canon ..

theorem execDbgHalt_canon (s : State) (who : Requester) (v : ℕ) : CanonOut s (execDbgHalt who v s) := putRow_canon ..

theorem execDbgResumeRun_canon (s : State) (who : Requester) : CanonOut s (execDbgResumeRun who s) := putRow_canon ..

theorem execDbgResumeSingle_canon (s : State) (who : Requester) : CanonOut s (execDbgResumeSingle who s) := putRow_canon ..

theorem execStalemateFlood_canon (s : State) (who : Requester) (v : ℕ) : CanonOut s (execStalemateFlood who v s) := putRow_canon ..

theorem execFusesLoaded_canon (s : State) : CanonOut s (execFusesLoaded s) := .next (.ite (.after (.drainQueue ..) (.fusesLoaded ..)) (.refl _))

theorem execFwHandoverEnd_canon (s : State) : CanonOut s (execFwHandoverEnd s) := .next (.ite (.after (.drainQueue ..) (.handedOver ..)) (.refl _))

theorem execMgmtRestartComplete_canon (s : State) : CanonOut s (execMgmtRestartComplete s) :=
  .next (.ite (.after (.drainQueue ..) (.mgmtRestarted ..)) (.refl _))

theorem Canon.tick (s : State) : Canon s (s.tick) := .elapse ..

end Sys2Proof.Machine
end

section
/-! PROOF. What keeps memories canonical: every instruction and the step (09 R240; 10 R270). -/

namespace Sys2Proof.Machine
open Sys2Proof.Safety

/-! ### Every instruction -/

theorem exec_canon (s : State) (i : Instr) : CanonOut s (exec i s) := by
  unfold exec
  split
  · exact execEndCmd_canon ..
  · exact execBranch_canon ..
  · exact execLoop_canon ..
  · exact execWaitcnt_canon ..
  · exact execSetcnt_canon ..
  · exact execWaittime_canon ..
  · exact execStep_canon ..
  · exact execFence_canon ..
  · exact execMapinv_canon ..
  · exact execBrk_canon ..
  · exact execRegion_canon ..
  · exact execQconf_canon ..
  · exact execQpush_canon ..
  · exact execQpop_canon ..
  · exact execFork_canon ..
  · exact execJoin_canon ..
  · exact execSetr_canon ..
  · exact execSalu_canon ..
  · exact execNop_canon ..
  · exact execMove_canon ..
  · exact execGather_canon ..
  · exact execScatter_canon ..
  · exact execSignal_canon ..
  · exact execOprefetch_canon ..
  · exact execOflush_canon ..
  · exact execOinv_canon ..
  · exact execSnap_canon ..
  · exact execRoute_canon ..
  · exact execCollect_canon ..
  · exact execLoadw_canon ..
  · exact execMatmul_canon ..
  · exact execConv_canon ..
  · exact execVecop_canon ..
  · exact execReduce_canon ..
  · exact execIssueResume_canon ..
  · exact execMoverStart_canon ..
  · exact execParterreStart_canon ..
  · exact execTrellisStart_canon ..
  · exact execDicePortStart_canon ..
  · exact execCollectPortStart_canon ..
  · exact execLongCommandComplete_canon ..
  · exact execCoreDrainComplete_canon ..
  · exact execTagAccessResume_canon ..
  · exact execTagTimeout_canon ..
  · exact execWaitcntSatisfied_canon ..
  · exact execWaitcntTimeout_canon ..
  · exact execQpopResume_canon ..
  · exact execQpushResume_canon ..
  · exact execJoinMeet_canon ..
  · exact execStepDrainComplete_canon ..
  · exact execFenceComplete_canon ..
  · exact execRegionEffect_canon ..
  · exact execQconfEffect_canon ..
  · exact execEndComplete_canon ..
  · exact execMapinvComplete_canon ..
  · exact execStartRequest_canon ..
  · exact execRemoteWriteArrival_canon ..
  · exact execPendingWriteRelease_canon ..
  · exact execPlotSentinelSweep_canon ..
  · exact execPlotClassify_canon ..
  · exact execPlotRepairComplete_canon ..
  · exact execPlotScrubDone_canon ..
  · exact execPageWalkComplete_canon ..
  · exact execMemoryReadResponse_canon ..
  · exact execHostCompletion_canon ..
  · exact execHostCompletionTimeout_canon ..
  · exact execArbiterGrant_canon ..
  · exact execPipSweepCheck_canon ..
  · exact execDiceLoad_canon ..
  · exact execDiceLoadCopyDone_canon ..
  · exact execDiceRoundClose_canon ..
  · exact execDiceReqReceived_canon ..
  · exact execDicePhaseClose_canon ..
  · exact execDiceOutcomeReceived_canon ..
  · exact execDiceRowReceived_canon ..
  · exact execDiceInboxDeliver_canon ..
  · exact execDiceRelease_canon ..
  · exact execDiceResultReceived_canon ..
  · exact execDiceHoldExpiry_canon ..
  · exact execDiceSourceExpiry_canon ..
  · exact execBsAdmit_canon ..
  · exact execBsRetire_canon ..
  · exact execBsSlotStart_canon ..
  · exact execBatchDeadline_canon ..
  · exact execBsBatchDeliver_canon ..
  · exact execTimeWordDue_canon ..
  · exact execTimeFlitReceived_canon ..
  · exact execPortTimeLiveExpiry_canon ..
  · exact execSourceLoss_canon ..
  · exact execSourceElection_canon ..
  · exact execSundialFrameBoundary_canon ..
  · exact execHoldoverExpiry_canon ..
  · exact execPtpSyncReceived_canon ..
  · exact execPtpSyncTimeout_canon ..
  · exact execSundialReform_canon ..
  · exact execOwnEpochForm_canon ..
  · exact execPpsOutRise_canon ..
  · exact execPpsOutFall_canon ..
  · exact execPpsInEdge_canon ..
  · exact execSundialStatusRead_canon ..
  · exact execFlitSlot_canon ..
  · exact execDataFlitReceived_canon ..
  · exact execNakReceived_canon ..
  · exact execIdleFlitReceived_canon ..
  · exact execHoldFlitReceived_canon ..
  · exact execInitFlitReceived_canon ..
  · exact execPortTrainingDone_canon ..
  · exact execPortTrainingTimeout_canon ..
  · exact execPortTrainingRetry_canon ..
  · exact execRetrainHoldExpiry_canon ..
  · exact execLinkGroupTrainStart_canon ..
  · exact execPortReset_canon ..
  · exact execPortEnableWrite_canon ..
  · exact execMessageHeadArrival_canon ..
  · exact execNoticeReceived_canon ..
  · exact execLinkInjectTimeout_canon ..
  · exact execRouteCommit_canon ..
  · exact execEthFrameTimer_canon ..
  · exact execEthIdleTimer_canon ..
  · exact execEthFrameReceived_canon ..
  · exact execCollectiveLaunch_canon ..
  · exact execRotundaDataReceived_canon ..
  · exact execRotundaCtrlReceived_canon ..
  · exact execCollectiveDeadline_canon ..
  · exact execCollectiveResultWritten_canon ..
  · exact execRotPlanLoad_canon ..
  · exact execRotPlanLoadDone_canon ..
  · exact execRotPlanCommit_canon ..
  · exact execStalemateArmReceived_canon ..
  · exact execStalemateCancelReceived_canon ..
  · exact execDoorbell_canon ..
  · exact execDbRefusalRead_canon ..
  · exact execIntPendingClear_canon ..
  · exact execIntMaskWrite_canon ..
  · exact execListDoneMapClear_canon ..
  · exact execMsixEnable_canon ..
  · exact execBar0UnmappedAccess_canon ..
  · exact execBar2Access_canon ..
  · exact execBar4Access_canon ..
  · exact execPcieConfigRequest_canon ..
  · exact execFlr_canon ..
  · exact execVfEnableClear_canon ..
  · exact execPerstNAssert_canon ..
  · exact execPerstNRise_canon ..
  · exact execMbxRead_canon ..
  · exact execMbxWrite_canon ..
  · exact execLowHalfRead_canon ..
  · exact execHighHalfRead_canon ..
  · exact execHighHalfWrite_canon ..
  · exact execLowHalfWrite_canon ..
  · exact execI3cRead_canon ..
  · exact execI3cWrite_canon ..
  · exact execI3cPrivateRead_canon ..
  · exact execEntdaa_canon ..
  · exact execSetdasa_canon ..
  · exact execRstdaa_canon ..
  · exact execRstact_canon ..
  · exact execEnec_canon ..
  · exact execDisec_canon ..
  · exact execGetpid_canon ..
  · exact execGetbcr_canon ..
  · exact execGetdcr_canon ..
  · exact execGetstatus_canon ..
  · exact execDtlsHandshake_canon ..
  · exact execMopSessionTimeout_canon ..
  · exact execMopRead_canon ..
  · exact execMopWrite_canon ..
  · exact execMopReadBlock_canon ..
  · exact execMopWriteBlock_canon ..
  · exact execMopSubscribe_canon ..
  · exact execMopSubscribeCancel_canon ..
  · exact execTallySubscriptionPush_canon ..
  · exact execObjectWrite_canon ..
  · exact execSatClear_canon ..
  · exact execPtRootWrite_canon ..
  · exact execMapBufferAging_canon ..
  · exact execPavCreate_canon ..
  · exact execPavDestroy_canon ..
  · exact execPavDestroyComplete_canon ..
  · exact execPavReset_canon ..
  · exact execPavResetDrainComplete_canon ..
  · exact execPavResetComplete_canon ..
  · exact execPavCoreReset_canon ..
  · exact execCoreResetComplete_canon ..
  · exact execPavCoresWrite_canon ..
  · exact execPavRangeWrite_canon ..
  · exact execCtHistClear_canon ..
  · exact execPwrSlotSplit_canon ..
  · exact execMillpondSlot_canon ..
  · exact execMpStatusRead_canon ..
  · exact execMillpondPowerStep_canon ..
  · exact execFrameEnergyAttribution_canon ..
  · exact execVfPointWrite_canon ..
  · exact execRailSettled_canon ..
  · exact execRailTimeout_canon ..
  · exact execVfAgingUpdate_canon ..
  · exact execDroopGuardUpdate_canon ..
  · exact execCalStart_canon ..
  · exact execCalForce_canon ..
  · exact execCalibrationWindowEnd_canon ..
  · exact execThermalReading_canon ..
  · exact execThermPointStep_canon ..
  · exact execThermtrip_canon ..
  · exact execFenceRequest_canon ..
  · exact execFenceClear_canon ..
  · exact execFenceTableStore_canon ..
  · exact execCheckmateRunStart_canon ..
  · exact execCmLease_canon ..
  · exact execCheckmateRunEnd_canon ..
  · exact execWatchdogExpiry_canon ..
  · exact execMgmtRestartComplete_canon ..
  · exact execLogFlush_canon ..
  · exact execSensorTimeout_canon ..
  · exact execAlertAck_canon ..
  · exact execRefclkLoss_canon ..
  · exact execPwrgoodRise_canon ..
  · exact execColdReset_canon ..
  · exact execMachenilUp_canon ..
  · exact execFusesLoaded_canon ..
  · exact execHbmTrained_canon ..
  · exact execGrottoTrained_canon ..
  · exact execMemoryTrainingFail_canon ..
  · exact execPlotsScrubbed_canon ..
  · exact execChipReady_canon ..
  · exact execBootContinue_canon ..
  · exact execBootRomRecheck_canon ..
  · exact execWarmReset_canon ..
  · exact execWarmResetComplete_canon ..
  · exact execFwBegin_canon ..
  · exact execFwEraseDone_canon ..
  · exact execFwData_canon ..
  · exact execFwVerify_canon ..
  · exact execFwVerifyDone_canon ..
  · exact execFwActivate_canon ..
  · exact execFwHandoverEnd_canon ..
  · exact execFwCommit_canon ..
  · exact execFwRestart_canon ..
  · exact execKeyRevoke_canon ..
  · exact execServiceAuth_canon ..
  · exact execMgmtTransportWrite_canon ..
  · exact execSpdmRequest_canon ..
  · exact execDbgHalt_canon ..
  · exact execDbgResumeRun_canon ..
  · exact execDbgResumeSingle_canon ..
  · exact execHaltDrainComplete_canon ..
  · exact execStalemateHalt_canon ..
  · exact execStalemateResume_canon ..
  · exact execStalemateFlood_canon ..
  · exact execSnapshotTrigger_canon ..
  · exact execBsStatusRead_canon ..
  · exact execWaittimeCompletion_canon ..
  · exact execTimeBreakpointMatch_canon ..
  · exact execBlockLockLoss_canon ..

/-! ### A step -/

theorem step_canon (s : State) : CanonOut s (step s) := by
  unfold step
  split
  · exact .next (.tick ..)
  · next c rest _ => exact ⟨fun t ht => .trans (t := { s with pending := rest }) (.frame rfl rfl) ((exec_canon ..).of t ht)⟩

/-- Settles O57: every function of the model writes the tiers by `Mem.set`, `Mem.write` and `Mem.zero`, which keep the canonical form. -/
theorem memoryStaysCanonical : Obligations.MemoryStaysCanonical := by
  unfold Obligations.MemoryStaysCanonical
  intro s t hmem h
  exact ((step_canon s).of t h).mem hmem

/-- Settles O58: every core that is put in its place is made of a core of before by writes that keep its Plot canonical, or has an empty Plot. -/
theorem plotsStayCanonical : Obligations.PlotsStayCanonical := by
  unfold Obligations.PlotsStayCanonical
  intro s t hplots h
  exact ((step_canon s).of t h).plots hplots

end Sys2Proof.Machine
end

section
/-! PROOF. The arithmetic of the cap: the remainder handed out in PWR_ORDER, and the pacing of groups and Pavilions (17 R462, R463). -/

namespace Sys2Proof.Machine
open Sys2Proof.Safety

/-! ### The remainder handed out and taken back (17 R462, R484) -/

/-- What three groups in an order get above their floors: each up to its demand, from what the ones before it leave. -/
structure Handed (f D h : Nat → Nat) (top g0 g1 g2 : Nat) : Prop where
  first : h g0 = min top (D g0 - f g0)
  second : h g1 = min (top - h g0) (D g1 - f g1)
  third : h g2 = min (top - h g0 - h g1) (D g2 - f g2)

/-- An order of the three groups. -/
structure Order (g0 g1 g2 : Nat) : Prop where
  lt0 : g0 < 3
  lt1 : g1 < 3
  lt2 : g2 < 3
  ne01 : g0 ≠ g1
  ne02 : g0 ≠ g2
  ne12 : g1 ≠ g2

theorem Order.cases {g0 g1 g2 g : Nat} (h : Order g0 g1 g2) (hg : g < 3) : g = g0 ∨ g = g1 ∨ g = g2 := by
  obtain ⟨h0, h1, h2, h01, h02, h12⟩ := h
  omega

/-- A sum over the three groups, in any order. -/
theorem Order.sum {g0 g1 g2 : Nat} (h : Order g0 g1 g2) (a : Nat → Nat) : a 0 + a 1 + a 2 = a g0 + a g1 + a g2 := by
  obtain ⟨h0, h1, h2, h01, h02, h12⟩ := h
  have hperm : (g0 = 0 ∧ g1 = 1 ∧ g2 = 2) ∨ (g0 = 0 ∧ g1 = 2 ∧ g2 = 1) ∨ (g0 = 1 ∧ g1 = 0 ∧ g2 = 2) ∨ (g0 = 1 ∧ g1 = 2 ∧ g2 = 0) ∨
      (g0 = 2 ∧ g1 = 0 ∧ g2 = 1) ∨ (g0 = 2 ∧ g1 = 1 ∧ g2 = 0) := by omega
  rcases hperm with ⟨rfl, rfl, rfl⟩ | ⟨rfl, rfl, rfl⟩ | ⟨rfl, rfl, rfl⟩ | ⟨rfl, rfl, rfl⟩ | ⟨rfl, rfl, rfl⟩ | ⟨rfl, rfl, rfl⟩ <;> omega

/-- What each group gets can be told for every amount to hand out. -/
theorem Order.exists_handed {g0 g1 g2 : Nat} (ho : Order g0 g1 g2) (f D : Nat → Nat) (top : Nat) : ∃ h, Handed f D h top g0 g1 g2 := by
  obtain ⟨-, -, -, h01, h02, h12⟩ := ho
  obtain ⟨x, hx⟩ : ∃ x, x = min top (D g0 - f g0) := ⟨_, rfl⟩
  obtain ⟨y, hy⟩ : ∃ y, y = min (top - x) (D g1 - f g1) := ⟨_, rfl⟩
  refine ⟨fun g => if g = g0 then x else if g = g1 then y else min (top - x - y) (D g2 - f g2), ?_, ?_, ?_⟩
  · simp [hx]
  · simp [h01.symm, hy]
  · simp [h01.symm, h02.symm, h12.symm]

theorem capHand_of_handed {f D h : Nat → Nat} {top g0 g1 g2 g : Nat} (ho : Order g0 g1 g2) (hh : Handed f D h top g0 g1 g2) (hg : g < 3) :
    capHand D [g0, g1, g2] top f g = f g + h g := by
  obtain ⟨hfirst, hsecond, hthird⟩ := hh
  have h10 : g1 ≠ g0 := ho.ne01.symm
  have h20 : g2 ≠ g0 := ho.ne02.symm
  have h21 : g2 ≠ g1 := ho.ne12.symm
  simp only [capHand, h10, h20, h21, ite_false, ← hfirst, ← hsecond, ← hthird]
  rcases ho.cases hg with rfl | rfl | rfl
  · simp [ho.ne01, ho.ne02]
  · simp [ho.ne12]
  · simp

theorem Handed.le_top {f D h : Nat → Nat} {top g0 g1 g2 : Nat} (ho : Order g0 g1 g2) (hh : Handed f D h top g0 g1 g2) : h 0 + h 1 + h 2 ≤ top := by
  obtain ⟨hfirst, hsecond, hthird⟩ := hh
  rw [ho.sum h]
  omega

theorem capTake_zero (f : Nat → Nat) (gs : List Nat) (a : Nat → Nat) : capTake f gs 0 a = a := by
  induction gs generalizing a with
  | nil => rfl
  | cons g gs ih =>
    have hsame : (fun x => if x = g then a g - min 0 (a g - f g) else a x) = a := by
      funext x
      by_cases hx : x = g <;> simp [hx]
    unfold capTake
    dsimp only
    rw [hsame, Nat.zero_sub]
    exact ih a

/-- What is taken back leaves every group its floor; it is all that is needed, or the groups in turn are left their floors alone. -/
theorem capTake_spec {f : Nat → Nat} {gs : List Nat} (hgs : ∀ g ∈ gs, g < 3) (need : Nat) {a : Nat → Nat} (hf : ∀ g, f g ≤ a g) :
    (∀ g, f g ≤ capTake f gs need a g ∧ capTake f gs need a g ≤ a g) ∧ ∃ taken, taken ≤ need ∧
      capTake f gs need a 0 + capTake f gs need a 1 + capTake f gs need a 2 + taken = a 0 + a 1 + a 2 ∧
      (taken = need ∨ ∀ g ∈ gs, capTake f gs need a g = f g) := by
  induction gs generalizing need a with
  | nil => exact ⟨fun g => ⟨hf g, le_rfl⟩, 0, Nat.zero_le _, rfl, .inr nofun⟩
  | cons g gs ih =>
    unfold capTake
    extract_lets t
    obtain ⟨b, hb⟩ : ∃ b : Nat → Nat, b = fun x => if x = g then a g - t else a x := ⟨_, rfl⟩
    have hbg : b g = a g - t := by simp [hb]
    have hbx : ∀ x, x ≠ g → b x = a x := fun x hx => by simp [hb, hx]
    have hfg := hf g
    have hfb : ∀ x, f x ≤ b x := fun x => by
      by_cases hx : x = g
      · rw [hx, hbg]
        omega
      · exact (hbx x hx).symm ▸ hf x
    have hba : ∀ x, b x ≤ a x := fun x => by
      by_cases hx : x = g
      · rw [hx, hbg]
        exact Nat.sub_le ..
      · exact (hbx x hx).le
    have hsum : b 0 + b 1 + b 2 + t = a 0 + a 1 + a 2 := by
      have hlt := hgs g List.mem_cons_self
      have hle : t ≤ a g := (Nat.min_le_right ..).trans (Nat.sub_le ..)
      have h0 := hbx 0
      have h1 := hbx 1
      have h2 := hbx 2
      clear_value t
      obtain rfl | rfl | rfl : g = 0 ∨ g = 1 ∨ g = 2 := by omega
      · omega
      · omega
      · omega
    obtain ⟨hrange, taken, hle, htotal, hend⟩ := ih (fun x hx => hgs x (List.mem_cons_of_mem _ hx)) (need - t) hfb
    rw [← hb]
    refine ⟨fun x => ⟨(hrange x).1, (hrange x).2.trans (hba x)⟩, t + taken, by omega, by omega, ?_⟩
    by_cases hall : t = need
    · exact .inl (by omega)
    · have htaken : b g = f g := by omega
      rcases hend with hend | hend
      · exact .inl (by omega)
      · refine .inr fun x hx => ?_
        rcases List.mem_cons.1 hx with rfl | hx
        · have hx := hrange x
          omega
        · exact hend x hx

/-- The allotments: floors, and what is handed out above them, less what thermal limiting takes (17 R462, R484). -/
theorem capAllot_spec {f D h : Nat → Nat} {left full g0 g1 g2 : Nat} {therm : Bool} {a : Nat → Nat} (ho : Order g0 g1 g2)
    (hh : Handed f D h (if therm then full else left) g0 g1 g2) (ha : a = capAllot f D [g0, g1, g2] left full therm) (hf : ∀ g, 3 ≤ g → f g = 0) :
    (therm = false → ∀ g, g < 3 → a g = f g + h g) ∧
    (therm = true → h 0 + h 1 + h 2 - left ≤ h 2 → a 2 = f 2 + (h 2 - (h 0 + h 1 + h 2 - left)) ∧ a 0 = f 0 + h 0 ∧ a 1 = f 1 + h 1) ∧
    a 0 + a 1 + a 2 = f 0 + f 1 + f 2 + min left (h 0 + h 1 + h 2) ∧ ∀ g, g < 3 → f g ≤ a g := by
  have hlt : ∀ g, g < 3 → capHand D [g0, g1, g2] (if therm then full else left) f g = f g + h g := fun g hg => capHand_of_handed ho hh hg
  have htop := hh.le_top ho
  cases therm with
  | false =>
    have hag : ∀ g, g < 3 → a g = f g + h g := fun g hg => by
      rw [ha]
      exact hlt g hg
    have h0 := hag 0 (by omega)
    have h1 := hag 1 (by omega)
    have h2 := hag 2 (by omega)
    simp only [Bool.false_eq_true, ite_false] at htop
    exact ⟨fun _ => hag, nofun, by omega, fun g hg => (hag g hg).symm ▸ Nat.le_add_right ..⟩
  | true =>
    obtain ⟨c, hc⟩ : ∃ c : Nat → Nat, c = capHand D [g0, g1, g2] full f := ⟨_, rfl⟩
    have hlt' : ∀ g, g < 3 → c g = f g + h g := fun g hg => hc ▸ hlt g hg
    have hfc : ∀ g, f g ≤ c g := fun g => by
      by_cases hg : g < 3
      · exact (hlt' g hg).symm ▸ Nat.le_add_right ..
      · exact (hf g (by omega)).symm ▸ Nat.zero_le _
    have hextra : capExtra f c = h 0 + h 1 + h 2 := by
      simp [capExtra, hlt']
    have hac : a = capTake f (2 :: [g0, g1, g2].reverse) (h 0 + h 1 + h 2 - left) c := by
      rw [ha, ← hextra, hc]
      rfl
    have hmem : ∀ g ∈ 2 :: [g0, g1, g2].reverse, g < 3 := by
      simp [ho.lt0, ho.lt1, ho.lt2]
    obtain ⟨hrange, taken, hle, htotal, hend⟩ := capTake_spec hmem (h 0 + h 1 + h 2 - left) hfc
    rw [← hac] at hrange htotal hend
    have h0 := hlt' 0 (by omega)
    have h1 := hlt' 1 (by omega)
    have h2 := hlt' 2 (by omega)
    refine ⟨nofun, fun _ hneed => ?_, ?_, fun g _ => (hrange g).1⟩
    · have hfirst : a = fun x => if x = 2 then c 2 - (h 0 + h 1 + h 2 - left) else c x := by
        have hmin : min (h 0 + h 1 + h 2 - left) (c 2 - f 2) = h 0 + h 1 + h 2 - left := by omega
        rw [hac]
        unfold capTake
        dsimp only
        rw [hmin, Nat.sub_self, capTake_zero]
      rw [hfirst]
      simp only [ite_true, OfNat.zero_ne_ofNat, OfNat.one_ne_ofNat, ite_false]
      omega
    · rcases hend with hend | hend
      · omega
      · have e0 := hend 0 (by rcases ho.cases (g := 0) (by omega) with h | h | h <;> simp [h])
        have e1 := hend 1 (by rcases ho.cases (g := 1) (by omega) with h | h | h <;> simp [h])
        have e2 := hend 2 (by simp)
        omega

/-! ### Pacing (17 R463) -/

@[simp] theorem levelPace_l0 (d : LevelPower) (need : Nat) : (levelPace d need).l0 = d.l0 := rfl

/-- A group is held to its allotment but for level 0. -/
theorem levelTotal_levelPace (d : LevelPower) (a : Nat) :
    levelTotal (levelPace d (levelTotal d - a)) = max d.l0 (min (levelTotal d) a) := by
  simp only [levelTotal, levelPace]
  omega

theorem levelPace_zero (d : LevelPower) : levelPace d 0 = d := by
  simp [levelPace]

theorem cdiv_mul_le {t x : Nat} (y : Nat) (h : t ≤ x) : cdiv (t * y) x ≤ y := by
  rcases Nat.eq_zero_or_pos x with rfl | hx
  · unfold cdiv
    rw [Nat.div_zero]
    exact Nat.zero_le _
  · refine Nat.le_of_lt_succ ((Nat.div_lt_iff_lt_mul hx).2 ?_)
    have hmul : t * y ≤ y * x := (Nat.mul_le_mul_right y h).trans (Nat.mul_comm ..).le
    rw [Nat.succ_mul]
    omega

theorem cdiv_zero (x : Nat) : cdiv 0 x = 0 := by
  have h := cdiv_mul_le (t := 0) (x := x) 0 (Nat.zero_le _)
  rw [Nat.zero_mul] at h
  exact Nat.le_zero.1 h

theorem mul_le_mul_cdiv {x : Nat} (n : Nat) (hx : 0 < x) : n ≤ x * cdiv n x := by
  have h := Nat.div_add_mod (n + x - 1) x
  have hlt := Nat.mod_lt (n + x - 1) hx
  unfold cdiv
  omega

/-- The part withheld from entries in proportion to what each gives, in all. -/
theorem sum_sub_cdiv_le {α : Type} {t x : Nat} (v e : α → Nat) (hx : 0 < x) (ht : t ≤ x) (he : ∀ y, e y ≤ v y) (l : List α) :
    x * (l.map (fun y => v y - cdiv (t * e y) x)).sum + t * (l.map e).sum ≤ x * (l.map v).sum := by
  induction l with
  | nil => simp
  | cons y l ih =>
    have hle := cdiv_mul_le (e y) ht
    have hge := mul_le_mul_cdiv (t * e y) hx
    have hsub : x * (v y - cdiv (t * e y) x) + x * cdiv (t * e y) x = x * v y := by
      rw [← Nat.mul_add, Nat.sub_add_cancel (hle.trans (he y))]
    simp only [List.map_cons, List.sum_cons, Nat.mul_add]
    omega

/-- What Pavilions draw above their shares. -/
def excess (l : List (Nat × Nat)) : Nat := (l.map (fun y => y.1 - y.2)).sum

theorem paceExcess_eq (need : Nat) (l : List (Nat × Nat)) :
    paceExcess need l = (l.map (fun y => (y.1 - cdiv (min need (excess l) * (y.1 - y.2)) (excess l), y.2)), need - min need (excess l)) := rfl

/-- The excess gives what is needed, as far as it goes. -/
theorem sum_paceExcess_le (need : Nat) (l : List (Nat × Nat)) :
    ((paceExcess need l).1.map (·.1)).sum + min need (excess l) ≤ (l.map (·.1)).sum := by
  rw [paceExcess_eq, List.map_map]
  rcases Nat.eq_zero_or_pos (excess l) with hx | hx
  · rw [hx, Nat.min_zero, Nat.add_zero]
    exact List.sum_le_sum fun y _ => Nat.sub_le ..
  · have hsum := sum_sub_cdiv_le (fun y : Nat × Nat => y.1) (fun y => y.1 - y.2) hx (Nat.min_le_right need (excess l)) (fun _ => Nat.sub_le ..) l
    rw [show (l.map (fun y => y.1 - y.2)).sum = excess l from rfl, Nat.mul_comm (min _ _), ← Nat.mul_add] at hsum
    exact Nat.le_of_mul_le_mul_left hsum hx

/-- A need above the excess leaves everyone at most its share. -/
theorem sum_paceExcess_le_shares {need : Nat} {l : List (Nat × Nat)} (h : excess l ≤ need) :
    ((paceExcess need l).1.map (·.1)).sum ≤ (l.map (·.2)).sum := by
  rw [paceExcess_eq, List.map_map]
  refine List.sum_le_sum fun y hy => ?_
  have hle : y.1 - y.2 ≤ excess l := List.single_le_sum (fun _ _ => Nat.zero_le _) _ (List.mem_map_of_mem hy)
  dsimp only [Function.comp]
  rw [Nat.min_eq_right h]
  rcases Nat.eq_zero_or_pos (excess l) with hx | hx
  · omega
  · have hge := mul_le_mul_cdiv (excess l * (y.1 - y.2)) hx
    have := Nat.le_of_mul_le_mul_left hge hx
    omega

theorem paceExcess_within {need : Nat} {l : List (Nat × Nat)} {y : Nat × Nat} {i : Nat} (hy : l[i]? = some y) (h : y.1 ≤ y.2) :
    (paceExcess need l).1[i]? = some y := by
  rw [paceExcess_eq, List.getElem?_map, hy, Option.map_some, Nat.sub_eq_zero_of_le h, Nat.mul_zero, cdiv_zero]
  rfl

theorem paceExcess_zero (l : List (Nat × Nat)) : paceExcess 0 l = (l, 0) := by
  rw [paceExcess_eq, Nat.zero_min]
  simp [cdiv_zero]

/-- Withholding in proportion to the shares raises nobody. -/
theorem sum_paceShares_le (fuel need : Nat) (l : List (Nat × Nat)) : ((paceShares fuel need l).map (·.1)).sum ≤ (l.map (·.1)).sum := by
  induction fuel generalizing need l with
  | zero => exact le_rfl
  | succ fuel ih =>
    unfold paceShares
    extract_lets total l'
    split
    · exact le_rfl
    · refine (ih _ l').trans ?_
      unfold l'
      rw [List.map_map]
      exact List.sum_le_sum fun y _ => Nat.sub_le ..

/-- The draws of the Pavilions, each with its share. -/
def State.shared (s : State) (comp : List Nat) : List (Nat × Nat) := comp.zipIdx.map (fun y => (y.1, 256 * s.pwrShare y.2))

theorem State.map_fst_shared (s : State) (comp : List Nat) : (s.shared comp).map (·.1) = comp := by
  rw [State.shared, List.map_map]
  exact List.zipIdx_map_fst ..

theorem State.sum_shared_le (s : State) {comp : List Nat} (h : comp.length ≤ 16) : ((s.shared comp).map (·.2)).sum ≤ 256 * s.shareSum := by
  have hshares : (s.shared comp).map (·.2) = (List.range comp.length).map (fun p => 256 * s.pwrShare p) := by
    rw [State.shared, List.map_map, List.range_eq_range', ← List.zipIdx_map_snd 0 comp, List.map_map]
    rfl
  have hsum : 256 * s.shareSum = ((List.range 16).map (fun p => 256 * s.pwrShare p)).sum := by
    rw [State.shareSum, List.sum_map_mul_left]
  rw [hshares, hsum]
  exact ((List.range_sublist.2 h).map _).sum_le_sum fun _ _ => Nat.zero_le _

/-- How far COMPUTE gives way: by what is needed, or to the shares of its Pavilions; by all that is needed as far as the excess goes. -/
theorem State.paceCompute_spec (s : State) (within : Bool) (need : Nat) (comp : List Nat) :
    (s.paceCompute within need comp).1.sum ≤ comp.sum ∧
    (need ≤ excess (s.shared comp) → (s.paceCompute within need comp).1.sum + need ≤ comp.sum) ∧
    (excess (s.shared comp) ≤ need → (s.paceCompute within need comp).1.sum ≤ ((s.shared comp).map (·.2)).sum) ∧
    (within = false → (s.paceCompute within need comp).2 = false ∧ ∀ i v, comp[i]? = some v → v ≤ 256 * s.pwrShare i →
      (s.paceCompute within need comp).1[i]? = some v) := by
  have hsum := sum_paceExcess_le need (s.shared comp)
  rw [s.map_fst_shared] at hsum
  have hpaced : (s.paceCompute within need comp).1.sum ≤ ((paceExcess need (s.shared comp)).1.map (·.1)).sum := by
    unfold State.paceCompute
    dsimp only
    split
    · exact sum_paceShares_le ..
    · exact le_rfl
  refine ⟨by omega, fun h => ?_, fun h => hpaced.trans (sum_paceExcess_le_shares h), fun h => ?_⟩
  · rw [Nat.min_eq_left h] at hsum
    omega
  · subst h
    refine ⟨rfl, fun i v hv hle => ?_⟩
    have hentry : (s.shared comp)[i]? = some (v, 256 * s.pwrShare i) := by
      simp [State.shared, hv]
    have hkept := paceExcess_within (need := need) hentry hle
    change ((paceExcess need (s.shared comp)).1.map (·.1))[i]? = some v
    rw [List.getElem?_map, hkept]
    rfl

theorem State.paceCompute_zero (s : State) (within : Bool) (comp : List Nat) : s.paceCompute within 0 comp = (comp, false) := by
  have hfst : ((s.shared comp).map (·.1)) = comp := s.map_fst_shared comp
  unfold State.paceCompute
  rw [show comp.zipIdx.map (fun y => (y.1, 256 * s.pwrShare y.2)) = s.shared comp from rfl, paceExcess_zero]
  simp [hfst]

end Sys2Proof.Machine
end

section
/-! PROOF. The power split of a slot: the cap, the allotments and the pacing that holds them (17 R460 to R464). -/

namespace Sys2Proof.Machine
open Sys2Proof.Safety

/-! ### The slots (17 R462) -/

theorem le_absSlot_of_absStart_le {k t : Nat} (h : absStart k ≤ t) : k ≤ absSlot t := by
  simp only [absStart, slotStart, cdiv, absSlot, frameOf, slotOf] at h ⊢
  omega

/-- A slot start that is due leaves time as it is. -/
theorem State.toSlot_due {s : State} {k : Nat} (h : k < absSlot s.time.now) : s.toSlot (some k) = s := by
  unfold State.toSlot
  simp [h]

/-- A controller that has processed the slot waits for the next one. -/
theorem State.absSlot_lt_toSlot {s : State} {k : Nat} (h : absSlot s.time.now ≤ k) (hsteady : Steady s) :
    absSlot s.time.now < absSlot (s.toSlot (some k)).time.now := by
  have hto : s.toSlot (some k) = s.elapseTo (absStart (absSlot s.time.now + 1)) := by
    unfold State.toSlot
    simp [Nat.not_lt.2 h]
  rw [hto]
  exact le_absSlot_of_absStart_le (State.le_elapseTo_steady hsteady _)

theorem State.setPower_only (s : State) (p : Power) : Only [.power] s { s with power := p } := only_iff_mask.2 (mask_power s (by decide) p)

/-! ### The cap (17 R460, R484) -/

/-- The cap of the next slot changes the three fields of the cap alone. -/
theorem State.capNext_spec (s : State) : ∃ e r t, s.capNext = { s with power := { s.power with capEff := e, capRamp := r, capTherm := t } } ∧
    (s.energy.limit = false → s.power.capTherm = false → s.power.capEff ≤ 256 * s.pwrCap → e = 256 * s.pwrCap ∧ r = false) ∧
    (s.energy.limit = false → s.power.capTherm = false → s.power.capRamp = true → 256 * s.pwrCap < s.power.capEff →
      e = max (256 * s.pwrCap) (s.power.capEff - s.mpRamp)) ∧
    (s.energy.limit = true → e = min (256 * s.pwrCap) (s.power.capEff - s.mpRamp)) := by
  unfold State.capNext
  extract_lets cap e r w ok e1 from_ e2 e3
  split
  · next hlimit => exact ⟨_, _, _, rfl, fun h => absurd (hlimit.symm.trans h) nofun, fun h => absurd (hlimit.symm.trans h) nofun, fun _ => rfl⟩
  · next hlimit =>
    split
    · next htherm =>
      exact ⟨_, _, _, rfl, fun _ h => absurd (htherm.symm.trans h) nofun, fun _ h => absurd (htherm.symm.trans h) nofun, fun h => absurd h hlimit⟩
    · split
      · next hlow =>
        refine ⟨_, _, _, rfl, fun _ _ h => absurd hlow (Nat.not_lt.2 h), fun _ _ hramp hlt => ?_, fun h => absurd h hlimit⟩
        have hfrom : from_ = e := if_pos hramp
        unfold e3 e2
        rw [hfrom, if_neg (Nat.ne_of_gt hlt)]
      · next hlow => exact ⟨_, _, _, rfl, fun _ _ _ => ⟨rfl, rfl⟩, fun _ _ _ h => absurd h hlow, fun h => absurd h hlimit⟩

/-! ### The draws of a slot (17 R463, R464) -/

theorem State.capPace_spec (s : State) (d : PowerDemand) : (s.capPace d).1.base = d.base ∧
    (s.capPace d).1.links = levelPace d.links (levelTotal d.links - Sparse.getD s.power.allot 2 0) ∧
    (s.capPace d).1.mem = levelPace d.mem (levelTotal d.mem - Sparse.getD s.power.allot 3 0) ∧
    (d.comp.length ≤ 16 → 256 * s.shareSum ≤ Sparse.getD s.power.allot 4 0 → (s.capPace d).1.comp.sum ≤ Sparse.getD s.power.allot 4 0) ∧
    (s.power.mayBreach = false → (s.capPace d).2 = false ∧ ∀ i v, d.comp[i]? = some v → v ≤ 256 * s.pwrShare i →
      (s.capPace d).1.comp[i]? = some v) := by
  unfold State.capPace
  extract_lets a links mem room lim
  have hlim : lim ≤ a 4 := by
    unfold lim
    split
    · exact Nat.min_le_left ..
    · exact le_rfl
  obtain ⟨-, hneed, hshares, hwithin⟩ := s.paceCompute_spec s.power.mayBreach (d.comp.sum - lim) d.comp
  refine ⟨rfl, rfl, rfl, fun hlen hfloor => ?_, hwithin⟩
  change (s.paceCompute s.power.mayBreach (d.comp.sum - lim) d.comp).1.sum ≤ a 4
  rcases Nat.le_total (d.comp.sum - lim) (excess (s.shared d.comp)) with h | h
  · have := hneed h
    omega
  · exact (hshares h).trans ((s.sum_shared_le hlen).trans hfloor)

/-- The state in which the draws of a slot are paced to the allotments. -/
def State.pacedSlot (s : State) (d : PowerDemand) : State :=
  let t := { s with power := { s.power with mayBreach := s.breachAdmitted d } }
  { t with power := { t.power with draw := (t.capPace d).1, shareBreach := s.energy.emergency || (t.capPace d).2 } }

/-- Pacing changes the draw and the marks of a breach alone. -/
theorem State.pacedSlot_eq (s : State) (d : PowerDemand) : s.pacedSlot d = { s with power := { s.power with
    mayBreach := s.breachAdmitted d, draw := (({ s with power := { s.power with mayBreach := s.breachAdmitted d } } : State).capPace d).1,
    shareBreach := s.energy.emergency || (({ s with power := { s.power with mayBreach := s.breachAdmitted d } } : State).capPace d).2 } } := rfl

/-- The split of a slot start, at the time it is made. -/
def State.slotSplit (s : State) (d : PowerDemand) : State :=
  let s := { s with power := { s.power with splitSlot := some (absSlot s.time.now) } }
  let s := (if s.fw.down then s else s.capNext.splitCap d).pacedSlot d
  s.countBreach (powerTotal s.power.draw / 256)

theorem exec_pwrSlotSplit {s : State} (d : PowerDemand) (hpower : s.boot.pwrgood = true) :
    exec (.pwrSlotSplit d) s = .next ((s.toSlot s.power.splitSlot).slotSplit d) := by
  change execPwrSlotSplit d s = _
  unfold execPwrSlotSplit
  rw [if_neg (by simp [hpower])]
  rfl

/-- The state before the breach of a slot is counted. -/
def State.slotDrawn (s : State) (d : PowerDemand) : State :=
  (if s.fw.down then ({ s with power := { s.power with splitSlot := some (absSlot s.time.now) } } : State)
    else (({ s with power := { s.power with splitSlot := some (absSlot s.time.now) } } : State).capNext.splitCap d)).pacedSlot d

theorem State.slotSplit_eq (s : State) (d : PowerDemand) : s.slotSplit d = (s.slotDrawn d).countBreach (powerTotal (s.slotDrawn d).power.draw / 256) := rfl

/-- What stands after a split is what stood before the breach was counted. -/
theorem State.slotSplit_spec (s : State) (d : PowerDemand) : Only [.power, .log, .fns, .out] s (s.slotSplit d) ∧
    (∃ f n g, (s.slotSplit d).power = { (s.slotDrawn d).power with breachCounted := f, breachFrames := n, lastBreach := g }) ∧
    (s.slotSplit d).power.splitSlot = some (absSlot s.time.now) := by
  have hdrawn : Only [.power] s (s.slotDrawn d) ∧ (s.slotDrawn d).power.splitSlot = some (absSlot s.time.now) := by
    unfold State.slotDrawn
    split
    · exact ⟨only_iff_mask.2 (mask_power s (by decide) _), rfl⟩
    · obtain ⟨e, r, t, hcap, -⟩ := State.capNext_spec { s with power := { s.power with splitSlot := some (absSlot s.time.now) } }
      rw [hcap]
      exact ⟨only_iff_mask.2 (mask_power s (by decide) _), rfl⟩
  obtain ⟨hbreach, f, n, g, hpower⟩ := (s.slotDrawn d).countBreach_spec (powerTotal (s.slotDrawn d).power.draw / 256)
  refine ⟨(hdrawn.1.mono (by decide)).trans hbreach.only, ⟨f, n, g, hpower⟩, ?_⟩
  rw [s.slotSplit_eq, hpower]
  exact hdrawn.2

/-- While Machenil is down the allotments and the cap stay (20 R544). -/
theorem State.slotSplit_down {s : State} (d : PowerDemand) (hdown : s.fw.down = true) :
    (s.slotSplit d).power.allot = s.power.allot ∧ (s.slotSplit d).power.capEff = s.power.capEff := by
  obtain ⟨-, ⟨f, n, g, hpower⟩, -⟩ := s.slotSplit_spec d
  have hdrawn : s.slotDrawn d = ({ s with power := { s.power with splitSlot := some (absSlot s.time.now) } } : State).pacedSlot d := by
    unfold State.slotDrawn
    rw [if_pos hdown]
  rw [hpower, hdrawn]
  exact ⟨rfl, rfl⟩

/-- The splits of all slot starts, due or not (17 R462). -/
theorem pwrSlotSplit_slot (s : State) (d : PowerDemand) (hpower : s.boot.pwrgood = true) :
    ∃ s', exec (.pwrSlotSplit d) s = .next s' ∧ s'.power.splitSlot = some (absSlot s'.time.now) ∧
      ∀ k, s.power.splitSlot = some k → absSlot s.time.now ≤ k → Steady s → absSlot s.time.now < absSlot s'.time.now := by
  obtain ⟨honly, -, hslot⟩ := (s.toSlot s.power.splitSlot).slotSplit_spec d
  have htime : ((s.toSlot s.power.splitSlot).slotSplit d).time = (s.toSlot s.power.splitSlot).time := honly.time.resolve_left (by decide)
  refine ⟨_, exec_pwrSlotSplit d hpower, ?_, fun k hk hle hsteady => ?_⟩
  · rw [hslot, htime]
  · rw [htime, hk]
    exact State.absSlot_lt_toSlot hle hsteady

/-! ### A split that is due (17 R462 to R464) -/

/-- The floors of the groups (17 R461). -/
def State.capFloor (s : State) (g : Nat) : Nat :=
  256 * (if g = 0 then s.floorLinks else if g = 1 then s.floorMem else if g = 2 then s.shareSum else 0)

theorem State.capFloor_eq (s : State) {g : Nat} (hg : g < 3) : s.capFloor g = 256 * (if g = 0 then s.obj 0x4010 3 else if g = 1 then s.obj 0x4010 4
    else ((List.range 16).map (fun p => s.obj 0x4011 (p + 1))).sum) := by
  unfold State.capFloor
  congr 1
  split
  · rfl
  · split
    · rfl
    · rw [if_pos (by omega)]
      rfl

/-- The demands of the groups. -/
def groupDemand (d : PowerDemand) (g : Nat) : Nat := if g = 0 then levelTotal d.links else if g = 1 then levelTotal d.mem else d.comp.sum

/-- What a cap leaves above BASE and the floors. -/
def State.capRest (s : State) (d : PowerDemand) (cap : Nat) : Nat :=
  if s.capStarting then 0 else cap - d.base - s.capFloor 0 - s.capFloor 1 - s.capFloor 2

/-- The fields that a split sets, while Machenil is up. -/
theorem State.slotDrawn_up {s : State} (d : PowerDemand) {g0 g1 g2 : Nat} (ho : Order g0 g1 g2) (hup : s.fw.down = false)
    (horder : s.obj 0x4010 1 % 64 = g0 + 4 * g1 + 16 * g2) : ∃ e r t a,
    (s.energy.limit = false → s.power.capTherm = false → s.power.capEff ≤ 256 * s.pwrCap → e = 256 * s.pwrCap ∧ r = false) ∧
    (s.energy.limit = false → s.power.capTherm = false → s.power.capRamp = true → 256 * s.pwrCap < s.power.capEff →
      e = max (256 * s.pwrCap) (s.power.capEff - s.mpRamp)) ∧
    (s.energy.limit = true → e = min (256 * s.pwrCap) (s.power.capEff - s.mpRamp)) ∧
    a = capAllot s.capFloor (groupDemand d) [g0, g1, g2] (s.capRest d e) (s.capRest d (256 * s.pwrCap)) t ∧
    s.slotDrawn d = ({ s with power := { s.power with
      splitSlot := some (absSlot s.time.now), capEff := e, capRamp := r, capTherm := t, allot := [(1, d.base), (2, a 0), (3, a 1), (4, a 2)] } } : State).pacedSlot d := by
  obtain ⟨e, r, t, hcap, hrise, hfall, hlimit⟩ := State.capNext_spec { s with power := { s.power with splitSlot := some (absSlot s.time.now) } }
  have hbits : bits (s.obj 0x4010 1) 1 0 = g0 ∧ bits (s.obj 0x4010 1) 3 2 = g1 ∧ bits (s.obj 0x4010 1) 5 4 = g2 := by
    obtain ⟨h0, h1, h2, -, -, -⟩ := ho
    simp only [bits]
    omega
  obtain ⟨hb0, hb1, hb2⟩ := hbits
  refine ⟨e, r, t, _, hrise, hfall, hlimit, rfl, ?_⟩
  unfold State.slotDrawn
  rw [if_neg (by simp [hup]), hcap, ← hb0, ← hb1, ← hb2]
  rfl

/-- The draw of the slot, paced to allotments that cover the floors. -/
theorem State.pacedSlot_spec (s : State) (d : PowerDemand) : (s.pacedSlot d).power.draw.base = d.base ∧
    (s.pacedSlot d).power.draw.links.l0 = d.links.l0 ∧ (s.pacedSlot d).power.draw.mem.l0 = d.mem.l0 ∧
    levelTotal (s.pacedSlot d).power.draw.links = max d.links.l0 (min (levelTotal d.links) (Sparse.getD s.power.allot 2 0)) ∧
    levelTotal (s.pacedSlot d).power.draw.mem = max d.mem.l0 (min (levelTotal d.mem) (Sparse.getD s.power.allot 3 0)) ∧
    (d.comp.length ≤ 16 → 256 * s.shareSum ≤ Sparse.getD s.power.allot 4 0 →
      (s.pacedSlot d).power.draw.comp.sum ≤ Sparse.getD s.power.allot 4 0) ∧
    (s.breachAdmitted d = false → (s.pacedSlot d).power.shareBreach = s.energy.emergency ∧ ∀ i v, d.comp[i]? = some v → v ≤ 256 * s.pwrShare i →
      (s.pacedSlot d).power.draw.comp[i]? = some v) := by
  obtain ⟨hbase, hlinks, hmem, hcomp, hwithin⟩ := State.capPace_spec { s with power := { s.power with mayBreach := s.breachAdmitted d } } d
  refine ⟨hbase, (congrArg LevelPower.l0 hlinks).trans rfl, (congrArg LevelPower.l0 hmem).trans rfl, ?_, ?_, hcomp, fun hno => ?_⟩
  · exact (congrArg levelTotal hlinks).trans (levelTotal_levelPace ..)
  · exact (congrArg levelTotal hmem).trans (levelTotal_levelPace ..)
  · obtain ⟨hmark, hkept⟩ := hwithin hno
    exact ⟨(congrArg (s.energy.emergency || ·) hmark).trans (Bool.or_false _), hkept⟩

end Sys2Proof.Machine
end

section
/-! PROOF. The split of a slot start that is due, while Machenil is up (17 R462 to R464). -/

namespace Sys2Proof.Machine
open Sys2Proof.Safety

variable {s s' : State} {d : PowerDemand} {g0 g1 g2 e : Nat} {r t : Bool} {a : Nat → Nat}

/-- The state that a split with the cap `e` and the allotments `a` leaves, but for the counts of breaches. -/
def State.withSplit (s : State) (d : PowerDemand) (e : Nat) (r t : Bool) (a : Nat → Nat) : State :=
  { s with power := { s.power with
      splitSlot := some (absSlot s.time.now), capEff := e, capRamp := r, capTherm := t, allot := [(1, d.base), (2, a 0), (3, a 1), (4, a 2)] } }

/-- A split without a case of R464 counts no breach. -/
theorem State.slotSplit_quiet (hdrawn : s.slotDrawn d = (s.withSplit d e r t a).pacedSlot d) (hemer : s.energy.emergency = false)
    (hlinks : d.links.l0 ≤ a 0) (hmem : d.mem.l0 ≤ a 1) (hbase : d.base ≤ 256 * 60) :
    Only [.power] s (s.slotSplit d) ∧ (s.slotSplit d).power.shareBreach = false ∧
    ∀ i v, d.comp[i]? = some v → v ≤ 256 * s.obj 0x4011 (i + 1) → (s.slotSplit d).power.draw.comp[i]? = some v := by
  obtain ⟨-, -, -, -, -, -, hwithin⟩ := (s.withSplit d e r t a).pacedSlot_spec d
  have hno : (s.withSplit d e r t a).breachAdmitted d = false := by
    have hallot : Sparse.getD (s.withSplit d e r t a).power.allot 2 0 = a 0 ∧ Sparse.getD (s.withSplit d e r t a).power.allot 3 0 = a 1 :=
      ⟨rfl, rfl⟩
    have hem : (s.withSplit d e r t a).energy.emergency = false := hemer
    unfold State.breachAdmitted
    rw [hem, hallot.1, hallot.2]
    simp [hlinks, hmem, hbase]
  obtain ⟨hmark, hcomp⟩ := hwithin hno
  have hquiet : (s.slotDrawn d).power.shareBreach = false := by
    rw [hdrawn, hmark]
    exact hemer
  rw [s.slotSplit_eq, State.countBreach_of_false hquiet]
  refine ⟨?_, hquiet, fun i v hv hle => ?_⟩
  · rw [hdrawn]
    exact only_iff_mask.2 (mask_power s (by decide) _)
  · rw [hdrawn]
    exact hcomp i v hv hle

/-- A slot start that is due is split (17 R460 to R464). -/
theorem pwrSlotSplit_due {k : Nat} (hpower : s.boot.pwrgood = true) (hup : s.fw.down = false) (hslot : s.power.splitSlot = some k)
    (hdue : k < absSlot s.time.now) (ho : Order g0 g1 g2) (horder : s.obj 0x4010 1 % 64 = g0 + 4 * g1 + 16 * g2) :
    ∃ s', exec (.pwrSlotSplit d) s = .next s' ∧ Only [.power, .log, .fns, .out] s s' ∧
      s'.power.splitSlot = some (absSlot s.time.now) ∧ Sparse.getD s'.power.allot 1 0 = d.base ∧
      (∀ D f a : Nat → Nat, D = (fun g => if g = 0 then levelTotal d.links else if g = 1 then levelTotal d.mem else d.comp.sum) →
        f = (fun g => 256 * (if g = 0 then s.obj 0x4010 3 else if g = 1 then s.obj 0x4010 4
          else ((List.range 16).map (fun p => s.obj 0x4011 (p + 1))).sum)) →
        a = (fun g => Sparse.getD s'.power.allot (g + 2) 0) →
        (∀ (left full : Nat) (h : Nat → Nat), left = (if s.capStarting then 0 else s'.power.capEff - d.base - f 0 - f 1 - f 2) →
          full = (if s.capStarting then 0 else 256 * s.obj 0x4010 2 - d.base - f 0 - f 1 - f 2) →
          (∀ top, top = (if s'.power.capTherm then full else left) → h g0 = min top (D g0 - f g0) ∧ h g1 = min (top - h g0) (D g1 - f g1) ∧
            h g2 = min (top - h g0 - h g1) (D g2 - f g2)) →
          (s'.power.capTherm = false → ∀ g, g < 3 → a g = f g + h g) ∧
          (s'.power.capTherm = true → h 0 + h 1 + h 2 - left ≤ h 2 →
            a 2 = f 2 + (h 2 - (h 0 + h 1 + h 2 - left)) ∧ a 0 = f 0 + h 0 ∧ a 1 = f 1 + h 1) ∧
          a 0 + a 1 + a 2 = f 0 + f 1 + f 2 + min left (h 0 + h 1 + h 2) ∧ ∀ g, g < 3 → f g ≤ a g) ∧
        s'.power.draw.base = d.base ∧ s'.power.draw.links.l0 = d.links.l0 ∧ s'.power.draw.mem.l0 = d.mem.l0 ∧
        levelTotal s'.power.draw.links = max d.links.l0 (min (D 0) (a 0)) ∧ levelTotal s'.power.draw.mem = max d.mem.l0 (min (D 1) (a 1)) ∧
        (d.comp.length ≤ 16 → s'.power.draw.comp.sum ≤ a 2) ∧
        (s.energy.emergency = false → d.links.l0 ≤ a 0 → d.mem.l0 ≤ a 1 → d.base ≤ 256 * 60 → Only [.power] s s' ∧ s'.power.shareBreach = false ∧
          ∀ i v, d.comp[i]? = some v → v ≤ 256 * s.obj 0x4011 (i + 1) → s'.power.draw.comp[i]? = some v)) ∧
      (s.energy.limit = false → s.power.capTherm = false → s.power.capEff ≤ 256 * s.obj 0x4010 2 →
        s'.power.capEff = 256 * s.obj 0x4010 2 ∧ s'.power.capRamp = false) ∧
      (s.energy.limit = false → s.power.capTherm = false → s.power.capRamp = true → 256 * s.obj 0x4010 2 < s.power.capEff →
        s'.power.capEff = max (256 * s.obj 0x4010 2) (s.power.capEff - s.obj 0x4020 1)) ∧
      (s.energy.limit = true → s'.power.capEff = min (256 * s.obj 0x4010 2) (s.power.capEff - s.obj 0x4020 1)) := by
  obtain ⟨honly, ⟨c, n, l, hcounts⟩, hslot'⟩ := s.slotSplit_spec d
  obtain ⟨e, r, t, a, hrise, hfall, hlimit, ha, hdrawn⟩ := s.slotDrawn_up d ho hup horder
  change s.slotDrawn d = (s.withSplit d e r t a).pacedSlot d at hdrawn
  obtain ⟨hbase, hl0, hm0, hlinks, hmem, hcomp, -⟩ := (s.withSplit d e r t a).pacedSlot_spec d
  have hexec := exec_pwrSlotSplit d hpower
  rw [hslot, State.toSlot_due hdue] at hexec
  have hfinal : (s.slotSplit d).power =
      { ((s.withSplit d e r t a).pacedSlot d).power with breachCounted := c, breachFrames := n, lastBreach := l } := by
    rw [hcounts, hdrawn]
  have hallot : (s.slotSplit d).power.allot = [(1, d.base), (2, a 0), (3, a 1), (4, a 2)] := by
    rw [hfinal]
    rfl
  have heff : (s.slotSplit d).power.capEff = e := by
    rw [hfinal]
    rfl
  have htherm : (s.slotSplit d).power.capTherm = t := by
    rw [hfinal]
    rfl
  have hramp : (s.slotSplit d).power.capRamp = r := by
    rw [hfinal]
    rfl
  have hdraw : (s.slotSplit d).power.draw = ((s.withSplit d e r t a).pacedSlot d).power.draw := by
    rw [hfinal]
  refine ⟨_, hexec, honly, hslot', ?_, ?_, ?_, ?_, ?_⟩
  · rw [hallot]
    rfl
  · intro D f a' hD hf ha'
    have hfloor : ∀ g, g < 3 → f g = s.capFloor g := fun g hg => (congrFun hf g).trans (s.capFloor_eq hg).symm
    have hD' : D = groupDemand d := hD
    have hgroup : ∀ g, g < 3 → a' g = a g := fun g hg => by
      have hget : a' g = Sparse.getD [(1, d.base), (2, a 0), (3, a 1), (4, a 2)] (g + 2) 0 := by
        rw [ha', hallot]
      rw [hget]
      obtain rfl | rfl | rfl : g = 0 ∨ g = 1 ∨ g = 2 := by omega
      · rfl
      · rfl
      · rfl
    have hf0 := hfloor 0 (by omega)
    have hf1 := hfloor 1 (by omega)
    have hf2 := hfloor 2 (by omega)
    have ha0 := hgroup 0 (by omega)
    have ha1 := hgroup 1 (by omega)
    have ha2 := hgroup 2 (by omega)
    have hsplit : ∀ (left full : Nat) (h : Nat → Nat), left = s.capRest d e → full = s.capRest d (256 * s.pwrCap) →
        Handed s.capFloor (groupDemand d) h (if t then full else left) g0 g1 g2 →
        (t = false → ∀ g, g < 3 → a g = s.capFloor g + h g) ∧
        (t = true → h 0 + h 1 + h 2 - left ≤ h 2 →
          a 2 = s.capFloor 2 + (h 2 - (h 0 + h 1 + h 2 - left)) ∧ a 0 = s.capFloor 0 + h 0 ∧ a 1 = s.capFloor 1 + h 1) ∧
        a 0 + a 1 + a 2 = s.capFloor 0 + s.capFloor 1 + s.capFloor 2 + min left (h 0 + h 1 + h 2) ∧ ∀ g, g < 3 → s.capFloor g ≤ a g :=
      fun left full h hleft hfull hh => capAllot_spec ho hh (by rw [ha, hleft, hfull]) fun g hg => by
        unfold State.capFloor
        rw [if_neg (by omega), if_neg (by omega), if_neg (by omega)]
    refine ⟨fun left full h hleft hfull hh => ?_, ?_⟩
    · rw [heff, hf0, hf1, hf2] at hleft
      rw [hf0, hf1, hf2] at hfull
      rw [htherm] at hh ⊢
      obtain ⟨h0, h1, h2⟩ := hh _ rfl
      rw [hfloor g0 ho.lt0] at h0
      rw [hfloor g1 ho.lt1] at h1
      rw [hfloor g2 ho.lt2] at h2
      rw [ha0, ha1, ha2, hf0, hf1, hf2]
      obtain ⟨hno, hyes, hsum, hge⟩ := hsplit left full h hleft hfull ⟨hD' ▸ h0, hD' ▸ h1, hD' ▸ h2⟩
      exact ⟨fun ht g hg => (hgroup g hg).trans ((hno ht g hg).trans (congrArg (· + h g) (hfloor g hg).symm)), hyes, hsum,
        fun g hg => (hfloor g hg).le.trans ((hge g hg).trans (hgroup g hg).symm.le)⟩
    · rw [hdraw, ha0, ha1, ha2, hD']
      refine ⟨hbase, hl0, hm0, hlinks, hmem, fun hlen => hcomp hlen ?_, fun hemer h0 h1 hb => ?_⟩
      · obtain ⟨h, hh⟩ := ho.exists_handed s.capFloor (groupDemand d) (if t then s.capRest d (256 * s.pwrCap) else s.capRest d e)
        obtain ⟨-, -, -, hge⟩ := hsplit _ _ h rfl rfl hh
        exact hge 2 (by omega)
      · have hquiet := State.slotSplit_quiet hdrawn hemer h0 h1 hb
        rwa [hdraw] at hquiet
  · rw [heff, hramp]
    exact hrise
  · rw [heff]
    exact hfall
  · rw [heff]
    exact hlimit

end Sys2Proof.Machine
end

section
/-! PROOF. Millpond: the rise that is held, the ballast, and what a slot reports (17 R465 to R471). -/

namespace Sys2Proof.Machine
open Sys2Proof.Safety

/-! ### A rise beyond the ramp is held (17 R466) -/

theorem State.holdRise_spec (s : State) (need : Nat) (d : PowerDemand) : (s.holdRise need d).1.base = d.base ∧
    (s.holdRise need d).1.links.l0 = d.links.l0 ∧ (s.holdRise need d).1.mem.l0 = d.mem.l0 ∧
    (need ≤ excess (s.shared d.comp) → powerTotal (s.holdRise need d).1 + need ≤ powerTotal d) ∧
    (s.power.mayBreach = false → (s.holdRise need d).2 = false) := by
  obtain ⟨-, hexcess, -, hwithin⟩ := s.paceCompute_spec (s.power.mayBreach && !s.power.covered) need d.comp
  refine ⟨rfl, rfl, rfl, fun h => ?_, fun h => (hwithin (by rw [h]; rfl)).1⟩
  have hcomp := hexcess h
  unfold State.holdRise
  dsimp only [powerTotal, levelTotal]
  omega

theorem State.holdRise_zero (s : State) (d : PowerDemand) : s.holdRise 0 d = (d, false) := by
  unfold State.holdRise
  rw [s.paceCompute_zero]
  simp

/-! ### What follows the power of a slot: the breach counted, the tallies, the log (17 R464, R465) -/

/-- The cycles of ballast and of pacing that a core tallies. -/
def State.tallyPond (b : Nat) (s : State) (c : CorePower) : State :=
  let s := if c.ballast = 0 || b = 0 || !s.coreUsable c.core then s else s.tallyAdd 7 c.core c.ballast
  if c.paced = 0 then s else s.tallyAdd 0x1D c.core c.paced

theorem State.tallyPond_only (b : Nat) (s : State) (c : CorePower) : Only [.tally] s (s.tallyPond b c) := by
  have hballast : Only [.tally] s (if c.ballast = 0 || b = 0 || !s.coreUsable c.core then s else s.tallyAdd 7 c.core c.ballast) :=
    .ite (.refl _ s) (s.tallyAdd_tells ..).only
  exact .ite hballast (hballast.trans (State.tallyAdd_tells ..).only)

/-- A tally that is added to. -/
theorem State.tallyGet_tallyAdd (s : State) {id inst : Nat} (n : Nat) (hid : id ≠ 8) (hinst : inst < 0xFFFF) :
    (s.tallyAdd id inst n).tallyGet id inst = (s.tallyGet id inst + n) % 2 ^ 48 := by
  have hne : tkey id inst ≠ tkey id 0xFFFF := by
    unfold tkey
    omega
  unfold State.tallyGet State.tallyAdd
  rw [if_neg hid, if_neg hid]
  split
  · exact Sparse.getD_put_self ..
  · exact (Sparse.getD_put_ne _ _ _ _ hne).trans (Sparse.getD_put_self ..)

/-- The tallies of other kinds stay. -/
theorem State.tallyGet_tallyAdd_ne (s : State) {id j inst k : Nat} (n : Nat) (hne : id ≠ j) (hid : id ≠ 8) (hinst : inst < 0xFFFF) (hk : k < 0xFFFF) :
    (s.tallyAdd j k n).tallyGet id inst = s.tallyGet id inst := by
  have h1 : tkey id inst ≠ tkey j k := by
    unfold tkey
    omega
  have h2 : tkey id inst ≠ tkey j 0xFFFF := by
    unfold tkey
    omega
  unfold State.tallyGet State.tallyAdd
  rw [if_neg hid, if_neg hid]
  split
  · exact Sparse.getD_put_ne _ _ _ _ h1
  · exact (Sparse.getD_put_ne _ _ _ _ h2).trans (Sparse.getD_put_ne _ _ _ _ h1)

theorem State.tallyPond_spec (s : State) (b : Nat) (c : CorePower) :
    (c.ballast ≠ 0 → b ≠ 0 → s.coreUsable c.core = true → (s.tallyPond b c).tallyGet 7 c.core = (s.tallyGet 7 c.core + c.ballast) % 2 ^ 48) ∧
    (c.paced ≠ 0 → (s.tallyPond b c).tallyGet 0x1D c.core = (s.tallyGet 0x1D c.core + c.paced) % 2 ^ 48) := by
  have hcore : (c.core : Nat) < 0xFFFF := c.core.isLt.trans (by omega)
  unfold State.tallyPond
  extract_lets t
  refine ⟨fun hballast hb husable => ?_, fun hpaced => ?_⟩
  · have ht : t = s.tallyAdd 7 c.core c.ballast := if_neg (by simp [hballast, hb, husable])
    have htally : t.tallyGet 7 c.core = (s.tallyGet 7 c.core + c.ballast) % 2 ^ 48 := ht ▸ s.tallyGet_tallyAdd _ (by omega) hcore
    split
    · exact htally
    · exact (t.tallyGet_tallyAdd_ne _ (by omega) (by omega) hcore hcore).trans htally
  · have ht : t.tallyGet 0x1D c.core = s.tallyGet 0x1D c.core := by
      unfold t
      split
      · rfl
      · exact s.tallyGet_tallyAdd_ne _ (by omega) (by omega) hcore hcore
    rw [if_neg hpaced, t.tallyGet_tallyAdd _ (by omega) hcore, ht]

/-- What follows the power `p` of a slot with the ballast `b`. -/
def State.pondTold (s : State) (b p : Nat) (broken : Bool) (cores : List CorePower) : State :=
  let s := s.countBreach (p / 256)
  let s := if b ≠ 0 then s.disturbCal else s
  let s := cores.foldl (State.tallyPond b) s
  if broken then ({ s with power := { s.power with mpBreach := true } }).logRec 0x0041 0 2 none (p / 256) else s

theorem State.disturbCal_only (s : State) : Only [.energy] s s.disturbCal ∧ s.disturbCal.energy.current = s.energy.current := by
  unfold State.disturbCal
  split
  · exact ⟨only_iff_mask.2 (mask_energy s (by decide) _), rfl⟩
  · exact ⟨.refl _ s, rfl⟩

theorem State.pondTold_spec (s : State) (b p : Nat) (broken : Bool) (cores : List CorePower) :
    Only [.power, .energy, .tally, .log, .fns, .out] s (s.pondTold b p broken cores) ∧
    (∃ f n g, (s.pondTold b p broken cores).power = { s.power with
      breachCounted := f, breachFrames := n, lastBreach := g, mpBreach := s.power.mpBreach || broken }) ∧
    (s.pondTold b p broken cores).energy.current = s.energy.current ∧
    (s.power.shareBreach = false → broken = false → (s.pondTold b p broken cores).log = s.log ∧ (s.pondTold b p broken cores).out = s.out) ∧
    (cores = [] → (s.pondTold b p broken cores).tally = s.tally) ∧
    ∀ c, cores = [c] →
      (c.ballast ≠ 0 → b ≠ 0 → s.coreUsable c.core = true →
        (s.pondTold b p broken cores).tallyGet 7 c.core = (s.tallyGet 7 c.core + c.ballast) % 2 ^ 48) ∧
      (c.paced ≠ 0 → (s.pondTold b p broken cores).tallyGet 0x1D c.core = (s.tallyGet 0x1D c.core + c.paced) % 2 ^ 48) := by
  obtain ⟨hcount, f, n, g, hpower⟩ := s.countBreach_spec (p / 256)
  have hquiet := fun h => State.countBreach_of_false (s := s) h (p / 256)
  unfold State.pondTold
  generalize s.countBreach (p / 256) = t at hcount hpower hquiet
  extract_lets t0 t1 t2
  have h1 : Only [.energy] t t1 ∧ t1.energy.current = t.energy.current := by
    unfold t1
    split
    · exact t.disturbCal_only
    · exact ⟨.refl _ t, rfl⟩
  clear_value t1
  have h2 : Only [.tally] t1 t2 := .foldl _ (fun u c => u.tallyPond_only b c) _ _
  have hsame : cores = [] → t2 = t1 := fun h => by
    unfold t2
    rw [h]
    rfl
  have hone : ∀ c, cores = [c] → t2 = t1.tallyPond b c := fun c h => by
    unfold t2
    rw [h]
    rfl
  clear_value t2
  obtain ⟨v, hv⟩ : ∃ v : State, v = { t2 with power := { t2.power with mpBreach := true } } := ⟨_, rfl⟩
  have hmark : Only [.power] t2 v := hv ▸ t2.setPower_only _
  have hlog := v.logRec_tells 0x0041 0 2 none (p / 256)
  rw [← hv]
  generalize v.logRec 0x0041 0 2 none (p / 256) = w at hlog
  have hw : Only [.power, .log, .fns, .out] t2 w := (hmark.mono (by decide)).trans (hlog.only.mono (by decide))
  have hall : Only [.power, .energy, .tally, .log, .fns, .out] s t2 :=
    (hcount.only.mono (by decide)).trans ((h1.1.mono (by decide)).trans (h2.mono (by decide)))
  have hend : Only [.power, .log, .fns, .out] t2 (if broken then w else t2) := .ite hw (.refl _ t2)
  have htally : (if broken then w else t2).tally = t2.tally := hend.tally.resolve_left (by decide)
  have hcyc : (if broken then w else t2).cyc = t2.cyc := hend.cyc.resolve_left (by decide)
  have hget : ∀ id inst, (if broken then w else t2).tallyGet id inst = t2.tallyGet id inst := fun id inst => by
    unfold State.tallyGet
    rw [htally, hcyc]
  have hget1 : ∀ id inst, t1.tallyGet id inst = s.tallyGet id inst := fun id inst => by
    unfold State.tallyGet
    rw [h1.1.tally.resolve_left (by decide), h1.1.cyc.resolve_left (by decide), hcount.only.tally.resolve_left (by decide),
      hcount.only.cyc.resolve_left (by decide)]
  refine ⟨hall.trans (hend.mono (by decide)), ⟨f, n, g, ?_⟩, ?_, fun hshare hbroken => ?_, fun h => ?_, fun c h => ?_⟩
  · have hpower2 : t2.power = t.power := (h2.power.resolve_left (by decide)).trans (h1.1.power.resolve_left (by decide))
    cases broken with
    | false =>
      change t2.power = _
      rw [hpower2, hpower, Bool.or_false]
    | true =>
      change w.power = _
      rw [hlog.only.power.resolve_left (by decide), hv, hpower2, hpower, Bool.or_true]
  · rw [hend.energy.resolve_left (by decide), h2.energy.resolve_left (by decide), h1.2, hcount.only.energy.resolve_left (by decide)]
  · subst hbroken
    change t2.log = _ ∧ t2.out = _
    rw [h2.log.resolve_left (by decide), h2.out.resolve_left (by decide), h1.1.log.resolve_left (by decide), h1.1.out.resolve_left (by decide),
      hquiet hshare]
    exact ⟨rfl, rfl⟩
  · rw [htally, hsame h, h1.1.tally.resolve_left (by decide), hcount.only.tally.resolve_left (by decide)]
  · have husable : t1.coreUsable c.core = s.coreUsable c.core := by
      have hcores : t1.cores = s.cores := (h1.1.cores.resolve_left (by decide)).trans (hcount.only.cores.resolve_left (by decide))
      unfold State.coreUsable
      rw [State.core_congr hcores]
    obtain ⟨hballast, hpaced⟩ := t1.tallyPond_spec b c
    rw [hget, hget, hone c h, ← hget1, ← hget1, ← husable]
    exact ⟨hballast, hpaced⟩

end Sys2Proof.Machine
end

section
/-! PROOF. A slot of Millpond (17 R465 to R471; 20 R547). -/

namespace Sys2Proof.Machine
open Sys2Proof.Safety

/-! ### The rail current monitors (20 R547) -/

/-- A current that is read is kept. -/
def keepCurrent (e : Energy) (i : Nat) (v : Int) : Energy := { e with current := Sparse.put e.current i v }

theorem current_readings {l : List (Option Int)} {i : Nat} {v : Int} (h : l[i]? = some (some v)) (e : Energy) :
    Sparse.getD (Energy.readings 2 keepCurrent e 0 l).current i 0 = v := by
  have hget := Energy.readings_get (cls := 2) (store := keepCurrent) (fun e j => Sparse.getD e.current j 0) id
    (fun e i v j => Sparse.getD_put _ _ _ _ _) (fun e k got j => by cases got <;> rfl) l h e 0
  rwa [Nat.zero_add] at hget

/-! ### The power of a slot (17 R465 to R469) -/

/-- The draw that Millpond holds: BASE alone in FAULT (17 R471). -/
def State.pondDemand (s : State) : PowerDemand := if s.chipState = 5 then { base := s.power.draw.base } else s.power.draw

/-- The rise beyond what the ramp allows. -/
def pondNeed : Option (Nat × Nat) → PowerDemand → Nat
  | some (_, hi), d => powerTotal d - hi
  | none, _ => 0

/-- A power that the ramp does not allow. -/
def pondBroken : Option (Nat × Nat) → Nat → Bool
  | some (lo, hi), p => decide (p < lo) || decide (hi < p)
  | none, _ => false

/-- The draw of the slot `n` slots after the last one. -/
def State.pondDraw (s : State) (n : Nat) : PowerDemand × Bool := s.holdRise (pondNeed (s.rampBounds n) s.pondDemand) s.pondDemand

/-- What Millpond reports of a slot with the draw `d` and the ballast `b`. -/
def State.pondPower (s : State) (n bmax : Nat) (d : PowerDemand) (within : Bool) (b : Nat) : Power :=
  { s.power with
    mpSlot := some (absSlot s.time.now), now := (powerTotal d + b) / 256, run := d, ballast := b, ballastMax := bmax,
    floorEff := s.mpFloorEff, covered := decide (256 * s.contractShare ≤ d.comp.sum + b),
    mpState := if b ≠ 0 then 1
      else if decide (powerTotal d < powerTotal s.power.draw) && pondNeed (s.rampBounds n) s.pondDemand ≠ 0 then 2 else 0,
    env := some (rampNext (s.rampBounds n) (powerTotal d + b)), shareBreach := s.power.shareBreach || within }

/-- A slot of Millpond, at the time it begins. -/
def State.pondSlot (s : State) (n bmax : Nat) (cores : List CorePower) (amps : List (Option Int)) : State :=
  let d := s.pondDraw n
  let b := s.ballastFor bmax (s.rampBounds n) d.1
  let t := { s with power := s.pondPower n bmax d.1 d.2 b, energy := Energy.readings 2 keepCurrent s.energy 0 (amps.take 16) }
  t.pondTold b (powerTotal d.1 + b) (pondBroken (s.rampBounds n) (powerTotal d.1 + b)) cores

theorem exec_millpondSlot {s t : State} (bmax : Nat) (cores : List CorePower) (amps : List (Option Int)) (hpower : s.boot.pwrgood = true)
    (ht : t = s.toSlot s.power.mpSlot) : exec (.millpondSlot bmax cores amps) s =
    .next (t.pondSlot (absSlot t.time.now - s.power.mpSlot.getD (absSlot t.time.now)) bmax cores amps) := by
  change execMillpondSlot bmax cores amps s = _
  unfold execMillpondSlot
  rw [if_neg (by simp [hpower])]
  unfold State.pondSlot State.pondDraw State.pondPower State.pondDemand
  dsimp only
  rw [← ht]
  generalize t.rampBounds _ = e
  cases e with
  | none => rfl
  | some x => rfl

theorem State.pondSlot_spec (s : State) (n bmax : Nat) (cores : List CorePower) (amps : List (Option Int)) {d : PowerDemand} {within : Bool} {b : Nat}
    (hd : s.pondDraw n = (d, within)) (hb : b = s.ballastFor bmax (s.rampBounds n) d) :
    Only [.power, .energy, .tally, .log, .fns, .out] s (s.pondSlot n bmax cores amps) ∧
    (∃ f k g, (s.pondSlot n bmax cores amps).power = { s.pondPower n bmax d within b with
      breachCounted := f, breachFrames := k, lastBreach := g, mpBreach := s.power.mpBreach || pondBroken (s.rampBounds n) (powerTotal d + b) }) ∧
    (∀ i v, i < 16 → amps[i]? = some (some v) → Sparse.getD (s.pondSlot n bmax cores amps).energy.current i 0 = v) ∧
    (s.power.shareBreach = false → within = false → pondBroken (s.rampBounds n) (powerTotal d + b) = false →
      (s.pondSlot n bmax cores amps).log = s.log ∧ (s.pondSlot n bmax cores amps).out = s.out) ∧
    (cores = [] → (s.pondSlot n bmax cores amps).tally = s.tally) ∧
    ∀ c, cores = [c] →
      (c.ballast ≠ 0 → b ≠ 0 → s.coreUsable c.core = true →
        (s.pondSlot n bmax cores amps).tallyGet 7 c.core = (s.tallyGet 7 c.core + c.ballast) % 2 ^ 48) ∧
      (c.paced ≠ 0 → (s.pondSlot n bmax cores amps).tallyGet 0x1D c.core = (s.tallyGet 0x1D c.core + c.paced) % 2 ^ 48) := by
  obtain ⟨t, ht⟩ : ∃ t : State, t = { s with
      power := s.pondPower n bmax d within b, energy := Energy.readings 2 keepCurrent s.energy 0 (amps.take 16) } := ⟨_, rfl⟩
  have hslot : s.pondSlot n bmax cores amps = t.pondTold b (powerTotal d + b) (pondBroken (s.rampBounds n) (powerTotal d + b)) cores := by
    unfold State.pondSlot
    rw [hd, ht, hb]
  have hchanged : Only [.power, .energy] s t := by
    rw [ht]
    exact only_iff_mask.2 rfl
  have hpower : t.power = s.pondPower n bmax d within b := by
    rw [ht]
  have henergy : t.energy.current = (Energy.readings 2 keepCurrent s.energy 0 (amps.take 16)).current := by
    rw [ht]
  have hcores : ∀ c, t.coreUsable c = s.coreUsable c := fun c => by
    rw [ht]
    rfl
  have htallies : ∀ i j, t.tallyGet i j = s.tallyGet i j := fun i j => by
    rw [ht]
    rfl
  obtain ⟨hall, ⟨f, k, g, hend⟩, hcurrent, hquiet, htally, hone⟩ :=
    t.pondTold_spec b (powerTotal d + b) (pondBroken (s.rampBounds n) (powerTotal d + b)) cores
  rw [hslot]
  refine ⟨(hchanged.mono (by decide)).trans hall, ⟨f, k, g, ?_⟩, fun i v hi hv => ?_, fun hshare hwithin hbroken => ?_, fun h => ?_, fun c h => ?_⟩
  · rw [hend, hpower]
    rfl
  · rw [hcurrent, henergy]
    exact current_readings (by rw [List.getElem?_take_of_lt hi, hv]) _
  · obtain ⟨hlog, hout⟩ := hquiet (by rw [hpower]; simp [State.pondPower, hshare, hwithin]) hbroken
    exact ⟨hlog.trans (hchanged.log.resolve_left (by decide)), hout.trans (hchanged.out.resolve_left (by decide))⟩
  · exact (htally h).trans (hchanged.tally.resolve_left (by decide))
  · obtain ⟨hballast, hpaced⟩ := hone c h
    rw [← htallies, ← htallies, ← hcores]
    exact ⟨hballast, hpaced⟩

/-- Every slot is answered, due or not (17 R465). -/
theorem millpondSlot_slot (s : State) (bmax : Nat) (cores : List CorePower) (amps : List (Option Int)) (hpower : s.boot.pwrgood = true) :
    ∃ s', exec (.millpondSlot bmax cores amps) s = .next s' ∧ s'.power.mpSlot = some (absSlot s'.time.now) ∧ s'.power.ballastMax = bmax ∧
      s'.power.env.isSome = true ∧ ∀ k, s.power.mpSlot = some k → absSlot s.time.now ≤ k → Steady s → absSlot s.time.now < absSlot s'.time.now := by
  obtain ⟨t, ht⟩ : ∃ t, t = s.toSlot s.power.mpSlot := ⟨_, rfl⟩
  have hexec := exec_millpondSlot bmax cores amps hpower ht
  generalize absSlot t.time.now - s.power.mpSlot.getD (absSlot t.time.now) = n at hexec
  obtain ⟨honly, ⟨f, k, g, hend⟩, -⟩ := t.pondSlot_spec n bmax cores amps (d := (t.pondDraw n).1) (within := (t.pondDraw n).2) rfl rfl
  have htime : (t.pondSlot n bmax cores amps).time = t.time := honly.time.resolve_left (by decide)
  refine ⟨_, hexec, ?_, ?_, ?_, fun j hj hle hsteady => ?_⟩
  · rw [hend, htime]
    rfl
  · rw [hend]
    rfl
  · rw [hend]
    rfl
  · rw [htime, ht, hj]
    exact State.absSlot_lt_toSlot hle hsteady

end Sys2Proof.Machine
end

section
/-! PROOF. A slot of Millpond that is due, power steps and the energy of a frame (02 R52; 17 R465 to R474). -/

namespace Sys2Proof.Machine
open Sys2Proof.Safety

/-! ### A slot that is due (17 R465 to R471) -/

/-- A slot of Millpond that is due: the draw is held to the ramp, ballast fills what falls short of it, and the reports say so. -/
theorem millpondSlot_due (s : State) (bmax k q p : Nat) (cores : List CorePower) (amps : List (Option Int)) (e : Option (Nat × Nat)) (D : PowerDemand)
    (hpower : s.boot.pwrgood = true) (hslot : s.power.mpSlot = some k) (hdue : k < absSlot s.time.now)
    (he : e = s.rampBounds (absSlot s.time.now - k)) (hD : D = (if s.chipState = 5 then { base := s.power.draw.base } else s.power.draw)) :
    ∃ s', exec (.millpondSlot bmax cores amps) s = .next s' ∧ Only [.power, .energy, .tally, .log, .fns, .out] s s' ∧
      s'.power.mpSlot = some (absSlot s.time.now) ∧ (q = powerTotal s'.power.run → p = q + s'.power.ballast →
        s'.power.now = p / 256 ∧ s'.power.ballastMax = bmax ∧ s'.power.env = some (rampNext e p) ∧
        s'.power.floorEff = min (Sparse.getD s.power.allot 4 0) (256 * max (s.obj 0x4020 3) s.contractShare) ∧
        s'.power.covered = decide (256 * s.contractShare ≤ s'.power.run.comp.sum + s'.power.ballast) ∧
        (∀ lo hi fl, e = some (lo, hi) → fl = (if s.chipState = 5 then 0 else s'.power.floorEff - s'.power.run.comp.sum) →
          s'.power.ballast = min (min (max fl (lo - q)) bmax) (min (s.power.capEff - q) (hi - q)) ∧
          (powerTotal D ≤ hi → s'.power.run = D) ∧
          (powerTotal D - hi ≤ ((D.comp.zipIdx.map (fun y => y.1 - 256 * s.obj 0x4011 (y.2 + 1))).sum) → q ≤ hi) ∧
          s'.power.mpBreach = (s.power.mpBreach || decide (p < lo) || decide (hi < p)) ∧
          (lo ≤ p → p ≤ hi → s.power.shareBreach = false → s.power.mayBreach = false → s'.log = s.log ∧ s'.out = s.out)) ∧
        (e = none → s'.power.run = D ∧ s'.power.mpBreach = s.power.mpBreach ∧ s'.power.ballast =
          min (min (if s.chipState = 5 then 0 else s'.power.floorEff - D.comp.sum) bmax) (s.power.capEff - q)) ∧
        (s'.power.ballast ≠ 0 → s'.power.mpState = 1) ∧ (s'.power.ballast = 0 → s'.power.run = s.power.draw → s'.power.mpState = 0)) ∧
      s'.power.run.base = D.base ∧ s'.power.run.links.l0 = D.links.l0 ∧ s'.power.run.mem.l0 = D.mem.l0 ∧
      (∀ i v, i < 16 → amps[i]? = some (some v) → Sparse.getD s'.energy.current i 0 = v) ∧ (cores = [] → s'.tally = s.tally) ∧
      (∀ c, cores = [c] → (c.ballast ≠ 0 → s'.power.ballast ≠ 0 → s.coreUsable c.core = true →
          s'.tallyGet 7 c.core = (s.tallyGet 7 c.core + c.ballast) % 2 ^ 48) ∧
        (c.paced ≠ 0 → s'.tallyGet 0x1D c.core = (s.tallyGet 0x1D c.core + c.paced) % 2 ^ 48)) := by
  have hexec := exec_millpondSlot bmax cores amps hpower (by rw [hslot, State.toSlot_due hdue])
  rw [hslot] at hexec
  change exec _ s = .next (s.pondSlot (absSlot s.time.now - k) bmax cores amps) at hexec
  have hdemand : s.pondDemand = D := hD.symm
  have hheld : s.pondDraw (absSlot s.time.now - k) = s.holdRise (pondNeed e D) D := by
    rw [State.pondDraw, hdemand, ← he]
  obtain ⟨d, within, hd⟩ : ∃ d within, s.holdRise (pondNeed e D) D = (d, within) := ⟨_, _, rfl⟩
  obtain ⟨b, hb⟩ : ∃ b, b = s.ballastFor bmax e d := ⟨_, rfl⟩
  obtain ⟨hbase, hl0, hm0, hexcess, hwithin⟩ := s.holdRise_spec (pondNeed e D) D
  have hzero := s.holdRise_zero D
  obtain ⟨honly, ⟨f, c, g, hend⟩, hcurrent, hquiet, htally, hone⟩ :=
    s.pondSlot_spec (absSlot s.time.now - k) bmax cores amps (hheld.trans hd) (he ▸ hb)
  rw [hd] at hbase hl0 hm0 hexcess hwithin
  rw [← he] at hend hquiet
  generalize s.pondSlot (absSlot s.time.now - k) bmax cores amps = s' at hexec honly hend hcurrent hquiet htally hone
  have hrun : s'.power.run = d := by
    rw [hend]
    rfl
  have hballast : s'.power.ballast = b := by
    rw [hend]
    rfl
  have hfloor : s'.power.floorEff = s.mpFloorEff := by
    rw [hend]
    rfl
  have hstate : s'.power.mpState = if b ≠ 0 then 1
      else if decide (powerTotal d < powerTotal s.power.draw) && pondNeed e D ≠ 0 then 2 else 0 := by
    rw [hend, he, ← hdemand]
    rfl
  have hbreach : s'.power.mpBreach = (s.power.mpBreach || pondBroken e (powerTotal d + b)) := by
    rw [hend]
  refine ⟨s', hexec, honly, by rw [hend]; rfl, fun hq hp => ⟨?_, ?_, ?_, ?_, ?_, fun lo hi fl hramp hfl => ?_, fun hnone => ?_, fun hne => ?_, fun h0 hsame => ?_⟩,
    hrun ▸ hbase, hrun ▸ hl0, hrun ▸ hm0, hcurrent, htally, fun c hc => ?_⟩
  · rw [hp, hq, hrun, hballast, hend]
    rfl
  · rw [hend]
    rfl
  · rw [hp, hq, hrun, hballast, hend, he]
    rfl
  · exact hfloor
  · rw [hrun, hballast, hend, State.pondPower]
  · rw [hrun] at hq
    rw [hballast] at hp
    subst hramp
    refine ⟨?_, fun hle => ?_, fun hle => ?_, ?_, fun hlo hhi hshare hmay => ?_⟩
    · rw [hballast, hfl, hfloor, hrun, hb, hq]
      rfl
    · have hneed : pondNeed (some (lo, hi)) D = 0 := Nat.sub_eq_zero_of_le hle
      rw [hneed, hzero] at hd
      exact hrun.trans (Prod.mk.inj hd).1.symm
    · have hsum : excess (s.shared D.comp) = (D.comp.zipIdx.map (fun y => y.1 - 256 * s.obj 0x4011 (y.2 + 1))).sum := by
        unfold excess State.shared
        rw [List.map_map]
        rfl
      have htotal := hexcess (hsum ▸ hle)
      change powerTotal d + (powerTotal D - hi) ≤ powerTotal D at htotal
      omega
    · rw [hbreach, hp, hq]
      exact (Bool.or_assoc ..).symm
    · refine hquiet hshare (hwithin hmay) ?_
      rw [← hq, ← hp]
      simp [pondBroken, hlo, hhi]
  · subst hnone
    change s.holdRise 0 D = _ at hd
    rw [hzero] at hd
    obtain ⟨rfl, -⟩ := Prod.mk.inj hd
    refine ⟨hrun, hbreach.trans (Bool.or_false _), ?_⟩
    rw [hballast, hfloor, hq, hrun, hb]
    rfl
  · rw [hstate, if_pos (hballast ▸ hne)]
  · have hnot : ¬ powerTotal d < powerTotal s.power.draw := by
      rw [← hrun, hsame]
      exact Nat.lt_irrefl _
    rw [hstate, if_neg (by simp [← hballast, h0]), if_neg (by simp [hnot])]
  · rw [hballast]
    exact hone c hc

/-! ### MP_STATUS and power steps (17 R470, R471) -/

theorem State.readOk_touch (s : State) (who : Requester) (i sub : Nat) : (s.touch who).readOk who i sub 0 = s.readOk who i sub 0 := by
  have hreach : ∀ r : Role, (s.touch who).reach r i sub = s.reach r i sub := by
    intro r
    cases who <;> rfl
  unfold State.readOk
  rw [s.role_touch, hreach]

theorem State.reach_of_readOk {s : State} {who : Requester} {i sub : Nat} {o : ObjInfo} (h : s.readOk who i sub 0 = .ok o) :
    s.reach (s.role who) i sub = some o := by
  unfold State.readOk at h
  split at h
  · cases h
  · next o' ho =>
    split at h
    · cases h
    · split at h
      · cases h
      · cases h
        exact ho

theorem State.objInfo_of_reach {s : State} {r : Role} {i sub : Nat} {o : ObjInfo} (h : s.reach r i sub = some o) : objInfo i sub = some o := by
  unfold State.reach at h
  split at h
  · cases h
  · next o' ho =>
    rw [ho]
    split at h
    · split at h
      · exact h
      · cases h
    · exact h

/-- A read that is given is answered with the value the requester sees, in the state in which its record has arrived. -/
theorem State.getRow_gives {s : State} {who : Requester} {i sub v : Nat} (h : Gives s who i sub)
    (hnum : tyBytes ((objInfo i sub).getD default).ty = false) (hvalue : (s.touch who).value who i sub = .ok v) :
    s.getRow who i sub = .next (((s.touch who).seen i sub).respond who 0 v) := by
  obtain ⟨⟨hlive, hphase, hup, hstill, hfirst, hpath⟩, o, hok⟩ := h
  obtain ⟨t, ht⟩ : ∃ t, t = s.touch who := ⟨_, rfl⟩
  have hsame : t.boot = s.boot ∧ t.fw = s.fw ∧ t.dict.queue = s.dict.queue ∧ t.vfResetting who.ix = s.vfResetting who.ix := by
    subst ht
    cases who <;> exact ⟨rfl, rfl, rfl, rfl⟩
  obtain ⟨hboot, hfw, hqueue, hreset⟩ := hsame
  have hheld : t.heldReqs who.ix = [] := by simp [State.heldReqs, hqueue, hfirst]
  have hread : t.readOk who i sub 0 = .ok o := by rw [ht, s.readOk_touch, hok]
  have hreach := State.reach_of_readOk hread
  rw [State.objInfo_of_reach hreach] at hnum
  have hi3c : t.noI3c who i sub = false := by
    unfold State.noI3c
    rw [hreach]
    exact (Bool.and_eq_false_iff).2 (.inr hnum)
  rw [← ht] at hvalue ⊢
  have hget : t.get who i sub 0 = (stOk, v, t.seen i sub) := by
    unfold State.get
    rw [hread]
    dsimp only
    rw [hvalue]
  calc s.getRow who i sub = .next (t.offer (.get who i sub)) := by
        simp only [State.getRow, State.ask, hlive, ← ht, hheld, Bool.not_true, Bool.false_eq_true, if_false]
    _ = .next (t.runReq (.get who i sub)) := by
        have h0 : s.boot.phase ≠ 0 := by omega
        have h1 : s.boot.phase ≠ 1 := by omega
        simp [State.offer, DReq.who, hreset, hpath, State.offerAt, hboot, hfw, hup, hstill, h0, h1]
    _ = _ := by
        simp only [State.runReq, hi3c, hget, Bool.false_eq_true, if_false]
        rfl

/-- MP_STATUS is read, and the BREACH is forgotten. -/
theorem exec_mpStatusRead {s : State} {who : Requester} (h : Gives s who 0x4020 0xB) : ∃ s', exec (.mpStatusRead who) s = .next s' ∧
    Only [.power, .dict, .out] s s' ∧ Answered s s' who 0 (b2n s.power.covered + 2 * b2n s.power.mpBreach) ∧
    s'.power = { s.power with mpBreach := false } := by
  have htouch := s.touch_only who
  have hpower := htouch.power.resolve_left (by decide)
  have hvalue : (s.touch who).value who 0x4020 0xB = .ok (s.touch who).mpStatus := rfl
  have hgets := State.getRow_gives h rfl hvalue
  refine ⟨_, hgets, ?_, ?_, ?_⟩
  · exact (htouch.mono (by decide)).trans (only_iff_mask.2 rfl)
  · unfold Answered
    change (s.touch who).out ++ [.resp who 0 (s.touch who).mpStatus] = _
    rw [htouch.out.resolve_left (by decide), State.mpStatus, hpower]
  · change { (s.touch who).power with mpBreach := false } = _
    rw [hpower]

/-- A power step moves MP_FLOOR at its time, in its turn (02 R52). -/
theorem exec_millpondPowerStep (s : State) : (s.obj 0x4020 7 = 0 → exec .millpondPowerStep s = .next s) ∧
    (s.turn { at_ := s.power.stepAt, rank := 3 } = false → exec .millpondPowerStep s = .next s) ∧
    (s.obj 0x4020 7 ≠ 0 → s.turn { at_ := s.power.stepAt, rank := 3 } = true → ∃ s', exec .millpondPowerStep s = .next s' ∧
      Only [.time, .cyc, .pavs, .tally, .objs] s s' ∧ (s.power.stepAt ≤ s.time.now → Only [.objs] s s') ∧
      (Steady s → s.power.stepAt ≤ s'.time.now) ∧ s'.obj 0x4020 3 = s.obj 0x4020 8 ∧ s'.obj 0x4020 7 = 0 ∧
      ∀ i x, okey i x ≠ okey 0x4020 3 → okey i x ≠ okey 0x4020 7 → s'.obj i x = s.obj i x) := by
  have hexec : exec .millpondPowerStep s = execMillpondPowerStep s := rfl
  rw [hexec]
  unfold execMillpondPowerStep
  refine ⟨fun h => by rw [if_pos (by simp [h])], fun h => by rw [if_pos (by simp [h])], fun hpending hturn => ?_⟩
  rw [if_neg (by simp [hpending, hturn])]
  obtain ⟨t, ht⟩ : ∃ t, t = s.elapseTo s.power.stepAt := ⟨_, rfl⟩
  have hpassed : Only [.time, .cyc, .pavs, .tally] s t := ht ▸ s.elapseTo_only _
  have hpast : s.power.stepAt ≤ s.time.now → t = s := fun h => ht.trans (State.elapseTo_past h)
  have hreached : Steady s → s.power.stepAt ≤ t.time.now := fun h => ht ▸ State.le_elapseTo_steady h _
  have hobj : ∀ i x, t.obj i x = s.obj i x := State.obj_of_only hpassed (by decide)
  dsimp only
  rw [← ht]
  clear ht
  have hset : Only [.objs] t ((t.setObj 0x4020 3 (t.obj 0x4020 8)).setObj 0x4020 7 0) := only_iff_mask.2 rfl
  refine ⟨_, rfl, (hpassed.mono (by decide)).trans (hset.mono (by decide)), fun h => ?_, hreached, ?_, State.obj_setObj_self .., fun i x h3 h7 => ?_⟩
  · have hsame := hpast h
    rw [← hsame]
    exact hset
  · rw [State.obj_setObj_ne _ _ _ _ _ _ (by decide), State.obj_setObj_self, hobj]
  · rw [State.obj_setObj_ne _ _ _ _ _ _ h7, State.obj_setObj_ne _ _ _ _ _ _ h3, hobj]

/-! ### The energy of a frame (17 R472 to R474) -/

theorem State.chargePart_only (s : State) (e a : Nat) (x : EnergyPart) : Only [.pavs] s (s.chargePart e a x) :=
  only_iff_mask.2 (mask_pavs s (by decide) _)

theorem State.chargePart_otherPavs (s : State) (e a : Nat) (x : EnergyPart) : OtherPavs x.pav s (s.chargePart e a x) :=
  fun _ hq => (State.pav_setPav ..).trans (if_neg hq)

theorem State.chargePart_energy (s : State) (e a : Nat) (x : EnergyPart) :
    Sparse.getD ((s.chargePart e a x).pav x.pav).energy x.queue 0 = (Sparse.getD (s.pav x.pav).energy x.queue 0 + charge e a x.amount) % 2 ^ 64 := by
  rw [State.chargePart, State.updPav, State.pav_setPav_self]
  exact Sparse.getD_put_self ..

/-- Charging parts changes the Pavilions they name alone. -/
theorem chargePart_foldl (e a : Nat) (l : List EnergyPart) (s : State) : Only [.pavs] s (l.foldl (fun s x => s.chargePart e a x) s) ∧
    ∀ p : Nat, (∀ x ∈ l, (x.pav : Nat) ≠ p) → (l.foldl (fun s x => s.chargePart e a x) s).pav p = s.pav p := by
  induction l generalizing s with
  | nil => exact ⟨.refl _ s, fun _ _ => rfl⟩
  | cons x l ih =>
    obtain ⟨honly, hpav⟩ := ih (s.chargePart e a x)
    refine ⟨(s.chargePart_only e a x).trans honly, fun p hp => (hpav p fun y hy => hp y (List.mem_cons_of_mem _ hy)).trans ?_⟩
    exact s.chargePart_otherPavs e a x p (hp x List.mem_cons_self).symm

/-- A frame's energy: the parts and the ballast are charged by their estimates, and what is left over is uncharged. -/
theorem exec_frameEnergyAttribution (s : State) (nj bal : Nat) (l : List EnergyPart) {e a : Nat} (he : e = (nj + s.energy.frac) / 1000)
    (ha : a = (l.map (·.amount)).sum + bal) : ∃ s', exec (.frameEnergyAttribution nj l bal) s = .next s' ∧ Only [.energy, .pavs] s s' ∧
    s'.energy.total = (s.energy.total + e) % 2 ^ 64 ∧ s'.energy.frac = (nj + s.energy.frac) % 1000 ∧
    s'.energy.ballast = (s.energy.ballast + charge e a bal) % 2 ^ 64 ∧
    s'.energy.uncharged = (s.energy.uncharged + (e - ((l.map (fun x => charge e a x.amount)).sum + charge e a bal))) % 2 ^ 64 ∧
    s'.pavs = (l.foldl (fun s x => s.chargePart e a x) s).pavs := by
  obtain ⟨t, ht⟩ : ∃ t, t = l.foldl (fun s x => s.chargePart e a x) s := ⟨_, rfl⟩
  obtain ⟨honly, -⟩ := chargePart_foldl e a l s
  rw [← ht] at honly ⊢
  have henergy := honly.energy.resolve_left (by decide)
  have hexec : exec (.frameEnergyAttribution nj l bal) s = execFrameEnergyAttribution nj l bal s := rfl
  unfold execFrameEnergyAttribution at hexec
  dsimp only at hexec
  rw [← he, ← ha, ← ht, henergy] at hexec
  exact ⟨_, hexec, (honly.mono (by decide)).trans (only_iff_mask.2 (mask_energy t (by decide) _)), rfl, rfl, rfl, rfl, rfl⟩

/-- A frame adds its energy to the total, and charges the Pavilions of its parts alone. -/
theorem frameEnergyAttribution_total (s : State) (nj bal : Nat) (l : List EnergyPart) : ∃ s', exec (.frameEnergyAttribution nj l bal) s = .next s' ∧
    Only [.energy, .pavs] s s' ∧ s'.energy.total = (s.energy.total + (nj + s.energy.frac) / 1000) % 2 ^ 64 ∧
    s'.energy.frac = (nj + s.energy.frac) % 1000 ∧ ∀ p, (∀ x ∈ l, x.pav ≠ p) → s'.pav p = s.pav p := by
  obtain ⟨s', hexec, honly, htotal, hfrac, -, -, hpavs⟩ := exec_frameEnergyAttribution s nj bal l rfl rfl
  refine ⟨s', hexec, honly, htotal, hfrac, fun p hp => ?_⟩
  have hpav := (chargePart_foldl ((nj + s.energy.frac) / 1000) ((l.map (·.amount)).sum + bal) l s).2 p fun x hx h => hp x hx (Fin.ext h)
  rw [State.pav, hpavs]
  exact hpav

/-- One part is charged its estimate; where the estimates exceed the energy, its portion of the energy. -/
theorem frameEnergyAttribution_one (s : State) (nj bal e a : Nat) (x : EnergyPart) (he : e = (nj + s.energy.frac) / 1000) (ha : a = x.amount + bal) :
    ∃ s', exec (.frameEnergyAttribution nj [x] bal) s = .next s' ∧ Only [.energy, .pavs] s s' ∧ OtherPavs x.pav s s' ∧
      s'.energy.total = (s.energy.total + e) % 2 ^ 64 ∧ s'.energy.frac = (nj + s.energy.frac) % 1000 ∧
      (a ≤ e → Sparse.getD (s'.pav x.pav).energy x.queue 0 = (Sparse.getD (s.pav x.pav).energy x.queue 0 + x.amount) % 2 ^ 64 ∧
        s'.energy.ballast = (s.energy.ballast + bal) % 2 ^ 64 ∧ s'.energy.uncharged = (s.energy.uncharged + (e - a)) % 2 ^ 64) ∧
      (e < a → Sparse.getD (s'.pav x.pav).energy x.queue 0 = (Sparse.getD (s.pav x.pav).energy x.queue 0 + x.amount * e / a) % 2 ^ 64 ∧
        s'.energy.ballast = (s.energy.ballast + bal * e / a) % 2 ^ 64 ∧
        s'.energy.uncharged = (s.energy.uncharged + (e - (x.amount * e / a + bal * e / a))) % 2 ^ 64) := by
  obtain ⟨s', hexec, honly, htotal, hfrac, hballast, huncharged, hpavs⟩ :=
    exec_frameEnergyAttribution s nj bal [x] he (a := a) (by rw [ha]; rfl)
  have hpav : ∀ p, s'.pav p = (s.chargePart e a x).pav p := by
    intro p
    rw [State.pav, hpavs]
    rfl
  have hpart := s.chargePart_energy e a x
  rw [← hpav] at hpart
  have hone : (List.map (fun x : EnergyPart => charge e a x.amount) [x]).sum = charge e a x.amount := rfl
  rw [hone] at huncharged
  refine ⟨s', hexec, honly, fun p hp => (hpav p).trans (s.chargePart_otherPavs e a x p hp), htotal, hfrac, fun hle => ?_, fun hlt => ?_⟩
  · have hwhole : ∀ y ≤ a, charge e a y = y := by
      intro y hy
      rw [charge, if_pos hle]
      split <;> omega
    rw [hwhole _ (by omega)] at hpart hballast huncharged
    rw [hwhole _ (by omega)] at huncharged
    exact ⟨hpart, hballast, ha ▸ huncharged⟩
  · have hscaled : ∀ y, charge e a y = y * e / a := fun y => (if_neg (by omega)).trans (if_neg (by omega))
    rw [hscaled] at hpart hballast huncharged
    rw [hscaled] at huncharged
    exact ⟨hpart, hballast, huncharged⟩

/-! ### The statement (17 R460 to R474) -/

/-- A slot start while Machenil is down: the allotments and the cap stay as they were. -/
theorem pwrSlotSplit_down {s : State} (d : PowerDemand) {k : Nat} (hpower : s.boot.pwrgood = true) (hdown : s.fw.down = true)
    (hslot : s.power.splitSlot = some k) (hdue : k < absSlot s.time.now) : ∃ s', exec (.pwrSlotSplit d) s = .next s' ∧
    Only [.power, .log, .fns, .out] s s' ∧ s'.power.allot = s.power.allot ∧ s'.power.capEff = s.power.capEff := by
  have hexec := exec_pwrSlotSplit d hpower
  rw [hslot, State.toSlot_due hdue] at hexec
  exact ⟨_, hexec, (s.slotSplit_spec d).1, State.slotSplit_down d hdown⟩

/-- Settles O48, clause by clause: the split of a slot, the slot of Millpond, a read of MP_STATUS, a power step, the energy of a frame. -/
theorem powerSlots : Obligations.PowerSlots := by
  unfold Obligations.PowerSlots
  refine ⟨pwrSlotSplit_slot, fun s d k g0 g1 g2 hpower hup hslot hdue h0 h1 h2 h01 h02 h12 horder => ?_,
    fun s d k hpower hdown hslot hdue => pwrSlotSplit_down d hpower hdown hslot hdue, millpondSlot_slot,
    fun s bmax k q p cores amps e D hpower hslot hdue he hD => millpondSlot_due s bmax k q p cores amps e D hpower hslot hdue he hD,
    fun s who h => exec_mpStatusRead h, exec_millpondPowerStep, frameEnergyAttribution_total, frameEnergyAttribution_one⟩
  exact pwrSlotSplit_due hpower hup hslot hdue ⟨h0, h1, h2, h01, h02, h12⟩ horder

end Sys2Proof.Machine
end
